-- ==== Sys2Proof/Word.lean ====
section
/-! DEFINITION. Bytes, dwords and logical blocks. -/

namespace Sys2Proof

/-- One byte of a buffer, a page or a register. -/
abbrev Byte := BitVec 8

/-- One dword of the device window or of a command (R15, R16). -/
abbrev Word := BitVec 32

/-- The 4,096 data bytes of one logical block, byte 0 in bits [7:0] (R15, R107). -/
abbrev Block := BitVec 32768

/-- A block of zeros: what a block that was never written reads as (R159, R285). -/
def zeroBlock : Block := 0

end Sys2Proof
end

