-- ==== Sys2Proof/Machine/Types.lean ====
section
/-! DEFINITION. The operand types of the commands: what a host, a pin, a cartridge, a link partner or a timer supplies. -/

namespace Sys2Proof

/-- The access paths of the device window (R43). -/
inductive Path where
  | bar2
  | d0h
  | mi
  deriving DecidableEq, Repr

/-- Who issues an embedded-flash operation (R413). `core` names the bank of its last instruction fetch (R415): 0 to 2, or 3 for SRAM or the boot ROM. -/
inductive Issuer where
  | core (fetchBank : Nat)
  | cluster (k : Nat)
  | path (p : Path)
  deriving DecidableEq, Repr

/-- A command of a host: the controller ID, the submission queue and the command identifier. -/
structure CmdId where
  ctrl : Nat
  sq : Nat
  cid : Nat
  deriving DecidableEq, Repr

/-- A host command as it stands at intake (R286): the Dwords the tables of the spec lay out, the length of its data buffer, and the data the host sends with it. -/
structure Cmd where
  id : CmdId
  nsid : Nat := 0
  fuse : Nat := 0
  cdw2 : Word := 0
  cdw3 : Word := 0
  cdw10 : Word := 0
  cdw11 : Word := 0
  cdw12 : Word := 0
  cdw13 : Word := 0
  cdw14 : Word := 0
  cdw15 : Word := 0
  bufLen : Nat := 0
  buf : List Byte := []
  viaMI : Bool := false
  deriving DecidableEq, Repr

/-- One DIMM as its SPD describes it (R379): channel, device density (false 16 Gb, true 32 Gb), width (false x4, true x8), ranks (false one, true two), rated speed in MT/s. -/
structure Dimm where
  channel : Nat
  dense32 : Bool
  x8 : Bool
  twoRanks : Bool
  speed : Nat
  deriving DecidableEq, Repr

/-- What training found on one channel (R382, R383, R400). -/
structure ChannelResult where
  failStep : Nat
  rankFail : Nat
  rdEye : Nat
  wrEye : Nat
  wrVref : Nat
  rdVref : Nat
  deriving DecidableEq, Repr

/-- Where a cartridge's certificate chain ends (R51, R54): the Tazivis root, an issuer with the given hash of its SubjectPublicKeyInfo, or nowhere known. -/
inductive ChainEnd where
  | root
  | issuer (spkiHash : Nat)
  | unknown
  deriving DecidableEq, Repr

/-- What the exchange of R51 yields: where the chain ends, whether every certificate signature verifies, the subject serialNumber and the public key of certificate 0, and the 64 bytes of the CHALLENGE signature. -/
structure AuthResult where
  chainEnd : ChainEnd
  certsOk : Bool
  serial : Nat
  key : Nat
  sig : List Byte
  deriving DecidableEq, Repr

/-- The counts of LIFE_READ (R97). -/
structure Life where
  dense : Nat
  slc : Nat
  retired : Nat
  failedDies : Nat
  deriving DecidableEq, Repr

/-- What `LINK_MGMT` 01h carries, with the lanes that locked (R79, R92); the replay buffer size in bytes. -/
structure LinkParams where
  pver : Nat
  cmdDepth : Nat
  replayBuf : Nat := 262144
  lane0 : Bool
  lane1 : Bool
  deriving DecidableEq, Repr

/-- A `CMD` message to a sequencer (R82, R96). -/
structure CartCmd where
  tag : Nat
  die : Nat := 0
  plane : Nat := 0
  block : Nat := 0
  page : Nat := 0
  mode : Nat := 0
  cwMask : Nat := 0
  soft : Nat := 0
  readLevel : Nat := 0
  count : Nat := 0
  arg : Nat := 0
  deriving DecidableEq, Repr

/-- A codeword tag (R114). -/
structure Tag where
  seqLo : Nat
  lba : Nat
  kind : Nat
  nsx : Nat
  cfirst : Bool := false
  clast : Bool := false
  lost : Bool := false
  bandChk : Nat := 0
  deriving DecidableEq, Repr

/-- One codeword's information bytes: data field and tag (R107, R108). -/
structure Codeword where
  tag : Tag
  data : Block
  deriving DecidableEq, Repr

/-- What the slots hold when `PORST_N` is released (R203, R457): the level of each `CART_PRSNT_N`, and the cartridges, by slot and number, that lie elsewhere than at the loss of power. -/
structure ColdCarts where
  prsntN : BitVec 64
  moved : List (Nat × Nat)
  deriving DecidableEq, Repr

/-- An insertion (R69): the slot, and the number of a cartridge that was removed from a slot before. -/
structure Insertion where
  slot : Nat
  which : Option Nat
  deriving DecidableEq, Repr

/-- A superframe as it arrives (R80): its control block and its data blocks. -/
structure SfBytes where
  block : List Byte
  data : List Byte
  deriving DecidableEq, Repr

/-- The length of a data frame as its `DATA_HDR` gives it (R82, R84): in blocks, and in valid bytes. -/
structure FrameLen where
  blocks : Nat
  valid : Nat
  deriving DecidableEq, Repr

/-- How a die ends an ERASE (R101, R102): verified, with a failed verification, or not at all. -/
inductive DieEnd where
  | erased
  | failed
  | silent
  deriving DecidableEq, Repr

/-- What arrives for a codeword (R22, R111, R121): its count of raw zero bits, whether the decoder at the present step succeeds, how many bits it corrected, and the corrected codeword as it stands on the media, still scrambled (R108). -/
structure CwArrival where
  zeros : Nat
  decoded : Bool
  corrected : Nat
  word : BitVec 36864
  deriving DecidableEq, Repr

/-- A READ at its die (R86, R102): the command, and whether the die responds. -/
structure ReadRun where
  m : CartCmd
  dieAlive : Bool
  deriving DecidableEq, Repr

/-- A DRAM access as it reaches its channel (R385, R387, R389): physical address, whether it writes, requester ID, and the nanosecond of its arrival. -/
structure DramReq where
  addr : Nat
  write : Bool
  req : Nat
  ns : Nat
  deriving DecidableEq, Repr

/-- What the reads of a census give (R195, R196, R198): the slots whose root pages cannot be read, and the units of open bands, by band, wordline and member position, that fail steps L0 to L2, and those that fail the whole ladder. -/
structure CensusReads where
  roots : List Nat := []
  weak : List (Nat × Nat × Nat) := []
  dead : List (Nat × Nat × Nat) := []
  deriving DecidableEq, Repr

/-- A received Ethernet frame, as its headers classify it (R252 to R254, R257, R271). -/
structure Frame where
  len : Nat
  fcsOk : Bool
  addrEntry : Option Nat
  known : Bool
  pcp : Nat
  dscp : Nat
  protectedFrame : Bool
  eapol : Bool
  sa : Nat := 0
  pn : Nat := 0
  roceQp : Option Nat := none
  ce : Bool := false
  headerDigestBad : Bool := false
  conn : Option Nat := none
  deriving DecidableEq, Repr

/-- A Connect (R277, R301, R311): the connection it came on, host and subsystem NQN, the queue it creates, and the transport. -/
structure ConnectReq where
  conn : Nat
  port : Nat
  entry : Nat
  hostNqn : Nat
  subNqn : Nat
  qid : Nat
  depth : Nat
  cntlid : Nat
  rdma : Bool
  deriving DecidableEq, Repr

/-- A candidate of a scan lane after the verifier (R360, R368): the pattern, its priority, the byte offset of its last byte in the namespace, and its length when the verification program matched. -/
structure Candidate where
  pattern : Nat
  prio : Nat
  endOff : Nat
  len : Option Nat
  deriving DecidableEq, Repr

/-- How a flash word read ends (R408). -/
inductive EccOutcome where
  | clean
  | corrected
  | uncorrectable
  deriving DecidableEq, Repr

/-- How a burst of the DMA engine ends (R483, R486): done with the bytes read from its source, a bus error with its cause 1 to 4, or a flash program refused or failed. -/
inductive BurstEnd where
  | done (data : List Byte)
  | busError (cause : Nat) (addr : Nat)
  | flashError (addr : Nat)
  deriving DecidableEq, Repr

/-- A DMA descriptor as fetched (R481). -/
structure Descriptor where
  src : Nat
  dst : Nat
  len : Nat
  spaces : Nat
  flags : Nat
  burst : Nat
  reserved23 : Nat
  next : Nat
  deriving DecidableEq, Repr

/-- A DRAM region in which an uncorrectable error falls (R396). -/
inductive DramRegion where
  | readCache
  | loadBuffer (tenant : Nat)
  | other (code : Nat)
  deriving DecidableEq, Repr

/-- What patrol or an access finds in a DRAM burst (R394, R396). -/
inductive DramEcc where
  | clean
  | corrected (rank addr : Nat)
  | uncorrectable (rank addr : Nat) (region : DramRegion)
  deriving DecidableEq, Repr

/-- What a PMBus rail answers (R459). -/
inductive RailAnswer where
  | nack
  | status (word : Nat)
  deriving DecidableEq, Repr

end Sys2Proof
end

