-- ==== Sys2Proof/Syntax.lean ====
section
/-! DEFINITION. The commands of the block: one constructor per row of spec/opcode_table.json, in the table's order, with the operands that the row's rule gives it. -/

namespace Sys2Proof

/-- The commands of the UX6400 (spec/opcode_table.json; each docstring names the governing rule). -/
inductive Instr where
  /-- DW_REGISTER_WRITE (R42): A write to a device-window register that has no row of its own updates the addressed field, or is ignored in a reserved range, an absent unit or a block that does not respond in rescue mode. -/
  | dwRegisterWrite (p : Path) (off width : Nat) (v : Word)
  /-- DW_CLEARING_READ (R16): A device-window read that clears the RC fields of its dword and, for the low dword of a 64-bit register, loads that register's latch for its access path. -/
  | dwClearingRead (p : Path) (off width : Nat)
  /-- DEVICE_WINDOW_ACCESS (R44): Admin command D0h reads or writes NDW dwords of the device window, one dword access at a time in ascending order. -/
  | deviceWindowAccess (c : Cmd)
  /-- SHADOW_WRITE (R30): A write to an ST field changes only its shadow copy, and STAGE_STAT.DIRTY is re-evaluated. -/
  | shadowWrite (p : Path) (off : Nat) (v : Word)
  /-- COMMIT (R31): A write of 1 to CFG_COMMIT.COMMIT arms the shadow set and targets an epoch boundary for its check. -/
  | commit (p : Path)
  /-- DISCARD (R35): A write of 1 to CFG_COMMIT.DISCARD copies the values in force into the shadow, except the fields of a staged command still waiting for its check. -/
  | discard (p : Path)
  /-- CHECK_WINDOW_OPEN (R32): The check window opens in the last 1,024 CLK_DP cycles of an epoch and fixes the armed set as the shadow then stands. -/
  | checkWindowOpen
  /-- EPOCH_BOUNDARY (R33): At an epoch boundary the armed set is checked against the consistency rules and swapped into force when it passes. -/
  | epochBoundary
  /-- CLOCK_LOSS (R28): The system PLL loses lock in Active, every domain except AON is held in reset, and the controller restarts. -/
  | clockLoss
  /-- PORST_ASSERT (R498): An assertion of PORST_N for 10 µs or longer resets every domain and ends any operation as a power loss does. -/
  | porstAssert
  /-- COLD_START (R203): The release of PORST_N samples the straps and runs the boot ROM, slot selection and cartridge power-up. -/
  | coldStart (mode : BitVec 2) (carts : ColdCarts)
  /-- DRAM_TRAINING (R382): Once an image is accepted, every channel runs the SPD read, population check and training steps in parallel. -/
  | dramTraining (dimms : List Dimm) (res : List (Nat × ChannelResult))
  /-- FIRMWARE_START (R204): Firmware is copied to DRAM and started, and controllers become ready within 4 s of PORST_N. -/
  | firmwareStart
  /-- CENSUS (R195): Once firmware runs and every present slot is settled, the census rebuilds each pool's membership, register, journal and maps from media. -/
  | census (pool : Nat) (reads : CensusReads)
  /-- STARTED_POINT (R438): When 60 s have passed and every census has ended, firmware writes a boot record with FAILS = 0. -/
  | startedPoint
  /-- PERST (R499): PERST_N resets the PCIE domain, is a link loss in Active, and its rising edge is a wake in Dormant and Rest. -/
  | perst (level : Bool)
  /-- REFCLK_LOSS (R501): An interruption of REFCLK stops every clock and the calendar counter; the controller restarts when it returns. -/
  | refclkLoss
  /-- TEMP_SAMPLE (R507): Every 1 ms the sixteen temperature sensors are read and DEV_TEMP is updated. -/
  | tempSample (readings : List (BitVec 8))
  /-- TAP_INSTRUCTION (R513): An instruction is loaded into the TAP, which may take the pins while PORST_N is low and hold the start. -/
  | tapInstruction (code : BitVec 8)
  /-- PRESENCE_LOW (R69): CART_PRSNT_N goes low and the slot enters DEBOUNCE; a high level during debounce restarts it. -/
  | presenceLow (n : Nat)
  /-- CART_INSERTED (R69): After 100 ms of continuous low presence the slot is treated as inserted and CART_PWREN is queued to rise. -/
  | cartInserted (x : Insertion)
  /-- PWREN_RISE (R457): CART_PWREN of the next waiting slot rises under the STAG_N per STAG_MS staggering. -/
  | pwrenRise
  /-- CART_REMOVED (R72): CART_PRSNT_N high for 10 µs marks the slot removed; a member is declared failed and CART_PWREN is dropped. -/
  | cartRemoved (n : Nat)
  /-- CART_ALERT (R75): CART_ALERT_N falls and the controller issues GET_HEALTH within 1 ms. -/
  | cartAlert (n : Nat)
  /-- GET_HEALTH_TIMEOUT (R75): GET_HEALTH returns no data within 50 ms, and code 0x030B is written with unknown flags. -/
  | getHealthTimeout (n : Nat)
  /-- CART_POWER_TIMEOUT (R71): Training has not begun within 200 ms of CART_PWREN rising, and the slot is rejected with reason 0x07. -/
  | cartPowerTimeout (n : Nat)
  /-- TRAINING_TIMEOUT (R71): Training does not complete within 100 ms, and the slot is rejected with reason 0x08. -/
  | trainingTimeout (n : Nat)
  /-- FAR_END_SIGNAL (R92): Far-end signal is detected on the Horost link, and equalisation and training begin. -/
  | farEndSignal (n : Nat)
  /-- LINK_UP (R92): Training completes with the LINK_MGMT exchange, and the controller sends IDENTIFY or SYNC. -/
  | linkUp (n : Nat) (lp : LinkParams)
  /-- IDENTIFY_TIMEOUT (R47): No complete descriptor arrives within 10 ms, and the slot is rejected with reason 0x04. -/
  | identifyTimeout (n : Nat)
  /-- DESCRIPTOR_RECEIVED (R47): The descriptor is checked and the deny list applied, and the certificates are requested or class 3 admission proceeds. -/
  | descriptorReceived (n : Nat) (d : List Byte)
  /-- SIGNATURE_RECEIVED (R51): The CHALLENGE signature arrives and the chain, serial and signature are verified against the admission policy. -/
  | signatureReceived (n : Nat) (r : AuthResult) (life : Life)
  /-- AUTH_TIMEOUT (R52): A sequencer that does not answer an authentication step within 50 ms fails it, and the slot is rejected. -/
  | authTimeout (n : Nat)
  /-- SEQ_UPDATE_TIMEOUT (R61): A sequencer update that does not end within 60 s fails, and the slot stays QUARANTINED with reason 0x06. -/
  | seqUpdateTimeout (n : Nat)
  /-- PWR_OFF (R74): CART_CTRL.PWR_OFF abandons any phase in progress, sends SHUTDOWN if the link is up and powers the slot off. -/
  | pwrOff (p : Path) (n : Nat)
  /-- PWR_ON (R74): CART_CTRL.PWR_ON in OFF, REJECTED or FAILED starts insertion at the sequencer-start phase. -/
  | pwrOn (p : Path) (n : Nat)
  /-- LINK_RESET (R93): CART_CTRL.LINK_RESET resets the Horost link, clearing sequence numbers and replay buffers before IDENTIFY and SYNC. -/
  | linkReset (p : Path) (n : Nat)
  /-- RETRAIN (R92): CART_CTRL.RETRAIN starts a fast retrain that keeps sequence numbers, replay buffers and outstanding commands. -/
  | retrain (p : Path) (n : Nat)
  /-- FAST_RETRAIN (R93): More than 16 FEC-uncorrectable codewords in 1 ms, four replays of one superframe or a loss of block lock start a fast retrain. -/
  | fastRetrain (n : Nat) (cause : Nat)
  /-- RETRAIN_DONE (R93): A retrain ends; after a success each side sends NAK, and after a failure a full retrain or a link reset follows. -/
  | retrainDone (n : Nat) (ok full : Bool) (lp : LinkParams)
  /-- LANTERN_FRAME (R76): Every 5 ms in Active and Stowed, a 64-bit frame of lantern states is shifted out and latched. -/
  | lanternFrame
  /-- EVENT_EN_WRITE (R106): A write to EVENT_EN that enables an EVENT bit already set posts the Cartridge Health asynchronous event. -/
  | eventEnWrite (p : Path) (n : Nat) (v : Word)
  /-- LIFE_POLL (R65): At least every 60 s, LIFE_READ is read and LIFE_USED is computed for each admitted cartridge. -/
  | lifePoll (n : Nat) (life : Life)
  /-- MIGRATE_DONE (R173): When no data remains on a draining cartridge, the slot goes to READY_REMOVE or ADMITTED. -/
  | migrateDone (n : Nat)
  /-- CONTROL_BLOCK (R81): A control block arrives, and its CRC, version and reserved byte are checked before its messages are taken. -/
  | controlBlock (n : Nat) (toCtrl : Bool) (sf : SfBytes)
  /-- ACK (R91): An ACK message releases acknowledged superframes from the sender's replay buffer. -/
  | ack (n : Nat) (toCtrl : Bool) (sf : BitVec 12)
  /-- NAK (R91): A NAK message makes the sender replay from the named superframe. -/
  | nak (n : Nat) (toCtrl : Bool) (sf : BitVec 12)
  /-- ACK_TIMER (R91): Every 2 µs while accepted superframes are unacknowledged, the receiver sends ACK. -/
  | ackTimer (n : Nat) (toCtrl : Bool)
  /-- REPLAY_TIMEOUT (R91): No ACK within 20 µs of the oldest unacknowledged superframe makes the sender replay from it. -/
  | replayTimeout (n : Nat) (toCtrl : Bool)
  /-- LINK_MGMT (R82): A LINK_MGMT message carries training parameters or a retrain request. -/
  | linkMgmt (n : Nat) (toCtrl : Bool) (subtype pver : Nat)
  /-- DATA_FRAME (R84): A data frame is taken whole from its DATA_HDR to its DATA_END, and its CRC is checked. -/
  | dataFrame (n : Nat) (toCtrl : Bool) (tag idx : Nat) (len : FrameLen) (hdrSf crc : Nat) (payload : List Byte)
  /-- XFER_RDY (R88): A transfer-ready grant arrives, and the controller sends the granted codewords in ascending order. -/
  | xferRdy (n tag first count : Nat)
  /-- CODEWORD_ARRIVAL (R22): A raw codeword from a cartridge is classified, descrambled, decoded, tag-checked, decrypted and PI-checked in order. -/
  | codewordArrival (n tag k : Nat) (a : CwArrival)
  /-- SUCCESS (R129): A final STATUS 00h marks the program unit, erase or other cartridge command complete. -/
  | success (n tag : Nat)
  /-- DATA_RECEIVED (R89): STATUS 01h reports that all program data is in the sequencer's buffer, and the staging granules are released. -/
  | dataReceived (n tag : Nat)
  /-- PROGRAM_REPLACED (R129): STATUS 10h reports the unit verified at a replacement location, which is recorded in the band's relocation list. -/
  | programReplaced (n tag die block page : Nat)
  /-- PROGRAM_FAIL (R129): STATUS 11h makes the controller fetch the unit with BUFFER_READ, split the member and program the data at its new place. -/
  | programFail (n tag : Nat) (held : Bool)
  /-- NOT_ERASED (R129): STATUS 12h makes the controller split the member and program the data from staging. -/
  | notErased (n tag : Nat)
  /-- RETIRED_BLOCK (R129): STATUS 16h is handled as 12h, and the die-block is marked retired in the controller's tables. -/
  | retiredBlock (n tag : Nat)
  /-- ERASE_FAIL (R129): STATUS 13h reports the die-block retired, and another erased die-block is taken for the band. -/
  | eraseFail (n tag : Nat)
  /-- DIE_FAIL (R134): STATUS 14h marks the die failed, stops programs to it and splits or rebuilds its members. -/
  | dieFail (n tag : Nat)
  /-- CMD_REFUSED (R129): STATUS 03h or 04h refusing a PROGRAM or ERASE makes the controller re-place the data or set the die-block aside. -/
  | cmdRefused (n tag code : Nat)
  /-- FW_INVALID (R102): STATUS 30h reports that a downloaded sequencer image failed its check, and the update fails. -/
  | fwInvalid (n tag : Nat)
  /-- FW_NOT_LOADED (R102): STATUS 31h reports FW_ACTIVATE without a complete image, and the update fails. -/
  | fwNotLoaded (n tag : Nat)
  /-- SHUT_DOWN (R103): STATUS 3Fh reports a command that arrived after SHUTDOWN. -/
  | shutDown (n tag : Nat)
  /-- CART_IDENTIFY (R46): The sequencer returns its 512-byte descriptor. -/
  | cartIdentify (n : Nat) (m : CartCmd)
  /-- GET_CERT (R51): The sequencer returns certificate 0 or 1. -/
  | getCert (n : Nat) (m : CartCmd)
  /-- CHALLENGE (R51): The sequencer signs the nonce, unit ID and descriptor with its device key. -/
  | challenge (n : Nat) (m : CartCmd) (nonce unitId : Nat)
  /-- SYNC (R97): The sequencer lists each outstanding tag with its state. -/
  | sync (n : Nat) (m : CartCmd)
  /-- CART_READ (R86): The sequencer senses a page and returns the requested codewords and soft frames. -/
  | cartRead (n : Nat) (r : ReadRun)
  /-- CART_PROGRAM (R88): The sequencer checks a PROGRAM, reserves buffer space for the whole unit and grants its transfer. -/
  | cartProgram (n : Nat) (m : CartCmd) (blank : Bool)
  /-- DIE_PROGRAM_DONE (R101): A die finishes programming a unit, and the sequencer reports success, a replacement or a failure. -/
  | dieProgramDone (n tag : Nat) (verified dieAlive : Bool)
  /-- ERASE (R99): The sequencer erases a die-block in the given mode and counts the erase when it begins. -/
  | erase (n : Nat) (m : CartCmd)
  /-- BUFFER_READ (R101): The sequencer returns the data it holds for a failed program. -/
  | bufferRead (n : Nat) (m : CartCmd)
  /-- BUFFER_RELEASE (R101): The sequencer frees the data, tag and command slot of a failed program. -/
  | bufferRelease (n : Nat) (m : CartCmd)
  /-- WEAR_READ (R97): The sequencer returns the erase counts, state and last erase mode of every die-block of a die. -/
  | wearRead (n : Nat) (m : CartCmd)
  /-- LIFE_READ (R64): The sequencer returns its total erase counts, retired die-blocks, failed dies and lowest reserve. -/
  | lifeRead (n : Nat) (m : CartCmd)
  /-- RETIRE_BLOCK (R101): The sequencer marks a die-block retired. -/
  | retireBlock (n : Nat) (m : CartCmd)
  /-- FW_DOWNLOAD (R97): The sequencer receives a chunk of a sequencer firmware image. -/
  | fwDownload (n : Nat) (m : CartCmd) (data : List Byte)
  /-- FW_ACTIVATE (R103): The sequencer activates a complete image, sends SUCCESS, restarts and resets the link. -/
  | fwActivate (n : Nat) (m : CartCmd) (imageOk : Bool)
  /-- GET_HEALTH (R97): The sequencer returns its temperature, health flags and counters. -/
  | getHealth (n : Nat) (m : CartCmd)
  /-- CART_SHUTDOWN (R103): The sequencer finishes every accepted program, stores its wear counters and then refuses later commands. -/
  | cartShutdown (n : Nat) (m : CartCmd)
  /-- ECC_INJ (R137): A write to ECC_INJ in service mode arms the flipping of raw bits in the next codeword received. -/
  | eccInj (p : Path) (n : Nat) (v : Word)
  /-- PATROL (R126): Patrol reads each programmed wordline at least once every 7 days, at the lowest priority. -/
  | patrol (pool band row : Nat)
  /-- SLC_UNIT_TIMEOUT (R156): An SLC log program unit is programmed with filler 4 µs after its first block arrived. -/
  | slcUnitTimeout (pool : Nat)
  /-- JOURNAL_UNIT_TIMEOUT (R182): A journal unit is programmed with filler 4 µs after its first codeword arrived. -/
  | journalUnitTimeout (pool n : Nat)
  /-- FRONTIER_FILL (R158): With no write at the frontier for FRONTIER_IDLE, the open direct band is filled from B and the log and closed. -/
  | frontierFill (nsx seg : Nat)
  /-- FOLD (R165): The controller opens a new dense band and copies a segment row by row from its old bands and the log. -/
  | fold (nsx seg : Nat)
  /-- FOLD_SWITCH (R165): Once the fold's closing summary is durable, the map is switched and the copied log entries are removed. -/
  | foldSwitch (band : Nat)
  /-- LOG_GC (R167): A log band with few live pages is copied into the current log band and becomes shavings. -/
  | logGc (pool band : Nat)
  /-- RESERVE_ERASE (R169): A die whose erased reserve runs short has its oldest shaving, or a free die-block, erased. -/
  | reserveErase (n die mode : Nat)
  /-- WEAR_CHECK (R170): Once a day, closed bands with under-worn members that are 30 days unwritten are queued for refresh. -/
  | wearCheck (pool : Nat)
  /-- LIFE_FORECAST (R172): Once a day, each in-service cartridge's days until 900 per mille are forecast. -/
  | lifeForecast (pool : Nat)
  /-- READ (R287): A Read passes the intake stages, takes a shared range lock and is resolved through the log map and segment map. -/
  | read (c : Cmd)
  /-- WRITE (R156): A Write is checked, admitted and steered as a whole to the roughing or direct path. -/
  | write (c : Cmd)
  /-- STAGING_RESERVED (R24): Staging granules become available for a waiting command, and its data is requested or its read issued. -/
  | stagingReserved (id : CmdId)
  /-- WRITE_DATA_ARRIVAL (R283): Requested write data arrives, is PI-checked, encrypted and tagged, and its program units and interim parity are issued. -/
  | writeDataArrival (id : CmdId) (first : Nat) (data : List Block) (pi : List (BitVec 512)) (digestOk busOk : Bool)
  /-- RANGE_LOCK_GRANT (R293): A conflicting lock is released, and the next waiting lock is granted in stage-6 order. -/
  | rangeLockGrant (id : CmdId)
  /-- BARRIER_PASS (R295): An ORD barrier passes stage 5 once every earlier command of its SQ has completed, and later commands pass once it has completed. -/
  | barrierPass (id : CmdId)
  /-- WRITE_COMPLETE (R177): A write whose units and parity are verified, and whose lower-offset direct writes have completed, is published and completed. -/
  | writeComplete (id : CmdId)
  /-- T_SLOW_EXPIRY (R219): A READ or PROGRAM outstanding longer than T_SLOW slow-marks its member. -/
  | tSlowExpiry (n tag : Nat)
  /-- SLOW_PROBE (R220): Every 10 ms a slow-marked member is sent one probe READ. -/
  | slowProbe (n : Nat)
  /-- T_FAIL_EXPIRY (R222): A cartridge that has returned no final status for T_FAIL with commands outstanding is declared failed. -/
  | tFailExpiry (n : Nat)
  /-- SLOW_RATIO_CHECK (R222): Every 100 ms, a cartridge with more than SLOW_PCT % slow commands in the last second is declared failed. -/
  | slowRatioCheck (n : Nat)
  /-- REBUILD_ROW (R232): A row of a missing member is recovered from N survivors and written to the target. -/
  | rebuildRow (pool band row : Nat)
  /-- SPARE_RETRY (R231): Die-blocks are freed, and a band waiting for a rebuild target is tried again. -/
  | spareRetry (pool : Nat)
  /-- PORT_MODE (R250): A write of GRP_CTRL.MODE takes the group's ports down and retrains them in the new mode, or is refused. -/
  | portMode (p : Path) (g : Nat) (mode : BitVec 3)
  /-- FRAME_RECEIVE (R253): A received Ethernet frame is classified and placed in the receive reserve, or dropped. -/
  | frameReceive (port : Nat) (f : Frame)
  /-- PFC_FRAME (R255): A received PFC frame stops transmission on an enabled priority within 1 µs. -/
  | pfcFrame (port prio quanta : Nat)
  /-- PFC_PAUSE_REFRESH (R255): Every half quanta time, pause is sent again or ended according to the reserve level. -/
  | pfcPauseRefresh (port prio : Nat)
  /-- PFC_STORM (R256): A priority paused continuously for PFC_WD ms stops being honoured. -/
  | pfcStorm (port prio : Nat)
  /-- PFC_STORM_CLEAR (R256): After 100 ms without pause frames, pause is honoured again and STORM clears. -/
  | pfcStormClear (port prio : Nat)
  /-- DCQCN_RATE_INCREASE (R257): The rate-increase timer of a queue pair expires and DCQCN raises its rate. -/
  | dcqcnRateIncrease (qp : Nat)
  /-- PORT_LINK_UP (R276): A host port link comes up. -/
  | portLinkUp (port : Nat)
  /-- PORT_LINK_DOWN (R276): A host port link goes down. -/
  | portLinkDown (port cause : Nat)
  /-- ICREQ (R259): An NVMe/TCP ICReq is answered with ICResp, or refused by C2HTermReq and a close. -/
  | icreq (conn port entry pfv maxr2t hpda : Nat) (tls hdgst ddgst noSuccess : Bool)
  /-- TCP_TIMEOUT (R261): 8 s without acknowledgement of sent data ends the connection as a connection loss. -/
  | tcpTimeout (conn : Nat)
  /-- KEEP_ALIVE_TIMEOUT (R261): The association's Keep Alive Timer expires, which is a connection loss. -/
  | keepAliveTimeout (ctrl : Nat)
  /-- RDMA_RETRY_EXHAUSTED (R263): A queue pair that exhausts its retries enters the error state, which is a connection loss. -/
  | rdmaRetryExhausted (conn : Nat)
  /-- ADDRESS_ENTRY_WRITE (R274): An address entry takes effect when written valid, and clearing valid closes its connections. -/
  | addressEntryWrite (p : Path) (port e dword : Nat) (v : Word)
  /-- HOST_SAVE (R275): HOST_SAVE.SAVE stores the HOST configuration in the settings area and the MACsec keys in the keys area. -/
  | hostSave (p : Path)
  /-- MKA_LOAD (R272): MKA_CTRL.LOAD takes CAK and CKN and restarts MKA on the port. -/
  | mkaLoad (p : Path) (port : Nat)
  /-- SAK_DISTRIBUTION (R272): MKA distributes a new SAK, which is installed in the idle association of each channel. -/
  | sakDistribution (port : Nat)
  /-- PN_EXHAUSTED (R272): A packet number reaches its suite's limit, so a new SAK is requested or protected sending stops. -/
  | pnExhausted (port : Nat) (transmit atLimit : Bool) (channel : Nat)
  /-- MKA_PEER_TIMEOUT (R272): Under POLICY 2, 6 s without a live MKA peer clears MACSEC_UP. -/
  | mkaPeerTimeout (port : Nat)
  /-- PCIE_LINK (R268): The PCIe link goes down, and every PCIe controller is reset. -/
  | pcieLink
  /-- FLR (R266): A Function Level Reset resets the controller of its function. -/
  | flr (fn : Nat)
  /-- BUS_MASTER_CLEAR (R487): Clearing PF0 Bus Master Enable halts Manager DMA channels that use host memory. -/
  | busMasterClear
  /-- PASID_TLP (R267): A TLP with a PASID outside 1–16, or any PASID outside service mode, is an Unsupported Request and is counted. -/
  | pasidTlp (pasid : Nat)
  /-- DOORBELL_WRITE (R286): An SQ doorbell write makes the controller fetch the SQ entry within 200 ns unless QoS holds the queue. -/
  | doorbellWrite (ctrl sq tail : Nat)
  /-- CONTROLLER_RESET (R299): CC.EN written from 1 to 0 stops fetching, squashes unstarted commands and drains started ones. -/
  | controllerReset (ctrl : Nat)
  /-- CC_ENABLE (R299): CC.EN written to 1 enables the controller, or is ignored before CSTS.RDY has cleared. -/
  | ccEnable (ctrl : Nat)
  /-- SHUTDOWN_NOTIFICATION (R300): CC.SHN stops the controller and drains its commands, and CSTS.SHST becomes 10b. -/
  | shutdownNotification (ctrl : Nat) (shn : BitVec 2)
  /-- DRAIN_COMPLETE (R297): A drain ends, so CSTS.RDY clears, the association is deleted or held Connects are served. -/
  | drainComplete (ctrl : Nat)
  /-- FLUSH (R298): Flush completes at once with no media work, or acts as a barrier with ORD. -/
  | flush (c : Cmd)
  /-- COMPARE (R308): Compare reads the blocks under a shared lock and compares them with the host data. -/
  | compare (c : Cmd)
  /-- WRITE_ZEROES (R159): Write Zeroes releases whole segments or is steered as a write of zeros. -/
  | writeZeroes (c : Cmd)
  /-- DATASET_MANAGEMENT (R159): Deallocate ranges take their own locks and are released whole-segment or dropped from the log map. -/
  | datasetManagement (c : Cmd)
  /-- VERIFY (R278): Verify reads and checks the blocks under a shared lock without transferring data. -/
  | verify (c : Cmd)
  /-- IO_MANAGEMENT_RECEIVE (R160): Returns Reclaim Unit Handle Status. -/
  | ioManagementReceive (c : Cmd)
  /-- IO_MANAGEMENT_SEND (R161): Reclaim Unit Handle Update changes the handle's reference. -/
  | ioManagementSend (c : Cmd)
  /-- DELETE_IO_SUBMISSION_QUEUE (R302): Stops fetching, aborts unstarted commands, drains started ones and completes within 10 ms. -/
  | deleteIoSubmissionQueue (c : Cmd)
  /-- CREATE_IO_SUBMISSION_QUEUE (R277): Creates an I/O SQ within the tenant's queue-context share. -/
  | createIoSubmissionQueue (c : Cmd)
  /-- DELETE_IO_COMPLETION_QUEUE (R277): Deletes an I/O CQ that no SQ uses. -/
  | deleteIoCompletionQueue (c : Cmd)
  /-- CREATE_IO_COMPLETION_QUEUE (R277): Creates a physically contiguous I/O CQ. -/
  | createIoCompletionQueue (c : Cmd)
  /-- GET_LOG_PAGE (R280): Returns a standard log page, or refuses a page reserved to the Manager. -/
  | getLogPage (c : Cmd)
  /-- CARTRIDGE_HEALTH (R135): Get Log Page C0h returns the per-slot health entries and re-arms the cartridge event. -/
  | cartridgeHealth (c : Cmd)
  /-- LOST_LBA_LIST (R242): Get Log Page C1h returns the lost ranges and re-arms its event for the reader. -/
  | lostLbaList (c : Cmd)
  /-- REBUILD_PROGRESS (R247): Get Log Page C2h returns the rebuild state of each pool and slot. -/
  | rebuildProgress (c : Cmd)
  /-- GUESTBOOK_LOG (R472): Get Log Page C3h returns the guestbook header and records from OLDEST to NEWEST. -/
  | guestbookLog (c : Cmd)
  /-- THROTTLE_AND_DISTURBANCE (R399): Get Log Page C4h returns the DRAM throttle and disturbance counters. -/
  | throttleAndDisturbance (c : Cmd)
  /-- SEARCH_STATISTICS (R376): Get Log Page C5h returns the per-bank and per-lane search counters visible to the requester. -/
  | searchStatistics (c : Cmd)
  /-- START_UP_REPORT (R206): Get Log Page C6h returns the progress and findings of the current start. -/
  | startUpReport (c : Cmd)
  /-- IDENTIFY (R281): Identify returns controller or namespace data, including the DEV_CAP mirror. -/
  | identify (c : Cmd)
  /-- ABORT (R305): Abort completes within 10 µs as not aborted, and the named command runs on. -/
  | abort (c : Cmd)
  /-- SET_FEATURES (R277): Sets a standard feature. -/
  | setFeatures (c : Cmd)
  /-- GET_FEATURES (R280): Returns a feature value, under the same privilege as Set Features. -/
  | getFeatures (c : Cmd)
  /-- TENANT_QOS (R322): Set Features C0h stages and commits a tenant's rate limits. -/
  | tenantQos (c : Cmd)
  /-- ROOM_KEY (R449): Set Features C1h sets the Manager's key, IDLE, DEEPEST and SRCH_DROP. -/
  | roomKey (c : Cmd)
  /-- FIRMWARE_CONFIRM (R441): Set Features C2h ends the trial and writes a non-trial boot record. -/
  | firmwareConfirm (c : Cmd)
  /-- EPOCH_LENGTH (R39): Set Features C3h stages and commits EPOCH_LEN. -/
  | epochLength (c : Cmd)
  /-- REBUILD_SHARE (R234): Set Features C4h stages and commits REBUILD_SHARE. -/
  | rebuildShare (c : Cmd)
  /-- MEMBER_TIMERS (R226): Set Features C5h sets T_SLOW, T_FAIL and SLOW_PCT. -/
  | memberTimers (c : Cmd)
  /-- WRITE_PATH_POLICY (R155): Set Features C6h sets a namespace's write-path policy, DIRECT_MIN and FRONTIER_IDLE. -/
  | writePathPolicy (c : Cmd)
  /-- CARTRIDGE_ADMISSION_POLICY (R56): Set Features C7h checks an owner-signed admission policy, stores it and re-admits slots rejected for class or serial. -/
  | cartridgeAdmissionPolicy (c : Cmd) (sig : List Byte)
  /-- TIMESTAMP (R463): Set Features Timestamp from the Manager sets the calendar offset and writes code 0x0A04. -/
  | timestamp (c : Cmd)
  /-- POWER_MANAGEMENT (R448): Setting a controller's power state changes the key it holds. -/
  | powerManagement (c : Cmd)
  /-- ASYNCHRONOUS_EVENT_REQUEST (R277): Posts an event request slot, up to 16 outstanding. -/
  | asynchronousEventRequest (c : Cmd)
  /-- NAMESPACE_CREATE (R139): Namespace Management create reserves whole segments in a pool and records the namespace's width. -/
  | namespaceCreate (c : Cmd)
  /-- NAMESPACE_DELETE (R243): Namespace Management delete removes a namespace and its lost entries. -/
  | namespaceDelete (c : Cmd)
  /-- NAMESPACE_ATTACHMENT (R277): Attaches or detaches a namespace to controllers. -/
  | namespaceAttachment (c : Cmd)
  /-- KEEP_ALIVE (R277): Restarts the association's Keep Alive timer. -/
  | keepAlive (c : Cmd)
  /-- PROPERTY_SET (R299): Fabrics Property Set writes a controller property. -/
  | propertySet (c : Cmd)
  /-- PROPERTY_GET (R277): Fabrics Property Get reads a controller property. -/
  | propertyGet (c : Cmd)
  /-- CONNECT (R301): Fabrics Connect creates a controller or queue, is held while a previous association drains, or gets no response from unlisted hosts. -/
  | connect (c : Cmd) (r : ConnectReq)
  /-- AUTHENTICATION_SEND (R270): Carries a DH-HMAC-CHAP message from the host. -/
  | authenticationSend (c : Cmd)
  /-- AUTHENTICATION_RECEIVE (R270): Returns a DH-HMAC-CHAP message and ends the association on failure. -/
  | authenticationReceive (c : Cmd) (ok : Bool)
  /-- DISCONNECT (R302): Disconnect on an admin queue resets the controller, and on an I/O queue aborts that queue's commands. -/
  | disconnect (c : Cmd)
  /-- FORMAT_NVM (R334): Format NVM holds new I/O, then crypto-erases or releases the namespace. -/
  | formatNvm (c : Cmd)
  /-- CRYPTO_ERASE (R334): Sanitize Crypto Erase crypto-erases every namespace while holding all I/O. -/
  | cryptoErase (c : Cmd)
  /-- BLOCK_ERASE (R334): Sanitize Block Erase crypto-erases and also erases every die-block that held band data. -/
  | blockErase (c : Cmd)
  /-- OVERWRITE (R334): Sanitize Overwrite is refused with Invalid Field in Command. -/
  | overwrite (c : Cmd)
  /-- TENANT_CREATE (R319): Tenant Create checks the parameter block and installs the tenant at the next epoch boundary. -/
  | tenantCreate (c : Cmd)
  /-- TENANT_DELETE (R329): Tenant Delete drains the tenant, optionally destroys its namespaces and frees its slot at a boundary. -/
  | tenantDelete (c : Cmd)
  /-- TENANT_RESET (R328): Tenant Reset squashes and drains every command of the tenant's controllers. -/
  | tenantReset (c : Cmd)
  /-- RESOURCES (R321): Tenant Modify RESOURCES stages and commits a tenant's allocations, limits and masks. -/
  | resources (c : Cmd)
  /-- HOSTS (R323): Tenant Modify HOSTS replaces a host list with its secrets. -/
  | hosts (c : Cmd)
  /-- BIND_VF (R321): Tenant Modify BIND_VF binds or unbinds a virtual function. -/
  | bindVf (c : Cmd)
  /-- NS_ASSIGN (R321): Tenant Modify NS_ASSIGN gives a tenant-0 namespace to a tenant. -/
  | nsAssign (c : Cmd)
  /-- NS_RELEASE (R334): Tenant Modify NS_RELEASE returns a namespace to tenant 0 once its commands complete. -/
  | nsRelease (c : Cmd)
  /-- GLOBAL (R321): Tenant Modify GLOBAL sets PF0_MGR at once and stores T_MAX and F for the next start. -/
  | global (c : Cmd)
  /-- SLICE_RESET (R338): SLICE_CTRL.RESET resets the named slice controllers. -/
  | sliceReset (p : Path) (v : Word)
  /-- WIPE (R338): SLICE_CTRL.WIPE resets every slice and crypto-erases and re-creates the slice namespaces. -/
  | wipe (p : Path)
  /-- DRAIN (R245): Cartridge Service DRAIN starts migrating an in-service cartridge toward READY_REMOVE. -/
  | drain (c : Cmd)
  /-- UNDRAIN (R245): Cartridge Service UNDRAIN returns a draining cartridge to IN_SERVICE. -/
  | undrain (c : Cmd)
  /-- SEQ_UPDATE (R245): Cartridge Service SEQ_UPDATE runs a sequencer update whatever AUTO_SEQ_UPDATE says. -/
  | seqUpdate (c : Cmd)
  /-- POWER_OFF (R245): Cartridge Service POWER_OFF acts as CART_CTRL.PWR_OFF. -/
  | powerOff (c : Cmd)
  /-- POWER_ON (R245): Cartridge Service POWER_ON acts as CART_CTRL.PWR_ON. -/
  | powerOn (c : Cmd)
  /-- RELEASE (R245): Cartridge Service RELEASE drops the claim of an unassembled pool on a cartridge. -/
  | release (c : Cmd)
  /-- POOL_CREATE (R142): Media Pool Configure CREATE builds a pool from admitted cartridges and commits its band width. -/
  | poolCreate (c : Cmd)
  /-- POOL_ADD (R143): Media Pool Configure ADD puts admitted cartridges in service in a pool. -/
  | poolAdd (c : Cmd)
  /-- POOL_REMOVE (R143): Media Pool Configure REMOVE sets cartridges DRAINING and starts migration. -/
  | poolRemove (c : Cmd)
  /-- POOL_SET (R143): Media Pool Configure SET changes N, LOG_PM, SPARE_CARTS and FLAGS. -/
  | poolSet (c : Cmd)
  /-- POOL_DELETE (R143): Media Pool Configure DELETE returns a pool's cartridges to ADMITTED. -/
  | poolDelete (c : Cmd)
  /-- POOL_REPORT (R175): Media Pool Configure REPORT returns the 1,024-byte pool report. -/
  | poolReport (c : Cmd)
  /-- KEY_LOOKUP_SHORT (R351): A short Key Lookup searches the named banks and returns the verified winning entry. -/
  | keyLookupShort (c : Cmd)
  /-- KEY_LOOKUP_LONG (R351): A long Key Lookup also returns the count of matches and a cursor. -/
  | keyLookupLong (c : Cmd)
  /-- KEY_LOOKUP_BATCH (R352): A batch Key Lookup searches up to 64 keys and keeps their responses under a batch cursor. -/
  | keyLookupBatch (c : Cmd)
  /-- CURSOR_FREED (R352): A cursor frees, and a batch lookup waiting for one proceeds. -/
  | cursorFreed (tenant : Nat)
  /-- KEY_NEXT (R354): Key Next returns the next match of a long cursor or all responses of a batch cursor. -/
  | keyNext (c : Cmd)
  /-- CURSOR_EXPIRY (R353): A cursor ends 10 ms after the command that created it completed. -/
  | cursorExpiry (token : Nat)
  /-- KEY_INSERT (R348): Key Insert writes an entry and its verification copy in one CLK_SRCH cycle. -/
  | keyInsert (c : Cmd)
  /-- KEY_DELETE (R348): Key Delete invalidates an entry and its copy and ends affected cursors. -/
  | keyDelete (c : Cmd)
  /-- TCAM_SCRUB (R357): Every SCRUB_MS each TCAM row is compared with its copy and rewritten when it differs. -/
  | tcamScrub (bank : Nat)
  /-- TCAM_INJ (R377): A write to TCAM_INJ in service mode flips one key bit of a TCAM row. -/
  | tcamInj (p : Path) (v : Word)
  /-- PATTERN_IMAGE_LOAD (R362): A piece of an automata image is stored in the tenant's load buffer. -/
  | patternImageLoad (c : Cmd)
  /-- PATTERN_IMAGE_LOAD_FINAL (R363): A Pattern Image Load with FINAL checks the image and loads its sections into the named banks. -/
  | patternImageLoadFinal (c : Cmd) (structOk : Bool)
  /-- PATTERN_IMAGE_UNLOAD (R364): Clears the named automata banks. -/
  | patternImageUnload (c : Cmd)
  /-- SCAN_START (R365): Scan Start checks ownership, image and limits and starts a background scan. -/
  | scanStart (c : Cmd)
  /-- SCAN_CHUNK (R366): A lane becomes free and scans the next chunk with its lookback under a shared range lock. -/
  | scanChunk (lane : Nat) (cands : List Candidate) (unreadable guardBad : List Nat) (ecc : List (Nat × Bool))
  /-- SCAN_RELEASE (R370): At a release point a lane moves its records into the result buffer, waiting while it is full. -/
  | scanRelease (lane : Nat)
  /-- SCAN_FETCH (R373): Scan Fetch returns and frees the oldest records of a scan. -/
  | scanFetch (c : Cmd)
  /-- SCAN_FETCH_WAIT_EXPIRY (R373): A Scan Fetch with WAIT completes after 100 ms without records. -/
  | scanFetchWaitExpiry (id : CmdId)
  /-- SCAN_CANCEL (R374): Scan Cancel stops the scan, discards its records and frees it. -/
  | scanCancel (c : Cmd)
  /-- SCAN_EXPIRY (R373): A scan that ended is freed after 60 s without a Fetch. -/
  | scanExpiry (scan : Nat)
  /-- DRAM_RETRAIN (R383): DDR_CTRL.RETRAIN runs DRAM training again while DDR_STAT.FAIL is set. -/
  | dramRetrain (p : Path) (dimms : List Dimm) (res : List (Nat × ChannelResult))
  /-- DDR_SAVE (R385): DDR_CTRL.SAVE stores MAP_ORDER_NEXT for the next start. -/
  | ddrSave (p : Path)
  /-- DRAM_RECALIBRATION (R384): Every 128 ms each channel runs ZQ calibration and the DQS oscillator check. -/
  | dramRecalibration (ch drift : Nat)
  /-- DRAM_REFRESH (R388): A refresh interval falls due and is issued or postponed, at double rate above 85 °C. -/
  | dramRefresh (ch rank bank : Nat) (postpone : Bool) (dimm : Nat) (celsius : Int)
  /-- DRAM_ACTIVATION (R390): A row activation is counted in the bank's tracker and may issue refresh management or a throttle. -/
  | dramActivation (ch sub now : Nat) (reads writes : List DramReq) (ecc : DramEcc)
  /-- DISTURBANCE_WINDOW (R392): At each 32 ms boundary the activation counts clear and throttles step down. -/
  | disturbanceWindow
  /-- DRAM_PATROL_SCRUB (R395): Patrol scrub reads every address once per SCRUB_H hours and writes back corrections. -/
  | dramPatrolScrub (ch : Nat) (ecc : DramEcc)
  /-- FL_KEY (R410): A write to FL_KEY advances the unlock sequence and takes ownership, or sets ERR_BUSY, ERR_OWNER or ERR_SEQ. -/
  | flKey (i : Issuer) (v : Word)
  /-- FL_CMD (R412): A write to FL_CMD selects the opcode of an open sequence, or relocks on an undefined opcode. -/
  | flCmd (i : Issuer) (v : Word)
  /-- FL_SEQUENCE_STEP (R410): An FL_ADDR or FL_DATA write that does not start an operation advances the sequence. -/
  | flSequenceStep (i : Issuer) (off : Nat) (v : Word)
  /-- FL_SEQUENCE_LATE (R412): A sequence step that is not written within its cycle window relocks the flash and sets ERR_SEQ. -/
  | flSequenceLate
  /-- PROGRAM (R414): The FL_DATA7 write checks and starts a program of one 32-byte flash word. -/
  | program (i : Issuer) (v : Word)
  /-- ERASE_SECTOR (R417): The FL_ADDR write checks and starts the erase of a sector, setting its erase flag. -/
  | eraseSector (i : Issuer) (v : Word)
  /-- ERASE_BANK (R417): The FL_ADDR write checks and starts the erase of bank A or B. -/
  | eraseBank (i : Issuer) (v : Word)
  /-- READ_MARKERS (R411): Loads the written and torn marker bits of 32 words. -/
  | readMarkers (i : Issuer) (v : Word)
  /-- CLEAR_ERASE_FLAG (R418): Blank-checks a sector and clears its erase flag. -/
  | clearEraseFlag (i : Issuer) (v : Word)
  /-- FLASH_OP_DONE (R416): A flash operation ends, BUSY clears and DONE, or ERR_VERIFY, is set. -/
  | flashOpDone (verified : Bool)
  /-- FLASH_READ (R421): A write to FL_RD_ADDR reads one flash word into FL_RD_DATA. -/
  | flashRead (p : Path) (v : Word) (ecc : EccOutcome)
  /-- FIRMWARE_IMAGE_DOWNLOAD (R429): Programs checked Krauf blocks into the inactive slot, erasing the bank for a piece at offset 0. -/
  | firmwareImageDownload (c : Cmd)
  /-- REPLACE (R431): Firmware Commit CA 000b checks the inactive slot. -/
  | replace (c : Cmd)
  /-- REPLACE_ACTIVATE_NEXT (R431): Firmware Commit CA 001b checks the slot and sets it pending for the next start. -/
  | replaceActivateNext (c : Cmd)
  /-- ACTIVATE_NEXT (R431): Firmware Commit CA 010b sets or clears the pending slot. -/
  | activateNext (c : Cmd)
  /-- REPLACE_ACTIVATE_NOW (R434): Firmware Commit CA 011b checks the image and stages an activation without reset. -/
  | replaceActivateNow (c : Cmd)
  /-- ACTIVATION_PAUSE (R434): When staging ends, the boot record is written and the pause holds new commands while firmware hands over. -/
  | activationPause
  /-- PAUSE_END (R304): The activation pause ends, held commands and deferred resets proceed, and the commit completes. -/
  | pauseEnd
  /-- ROLLING_SEQ_UPDATE (R63): An in-service cartridge with an unlisted sequencer version is updated while no band of its pool is degraded. -/
  | rollingSeqUpdate (n : Nat)
  /-- ENTRY_REQUEST (R451): No key on CORE for IDLE makes an entry request, and point E0 stops intake. -/
  | entryRequest
  /-- ENTRY_E1 (R452): Once every command and DMA transfer has ended, cartridge commands are finished and SHUTDOWN is sent. -/
  | entryE1
  /-- ENTRY_E2 (R452): Once every cartridge is quiet, staging and tables are spilled and DRAM enters self-refresh or stops. -/
  | entryE2
  /-- ENTRY_E3 (R452): The last entry point drops CART_PWREN, switches domains off and stops the PLLs. -/
  | entryE3
  /-- WAKE_PIN (R455): An enabled WAKE pin edge or level latches a wake. -/
  | wakePin (pin : Nat) (level : Bool)
  /-- LINK_WAKE (R455): A frame for a held group, or newly detected far-end signal, latches a wake. -/
  | linkWake (g : Nat)
  /-- PCIE_WAKE (R455): A TLP in Stowed, or PERST_N rising in Dormant or Rest, latches a wake. -/
  | pcieWake
  /-- WAKE_TIMER (R455): WAKE_TIMER seconds after entry, a timer wake is latched. -/
  | wakeTimer
  /-- CARTRIDGE_WAKE (R455): A presence change held for 10 µs latches a wake. -/
  | cartridgeWake (n : Nat) (level : Bool)
  /-- KEY_WAKE (R455): A client taking a key on CORE, or on CTL in Dormant, latches a wake. -/
  | keyWake (cls dom : Nat)
  /-- PWR_EXIT (R454): Exit relocks the PLL, resumes CTL and DRAM, restores the spill and brings cartridges back, reaching Active. -/
  | pwrExit
  /-- PWR_KEY_MGR (R460): A write to PWR_KEY.MGR takes or returns the Manager's key on a domain. -/
  | pwrKeyMgr (p : Path) (d : Nat) (v : Word)
  /-- PWR_SAVE (R460): PWR_CFG.SAVE stores the wake, stagger and PMBus configuration. -/
  | pwrSave (p : Path) (v : Word)
  /-- CART_STAGGER (R457): A CART_STAGGER write takes effect unless the stagger would exceed 1,000 ms. -/
  | cartStagger (p : Path) (v : Word)
  /-- PMBUS_ALERT (R459): PMB_ALERT_N falls, and every enabled rail's STATUS_WORD is read and faults cleared. -/
  | pmbusAlert (answers : List (Nat × RailAnswer))
  /-- GUESTBOOK_READ (R471): Guestbook Read returns durable records in a code range from a record number. -/
  | guestbookRead (c : Cmd)
  /-- NONCE (R473): Guestbook Clear NONCE issues a fresh nonce with the unit ID and ring bounds. -/
  | nonce (c : Cmd)
  /-- CLEAR (R474): Guestbook Clear CLEAR checks the owner signature and clears the oldest records. -/
  | clear (c : Cmd) (sigOk : Bool)
  /-- OWNER_SET (R476): Guestbook Clear OWNER_SET installs a new owner key. -/
  | ownerSet (c : Cmd) (sigOk onCurve : Bool)
  /-- NONCE_EXPIRY (R474): A nonce becomes invalid 60 s after it was issued. -/
  | nonceExpiry
  /-- GUESTBOOK_RECORD_WRITE (R464): A queued record is written to the ring when budget allows, erasing the next sector when needed. -/
  | guestbookRecordWrite
  /-- COALESCE_WINDOW (R465): A 1 s coalescing window ends and writes a COALESCED record, or stops tracking its key. -/
  | coalesceWindow (code key : Nat)
  /-- DMA_START (R488): CH_CTRL.START on an idle channel fetches its first descriptor. -/
  | dmaStart (p : Path) (ch : Nat)
  /-- DMA_ABORT (R488): CH_CTRL.ABORT makes the channel idle after its current burst. -/
  | dmaAbort (p : Path) (ch : Nat)
  /-- DMA_RESUME (R488): CH_CTRL.RESUME restarts a halted descriptor at its failed burst. -/
  | dmaResume (p : Path) (ch : Nat)
  /-- DESCRIPTOR_FETCH (R482): A descriptor is fetched and checked, or the channel halts with cause 6. -/
  | descriptorFetch (ch : Nat) (d : Descriptor)
  /-- DMA_BURST (R483): An arbitrated burst reads its source and writes its destination, setting HALF and FULL as due. -/
  | dmaBurst (fin : BurstEnd)
  /-- DMA_RETRY (R486): 10 µs after a bus error the burst is retried, or the channel halts when retries are exhausted. -/
  | dmaRetry (ch : Nat) (fin : BurstEnd)
  /-- PATTERN_MODE (R508): A write to LT_LCTRL puts a SerDes lane in or out of pattern mode, or is refused. -/
  | patternMode (p : Path) (lane : Nat) (v : Word)
  /-- INJ (R509): A write to LT_INJ flips one bit of the generated stream. -/
  | inj (p : Path) (lane : Nat) (v : Word)
  /-- DDR_LOOP (R510): A write to LT_DDR_CTRL loops a DDR channel's PHY and counts PRBS31 errors, or is refused. -/
  | ddrLoop (p : Path) (v : Word)
  /-- READ_NVME_MI_DATA_STRUCTURE (R273): The management endpoint returns an NVMe-MI data structure. -/
  | readNvmeMiDataStructure (port : Nat) (dtype ident : Nat)
  /-- NVM_SUBSYSTEM_HEALTH_STATUS_POLL (R273): The management endpoint returns subsystem health. -/
  | nvmSubsystemHealthStatusPoll (port : Nat) (clearStatus : Bool)
  /-- CONTROLLER_HEALTH_STATUS_POLL (R273): The management endpoint returns controller health. -/
  | controllerHealthStatusPoll (port start : Nat)
  /-- CONFIGURATION_GET (R273): Returns the SMBus frequency or MCTP transmission unit. -/
  | configurationGet (port id : Nat)
  /-- CONFIGURATION_SET (R273): Sets the SMBus frequency or MCTP transmission unit. -/
  | configurationSet (port id value : Nat)
  /-- NVME_ADMIN_COMMAND_TUNNEL (R273): Runs a tunnelled admin command as a command of the named controller. -/
  | nvmeAdminCommandTunnel (port opcode : Nat) (c : Cmd)
  /-- BASIC_MANAGEMENT_COMMAND (R273): The Basic Management Command is answered on SMBus at address 0x6A. -/
  | basicManagementCommand (code : Nat)
  /-- DIE_ERASE_DONE (R101): A die finishes an ERASE, and the sequencer reports 00h, or 13h with the die-block retired when erase-verify fails. -/
  | dieEraseDone (n tag : Nat) (res : DieEnd)
  /-- POWER_LOSS (R497): The supplies collapse without warning and the controller runs until its logic stops, leaving media as R178 and R194 describe. -/
  | powerLoss (torn : List (Nat × Nat × Nat))
  /-- REFCLK_RETURN (R501): REFCLK returns after an interruption, the calendar counter resumes and the controller restarts as R28 lays down. -/
  | refclkReturn
  /-- CHECKER_LOCKED (R509): A lane's pattern checker sees 1,024 consecutive correct bits, sets LOCKED and starts counting LT_BITS and LT_ERR. -/
  | checkerLocked (lane : Nat)
  /-- CHECKER_LOST_LOCK (R509): 256 of any 1,024 received bits are wrong, so the checker sets LOST, stops counting and seeds again. -/
  | checkerLostLock (lane : Nat)
  /-- PCIE_LINK_UP (R265): The PCIe link completes training and the data link comes up, so the class 3 key on PCIE is taken and code 0x0606 is written with speed and width. -/
  | pcieLinkUp (speed width : Nat) (flit sris : Bool)
  /-- CONNECTION_LOSS (R301): A host closes or resets a TCP connection, or disconnects an RDMA queue pair, and the association is lost. -/
  | connectionLoss (conn : Nat)
  /-- PFC_PAUSE_EXPIRY (R255): The pause quanta last received for a priority run out, so sending on that priority resumes and its PAUSED bit clears. -/
  | pfcPauseExpiry (port prio : Nat)
  /-- TEST_LOGIC_RESET (R513): TRST_N low or TMS puts the TAP in Test-Logic-Reset, which releases the pins and lets a held start run. -/
  | testLogicReset
  deriving DecidableEq, Repr

end Sys2Proof
end

