-- ==== Sys2Proof/Config.lean ====
section
/-! DEFINITION. What the unit fixes and what the spec leaves open: opaque constants, which nothing in Lean can evaluate. -/

namespace Sys2Proof.Config

/-- The free values (assumption log 2): the value the machine takes at the `i`-th point where the spec fixes none, below `bound` where the spec gives a bound. -/
opaque freeNat (i : Nat) : Nat

/-- A free block of data (assumption log 2): what torn, damaged or undefined media and buffers hold. -/
opaque freeBlock (i : Nat) : Block

/-- The fused 16-byte unit ID (R12), as a little-endian number. -/
opaque unitId : BitVec 128

/-- The base of the unit's 64 consecutive MAC addresses (R252). -/
opaque macBase : BitVec 48

/-- The fused `VDD_CORE` value in mV (R458), which the spec bounds by 728 and 772; read through `vcoreMv`. -/
opaque vcoreFused : Nat

/-- The fused value of R458, held within the spec's bounds. -/
def vcoreMv : Nat := 728 + vcoreFused % 45

/-- AES-XTS-256 (R120, R332): for a namespace key and a tweak, a permutation of the 4,096-byte data units; given by IEEE 1619. -/
opaque xts (key tweak : Nat) : Equiv.Perm Block

/-- AES-XTS-256 over one 64-byte metadata slot (R333): for a namespace key and a tweak, a permutation; given by IEEE 1619. -/
opaque xtsSlot (key tweak : Nat) : Equiv.Perm (BitVec 512)

/-- The namespace key that HKDF gives for a salt, namespace index and key generation (R332). -/
opaque nsKey (salt nsx keyGen : Nat) : Nat

/-- The 496 bytes of LDPC parity of a codeword's information bits (R108): quasi-cyclic, its matrix not given. -/
opaque ldpcParity (info : BitVec 32896) : BitVec 3968

/-- SHA-384 of a byte string (R424, R473), named by the spec and given by FIPS 180. -/
opaque sha384 (b : List Byte) : Nat

/-- Whether an ECDSA P-384 signature verifies over a digest under image key `KEY_ID` of the factory identity sector (R424, R428). -/
opaque imageSigOk (keyId : Nat) (digest : Nat) (sig : List Byte) : Bool

/-- What a cartridge is (R46): for cartridge `cart` after `gen` activations of its firmware, the fields of its descriptor that a layout leaves open. -/
opaque cartField (cart gen i : Nat) : Nat

/-- Certificate `k` of a cartridge (R50), and its length. -/
opaque cartCert (cart k : Nat) : Nat
opaque cartCertLen (cart k : Nat) : Nat

/-- The signature that a cartridge gives over a message (R51): its key, and the random number ECDSA uses, are not in the spec. -/
opaque cartSign (cart : Nat) (msg : List Byte) (r : Nat) : Nat

/-- Whether an ECDSA P-256 signature verifies over SHA-256 of a message under a public key (R51). -/
opaque cartSigOk (key : Nat) (msg : List Byte) (sig : List Byte) : Bool

/-- Power-on hours of a cartridge (R97), at the `i`-th time they are read. -/
opaque cartHours (cart i : Nat) : Nat

/-- Whether an ECDSA P-384 signature verifies over a SHA-384 digest under the owner key (R55, R471). -/
opaque ownerSigOk (key digest : Nat) (sig : List Byte) : Bool

/-- Frame `j` of a bundled sequencer image from a byte offset on (R61, R427). -/
opaque seqImage (model off j : Nat) : BitVec 36864

/-- The first bytes of the hash of a host NQN, as code 0x0A20 carries them (R276: the hash is not named). -/
opaque nqnHash (nqn : Nat) : Nat

/-- The DIMM's rolling accumulated activation threshold, as its mode registers give it (R391). -/
opaque raaThreshold (ch rank : Nat) : Nat

/-- The Tazivis manufacturer code of the IDCODE, given in the BSDL file (R512). -/
opaque jtagManufacturer : BitVec 11

end Sys2Proof.Config
end

