-- ==== Sys2Proof/Machine/Bits.lean ====
section
/-! DEFINITION. Bit fields, little-endian byte order and saturating counters. -/

namespace Sys2Proof

/-- Bits `[hi:lo]` of a number, as a number. -/
def field (v hi lo : Nat) : Nat := v / 2 ^ lo % 2 ^ (hi + 1 - lo)

/-- Bit `i` of a number. -/
def bitOf (v i : Nat) : Bool := v.testBit i

/-- A number placed at bit `lo`. -/
def at' (v lo : Nat) : Nat := v * 2 ^ lo

/-- A truth value as a bit at place `lo`. -/
def flag (b : Bool) (lo : Nat) : Nat := if b then 2 ^ lo else 0

/-- The number with bit `i` set. -/
def setBit (v i : Nat) : Nat := v ||| 2 ^ i

/-- The number with bit `i` clear. -/
def clearBit (v i : Nat) : Nat := v ^^^ (v &&& 2 ^ i)

/-- Saturating addition below `2 ^ w` (counters of R105, R137, R274, R400, R421, R477). -/
def satAdd (w a b : Nat) : Nat := min (a + b) (2 ^ w - 1)

/-- The number at byte offset `off` of a buffer, `n` bytes, little-endian (R15); bytes past its end count as zero. -/
def leAt (b : List Byte) (off : Nat) : Nat → Nat
  | 0 => 0
  | n + 1 => ((b[off]?).getD 0).toNat + 256 * leAt b (off + 1) n

/-- A number as `n` little-endian bytes (R15). -/
def toLe : Nat → Nat → List Byte
  | 0, _ => []
  | n + 1, v => BitVec.ofNat 8 v :: toLe n (v / 256)

/-- Whether bytes `[lo, hi]` of a buffer are all zero (reserved fields, R20). -/
def zeroBytes (b : List Byte) (lo hi : Nat) : Bool :=
  ((b.drop lo).take (hi + 1 - lo)).all (· == 0)

/-- Lay fields, given as (byte offset, width in bytes, value), into a page of zeros. -/
def pageOf (len : Nat) (fs : List (Nat × Nat × Nat)) : List Byte :=
  let v := fs.foldl (fun acc f => acc + (f.2.2 % 256 ^ f.2.1) * 256 ^ f.1) 0
  toLe len v

/-- The count of set bits below `n`. -/
def popcount (v : Nat) : Nat → Nat
  | 0 => 0
  | n + 1 => popcount v n + (if v.testBit n then 1 else 0)

/-- The places below `n` whose bit is set, in ascending order. -/
def bitsOf (v n : Nat) : List Nat := (List.range n).filter (fun i => v.testBit i)

/-- The ceiling of a quotient. -/
def ceilDiv (a b : Nat) : Nat := (a + b - 1) / b

end Sys2Proof
end

