-- ==== Sys2Proof/Machine/RegMap.lean ====
section
/-! DEFINITION. Sparse addressed state in one canonical form, and the offsets and reset values of the device window's registers. -/

namespace Sys2Proof.Machine

/-- Addressed state: (address, value) pairs with addresses strictly rising and no entry equal to what an unlisted address reads as. -/
abbrev Cells (α : Type) := List (Nat × α)

/-- The value at an address; `d` is what an unlisted address reads as. -/
def Cells.get {α : Type} (d : Nat → α) : Cells α → Nat → α
  | [], k => d k
  | (k', v) :: m, k => if k' = k then v else Cells.get d m k

/-- List a value at an address, in its place. -/
def Cells.ins {α : Type} : Cells α → Nat → α → Cells α
  | [], k, v => [(k, v)]
  | (k', w) :: m, k, v =>
    if k < k' then (k, v) :: (k', w) :: m
    else if k = k' then (k, v) :: m
    else (k', w) :: Cells.ins m k v

/-- Write a value, keeping the canonical form. -/
def Cells.put {α : Type} [DecidableEq α] (d : Nat → α) (m : Cells α) (k : Nat) (v : α) : Cells α :=
  if v = d k then m.filter (fun e => e.1 ≠ k) else Cells.ins m k v

/-- Change the value at every listed address, keeping the canonical form. -/
def Cells.every {α : Type} [DecidableEq α] (d : Nat → α) (m : Cells α) (f : Nat → α → α) : Cells α :=
  (m.map (fun e => (e.1, f e.1 e.2))).filter (fun e => e.2 ≠ d e.1)

/-- Every address of the list lies above `lo`, rises strictly, and holds a value other than the default. -/
def Cells.wfFrom {α : Type} [DecidableEq α] (d : Nat → α) : Option Nat → Cells α → Bool
  | _, [] => true
  | lo, (k, v) :: m => (lo.all (· < k)) && (v ≠ d k) && Cells.wfFrom d (some k) m

/-- The canonical form holds. -/
def Cells.wf {α : Type} [DecidableEq α] (d : Nat → α) (m : Cells α) : Bool := Cells.wfFrom d none m

/-- Counters and W1C registers read zero where nothing is listed. -/
def zeroCell (_ : Nat) : Nat := 0

/-! Block bases of the device window (R42). -/

def dwDEV : Nat := 0x000000
def dwSTAGE : Nat := 0x010000
def dwPWR : Nat := 0x020000
def dwEFL : Nat := 0x030000
def dwGBK : Nat := 0x040000
def dwDMA : Nat := 0x050000
def dwDDR : Nat := 0x060000
def dwSLICE : Nat := 0x070000
def dwLTEST : Nat := 0x080000
def dwSRCH : Nat := 0x200000
def dwHOST : Nat := 0x300000
/-- The `CART` block of slot `n` (R105). -/
def dwCART (n : Nat) : Nat := 0x100000 + n * 0x1000
/-- The port block of port `p` (R274). -/
def dwPORT (p : Nat) : Nat := dwHOST + p * 0x1000
/-- The group block of `HP`g (R274). -/
def dwGROUP (g : Nat) : Nat := dwHOST + 0x40000 + g * 0x1000
/-- The PCIe block (R274). -/
def dwPCIE : Nat := dwHOST + 0x50000
/-- The transport block (R274). -/
def dwXPORT : Nat := dwHOST + 0x60000
/-- The channel block of DMA channel `c` (R490). -/
def dwCH (c : Nat) : Nat := dwDMA + 0x100 + 0x40 * c
/-- The block of SerDes lane `l` (R511). -/
def dwLANE (l : Nat) : Nat := dwLTEST + 0x1000 + 0x40 * l
/-- `PWR_KEY`d (R460). -/
def dwKEY (d : Nat) : Nat := dwPWR + 0x10 + 4 * d

/-! Keys of the staged (ST) fields: device-window fields by their offset, then tenant-table fields by tenant and byte offset in the parameter block of R318, which is the order of R34. -/

def stEpochLen : Nat := dwSTAGE + 0x08
def stRebuildShare : Nat := dwSTAGE + 0x30
def stBandWidth (p : Nat) : Nat := dwSTAGE + 0x40 + 4 * p
def stRfmTh : Nat := dwDDR + 0x80
def stThrTh : Nat := dwDDR + 0x84
def stBankOwner (b : Nat) : Nat := dwSRCH + 0x100 + 4 * b
def stLaneOwner (l : Nat) : Nat := dwSRCH + 0x400 + 4 * l
def stPortRate (p : Nat) : Nat := dwPORT p + 0x08
/-- A tenant-table field: tenant `t`, byte offset `o` of R318. -/
def stTenant (t o : Nat) : Nat := 0x400000 + t * 512 + o

/-- The reset value of a staged field (R40, R274, R377, R400); tenant-table fields of an empty slot are zero. -/
def stReset (k : Nat) : Nat :=
  if k = stEpochLen then 100
  else if k = stRebuildShare then 25
  else if k = stBandWidth 0 ∨ k = stBandWidth 1 ∨ k = stBandWidth 2 ∨ k = stBandWidth 3 then 16
  else if k = stRfmTh then 2000
  else if k = stThrTh then 4000
  else 0

/-- Whether a device-window offset holds an ST field on some part (R40, R274, R377, R400). -/
def isStOffset (off : Nat) : Bool :=
  off = stEpochLen || off = stRebuildShare
  || ([0, 1, 2, 3].any fun p => off = stBandWidth p)
  || off = stRfmTh || off = stThrTh
  || ((List.range 16).any fun b => off = stBankOwner b)
  || ((List.range 64).any fun l => off = stLaneOwner l)
  || ((List.range 64).any fun p => off = stPortRate p)

/-- The bits of an ST field in its dword. -/
def stMask (off : Nat) : Nat :=
  if off = stEpochLen then 0x3FFF
  else if off = stRebuildShare then 0x7F
  else if off ≥ 0x400000 then 0xFFFFFFFF
  else if [0, 1, 2, 3].any fun p => off = stBandWidth p then 0x3F
  else if off = stRfmTh ∨ off = stThrTh then 0xFFFF
  else if (List.range 64).any fun p => off = stPortRate p then 0x1FFF
  else 0xFFFF

/-- The reset value of the `XOFF` and `XON` fields for a port of `lanes` lanes: 5R/8 and R/2 of R = 256 KiB a lane (R253, R255). -/
def pfcThFor (lanes : Nat) : Nat := (128 * lanes) * 65536 + 160 * lanes

/-- The reset value of a plain RW register (the tables of R40, R105, R137, R274, R377, R400, R460, R490, R511). -/
def rwReset (off : Nat) : Nat :=
  if dwHOST ≤ off ∧ off < dwHOST + 0x40000 then
    match off % 0x1000 with
    | 0x000 => 0x00790807
    | 0x00C => 0x02000280
    | 0x010 => 0x64
    | _ => 0
  else if dwGROUP 0 ≤ off ∧ off < dwPCIE then (if off % 0x1000 = 0 then 3 else 0)
  else if off = dwXPORT then 0x00370832
  else if off = dwXPORT + 4 then 0x32
  else if 0x100000 ≤ off ∧ off < 0x140000 then (if off % 0x1000 = 0x404 then 5 else 0)
  else if off = dwSRCH + 4 then 0x64
  else if off = dwDDR + 0x180 then 0x18
  else if off = dwPWR + 0x80 then 0x000B0000
  else if off = dwPWR + 0x90 then 0x1908
  else if off = dwDMA then 3
  else 0

/-- The writable bits of a plain RW register; zero where no RW field stands. -/
def rwMask (off : Nat) : Nat :=
  if off = dwSTAGE + 0x24 then 0x003FFFFC
  else if dwHOST ≤ off ∧ off < dwHOST + 0x40000 then
    match off % 0x1000 with
    | 0x000 => 0x00FDFF0F
    | 0x00C => 0xFFFFFFFF
    | 0x010 => 0xFFFF
    | 0x014 => 0xF
    | o =>
      if 0x100 ≤ o ∧ o < 0x300 then
        (match o % 32 with
         | 16 => 0xFFFF03FF
         | 20 => 0xFFFF
         | 24 => 0
         | 28 => 0
         | _ => 0xFFFFFFFF)
      else 0
  else if dwGROUP 0 ≤ off ∧ off < dwPCIE then
    (match off % 0x1000 with | 0 => 7 | 8 => 0xFFFFFFFF | _ => 0)
  else if off = dwXPORT then 0xFFFFFFFF
  else if off = dwXPORT + 4 then 0xFFFF
  else if 0x100000 ≤ off ∧ off < 0x140000 then
    (match off % 0x1000 with | 0x008 => 3 | 0x044 => 0x7FF | 0x400 => 0x300FF | 0x404 => 7 | _ => 0)
  else if off = dwSRCH + 4 then 0x3FF
  else if off = dwSRCH + 0x18 then 0xBFFFF0FF
  else if off = dwDDR + 0x08 then 0x308
  else if off = dwDDR + 0x180 then 0xFF
  else if dwKEY 0 ≤ off ∧ off < dwKEY 18 then 0x10000
  else if off = dwPWR + 0x80 then 0xF7777
  else if off = dwPWR + 0x88 then 0xFFFFFFFF
  else if off = dwPWR + 0x8C then 0xF1
  else if off = dwPWR + 0x90 then 0xFF7F
  else if dwPWR + 0x100 ≤ off ∧ off < dwPWR + 0x120 then 0x800FFF7F
  else if off = dwEFL + 0x40 then 0x1FFFFFF
  else if off = dwDMA then 7
  else if dwCH 0 ≤ off ∧ off < dwCH 32 then
    (match (off - dwDMA - 0x100) % 0x40 with | 0x04 => 0x07FF007F | 0x18 => 0xFFFFFFE0 | 0x1C => 0xFFFFFFFF | _ => 0)
  else if off = dwLTEST + 0x10 then 0xFF
  else if dwLANE 0 ≤ off ∧ off < dwLANE 208 then
    (match (off - dwLTEST - 0x1000) % 0x40 with
     | 0x00 => 0x777
     | 0x20 => 0xFFFFFFFF | 0x24 => 0xFFFFFFFF | 0x28 => 0xFFFFFFFF | 0x2C => 0xFFFFFFFF
     | _ => 0)
  else 0

/-- Registers of the always-on domain: they keep their values until `PORST_N` (R460). -/
def isAonOffset (off : Nat) : Bool :=
  (dwPWR + 0x80 ≤ off && off ≤ dwPWR + 0x90) || (dwPWR + 0x100 ≤ off && off < dwPWR + 0x120)

end Sys2Proof.Machine
end

