-- ==== Sys2Proof/Machine/MediaTypes.lean ====
section
/-! DEFINITION. The parts of the state that concern media: bands, units, records, maps and pools, as plain data. -/

namespace Sys2Proof.Machine

/-- A place on media: slot, die, die-block. A slot of 64 or above stands for a member that was declared failed or is absent: its key in `Media.gone`. -/
structure Place where
  slot : Nat
  die : Nat
  block : Nat
  deriving DecidableEq, Repr

/-- What the controller's die-block table says (R150, R169). -/
inductive BlockSt where
  | free | erased | member (band : Nat) | shavings (band : Nat) | journal | root | retired | aside
  deriving DecidableEq, Repr

/-- One entry of the die-block table. -/
structure BlockEnt where
  st : BlockSt := .free
  mode : Nat := 0
  /-- It has been erased for its present use. -/
  ready : Bool := false
  /-- Erase counts, as WEAR_READ gives them. -/
  dense : Nat := 0
  slc : Nat := 0
  /-- Tracked read level T (R122). -/
  level : Nat := 0
  /-- Retire in place of the next erase (R133): the trigger's row plus one. -/
  retireNext : Nat := 0
  /-- The number, plus one, of the band that it was shavings of, until its erase has ended (R146). -/
  shavOf : Nat := 0
  /-- Order in which it became shavings; of a journal die-block: 1 its ring has used it up, 2 its records have been written further along (R514). -/
  since : Nat := 0
  deriving DecidableEq, Repr

/-- One band (R144 to R149, R189, R190, R208 to R217). -/
structure Band where
  pool : Nat := 0
  /-- 0 no band; 1 direct; 2 copy destination; 3 log; 4 register. -/
  role : Nat := 0
  n : Nat := 0
  nsx : Nat := 0xFFF
  seg : Nat := 0
  openSeq : Nat := 0
  closeSeq : Nat := 0
  prevA : Option Nat := none
  prevB : Option Nat := none
  /-- Slots of the journal hosts of P and Q (R214, R216). -/
  jhost0 : Nat := 64
  jhost1 : Nat := 64
  members : List Place := []
  /-- Splits (R131): member position, first band wordline, new place. -/
  splits : List (Nat × Nat × Place) := []
  /-- Relocations (R129): member position, band wordline, place and wordline there. -/
  relocs : List (Nat × Nat × Place × Nat) := []
  /-- Units that the census found damaged or unprogrammed: member position, band wordline (R196). -/
  torn : List (Nat × Nat) := []
  /-- Data codewords of one program unit (R148), and whether a metadata codeword follows them (R110). -/
  c : Nat := 16
  withMeta : Bool := false
  /-- Wordlines of the band. -/
  rows : Nat := 0
  /-- Codewords not yet taken into a unit, by position; each with its metadata slot (R157, R180). -/
  ahead : List (Nat × Codeword × BitVec 512) := []
  /-- Metadata slots read for copies whose data is still to come, by position (R110). -/
  metaGot : List (Nat × BitVec 512) := []
  /-- Codewords taken into units. -/
  taken : Nat := 0
  /-- Published frontier F (R158). -/
  frontier : Nat := 0
  /-- Running P and Q of the open row, by codeword position (R181), and the member positions in it. -/
  runP : List (BitVec 32896) := []
  runQ : List (BitVec 32896) := []
  rowMask : Nat := 0
  /-- Tags on verified wordlines, by position: what the media holds (R114). -/
  tags : List (Nat × Tag) := []
  headDurable : Bool := false
  sumDurable : Bool := false
  /-- It takes no more data; its summary waits for the last final status. -/
  closing : Bool := false
  closed : Bool := false
  early : Bool := false
  pinned : Bool := false
  shavings : Bool := false
  refresh : Bool := false
  /-- Open references (R154). -/
  refs : Nat := 0
  lostRows : List Nat := []
  /-- Uptime at which it closed (R170). -/
  closedMs : Nat := 0
  /-- Code 0x0508 has been written for it. -/
  doubled : Bool := false
  /-- Placement handle that references it (R161). -/
  handle : Option Nat := none
  /-- Copy progress of a fold or a frontier fill: the row being copied, its sequence number, the log entries it has taken. -/
  copyRow : Nat := 0
  /-- The pool counter of R175 that its copies count in: 104 fold or frontier fill, 120 refresh, 136 wear move. -/
  cause : Nat := 104
  copySeq : Nat := 0
  copying : Bool := false
  copied : List (Nat × Nat) := []
  deriving DecidableEq, Repr

/-- What a program unit carries. -/
inductive UnitKind where
  /-- Member position `mp` of band wordline `wl`. -/
  | band (b wl mp : Nat)
  /-- A stripe journal unit of host slot `host`, with its records. -/
  | journal (host : Nat) (recs : List Nat)
  /-- A root page unit of record `rid`. -/
  | root (rid : Nat)
  deriving DecidableEq, Repr

/-- A program unit on its way to a die (R98, R129, R177). -/
structure PUnit where
  uid : Nat
  kind : UnitKind
  at_ : Place
  pwl : Nat
  mode : Nat
  /-- Information bytes by unit position. -/
  cws : List (Nat × BitVec 32896) := []
  sent : Bool := false
  verified : Bool := false
  /-- Its data has left staging (R89). -/
  left : Bool := false
  /-- Its data is being fetched with BUFFER_READ under this tag of a failed program (R101). -/
  fetch : Option (Nat × Nat) := none
  /-- The place and wordline of the failed program, with whose sequence the data fetched is scrambled (R108). -/
  was : Option (Place × Nat) := none
  /-- A failed program's tag to release after the final status (R129). -/
  release : Option (Nat × Nat) := none
  /-- Positions still to be recovered or read before it can be programmed (R173, R232). -/
  await : List Nat := []
  /-- It rebuilds or migrates a member: 1 migration, 2 rebuild. -/
  restore : Nat := 0
  /-- The place and wordline at which the sequencer programmed it instead (R129). -/
  moved : Option (Place × Nat) := none
  deriving DecidableEq, Repr

/-- A stripe journal record (R182). -/
structure JRec where
  jid : Nat
  band : Nat
  wl : Nat
  pq : Nat
  seq : Nat
  mask : Nat
  /-- Slot of the host that holds it, and the journal die-blocks with a part of it. -/
  host : Nat
  at_ : List Place := []
  /-- Journal units that still hold an unverified part of it. -/
  left : Nat
  parity : List (BitVec 32896) := []
  /-- `MODE`, and the band's `OPEN_SEQ` and split list when it was written, as eight-byte entries (R182). -/
  mode : Nat := 0
  openSeq : Nat := 0
  splits : List Nat := []
  /-- It replaces a record of a lost host (R216). -/
  subst : Bool := false
  /-- Codewords of its `MEMBERS` that its parity still lacks: member position, codeword (R218). -/
  await : List (Nat × Nat) := []
  deriving DecidableEq, Repr

/-- The stripe journal ring of a host (R182, R514). -/
structure JRing where
  blocks : List Place := []
  cur : Nat := 0
  wl : Nat := 0
  /-- Records with codewords in the unit being filled: record, its first codeword there, how many. -/
  fill : List (Nat × Nat × Nat) := []
  deriving DecidableEq, Repr

/-- What happens once a record is durable (R193). -/
inductive Then where
  | nothing
  /-- Complete the command with this Dword 0. -/
  | finish (id : CmdId) (dw0 : Nat)
  /-- A void record: release the lock of the command (R187). -/
  | voided (id : CmdId) (seq : Nat)
  | header (band : Nat)
  | summary (band : Nat)
  /-- Member record: band, position, new place, cause. -/
  | memberRec (band pos : Nat) (pl : Place) (cause : Nat)
  /-- Release record: namespace index, first segment, count, and the command that waits. -/
  | release (nsx seg cnt : Nat) (id : Option CmdId)
  /-- Root generation: what it describes takes effect. -/
  | rootGen (pool : Nat) (id : Option CmdId) (dw0 : Nat)
  /-- The generation that deletes a pool (R142, R193). -/
  | poolGone (pool : Nat) (id : CmdId)
  /-- A copy, in a new register band, of a record that is durable in an old one (R192). -/
  | copied (rid : Nat)
  deriving DecidableEq, Repr

/-- A register record (R188 to R192) or a root generation (R191). -/
structure DurRec where
  rid : Nat
  /-- `REC_TYPE`; 0x0010 for a root generation. -/
  typ : Nat
  seq : Nat
  pool : Nat
  /-- The number it was first written under, which a copy in a new register band keeps in effect (R178, R192). -/
  first : Nat := 0
  /-- `LBA` of its tag. -/
  lba : Nat := 0
  /-- Fields of the body: byte offset, width in bytes, value. -/
  body : List (Nat × Nat × Nat)
  /-- Register band and position of its codeword. -/
  at_ : Nat × Nat
  /-- Root programs outstanding. -/
  left : Nat := 0
  durable : Bool := false
  k : Then
  deriving DecidableEq, Repr

/-- Whom a codeword is read for. -/
inductive Want where
  /-- Block `lba` of a host command. -/
  | host (id : CmdId) (lba : Nat)
  /-- The metadata codeword of block `lba`, whose slot is `slot`. -/
  | hostMeta (id : CmdId) (lba slot : Nat)
  /-- A copy into position `pos` of a destination band. -/
  | copy (dst pos : Nat)
  /-- The metadata codeword of such a copy, whose slot is `slot`. -/
  | copyMeta (dst pos slot : Nat)
  /-- Log garbage collection of a source band. -/
  | gc (src pos : Nat)
  | gcMeta (src pos slot : Nat)
  /-- A member of a reconstruction. -/
  | member (recon mp : Nat)
  /-- Position `i` of a unit being migrated or rebuilt. -/
  | restore (uid i : Nat)
  | patrol
  /-- A codeword of the substitute for a pinned journal record (R218): record, member position, codeword. -/
  | journal (jid mp i : Nat)
  deriving DecidableEq, Repr

/-- A codeword being read, with its place on the retry ladder (R123, R124). -/
structure CwReq where
  rid : Nat
  band : Nat
  wl : Nat
  mp : Nat
  i : Nat
  /-- What R117 checks: 0 nothing (parity, members, patrol), 1 a data codeword, 2 a metadata codeword. -/
  check : Nat := 0
  /-- Namespace index and address that the tag must name. -/
  expect : Option (Nat × Nat) := none
  step : Nat := 0
  /-- Highest step allowed before reconstruction (R125, R134). -/
  cap : Nat := 4
  levels : List Nat := []
  /-- Read once more after a failed tag check (R118). -/
  again : Bool := false
  /-- It is being reconstructed. -/
  viaRow : Bool := false
  /-- Staging granules reserved for the frames of its READs, the command whose staging they are, and whether its READ waits for them (R86). -/
  room : Nat := 0
  payer : Option CmdId := none
  waits : Bool := false
  wants : List Want := []
  deriving DecidableEq, Repr

/-- A reconstruction in progress (R25, R227, R228). -/
structure Recon where
  rid : Nat
  /-- The codeword request it serves. -/
  req : Nat
  band : Nat
  wl : Nat
  i : Nat
  got : List (Nat × BitVec 32896) := []
  asked : List Nat := []
  failed : List Nat := []
  /-- Members already read through step L4 (R125). -/
  deep : List Nat := []
  /-- What led here: 0 a degraded read (R227), 1 the tag check (R118), 2 the ladder (R123). -/
  cause : Nat := 2
  deriving DecidableEq, Repr

/-- The newest log location of a log-resident block (R150). -/
structure LogEnt where
  band : Nat
  pos : Nat
  seq : Nat
  deriving DecidableEq, Repr

/-- An entry of the segment map. -/
structure Seg where
  a : Option Nat := none
  b : Option Nat := none
  f : Nat := 0
  folding : Option Nat := none
  refresh : Bool := false
  /-- The refresh is a wear move (R170). -/
  wear : Bool := false
  early : Bool := false
  lastFold : Nat := 0
  deriving DecidableEq, Repr

/-- A namespace (R139, R155, R331 to R334). -/
structure Ns where
  nsid : Nat
  nsx : Nat
  pool : Nat
  lbaf : Nat
  dps : Nat := 0
  /-- Bit 4 of FLBAS: extended LBA (R282). -/
  ext : Bool := false
  nsze : Nat
  nNs : Nat
  flags : Nat := 0
  tenant : Nat := 0
  keyGen : Nat := 0
  salt : Nat := 0
  nguid : Nat := 0
  segs : Cells Seg := []
  /-- Blocks deallocated in part, to be zeroed at the next fold (R159). -/
  dealloc : List Nat := []
  attached : List Nat := []
  /-- Write Path Policy Dword 11 (R155). -/
  policy : Nat := 0x000A0200
  /-- A change that waits for the namespace's commands (R334): 0 none, 1 format, 2 format with crypto erase, 3 delete, 4 NS_RELEASE, 5 crypto erase and delete, 6 sanitize, 7 crypto erase and keep. -/
  job : Nat := 0
  jobId : Option CmdId := none
  /-- Its release records are on their way. -/
  jobOn : Bool := false
  /-- The format to come: `LBAF`, `DPS`, extended. -/
  newFmt : Option (Nat × Nat × Bool) := none
  /-- Placement handles given at creation: how many. -/
  handles : Nat := 0
  deriving DecidableEq, Repr

/-- A member of a pool (R189, R191). -/
structure Member where
  serial : Nat
  idx : Nat
  slot : Nat
  /-- 0 in service, 1 draining, 2 failed. -/
  st : Nat
  deriving DecidableEq, Repr

/-- What a durable root generation holds (R191). -/
structure RootGen where
  seq : Nat
  cls : List Nat
  n : Nat
  logPm : Nat
  spare : Nat
  flags : Nat
  members : List Member
  nss : List Ns
  /-- Register bands, each with the `MEMBERS` entries of its die-blocks. -/
  regs : List (Nat × List Nat) := []
  /-- Journal die-blocks by member index: die and die-block. -/
  jblocks : List (Nat × List (Nat × Nat)) := []
  openBands : Nat := 0
  /-- Where its pages lie: the pair of root die-blocks, and the first wordline. -/
  pair : Nat := 0
  wl : Nat := 0
  deriving DecidableEq, Repr

/-- A media pool (R138 to R149, R175, R203 to R206, R247). -/
structure Pool where
  exist : Bool := false
  cls : List Nat := []
  logPm : Nat := 2
  spare : Nat := 0
  flags : Nat := 2
  members : List Member := []
  rootSeq : Nat := 0
  /-- The newest durable root generation. -/
  root : Option RootGen := none
  /-- Generations being written. -/
  roots : List RootGen := []
  /-- Next wordline of the root die-blocks and the pair in use: 0 dies 0 and 1, 1 dies 2 and 3. -/
  rootWl : Nat := 0
  rootPair : Nat := 0
  /-- 0 absent; 1 census running; 2 ready; 3 deep scan; 4 not assembled (R206). -/
  pstate : Nat := 0
  /-- The start needed a deep scan (R199, R206). -/
  deep : Bool := false
  /-- A DELETE waits for its generation (R193). -/
  deleting : Bool := false
  logBand : Option Nat := none
  regBand : Option Nat := none
  counters : Cells Nat := []
  /-- Bytes of metadata written by hosts, and of metadata codewords programmed, since the last start (R160). -/
  hostMeta : Nat := 0
  mediaMeta : Nat := 0
  startup : Cells Nat := []
  /-- 0 below 80 %, 1 high, 2 stalled (R162). -/
  logState : Nat := 0
  narrow : Bool := false
  rebuildStart : Nat := 0
  rebuildDone : Nat := 0
  rebuildBytes : Nat := 0
  current : Nat := 0
  waitSpare : List Nat := []
  /-- Targets each slot has received in the current rebuild (R231). -/
  targets : List (Nat × Nat) := []
  rowsLost : Nat := 0
  rejournals : Nat := 0
  /-- Bytes copied by the migration of each slot. -/
  migrated : List (Nat × Nat) := []
  /-- FDP events: type (0 Reclaim Unit Not Fully Written, 0x80 Media Reallocated), handle, band (R161). -/
  fdpEvents : List (Nat × Nat × Nat) := []
  deriving DecidableEq, Repr

/-- A member that was declared failed, or that was absent at start-up (R224, R230). -/
structure Gone where
  key : Nat
  slot : Nat
  pool : Nat
  idx : Nat
  reason : Nat
  startMs : Nat
  done : Bool := false
  total : Nat := 0
  bytes : Nat := 0
  deriving DecidableEq, Repr

/-- A lost range (R242). -/
structure Lost where
  nsid : Nat
  cause : Nat
  slba : Nat
  nlb : Nat
  band : Nat
  time : Nat
  origin : Nat
  deriving DecidableEq, Repr

/-- A log garbage collection in progress (R167). -/
structure Gc where
  src : Nat
  seq : Nat
  /-- Blocks still to be copied, by position. -/
  todo : List Nat
  metaGot : List (Nat × BitVec 512) := []
  /-- Copies made: namespace index, address, band, position. -/
  made : List (Nat × Nat × Nat × Nat) := []
  refresh : Bool := false
  deriving DecidableEq, Repr

/-- The media stack. -/
structure Media where
  pools : Cells Pool := []
  nss : List Ns := []
  bands : Cells Band := []
  lastBand : Nat := 0xFFFFFFFF
  blocks : List (Place × BlockEnt) := []
  units : List PUnit := []
  jrecs : List JRec := []
  rings : List (Nat × JRing) := []
  recs : List DurRec := []
  reqs : List CwReq := []
  recons : List Recon := []
  gcs : List Gc := []
  log : List ((Nat × Nat) × LogEnt) := []
  gone : List Gone := []
  /-- Next sequence number (R183). -/
  seq : Nat := 1
  nextId : Nat := 100
  lost : List Lost := []
  lostGen : Nat := 0
  overflow : Bool := false
  /-- Controllers that have not read C1h since its last event (R243). -/
  lostAen : List Nat := []
  /-- Member Timers (R226): T_SLOW ms, T_FAIL in 100 ms, SLOW_PCT. -/
  tSlow : Nat := 15
  tFail : Nat := 40
  slowPct : Nat := 5
  rowsLost : Nat := 0
  /-- The map cache: segment-map entries, by namespace index and segment, the most recently used first; the band-table entries they name are cached with them (R151). -/
  mapCache : List (Nat × Nat) := []
  /-- Media Pool Configure commands that wait for the end of their pool's census. -/
  late : List Cmd := []
  /-- A Sanitize in progress, its action, and the Sanitize Status last reported. -/
  sanitize : Option (CmdId × Nat) := none
  sanitizeStat : Nat := 0
  /-- Start-Up Report's highest number and resume number (R199, R206). -/
  highSeq : Nat := 0
  resumeSeq : Nat := 0
  deriving DecidableEq, Repr

/-- What a cartridge command was issued for. -/
inductive Purpose where
  | identify | cert (k : Nat) | challenge | sync | life | health | shutdown | seqDownload | seqActivate
  /-- The LIFE_READ that ends an admission without authentication (R54, R65). -/
  | admitLife
  /-- A GET_HEALTH whose 50 ms have passed (R75). -/
  | healthLate
  /-- A codeword request. -/
  | cw (rid : Nat)
  /-- A program unit. -/
  | unit (uid : Nat)
  | bufferRead (uid : Nat)
  | bufferRelease
  | erase (die block mode : Nat)
  | retire (die block trigger : Nat)
  | probe
  /-- The erase counts of a die (R169). -/
  | wear (die : Nat)
  deriving DecidableEq, Repr

end Sys2Proof.Machine
end

