-- ==== Sys2Proof/Machine/StateTypes.lean ====
section
/-! DEFINITION. The parts of the state, group by group: what the spec's chapters name, as plain data. -/

namespace Sys2Proof.Machine

/-- The three parts of the series (R1). -/
inductive Part where
  | ux6464
  | ux6432
  | ux6416
  deriving DecidableEq, Repr

/-- Where the controller stands between power and service (R28, R203, R439, R498, R507). -/
inductive Phase where
  /-- `PORST_N` low, or no clock, or held by the TAP or a thermal trip: every domain except `AON` is in reset. -/
  | held
  /-- The boot ROM has chosen a slot; DRAM is not yet trained. -/
  | boot
  /-- DRAM is in use; firmware has not started. -/
  | trained
  /-- Firmware runs. -/
  | run
  /-- Rescue mode, or the rescue-mode state of R381. -/
  | rescue
  deriving DecidableEq, Repr

/-- The device states of R450, with the entry points of R452. -/
inductive Sleep where
  | active
  /-- An entry request has passed its check at entry point `p` (0 to 2) toward `target` (1 Stowed, 2 Dormant, 3 Rest). -/
  | entering (p target : Nat)
  | asleep (target : Nat)
  | exiting (src : Nat)
  deriving DecidableEq, Repr

/-- The device window's storage (R15 to R20, R42). -/
structure Dw where
  /-- RW fields, by dword offset. -/
  regs : Cells Nat := []
  /-- RC counters, by dword offset. -/
  cnt : Cells Nat := []
  /-- W1C bits, by dword offset. -/
  w1c : Cells Nat := []
  /-- ST fields in force, by the keys of `RegMap`. -/
  inForce : Cells Nat := []
  /-- Shadow of the ST fields. -/
  shadow : Cells Nat := []
  /-- The 64-bit latches of R16, by path and offset of the high dword; 0 none, else the latched value plus one. -/
  latch : Cells Nat := []
  /-- What the last window read returned. -/
  rdata : List Byte := []
  deriving DecidableEq, Repr

/-- What a staged command of R38 does besides its shadow fields when its set is accepted. -/
inductive StageKind where
  | plain
  | resources (tid flags maxScans : Nat)
  | poolCreate (pool : Nat) (slots logPm spare flags : Nat)
  | poolSet (pool : Nat) (logPm spare flags : Nat)
  deriving DecidableEq, Repr

/-- A command of R38 that waits for its boundary check. -/
structure StageCmd where
  id : CmdId
  keys : List Nat
  boundary : Nat
  kind : StageKind
  deriving DecidableEq, Repr

/-- A Tenant Create whose table entry is installed at the next boundary (R320). -/
structure Install where
  id : CmdId
  tid : Nat
  vf : Nat
  flags : Nat
  maxScans : Nat
  nqn : Nat
  allocs : List Nat
  banks : Nat
  lanes : Nat
  deriving DecidableEq, Repr

/-- A deleted tenant slot to be freed at a boundary (R329). -/
structure Free where
  ids : List CmdId
  tid : Nat
  drained : Nat
  nss : Nat
  /-- The slot is free; its namespaces' erase is still under way. -/
  freed : Bool := false
  deriving DecidableEq, Repr

/-- Epochs and staged settings (R29 to R38). -/
structure Stage where
  epoch : Nat := 0
  armed : Bool := false
  commitEpoch : Nat := 0
  /-- A commit is recorded for the boundary after the armed one (R31). -/
  later : Bool := false
  /-- The shadow as it stood when the check window opened (R32). -/
  window : Option (Cells Nat) := none
  /-- In-service cartridges of each pool, and occupied tenants, as the window found them (R41). -/
  winCarts : List Nat := []
  /-- The slots in `ADMITTED` then. -/
  winAdmitted : List Nat := []
  winTenants : List Nat := []
  rule : Nat := 0
  rejectAddr : Nat := 0
  waiting : List StageCmd := []
  installs : List Install := []
  frees : List Free := []
  deriving DecidableEq, Repr

/-- A guestbook record (R462). -/
structure Rec where
  code : Nat
  attr : Nat := 0
  coalesced : Bool := false
  time : Nat := 0
  count : Nat := 1
  recno : Nat := 0
  ps : List Nat := []
  lastDelta : Nat := 0
  /-- Its position in the ring, once written. -/
  at_ : Nat := 0
  done : Option CmdId := none
  deriving DecidableEq, Repr

/-- Power, wake, straps, pins, temperature and the TAP (R445 to R461, R498 to R513). -/
structure Pwr where
  phase : Phase := .held
  porst : Bool := false
  /-- `PERST_N` is low. -/
  perst : Bool := true
  refclk : Bool := true
  modeLive : Nat := 0
  mode : Nat := 0
  wakePins : Nat := 0
  sleep : Sleep := .active
  lastWake : Nat := 0
  /-- The source that latched first since the latch was last clear. -/
  wakeSrc : Nat := 0
  /-- The entry under way began in Stowed. -/
  fromStowed : Bool := false
  /-- Slots whose cartridges the entry under way has shut down. -/
  shutSent : List Nat := []
  lastAbort : Nat := 0
  lastState : Nat := 0
  /-- Room Key (R449): IDLE, SRCH_DROP, DEEPEST, HOLD. -/
  idle : Nat := 10
  srchDrop : Bool := false
  deepest : Nat := 2
  hold : Nat := 0
  /-- The wake key of class 5 on `CORE` (R447). -/
  wakeKey : Bool := false
  temps : List (BitVec 8) := List.replicate 16 0
  peak : BitVec 8 := 0
  seen : Bool := false
  trip : Bool := false
  tap : BitVec 8 := 2
  tapHold : Bool := false
  cause : Nat := 0
  rescueCause : Nat := 0
  pmbRail : Nat := 0
  vcore : Nat := 0
  /-- The 64-bit lantern frame last sent (R76), bit s slot s. -/
  lantern : BitVec 64 := 0
  /-- Rails of role 2 are off (R459). -/
  railOff : Bool := false
  /-- Guestbook records kept in `AON` over Dormant or Rest (R452, R464). -/
  kept : List Rec := []
  /-- Codes latched in `AON` that the next start writes: the uncorrectable error of R396, the events of a restart. -/
  latched : List (Nat × List Nat) := []
  deriving DecidableEq, Repr

/-- Slot states (R68). -/
inductive SlotSt where
  | empty | debounce | powering | training | admitting | quarantined | rejected
  | admitted | inService | draining | readyRemove | failed | off
  deriving DecidableEq, Repr

/-- A command outstanding to a cartridge (R85, R221). -/
structure OutCmd where
  op : Nat
  m : CartCmd
  why : Purpose
  tSlow : Nat
  grant : Option (Nat × Nat) := none
  /-- The codewords sent under the grant, by index, as they travel: encoded and scrambled (R88, R108). -/
  frames : List (Nat × BitVec 36864) := []
  bufferDone : Bool := false
  /-- Already counted as a slow timed command (R222). -/
  slowCounted : Bool := false
  /-- Its `CMD` message has left in a control block (R83). -/
  gone : Bool := false
  deriving DecidableEq, Repr

/-- Why a slot drains (R173). -/
inductive DrainCause where
  | life | remove | service
  deriving DecidableEq, Repr

/-- One slot, the controller's side (R64 to R106, R135, R219 to R225). -/
structure Slot where
  st : SlotSt := .empty
  reason : Nat := 0
  auth : Bool := false
  width : Nat := 0
  alert : Bool := false
  pwren : Bool := false
  /-- `CART_PRSNT_N` is low. -/
  prsntLow : Bool := false
  /-- Present after the filter of R69. -/
  prsnt : Bool := false
  /-- The slot waits for its turn under R457 to raise `CART_PWREN`. -/
  waitPower : Bool := false
  /-- The `EMPTY` slot lost a member and was not refilled (R77). -/
  lostMember : Bool := false
  phase : Nat := 0
  farPver : Nat := 0
  lanes : Nat := 0
  depth : Nat := 0
  desc : List Byte := []
  serial : Nat := 0
  fwVer : Nat := 0
  nonce : Nat := 0
  /-- Re-authentication in progress for a slot that keeps its state (R53). -/
  reauth : Bool := false
  /-- A link reset came while the link was down: the exchange of R53 follows when it is up. -/
  idDue : Bool := false
  updating : Bool := false
  updTried : Bool := false
  updOld : Nat := 0
  updCmd : Option CmdId := none
  rolling : Bool := false
  out : List (Nat × OutCmd) := []
  lastSync : List (Nat × Nat) := []
  life : Nat := 0
  retired : Nat := 0
  diesFailed : List Nat := []
  lifeFlags : Nat := 0
  /-- Media counters of R135, by byte offset of the log entry. -/
  media : Cells Nat := []
  pool : Option Nat := none
  midx : Nat := 0
  lastPool : Option Nat := none
  drain : Option DrainCause := none
  /-- Held by a pool that was not assembled (R200, R398). -/
  held : Option Nat := none
  slow : Bool := false
  slowSince : Nat := 0
  fastProbes : Nat := 0
  /-- The newest root wordline whose PROGRAM ended well: die, die-block, wordline (R113, R220). -/
  rootAt : Option (Nat × Nat × Nat) := none
  fastCount : Nat := 0
  slowCount : Nat := 0
  /-- Timed commands of the last ten 100 ms windows, newest first: in time, slow (R222). -/
  win : List (Nat × Nat) := []
  rebuildDone : Bool := false
  aenOpen : Bool := false
  aenLate : Bool := false
  offAfterShutdown : Bool := false
  /-- Times of failed retrains within 10 s (R93). -/
  retrains : List Nat := []
  /-- Width of the last link-up since `CART_PWREN` rose. -/
  upWidth : Nat := 0
  /-- Raw bit flips injected at random positions so far (R137). -/
  injected : Nat := 0
  forecast : Nat := 0xFFFF
  lifeDays : List Nat := []
  /-- The class changed with the last descriptor, and authentication is under way (R49, R53). -/
  classChg : Bool := false
  /-- Failed dies as LIFE_READ counts them. -/
  lifeDead : Nat := 0
  /-- Commands that wait: for one of the `CMD_DEPTH` slots, or for the end of a re-authentication (R53, R85). -/
  queue : List OutCmd := []
  /-- Tags whose data the sequencer holds after a failed program, until BUFFER_RELEASE (R101). -/
  heldTags : List Nat := []
  /-- Data frames to send, in order: tag, index (R88). -/
  dataQ : List (Nat × Nat) := []
  /-- The far end's transmit replay buffer in bytes, as `LINK_MGMT` 01h gave it (R90, R92). -/
  farBuf : Nat := 0
  /-- `LINK_MGMT` 01h is to be sent (R92). -/
  mgmtDue : Bool := false
  /-- SYNC follows the identity exchange under way (R93). -/
  syncDue : Bool := false
  /-- The policy that governs the admission under way: class and issuers (R57). -/
  polClass : Nat := 0
  polIssuers : List Nat := []
  deriving DecidableEq, Repr

/-- A superframe (R80): its number, its control block, and the 960 bytes of data blocks 1 to 15. -/
structure Superframe where
  no : Nat
  cb : List Byte
  data : List Byte
  deriving DecidableEq, Repr

/-- A data frame being sent (R84): tag, index within the command, valid bytes, its blocks, and how many of them have gone. -/
structure TxFrame where
  tag : Nat
  idx : Nat
  valid : Nat
  bytes : List Byte
  sent : Nat := 0
  deriving DecidableEq, Repr

/-- A data frame being received (R84): what its `DATA_HDR` says, the superframe of that header, and the blocks so far. -/
structure RxFrame where
  tag : Nat
  idx : Nat
  len : Nat
  valid : Nat
  sf : Nat
  bytes : List Byte := []
  deriving DecidableEq, Repr

/-- One end of a link: what it sends and what it expects (R80 to R93). -/
structure LinkEnd where
  txSeq : Nat := 0
  /-- The replay buffer: unacknowledged superframes, oldest first (R90). -/
  replay : List Superframe := []
  /-- Superframes to be sent once more, byte for byte (R91). -/
  resend : List Superframe := []
  /-- The superframe sent last. -/
  last : Option Superframe := none
  /-- The data frame under way, and the `DATA_END` that the next control block carries: tag and CRC-32. -/
  cur : Option TxFrame := none
  endDue : Option (Nat × Nat) := none
  rxNext : Nat := 0
  ackDue : Bool := false
  /-- A `NAK` stands: what comes before the superframe it names is discarded. -/
  nakSent : Bool := false
  /-- The `NAK` has yet to be sent. -/
  nakDue : Bool := false
  /-- The superframe last replayed from, and how many times (R93). -/
  replays : Nat × Nat := (0, 0)
  /-- Data frames under way, oldest first. -/
  openFrames : List RxFrame := []
  /-- Superframes to come that were accepted before a data frame in them failed (R91). -/
  again : Nat := 0
  deriving DecidableEq, Repr

/-- A die-block as the sequencer keeps it (R64, R97, R99 to R101). -/
structure SeqBlock where
  dense : Nat := 0
  slc : Nat := 0
  retired : Bool := false
  /-- Mode of the last ERASE; 0xFF none since manufacture. -/
  mode : Nat := 0xFF
  /-- Erased since the sequencer last started. -/
  fresh : Bool := false
  /-- Program units held, by wordline: the codewords' frames in order. -/
  pages : List (Nat × List (List Byte)) := []
  deriving DecidableEq, Repr

/-- A command the sequencer holds (R85, R89, R97). -/
structure SeqCmd where
  op : Nat
  m : CartCmd
  /-- 0 queued, 1 awaiting data, 2 programming, 3 status pending. -/
  state : Nat := 0
  frames : List (Nat × List Byte) := []
  deriving DecidableEq, Repr

/-- A message the sequencer sends: tag, status code, length or values, and the data that goes before it. -/
structure SeqStatus where
  tag : Nat
  code : Nat
  vals : List Nat := []
  data : List Byte := []
  /-- Frames of its data that have gone, and whether the message has (R83, R84). -/
  frames : Nat := 0
  gone : Bool := false
  deriving DecidableEq, Repr

/-- One sequencer (R64, R96 to R103). -/
structure Seq where
  /-- Which cartridge it is (0 not yet told apart), and how often its firmware was activated. -/
  cart : Nat := 0
  gen : Nat := 0
  /-- Its descriptor, once anything has read it; until then `Seq.descr` gives it. -/
  desc : List Byte := []
  /-- It has power; power-downs without SHUTDOWN so far in this node (R97). -/
  powered : Bool := false
  downs : Nat := 0
  /-- It ended training on a wrong protocol version and waits for `CART_PWREN` to fall (R95). -/
  noTrain : Bool := false
  shut : Bool := false
  cmds : List (Nat × SeqCmd) := []
  /-- Programs whose data is held until BUFFER_RELEASE (R101). -/
  heldData : List (Nat × List (Nat × List Byte)) := []
  blocks : Cells SeqBlock := []
  /-- Reserve die-blocks taken, by die (R101). -/
  reserve : Cells Nat := []
  /-- Replacements reported in a 10h status (R101, R130): die, die-block and wordline; die-block and wordline of the replacement. -/
  relocs : List ((Nat × Nat × Nat) × (Nat × Nat)) := []
  /-- Final statuses that the controller has not received (R94). -/
  unheard : List SeqStatus := []
  failedDies : List Nat := []
  /-- Downloaded image bytes by offset, each plus one; zero where none arrived. -/
  fwBytes : Cells Nat := []
  /-- Statuses and data sent, newest first. -/
  sent : List SeqStatus := []
  deriving DecidableEq, Repr

/-- Cartridges that left a slot, by their number, with what their NAND keeps (R64); and the next number. -/
structure Shelf where
  away : Cells Seq := []
  next : Nat := 1
  deriving DecidableEq, Repr

/-- The statuses of R307 and R308, by the names the spec gives them; `vendor` carries a code of R307. -/
inductive Status where
  | success | invalidOpcode | invalidField | invalidNs | lbaRange | nsNotReady | nsCapacity | sqDeleted
  | abortLimit | transientTransport | dataTransfer | authentication | compareFailure | unrecovered
  | guardErr | appTagErr | refTagErr | invalidQid | invalidQsize | invalidQdel | invalidLog | notSaveable
  | seqError | overlap | fwSlot | fwImage | fwProhibited | invalidPI | aerLimit
  | vendor (code : Nat)
  deriving DecidableEq, Repr

/-- An asynchronous event: type, information, log page. -/
structure Aen where
  typ : Nat
  info : Nat
  page : Nat
  deriving DecidableEq, Repr

/-- How far a command has come (R287). -/
inductive Stg where
  /-- Held at stage 3 by a format, at 4 by QoS, steering or a pause, at 5 by a barrier, at 6 by the chuck, at 7 by staging. -/
  | held (n : Nat)
  /-- Locked and waiting for data, units or codewords. -/
  | started
  /-- Drained: no completion is posted (R297). -/
  | drained
  deriving DecidableEq, Repr

/-- A command in the controller. -/
structure Flight where
  op : Nat
  c : Cmd
  tenant : Nat
  stage : Stg
  /-- Sequence number (R183). -/
  seq : Nat := 0
  /-- Order of arrival at intake, and of beginning to wait where it waits. -/
  ord : Nat := 0
  direct : Bool := false
  handle : Option Nat := none
  /-- Staging granules held. -/
  staged : Nat := 0
  /-- Guaranteed staging granules and lock entries of its tenant when it was admitted (R36). -/
  guarS : Nat := 0
  guarL : Nat := 0
  /-- Blocks of write data whose staging is reserved and which are asked for (R24). -/
  asked : Nat := 0
  issued : Bool := false
  /-- An entry that its map resolution needed was not cached: the 1.0 µs bound of R13 applies (R151). -/
  mapMiss : Bool := false
  /-- Blocks of write data that have arrived and are placed. -/
  arrived : Nat := 0
  /-- Program units that hold its data. -/
  units : List Nat := []
  /-- Log locations of its blocks: address, band, position. -/
  locs : List (Nat × Nat × Nat) := []
  /-- Parts in direct bands: band, first and end offset. -/
  parts : List (Nat × Nat × Nat) := []
  /-- Blocks checked and ready for the host, by address. -/
  got : List (Nat × List Byte) := []
  /-- Blocks decrypted, whose metadata has not arrived, and metadata slots that have. -/
  plain : List (Nat × Block) := []
  metas : List (Nat × BitVec 512) := []
  /-- Blocks that failed, with their statuses (R23, R284). -/
  fails : List (Nat × Status) := []
  /-- An overlapping exclusive lock was granted since the present attempt began (R294). -/
  hit : Bool := false
  /-- Bands referenced (R154). -/
  refs : List Nat := []
  /-- Ranges of Dataset Management: first block, count, 0 waiting, 1 at work, 2 done. -/
  ranges : List (Nat × Nat × Nat) := []
  fallback : Bool := false
  repeats : Nat := 0
  /-- Complete with Command Aborted due to SQ Deletion when drained (R302). -/
  sqDel : Bool := false
  /-- A status already decided. -/
  bad : Option Status := none
  /-- A void record for it is on its way (R187). -/
  voiding : Bool := false
  deriving DecidableEq, Repr

/-- A range lock of the chuck, granted or waiting (R292, R293). -/
structure Lock where
  id : CmdId
  nsid : Nat
  lo : Nat
  hi : Nat
  excl : Bool
  granted : Bool
  ord : Nat
  deriving DecidableEq, Repr

/-- A completion queue entry, with the data the command returned. -/
structure Cqe where
  id : CmdId
  st : Status
  dnr : Bool := false
  dw0 : Nat := 0
  dw1 : Nat := 0
  data : List Byte := []
  /-- Signalled by the SUCCESS flag of the last C2HData PDU in place of a response capsule (R259). -/
  inPdu : Bool := false
  deriving DecidableEq, Repr

/-- What a controller is (R266, R269, R310, R335). -/
inductive CtrlKind where
  | pf0
  | vf (n : Nat)
  | fabric
  | slice (s : Nat)
  /-- A discovery controller (R269). -/
  | discovery
  deriving DecidableEq, Repr

/-- A controller. -/
structure Ctrl where
  exist : Bool := false
  kind : CtrlKind := .fabric
  tenant : Nat := 0
  hostNqn : Nat := 0
  en : Bool := false
  rdy : Bool := false
  shn : Nat := 0
  shst : Nat := 0
  authed : Bool := true
  authReq : Bool := false
  ps : Nat := 0
  sqs : List (Nat × Nat) := []
  cqs : List Nat := []
  /-- Submission queues with entries the controller has not fetched: queue, tail. -/
  tails : List (Nat × Nat) := []
  aers : List CmdId := []
  aens : List Aen := []
  /-- Offset of the controller's own Timestamp (R463). -/
  tsOff : Nat := 0
  tsSet : Bool := false
  resetting : Bool := false
  draining : Bool := false
  resetCause : Nat := 0
  drainCount : Nat := 0
  /-- I/O queues being deleted, with the command that waits (R302). -/
  sqDels : List (Nat × CmdId) := []
  /-- Namespaces changed since the controller last read the Changed Namespace List. -/
  chg : List Nat := []
  /-- Standard feature values set by Set Features, each plus one, by FID; zero where none was set. -/
  feats : Cells Nat := []
  deriving DecidableEq, Repr

/-- What a firmware activation pause puts off to its end (R304, R330). -/
inductive Later where
  | reset (ctrl cause : Nat)
  | lost (ctrl cause : Nat)
  | sqDel (c : Cmd)
  | tenReset (c : Cmd)
  | tenDelete (c : Cmd)
  | keepAlive (c : Cmd)
  deriving DecidableEq, Repr

/-- Intake and queues (R277 to R309). -/
structure Io where
  ctrls : Cells Ctrl := []
  flights : List Flight := []
  locks : List Lock := []
  watch : List CmdId := []
  order : Nat := 0
  posted : List Cqe := []
  /-- The error log, newest first: count, command, status; a page shows a controller's newest 256 (R281). -/
  errLog : List (Nat × CmdId × Status) := []
  errCount : Nat := 0
  /-- Token balances and uses, by class and tenant (R325); spare by class. -/
  tok : List ((Nat × Nat) × Int) := []
  used : List ((Nat × Nat) × Nat) := []
  spare : List Nat := []
  /-- Firmware activation pause (R304). -/
  paused : Bool := false
  heldConnects : List (Cmd × ConnectReq) := []
  deferred : List Later := []
  nextCtrl : Nat := 256
  deriving DecidableEq, Repr

/-- A host of a host list (R323). -/
structure HostEnt where
  nqn : Nat
  keyLen : Nat
  ckeyLen : Nat
  transform : Nat
  key : Nat
  ckey : Nat
  deriving DecidableEq, Repr

/-- A tenant slot (R313 to R323). -/
structure Tenant where
  occupied : Bool := false
  vf : Nat := 0
  flags : Nat := 0
  maxScans : Nat := 0
  nqn : Nat := 0
  hosts : List HostEnt := []
  deleting : Option (List CmdId) := none
  resetting : List CmdId := []
  destroy : Bool := false
  squashed : Nat := 0
  /-- When the reset or deletion in progress began. -/
  since : Nat := 0
  deriving DecidableEq, Repr

/-- Tenants and the settings of GLOBAL. -/
structure Ten where
  tbl : Cells Tenant := []
  tMax : Nat := 64
  floorPct : Nat := 25
  nextTMax : Nat := 64
  nextFloor : Nat := 25
  pf0Mgr : Bool := true
  mgrHosts : List HostEnt := []
  /-- The tenants of normal mode and their staged fields, put by while service mode treats slices as tenants (R335, R336). -/
  stored : Option (Cells Tenant × Cells Nat) := none
  deriving DecidableEq, Repr

/-- One host port (R249 to R257, R271, R274). -/
structure Port where
  linkUp : Bool := false
  fecLock : Bool := false
  /-- Priorities paused by the link partner, and their quanta. -/
  paused : Nat := 0
  storm : Nat := 0
  /-- Bytes held in the receive reserve, by priority. -/
  held : Cells Nat := []
  xoff : Nat := 0
  /-- MACsec: loaded CAK and CKN, live peer, transmit packet number, association in use, SAK pending. -/
  cak : Nat := 0
  ckn : Nat := 0
  stCak : Cells Nat := []
  macsecUp : Bool := false
  /-- A SAK is installed. -/
  sakOn : Bool := false
  /-- Channels whose older association still receives (R272). -/
  oldOk : List Nat := []
  txPn : Nat := 0
  txSa : Nat := 0
  newSa : Bool := false
  stopTx : Bool := false
  rxPn : Cells Nat := []
  rxStop : Nat := 0
  deriving DecidableEq, Repr

/-- Why the controller ends a connection with C2HTermReq (R259, R260). -/
inductive TermReason where
  | invalidParameter | headerDigest
  deriving DecidableEq, Repr

/-- A connection or queue pair (R258 to R264), with what its ICReq asked for. -/
structure Conn where
  id : Nat
  port : Nat
  entry : Nat
  rdma : Bool
  ctrl : Option Nat := none
  qid : Nat := 0
  maxR2t : Nat := 0
  hpda : Nat := 0
  hdgst : Bool := false
  ddgst : Bool := false
  noSuccess : Bool := false
  deriving DecidableEq, Repr

/-- DCQCN state of a queue pair (R257), in units of 100 Mb/s and 2^-10. -/
structure Qp where
  rate : Nat := 0
  target : Nat := 0
  alpha : Nat := 1024
  stage : Nat := 0
  lastCnp : Option Nat := none
  deriving DecidableEq, Repr

/-- Host side (R249 to R276). -/
structure HostSt where
  ports : Cells Port := []
  conns : List Conn := []
  /-- The C2HTermReqs sent: connection and reason (R259, R260). -/
  terms : List (Nat × TermReason) := []
  qps : Cells Qp := []
  pcieUp : Bool := false
  speed : Nat := 0
  width : Nat := 0
  flit : Bool := false
  sris : Bool := false
  busMaster : Bool := true
  smbusHz : Nat := 1
  mctpMtu : Nat := 64
  /-- What the management endpoint answered last: status and data (R273). -/
  miOut : Nat × List Byte := (0, [])
  /-- The saved configuration of R275, as the RW and ST values saved. -/
  savedRegs : Option (Cells Nat × Cells Nat) := none
  savedKeys : List (Nat × Nat × Nat) := []
  deriving DecidableEq, Repr

/-- One TCAM entry or verification copy (R346). -/
structure TEnt where
  valid : Bool := false
  key : BitVec 192 := 0
  mask : BitVec 192 := 0
  prio : Nat := 0
  result : Nat := 0
  deriving DecidableEq, Repr

/-- A cursor (R353). -/
structure Cursor where
  token : Nat
  ctrl : Nat
  tenant : Nat
  banks : Nat := 0
  key : BitVec 192 := 0
  /-- Last match reported: PRIO, bank, index. -/
  last : Nat × Nat × Nat := (0, 0, 0)
  batch : Option (List (List Byte)) := none
  deriving DecidableEq, Repr

/-- A scan record (R372). -/
structure ScanRec where
  end_ : Nat
  len : Nat
  pattern : Nat
  prio : Nat
  flags : Nat
  typ : Nat
  count : Nat
  deriving DecidableEq, Repr

/-- A scan (R365 to R375). -/
structure Scan where
  sid : Nat
  ctrl : Nat
  tenant : Nat
  nsid : Nat
  image : Nat
  slba : Nat
  nlb : Nat
  all : Bool
  banks : Nat
  lanes : Nat
  nextChunk : Nat := 0
  st : Nat := 0
  reason : Nat := 0
  buf : List ScanRec := []
  done : Nat := 0
  produced : Nat := 0
  fetch : List Cmd := []
  deriving DecidableEq, Repr

/-- A lane at work: scan, chunk, records held in ascending end offset (R370). -/
structure LaneSt where
  scan : Option Nat := none
  chunk : Nat := 0
  held : List ScanRec := []
  bytes : Nat := 0
  cands : Nat := 0
  verified : Nat := 0
  deriving DecidableEq, Repr

/-- An automata bank: image and section (R361 to R364). -/
structure ABank where
  image : Nat := 0
  pats : List (Nat × Nat × Nat) := []
  bytes : List Byte := []
  deriving DecidableEq, Repr

/-- A tenant's load buffer (R362). -/
structure LoadBuf where
  image : Nat := 0
  ctrl : Nat := 0
  pieces : List (Nat × List Byte) := []
  deriving DecidableEq, Repr

/-- Search (R340 to R378). -/
structure Srch where
  tcam : Cells TEnt := []
  copies : Cells TEnt := []
  /-- Copies with an uncorrectable ECC error. -/
  bad : List Nat := []
  cursors : List Cursor := []
  gen : Nat := 1
  waitBatch : List Cmd := []
  abanks : Cells ABank := []
  loads : Cells LoadBuf := []
  scans : List Scan := []
  nextScan : Nat := 1
  lanes : Cells LaneSt := []
  /-- Bank counters of C5h by bank × 64 + offset. -/
  stats : Cells Nat := []
  deriving DecidableEq, Repr

/-- A tracked activation key of a bank (R390). -/
structure Act where
  row : Nat
  req : Nat
  count : Nat
  deriving DecidableEq, Repr

/-- A throttle (R392). -/
structure Throttle where
  req : Nat
  ch : Nat
  rank : Nat
  bank : Nat
  row : Nat
  step : Nat
  /-- The key reached the threshold in the present window. -/
  live : Bool
  /-- The bank has had refresh management since step 3 was entered. -/
  managed : Bool := false
  deriving DecidableEq, Repr

/-- DRAM controller (R379 to R401). -/
structure Ddr where
  ready : Bool := false
  fail : Bool := false
  reduced : Bool := false
  selfRef : Bool := false
  off : Bool := false
  step : Nat := 0
  chUp : Nat := 0
  chPop : Nat := 0
  cap : Nat := 0
  density : Nat := 0
  width : Nat := 0
  ranks : Nat := 0
  dpc : Nat := 0
  res : List (Nat × ChannelResult) := []
  mapOrder : Nat := 0
  savedOrder : Nat := 0
  acts : List ((Nat × Nat × Nat) × List Act) := []
  /-- By bank and row: the row total at which refresh management was last issued for it in this window (R391, R393). -/
  acted : List (((Nat × Nat × Nat) × Nat) × Nat) := []
  raa : List ((Nat × Nat × Nat) × Nat) := []
  throttles : List Throttle := []
  postponed : List ((Nat × Nat × Nat) × Nat) := []
  drift : Cells Nat := []
  hot : List (Nat × Nat) := []
  cacheDropped : Nat := 0
  /-- Requests waiting, in order of arrival (R387). -/
  queue : List DramReq := []
  /-- Subchannels that serve writes until 16 are left: channel and subchannel (R387). -/
  draining : List (Nat × Nat) := []
  /-- The open row of each bank (R387), by channel, rank and bank. -/
  openRows : List ((Nat × Nat × Nat) × Nat) := []
  /-- When a requester last activated a row of a bank (R392). -/
  lastAct : List ((Nat × Nat × Nat × Nat) × Nat) := []
  /-- Counters of C4h, by byte offset. -/
  log : Cells Nat := []
  deriving DecidableEq, Repr

/-- A 32-byte flash word and its marker (R406, R407); the default is erased. -/
structure FWord where
  written : Bool := false
  torn : Bool := false
  data : BitVec 256 := BitVec.allOnes 256
  deriving DecidableEq, Repr

/-- The program and erase engine at work: opcode, address, data, and who issued it. -/
structure FlashOp where
  op : Nat
  addr : Nat
  data : BitVec 256
  owner : Nat
  deriving DecidableEq, Repr

/-- Embedded flash (R402 to R422). -/
structure Efl where
  words : Cells FWord := []
  eflags : List Nat := []
  /-- Sequence: 0 closed, 1 key 1 written, 2 open, 3 opcode given, 4 address given, 5 + n after FL_DATAn. -/
  seqStep : Nat := 0
  owner : Nat := 0
  fetchBank : Nat := 3
  op : Nat := 0
  addr : Nat := 0
  data : List Nat := []
  busy : Option FlashOp := none
  opBank : Nat := 0
  lastOp : Nat := 0
  errAddr : Nat := 0
  markSet : Nat := 0
  markTorn : Nat := 0
  rdAddr : Nat := 0
  rdValid : Bool := false
  rdWait : Option EccOutcome := none
  rdData : BitVec 256 := 0
  boot : Nat := 0
  deriving DecidableEq, Repr

/-- The boot record (R436). -/
structure BootRec where
  active : Nat := 1
  previous : Nat := 0
  pending : Nat := 0
  trial : Bool := false
  fellBack : Bool := false
  fails : Nat := 0
  gen : Nat := 0
  deriving DecidableEq, Repr

/-- The settings area's records that a start reads back. -/
structure Settings where
  /-- The formats of the settings areas that hold records, newest first (R440). -/
  areas : List Nat := []
  roomKey : Option Nat := none
  timers : Option (Nat × Nat × Nat) := none
  pwr : Option (List (Nat × Nat)) := none
  deriving DecidableEq, Repr

/-- Firmware (R423 to R444). -/
structure Fw where
  running : Nat := 1
  bootRec : Option BootRec := none
  /-- The record of the present run. -/
  trial : Bool := false
  fellBack : Bool := false
  fails : Nat := 0
  download : Bool := false
  started : Bool := false
  /-- An activation without reset between commit and pause end: command, old version. -/
  activating : Option CmdId := none
  oldVer : Nat := 0
  /-- Versions of running firmware, its SerDes microcode, and its settings format. -/
  version : Nat := 0
  setFmt : Nat := 0
  /-- Compatibility pairs of the active image: kind, controller, peer, model. -/
  compat : List (Nat × Nat × Nat × Nat) := []
  /-- Bundled sequencer images: model, version, length. -/
  bundle : List (Nat × Nat × Nat) := []
  sets : Settings := {}
  /-- The salt table of the keys area, by namespace index (R332). -/
  salts : Cells Nat := []
  /-- Reason each slot was refused at this start. -/
  refused : List (Nat × Nat) := []
  /-- Code 0x0120 has been written for this start. -/
  upDone : Bool := false
  /-- `T_PHASE` of the Start-Up Report, by phase (R206). -/
  times : Cells Nat := []
  deriving DecidableEq, Repr

/-- A key tracked for coalescing (R465), with the repeats counted in its window. -/
structure Track where
  code : Nat
  key : Nat
  count : Nat := 0
  first : Nat := 0
  last : Nat := 0
  ps : List Nat := []
  deriving DecidableEq, Repr

/-- The guestbook (R462 to R477). -/
structure Gbk where
  queue : List Rec := []
  cleared : Option Rec := none
  ownerSet : Option Rec := none
  waitPlace : List (CmdId × Rec) := []
  tracked : List Track := []
  budget : Nat := 1024
  /-- Thousandths of a record on the way to the budget (R466). -/
  refill : Nat := 0
  droppedSince : Nat := 0
  dropped : Nat := 0
  ring : List Rec := []
  pos : Nat := 0
  nextNo : Nat := 0
  floor : Nat := 0
  uptime : Nat := 0
  calOff : Nat := 0
  calSet : Bool := false
  nonce : Option (Nat × Nat) := none
  ownerKey : Option Nat := none
  /-- Admission policy in force (R58). -/
  polSerial : Nat := 0
  polClass : Nat := 0
  polFlags : Nat := 1
  polIssuers : List Nat := []
  polDeny : List Nat := []
  polSig : Nat := 0
  deriving DecidableEq, Repr

/-- One DMA channel (R478 to R490). -/
structure Chan where
  /-- 0 idle, 1 active, 2 halted, 3 aborting. -/
  st : Nat := 0
  /-- A burst is in progress. -/
  busy : Bool := false
  /-- A descriptor is to be fetched. -/
  fetch : Bool := false
  issuer : Nat := 1
  cur : Nat := 0
  desc : Option Descriptor := none
  done : Nat := 0
  retries : Nat := 0
  cause : Nat := 0
  errAddr : Nat := 0
  deriving DecidableEq, Repr

/-- DMA (R478 to R490). -/
structure DmaSt where
  chans : Cells Chan := []
  /-- The channel served last, for the round robin. -/
  last : Nat := 31
  /-- Interrupts signalled: channel, 0 HALF, 1 FULL, 2 HALT. -/
  irqs : List (Nat × Nat) := []
  deriving DecidableEq, Repr

/-- One SerDes lane (R508 to R511). -/
structure Lane where
  locked : Bool := false
  bits : Nat := 0
  injectedBits : Nat := 0
  deriving DecidableEq, Repr

/-- Link test (R508 to R511). -/
structure Lt where
  lanes : Cells Lane := []
  lane : Nat := 0
  deriving DecidableEq, Repr

end Sys2Proof.Machine
end

