-- ==== Sys2Proof/Machine/State.lean ====
section
/-! DEFINITION. The state of the unit as plain data, what makes a step stop, and the state in reset. -/

namespace Sys2Proof.Machine

/-- The machine: everything the spec gives the unit, and the queue of commands that wait. -/
structure State where
  /-- Which part of the series it is (R1); fused, never written. -/
  part : Part := .ux6464
  /-- The commands waiting, first in, first out. -/
  pending : List Instr := []
  /-- How many free values have been taken (assumption log 2): the model's own field. -/
  free : Nat := 0
  dw : Dw := {}
  pwr : Pwr := {}
  stage : Stage := {}
  slots : Cells Slot := []
  seqs : Cells Seq := []
  shelf : Shelf := {}
  /-- Link ends: 2n the controller's end of slot n, 2n + 1 the sequencer's. -/
  ends : Cells LinkEnd := []
  media : Media := {}
  io : Io := {}
  ten : Ten := {}
  host : HostSt := {}
  srch : Srch := {}
  ddr : Ddr := {}
  efl : Efl := {}
  fw : Fw := {}
  gbk : Gbk := {}
  dma : DmaSt := {}
  lt : Lt := {}
  deriving DecidableEq, Repr

/-- Why the machine stops with a fault. -/
inductive Fault where
  /-- A pin, sensor, lane or instance number that no part has (R1, R2): raised by the event commands when their operand names one. Safe: the hardware has no such input. -/
  | noSuchInstance (n : Nat)
  deriving DecidableEq, Repr

/-- Why a command has no meaning. -/
inductive Refusal where
  /-- Raised by `exec` for a command whose meaning is not modelled. Safe. -/
  | notModelled (mnemonic : String)
  deriving DecidableEq, Repr

/-- The unit in reset (R460, R498): `PORST_N` is low, every register at its reset value, nothing waiting. The cold start of R203 is the command COLD_START. -/
def State.reset : State := {}

end Sys2Proof.Machine
end

