-- ==== Sys2Proof/Machine/Ops.lean ====
section
/-! DEFINITION. The named operations over the state that every family of commands shares. -/

namespace Sys2Proof.Machine

/-- The outcome of a command. -/
abbrev Out := Host.Outcome State Fault Refusal

/-- Change one entry of addressed state. -/
def Cells.mod {α : Type} [DecidableEq α] (d : Nat → α) (m : Cells α) (k : Nat) (f : α → α) : Cells α :=
  m.put d k (f (m.get d k))

/-! ## The part (R1, R2, R11, R12) -/

def Part.slots : Part → Nat | .ux6464 => 64 | .ux6432 => 32 | .ux6416 => 16
def Part.groups : Part → Nat | .ux6464 => 4 | .ux6432 => 2 | .ux6416 => 1
def Part.tenants : Part → Nat | .ux6464 => 1024 | .ux6432 => 512 | .ux6416 => 256
def Part.keySearch : Part → Bool | .ux6416 => false | _ => true
def Part.scan : Part → Bool | .ux6464 => true | _ => false
def Part.code : Part → Nat | .ux6464 => 0x6464 | .ux6432 => 0x6432 | .ux6416 => 0x6416
/-- `DEV_CAP` (R11). -/
def Part.cap : Part → Nat | .ux6464 => 0x013FAF3F | .ux6432 => 0x0134969F | .ux6416 => 0x0134824F
/-- The fraction of the series' nominal rates: 4, 2 or 1 quarters (R314). -/
def Part.quarters : Part → Nat | .ux6464 => 4 | .ux6432 => 2 | .ux6416 => 1

/-! ## Free values (assumption log 2) -/

/-- The next free value. -/
def State.freeVal (s : State) : Nat := Config.freeNat s.free
/-- Count a free value as taken. -/
def State.took (s : State) : State := { s with free := s.free + 1 }

/-! ## Registers -/

def State.reg (s : State) (off : Nat) : Nat := s.dw.regs.get rwReset off
def State.setReg (s : State) (off v : Nat) : State :=
  { s with dw.regs := s.dw.regs.put rwReset off v }
/-- Count events in a saturating RC counter (R17, R105). -/
def State.bump (s : State) (off n : Nat) : State :=
  { s with dw.cnt := s.dw.cnt.mod zeroCell off (fun v => satAdd 32 v n) }
/-- Set W1C bits (R17). -/
def State.raise (s : State) (off bits : Nat) : State :=
  { s with dw.w1c := s.dw.w1c.mod zeroCell off (fun v => v ||| bits) }
def State.w1c (s : State) (off : Nat) : Nat := s.dw.w1c.get zeroCell off
/-- An ST field in force (R19). -/
def State.inf (s : State) (k : Nat) : Nat := s.dw.inForce.get stReset k
/-- The shadow of an ST field (R30). -/
def State.sh (s : State) (k : Nat) : Nat := s.dw.shadow.get stReset k
def State.setSh (s : State) (k v : Nat) : State :=
  { s with dw.shadow := s.dw.shadow.put stReset k v }
/-- Set a field both in force and in the shadow (R320, R329). -/
def State.setBoth (s : State) (k v : Nat) : State :=
  { s with dw.shadow := s.dw.shadow.put stReset k v, dw.inForce := s.dw.inForce.put stReset k v }
/-- `STAGE_STAT.DIRTY` (R30): both maps are canonical, so they differ exactly when some field does. -/
def State.dirty (s : State) : Bool := s.dw.inForce ≠ s.dw.shadow

/-! ## Indexed units -/

def slot0 (_ : Nat) : Slot := {}
def State.slot (s : State) (n : Nat) : Slot := s.slots.get slot0 n
def State.modSlot (s : State) (n : Nat) (f : Slot → Slot) : State :=
  { s with slots := s.slots.mod slot0 n f }
def seq0 (_ : Nat) : Seq := {}
def State.seqOf (s : State) (n : Nat) : Seq := s.seqs.get seq0 n
def State.modSeq (s : State) (n : Nat) (f : Seq → Seq) : State :=
  { s with seqs := s.seqs.mod seq0 n f }
def end0 (_ : Nat) : LinkEnd := {}
/-- The end of slot `n`'s link that receives: the controller's (`toCtrl`) or the sequencer's. -/
def endKey (n : Nat) (toCtrl : Bool) : Nat := 2 * n + (if toCtrl then 0 else 1)
def State.endOf (s : State) (k : Nat) : LinkEnd := s.ends.get end0 k
def State.modEnd (s : State) (k : Nat) (f : LinkEnd → LinkEnd) : State :=
  { s with ends := s.ends.mod end0 k f }
def ctrl0 (_ : Nat) : Ctrl := {}
def State.ctrl (s : State) (n : Nat) : Ctrl := s.io.ctrls.get ctrl0 n
def State.modCtrl (s : State) (n : Nat) (f : Ctrl → Ctrl) : State :=
  { s with io.ctrls := s.io.ctrls.mod ctrl0 n f }
def port0 (_ : Nat) : Port := {}
def State.port (s : State) (n : Nat) : Port := s.host.ports.get port0 n
def State.modPort (s : State) (n : Nat) (f : Port → Port) : State :=
  { s with host.ports := s.host.ports.mod port0 n f }
def tenant0 (_ : Nat) : Tenant := {}
def State.tenant (s : State) (n : Nat) : Tenant := s.ten.tbl.get tenant0 n
def State.modTenant (s : State) (n : Nat) (f : Tenant → Tenant) : State :=
  { s with ten.tbl := s.ten.tbl.mod tenant0 n f }
def pool0 (_ : Nat) : Pool := {}
def State.pool (s : State) (n : Nat) : Pool := s.media.pools.get pool0 n
def State.modPool (s : State) (n : Nat) (f : Pool → Pool) : State :=
  { s with media.pools := s.media.pools.mod pool0 n f }
def band0 (_ : Nat) : Band := {}
def State.band (s : State) (n : Nat) : Band := s.media.bands.get band0 n
def State.modBand (s : State) (n : Nat) (f : Band → Band) : State :=
  { s with media.bands := s.media.bands.mod band0 n f }
def chan0 (_ : Nat) : Chan := {}
def State.chan (s : State) (n : Nat) : Chan := s.dma.chans.get chan0 n
def State.modChan (s : State) (n : Nat) (f : Chan → Chan) : State :=
  { s with dma.chans := s.dma.chans.mod chan0 n f }
def lane0 (_ : Nat) : Lane := {}
def State.lane (s : State) (n : Nat) : Lane := s.lt.lanes.get lane0 n
def State.modLane (s : State) (n : Nat) (f : Lane → Lane) : State :=
  { s with lt.lanes := s.lt.lanes.mod lane0 n f }

/-- Fold an operation over a list of operands. -/
def State.each {α : Type} (s : State) (l : List α) (f : State → α → State) : State := l.foldl f s

/-! ## Association lists -/

def look {κ α : Type} [DecidableEq κ] (l : List (κ × α)) (k : κ) : Option α :=
  (l.find? (fun e => e.1 = k)).map (·.2)
def place {κ α : Type} [DecidableEq κ] (l : List (κ × α)) (k : κ) (v : α) : List (κ × α) :=
  (k, v) :: l.filter (fun e => e.1 ≠ k)
def drop' {κ α : Type} [DecidableEq κ] (l : List (κ × α)) (k : κ) : List (κ × α) :=
  l.filter (fun e => e.1 ≠ k)

/-! ## The guestbook's queue (R462 to R466) -/

/-- Calendar time (R463). -/
def State.calMs (s : State) : Nat := (s.gbk.uptime + s.gbk.calOff) % 2 ^ 48
/-- `ATTR` (R462): Synch 0, origin 001b once the Manager set the time. -/
def State.calAttr (s : State) : Nat := if s.gbk.calSet then 2 else 0

/-- Whether repeats of a code are coalesced (R43, R104, R136, R176, R248, R260, R309, R339, R378, R401, R422, R444, R461, R470). -/
def coalesces (code : Nat) : Bool :=
  (0x0110 ≤ code && code ≤ 0x0114) || (0x0200 ≤ code && code < 0x0600) || code = 0x0605
  || (0x0607 ≤ code && code < 0x0A00) || code = 0x0A02 || code = 0x0A10

/-- Put a record into the queue, or drop it when the queue is full (R466). -/
def State.enqueue (s : State) (r : Rec) : State :=
  if s.gbk.queue.length < 1024 then { s with gbk.queue := s.gbk.queue ++ [r] }
  else
    let s := s.bump (dwGBK + 0x10) 1
    { s with gbk.droppedSince := s.gbk.droppedSince + 1, gbk.dropped := s.gbk.dropped + 1 }

/-- A record of an event that happens now. -/
def State.recOf (s : State) (code : Nat) (ps : List Nat) : Rec :=
  { code := code, attr := s.calAttr, time := s.calMs, ps := ps }

/-- An occurrence of an event (R464, R465). -/
def State.log (s : State) (code : Nat) (ps : List Nat) : State :=
  let key := ps.headD 0
  if coalesces code = false then s.enqueue (s.recOf code ps)
  else if s.gbk.tracked.any (fun t => t.code = code ∧ t.key = key) then
    let s := s.bump (dwGBK + 0x18) 1
    { s with gbk.tracked := s.gbk.tracked.map (fun t =>
        if t.code = code ∧ t.key = key then
          { t with count := satAdd 16 t.count 1
                   first := if t.count = 0 then s.calMs else t.first
                   last := s.calMs, ps := ps }
        else t) }
  else
    let s := s.enqueue (s.recOf code ps)
    if s.gbk.tracked.length < 64 then
      { s with gbk.tracked := s.gbk.tracked ++ [{ code := code, key := key }] }
    else s

/-! ## Controllers, privilege and completions -/

/-- Whether physical function 0 has Manager privilege (R310): it rules BAR2 whether or not controller 0 runs yet. -/
def State.pf0Manager (s : State) : Bool := s.ten.pf0Mgr || s.pwr.mode = 1 || s.pwr.mode = 2
/-- Manager privilege (R310). -/
def State.isManager (s : State) (id : Nat) : Bool :=
  let c := s.ctrl id
  match c.kind with
  | .pf0 => c.exist && s.pf0Manager
  | .fabric => c.exist && c.tenant = 0 && c.authed
  | _ => false

/-- The controllers that exist, in ascending order. -/
def State.ctrlIds (s : State) : List Nat := (s.io.ctrls.filter (fun e => e.2.exist)).map (·.1)
def State.managers (s : State) : List Nat := s.ctrlIds.filter s.isManager

/-- The Do Not Retry bit of a status (R307, R308). -/
def Status.dnr : Status → Bool
  | .success | .nsNotReady | .sqDeleted | .abortLimit | .transientTransport | .dataTransfer => false
  | .vendor c => c ≠ 0x84 && c ≠ 0x88 && c ≠ 0x8A
  | _ => true

/-- Whether a completion is entered in the Error Information log (R307). -/
def Status.logged : Status → Bool
  | .success => false
  | .vendor c => c ≠ 0x80 && c ≠ 0x81
  | _ => true

/-- The connection a command came on, on a fabric controller. -/
def State.connOf (s : State) (id : CmdId) : Option Conn := s.host.conns.find? (fun x => x.ctrl = some id.ctrl ∧ x.qid = id.sq)

/-- Whether the SUCCESS flag on the last C2HData PDU takes the place of the response capsule (R259). -/
def State.inPdu (s : State) (id : CmdId) (st : Status) (data : List Byte) : Bool :=
  st = .success && !data.isEmpty && (s.connOf id).any (fun x => !x.rdma && !x.noSuccess)

/-- Post a completion: the command leaves the controller, with its flight, locks and watch entry. -/
def State.post (s : State) (id : CmdId) (st : Status) (dw0 : Nat := 0) (dw1 : Nat := 0) (data : List Byte := []) : State :=
  { s with
    io.flights := s.io.flights.filter (fun f => f.c.id ≠ id)
    io.locks := s.io.locks.filter (fun l => l.id ≠ id)
    io.watch := s.io.watch.filter (fun w => w ≠ id)
    io.posted := s.io.posted ++ [{ id := id, st := st, dnr := st.dnr, dw0 := dw0, dw1 := dw1, data := data, inPdu := s.inPdu id st data }]
    io.errLog := if st.logged then (s.io.errCount + 1, id, st) :: s.io.errLog else s.io.errLog
    io.errCount := if st.logged then s.io.errCount + 1 else s.io.errCount }

/-- Refuse a command. -/
def State.refuse (s : State) (c : Cmd) (st : Status) : State := s.post c.id st

/-- Post an asynchronous event to a controller: it completes an outstanding request, or waits for one (R277). -/
def State.aen (s : State) (ctrl : Nat) (e : Aen) : State :=
  match (s.ctrl ctrl).aers with
  | id :: rest =>
    (s.modCtrl ctrl (fun c => { c with aers := rest })).post id .success (e.typ + 256 * e.info + 65536 * e.page)
  | [] => s.modCtrl ctrl (fun c => { c with aens := c.aens ++ [e] })

/-- A vendor event that names a log page, to every controller with Manager privilege (R106). -/
def State.aenManagers (s : State) (page : Nat) : State :=
  s.each s.managers (fun s m => s.aen m ⟨7, 0, page⟩)

/-- Namespace Attribute Changed (R204, R334). -/
def aenNsChanged : Aen := ⟨2, 0, 4⟩

/-- Whether the device window's registers can be reached now: the `CTL` domain is on (R445, R450). -/
def State.ctlOn (s : State) : Bool :=
  s.pwr.phase ≠ .held && (match s.pwr.sleep with | .asleep t => t ≤ 1 | _ => true)

/-- Whether the controller takes commands from this host controller now: firmware runs, and the controller is enabled and ready (R204, R300, R439). -/
def State.accepts (s : State) (c : Cmd) : Bool :=
  let k := s.ctrl c.id.ctrl
  s.pwr.phase = .run && s.ctlOn && k.exist && (k.rdy && k.shst = 0 && !k.resetting || c.viaMI)

/-- Latch a wake source (R455). -/
def State.latch (s : State) (b : Nat) : State :=
  let was := s.w1c (dwPWR + 0x84)
  let s := s.raise (dwPWR + 0x84) (2 ^ b)
  if was = 0 then { s with pwr.wakeSrc := b } else s

/-- A command arrives: it wakes the unit after an entry request, and returns its controller to PS0 (R448, R455). -/
def State.cmdArrives (s : State) (c : Cmd) : State :=
  if s.pwr.sleep = .active ∧ (s.ctrl c.id.ctrl).ps = 0 then s
  else
    let s := if s.pwr.sleep = .active then s else s.latch 8
    s.modCtrl c.id.ctrl (fun k => { k with ps := 0 })

/-- Intake stage 1 for an admin command (R3, R279, R287): authentication first, then its unit and privilege; then FUSE. -/
def adminOf (present mgr : Bool) (c : Cmd) (s : State) (f : State → State) : Out :=
  if s.accepts c = false then .next s
  else
    let s := s.cmdArrives c
    let k := s.ctrl c.id.ctrl
    if k.authReq && !k.authed then .next (s.refuse c .authentication)
    else if !present || (mgr && !s.isManager c.id.ctrl) then .next (s.refuse c .invalidOpcode)
    else if c.fuse ≠ 0 then .next (s.refuse c .invalidField)
    else .next (f s)

/-- An admin command whose unit every part has. -/
def adminCmd (mgr : Bool) (c : Cmd) (s : State) (f : State → State) : Out := adminOf true mgr c s f

/-- A reserved field that is not zero, or another field check that fails, is refused with Invalid Field in Command (R20). -/
def State.check (s : State) (c : Cmd) (ok : Bool) (f : State → State) : State :=
  if ok then f s else s.refuse c .invalidField

/-- Whether the datapath (`CORE`) is on (R37, R450). -/
def State.coreOn (s : State) : Bool :=
  s.pwr.phase = .run && (match s.pwr.sleep with | .asleep _ => false | .exiting _ => false | _ => true)

/-! ## Slots (R4, R6, R8) -/

/-- Act on a slot: an operand that no part has faults, a slot that this part lacks has no function (R8). -/
def onSlot (s : State) (n : Nat) (f : State → State) : Out :=
  if n ≥ 64 then .fault (.noSuchInstance n)
  else if n ≥ s.part.slots then .next s
  else .next (f s)

/-- Set EVENT bits of a slot, and post the event of R106 when one is newly set and enabled. -/
def State.slotEvent (s : State) (n bit : Nat) : State :=
  let fresh := (s.w1c (dwCART n + 0x40)).testBit bit = false
  let en := (s.reg (dwCART n + 0x44)).testBit bit
  let s := s.raise (dwCART n + 0x40) (2 ^ bit)
  if fresh && en then
    if (s.slot n).aenOpen then s.modSlot n (fun x => { x with aenLate := true })
    else (s.modSlot n (fun x => { x with aenOpen := true })).aenManagers 0xC0
  else s

/-- Drop `CART_PWREN` and take the link down (R72, R224, R457). -/
def State.powerDown (s : State) (n : Nat) : State :=
  let s := if (s.slot n).phase = 5 then s.slotEvent n 5 else s
  s.modSlot n (fun x => { x with pwren := false, waitPower := false, phase := 0, width := 0, upWidth := 0, lanes := 0,
                                 depth := 0, farPver := 0, farBuf := 0, mgmtDue := false, syncDue := false, out := [], queue := [], heldTags := [],
                                 dataQ := [], reauth := false, updating := false, rolling := false, offAfterShutdown := false })

/-- A slot enters REJECTED (R52, R104). -/
def State.reject (s : State) (n reason : Nat) : State :=
  let s := (s.powerDown n).modSlot n (fun x => { x with st := .rejected, reason := reason, auth := false })
  (s.slotEvent n 3).log 0x0304 [n, reason]

/-- Wait for power in ascending slot order under the stagger of R457. -/
def State.askPower (s : State) (n : Nat) : State :=
  s.modSlot n (fun x => { x with st := .powering, waitPower := true, phase := 0, auth := false, updTried := false })

/-- The members of pool `p` among the slots. -/
def State.poolSlots (s : State) (p : Nat) : List Nat :=
  (s.slots.filter (fun e => e.2.pool = some p)).map (·.1)
def State.inService (s : State) (p : Nat) : List Nat :=
  (s.slots.filter (fun e => e.2.pool = some p ∧ e.2.st = .inService)).map (·.1)

/-- Class of a cartridge (R48): MODEL, BITS_PER_CELL, DIE_COUNT, BLOCKS_OFFERED, PAGES_DENSE. -/
def Slot.cls (x : Slot) : List Nat :=
  [leAt x.desc 8 16, leAt x.desc 53 1, leAt x.desc 50 2, leAt x.desc 54 2, leAt x.desc 58 2]
def Slot.bits (x : Slot) : Nat := leAt x.desc 53 1
def Slot.dieCount (x : Slot) : Nat := leAt x.desc 50 2
def Slot.offered (x : Slot) : Nat := leAt x.desc 54 2
def Slot.pagesDense (x : Slot) : Nat := leAt x.desc 58 2
def Slot.pagesSlc (x : Slot) : Nat := leAt x.desc 60 2
def Slot.peDense (x : Slot) : Nat := leAt x.desc 68 4
def Slot.peSlc (x : Slot) : Nat := leAt x.desc 72 4
def Slot.model (x : Slot) : Nat := leAt x.desc 8 16

/-- `LIFE_USED` (R65), saturating at 2,047 (R105). -/
def lifeUsed (x : Slot) (l : Life) : Nat :=
  min 2047 (1000 * (l.dense * x.peSlc + l.slc * x.peDense) / (x.peSlc * x.peDense * x.dieCount * x.offered))

/-- Failed dies (R105): those the controller saw fail, and those LIFE_READ reports. -/
def Slot.deadDies (x : Slot) : Nat := max x.diesFailed.length x.lifeDead

/-- The retirement conditions of R66, one bit each as in code 0x030D. -/
def Slot.retireBits (x : Slot) : Nat :=
  flag (x.life ≥ 900) 0 + flag (20 * x.retired > x.dieCount * x.offered) 1
    + flag (32 * x.deadDies > x.dieCount) 2

/-- Commands of the identity exchange start again with it; the others stay outstanding for SYNC (R93, R94). -/
def Purpose.identity : Purpose → Bool
  | .identify | .cert _ | .challenge | .sync | .admitLife => true
  | _ => false

/-- The lowest tag not in use (R85): neither by an outstanding command nor by a failed program whose data the sequencer holds (R101). -/
def freeTag (x : Slot) : Nat :=
  ((List.range (x.out.length + x.heldTags.length + 1)).find? (fun t => !(x.out.any (fun e => e.1 = t)) && !(x.heldTags.contains t))).getD 0

/-- A command slot is free (R85); `CMD_DEPTH` is at least 256 (R46, R47). -/
def Slot.room (x : Slot) : Bool := x.out.length + x.heldTags.length < max 256 x.depth
/-- A command may go to the cartridge now: a command slot is free, and no media command goes while the cartridge authenticates again (R53, R85). -/
def Slot.mayIssue (x : Slot) (op : Nat) : Bool := x.room && !(x.reauth && 0x10 ≤ op && op ≤ 0x33)
/-- The command goes: it takes the lowest free tag, and its data frames wait for their turn. -/
def Slot.issue (x : Slot) (o : OutCmd) : Slot :=
  let t := freeTag x
  { x with out := x.out ++ [(t, { o with m := { o.m with tag := t } })], dataQ := x.dataQ ++ o.frames.map (fun e => (t, e.1)) }
/-- A command waits; those of the identity exchange stand before the others. -/
def Slot.enqueue (x : Slot) (o : OutCmd) : Slot :=
  if o.why.identity then { x with queue := x.queue.filter (fun y => y.why.identity) ++ o :: x.queue.filter (fun y => !y.why.identity) }
  else { x with queue := x.queue ++ [o] }
/-- Issue the first waiting commands that may go, at most `n`. -/
def Slot.feed (x : Slot) : Nat → Slot
  | 0 => x
  | n + 1 =>
    match x.queue.find? (fun o => x.mayIssue o.op) with
    | none => x
    | some o => (({ x with queue := x.queue.erase o } : Slot).issue o).feed n
/-- Issue every waiting command that may go. -/
def Slot.feedAll (x : Slot) : Slot := x.feed x.queue.length

/-- Send a command to a cartridge (R85): it takes a tag and stays outstanding until its final status, or waits until it may go. -/
def State.send (s : State) (n op : Nat) (m : CartCmd) (why : Purpose) (fr : List (Nat × BitVec 36864) := []) : State :=
  s.modSlot n (fun x =>
    let o : OutCmd := { op := op, m := m, why := why, tSlow := s.media.tSlow, frames := fr }
    if x.mayIssue op then x.issue o else x.enqueue o)

/-- The command outstanding under a tag. -/
def Slot.cmdAt (x : Slot) (t : Nat) : Option OutCmd := look x.out t
/-- A command has ended: its tag is free unless the sequencer holds data under it (R101), and a waiting command may take its place. -/
def State.retireTag (s : State) (n t : Nat) (keep : Bool := false) : State :=
  s.modSlot n (fun x => ({ x with
    out := x.out.filter (fun e => e.1 ≠ t), dataQ := x.dataQ.filter (fun e => e.1 ≠ t)
    heldTags := if keep then t :: x.heldTags else x.heldTags } : Slot).feedAll)
/-- Commands leave that no final status ends (R93). -/
def Slot.dropCmds (x : Slot) (p : Purpose → Bool) : Slot :=
  let gone := (x.out.filter (fun e => p e.2.why)).map (fun e => e.1)
  ({ x with out := x.out.filter (fun e => !p e.2.why), queue := x.queue.filter (fun o => !p o.why), dataQ := x.dataQ.filter (fun e => !gone.contains e.1) } : Slot).feedAll

/-- Count in the media counters of R135 (64 bits, saturating). -/
def State.media' (s : State) (n off k : Nat) : State :=
  { s with slots := if n < 64 then s.slots.mod slot0 n (fun x => { x with media := x.media.mod zeroCell off (fun v => satAdd 64 v k) }) else s.slots }

end Sys2Proof.Machine
end

