-- ==== Sys2Proof/Machine/Access.lean ====
section
/-! DEFINITION. Which accesses of the device window reach a register (R6, R42, R43, R274). -/

namespace Sys2Proof.Machine

/-- `MODE` of host group `g` (R249). -/
def State.grpMode (s : State) (g : Nat) : Nat := s.reg (dwGROUP g) % 8
/-- Lanes of each port in a mode (R249). -/
def modeLanes (m : Nat) : Nat := match m with | 1 => 1 | 2 => 2 | 3 => 4 | 4 => 8 | _ => 0
/-- Line rate of a port in a mode, Gb/s (R249). -/
def modeRate (m : Nat) : Nat := 100 * modeLanes m
/-- Whether a port number names a port in its group's present mode (R249, R274). -/
def State.portExists (s : State) (p : Nat) : Bool :=
  let g := p / 16
  let l := modeLanes (s.grpMode g)
  g < s.part.groups && l ≠ 0 && p % 16 % l = 0
/-- The ports of a group in its present mode. -/
def State.portsOf (s : State) (g : Nat) : List Nat :=
  ((List.range 16).map (fun i => 16 * g + i)).filter s.portExists

/-- Whether power domain `d` of R460 exists on the part (R9). -/
def Part.hasDomain (p : Part) (d : Nat) : Bool :=
  if d ≤ 4 then true
  else if d = 5 then p.keySearch
  else if d ≤ 9 then d - 6 < p.groups
  else d ≤ 17 && d - 10 < p.slots / 8

/-- Whether a SerDes lane index of R508 names a lane of the part. -/
def Part.hasLane (p : Part) (l : Nat) : Bool :=
  if l < 64 then l < 16 * p.groups else if l < 192 then l - 64 < 2 * p.slots else l < 208

/-- Whether a lane is in pattern mode: `GEN_PAT`, `CHK_PAT` or `LOOP` is not zero (R508). -/
def State.lanePattern (s : State) (l : Nat) : Bool := s.reg (dwLANE l) &&& 0x677 ≠ 0
/-- The lanes of a port in its group's present mode. -/
def State.portLanes (s : State) (p : Nat) : List Nat := (List.range (modeLanes (s.grpMode (p / 16)))).map (fun i => p + i)

/-- Whether the location belongs to a unit and instance that is present (R2, R6, R42, R274, R338). -/
def State.locPresent (s : State) (off : Nat) : Bool :=
  if off < 0x70000 then
    (if dwKEY 0 ≤ off ∧ off < dwKEY 18 then s.part.hasDomain ((off - dwKEY 0) / 4) else true)
  else if off < 0x80000 then s.pwr.mode = 1
  else if off < 0x90000 then
    (if off < dwLANE 0 then true else s.part.hasLane ((off - dwLANE 0) / 0x40))
  else if off < 0x100000 then false
  else if off < 0x140000 then (off - 0x100000) / 0x1000 < s.part.slots
  else if off < 0x200000 then false
  else if off < 0x300000 then
    (if 0x400 ≤ off - dwSRCH ∧ off - dwSRCH < 0x600 then s.part.scan
     else if 0x280 ≤ off - dwSRCH ∧ off - dwSRCH < 0x2C0 then s.part.scan
     else if off - dwSRCH ≥ 4 then s.part.keySearch else true)
  else if off < 0x340000 then s.portExists ((off - dwHOST) / 0x1000)
  else if off < 0x344000 then (off - dwGROUP 0) / 0x1000 < s.part.groups
  else true

/-- Blocks that respond in rescue mode (R42). -/
def rescueBlock (off : Nat) : Bool :=
  off < 0x10000 || (0x20000 ≤ off && off < 0x70000) || (0x80000 ≤ off && off < 0x90000)

/-- What a path's access meets before any register (R42, R43). -/
inductive Reach where
  /-- The location answers. -/
  | ok
  /-- It reads zero and ignores writes. -/
  | silent
  /-- BAR2 without Manager privilege: as silent, and code 0x0A10 is written. -/
  | denied
  /-- Nothing answers: the window has no clock, or no firmware serves the path. -/
  | dead
  deriving DecidableEq, Repr

/-- How far an access gets. -/
def State.reach (s : State) (p : Path) (off : Nat) : Reach :=
  if s.ctlOn = false then .dead
  else if s.pwr.phase = .rescue then
    (if p = .bar2 then (if rescueBlock off && s.locPresent off then .ok else .silent) else .dead)
  else if p = .bar2 ∧ s.pf0Manager = false then .denied
  else if off < 0x400000 ∧ s.locPresent off then .ok else .silent

/-- Carry out a window write where it reaches its register. -/
def winWrite (p : Path) (off : Nat) (s : State) (f : State → State) : Out :=
  match s.reach p off with
  | .ok => .next (f s)
  | .denied => .next (s.log 0x0A10 [0, off, 1])
  | .silent => .next s
  | .dead => .next s

end Sys2Proof.Machine
end

