-- ==== Sys2Proof/Machine/Flags.lean ====
section
/-! DEFINITION. The codes of the spec: CRCs, the parities P and Q, and the encoding and scrambling of codewords. -/

namespace Sys2Proof.Machine

/-- One bit of a reflected CRC. -/
def crcBit (poly v : Nat) : Nat := if v % 2 = 1 then (v / 2) ^^^ poly else v / 2
/-- One byte of a reflected CRC. -/
def crcByte (poly v : Nat) (b : Byte) : Nat :=
  (List.range 8).foldl (fun a _ => crcBit poly a) (v ^^^ b.toNat)
/-- A reflected CRC of `w` bits with all-ones start and final inversion. -/
def crcRefl (poly w : Nat) (l : List Byte) : Nat :=
  l.foldl (crcByte poly) (2 ^ w - 1) ^^^ (2 ^ w - 1)
/-- CRC-32C (R46, R182, R188, R361, R424 to R427, R436, R440, R462). -/
def crc32c (l : List Byte) : Nat := crcRefl 0x82F63B78 32 l
/-- CRC-32 of IEEE 802.3 (R81, R82). -/
def crc32 (l : List Byte) : Nat := crcRefl 0xEDB88320 32 l
/-- The NVMe CRC-64 (R282; its polynomial PRESUMED from the NVMe specification, log 9). -/
def crc64 (l : List Byte) : Nat := crcRefl 0x9A6C9329AC4BC9B5 64 l
/-- The CRC-16 of T10 DIF (R282; its polynomial PRESUMED from T10, log 9). -/
def crc16 (l : List Byte) : Nat :=
  l.foldl (fun a b => (List.range 8).foldl
    (fun x _ => if x ≥ 0x8000 then ((2 * x) % 65536) ^^^ 0x8BB7 else 2 * x) (a ^^^ (b.toNat * 256))) 0

/-- Multiplication by g = 2 in GF(2^8) with 0x11D (R208). -/
def gfDouble (a : Nat) : Nat := if a ≥ 128 then (2 * a) ^^^ 0x11D else 2 * a
/-- Multiplication in GF(2^8) (R208). -/
def gfMul (a b : Nat) : Nat :=
  (List.range 8).foldl (fun acc i => if b.testBit i then acc ^^^ (List.range i).foldl (fun x _ => gfDouble x) a else acc) 0
/-- g to a power. -/
def gfPow (n : Nat) : Nat := (List.range n).foldl (fun x _ => gfDouble x) 1
/-- The multiplicative inverse: a to the 254. -/
def gfInv (a : Nat) : Nat := (List.range 254).foldl (fun x _ => gfMul x a) 1

/-- The bytes of a wide number, least significant first. -/
def bytesOf (n v : Nat) : List Nat := (List.range n).map (fun i => v / 256 ^ i % 256)
/-- Multiply every byte of an information field by a constant. -/
def gfScale (c : Nat) (v : BitVec 32896) : BitVec 32896 :=
  BitVec.ofNat 32896 ((bytesOf 4112 v.toNat).foldr (fun b acc => gfMul c b + 256 * acc) 0)

/-- The 4,112 information bytes of a codeword (R108, R114): the data field, then the tag. -/
def tagBits (t : Sys2Proof.Tag) : Nat :=
  t.seqLo % 2 ^ 48 + 2 ^ 48 * (t.lba % 2 ^ 44) + 2 ^ 92 * (t.kind % 16) + 2 ^ 96 * (t.nsx % 4096)
    + flag t.cfirst 108 + flag t.clast 109 + flag t.lost 110 + 2 ^ 112 * (t.bandChk % 65536)
def infoBits (c : Sys2Proof.Codeword) : BitVec 32896 :=
  BitVec.ofNat 32896 (c.data.toNat + 2 ^ 32768 * tagBits c.tag)
/-- The codeword of information bytes (R108, R114). -/
def ofInfo (v : BitVec 32896) : Sys2Proof.Codeword :=
  let t := v.toNat / 2 ^ 32768
  { data := BitVec.ofNat 32768 v.toNat,
    tag := { seqLo := t % 2 ^ 48, lba := t / 2 ^ 48 % 2 ^ 44, kind := t / 2 ^ 92 % 16, nsx := t / 2 ^ 96 % 4096,
             cfirst := t.testBit 108, clast := t.testBit 109, lost := t.testBit 110, bandChk := t / 2 ^ 112 % 65536 } }

/-! ## Encoding and scrambling (R107 to R109) -/

/-- One run of 28 bits of PRBS31 (x^31 + x^28 + 1) from the 31 bits before it, oldest lowest: the run, and the 31 bits then before the next. -/
def prbsRun (h : Nat) : Nat × Nat :=
  let new := (h % 2 ^ 28) ^^^ (h / 8 % 2 ^ 28)
  (new, h / 2 ^ 28 + 8 * new)
/-- `n` runs of the sequence, first bit lowest. -/
def prbsRuns : Nat → Nat → Nat
  | 0, _ => 0
  | n + 1, h => (prbsRun h).1 + 2 ^ 28 * prbsRuns n (prbsRun h).2
/-- The register's 31 bits, newest lowest, as the bits before the sequence, oldest lowest. -/
def reverse31 (v : Nat) : Nat := ((List.range 31).map (fun i => flag (v.testBit i) (30 - i))).sum
/-- The seed of a location (R108): page `q` of a die-block, codeword `k`. -/
def scrambleSeed (die block q k : Nat) : Nat :=
  let v := crc32c (toLe 1 die ++ toLe 2 block ++ toLe 2 q ++ toLe 1 k ++ [0, 0]) % 2 ^ 31
  if v = 0 then 1 else v
/-- The 36,864 bits that scramble a codeword at a location (R108). DESIGN CHOICE: seed bit j is the bit j + 1 places before the sequence, and the sequence meets the codeword at bit 0 of byte 0 first (assumption log 14). -/
def scrambler (die block q k : Nat) : BitVec 36864 := BitVec.ofNat 36864 (prbsRuns 1317 (reverse31 (scrambleSeed die block q k)))
/-- A codeword as it travels to a location (R107, R108): information bytes and LDPC parity, scrambled. -/
def wireWord (die block q k : Nat) (info : BitVec 32896) : BitVec 36864 :=
  (Config.ldpcParity info ++ info) ^^^ scrambler die block q k

/-- The information bytes of a codeword that was read and corrected, the sequence of its location removed (R108). -/
def descramble (die block q k : Nat) (word : BitVec 36864) : BitVec 32896 := (word ^^^ scrambler die block q k).setWidth 32896

/-- Recover the missing data members of a codeword row (R211), byte by byte: `d` the present data members with their numbers, `miss` the missing ones. -/
def recoverByte (d : List (Nat × Nat)) (p q : Option Nat) (miss : List Nat) : List (Nat × Nat) :=
  let dx := d.foldl (fun a e => a ^^^ e.2) 0
  let dq := d.foldl (fun a e => a ^^^ gfMul (gfPow e.1) e.2) 0
  match miss, p, q with
  | [j], some p, _ => [(j, p ^^^ dx)]
  | [j], none, some q => [(j, gfMul (gfInv (gfPow j)) (q ^^^ dq))]
  | [i, j], some p, some q =>
    let p' := p ^^^ dx
    let q' := q ^^^ dq
    let dj := gfMul (gfInv (gfPow i ^^^ gfPow j)) (q' ^^^ gfMul (gfPow i) p')
    [(i, p' ^^^ dj), (j, dj)]
  | _, _, _ => []

/-- The same over whole information fields. -/
def recoverInfo (d : List (Nat × BitVec 32896)) (p q : Option (BitVec 32896)) (miss : List Nat) : List (Nat × BitVec 32896) :=
  let at_ := fun (v : BitVec 32896) (i : Nat) => v.toNat / 256 ^ i % 256
  let per := (List.range 4112).map (fun i => recoverByte (d.map (fun e => (e.1, at_ e.2 i))) (p.map (at_ · i)) (q.map (at_ · i)) miss)
  miss.map (fun j => (j, BitVec.ofNat 32896 (per.foldr (fun l acc => ((l.find? (fun e => e.1 = j)).map (·.2)).getD 0 + 256 * acc) 0)))

end Sys2Proof.Machine
end

