-- ==== Sys2Proof/Machine/Sequencer.lean ====
section
/-! DEFINITION. The sequencer of a cartridge: its commands and what its dies report (R46, R50, R51, R64, R85 to R89, R94 to R103, R130). -/

namespace Sys2Proof.Machine

/-! ## What a cartridge brings (R46, R50, R64) -/

/-- A descriptor in the layout of R46, every field within the bounds that R46 and R47 give and otherwise free (assumption log 89). -/
def descOf (f : Nat → Nat) : List Byte :=
  let bits := 3 + f 5 % 2
  let slc := 1 + f 8 % 16383
  let pe := 1 + f 11 % 65535
  let body := pageOf 508 [(0, 4, 0x4D434453), (4, 2, 1), (6, 2, 512), (8, 16, f 0), (24, 16, f 1), (40, 8, f 2), (48, 2, f 3),
    (50, 2, 32 + f 4 % 225), (52, 1, 4), (53, 1, bits), (54, 2, 1 + f 6 % 65535), (56, 2, f 7), (58, 2, slc * bits), (60, 2, slc),
    (62, 2, 16384), (64, 2, 2048), (66, 2, 256 + f 9 % 3841), (68, 4, pe), (72, 4, pe + f 10 % 65536), (76, 2, f 12), (78, 2, f 13),
    (80, 2, f 14), (82, 2, f 15), (84, 4, 0x04000000 + f 16 % 0xFC000000), (88, 4, f 17), (92, 1, 2 * (f 18 % 2)), (93, 1, f 19),
    (97, 31, f 20), (128, 128, f 21)]
  body ++ toLe 4 (crc32c body)
/-- The cartridge's descriptor: the one already read, else what the cartridge is made with; it changes only through FW_ACTIVATE (R46, R49). -/
def Seq.descr (q : Seq) : List Byte := if q.desc.isEmpty then descOf (Config.cartField q.cart q.gen) else q.desc
/-- Descriptor fields as the sequencer knows them (R46). -/
def Seq.dies (q : Seq) : Nat := leAt q.descr 50 2
def Seq.offered (q : Seq) : Nat := leAt q.descr 54 2
def Seq.spare (q : Seq) : Nat := leAt q.descr 56 2
def Seq.bitsCell (q : Seq) : Nat := leAt q.descr 53 1
def Seq.pagesDense (q : Seq) : Nat := leAt q.descr 58 2
def Seq.pagesSlc (q : Seq) : Nat := leAt q.descr 60 2
def Seq.depth (q : Seq) : Nat := leAt q.descr 66 2
def Seq.bufSize (q : Seq) : Nat := leAt q.descr 84 4
def Seq.certCount (q : Seq) : Nat := leAt q.descr 92 1
/-- Certificate `k` (R50): at most 1,024 bytes, the same at each reading. -/
def Seq.cert (q : Seq) (k : Nat) : List Byte := toLe (1 + Config.cartCertLen q.cart k % 1024) (Config.cartCert q.cart k)

/-- What a CHALLENGE signature is taken over (R51): the 32-byte nonce, the 16-byte unit ID, the descriptor. -/
def challengeMsg (nonce unitId : Nat) (desc : List Byte) : List Byte := toLe 32 nonce ++ toLe 16 unitId ++ desc

/-! ## Messages and refusals -/

/-- The key of a die-block. -/
def blkKey (die block : Nat) : Nat := die * 65536 + block
def blk0 (_ : Nat) : SeqBlock := {}
def Seq.blk (q : Seq) (die block : Nat) : SeqBlock := q.blocks.get blk0 (blkKey die block)
def Seq.modBlk (q : Seq) (die block : Nat) (f : SeqBlock → SeqBlock) : Seq :=
  { q with blocks := q.blocks.mod blk0 (blkKey die block) f }

/-- Send a message: a status of R102, or the transfer grant `xferRdy`. -/
def Seq.say (q : Seq) (tag code : Nat) (vals : List Nat := []) (data : List Byte := []) : Seq :=
  { q with sent := { tag := tag, code := code, vals := vals, data := data } :: q.sent }
/-- How a transfer grant stands among the messages sent; status codes are below 100h. -/
def xferRdy : Nat := 0x103

/-- Codewords of a program unit (R98). -/
def Seq.unitCount (q : Seq) (mode : Nat) : Nat := if mode = 0 then 16 * q.bitsCell else 16

/-- The wordline of a page (R98). -/
def wlOf (q : Seq) (m : CartCmd) : Nat := if m.mode = 0 then m.page / q.bitsCell else m.page

/-- A READ names a location that a 10h status reported (R130). -/
def Seq.reported (q : Seq) (m : CartCmd) : Bool := q.relocs.any (fun e => e.1.1 = m.die ∧ e.2 = (m.block, wlOf q m))

/-- Operand ranges by opcode (R96, R97, R99 check 2). DESIGN CHOICE (assumption log 90): FW_DOWNLOAD with `COUNT` = 0 is out of range, and so is GET_CERT where no certificate is held. -/
def Seq.inRange (q : Seq) (op : Nat) (m : CartCmd) : Bool :=
  let die := m.die < q.dies
  let blk := m.block < q.offered
  match op with
  | 0x02 => m.arg ≤ 1 && q.certCount ≠ 0
  | 0x10 => die && m.plane < 4 && m.mode ≤ 1 && (q.reported m || (blk && m.page < (if m.mode = 0 then q.pagesDense else q.pagesSlc)))
      && m.cwMask < 16 && m.soft ≤ 2 && m.readLevel ≤ 31
  | 0x20 => die && blk && m.mode ≤ 1 && m.page < q.pagesSlc && m.count = q.unitCount m.mode
  | 0x21 => die && blk && m.mode ≤ 1
  | 0x30 => die
  | 0x33 => die && blk
  | 0x40 => 1 ≤ m.count && m.count ≤ 4096
  | _ => true

/-- The opcodes of R97. -/
def knownOp (op : Nat) : Bool := [0x01, 0x02, 0x03, 0x04, 0x10, 0x20, 0x21, 0x23, 0x24, 0x30, 0x31, 0x33, 0x40, 0x41, 0x50, 0x7F].contains op

/-- Whether an opcode names a die. -/
def namesDie (op : Nat) : Bool := op = 0x10 || op = 0x20 || op = 0x21 || op = 0x30 || op = 0x33

/-- The refusals of R85, R99, R102 and R103, in order: `none` accepts. -/
def Seq.refuse (q : Seq) (op : Nat) (m : CartCmd) : Option Nat :=
  let b := q.blk m.die m.block
  if q.shut then some 0x3F
  else if q.cmds.length + q.heldData.length ≥ q.depth ∨ q.cmds.any (fun e => e.1 = m.tag)
      ∨ q.heldData.any (fun e => e.1 = m.tag) then some 0x04
  else if knownOp op = false then some 0x02
  else if q.inRange op m = false then some 0x03
  else if namesDie op ∧ q.failedDies.contains m.die then some 0x14
  else if (op = 0x20 ∨ op = 0x21) ∧ b.retired then some 0x16
  else if op = 0x20 ∧ b.mode = 0xFF then some 0x12
  else if op = 0x20 ∧ b.mode ≠ m.mode then some 0x03
  else none

/-- Bytes of program buffer in use (R88, R101). -/
def Seq.bufUsed (q : Seq) : Nat :=
  ((q.cmds.map (fun e => if e.2.op = 0x20 ∧ e.2.state ≠ 0 then 4608 * e.2.m.count else 0)).sum)
    + (q.heldData.map (fun e => 4608 * e.2.length)).sum

/-- The first queued program that may be granted: none of its die waits before it, and the whole unit fits (R88). -/
def Seq.nextGrant (q : Seq) : List (Nat × SeqCmd) → List Nat → Option (Nat × SeqCmd)
  | [], _ => none
  | e :: l, dies =>
    if e.2.op = 0x20 ∧ e.2.state = 0 then
      if ¬ dies.contains e.2.m.die ∧ q.bufUsed + 4608 * e.2.m.count ≤ q.bufSize then some e
      else q.nextGrant l (e.2.m.die :: dies)
    else q.nextGrant l dies

/-- Change a command the sequencer holds. -/
def Seq.modCmd (q : Seq) (tag : Nat) (f : SeqCmd → SeqCmd) : Seq :=
  { q with cmds := q.cmds.map (fun e => if e.1 = tag then (e.1, f e.2) else e) }

/-- Take a command in. -/
def Seq.hold (q : Seq) (op state : Nat) (m : CartCmd) : Seq :=
  { q with cmds := q.cmds ++ [(m.tag, ⟨op, m, state, []⟩)] }

/-- Grant what can be granted, at most `n` programs. -/
def Seq.grants (q : Seq) : Nat → Seq
  | 0 => q
  | n + 1 =>
    match q.nextGrant q.cmds [] with
    | none => q
    | some e => ((q.modCmd e.1 (fun c => { c with state := 1 })).say e.1 xferRdy [0, e.2.m.count]).grants n

/-- Complete SHUTDOWN once every accepted program has its final status (R103). -/
def Seq.settle (q : Seq) : Seq :=
  if q.cmds.any (fun e => e.2.op = 0x20) then q
  else match q.cmds.find? (fun e => e.2.op = 0x7F) with
    | none => q
    | some e => ({ q with cmds := q.cmds.filter (fun x => x.1 ≠ e.1) }).say e.1 0x00

/-- A command's final status (R85): its tag is free again; the sequencer keeps the status until the controller has it (R94). -/
def Seq.final (q : Seq) (tag code : Nat) (vals : List Nat := []) (data : List Byte := []) : Seq :=
  let q : Seq := { q with cmds := q.cmds.filter (fun e => e.1 ≠ tag), unheard := q.unheard ++ [({ tag := tag, code := code, vals := vals } : SeqStatus)] }
  let q := q.say tag code vals data
  (q.grants q.cmds.length).settle

/-- The controller has the final status of a tag (R94). -/
def Seq.heard (q : Seq) (tag : Nat) : Seq := { q with unheard := q.unheard.filter (fun e => e.tag ≠ tag) }

/-- A `CMD` arrives at the sequencer of slot `n`, whose link is up. -/
def seqCmd (n op : Nat) (m : CartCmd) (s : State) (f : Seq → Seq) : Out :=
  onSlot s n (fun s =>
    if (s.slot n).pwren = false ∨ (s.slot n).phase ≠ 5 then s
    else s.modSeq n (fun q =>
      match q.refuse op m with
      | some code => q.say m.tag code
      | none => f q))

/-- A `CMD` with an opcode that R97 does not list (R99 check 1). -/
def seqUnknown (n op : Nat) (m : CartCmd) (s : State) : Out := seqCmd n op m s (fun q => q.say m.tag 0x02)

/-- CART_IDENTIFY (R46). -/
def execCartIdentify (n : Nat) (m : CartCmd) (s : State) : Out :=
  seqCmd n 0x01 m s (fun q => ({ q with desc := q.descr } : Seq).say m.tag 0 [q.descr.length] q.descr)

/-- GET_CERT (R50, R51). -/
def execGetCert (n : Nat) (m : CartCmd) (s : State) : Out :=
  seqCmd n 0x02 m s (fun q => q.say m.tag 0 [(q.cert m.arg).length] (q.cert m.arg))

/-- CHALLENGE (R51): the signature over the 48 bytes received and the descriptor. -/
def execChallenge (n : Nat) (m : CartCmd) (nonce unitId : Nat) (s : State) : Out :=
  let r := s.freeVal
  seqCmd n 0x03 m s.took (fun q => q.say m.tag 0 [64, nonce, unitId] (toLe 64 (Config.cartSign q.cart (challengeMsg nonce unitId q.descr) r)))

/-- One entry of SYNC (R97). -/
def syncEntry (e : Nat × SeqCmd) : List Byte := toLe 4 (e.1 + 65536 * e.2.state)

/-- The outstanding tags (R97): a failed program's data that is held, and a final status that was lost, stand as status pending. -/
def Seq.syncData (q : Seq) : List Byte :=
  q.cmds.flatMap syncEntry ++ (q.heldData.map (fun e => e.1) ++ (q.unheard.filter (fun e => !q.heldData.any (fun h => h.1 = e.tag))).map SeqStatus.tag).flatMap (fun t => toLe 4 (t + 65536 * 3))

/-- What follows SYNC at the sequencer (R94): a new grant for a program that awaits data, and each lost final status again. -/
def Seq.syncAgain (q : Seq) : Seq :=
  let q := (q.cmds.filter (fun e => e.2.state = 1)).foldl (fun q e => (q.modCmd e.1 (fun c => { c with frames := [] })).say e.1 xferRdy [0, e.2.m.count]) q
  q.unheard.foldl (fun q e => q.say e.tag e.code e.vals) q

/-- SYNC (R94, R97). -/
def execSync (n : Nat) (m : CartCmd) (s : State) : Out :=
  seqCmd n 0x04 m s (fun q => (q.say m.tag 0 [q.syncData.length] q.syncData).syncAgain)

/-- What a sense returns: the bytes held, with raw bit errors the spec leaves open (assumption log 2). -/
def sensed (held : List Byte) (noise : Nat) : List Byte :=
  let h := if held.isEmpty then List.replicate 4608 0xFF else held
  (h.zip (toLe 4608 noise)).map (fun e => e.1 ^^^ e.2)

/-- The index, in its unit, of codeword `k` of a page (R98). -/
def unitIndex (q : Seq) (m : CartCmd) (k : Nat) : Nat :=
  if m.mode = 0 then (m.plane * q.bitsCell + m.page % q.bitsCell) * 4 + k else m.plane * 4 + k

/-- A die that does not respond (R102): it is failed, and the command is answered with 14h. -/
def Seq.dieDead (q : Seq) (die tag : Nat) : Seq := ({ q with failedDies := die :: q.failedDies } : Seq).final tag 0x14

/-- CART_READ (R86, R87): each codeword of the mask in ascending order, then its soft frames; 14h where the die does not respond (R102). -/
def execCartRead (n : Nat) (r : ReadRun) (s : State) : Out :=
  let base := s.free
  let m := r.m
  let held := fun (q : Seq) k =>
    ((look (q.blk m.die m.block).pages (wlOf q m)).bind (fun u => u[unitIndex q m k]?)).getD []
  seqCmd n 0x10 m ({ s with free := base + 12 } : State) (fun q =>
    if r.dieAlive = false then q.dieDead m.die m.tag
    else
    let d := (bitsOf m.cwMask 4).flatMap (fun k =>
      sensed (held q k) (Config.freeNat (base + 3 * k))
        ++ ((List.range m.soft).flatMap (fun j => toLe 4608 (Config.freeNat (base + 3 * k + 1 + j)))))
    q.say m.tag 0 [d.length] d)

/-- The sequencer knows the wordline erased (R100): it erased the die-block since its last start, and no PROGRAM to the wordline was taken since. -/
def Seq.knownErased (q : Seq) (m : CartCmd) : Bool :=
  let b := q.blk m.die m.block
  b.fresh && !(b.pages.any (fun e => e.1 = m.page))
    && !(q.cmds.any (fun e => e.2.op = 0x20 ∧ e.2.m.die = m.die ∧ e.2.m.block = m.block ∧ e.2.m.page = m.page))

/-- CART_PROGRAM (R88, R99, R100): `blank` is what a sense of the wordline finds. -/
def execCartProgram (n : Nat) (m : CartCmd) (blank : Bool) (s : State) : Out :=
  seqCmd n 0x20 m s (fun q =>
    if (q.knownErased m || blank) = false then q.say m.tag 0x12
    else
      let q := q.hold 0x20 0 m
      q.grants q.cmds.length)

/-- An ERASE of a die-block releases its replacements (R130). -/
def Seq.release (q : Seq) (die block : Nat) : Seq :=
  let mine := q.relocs.filter (fun e => e.1.1 = die ∧ e.1.2.1 = block)
  let q : Seq := { q with relocs := q.relocs.filter (fun e => !(e.1.1 = die ∧ e.1.2.1 = block)) }
  mine.foldl (fun q e => q.modBlk die e.2.1 (fun b => { b with pages := drop' b.pages e.2.2 })) q

/-- ERASE (R64, R130): the count rises as the erase begins; what the die-block held is gone, its replacements with it. -/
def execErase (n : Nat) (m : CartCmd) (s : State) : Out :=
  seqCmd n 0x21 m s (fun q =>
    let q := (q.release m.die m.block).modBlk m.die m.block (fun b =>
      { b with dense := if m.mode = 0 then b.dense + 1 else b.dense
               slc := if m.mode = 1 then b.slc + 1 else b.slc
               mode := m.mode, fresh := false, pages := [] })
    q.hold 0x21 2 m)

/-- BUFFER_READ (R101). -/
def execBufferRead (n : Nat) (m : CartCmd) (s : State) : Out :=
  seqCmd n 0x23 m s (fun q =>
    match look q.heldData m.arg with
    | none => q.say m.tag 0x03
    | some fr => let d := fr.flatMap (·.2); q.say m.tag 0 [d.length] d)

/-- BUFFER_RELEASE (R101). -/
def execBufferRelease (n : Nat) (m : CartCmd) (s : State) : Out :=
  seqCmd n 0x24 m s (fun q =>
    match look q.heldData m.arg with
    | none => q.say m.tag 0x03
    | some _ =>
      let q := { q with heldData := drop' q.heldData m.arg }
      (q.say m.tag 0).grants q.cmds.length)

/-- One entry of WEAR_READ (R97). -/
def wearEntry (b : SeqBlock) : List Byte :=
  toLe 2 b.dense ++ toLe 2 b.slc ++ toLe 1 (if b.retired then 1 else 0) ++ toLe 1 b.mode ++ toLe 2 0

/-- WEAR_READ (R97). -/
def execWearRead (n : Nat) (m : CartCmd) (s : State) : Out :=
  seqCmd n 0x30 m s (fun q =>
    let d := (List.range q.offered).flatMap (fun b => wearEntry (q.blk m.die b))
    q.say m.tag 0 [d.length] d)

/-- The counts of LIFE_READ (R64, R97). -/
def Seq.lifeData (q : Seq) : List Byte :=
  let sum := fun (f : SeqBlock → Nat) => (q.blocks.map (fun e => f e.2)).sum
  let left := (List.range q.dies).map (fun d => q.spare - q.reserve.get zeroCell d)
  pageOf 64 [(0, 8, sum (·.dense)), (8, 8, sum (·.slc)), (16, 4, sum (fun b => if b.retired then 1 else 0)),
    (20, 2, q.failedDies.length), (22, 2, left.foldl min q.spare)]

/-- LIFE_READ. -/
def execLifeRead (n : Nat) (m : CartCmd) (s : State) : Out :=
  seqCmd n 0x31 m s (fun q => q.say m.tag 0 [64] q.lifeData)

/-- RETIRE_BLOCK (R99, R101). -/
def execRetireBlock (n : Nat) (m : CartCmd) (s : State) : Out :=
  seqCmd n 0x33 m s (fun q => (q.modBlk m.die m.block (fun b => { b with retired := true })).say m.tag 0)

/-- Image bytes arrive for a command from byte `off` of its data on (R97). -/
def Seq.putImage (q : Seq) (m : CartCmd) (off : Nat) (data : List Byte) : Seq :=
  let w := (data.take (64 * m.count - off)).mapIdx (fun i b => (m.arg + off + i, b.toNat + 1))
  { q with fwBytes := w.foldl (fun (c : Cells Nat) (e : Nat × Nat) => c.put zeroCell e.1 e.2) q.fwBytes }

/-- FW_DOWNLOAD (R97). -/
def execFwDownload (n : Nat) (m : CartCmd) (data : List Byte) (s : State) : Out :=
  seqCmd n 0x40 m s (fun q => (q.putImage m 0 data).say m.tag 0)

/-- A sequencer restart (R94, R100, R103): it forgets its commands, held data and what it knew erased; a wordline being programmed holds open content. -/
def Seq.restart (q : Seq) : Seq :=
  { q with
    shut := false
    noTrain := false
    cmds := []
    heldData := []
    unheard := []
    fwBytes := []
    blocks := (q.blocks.map (fun e => (e.1, { e.2 with fresh := false }))).filter (fun e => e.2 ≠ blk0 e.1) }

/-- Power goes (R97): a power-down that no SHUTDOWN preceded counts. -/
def Seq.powerLost (q : Seq) : Seq :=
  let clean := q.shut && !(q.cmds.any (fun e => e.2.op = 0x7F))
  { q.restart with downs := q.downs + (if q.powered && !clean then 1 else 0), powered := false }
/-- Power comes back. A cartridge not yet told apart takes the number `k`. -/
def Seq.powerUp (q : Seq) (k : Nat) : Seq :=
  { q.powerLost with cart := if q.cart = 0 then k else q.cart, powered := true }
/-- The sequencer runs a new image (R49, R103): its descriptor is read anew. -/
def Seq.activate (q : Seq) : Seq := { q.restart with gen := q.gen + 1, desc := [] }

/-- Whether any image byte has been downloaded. -/
def Seq.hasImage (q : Seq) : Bool := !q.fwBytes.isEmpty

/-- GET_HEALTH (R97): temperature and flags are what the cartridge finds (assumption log 2), its hours what it counts. -/
def execGetHealth (n : Nat) (m : CartCmd) (s : State) : Out :=
  let f := fun i => Config.freeNat (s.free + i)
  seqCmd n 0x50 m ({ s with free := s.free + 2 } : State) (fun q =>
    q.say m.tag 0 [64] (pageOf 64 [(0, 2, f 0), (2, 1, f 1 % 8), (8, 8, Config.cartHours q.cart s.free), (16, 8, q.downs)]))

/-- CART_SHUTDOWN (R103). -/
def execCartShutdown (n : Nat) (m : CartCmd) (s : State) : Out :=
  seqCmd n 0x7F m s (fun q =>
    ({ q with shut := true }.hold 0x7F 0 m).settle)

/-- A frame that no grant covers ends its command with 04h (R88, R102); a wordline being programmed then holds open content. -/
def Seq.stray (q : Seq) (tag : Nat) (c : SeqCmd) : Seq :=
  (if c.op = 0x20 ∧ c.state = 2 then q.modBlk c.m.die c.m.block (fun b => { b with pages := place b.pages c.m.page [] }) else q).final tag 0x04

/-- The answer to a CHALLENGE whose 48 bytes came in a frame (R51, R97). -/
def Seq.signFrame (q : Seq) (tag : Nat) (payload : List Byte) : Seq :=
  let nonce := leAt payload 0 32
  let unitId := leAt payload 32 16
  ({ q with cmds := q.cmds.filter (fun e => e.1 ≠ tag) }).say tag 0 [64, nonce, unitId]
    (toLe 64 (Config.cartSign q.cart (challengeMsg nonce unitId q.descr) q.sent.length))

/-- A frame of image data for a FW_DOWNLOAD (R97): after the last one the command has its status. -/
def Seq.imageFrame (q : Seq) (tag idx : Nat) (c : SeqCmd) (payload : List Byte) : Seq :=
  let q := q.putImage c.m (4608 * idx) payload
  if c.frames.length + 1 < ceilDiv (64 * c.m.count) 4608 then q.modCmd tag (fun c => { c with frames := c.frames ++ [(idx, [])] })
  else q.final tag 0x00

/-- A frame of data at the sequencer (R84, R88, R89, R97): of a CHALLENGE, an image, or a program, where a grant covers it; any other is discarded. -/
def Seq.frame (q : Seq) (tag idx : Nat) (payload : List Byte) : Seq :=
  match look q.cmds tag with
  | none => q.say tag 0x04
  | some c =>
    let again := c.frames.any (fun e => e.1 = idx)
    if c.op = 0x03 ∧ c.state = 1 ∧ idx = 0 ∧ 48 ≤ payload.length then q.signFrame tag payload
    else if c.op = 0x40 ∧ c.state = 1 ∧ idx < ceilDiv (64 * c.m.count) 4608 ∧ again = false then q.imageFrame tag idx c payload
    else if c.op ≠ 0x20 ∨ c.state ≠ 1 ∨ idx ≥ c.m.count ∨ again then q.stray tag c
    else
      let fr := c.frames ++ [(idx, payload)]
      if fr.length < c.m.count then q.modCmd tag (fun c => { c with frames := fr })
      else (q.modCmd tag (fun c => { c with frames := fr, state := 2 })).say tag 0x01

/-- A unit's frames in index order. -/
def unitFrames (fr : List (Nat × List Byte)) (count : Nat) : List (List Byte) :=
  (List.range count).map (fun i => (look fr i).getD [])

/-- DIE_PROGRAM_DONE (R101): success, a replacement from the die's reserve, data held, or a die that no longer answers (R102). -/
def execDieProgramDone (n tag : Nat) (verified dieAlive : Bool) (s : State) : Out :=
  onSlot s n (fun s =>
    let q := s.seqOf n
    match look q.cmds tag with
    | none => s
    | some c =>
      if c.op ≠ 0x20 ∨ c.state ≠ 2 then s
      else
        let m := c.m
        if dieAlive = false then
          s.modSeq n (fun q => q.dieDead m.die tag)
        else if verified then
          s.modSeq n (fun q => (q.modBlk m.die m.block (fun b =>
            { b with pages := place b.pages m.page (unitFrames c.frames m.count) })).final tag 0x00)
        else if q.reserve.get zeroCell m.die < q.spare then
          let block := q.offered + Config.freeNat s.free % (65536 - q.offered)
          let page := Config.freeNat (s.free + 1) % 65536
          let took := Config.freeNat (s.free + 2) % 2
          ({ s with free := s.free + 3 } : State).modSeq n (fun q =>
            let q := { q with reserve := q.reserve.put zeroCell m.die (q.reserve.get zeroCell m.die + took) }
            let q := q.modBlk m.die block (fun b => { b with pages := place b.pages page (unitFrames c.frames m.count) })
            let q := q.modBlk m.die m.block (fun b => { b with pages := place b.pages m.page [] })
            let q : Seq := { q with relocs := ((m.die, m.block, m.page), (block, page)) :: q.relocs }
            q.final tag 0x10 [m.die, block, page])
        else
          s.modSeq n (fun q =>
            let q := q.modBlk m.die m.block (fun b => { b with pages := place b.pages m.page [] })
            ({ q with heldData := q.heldData ++ [(tag, c.frames)] }).final tag 0x11))

/-- DIE_ERASE_DONE (R101, R102): the die-block is erased, or retired with status 13h, or its die no longer responds. -/
def execDieEraseDone (n tag : Nat) (res : DieEnd) (s : State) : Out :=
  onSlot s n (fun s =>
    s.modSeq n (fun q =>
      match look q.cmds tag with
      | none => q
      | some c =>
        if c.op ≠ 0x21 then q
        else match res with
          | .silent => q.dieDead c.m.die tag
          | .erased => (q.modBlk c.m.die c.m.block (fun b => { b with fresh := true })).final tag 0x00
          | .failed => (q.modBlk c.m.die c.m.block (fun b => { b with retired := true })).final tag 0x13))

end Sys2Proof.Machine
end

