-- ==== Sys2Proof/Machine/Stage.lean ====
section
/-! DEFINITION. Epochs and staged settings: shadow, commit, discard and the consistency rules (R29 to R41). -/

namespace Sys2Proof.Machine

/-- Byte offsets in the parameter block of R318 of the staged tenant fields: six allocations, two limits. -/
def tenFields : List Nat := [264, 268, 272, 276, 280, 284, 288, 292]

/-- Occupied tenant slots. -/
def State.tenants (s : State) : List Nat := (s.ten.tbl.filter (fun e => e.2.occupied)).map (·.1)

/-- Whether a bank holds valid entries in the sense of R341. -/
def State.bankHeld (s : State) (b : Nat) : Bool :=
  (s.srch.tcam.any (fun e => e.1 / 16384 = b ∧ e.2.valid)) || (s.srch.abanks.any (fun e => e.1 = b ∧ e.2.image ≠ 0))

/-- A value of the set `m`. -/
def stGet (m : Cells Nat) (k : Nat) : Nat := m.get stReset k

/-- The floor of a whole-unit class (R314): floor(F × total / T_MAX). -/
def State.unitFloor (s : State) (total : Nat) : Nat := s.ten.floorPct * total / (100 * s.ten.tMax)

/-- Owned units of a tenant under an owner register. -/
def ownedBy (m : Cells Nat) (key : Nat → Nat) (total t : Nat) : Nat :=
  ((List.range total).filter (fun i => stGet m (key i) = t)).length

/-- Whether a non-zero limit is at least the guaranteed rate (rule 5): `nominal` in the limit's units. -/
def State.limitOk (s : State) (alloc limit nominal : Nat) : Bool :=
  limit = 0 || limit * (100 * s.ten.tMax * 2 ^ 20)
    ≥ (s.ten.floorPct * 2 ^ 20 + alloc * (100 * s.ten.tMax)) * nominal

/-- Nominal bandwidth in MB/s and nominal thousands of commands per second (R314). -/
def Part.nomBw (p : Part) : Nat := 200000 * p.quarters
def Part.nomIops (p : Part) : Nat := 25000 * p.quarters

/-- What the boundary check looks at besides the armed set (R41). -/
structure CheckIn where
  tenants : List Nat
  carts : List Nat
  /-- Pools being created by the command that armed the set, with their cartridges. -/
  creating : List (Nat × Nat)
  /-- The fields staged by the commands that wait for this check. -/
  staged : List Nat

/-- Whether the armed set `m` satisfies rule `r` of R41. -/
def State.ruleOk (s : State) (m : Cells Nat) (i : CheckIn) (r : Nat) : Bool :=
  match r with
  | 1 => 10 ≤ stGet m stEpochLen && stGet m stEpochLen ≤ 10000
  | 2 => 5 ≤ stGet m stRebuildShare && stGet m stRebuildShare ≤ 75
  | 3 => [0, 1, 2, 3].all (fun p =>
      let n := stGet m (stBandWidth p)
      let made := look i.creating p
      4 ≤ n && n ≤ 32 &&
        (n = s.inf (stBandWidth p) ||
          (match made with
           | some k => n + 4 ≤ k
           | none => !(s.pool p).exist || n + 4 ≤ (i.carts[p]?).getD 0)))
  | 4 => [264, 268, 272, 276, 280, 284].all (fun o =>
      100 * ((i.tenants.map (fun t => stGet m (stTenant t o))).sum) ≤ (100 - s.ten.floorPct) * 2 ^ 20)
  | 5 => i.tenants.all (fun t =>
      s.limitOk (stGet m (stTenant t 276)) (stGet m (stTenant t 288)) s.part.nomBw
        && s.limitOk (stGet m (stTenant t 280)) (stGet m (stTenant t 292)) s.part.nomIops)
  | 6 => (List.range 64).all (fun p =>
      !s.portExists p || stGet m (stPortRate p) ≤ modeRate (s.grpMode (p / 16)))
  | 7 => i.tenants.all (fun t =>
      (!s.part.keySearch || s.unitFloor 16 ≤ ownedBy m stBankOwner 16 t)
        && (!s.part.scan || s.unitFloor 64 ≤ ownedBy m stLaneOwner 64 t))
  | 8 => (List.range 16).all (fun b => !s.bankHeld b || stGet m (stBankOwner b) = s.inf (stBankOwner b))
  | 9 =>
    let a := stGet m stRfmTh
    let b := stGet m stThrTh
    512 ≤ a && a ≤ 32768 && 512 ≤ b && b ≤ 32768 && a < b
  | 10 =>
    let ok := fun t => t = 0 || i.tenants.contains t
    (List.range 16).all (fun b => ok (stGet m (stBankOwner b)))
      && (List.range 64).all (fun l => ok (stGet m (stLaneOwner l)))
      && (m.all (fun e => e.1 < 0x400000 || ok ((e.1 - 0x400000) / 512) || e.2 = s.inf e.1))
      && (s.dw.inForce.all (fun e => e.1 < 0x400000 || ok ((e.1 - 0x400000) / 512) || e.2 = stGet m e.1))
      && i.staged.all (fun k => k < 0x400000 || ok ((k - 0x400000) / 512))
  | _ => true

/-- The fields a rule examines, in the order of R34. -/
def State.ruleFields (s : State) (m : Cells Nat) (i : CheckIn) (r : Nat) : List Nat :=
  let ten := fun (os : List Nat) => i.tenants.flatMap (fun t => os.map (stTenant t))
  match r with
  | 1 => [stEpochLen]
  | 2 => [stRebuildShare]
  | 3 => [0, 1, 2, 3].map stBandWidth
  | 4 => ten [264, 268, 272, 276, 280, 284]
  | 5 => ten [276, 280, 288, 292]
  | 6 => ((List.range 64).filter s.portExists).map stPortRate
  | 7 => (List.range 16).map stBankOwner ++ (List.range 64).map stLaneOwner
  | 8 => (List.range 16).map stBankOwner
  | 9 => [stRfmTh, stThrTh]
  | 10 => (List.range 16).map stBankOwner ++ (List.range 64).map stLaneOwner
      ++ ((m.map (·.1) ++ s.dw.inForce.map (·.1) ++ i.staged).filter (fun k => k ≥ 0x400000))
  | _ => []

/-- The lowest failing rule. -/
def State.failing (s : State) (m : Cells Nat) (i : CheckIn) : Option Nat :=
  [1, 2, 3, 4, 5, 6, 7, 8, 9, 10].find? (fun r => !s.ruleOk m i r)

/-- The smallest of a list of keys. -/
def least : List Nat → Option Nat
  | [] => none
  | k :: l => some (l.foldl min k)

/-- The first implicated field of a failing rule (R34). -/
def State.implicated (s : State) (m : Cells Nat) (i : CheckIn) (r : Nat) : Nat :=
  let fs := s.ruleFields m i r
  match least (fs.filter (fun k => stGet m k ≠ s.inf k)) with
  | some k => k
  | none => (least fs).getD 0

/-- A field's location as `REJECT_ADDR` holds it (R40). -/
def rejectLoc (k : Nat) : Nat := if k < 0x400000 then k else 2 ^ 31 + (k - 0x400000) / 512

/-- Whether the check window of the next boundary is open (R31). -/
def Stage.open' (g : Stage) : Bool := g.window.isSome

/-- The boundary a commit written now targets (R31). -/
def Stage.target (g : Stage) : Nat :=
  if g.armed = false then g.epoch + (if g.open' then 2 else 1)
  else if g.open' ∧ g.commitEpoch = g.epoch + 1 then g.epoch + 2
  else g.commitEpoch

/-- A commit (R31). -/
def Stage.commit (g : Stage) : Stage :=
  if g.armed = false then { g with armed := true, commitEpoch := g.target }
  else if g.open' ∧ g.commitEpoch = g.epoch + 1 then { g with later := true }
  else g

def State.commit (s : State) : State := { s with stage := s.stage.commit }

/-- A command of R38: its fields go to the shadow, a commit is made, and it waits for its check. -/
def State.stageFor (s : State) (id : CmdId) (fields : List (Nat × Nat)) (kind : StageKind) : State :=
  let b := s.stage.target
  let s := (s.each fields (fun s f => s.setSh f.1 f.2)).commit
  { s with stage.waiting := s.stage.waiting ++ [{ id := id, keys := fields.map (·.1), boundary := b, kind := kind }] }

/-- The fields staged by commands that wait (R35). -/
def Stage.keptKeys (g : Stage) : List Nat := g.waiting.flatMap (·.keys)

/-- A discard (R35). DESIGN CHOICE (assumption log 100): `COMMIT_EPOCH` keeps the boundary that the discarded set targeted. -/
def State.discard (s : State) : State :=
  let keep := s.stage.keptKeys
  let sh := keep.foldl (fun m k => m.put stReset k (s.sh k)) s.dw.inForce
  let s := { s with dw.shadow := sh }
  if s.stage.waiting.isEmpty = false then s
  else if s.stage.open' ∧ s.stage.commitEpoch = s.stage.epoch + 1 then { s with stage.later := false }
  else { s with stage.armed := false, stage.later := false }

/-- The tenant slots that count at the next boundary's check (R41). -/
def State.liveTenants (s : State) : List Nat :=
  s.tenants.filter (fun t => !(s.stage.frees.any (fun f => f.tid = t && !f.freed)))

/-- SHADOW_WRITE (R30, R32): a write of an ST field changes only its shadow. -/
def execShadowWrite (p : Path) (off : Nat) (v : Word) (s : State) : Out :=
  winWrite p off s (fun s =>
    if isStOffset off then s.setSh off (v.toNat &&& stMask off) else s)

/-- COMMIT (R31): `CFG_COMMIT.COMMIT` written with 1. -/
def execCommit (p : Path) (s : State) : Out := winWrite p (dwSTAGE + 0x0C) s State.commit

/-- DISCARD (R35): `CFG_COMMIT.DISCARD` written with 1. -/
def execDiscard (p : Path) (s : State) : Out := winWrite p (dwSTAGE + 0x0C) s State.discard

/-- The slots whose cartridge is `ADMITTED`. -/
def State.admittedSlots (s : State) : List Nat := (s.slots.filter (fun e => e.2.st = .admitted)).map (fun e => e.1)

/-- CHECK_WINDOW_OPEN (R31, R32): the shadow and the counts of R41 are taken as they stand. -/
def execCheckWindowOpen (s : State) : Out :=
  if s.coreOn = false then .next s
  else .next { s with stage.window := some s.dw.shadow,
                      stage.winCarts := [0, 1, 2, 3].map (fun p => (s.inService p).length),
                      stage.winAdmitted := s.admittedSlots,
                      stage.winTenants := s.tenants }

end Sys2Proof.Machine
end

