-- ==== Sys2Proof/Machine/Geometry.lean ====
section
/-! DEFINITION. The geometry of pools and bands: sizes, positions, places and the choice of die-blocks (R109, R144 to R149, R169, R171, R189, R210, R214). -/

namespace Sys2Proof.Machine

/-! ## Free choices (assumption log 2) -/

/-- One element of a list; which one is free where there are several. -/
def State.choose {α : Type} (s : State) (l : List α) : Option α × State :=
  match l with
  | [] => (none, s)
  | [x] => (some x, s)
  | _ => (l[s.freeVal % l.length]?, s.took)

/-! ## Namespaces and pools -/

def State.ns? (s : State) (nsid : Nat) : Option Ns := s.media.nss.find? (fun x => x.nsid = nsid)
def State.nsx? (s : State) (nsx : Nat) : Option Ns := s.media.nss.find? (fun x => x.nsx = nsx)
def State.modNs (s : State) (nsx : Nat) (f : Ns → Ns) : State :=
  { s with media.nss := s.media.nss.map (fun x => if x.nsx = nsx then f x else x) }
/-- Deleted: it goes when its release records are durable. -/
def Ns.dying (x : Ns) : Bool := x.job = 3 || x.job = 5
/-- Whether a namespace is attached to a controller (R277, R334, R337): a tenant's namespaces to its controllers, tenant 0's where Namespace Attachment put them; in service mode the stored ones only to the Manager's. -/
def State.attachedTo (s : State) (x : Ns) (id : Nat) : Bool :=
  !x.dying && (if s.pwr.mode = 1 && !x.flags.testBit 1 then s.isManager id
    else if x.tenant ≠ 0 then (s.ctrl id).tenant = x.tenant && x.job ≠ 4
    else x.attached.contains id)
/-- A format with metadata (R110, R282). -/
def Ns.hasMeta (x : Ns) : Bool := x.lbaf ≠ 0
def State.nsxMeta (s : State) (nsx : Nat) : Bool := (s.nsx? nsx).any Ns.hasMeta
def seg0 (_ : Nat) : Seg := {}
def Ns.seg (x : Ns) (k : Nat) : Seg := x.segs.get seg0 k
def State.modSeg (s : State) (nsx k : Nat) (f : Seg → Seg) : State :=
  s.modNs nsx (fun x => { x with segs := x.segs.mod seg0 k f })
/-- The key of a namespace (R332). -/
def Ns.key (x : Ns) : Nat := Config.nsKey x.salt x.nsx x.keyGen

/-- The tweak of a metadata codeword (R120). -/
def metaTweak (lba : Nat) : Nat := lba % 2 ^ 44 + 2 ^ 127
/-- The tweak of one slot of a metadata codeword that mixes namespaces (R333). -/
def slotTweak (lba : Nat) : Nat := lba + 2 ^ 127 + 2 ^ 126
/-- The key of the namespace with an index. -/
def State.keyOf (s : State) (nsx : Nat) : Nat := ((s.nsx? nsx).map Ns.key).getD 0

def Pool.bits (p : Pool) : Nat := p.cls.getD 1 0
def Pool.dies (p : Pool) : Nat := p.cls.getD 2 0
def Pool.offered (p : Pool) : Nat := p.cls.getD 3 0
def Pool.pagesDense (p : Pool) : Nat := p.cls.getD 4 0
def Pool.pagesSlc (p : Pool) : Nat := p.pagesDense / p.bits
/-- Blocks in one member die-block (R147). -/
def Pool.blocksOf (p : Pool) (withMeta : Bool) : Nat :=
  p.pagesSlc * (16 * p.bits - (if withMeta then 1 else 0))
/-- Segment size of a namespace in blocks (R147). -/
def State.segSize (s : State) (x : Ns) : Nat := x.nNs * (s.pool x.pool).blocksOf x.hasMeta
/-- Reserved segments of a namespace (R139). -/
def State.segCount (s : State) (x : Ns) : Nat := ceilDiv x.nsze (s.segSize x)
/-- `N` in force of a pool. -/
def State.nOf (s : State) (p : Nat) : Nat := s.inf (stBandWidth p)
def State.poolN (s : State) (p : Nat) : Nat := (s.inService p).length
/-- `N_log` (R145), zero where the pool has fewer than four cartridges. -/
def State.nLog (s : State) (p : Nat) : Nat := min (s.nOf p) (s.poolN p - 4)
/-- Cartridges counted as the pool's capacity: those not failed. -/
def Pool.carts (p : Pool) : Nat := (p.members.filter (fun m => m.st ≠ 2)).length

/-- Division rounded to the nearest (the examples of R149 round so). -/
def roundDiv (a b : Nat) : Nat := (2 * a + b) / (2 * b)

/-- Die-blocks of a pool of `carts` cartridges. -/
def Pool.allBlocks (p : Pool) (carts : Nat) : Nat := carts * p.dies * p.offered
/-- Raw bytes (R48). -/
def Pool.raw (p : Pool) (carts : Nat) : Nat := p.allBlocks carts * (4 * p.pagesDense * 16384)
/-- Log capacity in blocks. -/
def Pool.logCap (p : Pool) (carts logPm : Nat) : Nat := logPm * p.raw carts / 1000 / 4096
/-- Segments of a pool (R149). -/
def Pool.segTotal (p : Pool) (carts n logPm spare : Nat) : Nat :=
  let all := p.allBlocks carts
  let nlog := min n (carts - 4)
  let data := roundDiv (logPm * p.raw carts) (1000 * 25165824)
  let gone := spare * p.dies * p.offered + roundDiv (data * (nlog + 2)) nlog + 32 * carts
    + roundDiv (5 * all) 10000 + roundDiv all 100
  (all - gone) / (n + 2)
def State.segTotal (s : State) (p : Nat) : Nat :=
  let q := s.pool p
  q.segTotal q.carts (s.nOf p) q.logPm q.spare
def State.segReserved (s : State) (p : Nat) : Nat :=
  ((s.media.nss.filter (fun x => x.pool = p)).map s.segCount).sum
def State.logCap (s : State) (p : Nat) : Nat := (s.pool p).logCap (s.pool p).carts (s.pool p).logPm

/-- Live log blocks of a pool. -/
def State.logLive (s : State) (p : Nat) : Nat :=
  (s.media.log.filter (fun e => (s.band e.2.band).pool = p)).length
/-- Log occupancy in per mille (R162). -/
def State.logOcc (s : State) (p : Nat) : Nat :=
  if s.logCap p = 0 then 0 else 1000 * s.logLive p / s.logCap p

/-- Count in a pool counter of R175, by byte offset. -/
def State.poolCount (s : State) (p off k : Nat) : State :=
  s.modPool p (fun q => { q with counters := q.counters.mod zeroCell off (fun v => satAdd 64 v k) })

/-- The DRAM one pool's maps need, without its segment map (R150). -/
def mapBytes (blocks n logCap : Nat) : Nat := 8 * blocks + 64 * blocks / (n + 2) + 8 * blocks + 8 * logCap
/-- Installed DRAM in bytes. -/
def State.dramBytes (s : State) : Nat := s.ddr.cap * 16000000000
/-- Whether the maps fit their allotment when pool `p` has these values (R150). -/
def State.dramFits (s : State) (p : Nat) (q : Pool) (carts n logPm : Nat) : Bool :=
  let others := ((s.media.pools.filter (fun e => e.1 ≠ p ∧ e.2.exist)).map (fun e =>
    mapBytes (e.2.allBlocks e.2.carts) (s.nOf e.1) (e.2.logCap e.2.carts e.2.logPm))).sum
  let segs := 16 * ((s.media.nss.map s.segCount).sum)
  4 * (others + segs + mapBytes (q.allBlocks carts) n (q.logCap carts logPm) + 256 * 2 ^ 20) ≤ 3 * s.dramBytes

/-! ## Positions in a band -/

/-- Member positions of P and Q, and of data member `j` (R148, R210). -/
def pPos (b n : Nat) : Nat := b % (n + 2)
def qPos (b n : Nat) : Nat := (b + 1) % (n + 2)
def dataPositions (b n : Nat) : List Nat :=
  (List.range (n + 2)).filter (fun m => m ≠ pPos b n ∧ m ≠ qPos b n)
def dataPos (b n j : Nat) : Nat := (dataPositions b n).getD j 0
/-- The data member number of a position. -/
def dataIdx (b n mp : Nat) : Nat := ((dataPositions b n).takeWhile (fun m => m ≠ mp)).length

/-- Positions one unit takes in the band's numbering: data blocks in a dense band, codewords in an SLC band. -/
def Band.step (b : Band) : Nat := if b.role ≥ 3 then 16 else b.c
/-- Positions of one wordline across the band. -/
def Band.rowSize (b : Band) : Nat := b.n * b.step
/-- Positions of the whole band. -/
def Band.size (b : Band) : Nat := b.rows * b.rowSize
/-- Wordline, data member and unit position of a position (R148). -/
def Band.wlOf (b : Band) (pos : Nat) : Nat := pos / b.rowSize
def Band.jOf (b : Band) (pos : Nat) : Nat := pos % b.rowSize / b.step
def Band.iOf (b : Band) (pos : Nat) : Nat := pos % b.step
/-- `MODE` of a band's die-blocks. -/
def Band.mode (b : Band) : Nat := if b.role ≥ 3 then 1 else 0

/-- Where band wordline `wl` of a member position lies, splits followed (R131). -/
def Band.placeOf (b : Band) (mp wl : Nat) : Place × Nat :=
  match (b.splits.filter (fun e => e.1 = mp ∧ e.2.1 ≤ wl)).getLast? with
  | some e => (e.2.2, wl - e.2.1)
  | none => (b.members.getD mp ⟨64, 0, 0⟩, wl)
/-- Where it is read: relocations followed too (R129). -/
def Band.readPlace (b : Band) (mp wl : Nat) : Place × Nat :=
  if b.torn.contains (mp, wl) then (⟨64, 0, 0⟩, wl)
  else match b.relocs.find? (fun e => e.1 = mp ∧ e.2.1 = wl) with
  | some e => (e.2.2.1, e.2.2.2)
  | none => b.placeOf mp wl
/-- Slots that hold a die-block of the band. -/
def Band.slots (b : Band) : List Nat := b.members.map (·.slot) ++ b.splits.map (·.2.2.slot)

/-! ## Die-blocks -/

def State.blockEnt (s : State) (p : Place) : BlockEnt := (look s.media.blocks p).getD {}
def State.modBlock (s : State) (p : Place) (f : BlockEnt → BlockEnt) : State :=
  { s with media.blocks := place s.media.blocks p (f (s.blockEnt p)) }

/-- A cartridge that may be given new members: in service and not past its life (R66, R144). -/
def State.canTake (s : State) (p n : Nat) : Bool :=
  let x := s.slot n
  x.pool = some p && x.st = .inService && x.lifeFlags.testBit 2 = false
def State.takers (s : State) (p : Nat) : List Nat := (s.poolSlots p).filter (s.canTake p)
/-- Such cartridges without the slow mark. -/
def State.fastTakers (s : State) (p : Nat) : List Nat := (s.takers p).filter (fun n => !(s.slot n).slow)

/-- Open members on a die (R144). -/
def State.openOn (s : State) (n d : Nat) : Nat :=
  (s.media.bands.filter (fun e => e.2.role ≠ 0 ∧ ¬e.2.closed ∧ ¬e.2.shavings ∧
    ((e.2.members ++ e.2.splits.map (·.2.2)).any (fun pl => pl.slot = n ∧ pl.die = d)))).length

/-- The die with the fewest open members; a tie is free. -/
def State.pickDie (s : State) (n : Nat) : Option Nat × State :=
  let ds := (List.range (s.slot n).dieCount).filter (fun d => !(s.slot n).diesFailed.contains d)
  let best := (ds.map (s.openOn n)).foldl min (ds.length * 65536)
  s.choose (ds.filter (fun d => s.openOn n d = best))

/-- Combined wear of a die-block, times `PE_SLC` (R169). -/
def State.wear (s : State) (n : Nat) (e : BlockEnt) : Nat := e.dense * (s.slot n).peSlc + e.slc * (s.slot n).peDense

/-- The entries of one die. -/
def State.dieBlocks (s : State) (n d : Nat) : List (Place × BlockEnt) :=
  s.media.blocks.filter (fun e => e.1.slot = n ∧ e.1.die = d)

/-- Whether a READ of a die-block is on its way, though nobody may wait for its data any more (R154). -/
def State.readOn (s : State) (pl : Place) : Bool :=
  (s.slot pl.slot).out.any (fun (o : Nat × OutCmd) => o.2.op = 0x10 && o.2.m.die = pl.die && o.2.m.block = pl.block)
/-- Whether READs to any die-block of a band are on their way. -/
def State.bandRead (s : State) (bno : Nat) : Bool :=
  let b := s.band bno
  s.media.reqs.any (fun q => q.band = bno) || (b.members ++ b.splits.map (·.2.2) ++ b.relocs.map (·.2.2.1)).any s.readOn

/-- A shavings block of the die that may be erased, its band without references and without READs on their way (R154), the one that waited longest first, else a free one (R169). -/
def State.pickDirty (s : State) (n d : Nat) : Option Place × State :=
  let sh := (s.dieBlocks n d).filter (fun e => match e.2.st with
    | .shavings b => (s.band b).refs = 0 && e.2.retireNext = 0 && !s.bandRead b && !s.readOn e.1
    | _ => false)
  let old := (sh.map (·.2.since)).foldl min (s.media.nextId + 1)
  match sh.find? (fun e => e.2.since = old) with
  | some e => (some e.1, s)
  | none =>
    let free := (List.range (s.slot n).offered).filter (fun k => (s.blockEnt ⟨n, d, k⟩).st = .free)
    let (k, s) := s.choose free
    (k.map (fun k => ⟨n, d, k⟩), s)

/-- Whether a die-block may be programmed and erased: its die is not failed (R134), and its cartridge is not past its life (R66). -/
def State.usable (s : State) (pl : Place) : Bool :=
  !(s.slot pl.slot).diesFailed.contains pl.die && !(s.slot pl.slot).lifeFlags.testBit 2

/-- Erase a die-block for a use (R127, R169): the program waits for it. No ERASE goes to a failed die or to a cartridge past its life (R66, R134). -/
def State.eraseFor (s : State) (pl : Place) (mode : Nat) (use : BlockSt) : State :=
  let s := s.modBlock pl (fun e => { e with
    st := use, mode := mode, ready := false, level := 0, retireNext := 0
    shavOf := (match e.st with | .shavings b => b + 1 | _ => e.shavOf) })
  let s := if (s.slot pl.slot).rootAt.any (fun e => e.1 = pl.die ∧ e.2.1 = pl.block) then s.modSlot pl.slot (fun x => { x with rootAt := none }) else s
  if s.usable pl = false then s
  else s.send pl.slot 0x21 { tag := 0, die := pl.die, block := pl.block, mode := mode } (.erase pl.die pl.block mode)

/-- Take a die-block of a die for a use: from the erased reserve the one with the lowest wear, else one erased at once (R131, R169). -/
def State.takeOn (s : State) (n d mode : Nat) (use : BlockSt) : Option Place × State :=
  let cand := (s.dieBlocks n d).filter (fun e => e.2.st = .erased ∧ e.2.mode = mode ∧ e.2.ready)
  let low := (cand.map (fun e => s.wear n e.2)).foldl min (2 ^ 80)
  let (best, s) := s.choose (cand.filter (fun e => s.wear n e.2 = low))
  match best with
  | some e => (some e.1, s.modBlock e.1 (fun x => { x with st := use }))
  | none =>
    match s.pickDirty n d with
    | (some pl, s) => (some pl, s.eraseFor pl mode use)
    | (none, s) => (none, s)

/-- Take a die-block on a cartridge. -/
def State.takeBlock (s : State) (n mode : Nat) (use : BlockSt) : Option Place × State :=
  match s.pickDie n with
  | (some d, s) => s.takeOn n d mode use
  | (none, s) => (none, s)

/-- The weight of a cartridge (R171), times 2 (C − 1). DESIGN CHOICE (assumption log 92): of cartridges with equal `LIFE_USED` the lower slot ranks as the less worn. -/
def State.weight (s : State) (p n : Nat) : Nat :=
  let cs := s.inService p
  let k := (cs.filter (fun m => (s.slot m).life < (s.slot n).life ∨ ((s.slot m).life = (s.slot n).life ∧ m < n))).length
  if (s.pool p).flags.testBit 1 then 2 * (cs.length - 1) + k else 1

/-- The element on which a running sum of weights first passes `t`. -/
def pickWeighted : List (Nat × Nat) → Nat → Option Nat
  | [], _ => none
  | (x, w) :: l, t => if t < w then some x else pickWeighted l (t - w)

/-- Choose `k` distinct cartridges of `l` in proportion to their weights. -/
def State.pickCarts (s : State) (p : Nat) (l : List Nat) : Nat → List Nat × State
  | 0 => ([], s)
  | k + 1 =>
    let ws := l.map (fun n => (n, s.weight p n))
    match pickWeighted ws (s.freeVal % (ws.map (·.2)).sum) with
    | none => ([], s)
    | some n =>
      let (rest, s) := (s.took).pickCarts p (l.filter (fun m => m ≠ n)) k
      (n :: rest, s)

/-- Take one die-block on each of a list of cartridges. -/
def State.takeEach (s : State) (mode : Nat) (use : BlockSt) : List Nat → List Place × State
  | [] => ([], s)
  | n :: l =>
    match s.takeBlock n mode use with
    | (some pl, s) => let (rest, s) := s.takeEach mode use l; (pl :: rest, s)
    | (none, s) => let (rest, s) := s.takeEach mode use l; (rest, s)

/-! ## Journal hosts (R214) -/

/-- The open rows of a band: the one being filled, and complete rows whose final P or Q is not verified (R181, R214). -/
def State.openRows (s : State) (bno : Nat) : List Nat :=
  let b := s.band bno
  ((if b.rowMask ≠ 0 then [b.wlOf b.taken] else []) ++ s.media.units.filterMap (fun u => match u.kind with
    | .band k wl mp => if k = bno ∧ u.restore = 0 ∧ ¬u.verified ∧ (mp = pPos bno b.n ∨ mp = qPos bno b.n) then some wl else none
    | _ => none)).dedup
/-- Open rows a slot journals. -/
def State.journalled (s : State) (n : Nat) : Nat :=
  ((s.media.bands.filter (fun e => e.2.role ≠ 0 ∧ ¬e.2.shavings ∧ (e.2.jhost0 = n ∨ e.2.jhost1 = n))).map (fun e => (s.openRows e.1).length)).sum

/-- The member index of a slot in its pool. -/
def State.idxOf (s : State) (n : Nat) : Nat := (s.slot n).midx

/-- The best journal host among the pool's cartridges that are in none of `avoid`: fewest open rows, then lowest member index. -/
def State.pickJhost (s : State) (p : Nat) (avoid : List Nat) : Option Nat :=
  ((s.fastTakers p).filter (fun n => !avoid.contains n)).foldl (fun acc n =>
    match acc with
    | none => some n
    | some m =>
      if s.journalled n < s.journalled m ∨ (s.journalled n = s.journalled m ∧ s.idxOf n < s.idxOf m) then some n else acc) none

/-! ## Guarantees and units (R314, R315) -/

/-- A guarantee g(t) in units of 1 / (100 T_MAX 2^20), for the allocation at byte offset `o`; tenant 0 has its floor only in the rate classes. -/
def State.gNum (s : State) (t o : Nat) : Nat :=
  if t = 0 ∧ o ≠ 276 ∧ o ≠ 280 then 0
  else s.ten.floorPct * 2 ^ 20 + (if t = 0 then 0 else s.inf (stTenant t o)) * (100 * s.ten.tMax)
def State.gDen (s : State) : Nat := 100 * s.ten.tMax * 2 ^ 20
/-- Whole units a tenant is guaranteed. -/
def State.guar (s : State) (t o total : Nat) : Nat := s.gNum t o * total / s.gDen

/-- Units held by a tenant in the staging or lock class. -/
def State.stagingHeld (s : State) (t : Nat) : Nat := ((s.io.flights.filter (fun f => f.tenant = t)).map (fun f => f.staged)).sum
def State.locksHeld (s : State) (t : Nat) : Nat :=
  (s.io.locks.filter (fun l => s.io.flights.any (fun f => f.c.id = l.id ∧ f.tenant = t))).length

/-- Whether tenant `t`, guaranteed `own`, gets `k` more units of a class (R315): `held` by each tenant, `o` the allocation, `total` and tenant 0's `reserve`. A request that runs past the guarantee takes its units one by one, so the tenant's own shortfall does not count against it. -/
def State.unitsFor (s : State) (held : Nat → Nat) (o total reserve own t k : Nat) : Bool :=
  let ts := s.tenants
  let used := (ts.map held).sum + (held 0 - reserve)
  let free := total - used
  let lend := free - ((ts.filter (fun u => u ≠ t)).map (fun u => s.guar u o total - held u)).sum
  if t = 0 then held 0 + k ≤ reserve || held 0 + k - max reserve (held 0) ≤ lend
  else if held t + k ≤ own then k ≤ free
  else k ≤ lend

/-- Staging granules and lock entries for a command (R314): its own guarantee is the one in force when it was admitted (R36). -/
def State.stagingFor (s : State) (f : Flight) (k : Nat) : Bool := s.unitsFor s.stagingHeld 264 32768 2048 f.guarS f.tenant k
def State.lockFor (s : State) (f : Flight) : Bool := s.unitsFor s.locksHeld 268 63488 2048 f.guarL f.tenant 1

/-! ## Staging outside the class (R86, R314) -/

/-- Granules outside the staging class that reads may take: those of the whole buffer beyond the class, tenant 0's reserve and the receive reserves of 16 lanes (R253, R314; assumption log 97). -/
def ownStaging : Nat := 49152 - 32768 - 2048 - 16 * 128
/-- Granules that the frames of reads without a host command hold (R86). -/
def State.ownStagingHeld (s : State) : Nat := ((s.media.reqs.filter (fun q => q.payer.isNone)).map (fun q => q.room)).sum

/-! ## How far a direct band is filled -/

/-- How many positions from `taken` on are at hand without a gap. -/
def Band.run (b : Band) : Nat → Nat
  | 0 => 0
  | fuel + 1 =>
    let k := b.run fuel
    if k = fuel ∧ b.ahead.any (fun e => e.1 = b.taken + fuel) then fuel + 1 else k

/-- Where the data of a direct band is contiguous to: blocks at hand, then admitted writes in their order (R157, R180). -/
def State.solidEnd (s : State) (bno : Nat) : Nat :=
  let b := s.band bno
  (s.io.flights.flatMap (fun f => f.parts.filter (fun e => e.1 = bno))).foldl (fun a e => if e.2.1 ≤ a then max a e.2.2 else a) (b.taken + b.run b.ahead.length)

/-- Whole-unit end of a part: the frontier it brings (R180). -/
def Band.unitEnd (b : Band) (hi : Nat) : Nat := if hi = b.size then hi else hi - hi % b.step

/-! ## Sequence and band numbers -/

/-- The full sequence number of a codeword of a band (R115): `OPEN_SEQ` + ((`SEQ_LO` − `OPEN_SEQ`[47:0]) mod 2^48). -/
def fullSeq (openSeq lo : Nat) : Nat := openSeq + (lo + 2 ^ 48 - openSeq % 2 ^ 48) % 2 ^ 48

/-- Take a sequence number (R183). -/
def State.takeSeq (s : State) : Nat × State := (s.media.seq, { s with media.seq := s.media.seq + 1 })
/-- A fresh internal number. -/
def State.freshId (s : State) : Nat × State := (s.media.nextId, { s with media.nextId := s.media.nextId + 1 })

/-- The next band number after the last assigned that is free and not 0xFFFF_FFFF (R146); at most `fuel` numbers are in use. -/
def State.nextBand (s : State) (k : Nat) : Nat → Nat
  | 0 => k
  | fuel + 1 =>
    let k := if k = 0xFFFFFFFF then 0 else k
    if s.media.bands.any (fun e => e.1 = k) then s.nextBand ((k + 1) % 2 ^ 32) fuel else k
def State.newBandNo (s : State) : Nat := s.nextBand ((s.media.lastBand + 1) % 2 ^ 32) (s.media.bands.length + 2)

end Sys2Proof.Machine
end

