-- ==== Sys2Proof/Machine/Media.lean ====
section
/-! DEFINITION. The media stack: program units, rows, interim parity, the journal, register records and root generations (R108 to R116, R129 to R133, R148, R177 to R193, R208 to R217, R514). -/

namespace Sys2Proof.Machine

/-! ## Units -/

def State.unit? (s : State) (uid : Nat) : Option PUnit := s.media.units.find? (fun u => u.uid = uid)
def State.modUnit (s : State) (uid : Nat) (f : PUnit → PUnit) : State :=
  { s with media.units := s.media.units.map (fun u => if u.uid = uid then f u else u) }

/-- Whether a unit stands for a member position of a band wordline. -/
def PUnit.isAt (u : PUnit) (b wl : Nat) : Bool :=
  match u.kind with
  | .band b' wl' _ => b' = b && wl' = wl && u.restore = 0
  | _ => false
def PUnit.mp (u : PUnit) : Nat := match u.kind with | .band _ _ m => m | _ => 0
def PUnit.band (u : PUnit) : Option Nat := match u.kind with | .band b _ _ => some b | _ => none
def PUnit.wl (u : PUnit) : Nat := match u.kind with | .band _ w _ => w | _ => 0
/-- The units of a band wordline. -/
def State.rowUnits (s : State) (b wl : Nat) : List PUnit := s.media.units.filter (fun u => u.isAt b wl)

/-- Whether the durable root names a die-block as a journal die-block (R193). -/
def State.rootNames (s : State) (n : Nat) (pl : Place) : Bool :=
  match (s.slot n).pool with
  | some p => (s.pool p).root.any (fun g => g.jblocks.any (fun e => e.1 = s.idxOf n && e.2.contains (pl.die, pl.block)))
  | none => false

/-- Whether what a unit depends on is durable (R193): the header of its band, or the root generation that names its journal die-block. -/
def State.unitFree (s : State) (u : PUnit) : Bool :=
  match u.kind with
  | .band b _ _ => (s.band b).headDurable
  | .journal host _ => s.rootNames host u.at_
  | .root _ => true

/-- Whether a unit can be sent now: nothing of it is awaited, its die-block is erased, its cartridge takes programs, and no earlier unit waits for the same die-block (R98, R514). -/
def State.canSend (s : State) (u : PUnit) : Bool :=
  let x := s.slot u.at_.slot
  (match s.pwr.sleep with | .asleep _ => false | _ => true) && u.sent = false && u.fetch.isNone && u.await.isEmpty && s.unitFree u && (s.blockEnt u.at_).ready
    && (x.st = .inService || x.st = .draining) && !x.slow && !x.reauth && s.usable u.at_
    && x.out.length < x.depth
    && !(s.media.units.any (fun v => v.uid < u.uid ∧ v.at_ = u.at_ ∧ v.sent = false))
    && (match u.kind with | .journal _ _ => (s.blockEnt u.at_).since ≠ 2 | _ => true)

/-- Count what a restored unit programs (R175): data codewords, those of a migration apart, and parity. -/
def State.countRestore (s : State) (u : PUnit) : State :=
  match u.band with
  | none => s
  | some bno =>
    let b := s.band bno
    if u.restore = 0 then s
    else if u.mp = pPos bno b.n ∨ u.mp = qPos bno b.n then s.poolCount b.pool 144 (4096 * u.cws.length)
    else
      let k := 4096 * (u.cws.filter (fun e => (ofInfo e.2).tag.kind = 0)).length
      let m := 4096 * (u.cws.filter (fun e => (ofInfo e.2).tag.kind = 1)).length
      let s := (s.poolCount b.pool 80 k).modPool b.pool (fun q => { q with mediaMeta := q.mediaMeta + m })
      if u.restore = 2 then s
      else
        let n := (b.members.getD u.mp ⟨64, 0, 0⟩).slot
        (s.poolCount b.pool 128 k).modPool b.pool (fun q => { q with migrated := place q.migrated n ((look q.migrated n).getD 0 + k) })

/-- Send the PROGRAM of a unit (R88, R98). -/
def State.sendUnit (s : State) (u : PUnit) : State :=
  let s := (s.countRestore u).send u.at_.slot 0x20 { tag := 0, die := u.at_.die, block := u.at_.block, page := u.pwl, mode := u.mode, count := u.cws.length } (.unit u.uid)
  s.modUnit u.uid (fun v => { v with sent := true })

/-- Send every unit that can be sent, oldest first. -/
def State.pump (s : State) : State :=
  s.each (s.media.units.map (·.uid)) (fun s uid =>
    match s.unit? uid with
    | some u => if s.canSend u then s.sendUnit u else s
    | none => s)

/-- Queue a new unit. -/
def State.addUnit (s : State) (kind : UnitKind) (pl : Place) (pwl mode : Nat) (cws : List (Nat × BitVec 32896)) : Nat × State :=
  let (uid, s) := s.freshId
  (uid, { s with media.units := s.media.units ++ [{ uid := uid, kind := kind, at_ := pl, pwl := pwl, mode := mode, cws := cws }] })

/-! ## The stripe journal (R181, R182, R514) -/

def State.ring (s : State) (n : Nat) : JRing := (look s.media.rings n).getD {}
def State.setRing (s : State) (n : Nat) (r : JRing) : State := { s with media.rings := place s.media.rings n r }
def State.modJ (s : State) (jid : Nat) (f : JRec → JRec) : State :=
  { s with media.jrecs := s.media.jrecs.map (fun j => if j.jid = jid then f j else j) }

/-- The filler codeword (R116). -/
def fillerCw : Codeword := { tag := { seqLo := 0, lba := 0, kind := 5, nsx := 0xFFF }, data := zeroBlock }

/-- A codeword whose data field ends in a CRC-32C over the bytes before it (R182, R188). -/
def crcBlock (b : List Byte) : Block := BitVec.ofNat 32768 (leAt (b ++ toLe 4 (crc32c b)) 0 4096)

/-- The header codeword of a journal record (R116, R182). -/
def JRec.header (j : JRec) : Codeword :=
  { tag := { seqLo := j.seq % 2 ^ 48, lba := j.band, kind := 4, nsx := 0xFFF, cfirst := true, clast := true, bandChk := j.band % 65536 }
    data := crcBlock (pageOf 4092 ([(0, 2, 1), (2, 1, j.pq), (3, 1, j.mode), (4, 4, j.band), (8, 2, j.wl), (10, 2, j.parity.length),
      (16, 8, j.seq), (24, 8, j.mask), (32, 8, j.openSeq)] ++ j.splits.mapIdx (fun i e => (40 + 8 * i, 8, e)))) }
/-- The information bytes of the record's `k`-th codeword: the header, then its parity. -/
def JRec.word (j : JRec) (k : Nat) : BitVec 32896 := if k = 0 then infoBits j.header else j.parity.getD (k - 1) 0

/-- The 16 codewords of a journal unit: the parts of its records in order, then filler (R182). -/
def State.journalWords (s : State) (fill : List (Nat × Nat × Nat)) : List (BitVec 32896) :=
  let l := fill.flatMap (fun (e : Nat × Nat × Nat) => match s.media.jrecs.find? (fun j => j.jid = e.1) with
    | some j => (List.range e.2.2).map (fun k => j.word (e.2.1 + k))
    | none => List.replicate e.2.2 (infoBits fillerCw))
  (List.range 16).map (fun i => l.getD i (infoBits fillerCw))

/-- Program the journal unit being filled; unused positions are filler (R182). A die-block that is full waits for the ring to come round. -/
def State.issueJournal (s : State) (n : Nat) : State :=
  let r := s.ring n
  match r.blocks[r.cur]? with
  | none => s
  | some pl =>
    if r.fill.isEmpty then s
    else
      let (_, s) := s.addUnit (.journal n (r.fill.map (·.1))) pl r.wl 1 ((List.range 16).zip (s.journalWords r.fill))
      let s := match (s.slot n).pool with | some p => s.poolCount p 152 (16 * 4096) | none => s
      if r.wl + 1 < (s.slot n).pagesSlc then s.setRing n { r with wl := r.wl + 1, fill := [] }
      else (s.modBlock pl (fun e => { e with since := 1 })).setRing n { r with wl := 0, fill := [], cur := (r.cur + 1) % r.blocks.length }

/-- Put `k` codewords of a record into the journal units of its host; each unit that holds a part counts in `left`. -/
def State.packJournal (s : State) (n jid : Nat) : Nat → Nat → State
  | 0, _ => s
  | _, 0 => s
  | fuel + 1, k =>
    let r := s.ring n
    let used := (r.fill.map (·.2.2)).sum
    let t := min (16 - used) k
    let total := ((s.media.jrecs.find? (fun j => j.jid = jid)).map (fun j => j.parity.length + 1)).getD k
    let s := s.setRing n { r with fill := r.fill ++ [(jid, total - k, t)] }
    let s := s.modJ jid (fun j => { j with left := j.left + 1, at_ := (j.at_ ++ (r.blocks[r.cur]?).toList).dedup })
    let s := if used + t = 16 then s.issueJournal n else s
    s.packJournal n jid fuel (k - t)

/-- The newest record of its row and parity. -/
def State.newestJ (s : State) (j : JRec) : Bool :=
  !(s.media.jrecs.any (fun k => k.band = j.band ∧ k.wl = j.wl ∧ k.pq = j.pq ∧ j.seq < k.seq))
/-- The records of a journal die-block that must be rewritten before its erase. -/
def State.pinnedAt (s : State) (n : Nat) (pl : Place) : List JRec :=
  s.media.jrecs.filter (fun j => j.host = n ∧ j.at_.contains pl ∧ s.newestJ j)

/-- The record in force for a row and parity: the newest whose units are all verified (R182). -/
def State.inForceJ (s : State) (b wl pq : Nat) : Option JRec :=
  s.media.jrecs.foldl (fun acc j =>
    if j.band = b ∧ j.wl = wl ∧ j.pq = pq ∧ j.left = 0 then
      (match acc with | none => some j | some a => if j.seq > a.seq then some j else acc)
    else acc) none

/-- One entry of a split list (R182, R190). -/
def State.splitEntry (s : State) (e : Nat × Nat × Place) : Nat :=
  e.1 + 2 ^ 8 * e.2.1 + 2 ^ 24 * (e.2.2.die % 256) + 2 ^ 32 * e.2.2.block + 2 ^ 48 * s.idxOf e.2.2.slot

/-- A new record of a row, not yet packed. -/
def State.newJ (s : State) (b wl pq mask host : Nat) (parity : List (BitVec 32896)) (subst : Bool) : JRec × State :=
  let (seq, s) := s.takeSeq
  let (jid, s) := s.freshId
  let x := s.band b
  ({ jid := jid, band := b, wl := wl, pq := pq, seq := seq, mask := mask, host := host, left := 0, parity := parity, subst := subst
     mode := x.mode, openSeq := x.openSeq, splits := (x.splits.take 16).map s.splitEntry }, s)

/-- Write one record to a host: a header codeword and its parity codewords. -/
def State.writeJ (s : State) (b wl pq mask host : Nat) (parity : List (BitVec 32896)) (subst : Bool) : State :=
  let (j, s) := s.newJ b wl pq mask host parity subst
  let s := { s with media.jrecs := s.media.jrecs ++ [j] }
  s.packJournal host j.jid (parity.length + 1) (parity.length + 1)

/-- What `MEMBERS` names in a complete row: every data member. -/
def fullMask (b n : Nat) : Nat := ((dataPositions b n).map (fun m => 2 ^ m)).sum

/-- The members and the parity that a record of an open row covers now (R181, R215): the running parity, or the final P or Q that is not yet verified. -/
def State.rowParity (s : State) (b wl pq : Nat) : Option (Nat × List (BitVec 32896)) :=
  let x := s.band b
  if x.rowMask ≠ 0 ∧ x.wlOf x.taken = wl then some (x.rowMask, if pq = 0 then x.runP else x.runQ)
  else (s.media.units.find? (fun u => u.isAt b wl && u.mp = (if pq = 0 then pPos b x.n else qPos b x.n) && !u.verified)).map
    (fun u => (fullMask b x.n, u.cws.map (fun e => e.2)))

/-- Write a record of a row again (R514): an open row's from its parity in staging, a pinned one as it stands. -/
def State.rewriteJ (s : State) (j : JRec) (host : Nat) (subst : Bool) : State :=
  match s.rowParity j.band j.wl j.pq with
  | some (m, par) => s.writeJ j.band j.wl j.pq m host par subst
  | none => if (s.band j.band).pinned then s.writeJ j.band j.wl j.pq j.mask host j.parity subst else s

/-- Room for the next record (R514): the pinned records of the die-block that the ring reaches next are written further along, and it is erased once they are verified. -/
def State.ringRoom (s : State) (n : Nat) : State :=
  let r := s.ring n
  match (r.blocks[(r.cur + 1) % max 1 r.blocks.length]?).filter (fun pl => (s.blockEnt pl).since = 1 && r.blocks.length > 1) with
  | some pl =>
    let old := s.pinnedAt n pl
    let s := { s with media.jrecs := s.media.jrecs.filter (fun j => ¬(j.host = n ∧ j.at_.contains pl ∧ j.left ≠ 0))
                      media.units := s.media.units.filter (fun u => u.at_ ≠ pl || u.sent) }
    let s := s.modBlock pl (fun e => { e with since := 2 })
    s.each old (fun s j => s.rewriteJ j n j.subst)
  | none => s

/-- The interim record pair of a row (R181). -/
def State.journalRow (s : State) (b wl : Nat) : State :=
  let x := s.band b
  let s := (s.ringRoom x.jhost0).writeJ b wl 0 x.rowMask x.jhost0 x.runP false
  (s.ringRoom x.jhost1).writeJ b wl 1 x.rowMask x.jhost1 x.runQ false

/-! ## Taking units into rows (R148, R181, R208) -/

/-- The filler codeword of a band (R116). DESIGN CHOICE (assumption log 94): its `SEQ_LO` is that of the band's `OPEN_SEQ`. -/
def State.filler (s : State) (bno : Nat) : Codeword :=
  { fillerCw with tag := { fillerCw.tag with seqLo := (s.band bno).openSeq % 2 ^ 48 } }

/-- The slots of a metadata codeword, 64 bytes each (R110). -/
def slotsData (l : List (Nat × BitVec 512)) : Block :=
  BitVec.ofNat 32768 ((l.map (fun e => e.2.toNat * 2 ^ (512 * e.1))).sum)

/-- Slot `i` of a metadata codeword (R110). -/
def slotOf (data : Block) (i : Nat) : BitVec 512 := BitVec.ofNat 512 (data.toNat / 2 ^ (512 * i))

/-- One slot of a metadata codeword that mixes namespaces, encrypted; a zero slot stays zero (R333). -/
def sealSlot (key lba : Nat) (z : BitVec 512) : BitVec 512 := if z = 0 then 0 else Config.xtsSlot key (slotTweak lba) z

/-- The metadata codeword of a unit (R110, R116, R120, R333): its tag names the unit's first data codeword; encrypted with the namespace's key, slot by slot where the unit mixes namespaces. -/
def State.metaCw (s : State) (cws : List (Codeword × BitVec 512)) (bandNo : Nat) : Codeword :=
  let d := cws.filter (fun e => e.1.tag.kind = 0)
  let first := (d.head?.map (·.1.tag)).getD fillerCw.tag
  let mixed := d.any (fun e => e.1.tag.nsx ≠ first.nsx)
  let at_ := (List.range cws.length).zip cws
  { tag := { seqLo := first.seqLo, lba := first.lba, kind := 1, nsx := if mixed then 0xFFF else first.nsx, bandChk := bandNo % 65536 }
    data := if mixed then slotsData (at_.map (fun e => (e.1, sealSlot (s.keyOf e.2.1.tag.nsx) e.2.1.tag.lba e.2.2)))
      else Config.xts (s.keyOf first.nsx) (metaTweak first.lba) (slotsData (at_.map (fun e => (e.1, e.2.2)))) }

/-- The metadata slot of block `lba` of namespace index `nsx` at unit position `i`, decrypted (R120, R333). -/
def State.plainSlot (s : State) (nsx lba i : Nat) (cw : Codeword) : BitVec 512 :=
  if cw.tag.nsx = 0xFFF then
    let z := slotOf cw.data i
    if z = 0 then 0 else (Config.xtsSlot (s.keyOf nsx) (slotTweak lba)).symm z
  else slotOf ((Config.xts (s.keyOf cw.tag.nsx) (metaTweak cw.tag.lba)).symm cw.data) i

/-- The codewords of the next unit of a band, when it is complete, and how many positions it takes. -/
def State.nextUnit (s : State) (bno : Nat) : Option (List (Codeword × BitVec 512) × Bool × Nat) :=
  let b := s.band bno
  let here := fun i => (b.ahead.find? (fun e => e.1 = b.taken + i)).map (·.2)
  let all := fun k => (List.range k).mapM here
  if b.role ≥ 3 then
    match all 16 with
    | some l => some (l, false, 16)
    | none => match all 15 with
      | some l => if l.any (fun e => e.1.tag.kind = 0 && s.nsxMeta e.1.tag.nsx) then some (l, true, 16) else none
      | none => none
  else (all b.c).map (fun l => (l, b.withMeta, b.c))

/-- Add `g^j` times an information field into an accumulator list, by position. -/
def addRow (acc : List (BitVec 32896)) (k : Nat) (l : List (BitVec 32896)) : List (BitVec 32896) :=
  (List.range (max acc.length l.length)).map (fun i => (acc.getD i 0) ^^^ gfScale k (l.getD i 0))

/-- A unit is taken into its row: running parity takes it in, its program unit is queued, and the commands whose blocks it holds wait for it. -/
def State.takeUnit (s : State) (bno : Nat) (l : List (Codeword × BitVec 512)) (m : Bool) (k : Nat) : State :=
  let b := s.band bno
  let idx := b.taken / b.step
  let wl := idx / b.n
  let j := idx % b.n
  let mp := dataPos bno b.n j
  let cws := l.map (·.1) ++ (if m then [s.metaCw l bno] else [])
  let infos := cws.map infoBits
  let (pl, pwl) := b.placeOf mp wl
  let (uid, s) := s.addUnit (.band bno wl mp) pl pwl b.mode ((List.range infos.length).zip infos)
  let s := s.modBand bno (fun b => { b with
    taken := b.taken + k
    ahead := b.ahead.filter (fun e => e.1 ≥ b.taken + k)
    runP := addRow b.runP 1 infos, runQ := addRow b.runQ (gfPow j) infos
    rowMask := b.rowMask ||| 2 ^ mp })
  let base := b.taken
  let tags : List Tag := l.map (fun e => e.1.tag)
  let mine := fun (f : Flight) (t : Tag) => t.kind = 0 ∧ t.seqLo = f.seq % 2 ^ 48
  let placed := fun (f : Flight) =>
    if b.role = 3 then ((List.range l.length).zip tags).filterMap (fun e =>
      if mine f e.2 then some (e.2.lba, bno, base + e.1) else none)
    else []
  let s := { s with io.flights := s.io.flights.map (fun (f : Flight) =>
    if f.seq ≠ 0 ∧ tags.any (fun t => mine f t) then
      { f with units := f.units ++ [uid], locs := f.locs ++ placed f }
    else f) }
  let bytes := 4096 * l.length
  let data := (l.filter (fun e => e.1.tag.kind = 0)).length
  let copies := (l.filter (fun e => e.1.tag.kind = 0 ∧ e.1.tag.seqLo = b.copySeq % 2 ^ 48)).length
  let s := if m then s.modPool b.pool (fun q => { q with mediaMeta := q.mediaMeta + 4096 }) else s
  if b.role = 3 then s.poolCount b.pool 88 bytes
  else if b.role = 4 then s.poolCount b.pool 152 bytes
  else
    let s := s.poolCount b.pool 80 (4096 * data)
    if b.copySeq = 0 then s else s.poolCount b.pool b.cause (4096 * copies)

/-- The final P and Q of a row whose data units are all taken (R208, R210). -/
def State.finishRow (s : State) (bno wl : Nat) : State :=
  let b := s.band bno
  let put := fun (s : State) (mp : Nat) (v : List (BitVec 32896)) =>
    let (pl, pwl) := b.placeOf mp wl
    (s.addUnit (.band bno wl mp) pl pwl b.mode ((List.range v.length).zip v)).2
  let s := put (put s (pPos bno b.n) b.runP) (qPos bno b.n) b.runQ
  let s := s.poolCount b.pool 144 (2 * 4096 * b.runP.length)
  s.modBand bno (fun b => { b with runP := [], runQ := [], rowMask := 0 })

/-- Take every complete unit; the open row left at the end gets one record pair for the units taken now (R181). -/
def State.takeUnits (s : State) (bno : Nat) : Nat → Bool → State
  | 0, due => if due then s.journalRow bno ((s.band bno).wlOf (s.band bno).taken) else s
  | fuel + 1, due =>
    match s.nextUnit bno with
    | none => if due then s.journalRow bno ((s.band bno).wlOf (s.band bno).taken) else s
    | some (l, m, k) =>
      let wl := (s.band bno).wlOf (s.band bno).taken
      let s := s.takeUnit bno l m k
      if (s.band bno).taken % (s.band bno).rowSize = 0 then (s.finishRow bno wl).takeUnits bno fuel false
      else s.takeUnits bno fuel true

/-- Take what is complete in a band, and send what can be sent. -/
def State.advance (s : State) (bno : Nat) : State :=
  (s.takeUnits bno ((s.band bno).ahead.length + 1) false).pump

/-- Put a codeword at a position of a band, replacing what waits there (R180). -/
def State.putAt (s : State) (bno pos : Nat) (cw : Codeword) (slot : BitVec 512) : State :=
  s.modBand bno (fun b => { b with ahead := (pos, { cw with tag := { cw.tag with bandChk := bno % 65536 } }, slot)
                                     :: b.ahead.filter (fun e => e.1 ≠ pos) })

/-- The next position of an SLC band. -/
def Band.next (b : Band) : Nat := b.taken + b.ahead.length

/-- Whether blocks with metadata wait for the SLC unit being filled, whose last position is then the metadata codeword's (R110). -/
def State.metaWaits (s : State) (bno : Nat) : Bool :=
  let b := s.band bno
  b.role ≥ 3 && b.ahead.any (fun e => e.1 < b.taken + 16 && e.2.1.tag.kind = 0 && s.nsxMeta e.2.1.tag.nsx)

/-- Complete the unit being filled with filler codewords. -/
def State.fillUnit (s : State) (bno : Nat) : State :=
  let b := s.band bno
  if b.ahead.isEmpty then s
  else
    let k := if b.role ≥ 3 then (if s.metaWaits bno then 15 else 16) else b.c
    let s := s.each ((List.range k).map (fun i => b.taken + i)) (fun s pos =>
      if (s.band bno).ahead.any (fun e => e.1 = pos) then s else s.putAt bno pos (s.filler bno) 0)
    s.advance bno

/-- Append a codeword to an SLC band (R110, R156): a block with metadata never takes a unit's last position. -/
def State.append (s : State) (bno : Nat) (cw : Codeword) (slot : BitVec 512) : Nat × State :=
  let b := s.band bno
  let s := if b.ahead.length = 15 ∧ cw.tag.kind = 0 ∧ s.nsxMeta cw.tag.nsx then s.fillUnit bno else s
  let pos := (s.band bno).next
  (pos, (s.putAt bno pos cw slot).advance bno)

/-! ## Records of the band register and root generations (R188 to R193) -/

/-- The codeword of a register record or root page (R188). -/
def recCw (typ p seq lba : Nat) (body : List (Nat × Nat × Nat)) : Codeword :=
  let len := (body.map (fun f => f.1 + f.2.1)).foldl max 16 - 16
  { tag := { seqLo := seq % 2 ^ 48, lba := lba, kind := if typ ≤ 2 then 2 else 3, nsx := 0xFFF, cfirst := true, clast := true }
    data := crcBlock (pageOf 4092 ([(0, 2, typ), (2, 2, len), (4, 1, p), (8, 8, seq)] ++ body)) }

/-- A member entry: member index, die, die-block (R189). -/
def State.entryOf (s : State) (pl : Place) : Nat := s.idxOf pl.slot % 256 + 256 * (pl.die % 256) + 65536 * (pl.block % 65536)

/-- Cut a list into runs of `k`. -/
def chunks {α : Type} (k : Nat) (l : List α) : List (List α) := (List.range (ceilDiv l.length k)).map (fun i => (l.drop (k * i)).take k)

/-- A namespace entry of the root, from a byte offset on (R331). -/
def nsEntry (o : Nat) (x : Ns) : List (Nat × Nat × Nat) :=
  [(o, 4, x.nsid), (o + 4, 2, x.nsx), (o + 6, 1, x.lbaf), (o + 7, 1, x.dps), (o + 8, 8, x.nsze), (o + 16, 1, x.nNs), (o + 17, 1, x.flags),
   (o + 18, 2, if x.flags.testBit 1 then 0x8000 + x.tenant else x.tenant), (o + 20, 4, x.keyGen), (o + 24, 16, x.nguid)]

/-- The pages of a root generation: `REC_TYPE` and body from byte 24 on (R191). DESIGN CHOICE (assumption log 93): the byte places within them that R191 leaves open. -/
def rootBodies (g : RootGen) : List (Nat × List (Nat × Nat × Nat)) :=
  let settings := [(24, 16, Config.unitId.toNat)] ++ g.cls.mapIdx (fun i v => (40 + 4 * i, 4, v))
    ++ [(60, 1, g.n), (61, 1, g.logPm), (62, 1, g.spare), (63, 1, g.flags), (64, 4, g.openBands), (68, 2, g.members.length)]
    ++ (g.members.mapIdx (fun i m => [(72 + 20 * i, 16, m.serial), (88 + 20 * i, 1, m.idx), (89 + 20 * i, 1, m.st)])).flatten
  let regs := (chunks 13 g.regs).map (fun l => (0x11,
    (l.mapIdx (fun i r => (24 + 276 * i, 4, r.1) :: r.2.mapIdx (fun k e => (28 + 276 * i + 8 * k, 8, e)))).flatten))
  let jour := (chunks 31 g.jblocks).map (fun l => (0x12,
    (l.mapIdx (fun i r => (24 + 130 * i, 2, r.1) :: r.2.mapIdx (fun k e => (26 + 130 * i + 4 * k, 4, e.1 + 65536 * e.2)))).flatten))
  let nss := (chunks 63 g.nss).map (fun l => (0x13, (l.mapIdx (fun i x => nsEntry (24 + 64 * i) x)).flatten))
  (0x10, settings) :: regs ++ jour ++ nss

/-- The codewords of a root generation (R188, R191): each carries its page index and the page count. -/
def rootCws (p : Nat) (g : RootGen) : List Codeword :=
  let l := rootBodies g
  l.mapIdx (fun i e => recCw e.1 p g.seq (0xFFFFFFFF + 2 ^ 32 * (e.1 % 4096)) ([(16, 4, i), (20, 4, l.length)] ++ e.2))

/-- The cartridges that a root generation goes to: members whose cartridge takes programs. -/
def State.rootHosts (s : State) (p : Nat) : List Nat :=
  (s.poolSlots p).filter (fun n => ((s.slot n).st = .inService || (s.slot n).st = .draining) && !(s.slot n).lifeFlags.testBit 2)

/-- What a root generation of a pool says now (R191), its number and place still open. -/
def State.rootNow (s : State) (p : Nat) : RootGen :=
  let q := s.pool p
  { seq := 0, cls := q.cls, n := s.nOf p, logPm := q.logPm, spare := q.spare, flags := q.flags
    members := q.members, nss := s.media.nss.filter (fun x => x.pool = p)
    regs := (s.media.bands.filter (fun e => e.2.pool = p ∧ e.2.role = 4 ∧ ¬e.2.shavings)).map (fun e => (e.1, e.2.members.map s.entryOf))
    jblocks := (s.rootHosts p).map (fun n => (s.idxOf n, (s.ring n).blocks.map (fun pl => (pl.die, pl.block))))
    openBands := (s.media.bands.filter (fun e => e.2.pool = p ∧ e.2.role ≠ 0 ∧ ¬e.2.closed ∧ ¬e.2.shavings)).length }

/-- The root die-block of a die: the lowest that is not retired (R191); one whose program failed is retired once a new pair begins (R133). -/
def State.rootBlock (s : State) (n die : Nat) (fresh : Bool) : Place :=
  ⟨n, die, ((List.range (s.slot n).offered).find? (fun k =>
    let e := s.blockEnt ⟨n, die, k⟩
    e.st ≠ .retired && !(fresh && e.st = .root && e.retireNext ≠ 0))).getD 0⟩

/-- Write a root generation (R191): its pages are programmed on dies 0 and 1, or 2 and 3, of every member, in the other pair once the present one is full; `k` follows when all programs are final. -/
def State.putRoot (s : State) (p : Nat) (g : RootGen) (k : Then) : State :=
  let (seq, s) := s.takeSeq
  let (rid, s) := s.freshId
  let units := ceilDiv (rootBodies g).length 16
  let q := s.pool p
  let s := if q.rootWl + units ≤ q.pagesSlc then s
    else s.modPool p (fun q => { q with rootWl := 0, rootPair := 1 - q.rootPair })
  let q := s.pool p
  let g := { g with seq := seq, pair := q.rootPair, wl := q.rootWl }
  let words := (rootCws p g).map infoBits
  let fresh := decide (q.rootWl = 0)
  let dies := (s.rootHosts p).flatMap (fun n => ([0, 1].map (fun d => (n, 2 * q.rootPair + d))).filter (fun e => !(s.slot n).diesFailed.contains e.2))
  let bad := if fresh then (s.media.blocks.filter (fun e => e.2.st = .root && e.2.retireNext ≠ 0 && dies.contains (e.1.slot, e.1.die))) else []
  let places := dies.map (fun e => s.rootBlock e.1 e.2 fresh)
  let s := s.each bad (fun s e => (s.modBlock e.1 (fun x => { x with st := .retired, retireNext := 0 })).send e.1.slot 0x33
    { tag := 0, die := e.1.die, block := e.1.block } (.retire e.1.die e.1.block (e.2.retireNext - 1)))
  let s := s.each places (fun s pl => if (fresh ∧ (s.blockEnt pl).ready) ∨ (s.blockEnt pl).st ≠ .root then s.eraseFor pl 1 .root else s)
  let s := s.each places (fun s pl => s.each (List.range units) (fun s i =>
    (s.addUnit (.root rid) pl (q.rootWl + i) 1 ((List.range 16).map (fun j => (j, words.getD (16 * i + j) (infoBits fillerCw))))).2))
  let s := s.modPool p (fun q => { q with rootWl := q.rootWl + units, rootSeq := seq, roots := q.roots ++ [g] })
  let r : DurRec := { rid := rid, typ := 0x10, seq := seq, pool := p, body := [(16, 4, 0), (20, 4, (rootBodies g).length)], at_ := (0, 0),
                      left := places.length * units, k := k }
  ({ s with media.recs := s.media.recs ++ [r] } : State).pump

/-- A root generation of what the pool is now. -/
def State.writeRoot (s : State) (p : Nat) (k : Then) : State := s.putRoot p (s.rootNow p) k

/-- The place of a register record that no register band holds yet. -/
def noReg : Nat := 2 ^ 32

/-- Append a register record; `k` follows when it is durable (R193). Where the pool has no register band the record waits for one. -/
def State.record (s : State) (p typ lba : Nat) (body : List (Nat × Nat × Nat)) (k : Then) : State :=
  let (seq, s) := s.takeSeq
  let (rid, s) := s.freshId
  let r : DurRec := { rid := rid, typ := typ, seq := seq, pool := p, first := seq, lba := lba, body := body, at_ := (noReg, 0), k := k }
  match (s.pool p).regBand with
  | none => { s with media.recs := s.media.recs ++ [r] }
  | some rb =>
    let (pos, s) := s.append rb (recCw typ p seq lba body) 0
    { s with media.recs := s.media.recs ++ [{ r with at_ := (rb, pos) }] }

/-- Records that waited for a register band are appended to it. -/
def State.placeRecs (s : State) (p : Nat) : State :=
  match (s.pool p).regBand with
  | none => s
  | some rb => s.each (s.media.recs.filter (fun r => r.pool = p ∧ r.at_.1 = noReg)) (fun s r =>
      let (pos, s) := s.append rb (recCw r.typ p r.seq r.lba r.body) 0
      { s with media.recs := s.media.recs.map (fun y => if y.rid = r.rid then { y with at_ := (rb, pos) } else y) })

/-! ## Opening a band (R144 to R148, R189, R212, R214) -/

/-- The header record of a band (R189). -/
def State.headerRec (s : State) (bno : Nat) : State :=
  let b := s.band bno
  let none' := 0xFFFFFFFF
  let body := [(16, 4, bno), (20, 1, b.role), (21, 1, b.n), (22, 2, b.nsx), (24, 4, b.seg), (28, 8, b.openSeq),
    (36, 4, b.prevA.getD none'), (40, 4, b.prevB.getD none'), (44, 1, s.idxOf b.jhost0), (45, 1, s.idxOf b.jhost1)]
    ++ b.members.mapIdx (fun i pl => (48 + 8 * i, 4, s.entryOf pl))
  s.record b.pool 1 (bno + 2 ^ 32 * 0xFFF) body (.header bno)

/-- Open a band: members in proportion to their weights, slow-marked cartridges only where there are not enough others beside two journal hosts (R212), the journal hosts, the opening number, and the header record. No log or register band opens while `N_log` is below 4 (R145). -/
def State.openBand (s : State) (p role n nsx seg : Nat) (withMeta : Bool) (prevA prevB : Option Nat) : Option Nat × State :=
  let s0 := s
  let fast := s.fastTakers p
  let all := s.takers p
  if all.length < n + 4 ∨ n < 4 then (none, s)
  else
    let k := min (n + 2) (fast.length - 2)
    let (carts, s) := s.pickCarts p fast k
    let (more, s) := s.pickCarts p (all.filter (fun m => !fast.contains m)) (n + 2 - k)
    let carts := carts ++ more
    let mode := if role ≥ 3 then 1 else 0
    let b := s.newBandNo
    let (mem, s) := s.takeEach mode (.member b) carts
    let j0 := s.pickJhost p carts
    let j1 := s.pickJhost p (carts ++ j0.toList)
    match j0, j1 with
    | some j0, some j1 =>
      if mem.length < n + 2 then (none, s0)
      else
        let (seq, s) := s.takeSeq
        let q := s.pool p
        let bits := q.bits
        let x : Band := { pool := p, role := role, n := n, nsx := nsx, seg := seg, openSeq := seq, prevA := prevA, prevB := prevB,
                          jhost0 := j0, jhost1 := j1, members := mem, withMeta := withMeta,
                          c := if role ≥ 3 then 16 else 16 * bits - (if withMeta then 1 else 0),
                          rows := q.pagesSlc, headDurable := false }
        let s := s.modBand b (fun _ => x)
        let s := { s with media.lastBand := b }
        if role = 4 then
          let s := s.modPool p (fun q => { q with regBand := some b })
          (some b, s)
        else
          (some b, s.headerRec b)
    | _, _ => (none, s0)

/-- The register band of a pool, opened where there is none or the present one is full; the new one is used once a root generation names it (R192, R193). -/
def State.needReg (s : State) (p : Nat) : State :=
  let full : Bool := match (s.pool p).regBand with
    | some b => (s.band b).size < (s.band b).next + 32
    | none => true
  if full then
    let old := (s.pool p).regBand
    match s.openBand p 4 (s.nLog p) 0xFFF 0 false none none with
    | (some b, s) => (((match old with | some o => s.fillUnit o | none => s).placeRecs p).writeRoot p (.header b))
    | (none, s) => s
  else s

/-- The current log band of a pool, opened where there is none (R145). -/
def State.needLog (s : State) (p : Nat) : Option Nat × State :=
  match (s.pool p).logBand with
  | some b => (some b, s)
  | none =>
    let s := s.needReg p
    match s.openBand p 3 (s.nLog p) 0xFFF 0 false none none with
    | (some b, s) => (some b, s.modPool p (fun q => { q with logBand := some b }))
    | (none, s) => (none, s)

/-- Put a block into the pool's log (R156): a full band is closed, and the next opened when needed. -/
def State.toLog (s : State) (p : Nat) (cw : Codeword) (slot : BitVec 512) : Option (Nat × Nat) × State :=
  match s.needLog p with
  | (none, s) => (none, s)
  | (some b, s) =>
    let (pos, s) := s.append b cw slot
    let s := if (s.band b).taken ≥ (s.band b).size then
        (s.modBand b (fun x => { x with closing := true })).modPool p (fun q => { q with logBand := none })
      else s
    (some (b, pos), s)

/-! ## Protection (R177, R182) -/

/-- Whether the final P and Q of a row are verified: a complete row's units are gone. -/
def State.rowFinal (s : State) (b wl : Nat) : Bool :=
  let us := s.rowUnits b wl
  let n := (s.band b).n
  wl < (s.band b).wlOf (s.band b).taken
    && !(us.any (fun u => (u.mp = pPos b n ∨ u.mp = qPos b n) ∧ u.verified = false))

/-- Whether a row's journal pair covers a member position (R177). -/
def State.pairCovers (s : State) (b wl mp : Nat) : Bool :=
  (s.inForceJ b wl 0).any (fun j => j.mask.testBit mp) && (s.inForceJ b wl 1).any (fun j => j.mask.testBit mp)

/-- Whether a unit is verified and its row protects it (R177). -/
def State.unitSafe (s : State) (uid : Nat) : Bool :=
  match s.unit? uid with
  | none => true
  | some u =>
    u.verified && (match u.kind with
      | .band b wl mp => s.rowFinal b wl || s.pairCovers b wl mp
      | _ => true)

/-- The unit that holds a position of an SLC band, while it is not complete. -/
def State.posSafe (s : State) (bno pos : Nat) : Bool :=
  let b := s.band bno
  if pos ≥ b.taken then false
  else
    let mp := dataPos bno b.n (b.jOf pos)
    match (s.rowUnits bno (b.wlOf pos)).find? (fun u => u.mp = mp) with
    | some u => s.unitSafe u.uid
    | none => true

/-! ## Lost blocks (R241 to R243) -/

/-- Post the event that names C1h to the Managers and the controllers of a namespace, once until each reads it (R243). -/
def State.lostEvent (s : State) (nsid : Nat) : State :=
  let ids := (s.managers ++ (match s.ns? nsid with | some x => s.ctrlIds.filter (s.attachedTo x) | none => [])).dedup
  s.each (ids.filter (fun i => !s.media.lostAen.contains i)) (fun s i =>
    ({ s with media.lostAen := i :: s.media.lostAen }).aen i ⟨7, 0, 0xC1⟩)

/-- Merge adjacent ranges with the same cause, in ascending order (R242). -/
def mergeLost : List Lost → List Lost
  | [] => []
  | a :: l =>
    match mergeLost l with
    | [] => [a]
    | b :: r =>
      if a.nsid = b.nsid ∧ a.cause = b.cause ∧ a.slba + a.nlb = b.slba ∧ a.band = b.band then
        { a with nlb := a.nlb + b.nlb } :: r
      else a :: b :: r

/-- Insert a block in the list's order. -/
def insLost (e : Lost) : List Lost → List Lost
  | [] => [e]
  | a :: l => if e.nsid < a.nsid ∨ (e.nsid = a.nsid ∧ e.slba < a.slba) then e :: a :: l else a :: insLost e l

/-- Whether a block is listed. -/
def State.isListed (s : State) (nsid lba : Nat) : Bool :=
  s.media.lost.any (fun e => e.nsid = nsid ∧ e.slba ≤ lba ∧ lba < e.slba + e.nlb)

/-- Add a lost block to the list (R240 to R243). -/
def State.addLost (s : State) (nsx lba cause band : Nat) : State :=
  let nsid := ((s.nsx? nsx).map (·.nsid)).getD 0
  if s.isListed nsid lba then s
  else if s.media.lost.length ≥ 16384 then
    ({ s with media.overflow := true }).log 0x0532 [s.media.lost.length]
  else
    let e : Lost := { nsid := nsid, cause := cause, slba := lba, nlb := 1, band := band, time := s.calMs,
                      origin := if s.gbk.calSet then 1 else 0 }
    { s with media.lost := mergeLost (insLost e s.media.lost), media.lostGen := s.media.lostGen + 1 }.lostEvent nsid

/-- Remove the blocks `lo` to `hi - 1` of a namespace from the list. -/
def State.dropLost (s : State) (nsid lo hi : Nat) : State :=
  let cut := s.media.lost.flatMap (fun e =>
    if e.nsid ≠ nsid ∨ hi ≤ e.slba ∨ e.slba + e.nlb ≤ lo then [e]
    else (if e.slba < lo then [{ e with nlb := lo - e.slba }] else [])
      ++ (if hi < e.slba + e.nlb then [{ e with slba := hi, nlb := e.slba + e.nlb - hi }] else []))
  if cut = s.media.lost then s
  else { s with media.lost := cut, media.lostGen := s.media.lostGen + 1 }

/-! ## Shavings and reclaim (R133, R146, R154) -/

/-- Put a die-block of a reclaimed band among the shavings, or retire it where it is marked (R133). -/
def State.shaveBlock (s : State) (b : Nat) (pl : Place) : State :=
  if pl.slot ≥ 64 then { s with media.blocks := drop' s.media.blocks pl }
  else
    let e := s.blockEnt pl
    if e.retireNext ≠ 0 then
      ((s.media' pl.slot 200 1).modBlock pl (fun e => { e with st := .retired, retireNext := 0 })).send pl.slot 0x33 { tag := 0, die := pl.die, block := pl.block }
        (.retire pl.die pl.block (e.retireNext - 1))
    else if e.st = .retired then s
    else
      let (k, s) := s.freshId
      s.modBlock pl (fun e => { e with st := .shavings b, since := k })

/-- A band becomes shavings: its units and journal records are dropped, its die-blocks and those being written for it wait to be erased. -/
def State.shave (s : State) (b : Nat) : State :=
  let x := s.band b
  if x.role = 0 ∨ x.shavings then s
  else
    let s := s.modBand b (fun x => { x with shavings := true, closing := false })
    let targets := ((s.media.units.filter (fun u => u.band = some b ∧ u.restore ≠ 0)).map (fun u => u.at_)).dedup
    let s := { s with media.jrecs := s.media.jrecs.filter (fun j => j.band ≠ b)
                      media.units := s.media.units.filter (fun u => u.band ≠ some b) }
    s.each (x.members ++ x.splits.map (·.2.2) ++ targets).dedup (fun s pl => s.shaveBlock b pl)

/-- A band number is free once every member is erased or retired (R146). -/
def State.freeBands (s : State) : State :=
  s.each ((s.media.bands.filter (fun e => e.2.shavings)).map (·.1)) (fun s b =>
    if s.media.blocks.any (fun e => e.2.st = .shavings b ∨ e.2.st = .member b ∨ e.2.shavOf = b + 1) then s
    else { s with media.bands := s.media.bands.put band0 b {} })

end Sys2Proof.Machine
end

