-- ==== Sys2Proof/Machine/Operands.lean ====
section
/-! DEFINITION. The operand forms of host commands: the fields of their Dwords, and the pages they return. -/

namespace Sys2Proof.Machine

/-- Dwords 10 to 15 as numbers. -/
def dw10 (c : Cmd) : Nat := c.cdw10.toNat
def dw11 (c : Cmd) : Nat := c.cdw11.toNat
def dw12 (c : Cmd) : Nat := c.cdw12.toNat
def dw13 (c : Cmd) : Nat := c.cdw13.toNat
def dw14 (c : Cmd) : Nat := c.cdw14.toNat
def dw15 (c : Cmd) : Nat := c.cdw15.toNat
/-- SLBA in Dwords 10 and 11, NLB (0-based) in Dword 12 [15:0] (R365 lays Scan Start out alike). -/
def slba (c : Cmd) : Nat := dw10 c + 2 ^ 32 * dw11 c
def nlb (c : Cmd) : Nat := dw12 c % 65536 + 1
/-- The ORD flag: CDW13 bit 8 (R278). -/
def ordFlag (c : Cmd) : Bool := (dw13 c).testBit 8
/-- PRINFO of Dword 12: PRACT bit 29, PRCHK bits [28:26] (guard 28, application tag 27, reference tag 26). -/
def pract (c : Cmd) : Bool := (dw12 c).testBit 29
def prchkGuard (c : Cmd) : Bool := (dw12 c).testBit 28
def prchkApp (c : Cmd) : Bool := (dw12 c).testBit 27
def prchkRef (c : Cmd) : Bool := (dw12 c).testBit 26

/-- The bytes of a log page that a Get Log Page asks for: NUMD in Dword 10 [31:16] and Dword 11 [15:0], offset in Dwords 12 and 13. -/
def lpo (c : Cmd) : Nat := dw12 c + 2 ^ 32 * dw13 c
def logBytes (c : Cmd) : Nat := 4 * (field (dw10 c) 31 16 + 65536 * field (dw11 c) 15 0 + 1)
def logSlice (c : Cmd) (page : List Byte) : List Byte := (page.drop (lpo c)).take (logBytes c)

/-- Post a log page. -/
def State.page (s : State) (c : Cmd) (page : List Byte) : State := s.post c.id .success 0 0 (logSlice c page)

/-- SV, the Save bit of Set Features: Dword 10 bit 31. -/
def saveBit (c : Cmd) : Bool := (dw10 c).testBit 31

/-- Whether Dwords 11 to 15 are zero. -/
def zero11 (c : Cmd) : Bool := c.cdw11 = 0 && c.cdw12 = 0 && c.cdw13 = 0 && c.cdw14 = 0 && c.cdw15 = 0
def zero12 (c : Cmd) : Bool := c.cdw12 = 0 && c.cdw13 = 0 && c.cdw14 = 0 && c.cdw15 = 0
def zero13 (c : Cmd) : Bool := c.cdw13 = 0 && c.cdw14 = 0 && c.cdw15 = 0

end Sys2Proof.Machine
end

