-- ==== Sys2Proof/Machine/Protection.lean ====
section
/-! DEFINITION. Protection information: its layout, its generation and its check (R282 to R285). Field places and byte order within it are NVMe's (assumption log 10). -/

namespace Sys2Proof.Machine

/-- Metadata bytes of an LBA format (R282). -/
def lbafMeta (l : Nat) : Nat := match l with | 1 => 8 | 2 => 16 | 3 => 64 | _ => 0
/-- Bytes of the protection information itself. -/
def lbafPi (l : Nat) : Nat := match l with | 1 => 8 | 2 => 16 | 3 => 16 | _ => 0
/-- The protection type in force: 0 none (DPS bits [2:0]). -/
def Ns.piType (x : Ns) : Nat := if x.lbaf = 0 then 0 else x.dps % 8
/-- Protection information in the first bytes of the metadata (DPS bit 3). -/
def Ns.piFirst (x : Ns) : Bool := x.dps.testBit 3
/-- Byte offset of the protection information in the metadata. -/
def Ns.piOff (x : Ns) : Nat := if x.piFirst then 0 else lbafMeta x.lbaf - lbafPi x.lbaf

/-- A big-endian number of `n` bytes. -/
def beAt (b : List Byte) (off n : Nat) : Nat := ((b.drop off).take n).foldl (fun a x => 256 * a + x.toNat) 0
def toBe (n v : Nat) : List Byte := (toLe n v).reverse

/-- Guard width, and application-tag and reference-tag places. -/
def guardLen (l : Nat) : Nat := if l = 1 then 2 else 8
def refLen (l : Nat) : Nat := if l = 1 then 4 else 6

/-- The guard over data and the metadata before the protection information. -/
def Ns.guard (x : Ns) (data : Block) (slot : BitVec 512) : Nat :=
  let m := (toLe 64 slot.toNat).take x.piOff
  let b := toLe 4096 data.toNat ++ m
  if x.lbaf = 1 then crc16 b else crc64 b

/-- What a command brings to the check: PRCHK bits, initial reference tag, application tag and its mask. -/
structure PiArgs where
  guard : Bool
  app : Bool
  ref : Bool
  init : Nat
  tag : Nat
  mask : Nat
  deriving DecidableEq, Repr

def piArgs (c : Cmd) : PiArgs :=
  { guard := prchkGuard c, app := prchkApp c, ref := prchkRef c,
    init := dw14 c + 2 ^ 32 * (c.cdw3.toNat % 65536), tag := dw15 c % 65536, mask := dw15 c / 65536 }

/-- The reference tag of the `k`-th block of a command: Types 1 and 2 count up. -/
def Ns.refFor (x : Ns) (a : PiArgs) (k : Nat) : Nat :=
  (if x.piType = 3 then a.init else a.init + k) % 256 ^ refLen x.lbaf

/-- The check of R283 and R284 on the `k`-th block: guard, then application tag, then reference tag. -/
def Ns.piCheck (x : Ns) (a : PiArgs) (k : Nat) (data : Block) (slot : BitVec 512) : Option Status :=
  if x.piType = 0 then none
  else
    let b := (toLe 64 slot.toNat).drop x.piOff
    let g := guardLen x.lbaf
    let guard := beAt b 0 g
    let app := beAt b g 2
    let ref := beAt b (g + 2) (refLen x.lbaf)
    if app = 0xFFFF ∧ (x.piType ≠ 3 ∨ ref = 256 ^ refLen x.lbaf - 1) then none
    else if a.guard ∧ guard ≠ x.guard data slot then some .guardErr
    else if a.app ∧ (app &&& a.mask) ≠ (a.tag &&& a.mask) then some .appTagErr
    else if a.ref ∧ x.piType ≠ 3 ∧ ref ≠ x.refFor a k then some .refTagErr
    else none

/-- The metadata slot with generated protection information (PRACT = 1, R283). -/
def Ns.piMake (x : Ns) (a : PiArgs) (k : Nat) (data : Block) (slot : BitVec 512) : BitVec 512 :=
  let m := toLe 64 slot.toNat
  let pi := toBe (guardLen x.lbaf) (x.guard data slot) ++ toBe 2 a.tag ++ toBe (refLen x.lbaf) (x.refFor a k)
  BitVec.ofNat 512 (leAt (m.take x.piOff ++ pi ++ m.drop (x.piOff + lbafPi x.lbaf)) 0 64)

/-- The bytes a block carries to the host: data, then metadata unless PRACT strips it (R283). -/
def Ns.hostBytes (x : Ns) (strip : Bool) (data : Block) (slot : BitVec 512) : List Byte :=
  toLe 4096 data.toNat ++ (if strip ∧ x.piType ≠ 0 ∧ lbafMeta x.lbaf = lbafPi x.lbaf then [] else (toLe 64 slot.toNat).take (lbafMeta x.lbaf))

/-- Metadata of a block that reads as zeros: all 0xFF (R285). -/
def onesSlot (x : Ns) : BitVec 512 := BitVec.ofNat 512 (256 ^ lbafMeta x.lbaf - 1)

/-- Protection fields that do not fit the format (R287): checks or generation asked of a namespace without protection, and the reference-tag check under Type 3; under Type 1 the initial tag is the address. -/
def Ns.piArgsOk (x : Ns) (c : Cmd) (lba : Nat) : Bool :=
  if x.piType = 0 then !(pract c) && !(prchkGuard c) && !(prchkApp c) && !(prchkRef c)
  else !(x.piType = 3 && prchkRef c)
    && (x.piType ≠ 1 || !prchkRef c || (piArgs c).init % 256 ^ refLen x.lbaf = lba % 256 ^ refLen x.lbaf)

end Sys2Proof.Machine
end

