-- ==== Sys2Proof/Machine/Reads.lean ====
section
/-! DEFINITION. Reading codewords: resolution, the retry ladder, the tag check, reconstruction, and delivery (R22, R23, R25, R111, R117 to R126, R152 to R154, R227, R228, R239 to R241, R284). -/

namespace Sys2Proof.Machine

/-! ## Where a block lies -/

/-- The location of a block: band and position, or none where it reads as zeros (R158, R159). -/
def State.resolve (s : State) (x : Ns) (lba : Nat) : Option (Nat × Nat) :=
  match look s.media.log (x.nsx, lba) with
  | some e => some (e.band, e.pos)
  | none =>
    let size := s.segSize x
    let g := x.seg (lba / size)
    let o := lba % size
    match g.a with
    | some a => if o < g.f then some (a, o) else g.b.map (fun b => (b, o))
    | none => g.b.map (fun b => (b, o))

/-! ## Issuing reads -/

def State.req? (s : State) (rid : Nat) : Option CwReq := s.media.reqs.find? (fun q => q.rid = rid)
def State.modReq (s : State) (rid : Nat) (f : CwReq → CwReq) : State :=
  { s with media.reqs := s.media.reqs.map (fun q => if q.rid = rid then f q else q) }
/-- A request that serves a reconstruction (R125). -/
def CwReq.isMember (q : CwReq) : Bool := q.wants.any (fun w => match w with | .member _ _ => true | _ => false)
/-- Whom the reads into a copy destination serve. -/
def Want.copiesTo (w : Want) (dst : Nat) : Bool :=
  match w with
  | .copy d _ => d == dst
  | .copyMeta d _ _ => d == dst
  | _ => false
/-- A request ends; the staging of its soft frames is free again. -/
def State.dropReq (s : State) (rid : Nat) : State :=
  let back := fun (f : Flight) => (s.media.reqs.filter (fun q => q.rid = rid ∧ q.payer = some f.c.id)).map (fun q => q.room - 3) |>.sum
  { s with media.reqs := s.media.reqs.filter (fun q => q.rid ≠ rid)
           io.flights := s.io.flights.map (fun f => { f with staged := f.staged - back f }) }

/-- A cartridge that can be asked at all: a member in service or draining. -/
def State.answers (s : State) (n : Nat) : Bool :=
  n < 64 && ((s.slot n).st = .inService || (s.slot n).st = .draining)
/-- A place read without going to its row first (R227, R228). -/
def State.direct (s : State) (pl : Place) : Bool := s.answers pl.slot && !(s.slot pl.slot).slow
def State.dieBad (s : State) (pl : Place) : Bool := (s.slot pl.slot).diesFailed.contains pl.die

/-- A signed byte of `READ_OFFSETS` (R46). -/
def Slot.offset (x : Slot) (k : Nat) : Int :=
  let v := leAt x.desc (96 + k) 1
  if v ≥ 128 then (v : Int) - 256 else v

/-- The levels of step L3 after those tried: nearest to T's entry first, ties to the lower index (R123). -/
def Slot.nextLevel (x : Slot) (t : Nat) (tried : List Nat) : Option Nat :=
  ((List.range 32).filter (fun k => k ≠ t ∧ ¬tried.contains k)).foldl (fun acc k =>
    match acc with
    | none => some k
    | some j => if (x.offset k - x.offset t).natAbs < (x.offset j - x.offset t).natAbs then some k else acc) none

/-- Soft frames that a step asks for (R123). -/
def softOf (step : Nat) : Nat := match step with | 1 => 1 | 2 => 2 | 4 => 2 | _ => 0

/-- Reserve staging for every frame of a request's READ, three granules each (R86): from the host command it serves, else from the staging outside the class; none where there is no room. -/
def State.reserve (s : State) (q : CwReq) : Option State :=
  let need := 3 * (1 + softOf q.step)
  if need ≤ q.room then some s
  else
    let k := need - q.room
    let paid := s.modReq q.rid (fun q => { q with room := need })
    match q.payer.bind (fun id => s.io.flights.find? (fun f => f.c.id = id)) with
    | some f =>
      if s.stagingFor f k then some { paid with io.flights := paid.io.flights.map (fun x => if x.c.id = f.c.id then { x with staged := x.staged + k } else x) }
      else none
    | none => if s.ownStagingHeld + k ≤ ownStaging then some paid else none

/-- Issue the READ of a request at its step (R109, R122, R123), once staging is reserved for its frames (R86). -/
def State.sendReq (s : State) (q : CwReq) : State :=
  match s.reserve q with
  | none => s.modReq q.rid (fun q => { q with waits := true })
  | some s =>
    let s := s.modReq q.rid (fun q => { q with waits := false })
    let b := s.band q.band
    let (pl, pwl) := b.readPlace q.mp q.wl
    let bits := (s.pool b.pool).bits
    let t := (s.blockEnt pl).level
    let level := match q.step with | 3 => q.levels.headD t | 4 => q.levels.getD (s.freeVal % max 1 q.levels.length) t | _ => t
    let s := if q.step = 4 then s.took else s
    s.send pl.slot 0x10
      { tag := 0, die := pl.die, plane := q.i / 4 % 4, block := pl.block,
        page := if b.mode = 0 then pwl * bits + q.i / 16 else pwl, mode := b.mode, cwMask := 2 ^ (q.i % 4),
        soft := softOf q.step, readLevel := level } (.cw q.rid)

/-- READs that waited for staging go out as it comes free (R86). -/
def State.sendWaiting (s : State) : State :=
  s.each (s.media.reqs.filter (fun q => q.waits)) (fun s q => s.sendReq q)

/-! ## Reconstruction (R25, R211, R228) -/

def State.modRecon (s : State) (rid : Nat) (f : Recon → Recon) : State :=
  { s with media.recons := s.media.recons.map (fun r => if r.rid = rid then f r else r) }

/-- Start one codeword request; a host command has reserved its codeword's frame at stage 7 (R86). -/
def State.newReq (s : State) (b wl mp i cap check : Nat) (expect : Option (Nat × Nat)) (w : Want) : Nat × State :=
  let (rid, s) := s.freshId
  let payer := match w with | .host id _ => some id | .hostMeta id _ _ => some id | _ => none
  let q : CwReq := { rid := rid, band := b, wl := wl, mp := mp, i := i, check := check, expect := expect, cap := cap, wants := [w]
                     payer := payer, room := if payer.isSome then 3 else 0 }
  (rid, { s with media.reqs := s.media.reqs ++ [q] })

/-- What the controller still holds of a member's codeword: a unit in staging that is not final, or the running P and Q of an open row, kept until the final ones are verified (R181, R215, R229). -/
def State.heldCw (s : State) (b wl mp i : Nat) : Option (BitVec 32896) :=
  let x := s.band b
  let open' := x.rowMask ≠ 0 && x.wlOf x.taken = wl
  let jp := s.inForceJ b wl 0
  let jq := s.inForceJ b wl 1
  let mask := ((jp.orElse (fun _ => jq)).map JRec.mask).getD 0
  if x.pinned ∧ mask ≠ 0 ∧ (x.torn.contains (pPos b x.n, wl) ∨ x.torn.contains (qPos b x.n, wl)) then
    (if mp = pPos b x.n then jp.bind (fun j => j.parity[i]?)
     else if mp = qPos b x.n then jq.bind (fun j => if j.mask = mask then j.parity[i]? else none)
     else if mask.testBit mp then none else some 0)
  else if open' ∧ mp = pPos b x.n then x.runP[i]?
  else if open' ∧ mp = qPos b x.n then x.runQ[i]?
  else if open' ∧ x.rowMask.testBit mp = false then some 0
  else match (s.rowUnits b wl).find? (fun u => u.mp = mp ∧ u.verified = false ∧ (u.left = false ∨ mp = pPos b x.n ∨ mp = qPos b x.n)) with
    | some u => look u.cws i
    | none => none

/-- Whether a member's codeword can be read from its place now: its program has a final status (R113). -/
def State.readable (s : State) (b wl mp : Nat) : Bool :=
  s.answers ((s.band b).readPlace mp wl).1.slot
    && !((s.rowUnits b wl).any (fun u => u.mp = mp ∧ u.verified = false))

/-- Read one member for a reconstruction; a member read that already runs is joined (R124). -/
def State.askMember (s : State) (b wl m i recon : Nat) : State :=
  match s.media.reqs.find? (fun q => q.band = b && q.wl = wl && q.mp = m && q.i = i && q.isMember && q.cap = 2) with
  | some q => s.modReq q.rid (fun q => { q with wants := q.wants ++ [.member recon m] })
  | none =>
    let (mid, s) := s.newReq b wl m i 2 0 none (.member recon m)
    match s.req? mid with
    | some mq => s.sendReq mq
    | none => s

/-- Begin to reconstruct a request's codeword from its row: take what the controller holds, and read the other members; slow ones only where too few others remain. -/
def State.startRecon (s : State) (q : CwReq) (cause : Nat) : State :=
  let b := s.band q.band
  let others := (List.range (b.n + 2)).filter (fun m => m ≠ q.mp)
  let held := others.filterMap (fun m => (s.heldCw q.band q.wl m q.i).map (fun v => (m, v)))
  let rest := others.filter (fun m => !(held.any (fun e => e.1 = m)) && s.readable q.band q.wl m)
  let good := rest.filter (fun m =>
    let pl := (b.readPlace m q.wl).1; s.direct pl && !s.dieBad pl)
  let ask := if held.length + good.length ≥ b.n then good else rest
  let (rid, s) := s.freshId
  let r : Recon := { rid := rid, req := q.rid, band := q.band, wl := q.wl, i := q.i, got := held, asked := ask, cause := cause }
  let s := { s with media.recons := s.media.recons ++ [r] }
  let s := s.modReq q.rid (fun q => { q with viaRow := true })
  s.each ask (fun s m => s.askMember q.band q.wl m q.i rid)

/-- The codeword of a member position from N others of its row (R208, R211). -/
def recoverMember (bno n mp : Nat) (got : List (Nat × BitVec 32896)) : Option (BitVec 32896) :=
  let p := look got (pPos bno n)
  let q := look got (qPos bno n)
  let d := (got.filter (fun e => e.1 ≠ pPos bno n ∧ e.1 ≠ qPos bno n)).map (fun e => (dataIdx bno n e.1, e.2))
  let miss := (List.range n).filter (fun j => !(d.any (fun e => e.1 = j)))
  let all := d ++ (if miss.isEmpty then [] else recoverInfo d p q miss)
  if all.length < n then none
  else if mp = pPos bno n then some (all.foldl (fun a e => a ^^^ e.2) 0)
  else if mp = qPos bno n then some (all.foldl (fun a e => a ^^^ gfScale (gfPow e.1) e.2) 0)
  else look all (dataIdx bno n mp)

/-- Ask for one codeword by its place in the row: a request that is already running for it is joined (R124); a place that cannot be read directly goes to its row (R227). -/
def State.askCw (s : State) (bno wl mp i check : Nat) (expect : Option (Nat × Nat)) (w : Want) : State :=
  match s.media.reqs.find? (fun q => q.band = bno && q.wl = wl && q.mp = mp && q.i = i && !q.isMember
      && (check = 0 || q.check = 0 || (q.check = check && q.expect = expect))) with
  | some q => s.modReq q.rid (fun q => { q with
      wants := q.wants ++ [w], check := if check = 0 then q.check else check, expect := if check = 0 then q.expect else expect })
  | none =>
    let pl := ((s.band bno).readPlace mp wl).1
    let (rid, s) := s.newReq bno wl mp i (if s.dieBad pl then 2 else 4) check expect w
    match s.req? rid with
    | none => s
    | some q => if s.readable bno wl mp ∧ s.direct pl then s.sendReq q else s.startRecon q 0

/-- Ask for the codeword at unit position `i` beside a band position. -/
def State.askAs (s : State) (bno pos i check : Nat) (expect : Option (Nat × Nat)) (w : Want) : State :=
  let b := s.band bno
  s.askCw bno (b.wlOf pos) (dataPos bno b.n (b.jOf pos)) i check expect w

/-- Begin to read one codeword by its place in the row, parity included, without a tag check. -/
def State.askAt (s : State) (bno wl mp i : Nat) (w : Want) : State := s.askCw bno wl mp i 0 none w

/-- Ask for a data codeword of a block. -/
def State.ask (s : State) (bno pos i nsx lba : Nat) (w : Want) : State := s.askAs bno pos i 1 (some (nsx, lba)) w

/-- The last unit position, where a metadata codeword stands (R110). -/
def State.metaIdx (s : State) (bno : Nat) : Nat :=
  let b := s.band bno
  if b.role ≥ 3 then 15 else 16 * (s.pool b.pool).bits - 1

/-- The tags of the data codewords in the unit that holds a position, with their positions. -/
def State.unitTags (s : State) (bno pos : Nat) : List (Nat × Tag) :=
  let b := s.band bno
  let base := pos - b.iOf pos
  b.tags.filter (fun (e : Nat × Tag) => base ≤ e.1 && e.1 < base + b.step && e.2.kind = 0)

/-- Namespace and address that a unit's metadata codeword names: those of its first data codeword, and 0xFFF when the unit mixes namespaces (R116). -/
def State.metaExpect (s : State) (bno pos : Nat) : Option (Nat × Nat) :=
  let l := s.unitTags bno pos
  let low := (l.map (fun (e : Nat × Tag) => e.1)).foldl min (2 ^ 64)
  (l.find? (fun (e : Nat × Tag) => e.1 = low)).map (fun (e : Nat × Tag) =>
    (if l.any (fun (y : Nat × Tag) => y.2.nsx ≠ e.2.nsx) then 0xFFF else e.2.nsx, e.2.lba))

/-- Ask for the metadata codeword of the unit that holds a position. -/
def State.askMeta (s : State) (bno pos : Nat) (w : Want) : State := s.askAs bno pos (s.metaIdx bno) 2 (s.metaExpect bno pos) w

/-! ## Host commands -/

def State.flight? (s : State) (id : CmdId) : Option Flight := s.io.flights.find? (fun f => f.c.id = id)
def State.modFlight (s : State) (id : CmdId) (f : Flight → Flight) : State :=
  { s with io.flights := s.io.flights.map (fun x => if x.c.id = id then f x else x) }

/-- Release the band references of a command (R154). -/
def State.dropRefs (s : State) (id : CmdId) : State :=
  match s.flight? id with
  | none => s
  | some f => (s.each f.refs (fun s b => s.modBand b (fun x => { x with refs := x.refs - 1 }))).modFlight id (fun f => { f with refs := [] })

/-- What is still on its way for a command no longer counts for it. -/
def State.dropWants (s : State) (id : CmdId) : State :=
  let other := fun (w : Want) => match w with | .host i _ => i != id | .hostMeta i _ _ => i != id | _ => true
  { s with media.reqs := s.media.reqs.map (fun q => { q with wants := q.wants.filter other }) }

/-- Post the completion of a started command; where the command has been drained no completion is posted, or the one of R302. -/
def State.finish (s : State) (id : CmdId) (st : Status) (dw0 : Nat := 0) (data : List Byte := []) : State :=
  match s.flight? id with
  | none => s
  | some f =>
    let s := (s.dropRefs id).dropWants id
    if f.stage = .drained then
      if f.sqDel then s.post id .sqDeleted
      else { s with
        io.flights := s.io.flights.filter (fun x => x.c.id ≠ id)
        io.locks := s.io.locks.filter (fun l => l.id ≠ id)
        io.watch := s.io.watch.filter (fun w => w ≠ id) }
    else s.post id st dw0 0 data

/-- Whether an exclusive lock that overlaps a command's range is held or waiting (R294). -/
def State.exclOver (s : State) (id : CmdId) (nsid lo hi : Nat) : Bool :=
  s.io.locks.any (fun l => l.id ≠ id ∧ l.excl ∧ l.nsid = nsid ∧ l.lo < hi ∧ lo < l.hi)

/-- Status and data of a Read, Compare or Verify from its blocks in ascending order: `none` while one is missing (R23). -/
def outcomeOf (f : Flight) (lo : Nat) : Nat → Option (Status × List Byte)
  | 0 => some (.success, [])
  | n + 1 =>
    match look f.fails lo with
    | some st => some (st, [])
    | none =>
      match look f.got lo with
      | none => none
      | some b =>
        match outcomeOf f (lo + 1) n with
        | some (st, r) => some (st, b ++ r)
        | none => none

/-- Complete a Read, Compare or Verify whose blocks have all come, or whose first failed block is reached. -/
def State.tryRead (s : State) (id : CmdId) : State :=
  match s.flight? id with
  | none => s
  | some f =>
    if f.issued = false then s
    else match outcomeOf f (slba f.c) (nlb f.c) with
    | none => s
    | some (st, data) =>
      if f.fallback ∧ f.hit ∧ f.stage ≠ .drained then
        if f.repeats < 2 ∧ s.exclOver id f.c.nsid (slba f.c) (slba f.c + nlb f.c) = false then
          (s.dropWants id).modFlight id (fun f => { f with repeats := f.repeats + 1, hit := false, got := [], plain := [], metas := [], fails := [], issued := false })
        else
          let s := ((s.dropRefs id).dropWants id).modFlight id (fun f => { f with
            fallback := false, repeats := 2, hit := false, got := [], plain := [], metas := [], fails := [], issued := false, stage := .held 6 })
          { s with io.watch := s.io.watch.filter (fun w => w ≠ id) }
      else if st ≠ .success then s.finish id st 0 (if f.op = 2 then data else [])
      else if f.op = 5 then s.finish id (if data = f.c.buf.take data.length then .success else .compareFailure)
      else s.finish id .success 0 (if f.op = 2 then data else [])

/-- A block of a host command is at hand: the protection-information check, then it waits its turn (R22, R284). -/
def State.hostBlock (s : State) (id : CmdId) (lba : Nat) (data : Block) (slot : BitVec 512) (bandNo : Nat) : State :=
  match s.flight? id with
  | none => s
  | some f =>
    match s.ns? f.c.nsid with
    | none => s
    | some x =>
      let s := match x.piCheck (piArgs f.c) (lba - slba f.c) data slot with
        | some st =>
          let s := if st = Status.guardErr then s.log 0x0607 [x.nsid, lba, bandNo] else s
          s.modFlight id (fun f => { f with fails := (lba, st) :: f.fails })
        | none =>
          s.modFlight id (fun f => { f with got := (lba, x.hostBytes (pract f.c) data slot) :: f.got })
      s.tryRead id

/-- A decrypted block meets its metadata, where the format has any. -/
def State.meet (s : State) (id : CmdId) (lba bandNo : Nat) : State :=
  match s.flight? id with
  | none => s
  | some f =>
    match look f.plain lba, look f.metas lba with
    | some d, some m => s.hostBlock id lba d m bandNo
    | _, _ => s

/-! ## Delivery -/

/-- The lost codeword of a copy (R119). -/
def lostCw (seq nsx lba : Nat) : Codeword :=
  { tag := { seqLo := seq % 2 ^ 48, lba := lba, kind := 0, nsx := nsx, cfirst := true, clast := true, lost := true }, data := zeroBlock }

/-- Namespace index and address of a dense position. -/
def State.lbaAt (s : State) (bno pos : Nat) : Nat × Nat :=
  let b := s.band bno
  (b.nsx, b.seg * b.size + pos)

def State.modGc (s : State) (src : Nat) (f : Gc → Gc) : State :=
  { s with media.gcs := s.media.gcs.map (fun g => if g.src = src then f g else g) }

/-- A copied block goes into the current log band with the copy's number (R115, R167). -/
def State.gcPut (s : State) (src pos : Nat) (cw : Codeword) (slot : BitVec 512) : State :=
  match s.media.gcs.find? (fun g => g.src = src) with
  | none => s
  | some g =>
    let p := (s.band src).pool
    let cw := { cw with tag := { cw.tag with seqLo := g.seq % 2 ^ 48, cfirst := true, clast := true } }
    match s.toLog p cw slot with
    | (none, s) => s
    | (some (b, q), s) =>
      let s := s.poolCount p (if g.refresh then 120 else 112) 4096
      s.modGc src (fun g => { g with todo := g.todo.filter (fun k => k ≠ pos), made := g.made ++ [(cw.tag.nsx, cw.tag.lba, b, q)] })

/-- The position whose metadata slot `i` a metadata request reads. -/
def State.srcPos (s : State) (q : CwReq) (i : Nat) : Nat :=
  let b := s.band q.band
  q.wl * b.rowSize + dataIdx q.band b.n q.mp * b.step + i

/-- Give a good codeword to one reader that is not itself a reconstruction. -/
def State.give (s : State) (q : CwReq) (cw : Codeword) (info : BitVec 32896) (w : Want) : State :=
  let bno := q.band
  match w with
  | .host id lba =>
    (match s.flight? id with
     | none => s
     | some f =>
       match s.ns? f.c.nsid with
       | none => s
       | some x =>
         if cw.tag.lost then (s.modFlight id (fun f => { f with fails := (lba, .unrecovered) :: f.fails })).tryRead id
         else
           let d := (Config.xts x.key cw.tag.lba).symm cw.data
           if x.hasMeta then (s.modFlight id (fun f => { f with plain := (lba, d) :: f.plain })).meet id lba bno
           else s.hostBlock id lba d 0 bno)
  | .hostMeta id lba i =>
    (match s.flight? id with
     | none => s
     | some f =>
       match s.ns? f.c.nsid with
       | none => s
       | some x => (s.modFlight id (fun f => { f with metas := (lba, s.plainSlot x.nsx lba i cw) :: f.metas })).meet id lba bno)
  | .copy dst pos =>
    let b := s.band dst
    let slot := (look b.metaGot pos).getD 0
    let t := { cw.tag with seqLo := b.copySeq % 2 ^ 48, cfirst := true, clast := true }
    let s := if cw.tag.lost then s.addLost cw.tag.nsx cw.tag.lba 3 bno else s
    let s := s.putAt dst pos { tag := t, data := if cw.tag.lost then zeroBlock else cw.data } slot
    if b.cause = 104 then s.poolCount b.pool 96 4096 else s
  | .copyMeta dst pos i =>
    let (nsx, lba) := s.lbaAt dst pos
    (match s.nsx? nsx with
     | none => s
     | some x => (s.modBand dst (fun b => { b with metaGot := (pos, s.plainSlot x.nsx lba i cw) :: b.metaGot })).ask
         bno (s.srcPos q i) i nsx lba (.copy dst pos))
  | .gc src pos =>
    (match s.media.gcs.find? (fun g => g.src = src) with
     | none => s
     | some g => s.gcPut src pos (if cw.tag.lost then lostCw g.seq cw.tag.nsx cw.tag.lba else cw) ((look g.metaGot pos).getD 0))
  | .gcMeta src pos i =>
    (match ((s.band src).tags.find? (fun (e : Nat × Tag) => e.1 = pos)) with
     | none => s
     | some e => match s.nsx? e.2.nsx with
       | none => s
       | some x => (s.modGc src (fun g => { g with metaGot := (pos, s.plainSlot x.nsx e.2.lba i cw) :: g.metaGot })).ask
           bno pos i e.2.nsx e.2.lba (.gc src pos))
  | .restore uid i => s.modUnit uid (fun u => { u with cws := place u.cws i info, await := u.await.filter (fun k => k ≠ i) })
  | .patrol => if cw.tag.lost ∧ cw.tag.kind = 0 then s.addLost cw.tag.nsx cw.tag.lba 3 bno else s
  | .member _ _ => s
  | .journal jid mp i =>
    (match s.media.jrecs.find? (fun j => j.jid = jid) with
     | none => s
     | some j =>
       let b := s.band j.band
       let v := if j.pq = 0 then info else gfScale (gfPow (dataIdx j.band b.n mp)) info
       let rest := j.await.filter (fun e => e ≠ (mp, i))
       let s := s.modJ jid (fun j => { j with parity := j.parity.set i (j.parity.getD i 0 ^^^ v), await := rest, left := if rest.isEmpty then 0 else 1 })
       if rest.isEmpty then (s.ringRoom j.host).packJournal j.host jid (j.parity.length + 1) (j.parity.length + 1) else s)

/-- The stripe row `q` of a codeword (R109). -/
def State.rowNo (s : State) (b wl i : Nat) : Nat :=
  if (s.band b).mode = 0 then 4 * (s.pool (s.band b).pool).bits * wl + i / 4 else 4 * wl + i / 4

/-- Page `q` of the die-block that a request reads (R109, R136). -/
def State.pageNo (s : State) (q : CwReq) : Nat := s.rowNo q.band ((s.band q.band).readPlace q.mp q.wl).2 q.i

/-- A stripe row is lost (R239, R240): once per row. -/
def State.rowLost (s : State) (bno wl i : Nat) : State :=
  let b := s.band bno
  let q := s.rowNo bno wl i
  if b.lostRows.contains q then s
  else
    let s := s.modBand bno (fun b => { b with lostRows := q :: b.lostRows })
    let s := { s with media.rowsLost := satAdd 64 s.media.rowsLost 1 }
    let s := s.modPool b.pool (fun p => { p with rowsLost := satAdd 64 p.rowsLost 1 })
    let s := if b.role = 1 ∨ b.role = 2 then s.modSeg b.nsx b.seg (fun g => { g with early := true }) else s
    s.log 0x0530 [b.pool, bno, q, 1]

/-- The blocks that a codeword at a member position carries, as far as they still stand there: its own, or, for a metadata codeword, every block of its unit with metadata (R239). -/
def State.blocksAt (s : State) (bno wl mp i : Nat) : List (Nat × Nat) :=
  let b := s.band bno
  if mp = pPos bno b.n ∨ mp = qPos bno b.n then []
  else
    let base := wl * b.rowSize + dataIdx bno b.n mp * b.step
    let l := s.unitTags bno base
    let l := if i = s.metaIdx bno ∧ ¬(l.any (fun (e : Nat × Tag) => e.1 = base + i)) then l.filter (fun (e : Nat × Tag) => s.nsxMeta e.2.nsx)
      else l.filter (fun (e : Nat × Tag) => e.1 = base + i)
    (l.filter (fun (e : Nat × Tag) => (s.nsx? e.2.nsx).any (fun x => s.resolve x e.2.lba = some (bno, e.1)))).map (fun (e : Nat × Tag) => (e.2.nsx, e.2.lba))

/-- Tell every reader of a request that its block is lost: 0 row, 1 tag, 2 ladder (R118, R119, R239 to R241). With a lost row, the blocks of the members in `also` are lost too. -/
def State.giveLost (s : State) (q : CwReq) (cause : Nat) (also : List Nat := []) : State :=
  let b : Band := s.band q.band
  let n := (b.readPlace q.mp q.wl).1.slot
  let s := s.media' n 144 1
  let s := if cause = 0 then s.rowLost q.band q.wl q.i else s
  let here := (s.blocksAt q.band q.wl q.mp q.i ++ (if q.check = 1 then q.expect.toList else [])).dedup
  let s := s.each here (fun s (e : Nat × Nat) =>
    let s := s.addLost e.1 e.2 cause q.band
    if cause = 0 then s else s.log 0x0531 [((s.nsx? e.1).map Ns.nsid).getD 0, e.2, cause])
  let s := s.each (also.flatMap (fun m => s.blocksAt q.band q.wl m q.i)) (fun s (e : Nat × Nat) => s.addLost e.1 e.2 cause q.band)
  let s := s.dropReq q.rid
  s.each q.wants (fun s w => match w with
    | .host id lba => (s.modFlight id (fun f => { f with fails := (lba, .unrecovered) :: f.fails })).tryRead id
    | .hostMeta id lba _ => (s.modFlight id (fun f => { f with fails := (lba, .unrecovered) :: f.fails })).tryRead id
    | .copy dst pos => let (nsx, lba) := s.lbaAt dst pos; s.putAt dst pos (lostCw (s.band dst).copySeq nsx lba) 0
    | .copyMeta dst pos _ => let (nsx, lba) := s.lbaAt dst pos; s.putAt dst pos (lostCw (s.band dst).copySeq nsx lba) 0
    | .gc src pos => (match (b.tags.find? (fun (e : Nat × Tag) => e.1 = pos)) with
      | some e => s.gcPut src pos (lostCw 0 e.2.nsx e.2.lba) 0
      | none => s)
    | .gcMeta src pos _ => (match (b.tags.find? (fun (e : Nat × Tag) => e.1 = pos)) with
      | some e => s.gcPut src pos (lostCw 0 e.2.nsx e.2.lba) 0
      | none => s)
    | .restore uid i =>
      let lbaTag := b.tags.find? (fun (e : Nat × Tag) => b.wlOf e.1 = q.wl ∧ dataPos q.band b.n (b.jOf e.1) = q.mp ∧ b.iOf e.1 = q.i)
      let cw : Codeword := match lbaTag with | some e => ⟨{ e.2 with lost := true }, zeroBlock⟩ | none => fillerCw
      s.modUnit uid (fun u => { u with cws := place u.cws i (infoBits cw), await := u.await.filter (fun k => k ≠ i) })
    | .member _ _ => s
    | .journal jid _ _ => { s with media.jrecs := s.media.jrecs.filter (fun j => j.jid ≠ jid) }
    | .patrol => s)

/-- Deliver a good codeword to all readers of a request, and end it. -/
def State.giveAll (s : State) (q : CwReq) (cw : Codeword) (info : BitVec 32896) : State :=
  (s.dropReq q.rid).each q.wants (fun s w => s.give q cw info w)

/-- The tag check of R117. -/
def State.tagOk (s : State) (q : CwReq) (cw : Codeword) : Bool :=
  q.check = 0 ||
    (cw.tag.kind + 1 = q.check && (match q.expect with | some (nsx, lba) => cw.tag.nsx = nsx && cw.tag.lba = lba | none => true)
      && cw.tag.bandChk = q.band % 65536 && fullSeq (s.band q.band).openSeq cw.tag.seqLo < s.media.seq)

/-- End a reconstruction, with its reads. -/
def State.dropRecon (s : State) (rid : Nat) : State :=
  let isOf := fun (w : Want) => match w with | .member k _ => k == rid | _ => false
  { s with
    media.recons := s.media.recons.filter (fun x => x.rid ≠ rid)
    media.reqs := s.media.reqs.filter (fun q => !(q.wants.any isOf)) }

/-- The lowest of a list. -/
def leastOf : List Nat → Option Nat
  | [] => none
  | k :: l => some (l.foldl min k)

/-- A reconstruction has a new codeword, or one fewer to come: finish it when it can be, read slow members too, then failed ones deeper, or give the row up (R25, R125, R228, R239). -/
def State.reconStep (s : State) (rid : Nat) : State :=
  match s.media.recons.find? (fun r => r.rid = rid) with
  | none => s
  | some r =>
    let b := s.band r.band
    let drop := fun (s : State) => s.dropRecon rid
    match s.req? r.req with
    | none => drop s
    | some q =>
      let val := if r.got.length ≥ b.n then recoverMember r.band b.n q.mp (r.got.take b.n) else none
      match val with
      | some v =>
        let s := drop s
        let cw := ofInfo v
        let n := (b.readPlace q.mp q.wl).1.slot
        if s.tagOk q cw then
          let s := if r.cause = 2 then s.media' n 136 1 else s
          s.giveAll q cw v
        else s.giveLost q 1
      | none =>
        if r.asked.any (fun m => !(r.got.any (fun e => e.1 = m)) && !(r.failed.contains m)) then s
        else
          let slow := (List.range (b.n + 2)).filter (fun m => m ≠ q.mp ∧ ¬r.asked.contains m ∧ ¬(r.got.any (fun e => e.1 = m)) ∧ s.readable r.band r.wl m)
          if slow ≠ [] then
            let s := s.modRecon rid (fun r => { r with asked := r.asked ++ slow })
            s.each slow (fun s m => s.askMember r.band r.wl m r.i rid)
          else match leastOf (r.failed.filter (fun m => !(r.deep.contains m)
              && s.reg (dwCART (b.readPlace m r.wl).1.slot + 0x404) % 8 ≥ 3)) with
          | some m =>
            let s := s.modRecon rid (fun r => { r with deep := m :: r.deep, failed := r.failed.filter (fun k => k ≠ m) })
            let (mid, s) := s.newReq r.band r.wl m r.i 4 0 none (.member rid m)
            let s := s.modReq mid (fun q => { q with step := 3, levels := (((s.slot (b.readPlace m r.wl).1.slot).nextLevel (s.blockEnt (b.readPlace m r.wl).1).level []).toList) })
            (match s.req? mid with | some mq => s.sendReq mq | none => s)
          | none => (drop s).giveLost q 0 ((List.range (b.n + 2)).filter (fun m => m ≠ q.mp ∧ ¬(r.got.any (fun e => e.1 = m))))

/-- A member's codeword arrives for its reconstructions, or fails. -/
def State.giveMembers (s : State) (q : CwReq) (v : Option (BitVec 32896)) : State :=
  let rs := q.wants.filterMap (fun w => match w with | .member r m => some (r, m) | _ => none)
  s.each rs (fun s e =>
    let s := match v with
      | some v => s.modRecon e.1 (fun r => { r with got := r.got ++ [(e.2, v)] })
      | none => s.modRecon e.1 (fun r => { r with failed := e.2 :: r.failed })
    s.reconStep e.1)

/-- Queue the band of a request for refresh (R126). -/
def State.wantRefresh (s : State) (n bno : Nat) : State :=
  let b := s.band bno
  if b.refresh ∨ b.shavings then s
  else
    let s := (s.modBand bno (fun b => { b with refresh := true })).media' n 224 1
    if b.role = 1 ∨ b.role = 2 then s.modSeg b.nsx b.seg (fun g => { g with refresh := true }) else s

/-- The byte offset of a step's success counter (R135), and of a correction count's bin. -/
def corrBin (k : Nat) : Nat := if k = 0 then 72 else if k ≤ 31 then 80 else if k ≤ 95 then 88 else 96

/-- A codeword decoded at a step: counters, refresh and the tracked level (R122, R126, R135, R136, R137). -/
def State.countDecoded (s : State) (q : CwReq) (n : Nat) (pl : Place) (corrected : Nat) : State :=
  let s := (s.media' n 64 1).bump (dwCART n + 0x408) 1
  let s := if q.step = 0 then
      let s := s.media' n (corrBin corrected) 1
      s.modSlot n (fun x => { x with media := x.media.mod zeroCell 232 (fun v => max v corrected) })
    else s.media' n (96 + 8 * q.step) 1
  let s := if q.step ≥ 2 ∨ (q.step = 0 ∧ corrected ≥ 96) then s.wantRefresh n q.band else s
  let s := if q.step = 3 then s.modBlock pl (fun e => { e with level := q.levels.headD e.level }) else s
  let s := if q.step = 4 ∧ ¬(s.dieBad pl) then s.modBlock pl (fun e => { e with retireNext := if e.retireNext = 0 then 5 else e.retireNext }) else s
  if q.step ≥ 3 then s.log 0x0401 [n, pl.die + 65536 * pl.block, s.pageNo q, q.step] else s

/-- The step after a failed one, or none where the codeword goes to its row (R123, R134). -/
def State.nextStep (s : State) (q : CwReq) (pl : Place) : Option CwReq :=
  let x := s.slot pl.slot
  let t := (s.blockEnt pl).level
  if q.step < 2 then (if q.step + 1 ≤ q.cap then some { q with step := q.step + 1 } else none)
  else if q.cap < 3 then none
  else if q.step < 4 then
    (if q.levels.length < 8 then
      (match x.nextLevel t q.levels with
       | some l => some { q with step := 3, levels := l :: q.levels }
       | none => some { q with step := 4 })
     else some { q with step := 4 })
  else none

/-- Step L5 (R123, R126, R133, R136): the codeword's band is queued for refresh, its die-block retires when it is reclaimed, and the codeword is reconstructed from its row. -/
def State.toRow (s : State) (q : CwReq) (n : Nat) (pl : Place) : State :=
  let s := if s.dieBad pl then s
    else s.modBlock pl (fun e => { e with retireNext := if e.retireNext = 0 then 5 else e.retireNext })
  let s := s.log 0x0401 [n, pl.die + 65536 * pl.block, s.pageNo q, 5]
  (s.wantRefresh n q.band).startRecon q 2

/-- A codeword that leaves the ladder undecoded (R111, R123, R125, R126, R133): members fail, the rest goes to its row unless `MAX_STEP` stops it. -/
def State.ladderEnd (s : State) (q : CwReq) (n : Nat) (pl : Place) : State :=
  let s := if q.step = 4 then s.bump (dwCART n + 0x410) 1 else s
  let s := if q.step ≥ 2 then s.wantRefresh n q.band else s
  if q.isMember then
    let s := if q.step < 4 ∨ s.dieBad pl then s
      else (s.modBlock pl (fun e => { e with retireNext := if e.retireNext = 0 then 5 else e.retireNext })).log 0x0401 [n, pl.die + 65536 * pl.block, s.pageNo q, 4]
    (s.dropReq q.rid).giveMembers q none
  else if s.reg (dwCART n + 0x404) % 8 < 5 then s.giveLost q 2
  else s.toRow q n pl

/-- A codeword that failed at its step climbs on (R123, R124, R137); one that needs L2 or more queues its band for refresh (R126). -/
def State.climb (s : State) (q : CwReq) (n : Nat) (pl : Place) : State :=
  let max' := s.reg (dwCART n + 0x404) % 8
  match s.nextStep q pl with
  | some q' =>
    if q'.step > max' then
      let s := if q'.step ≥ 2 then s.wantRefresh n q.band else s
      (if q.isMember then (s.dropReq q.rid).giveMembers q none else s.giveLost q 2)
    else if s.direct pl = false ∧ ¬q.isMember then s.toRow q n pl
    else (s.modReq q.rid (fun _ => q')).sendReq q'
  | none => s.ladderEnd q n pl

/-- The information bytes of a codeword that arrives (R108): the sequence is that of the place its PROGRAM named, splits followed, a replacement not. -/
def State.clear (s : State) (q : CwReq) (a : CwArrival) : BitVec 32896 :=
  let home := (s.band q.band).placeOf q.mp q.wl
  descramble home.1.die home.1.block (s.rowNo q.band home.2 q.i) (q.i % 4) a.word

/-- A raw codeword arrives for a request (R22): erased class, descrambling and decoding, tag check, then its readers. -/
def State.arrive (s : State) (n : Nat) (q : CwReq) (a : CwArrival) : State :=
  let pl := ((s.band q.band).readPlace q.mp q.wl).1
  if a.zeros ≤ 128 then
    let s := s.media' n 160 1
    if q.isMember then (s.dropReq q.rid).giveMembers q none
    else s.ladderEnd { q with step := 4 } n pl
  else
    let s := if q.step = 1 ∨ q.step = 2 ∨ q.step = 4 then s.bump (dwCART n + 0x40C) 1 else s
    if a.decoded = false then s.climb q n pl
    else
      let info := s.clear q a
      let cw := ofInfo info
      let s := s.countDecoded q n pl a.corrected
      if q.isMember then (s.dropReq q.rid).giveMembers q (some info)
      else if s.tagOk q cw then s.giveAll q cw info
      else if q.again = false then
        let q' := { q with again := true, step := 0, levels := [] }
        (s.modReq q.rid (fun _ => q')).sendReq q'
      else
        let lba := (q.expect.map (·.2)).getD 0
        let s := (s.media' n 152 1).log 0x0403 [n, pl.die + 65536 * pl.block, s.pageNo q, lba, cw.tag.lba]
        s.startRecon q 1

/-! ## The map cache (R151) -/

/-- How many segment-map entries the map cache holds. -/
def mapCacheSize : Nat := 65536

/-- Map resolution of a command's blocks looks its segments up in the map cache; the least recently used entries give way. -/
def State.useMap (s : State) (id : CmdId) (x : Ns) : State :=
  match s.flight? id with
  | none => s
  | some f =>
    let size := max 1 (s.segSize x)
    let lo := slba f.c / size
    let hi := (slba f.c + nlb f.c - 1) / size
    let ks := (List.range (hi + 1 - lo)).map (fun i => (x.nsx, lo + i))
    let miss := ks.any (fun k => !s.media.mapCache.contains k)
    let s : State := { s with media.mapCache := (ks.reverse ++ s.media.mapCache.filter (fun k => !ks.contains k)).take mapCacheSize }
    s.modFlight id (fun f => { f with mapMiss := miss })

/-! ## Issuing the reads of a host command (stage 8) -/

/-- Read one block for a host command: zeros where it was never written, else its codeword, and its metadata codeword where the format has one (R110, R227, R285). -/
def State.readBlock (s : State) (id : CmdId) (x : Ns) (lba : Nat) : State :=
  match s.resolve x lba with
  | none => s.hostBlock id lba zeroBlock (onesSlot x) 0xFFFFFFFF
  | some (b, pos) =>
    let s := s.modBand b (fun y => { y with refs := y.refs + 1 })
    let s := s.modFlight id (fun f => { f with refs := b :: f.refs })
    let i := (s.band b).iOf pos
    let s := s.ask b pos i x.nsx lba (.host id lba)
    if x.hasMeta then s.askMeta b pos (.hostMeta id lba i) else s

/-- Issue every block of a Read, Compare or Verify; the range is then resolved (R292). -/
def State.issueRead (s : State) (id : CmdId) : State :=
  match s.flight? id with
  | none => s
  | some f =>
    match s.ns? f.c.nsid with
    | none => s
    | some x =>
      let s := (s.modFlight id (fun f => { f with issued := true, stage := .started })).useMap id x
      let s := s.each ((List.range (nlb f.c)).map (fun k => slba f.c + k)) (fun s lba => s.readBlock id x lba)
      s.tryRead id

end Sys2Proof.Machine
end

