-- ==== Sys2Proof/Machine/Health.lean ====
section
/-! DEFINITION. Splits, early closing, journal hosts, the slow mark, member and die failure, life thresholds (R66, R129 to R134, R144, R145, R214 to R231). -/

namespace Sys2Proof.Machine

/-- Parameter 2 of the media codes (R136). -/
def posOf (pl : Place) : Nat := pl.die % 65536 + 65536 * pl.block

/-! ## Closing a band early (R115, R131, R158) -/

/-- The data codewords of information bytes with their metadata slots, as a unit carries them. -/
def State.unitBlocks (s : State) (cws : List (Nat × BitVec 32896)) : List (Codeword × BitVec 512) :=
  let l := cws.map (fun (e : Nat × BitVec 32896) => (e.1, ofInfo e.2))
  let m := l.find? (fun (e : Nat × Codeword) => e.2.tag.kind = 1)
  (l.filter (fun (e : Nat × Codeword) => e.2.tag.kind = 0)).map (fun (e : Nat × Codeword) =>
    (e.2, match m with | some y => s.plainSlot e.2.tag.nsx e.2.tag.lba e.1 y.2 | none => 0))

/-- Put blocks that lose their place into the log, tags unchanged. -/
def State.moveToLog (s : State) (p : Nat) (l : List (Codeword × BitVec 512)) : State :=
  s.each l (fun s e => if e.1.tag.kind = 0 then (s.toLog p e.1 e.2).2 else s)

/-- Give up a copy destination: its source still stands (R131). -/
def State.dropFold (s : State) (bno : Nat) : State :=
  let b := s.band bno
  (s.modSeg b.nsx b.seg (fun g => { g with folding := none })).shave bno

/-- Complete the open row with filler and close the band (R115, R131, R158, R217); what lies beyond goes to the log. A copy destination is given up once it is closed, as its source still stands (assumption log 96). -/
def State.closeEarly (s : State) (bno : Nat) : State :=
  let b := s.band bno
  if b.role = 0 ∨ b.closed ∨ b.closing ∨ b.shavings then s
  else
    let rowEnd := if b.taken % b.rowSize = 0 then b.taken else (b.taken / b.rowSize + 1) * b.rowSize
    let keep := min rowEnd (b.taken + b.run b.ahead.length)
    let moved := b.ahead.filter (fun e => e.1 ≥ keep)
    let s := s.modBand bno (fun b => { b with ahead := b.ahead.filter (fun e => e.1 < keep), copying := false })
    let s : State := { s with media.reqs := s.media.reqs.map (fun q => { q with wants := q.wants.filter (fun w => !w.copiesTo bno) }) }
    let hole := if s.metaWaits bno then b.taken + 15 else rowEnd
    let s := s.each (((List.range (rowEnd - keep)).map (fun i => keep + i)).filter (fun pos => pos ≠ hole)) (fun s pos => s.putAt bno pos (s.filler bno) 0)
    let s := s.takeUnits bno (rowEnd - b.taken + 1) false
    let s := s.modBand bno (fun b => { b with closing := true, early := true })
    let s := s.modPool b.pool (fun q => { q with logBand := if q.logBand = some bno then none else q.logBand
                                                 regBand := if q.regBand = some bno then none else q.regBand })
    let s := if b.role = 1 then s.modSeg b.nsx b.seg (fun g => { g with early := true }) else s
    let cut := fun (f : Flight) => { f with parts := (f.parts.map (fun (e : Nat × Nat × Nat) =>
      if e.1 = bno then (e.1, e.2.1, min e.2.2 keep) else e)).filter (fun e => e.2.1 < e.2.2) }
    let s : State := { s with io.flights := s.io.flights.map cut }
    let s := if b.role = 2 then s else s.moveToLog b.pool (moved.map (fun e => e.2))
    if b.role = 4 then s.needReg b.pool else s

/-! ## Splits (R131, R229) -/

/-- Dies of a cartridge that hold an erased die-block in a mode, but for one. -/
def State.erasedDies (s : State) (n mode but : Nat) : List Nat :=
  (List.range (s.slot n).dieCount).filter (fun d => d ≠ but && !(s.slot n).diesFailed.contains d
    && (s.dieBlocks n d).any (fun e => e.2.st = .erased && e.2.mode = mode && e.2.ready))

/-- A die-block on one of some dies of a cartridge: on the die with the fewest open members; a tie is free (R131, R144). -/
def State.takeAmong (s : State) (n mode : Nat) (use : BlockSt) (ds : List Nat) : Option Place × State :=
  let best := (ds.map (s.openOn n)).foldl min (65536 * 65536)
  match s.choose (ds.filter (fun d => s.openOn n d = best)) with
  | (some d, s) => s.takeOn n d mode use
  | (none, s) => (none, s)

/-- A die-block on another die of the same cartridge, an erased one before one erased at once (R131). -/
def State.takeNear (s : State) (old : Place) (mode : Nat) (use : BlockSt) : Option Place × State :=
  let ready := s.erasedDies old.slot mode old.die
  let all := (List.range (s.slot old.slot).dieCount).filter (fun d => d ≠ old.die ∧ ¬(s.slot old.slot).diesFailed.contains d)
  s.takeAmong old.slot mode use (if ready = [] then all else ready)

/-- A die-block on another cartridge that holds nothing of the band and does not journal it, an erased one before one erased at once (R131, R229). -/
def State.takeFar (s : State) (bno : Nat) : Option Place × State :=
  let b := s.band bno
  let cs := (s.fastTakers b.pool).filter (fun n => !b.slots.contains n && n ≠ b.jhost0 && n ≠ b.jhost1)
  let ready := cs.filter (fun n => s.erasedDies n b.mode 65536 ≠ [])
  match s.pickCarts b.pool (if ready = [] then cs else ready) 1 with
  | (n :: _, s) => if ready = [] then s.takeBlock n b.mode (.member bno) else s.takeAmong n b.mode (.member bno) (s.erasedDies n b.mode 65536)
  | ([], s) => (none, s)

/-- The place of a split: near, unless it must be away; a die-block that is erased already comes before one to be erased (R131, R229). -/
def State.splitPlace (s : State) (bno : Nat) (old : Place) (away : Bool) : Option Place × State :=
  let b := s.band bno
  let near := !away && s.canTake b.pool old.slot
  let nearReady := near && s.erasedDies old.slot b.mode old.die ≠ []
  let farReady := (s.fastTakers b.pool).any (fun n => !b.slots.contains n && n ≠ b.jhost0 && n ≠ b.jhost1 && s.erasedDies n b.mode 65536 ≠ [])
  match (if nearReady || (near && !farReady) then s.takeNear old b.mode (.member bno) else (none, s)) with
  | (some pl, s) => (some pl, s)
  | (none, s) => s.takeFar bno

/-- The cartridge commands that program a unit no longer count for it: their replies are ignored. -/
def State.forget (s : State) (uid : Nat) : State :=
  { s with slots := s.slots.every slot0 (fun _ x => { x with out := x.out.map (fun (o : Nat × OutCmd) =>
      if o.2.why = .unit uid then (o.1, { o.2 with why := .unit 0 }) else o) }) }

/-- Move a unit to a new place, to be programmed there. -/
def State.replaceUnit (s : State) (uid : Nat) (pl : Place) (pwl : Nat) : State :=
  (s.forget uid).modUnit uid (fun u => { u with at_ := pl, pwl := pwl, sent := false })

/-- The seventeenth split of a band (R131): the units that lost their place go to the log, and the band is closed. In a direct band so does every block at or above the lowest of them, as the frontier stops there. -/
def State.splitFull (s : State) (bno wl mp : Nat) : State :=
  let b := s.band bno
  let parity := mp = pPos bno b.n ∨ mp = qPos bno b.n
  let posOf := fun (u : PUnit) => u.wl * b.rowSize + dataIdx bno b.n u.mp * b.step
  let low := if parity then wl * b.rowSize else wl * b.rowSize + dataIdx bno b.n mp * b.step
  let mine := s.media.units.filter (fun u => u.band = some bno && u.restore = 0)
  let dead := mine.filter (fun u => u.mp = mp && wl ≤ u.wl && !u.verified)
  let data := mine.filter (fun u => u.mp ≠ pPos bno b.n && u.mp ≠ qPos bno b.n)
  let lost := if b.role = 1 then data.filter (fun u => low ≤ posOf u)
    else data.filter (fun u => !u.verified && (dead.any (fun v => v.uid = u.uid) || (decide parity && wl ≤ u.wl)))
  let s := s.each dead (fun s u => s.forget u.uid)
  let s : State := { s with media.units := s.media.units.filter (fun u => !dead.any (fun v => v.uid = u.uid)) }
  let s := s.closeEarly bno
  let s := s.modBand bno (fun b => { b with torn := b.torn ++ dead.map (fun u => (mp, u.wl)) })
  let off := fun (p : Nat) => lost.any (fun u => posOf u ≤ p && p < posOf u + b.step)
  let cut := fun (f : Flight) => { f with
    units := f.units.filter (fun k => !lost.any (fun u => u.uid = k))
    locs := f.locs.filter (fun l => !(l.2.1 = bno && off l.2.2))
    parts := if b.role = 1 then (f.parts.map (fun (e : Nat × Nat × Nat) => if e.1 = bno then (e.1, e.2.1, min e.2.2 low) else e)).filter (fun e => e.2.1 < e.2.2) else f.parts }
  let s : State := { s with io.flights := s.io.flights.map cut }
  if b.role = 1 ∨ b.role = 3 then s.moveToLog b.pool (lost.flatMap (fun u => s.unitBlocks u.cws)) else s

/-- Split a member at a band wordline (R131): every unverified unit of it from there on moves; without a die-block they wait for one. A copy destination, and a log band that takes garbage-collection copies, gets code 0x0421 with its source. -/
def State.splitMember (s : State) (bno wl mp : Nat) (away : Bool) : State :=
  let b := s.band bno
  let old := (b.placeOf mp wl).1
  let kept := b.splits.filter (fun e => ¬(e.1 = mp ∧ e.2.1 = wl ∧ e.2.2 = ⟨64, 0, 0⟩))
  let later := (s.media.units.filter (fun u => u.band = some bno ∧ u.mp = mp ∧ u.restore = 0 ∧ wl ≤ u.wl ∧ u.verified = false)).map (fun u => (u.uid, u.wl))
  if kept.length ≥ 16 then s.splitFull bno wl mp
  else
    let (pl, s) := s.splitPlace bno old away
    let new := pl.getD ⟨64, 0, 0⟩
    let s := s.modBand bno (fun b => { b with splits := kept ++ [(mp, wl, new)] })
    let s := s.each later (fun s e => s.replaceUnit e.1 new (e.2 - wl))
    if pl.isNone then s
    else
      let n := if old.slot < 64 then old.slot else new.slot
      let s := if old.slot < 64 then s.media' old.slot 208 1 else s
      let src := if b.role = 2 then some (b.prevA.getD 0xFFFFFFFF)
        else (s.media.gcs.find? (fun g => g.made.any (fun e => e.2.2.1 = bno))).map Gc.src
      match src with
      | some a => s.log 0x0421 [n, posOf old, a, bno]
      | none => s.log 0x040A [n, posOf old, bno, posOf new]

/-- A restore unit that fails: from that wordline on the restored member goes to another die-block (R236). -/
def State.splitTarget (s : State) (u : PUnit) : State :=
  match u.band with
  | none => s
  | some bno =>
    let s := s.log 0x0506 [u.at_.slot, bno]
    let s := s.modBlock u.at_ (fun e => { e with retireNext := 3 })
    let (pl, s) := if s.canTake (s.band bno).pool u.at_.slot then s.takeNear u.at_ (s.band bno).mode (.member bno) else (none, s)
    let (pl, s) := match pl with | some pl => (some pl, s) | none => s.takeFar bno
    let later := s.media.units.filter (fun v => v.restore ≠ 0 ∧ v.band = some bno ∧ v.mp = u.mp ∧ u.wl ≤ v.wl ∧ v.verified = false)
    s.each later (fun s v => s.replaceUnit v.uid (pl.getD ⟨64, 0, 0⟩) (v.wl - u.wl))

/-- Give up members being rebuilt or migrated: their targets are free again and erased before use (R233, R237). -/
def State.abandon (s : State) (p : PUnit → Bool) : State :=
  let dead := s.media.units.filter (fun u => u.restore ≠ 0 ∧ p u)
  let s := s.each dead (fun s u => s.forget u.uid)
  let s : State := { s with media.units := s.media.units.filter (fun u => ¬dead.any (fun v => v.uid = u.uid)) }
  s.each ((dead.map (fun u => u.at_)).dedup.filter (fun pl => pl.slot < 64)) (fun s pl => s.modBlock pl (fun e => { e with st := .free }))

/-- Units that no place can take now are placed again: their cartridge is slow, failed, or none was found (R131, R220, R229); a restored member without a place starts again (R233). -/
def State.replaceStuck (s : State) : State :=
  s.each (s.media.units.map (fun u => u.uid)) (fun s uid =>
    match s.unit? uid with
    | none => s
    | some u =>
      match u.band with
      | none => s
      | some b =>
        if u.sent = false ∧ u.verified = false ∧ u.restore = 0 ∧ (u.at_.slot ≥ 64 ∨ (s.slot u.at_.slot).slow ∨ s.dieBad u.at_) then
          s.splitMember b u.wl u.mp (u.at_.slot ≥ 64 || (s.slot u.at_.slot).slow)
        else if u.restore ≠ 0 ∧ u.verified = false ∧ u.at_.slot ≥ 64 then s.abandon (fun v => v.band = some b && v.mp = u.mp)
        else s)

/-! ## Journal hosts (R214 to R218, R514) -/

/-- The rows of a band that have a record of one parity on a host. -/
def rowsOn (old : List JRec) (bno pq : Nat) : List Nat := ((old.filter (fun j => j.band = bno ∧ j.pq = pq)).map JRec.wl).dedup

/-- Begin the substitute of a pinned record (R218): its parity is computed from the units that its `MEMBERS` names, each read, or reconstructed with the surviving record of the pair. -/
def State.recompute (s : State) (j : JRec) (sub : Nat) : State :=
  let (k, s) := s.newJ j.band j.wl j.pq j.mask sub (List.replicate j.parity.length 0) true
  let todo := ((List.range ((s.band j.band).n + 2)).filter (fun m => j.mask.testBit m)).flatMap (fun m => (List.range j.parity.length).map (fun i => (m, i)))
  let s : State := { s with media.jrecs := s.media.jrecs ++ [{ k with mode := j.mode, openSeq := j.openSeq, left := 1, await := todo }] }
  s.each todo (fun s e => s.askAt j.band j.wl e.1 e.2 (.journal k.jid e.1 e.2))

/-- Replace the records of one band and parity that a lost host held (R216, R218): those of open rows from the parity in staging, pinned ones by computation; how many. -/
def State.rejournal (s : State) (bno pq sub : Nat) (old : List JRec) : Nat × State :=
  let rows := rowsOn old bno pq
  (rows.length, s.each rows (fun s wl =>
    match s.rowParity bno wl pq with
    | some (m, par) => (s.ringRoom sub).writeJ bno wl pq m sub par true
    | none =>
      if (s.band bno).pinned then
        (match (old.filter (fun j => j.band = bno ∧ j.pq = pq ∧ j.wl = wl)).getLast? with
         | some j => s.recompute j sub
         | none => s)
      else s))

/-- Drop the journal of a host that can no longer be read. -/
def State.dropJournal (s : State) (n : Nat) : State :=
  { s with
    media.jrecs := s.media.jrecs.filter (fun j => j.host ≠ n)
    media.rings := drop' s.media.rings n
    media.units := s.media.units.filter (fun u => match u.kind with | .journal h _ => h != n | _ => true) }

/-- A journal host is failed, slow or draining (R216, R217); with `gone` its records can no longer be read. -/
def State.journalLost (s : State) (n : Nat) (gone : Bool := false) : State :=
  let bs := (s.media.bands.filter (fun e => e.2.role ≠ 0 ∧ ¬e.2.shavings ∧ (e.2.pinned ∨ ¬e.2.closed) ∧ (e.2.jhost0 = n ∨ e.2.jhost1 = n))).map (fun e => e.1)
  let old := s.media.jrecs.filter (fun j => j.host = n)
  let s := if gone then s.dropJournal n else s
  if bs.isEmpty then s
  else
    let pq := fun (bno : Nat) => if (s.band bno).jhost0 = n then 0 else 1
    let rows := (bs.map (fun b => (rowsOn old b (pq b)).length)).sum
    let s := s.log 0x0510 [n, rows]
    s.each bs (fun s bno =>
      let b := s.band bno
      let pq := if b.jhost0 = n then 0 else 1
      match s.pickJhost b.pool (b.slots ++ [b.jhost0, b.jhost1]) with
      | some sub =>
        let s := s.modBand bno (fun b => if pq = 0 then { b with jhost0 := sub } else { b with jhost1 := sub })
        let (k, s) := s.rejournal bno pq sub old
        s.modPool b.pool (fun q => { q with rejournals := satAdd 64 q.rejournals k })
      | none => if b.closed ∨ b.closing then s else (s.closeEarly bno).log 0x0512 [b.pool, bno])

/-- Replace a die-block of a journal ring, on another die where its own is failed, and record the change (R514); a host without any left is lost. -/
def State.replaceJournal (s : State) (n : Nat) (old : Place) : State :=
  let r := s.ring n
  match r.blocks.findIdx? (fun b => b = old) with
  | none => s
  | some k =>
    let wl := if k = r.cur then 0 else r.wl
    let (d, s) := if (s.slot n).diesFailed.contains old.die then s.pickDie n else (some old.die, s)
    let (pl, s) := match d with | some d => s.pickDirty n d | none => (none, s)
    let s := match pl with
      | some pl => (s.eraseFor pl 1 .journal).setRing n { r with blocks := r.blocks.set k pl, wl := wl }
      | none => s.setRing n { r with blocks := r.blocks.eraseIdx k, wl := wl
                                     cur := (if k < r.cur then r.cur - 1 else r.cur) % max 1 (r.blocks.length - 1) }
    let s := match (s.slot n).pool with
      | some p => s.writeRoot p .nothing
      | none => s
    if (s.ring n).blocks.isEmpty then s.journalLost n else s

/-- A journal die-block takes no more programs (R514): every record of the failed unit, and of what still waited for the die-block, is written again into the next one, from the parity in staging. -/
def State.journalFailed (s : State) (host : Nat) (at_ : Place) (uid : Option Nat) : State :=
  let r := s.ring host
  let mates := s.media.units.filter (fun v => v.at_ = at_ && (some v.uid = uid || !v.sent))
  let here : Bool := r.blocks[r.cur]? = some at_
  let hit := mates.flatMap (fun v => match v.kind with | .journal _ l => l | _ => []) ++ (if here then r.fill.map (·.1) else [])
  let old := s.media.jrecs.filter (fun j => hit.contains j.jid ∧ s.newestJ j)
  let s := if here then s.setRing host { r with cur := (r.cur + 1) % max 1 r.blocks.length, wl := 0, fill := [] } else s
  let s := s.replaceJournal host at_
  let s : State := { s with
    media.units := s.media.units.filter (fun v => !(mates.any (fun w => w.uid = v.uid)))
    media.jrecs := s.media.jrecs.filter (fun j => !(hit.contains j.jid)) }
  if (s.ring host).blocks.isEmpty then s
  else s.each old (fun s j => (s.ringRoom host).rewriteJ j host j.subst)

/-! ## Slow mark (R219, R220) -/

/-- Serve a read degraded: its reply from the cartridge no longer counts. -/
def State.degrade (s : State) (n tag rid : Nat) : State :=
  let s := s.modSlot n (fun x => { x with out := x.out.map (fun (o : Nat × OutCmd) => if o.1 = tag then (o.1, { o.2 with why := .cw 0 }) else o) })
  match s.req? rid with
  | some q =>
    if q.viaRow then s
    else if q.step = 0 then s.startRecon q 0
    else s.toRow q n ((s.band q.band).readPlace q.mp q.wl).1
  | none => s

/-- The reads outstanding to a cartridge that are not members of a reconstruction. -/
def State.hostReads (s : State) (n : Nat) : List (Nat × Nat) :=
  (s.slot n).out.filterMap (fun (o : Nat × OutCmd) => match o.2.why with
    | .cw rid => (match s.req? rid with
      | some q => if q.isMember then none else some (o.1, rid)
      | none => none)
    | _ => none)

/-- Set the slow mark (R219). -/
def State.setSlow (s : State) (n cause : Nat) : State :=
  let x := s.slot n
  if x.slow ∨ ¬(x.st = .inService ∨ x.st = .draining) then s
  else
    let s := (s.modSlot n (fun x => { x with slow := true, slowSince := s.gbk.uptime, fastProbes := 0 })).log 0x0501 [n, cause]
    let s := s.each (s.hostReads n) (fun s e => s.degrade n e.1 e.2)
    ((s.journalLost n).replaceStuck).pump

/-- Clear the slow mark when every condition of R220 holds. -/
def State.tryClearSlow (s : State) (n : Nat) : State :=
  let x := s.slot n
  if x.slow ∧ x.phase = 5 ∧ x.fastProbes ≥ 3 ∧ ¬x.rolling ∧ ¬x.updating ∧ ¬x.out.any (fun (o : Nat × OutCmd) => o.2.slowCounted) then
    ((s.modSlot n (fun x => { x with slow := false, fastProbes := 0 })).log 0x0502 [n, s.gbk.uptime - x.slowSince]).pump
  else s

/-! ## Pool state (R145) -/

/-- The namespaces of a pool. -/
def State.poolNss (s : State) (p : Nat) : List Ns := s.media.nss.filter (fun x => x.pool = p)
/-- Whether a namespace can open no dense band. -/
def State.narrowFor (s : State) (x : Ns) : Bool := (s.inService x.pool).length < x.nNs + 4

/-- Follow the narrow state of a pool. -/
def State.checkNarrow (s : State) (p : Nat) : State :=
  let bad := (s.poolNss p).filter s.narrowFor
  let was := (s.pool p).narrow
  let s := s.modPool p (fun q => { q with narrow := !bad.isEmpty })
  match bad with
  | x :: _ => if was then s else s.log 0x0413 [p, (s.inService p).length, x.nNs]
  | [] => s

/-! ## Member failure (R222 to R225, R230) -/

/-- Bytes of one member die-block in a mode. -/
def Pool.memberBytes (q : Pool) (mode : Nat) : Nat := 4 * 16384 * (if mode = 0 then q.pagesDense else q.pagesSlc)

/-- Rename every place of a slot. -/
def State.rename (s : State) (n key : Nat) : State :=
  let r := fun (pl : Place) => if pl.slot = n then { pl with slot := key } else pl
  { s with
    media.bands := s.media.bands.every band0 (fun _ b => { b with
      members := b.members.map r
      splits := b.splits.map (fun (x : Nat × Nat × Place) => (x.1, x.2.1, r x.2.2))
      relocs := b.relocs.map (fun (x : Nat × Nat × Place × Nat) => (x.1, x.2.1, r x.2.2.1, x.2.2.2)) })
    media.blocks := s.media.blocks.map (fun (e : Place × BlockEnt) => (r e.1, e.2))
    media.units := s.media.units.map (fun u => { u with at_ := r u.at_, sent := if u.at_.slot = n then u.verified else u.sent
                                                        fetch := if u.at_.slot = n then none else u.fetch }) }

/-- The bands, not shavings, with a member on a slot or gone key, and the mode of each. -/
def State.bandsOn (s : State) (n : Nat) : List Nat :=
  (s.media.bands.filter (fun e => e.2.role ≠ 0 ∧ ¬e.2.shavings ∧ e.2.slots.contains n)).map (fun e => e.1)
/-- Members of a band that are gone. -/
def Band.goneCount (b : Band) : Nat := (b.members.filter (fun pl => pl.slot ≥ 64)).length

/-- R223: another member concerned, when a slow-ratio failure must be withheld. -/
def State.withheld (s : State) (n : Nat) : Option Nat :=
  let others := ((s.bandsOn n).flatMap (fun b => (s.band b).slots)).filter (fun m => m ≠ n)
  let failed := others.filterMap (fun m => if m < 64 then none else (s.media.gone.find? (fun g => g.key = m)).map Gone.slot)
  match leastOf failed with
  | some m => some m
  | none => leastOf (others.filter (fun m => m < 64 ∧ (s.slot m).slow))

/-! ## A sequencer update that ends (R61, R246) -/

/-- The value of a slot state (R68). -/
def SlotSt.code : SlotSt → Nat
  | .empty => 0 | .debounce => 1 | .powering => 2 | .training => 3 | .admitting => 4 | .quarantined => 5 | .rejected => 6
  | .admitted => 7 | .inService => 8 | .draining => 9 | .readyRemove => 10 | .failed => 11 | .off => 12

def SlotSt.member (x : SlotSt) : Bool := x = .inService || x = .draining

/-- Complete the Cartridge Service command that waits for an update: the resulting state and the final status (R246). -/
def State.endUpdCmd (s : State) (n status : Nat) : State :=
  match (s.slot n).updCmd with
  | none => s
  | some id =>
    let st := (s.slot n).st.code
    ((s.modSlot n (fun x => { x with updCmd := none })).log 0x0520 [n, 2, st]).post id .success (st + 256 * status)

/-- An update in progress has failed (R61). -/
def State.updateFails (s : State) (n status : Nat) : State :=
  if (s.slot n).updating then
    (s.modSlot n (fun x => { x with updating := false, rolling := false, reason := if x.st.member then x.reason else 6 })).log 0x0307 [n, status]
  else s

/-- Declare a member failed (R224); the slot goes to `FAILED`, or to `EMPTY` after removal. DESIGN CHOICE (assumption log 95): the bytes of code 0x0504 count one die-block for each band, not shavings, with a place on the slot. -/
def State.failMember (s : State) (n reason : Nat) : State :=
  let x := s.slot n
  match x.pool with
  | none => s
  | some p =>
    let s := s.updateFails n 0xFF
    let reqs := (s.media.reqs.filter (fun q => ((s.band q.band).readPlace q.mp q.wl).1.slot = n ∧ q.viaRow = false)).map (fun q => q.rid)
    let key := 64 + s.media.nextId
    let s := (s.freshId).2
    let blocks := s.bandsOn n
    let bytes := (blocks.map (fun b => (s.pool p).memberBytes (s.band b).mode)).sum
    let roots := s.media.units.filter (fun u => u.at_.slot = n && (match u.kind with | .root _ => true | _ => false))
    let s := s.rename n key
    let s := s.each roots (fun s u => match u.kind with
      | .root rid => { s with media.recs := s.media.recs.map (fun r => if r.rid = rid then { r with left := r.left - 1 } else r)
                              media.units := s.media.units.filter (fun v => v.uid ≠ u.uid) }
      | _ => s)
    let lost := (s.media.units.filter (fun u => u.at_.slot = key ∧ u.restore ≠ 0)).map (fun u => (u.band, u.mp))
    let s : State := { s with media.blocks := s.media.blocks.filter (fun e => e.1.slot ≠ key || (match e.2.st with | .member _ => true | _ => false)) }
    let s := s.abandon (fun u => lost.contains (u.band, u.mp))
    let s := (s.powerDown n).modSlot n (fun x => { x with
      st := if reason = 9 then .empty else .failed
      reason := reason, pool := none, lastPool := some p, drain := none, slow := false
      rebuildDone := false, lostMember := reason = 9 })
    let s := s.slotEvent n 10
    let s := s.modPool p (fun q => { q with members := q.members.map (fun m => if m.slot = n ∧ m.st ≠ 2 then { m with st := 2, slot := key } else m) })
    let s := s.writeRoot p .nothing
    let g : Gone := { key := key, slot := n, pool := p, idx := x.midx, reason := reason, startMs := s.gbk.uptime, total := bytes }
    let running := s.media.gone.any (fun g => g.pool = p && !g.done)
    let s := { s with media.gone := s.media.gone ++ [g] }
    let s := if running then s else s.modPool p (fun q => { q with rebuildStart := s.gbk.uptime, rebuildDone := 0, rebuildBytes := 0, targets := [] })
    let s := (s.log 0x0503 [n, reason, p]).log 0x0504 [p, n, bytes]
    let s := s.each (blocks.filter (fun b => (s.band b).goneCount ≥ 2 ∧ ¬(s.band b).doubled)) (fun s b =>
      (s.modBand b (fun x => { x with doubled := true })).log 0x0508 [p, b])
    let s := s.journalLost n true
    let s := s.each reqs (fun s rid => match s.req? rid with
      | some q => if q.isMember then (s.dropReq rid).giveMembers q none
                  else s.startRecon q (if q.step = 0 then 0 else 2)
      | none => s)
    (((s.replaceStuck).checkNarrow p).pump).endUpdCmd n 0xFF

/-! ## Die failure (R134) and life (R66) -/

/-- Programs of root pages to places that take none no longer count (R191). -/
def State.dropRootUnits (s : State) (bad : Place → Bool) : State :=
  s.each (s.media.units.filter (fun u => bad u.at_ && (match u.kind with | .root _ => true | _ => false))) (fun s u => match u.kind with
    | .root rid => { s with media.recs := s.media.recs.map (fun r => if r.rid = rid then { r with left := r.left - 1 } else r)
                            media.units := s.media.units.filter (fun v => v.uid ≠ u.uid) }
    | _ => s)

/-- Start a drain (R173). -/
def State.startDrain (s : State) (n : Nat) (c : DrainCause) : State :=
  match (s.slot n).pool with
  | none => s
  | some p =>
    let code := match c with | .life => 0 | .remove => 1 | .service => 2
    let s := s.modSlot n (fun x => { x with st := .draining, drain := some c })
    let s := s.modPool p (fun q => { q with members := q.members.map (fun m => if m.slot = n then { m with st := 1 } else m) })
    let s := (s.writeRoot p .nothing).log 0x0415 [p, n, code]
    (s.journalLost n).checkNarrow p

/-- The actions of R66, once per crossing. -/
def State.lifeCheck (s : State) (n : Nat) : State :=
  let x := s.slot n
  let s := if x.life ≥ 800 ∧ x.lifeFlags.testBit 0 = false then
      ((s.modSlot n (fun x => { x with lifeFlags := x.lifeFlags ||| 1 })).slotEvent n 8).log 0x030C [n, x.life]
    else s
  let s := if x.retireBits ≠ 0 ∧ x.lifeFlags.testBit 1 = false ∧ (x.st = .inService ∨ x.st = .draining) then
      let s := (s.modSlot n (fun x => { x with lifeFlags := x.lifeFlags ||| 2 })).log 0x030D [n, x.life, x.retireBits]
      if x.st = .inService then s.startDrain n .life
      else s.modSlot n (fun x => { x with drain := some .life })
    else s
  if x.life ≥ 1000 ∧ x.lifeFlags.testBit 2 = false ∧ (x.st = .inService ∨ x.st = .draining) then
    ((s.modSlot n (fun x => { x with lifeFlags := x.lifeFlags ||| 4 })).log 0x030E [n, x.life]).dropRootUnits (fun pl => pl.slot = n)
  else s

/-- The running ladders on a die go to their rows (R124): their replies no longer count; member reads have failed. -/
def State.leaveLadder (s : State) (n d : Nat) : State :=
  let l := (s.slot n).out.filterMap (fun (o : Nat × OutCmd) => match o.2.why with
    | .cw rid => if o.2.m.die = d && (s.req? rid).any (fun q => q.step ≥ 1 && !q.viaRow) then some (o.1, rid) else none
    | _ => none)
  s.each l (fun s e => match s.req? e.2 with
    | some q => if q.isMember then (s.dropReq e.2).giveMembers q none else s.degrade n e.1 e.2
    | none => s)

/-- The journal die-blocks on a failed die are replaced (R134, R514). -/
def State.ringLeaves (s : State) (n d : Nat) : State :=
  s.each ((s.ring n).blocks.filter (fun pl => pl.die = d)) (fun s pl => s.journalFailed n pl none)

/-- A die is failed: cause 0 status 14h, 1 retirements (R134). -/
def State.dieFailed (s : State) (n d cause : Nat) : State :=
  let x := s.slot n
  if x.diesFailed.contains d then s
  else
    let s := (s.modSlot n (fun x => { x with diesFailed := d :: x.diesFailed })).log 0x0409 [n, d, cause]
    let bad := fun (q : CwReq) => let pl := ((s.band q.band).readPlace q.mp q.wl).1; pl.slot == n && pl.die == d
    let s : State := { s with media.reqs := s.media.reqs.map (fun (q : CwReq) => if bad q then { q with cap := 2 } else q) }
    let s := s.leaveLadder n d
    let us := (s.media.units.filter (fun u => u.at_.slot = n ∧ u.at_.die = d ∧ u.verified = false)).map (fun u => u.uid)
    let s := s.each us (fun s uid => match s.unit? uid with
      | some u => (match u.band with
        | some b => if u.at_.slot ≠ n ∨ u.at_.die ≠ d then s
                    else if u.restore = 0 then s.splitMember b u.wl u.mp false else s.splitTarget u
        | none => s)
      | none => s)
    let bs := (s.media.bands.filter (fun e => e.2.role ≠ 0 ∧ ¬e.2.closed ∧ ¬e.2.closing ∧ ¬e.2.shavings)).map (fun e => e.1)
    let s := s.each bs (fun s bno =>
      s.each (List.range ((s.band bno).n + 2)) (fun s mp =>
        let b := s.band bno
        let wl := b.wlOf b.taken
        let pl := (b.placeOf mp wl).1
        if pl.slot = n ∧ pl.die = d then s.splitMember bno wl mp false
        else s))
    let s := (s.ringLeaves n d).dropRootUnits (fun pl => pl.slot = n && pl.die = d)
    (s.replaceStuck).lifeCheck n

/-- A die-block is retired: count it, and fail the die at 16 (R134). -/
def State.noteRetired (s : State) (n d : Nat) : State :=
  let s := s.modSlot n (fun x => { x with retired := x.retired + 1 })
  let k := ((s.dieBlocks n d).filter (fun e => e.2.st = .retired)).length
  let s := if k ≥ 16 then s.dieFailed n d 1 else s
  s.lifeCheck n

end Sys2Proof.Machine
end

