-- ==== Sys2Proof/Machine/Settle.lean ====
section
/-! DEFINITION. What follows once programs are final: rows complete, records become durable, bands close, copies are published (R146, R149 to R154, R158, R165 to R168, R173, R181, R187 to R193, R230 to R238). -/

namespace Sys2Proof.Machine

/-! ## Copies of a fold, refresh or frontier fill (R158, R165) -/

/-- A block of zeros with the metadata of R285, encrypted (R159, R285). -/
def zeroCw (x : Ns) (seq lba : Nat) : Codeword :=
  { tag := { seqLo := seq % 2 ^ 48, lba := lba, kind := 0, nsx := x.nsx, cfirst := true, clast := true }
    data := Config.xts x.key lba zeroBlock }

/-- Begin the copy of one position: from the log as it stands now, else from the dense bands, else zeros. -/
def State.copyPos (s : State) (dst : Nat) (x : Ns) (pos : Nat) : State :=
  let b := s.band dst
  let lba := b.seg * b.size + pos
  if pos < b.taken ∨ b.ahead.any (fun e => e.1 = pos) then s
  else if x.dealloc.contains lba then
    (s.putAt dst pos (zeroCw x b.copySeq lba) (onesSlot x)).modBand dst (fun b => { b with copied := (lba, 0) :: b.copied })
  else
    let s := match look s.media.log (x.nsx, lba) with
      | some e => s.modBand dst (fun b => { b with copied := (lba, e.seq) :: b.copied })
      | none => s
    match s.resolve x lba with
    | none => s.putAt dst pos (zeroCw x b.copySeq lba) (onesSlot x)
    | some (src, sp) =>
      let i := (s.band src).iOf sp
      if x.hasMeta then s.askMeta src sp (.copyMeta dst pos i)
      else s.ask src sp i x.nsx lba (.copy dst pos)

/-- Begin the copy of the present row. -/
def State.copyRowOf (s : State) (dst : Nat) : State :=
  let b := s.band dst
  match s.nsx? b.nsx with
  | none => s
  | some x => s.each ((List.range b.rowSize).map (fun k => b.copyRow * b.rowSize + k)) (fun s pos => s.copyPos dst x pos)

/-- A copy destination whose reads are all answered takes its units and goes on with the next row; after the last it closes. -/
def State.copyOn (s : State) (dst : Nat) : State :=
  if s.media.reqs.any (fun q => q.wants.any (fun w => w.copiesTo dst)) then s
  else
    let s := s.takeUnits dst ((s.band dst).ahead.length + 1) false
    let b := s.band dst
    if b.taken < (b.copyRow + 1) * b.rowSize then s
    else if b.copyRow + 1 ≥ b.rows then s.modBand dst (fun b => { b with copying := false, closing := true })
    else (s.modBand dst (fun b => { b with copyRow := b.copyRow + 1 })).copyRowOf dst

/-- Remove what a finished copy has taken over (R165): log entries it included, and deallocations it wrote as zeros (R159, R243). -/
def State.dropCopied (s : State) (dst : Nat) : State :=
  let b := s.band dst
  let nsid := ((s.nsx? b.nsx).map Ns.nsid).getD 0
  let s : State := { s with media.log := s.media.log.filter (fun e => ¬(e.1.1 = b.nsx ∧ b.copied.any (fun c => c.1 = e.1.2 ∧ c.2 = e.2.seq))) }
  s.each (b.copied.filter (fun c => c.2 = 0)) (fun s c =>
    (s.modNs b.nsx (fun x => { x with dealloc := x.dealloc.filter (fun l => l ≠ c.1) })).dropLost nsid c.1 (c.1 + 1))

/-! ## What a durable record brings (R193) -/

/-- Complete a command that waited, whether it is a started I/O command or an admin command. -/
def State.complete (s : State) (id : CmdId) (st : Status) (dw0 : Nat) : State :=
  if (s.flight? id).isSome then s.finish id st dw0 else s.post id st dw0

/-- A dense band whose closing summary is durable: a direct band then stands alone in its segment (R158); a copy destination closed before it was whole is given up (assumption log 96). -/
def State.summaryDone (s : State) (bno : Nat) : State :=
  let s := s.modBand bno (fun b => { b with sumDurable := true })
  let b := s.band bno
  if b.role = 2 ∧ b.early then s.dropFold bno
  else if b.role = 1 ∧ b.early = false then
    match (s.nsx? b.nsx).map (fun x => x.seg b.seg) with
    | none => s
    | some g =>
      if g.a = some bno then
        let s := (s.modSeg b.nsx b.seg (fun g => { g with a := none, b := some bno, f := 0, early := false })).dropCopied bno
        match g.b with
        | some old => s.shave old
        | none => s
      else s
  else s

/-- Where the wordlines of a restored member lie, beyond its first die-block: the splits and relocations of the new member (R131, R232, R236). -/
def memberParts (pos : Nat) (units : List PUnit) (rows : Nat) : List (Nat × Nat × Place) × List (Nat × Nat × Place × Nat) :=
  let at_ := fun (w : Nat) => (units.find? (fun u => u.wl = w))
  let sp := (List.range rows).filterMap (fun w =>
    match at_ w, at_ (w - 1) with
    | some u, some v => if w ≠ 0 ∧ u.at_ ≠ v.at_ then some (pos, w, u.at_) else none
    | _, _ => none)
  (sp, units.filterMap (fun u => u.moved.map (fun m => (pos, u.wl, m.1, m.2))))

/-- A member record is durable (R193): the position lies at its new place, and the old die-blocks are given up. -/
def State.memberDone (s : State) (bno pos : Nat) (pl : Place) (cause : Nat) : State :=
  let b := s.band bno
  let old := (b.members.getD pos pl) :: (b.splits.filter (fun e => e.1 = pos)).map (fun e => e.2.2)
  let new := memberParts pos (s.media.units.filter (fun u => u.restore ≠ 0 ∧ u.band = some bno ∧ u.mp = pos)) (b.wlOf b.taken)
  let s := s.modBand bno (fun b => { b with members := b.members.set pos pl
                                            splits := b.splits.filter (fun e => e.1 ≠ pos) ++ new.1
                                            relocs := b.relocs.filter (fun e => e.1 ≠ pos) ++ new.2
                                            torn := b.torn.filter (fun e => e.1 ≠ pos) })
  let s : State := { s with media.units := s.media.units.filter (fun u => ¬(u.restore ≠ 0 ∧ u.band = some bno ∧ u.mp = pos)) }
  let s := s.each (old.filter (fun o => o ≠ pl ∧ ¬new.1.any (fun e => e.2.2 = o))) (fun s o => s.shaveBlock bno o)
  let bytes := (s.pool b.pool).memberBytes b.mode
  if cause = 1 then
    { s.modPool b.pool (fun q => { q with rebuildDone := q.rebuildDone + 1, rebuildBytes := q.rebuildBytes + bytes }) with
      media.gone := s.media.gone.map (fun g => if old.any (fun o => o.slot = g.key) then { g with bytes := g.bytes + bytes } else g) }
  else s

/-- Release the whole segments `seg` to `seg + cnt - 1` of a namespace (R159, R243). -/
def State.releaseSegs (s : State) (nsx seg cnt seq : Nat) : State :=
  match s.nsx? nsx with
  | none => s
  | some x =>
    let size := s.segSize x
    let ks := (List.range cnt).map (fun k => seg + k)
    let bands := ks.flatMap (fun k => let g := x.seg k; g.a.toList ++ g.b.toList ++ g.folding.toList)
    let s := s.each bands (fun s b => s.shave b)
    let s := s.each ks (fun s k => s.modSeg nsx k (fun g => { lastFold := g.lastFold }))
    let inside := fun (l : Nat) => seg ≤ l / size && l / size < seg + cnt
    let s : State := { s with media.log := s.media.log.filter (fun e => !(e.1.1 == nsx && inside e.1.2 && e.2.seq < seq)) }
    (s.modNs nsx (fun x => { x with dealloc := x.dealloc.filter (fun l => !inside l) })).dropLost x.nsid (seg * size) ((seg + cnt) * size)

/-- The range of a Dataset Management command that holds these blocks is done (R292); the command completes with its last range. -/
def State.rangeDone (s : State) (id : CmdId) (lo hi : Nat) : State :=
  let mine := fun (r : Nat × Nat × Nat) => r.1 ≤ lo && hi ≤ r.1 + r.2.1 && r.2.2 = 1
  let done := ((s.flight? id).map (fun f => f.ranges.filter mine)).getD []
  let s := s.modFlight id (fun f => { f with ranges := f.ranges.map (fun r => if mine r then (r.1, r.2.1, 2) else r) })
  let s : State := { s with io.locks := s.io.locks.filter (fun l => ¬(l.id = id ∧ done.any (fun r => l.lo = r.1 ∧ l.hi = r.1 + r.2.1))) }
  match s.flight? id with
  | some f => if f.ranges.all (fun r => r.2.2 = 2) then s.finish id (f.bad.getD .success) else s
  | none => s

/-- Whether other release records of a namespace are still on their way. -/
def State.releasesLeft (s : State) (nsx rid : Nat) : Bool :=
  s.media.recs.any (fun y => y.rid != rid && !y.durable && (match y.k with | .release n _ _ _ => n == nsx | _ => false))

/-- A namespace's change is done (R334): a deleted one leaves the root, a format takes its new form. -/
def State.jobDone (s : State) (x : Ns) : State :=
  if x.dying then
    ({ s with media.nss := s.media.nss.filter (fun y => y.nsx ≠ x.nsx) } : State).writeRoot x.pool (.rootGen x.pool x.jobId 0)
  else
    let s := s.modNs x.nsx (fun y =>
      let y := match x.newFmt with
        | some (l, d, e) => { y with lbaf := l, dps := d, ext := e }
        | none => y
      { y with job := 0, jobId := none, jobOn := false, newFmt := none })
    s.writeRoot x.pool (.rootGen x.pool x.jobId 0)

/-- A release record is durable: the segments read as zeros, and what waited goes on (R159, R334). -/
def State.releaseDone (s : State) (r : DurRec) (nsx seg cnt : Nat) (id : Option CmdId) : State :=
  let s := s.releaseSegs nsx seg cnt r.first
  match s.nsx? nsx with
  | none => s
  | some x =>
    match id with
    | some c =>
      if (s.flight? c).any (fun f => f.op = 9) then s.rangeDone c (seg * s.segSize x) ((seg + cnt) * s.segSize x)
      else s.complete c .success 0
    | none => if x.jobOn ∧ s.releasesLeft nsx r.rid = false then s.jobDone x else s

/-- Put a durable copy in the place of the record it copies (R192). -/
def State.takeCopy (s : State) (r : DurRec) (rid : Nat) : State :=
  match s.media.recs.find? (fun y => y.rid = rid) with
  | some o => { s with media.recs := (s.media.recs.filter (fun y => y.rid ≠ rid)).map (fun y => if y.rid = r.rid then { y with k := o.k, first := o.first } else y) }
  | none => { s with media.recs := s.media.recs.filter (fun y => y.rid ≠ r.rid) }

/-- Old register bands of a pool. -/
def State.oldRegs (s : State) (p : Nat) : List Nat :=
  (s.media.bands.filter (fun e => e.2.role = 4 ∧ e.2.pool = p ∧ some e.1 ≠ (s.pool p).regBand ∧ ¬e.2.shavings)).map (fun e => e.1)

/-- The band register of a pool goes on (R168, R192, R193): records that wait are placed; a band queued for refresh gives way to a fresh one; durable records of old bands are copied into the present one; an old band without records is given up, and a root generation says so. -/
def State.settleRegs (s : State) (p : Nat) : State :=
  let s := if s.media.recs.any (fun r => r.pool = p ∧ r.at_.1 = noReg) then (s.needReg p).placeRecs p else s
  match (s.pool p).regBand with
  | none => s
  | some rb =>
    if (s.band rb).headDurable = false then s
    else if (s.band rb).refresh then (s.modPool p (fun q => { q with regBand := none })).needReg p
    else
      let old := s.oldRegs p
      let copied := fun (rid : Nat) => s.media.recs.any (fun y => y.k = .copied rid)
      let todo := s.media.recs.filter (fun r => r.typ ≠ 0x10 && r.durable && old.contains r.at_.1 && !copied r.rid)
      let s := s.each todo (fun s r => s.record p r.typ r.lba r.body (.copied r.rid))
      let empty := old.filter (fun o => !(s.media.recs.any (fun r => r.typ ≠ 0x10 && r.at_.1 = o)))
      if empty = [] then s else (s.each empty (fun s o => s.shave o)).writeRoot p .nothing

/-- Drop everything a deleted pool held on media. -/
def State.dropPool (s : State) (p : Nat) : State :=
  let ns := s.poolSlots p
  let mine := fun (b : Nat) => (s.band b).pool = p
  let s : State := { s with
    media.bands := s.media.bands.filter (fun e => e.2.pool ≠ p)
    media.units := s.media.units.filter (fun u => ¬ns.contains u.at_.slot)
    media.jrecs := s.media.jrecs.filter (fun j => ¬mine j.band)
    media.recs := s.media.recs.filter (fun r => r.pool ≠ p)
    media.reqs := s.media.reqs.filter (fun q => ¬mine q.band)
    media.recons := s.media.recons.filter (fun q => ¬mine q.band)
    media.gcs := s.media.gcs.filter (fun g => ¬mine g.src)
    media.log := s.media.log.filter (fun e => ¬mine e.2.band)
    media.gone := s.media.gone.filter (fun g => g.pool ≠ p)
    media.blocks := s.media.blocks.filter (fun e => ¬ns.contains e.1.slot)
    media.rings := s.media.rings.filter (fun e => ¬ns.contains e.1)
    media.pools := s.media.pools.put pool0 p {} }
  let s := s.each ns (fun s n => s.modSlot n (fun x => { x with st := .admitted, pool := none, drain := none, slow := false, lastPool := none }))
  { s with slots := s.slots.every slot0 (fun _ x => if x.lastPool = some p then { x with lastPool := none } else x) }

/-- What a record's durability brings. -/
def State.runThen (s : State) (r : DurRec) : State :=
  match r.k with
  | .nothing => s
  | .finish id dw0 => s.complete id .success dw0
  | .voided id _ =>
    (match s.flight? id with
     | some f => s.finish id (f.bad.getD .dataTransfer)
     | none => s)
  | .header b => s.modBand b (fun x => { x with headDurable := true })
  | .summary b => s.summaryDone b
  | .memberRec b pos pl cause => s.memberDone b pos pl cause
  | .release nsx seg cnt id => s.releaseDone r nsx seg cnt id
  | .rootGen _ id dw0 =>
    (match id with
     | some id => s.complete id .success dw0
     | none => s)
  | .poolGone p id => (s.dropPool p).complete id .success 0
  | .copied rid => s.takeCopy r rid

/-- Whether a record's own programs are all final and protected (R193). -/
def State.recSafe (s : State) (r : DurRec) : Bool :=
  if r.typ = 0x10 then r.left = 0 else s.posSafe r.at_.1 r.at_.2

/-- Records that are durable now take their effect. -/
def State.settleRecs (s : State) : State :=
  s.each (s.media.recs.filter (fun r => r.durable = false)) (fun s r =>
    if s.recSafe r then
      let s : State := { s with media.recs := s.media.recs.map (fun y => if y.rid = r.rid then { y with durable := true } else y) }
      let s := if r.typ = 0x10 then s.modPool r.pool (fun q => { q with
          root := (q.roots.find? (fun g => g.seq = r.seq)).orElse (fun _ => q.root)
          roots := q.roots.filter (fun g => r.seq < g.seq) })
        else s
      s.runThen r
    else s)

/-! ## Rows and bands -/

/-- Rows whose every unit is verified: their units and their journal records are no longer needed (R182). -/
def State.settleRows (s : State) : State :=
  let rows := (s.media.units.filterMap (fun u => match u.kind with
    | .band b wl _ => if u.restore = 0 then some (b, wl) else none
    | _ => none)).dedup
  s.each rows (fun s e =>
    if e.2 < (s.band e.1).wlOf (s.band e.1).taken ∧ (s.rowUnits e.1 e.2).all (fun u => u.verified) then
      { s with media.units := s.media.units.filter (fun u => !(u.isAt e.1 e.2))
               media.jrecs := s.media.jrecs.filter (fun j => !(j.band = e.1 && j.wl = e.2)) }
    else s)

/-- A split entry of the closing summary (R190). -/
def State.splitBytes (s : State) (k : Nat) (e : Nat × Nat × Place) : Nat × Nat × Nat := (48 + 8 * k, 8, s.splitEntry e)

/-- The closing summary of a band whose last program is final (R190, R193). DESIGN CHOICE (assumption log 95): `CLOSE_SEQ` is the number that would be taken next, the same on every page; none is taken for it. -/
def State.closeBand (s : State) (bno : Nat) : State :=
  let b := s.band bno
  let now := s.media.seq
  let s := s.modBand bno (fun x => { x with closing := false, closed := true, closeSeq := now, closedMs := s.gbk.uptime })
  let n := fun (l : List (Nat × Nat × Nat)) => l
  if b.role = 4 then s
  else if b.role = 3 then
    let pages := max 1 (ceilDiv b.taken 253)
    s.each (List.range pages) (fun s k =>
      let ents := (b.tags.filter (fun e => e.1 / 253 = k ∧ e.2.kind ≤ 1)).map (fun e =>
        (32 + 16 * (e.1 % 253), 16, fullSeq b.openSeq e.2.seqLo + 2 ^ 64 * (tagBits e.2 / 2 ^ 48 % 2 ^ 64)))
      s.record b.pool 4 (bno + 2 ^ 32 * k) (n ([(16, 4, bno), (20, 2, k), (22, 2, min 253 (b.taken - 253 * k)), (24, 8, now)] ++ ents))
        (if k + 1 = pages then .summary bno else .nothing))
  else
    let f := if b.early then b.frontier else b.size
    let head := [(16, 4, bno), (20, 1, flag b.early 0 + flag b.pinned 1), (24, 8, now), (32, 8, f),
      (40, 2, b.splits.length), (42, 2, b.relocs.length)]
    let sp := (List.range b.splits.length).map (fun k => s.splitBytes k (b.splits.getD k (0, 0, ⟨64, 0, 0⟩)))
    let rel := fun (base : Nat) (l : List (Nat × Nat × Place × Nat)) => (List.range l.length).map (fun k =>
      let e := l.getD k (0, 0, ⟨64, 0, 0⟩, 0)
      (base + 12 * k, 12, e.1 + 2 ^ 16 * e.2.1 + 2 ^ 32 * e.2.2.1.die + 2 ^ 48 * e.2.2.1.block + 2 ^ 64 * e.2.2.2))
    let more := ceilDiv (b.relocs.length - 326) 337
    let s := s.record b.pool 3 bno (n (head ++ sp ++ rel 176 (b.relocs.take 326))) (if more = 0 then .summary bno else .nothing)
    s.each (List.range more) (fun s k =>
      s.record b.pool 3 (bno + 2 ^ 32 * (k + 1)) (n ((16, 4, bno) :: rel 48 ((b.relocs.drop (326 + 337 * k)).take 337)))
        (if k + 1 = more then .summary bno else .nothing))

/-- Bands that close, copies that go on, log bands without live pages. -/
def State.settleBands (s : State) : State :=
  let ids := s.media.bands.map (fun e => e.1)
  s.each ids (fun s b =>
    let x := s.band b
    if x.role = 0 ∨ x.shavings then s
    else if x.copying then s.copyOn b
    else if x.closing then
      if s.media.units.any (fun u => u.band = some b ∧ u.restore = 0) then s else s.closeBand b
    else if ¬x.closed ∧ x.openSeq + 2 ^ 46 ≤ s.media.seq then s.closeEarly b
    else if x.role = 3 ∧ x.closed ∧ x.sumDurable ∧ ¬s.media.log.any (fun e => e.2.band = b) ∧ ¬s.media.gcs.any (fun g => g.src = b) then s.shave b
    else s)

/-- Log garbage collections whose copies are all protected are published (R167). -/
def State.settleGcs (s : State) : State :=
  s.each (s.media.gcs.filter (fun g => g.todo.isEmpty ∧ g.made.all (fun e => s.posSafe e.2.2.1 e.2.2.2))) (fun s g =>
    let s : State := { s with media.gcs := s.media.gcs.filter (fun h => h.src ≠ g.src) }
    let s := s.each g.made (fun s e =>
      match look s.media.log (e.1, e.2.1) with
      | some old => if old.band = g.src then { s with media.log := place s.media.log (e.1, e.2.1) { band := e.2.2.1, pos := e.2.2.2, seq := g.seq } } else s
      | none => s)
    s.shave g.src)

/-! ## Journal rings (R133, R182, R514) -/

/-- The codewords of a host's records in force or on their way. -/
def State.ringLoad (s : State) (n : Nat) : Nat :=
  ((s.media.jrecs.filter (fun j => j.host = n ∧ s.newestJ j)).map (fun j => j.parity.length + 1)).sum

/-- A journal ring: die-blocks whose records are verified further along are erased, and a host whose records fill it is lost. -/
def State.settleRing (s : State) (n : Nat) : State :=
  let r := s.ring n
  let free := fun (s : State) (pl : Place) => !(s.media.jrecs.any (fun j => j.at_.contains pl && j.left = 0 && (s.inForceJ j.band j.wl j.pq).any (fun k => k.jid = j.jid)))
  let s := s.each (r.blocks.filter (fun pl => (s.blockEnt pl).since = 2)) (fun s pl =>
    if free s pl then
      let s : State := { s with media.jrecs := s.media.jrecs.filter (fun j => !(j.host = n && j.at_.contains pl && j.left = 0)) }
      (s.eraseFor pl 1 .journal).modBlock pl (fun e => { e with since := 0 })
    else s)
  if s.ringLoad n > (r.blocks.length - 1) * (16 * (s.slot n).pagesSlc) then s.journalLost n else s

/-- Journal die-blocks that left their ring, once they hold no record and no unit: retired where a program failed (R133), else free. -/
def State.settleOldJournal (s : State) : State :=
  let out := s.media.blocks.filter (fun (e : Place × BlockEnt) => e.2.st = .journal && e.1.slot < 64 && !(s.ring e.1.slot).blocks.contains e.1
    && !(s.media.jrecs.any (fun j => j.at_.contains e.1)) && !(s.media.units.any (fun u => u.at_ = e.1)))
  s.each out (fun s e =>
    if e.2.retireNext ≠ 0 then s.shaveBlock 0 e.1 else s.modBlock e.1 (fun x => { x with st := .free, since := 0 }))

/-- Every ring that holds a die-block. -/
def State.settleRings (s : State) : State :=
  (s.each ((s.media.rings.map (fun e => e.1)).filter (fun n => n < 64 ∧ (s.ring n).blocks ≠ [])) (fun s n => s.settleRing n)).settleOldJournal

/-! ## Rebuild and migration done (R173, R238) -/

/-- Whether a slot or gone key still holds mapped data. -/
def State.holdsData (s : State) (n : Nat) : Bool := !(s.bandsOn n).isEmpty

/-- Failed members whose every band is rebuilt or dropped. DESIGN CHOICE (assumption log 95): the last parameter of code 0x0505 is the pool's count of lost rows since the last start. -/
def State.settleGone (s : State) : State :=
  s.each (s.media.gone.filter (fun g => g.done = false ∧ !(s.holdsData g.key))) (fun s g =>
    let s : State := { s with media.gone := s.media.gone.map (fun h => if h.key = g.key then { h with done := true } else h) }
    let s := s.modSlot g.slot (fun x => { x with rebuildDone := true })
    s.log 0x0505 [g.pool, g.slot, (s.gbk.uptime - g.startMs) / 1000, (s.pool g.pool).rowsLost])

/-- Fall-back reads that begin a new attempt (R294). -/
def State.settleReads (s : State) : State :=
  s.each ((s.io.flights.filter (fun f => f.fallback ∧ f.stage = .started ∧ ¬f.issued ∧ (f.op = 2 ∨ f.op = 5 ∨ f.op = 12))).map (fun f => f.c.id))
    (fun s id => s.issueRead id)

/-! ## Namespace changes (R332, R334) -/

/-- Write the release record of whole segments (R159). -/
def State.releaseRec (s : State) (x : Ns) (seg cnt : Nat) (id : Option CmdId) : State :=
  let s := s.needReg x.pool
  s.record x.pool 5 (0xFFFFFFFF + 2 ^ 32 * 5) [(16, 2, x.nsx), (20, 8, seg), (28, 8, cnt)] (.release x.nsx seg cnt id)

/-- Crypto erase (R332): a new salt and key generation, the salt table, a root generation and the release of every segment. -/
def State.cryptoErase (s : State) (x : Ns) : State :=
  let salt := s.freeVal % 2 ^ 128
  let s := (s.took).modNs x.nsx (fun y => { y with salt := salt, keyGen := (y.keyGen + 1) % 2 ^ 32 })
  let s : State := { s with fw.salts := s.fw.salts.put zeroCell x.nsx salt }
  let s := s.log 0x0705 [x.nsid, (x.keyGen + 1) % 2 ^ 32]
  (s.writeRoot x.pool .nothing).releaseRec x 0 (s.segCount x) none

/-- Whether commands of the namespace still run: for a format those not held at stage 3 by it. -/
def State.nsBusy (s : State) (x : Ns) : Bool :=
  s.io.flights.any (fun f => f.c.nsid = x.nsid && !((x.job = 1 || x.job = 2 || x.job = 6) && f.stage = .held 3))

/-- Begin a namespace's change once its commands have completed. -/
def State.startJob (s : State) (x : Ns) : State :=
  if x.job = 0 ∨ x.jobOn ∨ s.nsBusy x then s
  else
    let s := s.modNs x.nsx (fun y => { y with jobOn := true })
    match x.job with
    | 1 => s.releaseRec x 0 (s.segCount x) none
    | 3 => s.releaseRec x 0 (s.segCount x) none
    | 4 => (s.modNs x.nsx (fun y => { y with tenant := 0, job := 0, jobId := none, jobOn := false })).writeRoot x.pool (.rootGen x.pool x.jobId 0)
    | _ => s.cryptoErase x

/-- Die-blocks that held band data and are not yet erased. -/
def State.dirtyBlocks (s : State) : List Place :=
  (s.media.blocks.filter (fun e => match e.2.st with | .shavings _ => e.2.retireNext = 0 | _ => false)).map (·.1)

/-- A Sanitize goes on (R334): after the crypto erases, Block Erase erases every die-block that held band data. -/
def State.sanitizeStep (s : State) : State :=
  match s.media.sanitize with
  | none => s
  | some (_, act) =>
    if s.media.nss.any (fun x => x.job ≠ 0) then s
    else
      let fin : State → State := fun s => ({ s with media.sanitize := none, media.sanitizeStat := 1 } : State).log 0x0706 [act, 0]
      if act ≠ 2 then fin s
      else
        let s := s.each ((s.media.bands.filter (fun e => e.2.role = 3 ∧ ¬e.2.shavings)).map (·.1)) (fun s b =>
          (s.shave b).modPool (s.band b).pool (fun q => if q.logBand = some b then { q with logBand := none } else q))
        let s := s.each (s.dirtyBlocks.filter (fun pl => (s.slot pl.slot).st = .inService ∨ (s.slot pl.slot).st = .draining)) (fun s pl =>
          s.eraseFor pl (s.blockEnt pl).mode .erased)
        let s := s.freeBands
        if s.media.blocks.any (fun e => e.2.st = .erased && !e.2.ready) then s else fin s

/-- Namespace changes and Sanitize, as far as they get. -/
def State.settleJobs (s : State) : State :=
  (s.each s.media.nss (fun s x => s.startJob x)).sanitizeStep

/-- The lowest opening number of a pool's bands; above every number where it has none. -/
def State.oldestBand (s : State) (p : Nat) : Nat :=
  ((s.media.bands.filter (fun e => e.2.pool = p ∧ e.2.role ≠ 0)).map (fun e => e.2.openSeq)).foldl min (2 ^ 64)

/-- Records no longer in force (R192): their band is erased in every member, or their numbers are older than the oldest band. -/
def State.lapse (s : State) : State :=
  { s with media.recs := s.media.recs.filter (fun r =>
      if r.durable = false then true
      else if r.typ = 0x10 then false
      else if r.typ ≤ 4 then (s.band (r.lba % 2 ^ 32)).role ≠ 0
      else if r.typ = 5 then s.oldestBand r.pool ≤ r.first
      else r.body.any (fun e => e.1 ≥ 24 && s.oldestBand r.pool ≤ e.2.2)) }

/-- Everything that follows once programs are final. -/
def State.settle (s : State) : State :=
  let s := s.settleRows
  let s := s.settleRecs
  let s := s.settleGcs
  let s := s.settleBands
  let s := s.settleRings
  let s := s.settleGone
  let s := s.settleReads.sendWaiting
  let s := s.replaceStuck
  let s := s.freeBands
  let s := s.settleJobs
  let s := s.each [0, 1, 2, 3] (fun s p => s.settleRegs p)
  s.lapse.pump

end Sys2Proof.Machine
end

