-- ==== Sys2Proof/Machine/Slots.lean ====
section
/-! DEFINITION. Slots: insertion, power, training, admission, update, removal and life (R46 to R79, R92 to R94, R104 to R106, R173, R174). -/

namespace Sys2Proof.Machine

/-! ## The pool a cartridge joins (R142, R174, R189, R191) -/

/-- Whether a band header or split list of a pool names a member index (R189): the member's die-blocks or journal in a band that is not erased. -/
def State.namesIdx (s : State) (p i : Nat) : Bool :=
  let keys := ((s.media.gone.filter (fun g => g.pool = p ∧ g.idx = i)).map (fun g => g.key)) ++ ((s.slots.filter (fun e => e.2.pool = some p ∧ e.2.midx = i)).map (fun e => e.1))
  s.media.recs.any (fun r => r.typ = 1 && r.pool = p && (r.body.any (fun e => (e.1 ≥ 48 && e.2.2 % 256 = i) || ((e.1 = 44 || e.1 = 45) && e.2.2 = i))))
    || s.media.bands.any (fun e => e.2.pool = p && e.2.role ≠ 0 && (e.2.members ++ e.2.splits.map (fun x => x.2.2)).any (fun pl => keys.contains pl.slot))

/-- The lowest member index that no entry of the member list holds (R189). -/
def State.freeIdx (s : State) (p : Nat) : Nat :=
  ((List.range 256).find? (fun i => !((s.pool p).members.any (fun m => m.idx = i)) && !(s.namesIdx p i))).getD 0

/-- Set aside the root die-blocks and the 32 journal die-blocks of a cartridge (R182, R191). -/
def State.layOut (s : State) (n : Nat) : State :=
  let x := s.slot n
  let s := s.each [0, 1, 2, 3] (fun s d => s.eraseFor ⟨n, d, 0⟩ 1 .root)
  let (ps, s) := (List.range 32).foldl (fun (a : List Place × State) i =>
    match a.2.pickDirty n (i % max 1 x.dieCount) with
    | (some pl, s) => (a.1 ++ [pl], s.eraseFor pl 1 .journal)
    | (none, s) => (a.1, s)) ([], s)
  s.setRing n { blocks := ps }

/-- Frame `idx` of the answer to WEAR_READ for a die: erase counts of its die-blocks, eight bytes each (R97, R169). -/
def State.wearData (s : State) (n die idx : Nat) (d : List Byte) : State :=
  s.each (List.range (d.length / 8)) (fun s i =>
    let blk := 576 * idx + i
    if blk ≥ (s.slot n).offered ∨ leAt d (8 * i) 4 = 0 then s
    else s.modBlock ⟨n, die, blk⟩ (fun e => { e with dense := leAt d (8 * i) 2, slc := leAt d (8 * i + 2) 2 }))

/-- A cartridge joins a pool; its die-blocks are erased before first use (R73), and its erase counts are read (R169). -/
def State.joinPool (s : State) (p n : Nat) : State :=
  let idx := s.freeIdx p
  let s : State := { s with media.blocks := s.media.blocks.filter (fun e => e.1.slot ≠ n) }
  let s := s.modSlot n (fun x => { x with st := .inService, pool := some p, midx := idx, lastPool := none, lostMember := false,
                                          drain := none })
  let s := s.modPool p (fun q => { q with members := q.members ++ [{ serial := (s.slot n).serial, idx := idx, slot := n, st := 0 }] })
  let s := (s.layOut n).checkNarrow p
  s.each (List.range (s.slot n).dieCount) (fun s d => s.send n 0x30 { tag := 0, die := d } (.wear d))

/-- AUTO_ADD (R174): as by ADD, its DRAM check and its record included (R142, R150, R176). -/
def State.autoAdd (s : State) (n : Nat) : State :=
  let x := s.slot n
  match x.lastPool with
  | none => s
  | some p =>
    let q := s.pool p
    if q.exist ∧ q.pstate = 2 ∧ q.flags.testBit 0 ∧ x.st = .admitted ∧ x.cls = q.cls ∧ x.retireBits = 0 ∧ x.held = none ∧ s.dramFits p q (q.carts + 1) (s.nOf p) q.logPm then
      ((s.joinPool p n).log 0x0414 [p, 1, 2 ^ n]).writeRoot p .nothing
    else s

/-! ## Updates of a sequencer (R61 to R63) -/

/-- Whether the active image lists a pair (R59, R427). -/
def State.compatSeq (s : State) (model ver : Nat) : Bool :=
  s.fw.compat.any (fun e => e.1 = 2 ∧ e.2.1 = s.fw.version ∧ e.2.2.1 = ver ∧ e.2.2.2 = model)
/-- Whether the active image bundles a sequencer image for a model. -/
def State.bundled (s : State) (model : Nat) : Bool := s.fw.bundle.any (fun e => e.1 = model)

/-- Send the next chunk of the bundled image, at most 4,096 blocks of 64 bytes; after the last one the image is activated (R61, R97). -/
def State.sendImage (s : State) (n off : Nat) : State :=
  let len := ((s.fw.bundle.find? (fun e => e.1 = (s.slot n).model)).map (fun e => e.2.2)).getD 0
  let model := (s.slot n).model
  let k := min 4096 (max 1 (ceilDiv (len - off) 64))
  if off < len ∨ off = 0 then
    s.send n 0x40 { tag := 0, arg := off, count := k } .seqDownload ((List.range (ceilDiv k 72)).map (fun j => (j, Config.seqImage model off j)))
  else s.send n 0x41 { tag := 0 } .seqActivate

/-- Begin an update: the image goes with FW_DOWNLOAD, then FW_ACTIVATE (R61). -/
def State.startUpdate (s : State) (n : Nat) : State :=
  (s.modSlot n (fun x => { x with updating := true, updTried := true, updOld := x.fwVer })).sendImage n 0

/-- An update fails (R61), and the command that asked for it completes. -/
def State.failUpdate (s : State) (n status : Nat) : State :=
  if (s.slot n).updating then (s.updateFails n status).endUpdCmd n status else s

/-! ## Power (R72 to R74, R457) -/

/-- The slot's power-off is complete: a drained cartridge is ready for removal, any other slot is off. -/
def State.powerOffDone (s : State) (n : Nat) : State :=
  let drained := (s.slot n).st = .draining
  let s := (s.powerDown n).modSlot n (fun x => { x with st := if drained then .readyRemove else .off, auth := false })
  if drained then s.slotEvent n 9 else s

/-- Send SHUTDOWN and wait for its status; without a link, power off at once (R74). -/
def State.shutAndOff (s : State) (n : Nat) : State :=
  if (s.slot n).phase = 5 then
    (s.modSlot n (fun x => { x with offAfterShutdown := true })).send n 0x7F { tag := 0 } .shutdown
  else s.powerOffDone n

/-- PWR_OFF (R74). -/
def State.pwrOff (s : State) (n : Nat) : State :=
  let x := s.slot n
  match x.st with
  | .inService | .draining | .empty | .off => s.log 0x0312 [n, x.st.code]
  | .debounce => s.powerOffDone n
  | .powering | .training => s.powerOffDone n
  | .admitting => (s.modSlot n (fun x => x.dropCmds Purpose.identity)).shutAndOff n
  | _ => (s.failUpdate n 0xFF).shutAndOff n

/-- PWR_ON (R74). -/
def State.pwrOn (s : State) (n : Nat) : State :=
  let x := s.slot n
  match x.st with
  | .off | .rejected | .failed => s.askPower n
  | _ => s.log 0x0312 [n, x.st.code]

/-! ## Link phases (R92 to R94) -/

/-- The link leaves the up phase (R94, R219); in a full retrain no lane is locked (R105). -/
def State.linkLeaves (s : State) (n phase : Nat) : State :=
  let up := (s.slot n).phase = 5
  let s := s.modSlot n (fun x => { x with phase := phase, lanes := if phase = 1 then 0 else x.lanes })
  let s := if up then s.slotEvent n 5 else s
  if (s.slot n).st.member then s.setSlow n 1 else s

/-- Begin the exchange of IDENTIFY and, for an admitted cartridge, authentication again (R53, R93). -/
def State.identify (s : State) (n : Nat) : State :=
  let s := s.modSlot n (fun x => ({ x with
    idDue := false
    reauth := x.reauth || x.st = .admitted || x.st.member || (x.st = .quarantined && !x.updating) } : Slot).dropCmds Purpose.identity)
  s.send n 0x01 { tag := 0 } .identify

/-- Reset the link (R93). Its cause values are not given: a free value. -/
def State.linkReset (s : State) (n : Nat) : State :=
  let cause := s.freeVal
  let s := ((s.took.modEnd (endKey n true) (fun _ => {})).modEnd (endKey n false) (fun _ => {})).log 0x030A [n, cause]
  if (s.slot n).phase = 5 then (s.modSlot n (fun x => { x with syncDue := true })).identify n
  else if (s.slot n).phase = 6 then s.modSlot n (fun x => { x with idDue := true, syncDue := true })
  else s

/-- Begin a fast retrain (R92, R93). -/
def State.fastRetrain (s : State) (n cause : Nat) : State :=
  if (s.slot n).phase ≠ 5 then s
  else ((s.linkLeaves n 6).bump (dwCART n + 0x20) 1).log 0x0309 [n, 0, cause]

/-- Begin a full retrain. -/
def State.fullRetrain (s : State) (n cause : Nat) : State :=
  ((s.linkLeaves n 1).bump (dwCART n + 0x20) 1).log 0x0309 [n, 1, cause]

/-- The link is up (R79, R92): width, depth and version, then IDENTIFY. A protocol version other than 1 fails training (R95). -/
def State.linkIsUp (s : State) (n : Nat) (lp : LinkParams) : State :=
  if lp.pver ≠ 1 then
    let tag := s.freeVal
    ((s.took.log 0x0311 [n, 0x0A, tag]).log 0x030F [n, 1]).reject n 8
  else if !lp.lane0 && !lp.lane1 then s
  else
    let w := if lp.lane0 && lp.lane1 then 2 else 1
    let changed := (s.slot n).upWidth ≠ 0 && (s.slot n).upWidth ≠ w
    let s := s.modSlot n (fun x => { x with
      phase := 5, width := w, upWidth := w, lanes := flag lp.lane0 0 + flag lp.lane1 1, depth := lp.cmdDepth, farPver := lp.pver
      farBuf := lp.replayBuf, mgmtDue := false, syncDue := x.syncDue || x.st.member || x.st = .admitted
      st := if x.st = .training then .admitting else x.st })
    let s := if w = 1 then s.log 0x0308 [n, if lp.lane0 then 1 else 0] else s
    let s := if changed then s.slotEvent n 6 else s
    s.identify n

/-! ## Admission (R46 to R62) -/

/-- The descriptor checks of R47. -/
def descOk (d : List Byte) : Bool :=
  let f := fun (o n : Nat) => leAt d o n
  d.length = 512 && f 0 4 = 0x4D434453 && f 4 2 = 1 && f 6 2 = 512 && f 52 1 = 4 && f 62 2 = 16384 && f 64 2 = 2048
    && f 508 4 = crc32c (d.take 508) && 32 ≤ f 50 2 && f 50 2 ≤ 256 && 256 ≤ f 66 2 && f 66 2 ≤ 4096
    && (f 53 1 = 3 || f 53 1 = 4) && f 58 2 = f 60 2 * f 53 1 && 0x04000000 ≤ f 84 4 && f 54 2 ≠ 0
    && f 68 4 ≠ 0 && f 68 4 ≤ f 72 4

/-- An admission check fails with a reason (R52 to R54): what follows depends on the slot. -/
def State.authFail (s : State) (n reason : Nat) : State :=
  let x := s.slot n
  if x.st.member then s.failMember n 0x0C
  else if x.reauth ∧ (x.st = .admitted ∨ x.st = .quarantined) then s.reject n 0x0C
  else if x.st = .admitting ∨ x.updating then
    ((s.updateFails n 0).reject n reason).endUpdCmd n 0
  else s

/-- A cartridge enters `ADMITTED` (R104, R135, R174). -/
def State.admitSlot (s : State) (n : Nat) : State :=
  if (s.slot n).pool.isSome then
    let dr := (s.pool ((s.slot n).pool.getD 0)).members.any (fun m => m.slot = n ∧ m.st = 1)
    let s := s.modSlot n (fun x => { x with st := if dr then .draining else .inService, drain := if dr then some .service else none, updating := false, reauth := false })
    let x := s.slot n
    ((s.slotEvent n 2).log 0x0303 [n, leAt x.desc 24 8, x.fwVer]).tryClearSlow n
  else
  let s := s.modSlot n (fun x => { x with st := .admitted, media := [], lifeFlags := 0, diesFailed := [], updating := false, reauth := false })
  let x := s.slot n
  ((s.slotEvent n 2).log 0x0303 [n, leAt x.desc 24 8, x.fwVer]).autoAdd n

/-- A version that the active image does not list (R59 to R62). -/
def State.quarantine (s : State) (n : Nat) : State :=
  let s := s.modSlot n (fun x => { x with st := .quarantined, reason := 5 })
  let x := s.slot n
  let s := (s.slotEvent n 4).log 0x0305 [n, x.fwVer]
  if s.gbk.polFlags.testBit 0 ∧ s.bundled x.model ∧ x.updTried = false then s.startUpdate n else s

/-- SYNC (R93, R94). -/
def State.sendSync (s : State) (n : Nat) : State := (s.modSlot n (fun x => { x with lastSync := [] })).send n 0x04 { tag := 0 } .sync

/-- The compatibility check that ends an admission or a readmission (R59, R61). -/
def State.compatStep (s : State) (n : Nat) : State :=
  let x := s.slot n
  let ok := s.compatSeq x.model x.fwVer
  if x.updating then
    if ok then
      let s := (s.modSlot n (fun y => { y with updating := false, rolling := false })).log 0x0306 [n, x.updOld, x.fwVer]
      let s := if x.st.member ∨ x.st = .admitted then s else s.admitSlot n
      s.endUpdCmd n 0
    else if x.out.any (fun (o : Nat × OutCmd) => o.2.why = .seqDownload || o.2.why = .seqActivate) then s.sendSync n
    else s.failUpdate n 0
  else if ok then (if x.st = .admitting ∨ (x.st = .quarantined ∧ x.reason ≠ 6) then s.admitSlot n else s)
  else if x.st = .admitting then s.quarantine n
  else s

/-- SYNC follows the exchange after a link reset (R93). -/
def State.syncAfter (s : State) (n : Nat) : State :=
  if (s.slot n).syncDue then (s.modSlot n (fun x => { x with syncDue := false })).sendSync n else s

/-- LIFE_READ's counts (R65). -/
def State.setLife (s : State) (n : Nat) (l : Life) : State :=
  s.modSlot n (fun x => { x with life := lifeUsed x l, retired := l.retired, lifeDead := l.failedDies })

/-- Authentication and policy passed (R53, R59). -/
def State.authPass (s : State) (n : Nat) (auth : Bool) : State :=
  let x := s.slot n
  let s := s.modSlot n (fun x => ({ x with auth := auth, reauth := false, classChg := false } : Slot).feedAll)
  if x.classChg then
    let s := if x.st.member then (s.failMember n 0x0C).askPower n else s.modSlot n (fun x => { x with st := .admitting, updating := false })
    if x.st.member then s else (s.compatStep n).syncAfter n
  else if x.st.member ∨ x.st = .admitted then
    ((if x.updating then s.compatStep n else s).syncAfter n).pump
  else (s.compatStep n).syncAfter n

/-- Whether the slots' pins act now: not while `PORST_N` is low, and while the unit sleeps they are only kept for the exit (R455, R492). -/
def State.pinsLive (s : State) : Bool := s.pwr.porst && (match s.pwr.sleep with | .asleep _ => false | _ => true)

/-- PRESENCE_LOW (R69). -/
def execPresenceLow (n : Nat) (s : State) : Out :=
  onSlot s n (fun s =>
    if s.pwr.porst = false then s
    else if s.pinsLive = false then s.modSlot n (fun x => { x with prsntLow := true })
    else s.modSlot n (fun x => { x with prsntLow := true, st := if x.st = .empty then .debounce else x.st }))

/-- A cartridge stands in a slot: one that left another slot brings what its NAND keeps, any other is new to the node (R64). -/
def State.seatCart (s : State) (n : Nat) (which : Option Nat) : State :=
  match which with
  | none => s
  | some k =>
    { s.modSeq n (fun _ => s.shelf.away.get seq0 k) with shelf.away := s.shelf.away.filter (fun e => e.1 ≠ k) }
/-- A cartridge leaves its slot with what its NAND keeps (R64). -/
def State.shelve (s : State) (n : Nat) : State :=
  let q := s.seqOf n
  let s : State := if q.cart = 0 then s else { s with shelf.away := s.shelf.away.put seq0 q.cart q }
  s.modSeq n (fun _ => {})

/-- CART_INSERTED (R69, R70). -/
def execCartInserted (x : Insertion) (s : State) : Out :=
  let n := x.slot
  onSlot s n (fun s =>
    if s.pinsLive = false ∨ (s.slot n).st ≠ .debounce ∨ (s.slot n).prsntLow = false then s
    else (((s.modSlot n (fun x => { x with prsnt := true, lostMember := false })).slotEvent n 0).log 0x0301 [n] |>.askPower n).seatCart n x.which)

/-- PWREN_RISE (R457): the next waiting slot in ascending order. -/
def execPwrenRise (s : State) : Out :=
  match (s.slots.filter (fun e => e.2.waitPower)).head? with
  | none => .next s
  | some e =>
    let s' := (s.modSlot e.1 (fun x => { x with pwren := true, waitPower := false, phase := 1 })).modSeq e.1 (fun q => q.powerUp s.shelf.next)
    .next { s' with shelf.next := if (s.seqOf e.1).cart = 0 then s.shelf.next + 1 else s.shelf.next }

/-- A cartridge is gone (R72). -/
def State.cartGone (s : State) (n : Nat) : State :=
  let x := s.slot n
  if x.st = .empty ∧ x.prsntLow = false ∧ x.prsnt = false then s
  else
    let was := x.st.code
    let s := s.updateFails n 0xFF
    let s := if x.st.member ∨ x.pool.isSome then s.failMember n 9 else s.powerDown n
    let s := s.modSlot n (fun x => { x with
      st := .empty, prsntLow := false, prsnt := false, alert := false, desc := []
      serial := 0, fwVer := 0, auth := false, life := 0, retired := 0, lifeDead := 0, diesFailed := [], held := none, classChg := false
      forecast := 0xFFFF, lifeDays := [] })
    let s : State := { s with media.blocks := s.media.blocks.filter (fun e => e.1.slot ≠ n) }
    let s := s.shelve n
    ((s.slotEvent n 1).log 0x0302 [n, was]).endUpdCmd n 0xFF

/-- CART_REMOVED (R72). -/
def execCartRemoved (n : Nat) (s : State) : Out :=
  onSlot s n (fun s =>
    if s.pwr.porst = false then s
    else if s.pinsLive = false then s.modSlot n (fun x => { x with prsntLow := false })
    else s.cartGone n)

/-- CART_ALERT (R75). -/
def execCartAlert (n : Nat) (s : State) : Out :=
  onSlot s n (fun s =>
    if s.pinsLive = false ∨ (s.slot n).prsntLow = false then s
    else
      let s := (s.modSlot n (fun x => { x with alert := true })).slotEvent n 7
      if (s.slot n).pwren then s.send n 0x50 { tag := 0 } .health else s)

/-- A command waits for its answer, or for its turn. -/
def Slot.waits (x : Slot) (p : Purpose → Bool) : Bool := x.out.any (fun (o : Nat × OutCmd) => p o.2.why) || x.queue.any (fun o => p o.why)

/-- GET_HEALTH brings no data (R75): unknown values are logged, and what still comes of it has no effect. -/
def State.healthLost (s : State) (n : Nat) : State :=
  (s.modSlot n (fun x => { x with
    out := x.out.map (fun (o : Nat × OutCmd) => if o.2.why = .health then (o.1, { o.2 with why := .healthLate }) else o)
    queue := x.queue.filter (fun o => o.why ≠ .health) })).log 0x030B [n, 0xFF, 0x8000]

/-- GET_HEALTH_TIMEOUT (R75). -/
def execGetHealthTimeout (n : Nat) (s : State) : Out :=
  onSlot s n (fun s =>
    if (s.slot n).waits (fun p => p = .health) then s.healthLost n else s)

/-- The health data of an alert arrives (R75). -/
def State.healthData (s : State) (n : Nat) (d : List Byte) : State :=
  let flags := leAt d 2 1
  let s := s.log 0x030B [n, flags, leAt d 0 2]
  if flags.testBit 1 ∨ flags.testBit 2 then
    if (s.slot n).st.member then s.failMember n 0x0D
    else if (s.slot n).st = .admitting ∨ (s.slot n).st = .training ∨ (s.slot n).st = .powering then s.reject n 0x0D
    else s
  else s

/-- CART_POWER_TIMEOUT (R71). -/
def execCartPowerTimeout (n : Nat) (s : State) : Out :=
  onSlot s n (fun s =>
    if (s.slot n).st = .powering ∧ (s.slot n).pwren then (s.log 0x030F [n, 0]).reject n 7 else s)

/-- TRAINING_TIMEOUT (R71). -/
def execTrainingTimeout (n : Nat) (s : State) : Out :=
  onSlot s n (fun s => if (s.slot n).st = .training then (s.log 0x030F [n, 1]).reject n 8 else s)

/-- FAR_END_SIGNAL (R92). -/
def execFarEndSignal (n : Nat) (s : State) : Out :=
  onSlot s n (fun s =>
    if (s.slot n).pwren = false ∨ (s.slot n).phase ≠ 1 then s
    else s.modSlot n (fun x => { x with phase := 2, mgmtDue := true, st := if x.st = .powering then .training else x.st }))

/-- LINK_UP (R92). -/
def execLinkUp (n : Nat) (lp : LinkParams) (s : State) : Out :=
  onSlot s n (fun s =>
    let lp : LinkParams := { lp with lane0 := lp.lane0 && !s.lanePattern (64 + 2 * n), lane1 := lp.lane1 && !s.lanePattern (65 + 2 * n) }
    if 2 ≤ (s.slot n).phase ∧ (s.slot n).phase ≤ 4 ∧ (s.slot n).pwren ∧ (s.seqOf n).noTrain = false then s.linkIsUp n lp else s)

/-- IDENTIFY_TIMEOUT (R47). -/
def execIdentifyTimeout (n : Nat) (s : State) : Out :=
  onSlot s n (fun s => if (s.slot n).waits (fun p => p = .identify) then s.authFail n 4 else s)

/-- DESCRIPTOR_RECEIVED (R47 to R49, R54, R57). Under class 3 a cartridge without certificates is admitted once LIFE_READ has given its counts (R65). -/
def execDescriptorReceived (n : Nat) (d : List Byte) (s : State) : Out :=
  onSlot s n (fun s =>
    let x := s.slot n
    if x.waits (fun p => p = .identify) = false then s
    else
      let s := s.modSlot n (fun x => x.dropCmds (fun p => p = .identify))
      if descOk d = false then s.authFail n 4
      else
        let y : Slot := { x with desc := d }
        let serial := leAt d 24 16
        if x.reauth ∧ x.serial ≠ serial then s.authFail n 0x0C
        else
          let cls := s.gbk.polClass
          let s := s.modSlot n (fun x => { x with desc := d, serial := serial, fwVer := leAt d 40 8, classChg := x.reauth && x.cls ≠ y.cls
                                                  polClass := cls, polIssuers := s.gbk.polIssuers })
          let s := s.modSeq n (fun q => { q with desc := if q.desc.isEmpty then d else q.desc })
          if s.gbk.polDeny.contains serial then s.authFail n 3
          else if leAt d 92 1 = 0 then (if cls ≠ 3 then s.authFail n 2 else if x.reauth then s.authPass n false else s.send n 0x31 { tag := 0 } .admitLife)
          else (s.send n 0x02 { tag := 0, arg := 0 } (.cert 0)).send n 0x02 { tag := 0, arg := 1 } (.cert 1))

/-- Where the chain must end under the policy that governs this admission (R54, R57). -/
def Slot.chainAllowed (x : Slot) (r : AuthResult) : Bool :=
  match x.polClass, r.chainEnd with
  | 0, .root => true
  | 0, _ => false
  | 1, .root => true
  | 1, .issuer h => x.polIssuers.contains h
  | 1, .unknown => false
  | _, _ => true

/-- The proof of identity (R51): the certificates verify, the serial is the descriptor's, and the signature is that of certificate 0 over the nonce sent, the unit ID and the descriptor. -/
def Slot.identityOk (x : Slot) (r : AuthResult) : Bool :=
  (r.certsOk || x.polClass ≥ 2) && r.serial = x.serial && Config.cartSigOk r.key (challengeMsg x.nonce Config.unitId.toNat x.desc) r.sig

/-- SIGNATURE_RECEIVED (R51, R54, R65). -/
def execSignatureReceived (n : Nat) (r : AuthResult) (life : Life) (s : State) : Out :=
  onSlot s n (fun s =>
    let x := s.slot n
    if x.waits (fun p => p = .challenge) = false then s
    else
      let s := s.modSlot n (fun x => x.dropCmds (fun p => p = .challenge || (match p with | .cert _ => true | _ => false)))
      if x.identityOk r = false then s.authFail n 1
      else if x.chainAllowed r = false then s.authFail n 2
      else ((s.setLife n life).authPass n true).lifeCheck n)

/-- AUTH_TIMEOUT (R52). -/
def execAuthTimeout (n : Nat) (s : State) : Out :=
  onSlot s n (fun s => if (s.slot n).waits (fun p => p.identity && p ≠ .identify && p ≠ .sync) then s.authFail n 1 else s)

/-- SEQ_UPDATE_TIMEOUT (R61). -/
def execSeqUpdateTimeout (n : Nat) (s : State) : Out := onSlot s n (fun s => s.failUpdate n 0xFF)

/-- PWR_OFF, a write of `CART_CTRL`. -/
def execPwrOff (p : Path) (n : Nat) (s : State) : Out :=
  if n ≥ 64 then .fault (.noSuchInstance n) else winWrite p (dwCART n + 4) s (fun s => s.pwrOff n)
/-- PWR_ON. -/
def execPwrOn (p : Path) (n : Nat) (s : State) : Out :=
  if n ≥ 64 then .fault (.noSuchInstance n) else winWrite p (dwCART n + 4) s (fun s => s.pwrOn n)
/-- LINK_RESET (R93). -/
def execLinkReset (p : Path) (n : Nat) (s : State) : Out :=
  if n ≥ 64 then .fault (.noSuchInstance n)
  else winWrite p (dwCART n + 4) s (fun s => if (s.slot n).pwren then s.linkReset n else s)
/-- RETRAIN (R92); the cause value of a request is not given. -/
def execRetrain (p : Path) (n : Nat) (s : State) : Out :=
  if n ≥ 64 then .fault (.noSuchInstance n)
  else winWrite p (dwCART n + 4) s (fun s => s.took.fastRetrain n s.freeVal)

/-- FAST_RETRAIN (R93). -/
def execFastRetrain (n cause : Nat) (s : State) : Out := onSlot s n (fun s => s.fastRetrain n cause)

/-- Both ends name the superframe they expect (R92). -/
def State.nakBoth (s : State) (n : Nat) : State :=
  (s.modEnd (endKey n true) (fun e => { e with nakSent := true, nakDue := true })).modEnd (endKey n false) (fun e => { e with nakSent := true, nakDue := true })

/-- A retrain failed (R93): three within 10 s reset the link; a full retrain follows. -/
def State.retrainFailed (s : State) (n : Nat) : State :=
  let now := s.gbk.uptime
  let recent := (now :: (s.slot n).retrains).filter (fun t => now < t + 10000)
  let cause := s.freeVal
  let s := s.took.modSlot n (fun x => { x with retrains := if recent.length ≥ 3 then [] else recent })
  let s := s.fullRetrain n cause
  if recent.length ≥ 3 then s.linkReset n else s

/-- RETRAIN_DONE (R93). -/
def execRetrainDone (n : Nat) (ok full : Bool) (lp : LinkParams) (s : State) : Out :=
  onSlot s n (fun s =>
    let ph := (s.slot n).phase
    if full = false ∧ ph = 6 then
      if ok then
        let due := (s.slot n).idDue
        let s := (s.modSlot n (fun x => { x with phase := 5, idDue := false })).nakBoth n
        if due then s.identify n else s
      else s.retrainFailed n
    else if full ∧ 1 ≤ ph ∧ ph ≤ 4 ∧ (s.slot n).st ≠ .powering ∧ (s.slot n).st ≠ .training then
      if ok then
        let cause := s.freeVal
        let s := ((s.took.modEnd (endKey n true) (fun _ => {})).modEnd (endKey n false) (fun _ => {})).log 0x030A [n, cause]
        (s.modSlot n (fun x => { x with syncDue := true })).linkIsUp n lp
      else s.retrainFailed n
    else s)

/-- Whether a lantern is lit now (R77). -/
def State.lanternOn (s : State) (n : Nat) : Bool :=
  let x := s.slot n
  let t := s.gbk.uptime
  if n ≥ s.part.slots then false
  else match s.reg (dwCART n + 8) % 4 with
    | 1 => false
    | 2 => t % 1000 < 500
    | 3 => true
    | _ =>
      if x.st = .readyRemove then t % 250 < 125
      else if x.st = .failed ∨ x.st = .rejected ∨ (x.st = .quarantined ∧ ¬x.updating) ∨ (x.st = .empty ∧ x.lostMember) then true
      else if x.st = .debounce ∨ x.st = .powering ∨ x.st = .training ∨ x.st = .admitting ∨ x.st = .quarantined ∨ x.st = .draining then
        t % 2000 < 200
      else false

/-- LANTERN_FRAME (R76, R77): in the Active and Stowed states. -/
def execLanternFrame (s : State) : Out :=
  let runs : Bool := match s.pwr.sleep with | .asleep t => t ≤ 1 | _ => true
  if s.pwr.phase = .held ∨ runs = false then .next s
  else .next { s with pwr.lantern := BitVec.ofNat 64 (((List.range 64).map (fun n => flag (s.lanternOn n) n)).sum) }

/-- EVENT_EN_WRITE (R106). -/
def execEventEnWrite (p : Path) (n : Nat) (v : Word) (s : State) : Out :=
  if n ≥ 64 then .fault (.noSuchInstance n)
  else winWrite p (dwCART n + 0x44) s (fun s =>
    let old := s.reg (dwCART n + 0x44)
    let new := v.toNat &&& 0x7FF
    let s := s.setReg (dwCART n + 0x44) new
    if (List.range 11).any (fun i => new.testBit i && !old.testBit i && (s.w1c (dwCART n + 0x40)).testBit i) then
      if (s.slot n).aenOpen then s.modSlot n (fun x => { x with aenLate := true })
      else (s.modSlot n (fun x => { x with aenOpen := true })).aenManagers 0xC0
    else s)

/-- LIFE_POLL (R65, R66). -/
def execLifePoll (n : Nat) (life : Life) (s : State) : Out :=
  onSlot s n (fun s =>
    if (s.slot n).st = .admitted ∨ (s.slot n).st.member then (s.setLife n life).lifeCheck n else s)

/-- MIGRATE_DONE (R66, R173). -/
def execMigrateDone (n : Nat) (s : State) : Out :=
  onSlot s n (fun s =>
    let x := s.slot n
    match x.pool with
    | none => s
    | some p =>
      if x.st ≠ .draining ∨ s.holdsData n ∨ s.media.jrecs.any (fun j => j.host = n ∧ s.newestJ j) then s
      else
        let s := s.log 0x0416 [p, n, (look (s.pool p).migrated n).getD 0]
        let s := s.modPool p (fun q => { q with members := q.members.filter (fun m => m.slot ≠ n), migrated := drop' q.migrated n })
        let s : State := { s with media.blocks := s.media.blocks.filter (fun e => e.1.slot ≠ n) }
        let s := (s.dropJournal n).modSlot n (fun x => { x with pool := none, lastPool := some p, slow := false })
        let s := s.writeRoot p .nothing
        if x.drain = some .remove ∧ x.lifeFlags.testBit 1 = false then
          (s.modSlot n (fun x => { x with st := .admitted, drain := none })).slotEvent n 2
        else s.shutAndOff n)

end Sys2Proof.Machine
end

