-- ==== Sys2Proof/Machine/Status.lean ====
section
/-! DEFINITION. What a cartridge answers: grants, codewords and final statuses, and the member timers (R22, R88, R89, R94, R95, R129 to R134, R137, R216, R219 to R229, R514). -/

namespace Sys2Proof.Machine

/-- A message that breaks the link protocol (R95): code 0x0311 and a link reset. -/
def State.protoReset (s : State) (n typ tag : Nat) : State := (s.log 0x0311 [n, typ, tag]).linkReset n

/-! ## Program units -/

/-- The positions and tags that a verified unit holds (R114). -/
def State.noteTags (s : State) (u : PUnit) : State :=
  match u.kind with
  | .band bno wl mp =>
    let b := s.band bno
    if mp = pPos bno b.n ∨ mp = qPos bno b.n then s
    else
      let j := dataIdx bno b.n mp
      let base := wl * b.rowSize + j * b.step
      let ts := (u.cws.filter (fun e => e.1 < b.step)).map (fun e => (base + e.1, (ofInfo e.2).tag))
      s.modBand bno (fun b => { b with tags := b.tags ++ ts.filter (fun e => e.2.kind ≠ 1 ∨ b.role ≥ 3) })
  | _ => s

/-- A journal unit is verified: its records may now be in force (R182), and a re-journalling may be done (R216). DESIGN CHOICE (assumption log 95): where bands of one lost host took different substitutes, code 0x0511 is written for each of them, and names it. -/
def State.journalVerified (s : State) (host : Nat) (recs : List Nat) : State :=
  let subst := s.media.jrecs.any (fun j => j.subst)
  let s : State := { s with media.jrecs := s.media.jrecs.map (fun j => if recs.contains j.jid then { j with left := j.left - 1 } else j) }
  let mine := s.media.jrecs.filter (fun j => j.host = host ∧ j.subst)
  if subst ∧ mine ≠ [] ∧ mine.all (fun j => j.left = 0) then
    let us := s.freeVal
    let s : State := { s.took with media.jrecs := s.media.jrecs.map (fun j => if j.host = host then { j with subst := false } else j) }
    s.log 0x0511 [host, mine.length, us]
  else s

/-- The member record of a restored member once its last wordline is verified (R173, R190, R232). -/
def State.restoreDone (s : State) (u : PUnit) : State :=
  match u.kind with
  | .band bno _ mp =>
    let b := s.band bno
    let rows := b.wlOf b.taken
    let done := s.media.units.filter (fun v => v.restore ≠ 0 ∧ v.band = some bno ∧ v.mp = mp ∧ v.verified)
    let first := ((done.find? (fun v => v.wl = 0)).map PUnit.at_).getD u.at_
    if done.length < rows ∨ s.media.recs.any (fun r => match r.k with | .memberRec b' p' _ _ => b' == bno && p' == mp && !r.durable | _ => false) then s
    else
      let cause := if u.restore = 2 then 1 else 0
      let s := s.needReg b.pool
      s.record b.pool 2 (bno + 2 ^ 32 * mp) [(16, 4, bno), (20, 1, mp), (21, 1, cause), (24, 4, s.entryOf first)] (.memberRec bno mp first cause)
  | _ => s

/-- A unit is program-verified (R113, R129). -/
def State.unitVerified (s : State) (uid : Nat) : State :=
  match s.unit? uid with
  | none => s
  | some u =>
    let s := match u.release with
      | some (n, tag) => s.send n 0x24 { tag := 0, arg := tag } .bufferRelease
      | none => s
    let gone := fun (s : State) => ({ s with media.units := s.media.units.filter (fun v => v.uid ≠ uid) } : State)
    match u.kind with
    | .band _ _ _ =>
      let s := s.modUnit uid (fun v => { v with verified := true, left := true, release := none })
      if u.restore = 0 then s.noteTags u else s.restoreDone u
    | .journal host recs => (gone s).journalVerified host recs
    | .root rid =>
      let s := (gone s).modSlot u.at_.slot (fun x => { x with rootAt := some (u.at_.die, u.at_.block, u.pwl) })
      { s with media.recs := s.media.recs.map (fun r => if r.rid = rid then { r with left := r.left - 1 } else r) }

/-- The staging of the data of a unit is taken again for a BUFFER_READ (R129), or released when its data has left (R89): two granules for each block, of a command's direct part or of its log blocks; a tail stays in staging after its log copy has left (R180). -/
def State.chargeUnit (s : State) (u : PUnit) (take : Bool) : State :=
  let log := u.band.any (fun b => (s.band b).role = 3)
  let tags := (u.cws.map (fun e => (ofInfo e.2).tag)).filter (fun t => t.kind = 0)
  let inPart := fun (f : Flight) (lba : Nat) => f.parts.any (fun e => let b := s.band e.1; b.seg * b.size + e.2.1 ≤ lba && lba < b.seg * b.size + e.2.2)
  let k := fun (f : Flight) => 2 * (tags.filter (fun t => t.seqLo = f.seq % 2 ^ 48 && !(log && inPart f t.lba))).length
  { s with io.flights := s.io.flights.map (fun (f : Flight) =>
      if f.seq = 0 ∨ ¬f.units.contains u.uid then f
      else { f with staged := if take then f.staged + k f else f.staged - k f }) }

/-- A PROGRAM did not take (R129): its unit goes to a new place; `held` tells that the sequencer holds its data under the tag, `ask` that the data is asked for with BUFFER_READ. A tag that an earlier failure of the unit still held is released. -/
def State.unitFailed (s : State) (n tag uid : Nat) (held retire : Bool) (ask : Bool := held) : State :=
  match s.unit? uid with
  | none => if held then s.send n 0x24 { tag := 0, arg := tag } .bufferRelease else s
  | some u =>
    let s := if retire then s.modBlock u.at_ (fun e => { e with retireNext := if e.retireNext = 0 then 3 else e.retireNext }) else s
    match u.kind with
    | .journal host _ =>
      let s := if held then s.send n 0x24 { tag := 0, arg := tag } .bufferRelease else s
      s.journalFailed host u.at_ (some uid)
    | .root rid =>
      let s := if held then s.send n 0x24 { tag := 0, arg := tag } .bufferRelease else s
      { s with media.units := s.media.units.filter (fun v => v.uid ≠ uid)
               media.recs := s.media.recs.map (fun r => if r.rid = rid then { r with left := r.left - 1 } else r) }
    | .band bno wl mp =>
      let s := if u.restore = 0 then s.splitMember bno wl mp false else s.splitTarget u
      let s := match u.release with
        | some (m, t) => (s.send m 0x24 { tag := 0, arg := t } .bufferRelease).modUnit uid (fun v => { v with release := none })
        | none => s
      if ask then
        let s : State := if u.left then s.chargeUnit u true else s
        (s.modUnit uid (fun v => { v with fetch := some (n, tag), was := some (u.at_, u.pwl), left := false, release := if held then some (n, tag) else none })).send n 0x23 { tag := 0, arg := tag } (.bufferRead uid)
      else s

/-- Another die-block takes the place of one that could not be erased (R129). -/
def State.replaceBlock (s : State) (old : Place) (use : BlockSt) (mode : Nat) : State :=
  match use with
  | .member bno =>
    let (near, s) := s.takeNear old mode use
    let (pl, s) := match near with | some pl => (some pl, s) | none => s.takeFar bno
    let new := pl.getD ⟨64, 0, 0⟩
    let r := fun (x : Place) => if x = old then new else x
    let s := s.modBand bno (fun b => { b with members := b.members.map r, splits := b.splits.map (fun (e : Nat × Nat × Place) => (e.1, e.2.1, r e.2.2)) })
    { s with media.units := s.media.units.map (fun u => if u.at_ = old then { u with at_ := new } else u) }
  | .journal => s.replaceJournal old.slot old
  | _ => s

/-! ## Statuses -/

/-- A final status ends the command `o` under a tag: the tag is free (kept where the sequencer holds its data, R101), a timed command counts for the slow ratio (R222), the sequencer need not repeat the status (R94), and whether a probe was fast is free (R220). -/
def State.endCmd (s : State) (n tag : Nat) (o : OutCmd) (keep : Bool := false) : State :=
  let timed := (o.op = 0x10 || o.op = 0x20) && !o.slowCounted
  let s := (s.retireTag n tag keep).modSlot n (fun x => { x with fastCount := x.fastCount + (if timed then 1 else 0) })
  let s := s.modSeq n (fun q => q.heard tag)
  if o.why = .probe then
    let fast := s.freeVal % 2 = 1 && !o.slowCounted
    s.took.modSlot n (fun x => { x with fastProbes := if fast then x.fastProbes + 1 else 0 })
  else s

/-- Act on a final status of an outstanding command; a tag that is not outstanding resets the link (R95). -/
def onStatus (n tag : Nat) (s : State) (f : State → OutCmd → State) (keep : Bool := false) : Out :=
  onSlot s n (fun s =>
    let x := s.slot n
    if x.phase ≠ 5 then s
    else match x.cmdAt tag with
      | none => s.protoReset n 2 tag
      | some o => ((f (s.endCmd n tag o keep) o).tryClearSlow n).settle)

/-- A step of the identity exchange that the sequencer refuses fails (R47, R52). -/
def State.identityFailed (s : State) (n : Nat) (p : Purpose) : State :=
  match p with
  | .identify => s.authFail n 4
  | .sync => s
  | _ => s.authFail n 1

/-- After SYNC (R94): a command that SYNC does not list is issued again, one that awaits data gets a new grant; when nothing is listed every unconfirmed program has failed. -/
def State.afterSync (s : State) (n : Nat) : State :=
  let x := s.slot n
  let s := if x.lastSync.isEmpty then
      s.each (x.out.filterMap (fun (o : Nat × OutCmd) => match o.2.why with | .unit uid => some (o.1, uid) | _ => none)) (fun s e =>
        ((s.retireTag n e.1).modUnit e.2 (fun u => { u with sent := false })).unitFailed n e.1 e.2 false true)
    else s
  let s := s.modSlot n (fun x => { x with
    out := x.out.map (fun (o : Nat × OutCmd) =>
      if x.lastSync.any (fun y => y.1 = o.1 ∧ y.2 = 1) then (o.1, { o.2 with grant := none, frames := [] })
      else if x.lastSync.any (fun y => y.1 = o.1) || o.2.why.identity then o
      else (o.1, { o.2 with grant := none, frames := if o.2.op = 0x20 then [] else o.2.frames, bufferDone := false, gone := false }))
    heldTags := x.heldTags.filter (fun t => x.lastSync.any (fun y => y.1 = t)) })
  s.send n 0x31 { tag := 0 } .life

/-- The status of a command that reads a codeword and delivers none: the codeword goes to its row (R25, R134). -/
def State.readFailed (s : State) (rid : Nat) : State :=
  match s.req? rid with
  | none => s
  | some q =>
    if q.isMember then (s.dropReq rid).giveMembers q none
    else if q.viaRow then s
    else if q.step = 0 then s.startRecon q 0
    else
      let pl := ((s.band q.band).readPlace q.mp q.wl).1
      s.toRow q pl.slot pl

/-- The 48 bytes of CHALLENGE as a frame carries them (R51): a 32-byte nonce, then the unit ID of `DEV`. -/
def challengeFrame (nonce : Nat) : BitVec 36864 := BitVec.ofNat 36864 (nonce % 2 ^ 256 + 2 ^ 256 * Config.unitId.toNat)

/-- What SUCCESS does (R94, R101, R129, R130, R133). -/
def State.gotSuccess (s : State) (n : Nat) (o : OutCmd) : State :=
  match o.why with
  | .cert _ =>
    if (s.slot n).waits (fun p => match p with | .cert _ => true | _ => false) then s
    else
      let nonce := s.freeVal % 2 ^ 256
      (s.took.modSlot n (fun x => { x with nonce := nonce })).send n 0x03 { tag := 0, count := 1 } .challenge [(0, challengeFrame nonce)]
  | .sync => s.afterSync n
  | .shutdown => if (s.slot n).offAfterShutdown then s.powerOffDone n else s
  | .seqDownload => if (s.slot n).updating then s.sendImage n (o.m.arg + 64 * o.m.count) else s
  | .bufferRelease => s.modSlot n (fun x => ({ x with heldTags := x.heldTags.filter (fun t => t ≠ o.m.arg) } : Slot).feedAll)
  | .unit uid => s.unitVerified uid
  | .bufferRead uid => s.modUnit uid (fun u => { u with fetch := none })
  | .erase d b m => s.modBlock ⟨n, d, b⟩ (fun e => { e with
      ready := true, shavOf := 0, dense := e.dense + (if m = 0 then 1 else 0), slc := e.slc + (if m = 1 then 1 else 0) })
  | .retire d b trig =>
    let pl : Place := ⟨n, d, b⟩
    ((s.modBlock pl (fun e => { e with st := .retired })).log 0x0408 [n, posOf pl, trig]).noteRetired n d
  | _ => s

/-- SUCCESS (R129, R94). The data of IDENTIFY and of CHALLENGE ends these commands. -/
def execSuccess (n tag : Nat) (s : State) : Out :=
  if ((s.slot n).cmdAt tag).any (fun o => o.why = .identify || o.why = .challenge) then .next s
  else onStatus n tag s (fun s o => s.gotSuccess n o)

/-- DATA_RECEIVED (R89): the data has left staging. -/
def execDataReceived (n tag : Nat) (s : State) : Out :=
  onSlot s n (fun s =>
    let x := s.slot n
    if x.phase ≠ 5 then s
    else match x.cmdAt tag with
      | none => s.protoReset n 2 tag
      | some o =>
        let s := s.modSlot n (fun x => { x with out := x.out.map (fun (e : Nat × OutCmd) => if e.1 = tag then (e.1, { e.2 with bufferDone := true }) else e) })
        match o.why with
        | .unit uid =>
          (match s.unit? uid with
           | some u => if u.left then s else (s.chargeUnit u false).modUnit uid (fun u => { u with left := true })
           | none => s)
        | _ => s)

/-- What PROGRAM_REPLACED does (R129, R130). -/
def State.gotProgramReplaced (s : State) (n die block page : Nat) (o : OutCmd) : State :=
  match o.why with
  | .unit uid =>
    (match s.unit? uid with
     | none => s
     | some u =>
       let s := (s.media' n 168 1).log 0x0404 [n, posOf u.at_, u.pwl, block, page]
       let s := s.modBlock u.at_ (fun e => { e with retireNext := if e.retireNext = 0 then 4 else e.retireNext })
       let s := match u.kind with
         | .band b wl mp => if u.restore = 0 then s.modBand b (fun x => { x with relocs := x.relocs ++ [(mp, wl, (⟨n, die, block⟩ : Place), page)] }) else s.modUnit uid (fun v => { v with moved := some (⟨n, die, block⟩, page) })
         | _ => s
       s.unitVerified uid)
  | _ => s

/-- PROGRAM_REPLACED (R129, R130). -/
def execProgramReplaced (n tag die block page : Nat) (s : State) : Out := onStatus n tag s (fun s o => s.gotProgramReplaced n die block page o)

/-- What PROGRAM_FAIL does (R129). -/
def State.gotProgramFail (s : State) (n tag : Nat) (held : Bool) (o : OutCmd) : State :=
  match o.why with
  | .unit uid =>
    let s := (s.media' n 176 1).log 0x0405 [n, posOf ⟨n, o.m.die, o.m.block⟩, o.m.page]
    s.unitFailed n tag uid held true
  | _ => s

/-- PROGRAM_FAIL (R129): `held` tells that the sequencer holds the data. -/
def execProgramFail (n tag : Nat) (held : Bool) (s : State) : Out := onStatus n tag s (fun s o => s.gotProgramFail n tag held o) held

/-- What NOT_ERASED does (R129). -/
def State.gotNotErased (s : State) (n tag : Nat) (o : OutCmd) : State :=
  match o.why with
  | .unit uid =>
    let s := (s.media' n 184 1).log 0x0406 [n, posOf ⟨n, o.m.die, o.m.block⟩, o.m.page, 0x12]
    s.unitFailed n tag uid false true
  | _ => s

/-- NOT_ERASED (R129). -/
def execNotErased (n tag : Nat) (s : State) : Out := onStatus n tag s (fun s o => s.gotNotErased n tag o)

/-- What RETIRED_BLOCK does (R129). -/
def State.gotRetiredBlock (s : State) (n tag : Nat) (o : OutCmd) : State :=
  let pl : Place := ⟨n, o.m.die, o.m.block⟩
  match o.why with
  | .unit uid =>
    let s := (s.media' n 184 1).log 0x0406 [n, posOf pl, o.m.page, 0x16]
    let ring := (s.blockEnt pl).st = .journal
    let s := s.unitFailed n tag uid false true
    if ring then s else s.modBlock pl (fun e => { e with st := .retired })
  | .erase _ _ m =>
    let use := (s.blockEnt pl).st
    (s.modBlock pl (fun e => { e with st := .retired, shavOf := 0 })).replaceBlock pl use m
  | _ => s

/-- RETIRED_BLOCK (R129): as NOT_ERASED, and the die-block is marked retired; refusing an ERASE, another die-block is taken. -/
def execRetiredBlock (n tag : Nat) (s : State) : Out := onStatus n tag s (fun s o => s.gotRetiredBlock n tag o)

/-- What ERASE_FAIL does (R129). -/
def State.gotEraseFail (s : State) (n : Nat) (o : OutCmd) : State :=
  match o.why with
  | .erase d b m =>
    let pl : Place := ⟨n, d, b⟩
    let use := (s.blockEnt pl).st
    let s := (((s.media' n 192 1).log 0x0407 [n, posOf pl]).modBlock pl (fun e => { e with st := .retired, shavOf := 0 })).log 0x0408 [n, posOf pl, 1]
    (s.replaceBlock pl use m).noteRetired n d
  | _ => s

/-- ERASE_FAIL (R129). -/
def execEraseFail (n tag : Nat) (s : State) : Out := onStatus n tag s (fun s o => s.gotEraseFail n o)

/-- What DIE_FAIL does (R134). -/
def State.gotDieFail (s : State) (n tag : Nat) (o : OutCmd) : State :=
  let s := s.dieFailed n o.m.die 0
  match o.why with
  | .unit uid =>
    (match s.unit? uid with
     | some u => if u.at_.slot = n ∧ u.at_.die = o.m.die then s.unitFailed n tag uid false true o.grant.isSome else s
     | none => s)
  | .erase d b m => s.replaceBlock ⟨n, d, b⟩ (s.blockEnt ⟨n, d, b⟩).st m
  | .cw rid => s.readFailed rid
  | .bufferRead uid => s.modUnit uid (fun u => { u with fetch := none })
  | .health => s.healthLost n
  | _ => s

/-- DIE_FAIL (R134). -/
def execDieFail (n tag : Nat) (s : State) : Out := onStatus n tag s (fun s o => s.gotDieFail n tag o)

/-- What a refusal does (R129). -/
def State.gotCmdRefused (s : State) (n tag code : Nat) (o : OutCmd) : State :=
  let pl : Place := ⟨n, o.m.die, o.m.block⟩
  match o.why with
  | .unit uid => (s.log 0x040B [n, posOf pl, o.op, code, o.m.page]).unitFailed n tag uid false false
  | .erase d b m =>
    let use := (s.blockEnt ⟨n, d, b⟩).st
    ((s.log 0x040B [n, posOf pl, o.op, code, 0]).modBlock pl (fun e => { e with st := .aside })).replaceBlock pl use m
  | .cw rid => s.readFailed rid
  | .bufferRead uid => s.modUnit uid (fun u => { u with fetch := none })
  | .health => s.healthLost n
  | .seqDownload => s.failUpdate n code
  | .seqActivate => s.failUpdate n code
  | .shutdown => if (s.slot n).offAfterShutdown then s.powerOffDone n else s
  | p => if p.identity then s.identityFailed n p else s

/-- CMD_REFUSED (R129). -/
def execCmdRefused (n tag code : Nat) (s : State) : Out := onStatus n tag s (fun s o => s.gotCmdRefused n tag code o)

/-- FW_INVALID (R102). -/
def execFwInvalid (n tag : Nat) (s : State) : Out := onStatus n tag s (fun s _ => s.failUpdate n 0x30)
/-- FW_NOT_LOADED (R102). -/
def execFwNotLoaded (n tag : Nat) (s : State) : Out := onStatus n tag s (fun s _ => s.failUpdate n 0x31)

/-- What SHUT_DOWN does (R103). -/
def State.gotShutDown (s : State) (n : Nat) (o : OutCmd) : State :=
  match o.why with
  | .unit uid => s.modUnit uid (fun u => { u with sent := false })
  | .cw rid => s.readFailed rid
  | .seqDownload => s.failUpdate n 0x3F
  | .seqActivate => s.failUpdate n 0x3F
  | .health => s.healthLost n
  | .shutdown => if (s.slot n).offAfterShutdown then s.powerOffDone n else s
  | p => if p.identity then s.identityFailed n p else s

/-- SHUT_DOWN (R103): the command was not performed. -/
def execShutDown (n tag : Nat) (s : State) : Out := onStatus n tag s (fun s o => s.gotShutDown n o)

/-- Codeword `i` of a program unit in the order of the link, plane by plane, then page by page (R98): its position in the unit and its page in the die-block (R109). -/
def linkPos (o : OutCmd) (i : Nat) : Nat × Nat :=
  let b := o.m.count / 16
  let page := 4 * (i / 4 % b) + i / (4 * b)
  (4 * page + i % 4, 4 * b * o.m.page + page)

/-- The codewords that a grant lets go, in ascending index (R88): scrambled for the location that the PROGRAM names (R108). -/
def State.granted (s : State) (o : OutCmd) (first count : Nat) : List (Nat × BitVec 36864) :=
  match o.why with
  | .unit uid =>
    match s.unit? uid with
    | some u => (List.range count).map (fun j =>
      let i := first + j
      let at_ := linkPos o i
      (i, wireWord o.m.die o.m.block at_.2 (i % 4) ((look u.cws at_.1).getD 0)))
    | none => []
  | _ => []

/-- XFER_RDY (R88, R95). -/
def execXferRdy (n tag first count : Nat) (s : State) : Out :=
  onSlot s n (fun s =>
    let x := s.slot n
    if x.phase ≠ 5 then s
    else match x.cmdAt tag with
      | none => s.protoReset n 3 tag
      | some o =>
        if o.op ≠ 0x20 ∨ first + count > o.m.count then s.protoReset n 3 tag
        else
          let fr := s.granted o first count
          s.modSlot n (fun x => { x with
            out := x.out.map (fun (e : Nat × OutCmd) => if e.1 = tag then (e.1, { e.2 with grant := some (first, count), frames := fr }) else e)
            dataQ := x.dataQ.filter (fun e => e.1 ≠ tag) ++ fr.map (fun e => (tag, e.1)) }))

/-- ECC_INJ (R137): ignored unless in service mode. -/
def execEccInj (p : Path) (n : Nat) (v : Word) (s : State) : Out :=
  if n ≥ 64 then .fault (.noSuchInstance n)
  else winWrite p (dwCART n + 0x400) s (fun s =>
    if s.pwr.mode = 1 then s.setReg (dwCART n + 0x400) (v.toNat &&& 0x300FF) else s)

/-- Injected raw bits, at positions the spec leaves to chance (R137): what the decoder then sees is free. -/
def State.injected (s : State) (n : Nat) (a : CwArrival) : CwArrival × State :=
  let r := s.reg (dwCART n + 0x400)
  if r.testBit 16 = false then (a, s)
  else
    let k := r % 256
    let v := s.freeVal
    let a' : CwArrival := { a with zeros := a.zeros + k - 2 * (v % (k + 1)), decoded := a.decoded && (v / 256 % 2 = 1 || k = 0), corrected := a.corrected + k - 2 * (v / 512 % (k + 1)) }
    let s := (s.took.modSlot n (fun x => { x with injected := x.injected + k }))
    (a', if r.testBit 17 then s else s.setReg (dwCART n + 0x400) (clearBit r 16))

/-- Codeword `k` of the data that BUFFER_READ takes back (R101, R108, R129): its old sequence is removed, and it stands in the unit again. -/
def State.bufferWord (s : State) (uid k : Nat) (a : CwArrival) : State :=
  match s.unit? uid with
  | none => s
  | some u =>
    match u.was with
    | none => s
    | some (pl, wl) =>
      let o : OutCmd := { op := 0x20, m := { tag := 0, die := pl.die, block := pl.block, page := wl, mode := u.mode, count := u.cws.length }, why := .unit uid, tSlow := 0 }
      let at_ := linkPos o k
      if a.decoded = false ∨ k ≥ u.cws.length then s
      else s.modUnit uid (fun u => { u with cws := place u.cws at_.1 (descramble pl.die pl.block at_.2 (k % 4) a.word) })

/-- CODEWORD_ARRIVAL (R22): an armed injection meets the next codeword received, whatever it was read for (R137). -/
def execCodewordArrival (n tag k : Nat) (a : CwArrival) (s : State) : Out :=
  onSlot s n (fun s =>
    let x := s.slot n
    if x.phase ≠ 5 then s
    else match x.cmdAt tag with
      | none => s
      | some o =>
        let (a, s) := s.injected n a
        match o.why with
        | .cw rid =>
          (match s.req? rid with
           | none => s
           | some q => if q.viaRow ∨ k ≠ q.i % 4 then s else (s.arrive n q a).settle)
        | .bufferRead uid => s.bufferWord uid k a
        | _ => s)

/-! ## Member timers (R219 to R223) -/

/-- What becomes of a slow command (R220, R229): a host's READ is reconstructed, the member of a PROGRAM moves away. -/
def State.slowFollows (s : State) (n tag : Nat) (o : OutCmd) : State :=
  match o.why with
  | .cw rid => if (s.hostReads n).any (fun e => e.1 = tag) then (s.degrade n tag rid).settle else s.settle
  | .unit uid =>
    (match s.unit? uid with
     | some u => (match u.band with
       | some b => if u.verified then s
                   else if u.restore = 0 then (s.splitMember b u.wl u.mp true).settle
                   else ((s.forget uid).splitTarget u).settle
       | none => s)
     | none => s)
  | _ => s

/-- T_SLOW_EXPIRY (R219, R220, R229). -/
def execTSlowExpiry (n tag : Nat) (s : State) : Out :=
  onSlot s n (fun s =>
    match (s.slot n).cmdAt tag with
    | none => s
    | some o =>
      if ¬(o.op = 0x10 ∨ o.op = 0x20) ∨ o.slowCounted then s
      else
        let s := s.modSlot n (fun x => { x with
          slowCount := x.slowCount + 1, fastProbes := 0
          out := x.out.map (fun (e : Nat × OutCmd) => if e.1 = tag then (e.1, { e.2 with slowCounted := true }) else e) })
        (s.setSlow n 0).slowFollows n tag o)

/-- A wordline of a cartridge whose PROGRAM ended well, as its page is named in READ: of its root die-blocks if there is one, else of a band (R113, R220). -/
def State.probePlace (s : State) (n : Nat) : Option (Place × Nat × Nat) :=
  match (s.slot n).rootAt with
  | some (d, b, w) => some (⟨n, d, b⟩, w, 1)
  | none =>
    (s.media.bands.flatMap (fun e => (List.range (e.2.n + 2)).flatMap (fun mp =>
      ((List.range (e.2.wlOf e.2.taken)).filter (fun w => (e.2.placeOf mp w).1.slot = n && !e.2.torn.contains (mp, w) && s.readable e.1 w mp)).map (fun w =>
        let at_ := e.2.readPlace mp w
        (at_.1, (if e.2.mode = 0 then at_.2 * (s.pool e.2.pool).bits else at_.2), e.2.mode))))).head?

/-- SLOW_PROBE (R220): a READ of a page that was programmed well, whose data is discarded. -/
def execSlowProbe (n : Nat) (s : State) : Out :=
  onSlot s n (fun s =>
    if (s.slot n).slow = false then s
    else match s.probePlace n with
      | some (pl, page, mode) => s.send n 0x10 { tag := 0, die := pl.die, block := pl.block, page := page, mode := mode, cwMask := 1 } .probe
      | none => s)

/-- T_FAIL_EXPIRY (R222). -/
def execTFailExpiry (n : Nat) (s : State) : Out :=
  onSlot s n (fun s =>
    let x := s.slot n
    if x.offAfterShutdown then s.powerOffDone n
    else if x.st.member ∧ x.out ≠ [] ∧ x.rolling = false then (s.failMember n 0x0A).settle else s)

/-- SLOW_RATIO_CHECK (R222, R223). -/
def execSlowRatioCheck (n : Nat) (s : State) : Out :=
  onSlot s n (fun s =>
    let x := s.slot n
    let w := ((x.fastCount, x.slowCount) :: x.win).take 10
    let slow := (w.map (fun e => e.2)).sum
    let all := (w.map (fun e => e.1)).sum + slow
    let s := s.modSlot n (fun x => { x with win := w, fastCount := 0, slowCount := 0 })
    if x.st.member ∧ all ≥ 200 ∧ slow * 100 > s.media.slowPct * all then
      match s.withheld n with
      | some m => s.log 0x0509 [n, m]
      | none => (s.failMember n 0x0B).settle
    else s)

end Sys2Proof.Machine
end

