-- ==== Sys2Proof/Machine/Background.lean ====
section
/-! DEFINITION. Work the controller does on its own: patrol, fills, folds, garbage collection, reserves, wear, forecast and rebuild (R126, R156, R158, R162 to R173, R182, R230 to R236). -/

namespace Sys2Proof.Machine

/-- Codewords of one program unit of a band. -/
def State.unitLen (s : State) (b : Band) : Nat := if b.role ≥ 3 then 16 else 16 * (s.pool b.pool).bits

/-- Whether a member's wordline of a row is programmed and its program final (R113, R126). -/
def State.patrols (s : State) (band row mp : Nat) : Bool :=
  let b := s.band band
  !b.torn.contains (mp, row) && (row < b.wlOf b.taken || b.rowMask.testBit mp) && !((s.rowUnits band row).any (fun u => u.mp = mp && !u.verified))

/-- Read every codeword of a member's wordline for the patrol, its sensing counted for the cartridge. -/
def State.patrolWord (s : State) (b : Band) (band row mp : Nat) : State :=
  let n := (b.readPlace mp row).1.slot
  let s := if n < 64 then s.media' n 216 (if b.mode = 0 then 4 * (s.pool b.pool).bits else 4) else s
  s.each (List.range (s.unitLen b)) (fun s i => s.askAt band row mp i .patrol)

/-- PATROL (R126): every codeword of a programmed wordline, of open bands too, is read through the full ladder; one whose program is not final is not (R113). -/
def execPatrol (pool band row : Nat) (s : State) : Out :=
  let b := s.band band
  if s.coreOn = false ∨ b.role = 0 ∨ b.shavings ∨ b.pool ≠ pool ∨ row ≥ ceilDiv b.taken (max 1 b.rowSize) then .next s
  else
    .next (s.each ((List.range (b.n + 2)).filter (fun mp => s.patrols band row mp)) (fun s mp => s.patrolWord b band row mp)).settle

/-- Fill up the unit being filled of a band, where there is one. -/
def State.fillOpen (s : State) (b : Option Nat) : State :=
  match b with
  | some b => s.fillUnit b
  | none => s

/-- SLC_UNIT_TIMEOUT (R156): the log unit, and the register unit, being filled. -/
def execSlcUnitTimeout (pool : Nat) (s : State) : Out :=
  if s.coreOn = false ∨ pool ≥ 4 then .next s
  else
    let s := s.fillOpen (s.pool pool).logBand
    .next (s.fillOpen (s.pool pool).regBand).settle

/-- JOURNAL_UNIT_TIMEOUT (R182, R514): a host whose ring has no die-block left is lost. -/
def execJournalUnitTimeout (pool n : Nat) (s : State) : Out :=
  if s.coreOn = false ∨ n ≥ 64 ∨ (s.slot n).pool ≠ some pool then .next s
  else if (s.ring n).blocks.isEmpty then .next (s.journalLost n).settle
  else .next (s.issueJournal n).settle

/-! ## Folds (R158, R164 to R166, R168) -/

/-- Log-resident blocks of a segment. -/
def State.segLog (s : State) (x : Ns) (k : Nat) : Nat :=
  (s.media.log.filter (fun e => e.1.1 = x.nsx ∧ e.1.2 / s.segSize x = k)).length
/-- Whether a segment has an open direct band (R164). -/
def State.openDirect (s : State) (g : Seg) : Bool :=
  match g.a with
  | some a => let b := s.band a; b.role = 1 && !b.closed && !b.closing
  | none => false

/-- Segments that a fold would serve: namespace index, segment, tier of R164, rank within it (less first), last fold. DESIGN CHOICE (assumption log 92): within the second tier, whose order R164 leaves open, segments stand as in the third. -/
def State.foldQueue (s : State) (p : Nat) : List (Nat × Nat × Nat × Nat × Nat) :=
  (s.poolNss p).flatMap (fun x => (List.range (s.segCount x)).filterMap (fun k =>
    let g := x.seg k
    let r := s.segLog x k
    if g.folding.isSome ∨ s.openDirect g then none
    else if g.early then some (x.nsx, k, 0, ((g.a.map (fun a => (s.band a).closeSeq)).getD 0), g.lastFold)
    else if g.refresh ∧ r > 0 then some (x.nsx, k, 1, 2 ^ 40 - r, g.lastFold)
    else if r > 0 then some (x.nsx, k, 2, 2 ^ 40 - r, g.lastFold)
    else none))
/-- The first of the fold order. -/
def State.foldHead (s : State) (p : Nat) : Option (Nat × Nat) :=
  ((s.foldQueue p).foldl (fun (acc : Option (Nat × Nat × Nat × Nat × Nat)) e =>
    match acc with
    | none => some e
    | some a =>
      if e.2.2.1 < a.2.2.1 ∨ (e.2.2.1 = a.2.2.1 ∧ (e.2.2.2.1 < a.2.2.2.1 ∨ (e.2.2.2.1 = a.2.2.2.1 ∧ e.2.2.2.2 < a.2.2.2.2))) then some e else acc) none).map
    (fun e => (e.1, e.2.1))

/-- Whether fold work of a segment is due (R162, R164, R168): refreshes without log blocks at once; below half occupancy only segments half in the log, or early or refreshed ones. -/
def State.foldDue (s : State) (x : Ns) (k : Nat) : Bool :=
  let g := x.seg k
  let r := s.segLog x k
  if g.refresh && r = 0 then true
  else s.foldHead x.pool = some (x.nsx, k)
    && (g.early || g.refresh || s.logOcc x.pool ≥ 500 || 2 * r ≥ s.segSize x)

/-- Whether a host write to the segment has started and is not yet published or voided (R184). -/
def State.segBusy (s : State) (x : Ns) (k : Nat) : Bool :=
  let size := s.segSize x
  s.io.flights.any (fun f => f.seq ≠ 0 && f.c.nsid = x.nsid && slba f.c / size ≤ k && k ≤ (slba f.c + nlb f.c - 1) / size)

/-- Whether a frontier fill must wait: as `segBusy`, but not for a write whose data is all at hand and only waits for the gap below it to be filled (R158, R184; assumption log 98). -/
def State.fillBusy (s : State) (x : Ns) (k a : Nat) : Bool :=
  let size := s.segSize x
  s.io.flights.any (fun f => f.seq ≠ 0 && f.c.nsid = x.nsid && slba f.c / size ≤ k && k ≤ (slba f.c + nlb f.c - 1) / size
    && !(f.arrived = nlb f.c && f.parts.any (fun e => e.1 = a && s.solidEnd a < e.2.1)))

/-- A fill of a direct band begins under the next number: the reference of its handle is closed, with the event of R161 (R158, R161). -/
def State.beginFill (s : State) (p a : Nat) : State :=
  let b := s.band a
  let (seq, s) := s.takeSeq
  let s := match b.handle with
    | some h => s.modPool p (fun q => { q with fdpEvents := q.fdpEvents ++ [(0x80, h, a)] })
    | none => s
  s.modBand a (fun b => { b with copying := true, copySeq := seq, copyRow := b.wlOf b.taken, handle := none })

/-- FRONTIER_FILL (R158, R161). -/
def execFrontierFill (nsx seg : Nat) (s : State) : Out :=
  match s.nsx? nsx with
  | none => .next s
  | some x =>
    match (x.seg seg).a with
    | none => .next s
    | some a =>
      if s.coreOn = false ∨ s.openDirect (x.seg seg) = false ∨ (s.band a).copying ∨ s.fillBusy x seg a then .next s
      else .next (((s.beginFill x.pool a).copyRowOf a).settle)

/-- The band that a fold of a segment opens (R143, R165). -/
def State.foldBand (s : State) (x : Ns) (nsx seg : Nat) : Option Nat × State :=
  (s.needReg x.pool).openBand x.pool 2 x.nNs nsx seg x.hasMeta (x.seg seg).a (x.seg seg).b

/-- The copy of a fold begins under the next number, its bytes counted as those of a fold, a refresh or a wear move (R165, R175). -/
def State.beginFold (s : State) (nsx seg b : Nat) (g : Seg) : State :=
  let (seq, s) := s.takeSeq
  let s := s.modSeg nsx seg (fun g => { g with folding := some b })
  s.modBand b (fun y => { y with copying := true, copySeq := seq, cause := if g.refresh then (if g.wear then 136 else 120) else 104 })

/-- FOLD (R165): the new band opens, and the copy begins. -/
def execFold (nsx seg : Nat) (s : State) : Out :=
  match s.nsx? nsx with
  | none => .next s
  | some x =>
    let g := x.seg seg
    if s.coreOn = false ∨ seg ≥ s.segCount x ∨ g.folding.isSome ∨ s.openDirect g ∨ s.narrowFor x ∨ s.segBusy x seg ∨ s.foldDue x seg = false then .next s
    else
      match s.foldBand x nsx seg with
      | (none, s) => .next s
      | (some b, s) => .next (((s.beginFold nsx seg b g).copyRowOf b).settle)

/-- The new band takes its segment: maps it, is the last fold, and drops the log entries it copied (R165). -/
def State.switchSeg (s : State) (band : Nat) : State :=
  let now := s.gbk.uptime
  let b := s.band band
  (s.modSeg b.nsx b.seg (fun _ => { b := some band, lastFold := now })).dropCopied band

/-- FOLD_SWITCH (R165). -/
def execFoldSwitch (band : Nat) (s : State) : Out :=
  let b := s.band band
  match (s.nsx? b.nsx).map (fun x => x.seg b.seg) with
  | none => .next s
  | some g =>
    if b.role ≠ 2 ∨ b.sumDurable = false ∨ b.shavings ∨ g.folding ≠ some band then .next s
    else .next ((s.switchSeg band).each (g.a.toList ++ g.b.toList) (fun s o => s.shave o)).settle

/-! ## Log garbage collection (R167, R168, R173, R185, R230) -/

/-- Live positions of a log band. -/
def State.livePos (s : State) (b : Nat) : List Nat :=
  (s.media.log.filter (fun e => e.2.band = b)).map (fun e => e.2.pos)
/-- Closed log bands of a pool. -/
def State.logBands (s : State) (p : Nat) : List Nat :=
  (s.media.bands.filter (fun e => e.2.role = 3 ∧ e.2.pool = p ∧ ¬e.2.shavings)).map (fun e => e.1)

/-- Whether a log band must be copied whatever its live fraction: refresh, a failed or draining member, closed at start-up, or its number range (R168, R173, R185, R195, R230). -/
def State.gcForced (s : State) (bno : Nat) : Bool :=
  let b := s.band bno
  b.refresh || b.pinned || b.early || b.slots.any (fun n => n ≥ 64 || (s.slot n).st = .draining) || b.openSeq + 2 ^ 46 ≤ s.media.seq + 2 ^ 33

/-- Whether a log band is the victim of R167; the log bands that a start found open come before any other (R195). -/
def State.gcVictim (s : State) (p bno : Nat) : Bool :=
  let b := s.band bno
  let closed := (s.logBands p).filter (fun x => (s.band x).closed)
  let live := (s.livePos bno).length
  let total := s.logCap p / max 1 b.size
  let first := closed.any (fun x => (s.band x).early && x ≠ bno && !(s.media.gcs.any (fun g => g.src = x)))
  !first && 4 * live < b.size && 50 * (total - (s.logBands p).length) < total && closed.all (fun x => live ≤ (s.livePos x).length)

/-- Begin to copy a log band (R167). -/
def State.startGc (s : State) (p bno : Nat) : State :=
  let live := s.livePos bno
  let (seq, s) := s.takeSeq
  let g : Gc := { src := bno, seq := seq, todo := live, refresh := (s.band bno).refresh }
  let s : State := { s with media.gcs := s.media.gcs ++ [g] }
  let s := s.each live (fun s pos =>
    match (s.band bno).tags.find? (fun (e : Nat × Tag) => e.1 = pos) with
    | none => s.modGc bno (fun g => { g with todo := g.todo.filter (fun k => k ≠ pos) })
    | some e =>
      let i := (s.band bno).iOf pos
      if s.nsxMeta e.2.nsx then s.askMeta bno pos (.gcMeta bno pos i)
      else s.ask bno pos i e.2.nsx e.2.lba (.gc bno pos))
  if p < 4 then s.settle else s

/-- Whether admitted writes to a pool's log, tail copies included, are neither published nor voided (R184). -/
def State.logBusy (s : State) (p : Nat) : Bool :=
  s.io.flights.any (fun f => f.seq ≠ 0 && (s.ns? f.c.nsid).any (fun x => x.pool = p)
    && (!f.direct || f.parts.any (fun e => (s.band e.1).unitEnd e.2.2 < e.2.2)))

/-- LOG_GC (R167, R168, R184). -/
def execLogGc (pool band : Nat) (s : State) : Out :=
  let b := s.band band
  if s.coreOn = false ∨ b.role ≠ 3 ∨ b.pool ≠ pool ∨ b.closed = false ∨ b.shavings ∨ s.media.gcs.any (fun g => g.src = band) ∨ s.logBusy pool then .next s
  else if s.gcForced band ∨ s.gcVictim pool band then .next (s.startGc pool band)
  else .next s

/-! ## Reserves, wear, forecast (R169, R170, R172) -/

/-- A die-block in shavings on a die whose band's number range ends soon (R185). -/
def State.mustErase (s : State) (n die : Nat) : Option Place :=
  ((s.dieBlocks n die).find? (fun e => match e.2.st with
    | .shavings b => (s.band b).refs = 0 && e.2.retireNext = 0 && !s.bandRead b && !s.readOn e.1 && (s.band b).openSeq + 2 ^ 46 ≤ s.media.seq + 2 ^ 33
    | _ => false)).map (fun e => e.1)

/-- RESERVE_ERASE (R169, R185). -/
def execReserveErase (n die mode : Nat) (s : State) : Out :=
  onSlot s n (fun s =>
    let x := s.slot n
    let have' := ((s.dieBlocks n die).filter (fun e => e.2.st = .erased ∧ e.2.mode = mode)).length
    if ¬x.st = .inService ∨ x.lifeFlags.testBit 2 ∨ mode > 1 ∨ die ≥ x.dieCount ∨ x.diesFailed.contains die then s
    else match s.mustErase n die with
    | some pl => (s.eraseFor pl mode .erased).freeBands
    | none =>
    if have' ≥ (if mode = 0 then 2 else 1) then s
    else match s.pickDirty n die with
      | (some pl, s) => (s.eraseFor pl mode .erased).freeBands
      | (none, s) => s)

/-- The wear of all of a pool's die-blocks (R169). -/
def State.poolWear (s : State) (pool : Nat) : Nat :=
  ((s.media.blocks.filter (fun e => e.1.slot < 64 && (s.slot e.1.slot).pool = some pool)).map (fun e => s.wear e.1.slot e.2)).sum

/-- Dense bands of a pool closed 30 days ago or more (R170). -/
def State.oldBands (s : State) (pool : Nat) : List (Nat × Band) :=
  s.media.bands.filter (fun e => e.2.pool = pool ∧ (e.2.role = 1 ∨ e.2.role = 2) ∧ e.2.closed ∧ ¬e.2.shavings
    ∧ e.2.closedMs + 2592000000 ≤ s.gbk.uptime)

/-- Whether the least worn die-block of a band lies a tenth of the rated cycles under the pool's mean (R170). -/
def State.leastWorn (s : State) (pool : Nat) (b : Band) : Bool :=
  let sum := s.poolWear pool
  let cnt := (s.pool pool).allBlocks (s.poolSlots pool).length
  let low := (b.members.map (fun pl => if pl.slot < 64 then s.wear pl.slot (s.blockEnt pl) else sum)).foldl min (2 ^ 80)
  let x := s.slot ((b.members.head?.map Place.slot).getD 0)
  10 * low * cnt + x.peDense * x.peSlc * cnt < 10 * sum

/-- WEAR_CHECK (R170): the segments of such bands are queued as for refresh. -/
def execWearCheck (pool : Nat) (s : State) : Out :=
  if s.coreOn = false ∨ pool ≥ 4 then .next s
  else .next (s.each ((s.oldBands pool).filter (fun e => s.leastWorn pool e.2)) (fun s e =>
    s.modSeg e.2.nsx e.2.seg (fun g => { g with refresh := true, wear := g.wear || !g.refresh })))

/-- The life of a slot enters its daily figures, and the forecast follows from a week of them (R172). -/
def Slot.forecastDay (x : Slot) : Slot :=
  let days := (x.life :: x.lifeDays).take 8
  let used := x.life - days.getD 7 x.life
  { x with lifeDays := days
           forecast := if days.length < 8 ∨ used = 0 then 0xFFFF else min 0xFFFE ((900 - x.life) * 7 / used) }

/-- LIFE_FORECAST (R172). -/
def execLifeForecast (pool : Nat) (s : State) : Out :=
  if s.coreOn = false ∨ pool ≥ 4 then .next s
  else .next (s.each (s.inService pool) (fun s n => s.modSlot n Slot.forecastDay))

/-! ## Rebuild and migration (R173, R230 to R236) -/

/-- Member positions of a closed band that must be restored, with 2 for a rebuild and 1 for a migration. -/
def State.mustRestore (s : State) (bno : Nat) : List (Nat × Nat) :=
  let b := s.band bno
  (List.range (b.n + 2)).filterMap (fun mp =>
    let pls := b.members.getD mp ⟨64, 0, 0⟩ :: (b.splits.filter (fun e => e.1 = mp)).map (fun e => e.2.2)
    if pls.any (fun pl => pl.slot ≥ 64 || (s.slot pl.slot).diesFailed.contains pl.die) then some (mp, 2)
    else if pls.any (fun pl => (s.slot pl.slot).st = .draining) then some (mp, 1)
    else none)

/-- The bands a pool's rebuild comes to next (R233): those missing two members, then those missing one, in ascending number. -/
def State.rebuildOrder (s : State) (p : Nat) : List Nat :=
  let cand := (s.media.bands.filter (fun e => e.2.pool = p ∧ (e.2.role = 1 ∨ e.2.role = 2) ∧ e.2.closed ∧ ¬e.2.shavings
    ∧ ¬(s.pool p).waitSpare.contains e.1)).map (fun e => e.1)
  let k := fun (b : Nat) => ((s.mustRestore b).filter (fun e => e.2 = 2)).length
  cand.filter (fun b => k b ≥ 2) ++ cand.filter (fun b => k b = 1) ++ cand.filter (fun b => k b = 0 && s.mustRestore b ≠ [])

/-- Targets a cartridge has received in the current rebuild. -/
def State.targetsOn (s : State) (n : Nat) : Nat := (look (s.pool ((s.slot n).pool.getD 4)).targets n).getD 0

/-- Whether more than the last 0.5 % of the pool's die-blocks is free (R231). -/
def State.spareLeft (s : State) (p : Nat) : Bool :=
  let q := s.pool p
  let all := q.allBlocks (s.poolSlots p).length
  let used := (s.media.blocks.filter (fun e => e.1.slot < 64 && (s.slot e.1.slot).pool = some p
    && (match e.2.st with | .free => false | .erased => false | .shavings _ => false | _ => true))).length
  (all - used) * 200 > all

/-- A target for a member being rebuilt or migrated (R173, R231). -/
def State.pickTarget (s : State) (bno mp : Nat) : Option Place × State :=
  let b := s.band bno
  let old := b.members.getD mp ⟨64, 0, 0⟩
  if s.spareLeft b.pool = false then (none, s)
  else
    let dieOnly := old.slot < 64 && (s.slot old.slot).st = .inService && s.canTake b.pool old.slot
    match (if dieOnly then s.takeNear old b.mode (.member bno) else (none, s)) with
    | (some pl, s) => (some pl, s)
    | (none, s) =>
      let busy := (s.media.units.filter (fun u => u.band = some bno)).map (fun u => u.at_.slot)
      let cs := (s.fastTakers b.pool).filter (fun n => !b.slots.contains n && !busy.contains n)
      let best := cs.foldl (fun (acc : Option Nat) n =>
        match acc with
        | none => some n
        | some m => if s.targetsOn n < s.targetsOn m ∨ (s.targetsOn n = s.targetsOn m ∧ s.idxOf n < s.idxOf m) then some n else acc) none
      match best with
      | some n => s.takeBlock n b.mode (.member bno)
      | none => (none, s)

/-- Restore one wordline of one member position: in ascending order, but a member that fails while another of the band is under rebuild joins at the row that has been reached, and gets its lower rows in a second pass (R233). -/
def State.restoreRow (s : State) (bno wl mp kind : Nat) : State :=
  let b := s.band bno
  let mine := s.media.units.filter (fun u => u.restore ≠ 0 ∧ u.band = some bno ∧ u.mp = mp)
  let beside := s.media.units.any (fun u => u.restore = 2 ∧ u.band = some bno ∧ u.mp ≠ mp ∧ u.wl = wl)
  if mine.any (fun u => u.wl = wl) ∨ wl ≥ b.wlOf b.taken ∨ (wl > 0 ∧ ¬mine.any (fun u => u.wl + 1 = wl) ∧ ¬(mine = [] ∧ beside)) then s
  else
    let last := mine.find? (fun u => u.wl + 1 = wl)
    let (pl, s) := match last.orElse (fun _ => mine.head?) with
      | some u => (some u.at_, s)
      | none =>
        let (pl, s) := s.pickTarget bno mp
        (pl, match pl with
          | some t => if kind = 2 then s.modPool b.pool (fun q => { q with targets := place q.targets t.slot ((look q.targets t.slot).getD 0 + 1) }) else s
          | none => s)
    let pwl := match last with | some u => u.pwl + 1 | none => wl
    match pl with
    | none =>
      let s := s.modPool b.pool (fun q => { q with waitSpare := bno :: q.waitSpare.filter (fun x => x ≠ bno) })
      s.log 0x0507 [b.pool, (s.pool b.pool).waitSpare.length]
    | some pl =>
      let (uid, s) := s.addUnit (.band bno wl mp) pl pwl b.mode []
      let all := List.range (s.unitLen b)
      let s := s.modUnit uid (fun u => { u with restore := kind, await := all })
      s.each all (fun s i => s.askAt bno wl mp i (.restore uid i))

/-- Bands of the rebuild that come before those of a tier (R233): 0 register bands, 1 two members missing, 2 log bands, 3 one member missing. -/
def State.rebuildAhead (s : State) (p tier : Nat) : Bool :=
  let lost := fun (b : Nat) => (s.band b).slots.any (fun n => n ≥ 64)
  let two := (s.rebuildOrder p).any (fun b => ((s.mustRestore b).filter (fun e => e.2 = 2)).length ≥ 2)
  (tier > 0 && (s.pool p).regBand.any lost) || (tier > 1 && two)
    || (tier > 2 && (s.logBands p).any (fun b => lost b && !s.media.gcs.any (fun g => g.src = b)))

/-- Whether a dense band's turn has come: the head of the rebuild, or the first to be migrated, which goes on beside a rebuild (R173, R233). -/
def State.rebuildTurn (s : State) (p bno : Nat) : Bool :=
  let k := fun (b : Nat) => ((s.mustRestore b).filter (fun e => e.2 = 2)).length
  let l := s.rebuildOrder p
  if k bno = 0 then (l.filter (fun b => k b = 0)).head? = some bno
  else l.head? = some bno && !s.rebuildAhead p (if k bno ≥ 2 then 1 else 3)

/-- One row of the rebuild of a band (R232, R233). -/
def State.rebuildRow (s : State) (p bno wl : Nat) : State :=
  let s := s.modPool p (fun q => { q with current := bno })
  (s.each (s.mustRestore bno) (fun s e => s.restoreRow bno wl e.1 e.2)).settle

/-- REBUILD_ROW (R173, R230, R232, R233): log bands are garbage-collected, an open one once it is completed, register bands rewritten (R192), dense bands restored row by row, also for a migration. -/
def execRebuildRow (pool band row : Nat) (s : State) : Out :=
  let b := s.band band
  if s.coreOn = false ∨ b.role = 0 ∨ b.pool ≠ pool ∨ b.shavings then .next s
  else if b.role = 3 then
    (if s.gcForced band = false ∨ s.rebuildAhead pool 2 ∨ s.media.gcs.any (fun g => g.src = band) ∨ (b.closed ∧ s.logBusy pool) then .next s
     else if b.closed then .next (s.startGc pool band)
     else .next (s.closeEarly band).settle)
  else if b.role = 4 then
    (if (s.pool pool).regBand = some band ∧ s.gcForced band then
      .next ((s.modPool pool (fun q => { q with regBand := none })).needReg pool).settle
     else .next s)
  else if s.rebuildTurn pool band then .next (s.rebuildRow pool band row)
  else .next s

/-- SPARE_RETRY (R231): the waiting bands are tried again, the first at once. -/
def execSpareRetry (pool : Nat) (s : State) : Out :=
  if s.coreOn = false ∨ pool ≥ 4 then .next s
  else
    let s := s.modPool pool (fun q => { q with waitSpare := [] })
    match (s.rebuildOrder pool).head? with
    | some b => .next (s.rebuildRow pool b 0)
    | none => .next s

end Sys2Proof.Machine
end

