-- ==== Sys2Proof/Machine/Guestbook.lean ====
section
/-! DEFINITION. The guestbook's commands: writing, coalescing, reading, clearing and the owner key (R462 to R476). -/

namespace Sys2Proof.Machine

def fword0 (_ : Nat) : FWord := {}
/-- A flash word, by word index (address / 32). -/
def State.fword (s : State) (w : Nat) : FWord := s.efl.words.get fword0 w
def State.setFword (s : State) (w : Nat) (v : FWord) : State :=
  { s with efl.words := s.efl.words.put fword0 w v }
/-- Erase the flash words `lo` to `hi - 1`. -/
def State.eraseWords (s : State) (lo hi : Nat) : State :=
  { s with efl.words := s.efl.words.filter (fun e => e.1 < lo ∨ hi ≤ e.1) }

/-- The bytes of a record before `GB_CRC` (R462). -/
def recBody (r : Rec) : List Byte :=
  pageOf 60 ([(0, 2, r.code), (2, 1, r.attr), (3, 1, min r.ps.length 5 + flag r.coalesced 3), (4, 6, r.time),
    (10, 2, r.count), (12, 4, r.recno), (56, 4, min r.lastDelta (2 ^ 32 - 1))]
    ++ (r.ps.take 5).mapIdx (fun i p => (16 + 8 * i, 8, p)))
/-- The 64 bytes of a record (R462). -/
def recBytes (r : Rec) : List Byte := recBody r ++ toLe 4 (crc32c (recBody r))

/-- The first flash word of the ring (R403, R467), and one sector of it. -/
def ringWord : Nat := 0x1A00000 / 32

/-- Write a record at the next ring position, erasing the sector before its first record (R464, R467). -/
def State.writeRec (s : State) (r : Rec) : State :=
  let p := s.gbk.pos
  let r := { r with recno := s.gbk.nextNo, at_ := p, done := none }
  let s := if p % 1024 = 0 then
      let s := s.eraseWords (ringWord + 2 * p) (ringWord + 2 * p + 2048)
      { s with gbk.ring := s.gbk.ring.filter (fun x => x.at_ / 1024 ≠ p / 1024) }
    else s
  let b := recBytes r
  let s := s.setFword (ringWord + 2 * p) { written := true, data := BitVec.ofNat 256 (leAt b 0 32) }
  let s := s.setFword (ringWord + 2 * p + 1) { written := true, data := BitVec.ofNat 256 (leAt b 32 32) }
  { s with gbk.ring := s.gbk.ring ++ [r], gbk.pos := (p + 1) % 65536, gbk.nextNo := (s.gbk.nextNo + 1) % 2 ^ 32 }

/-- Distance of a record number above another, modulo 2^32 (R468). -/
def recDist (base n : Nat) : Nat := (n + 2 ^ 32 - base % 2 ^ 32) % 2 ^ 32

/-- The records that may be returned: valid and at or above the floor (R468, R475). -/
def Gbk.live (g : Gbk) : List Rec := g.ring.filter (fun r => recDist g.floor r.recno < 2 ^ 31)
def Gbk.oldest (g : Gbk) : Nat := (g.live.head?.map (·.recno)).getD 0
def Gbk.newest (g : Gbk) : Nat := (g.live.getLast?.map (·.recno)).getD 0

/-- A durable CLEAR puts its floor in force and erases the sectors that hold only cleared records (R475). -/
def State.applyFloor (s : State) (last : Nat) : State :=
  let s := { s with gbk.floor := (last + 1) % 2 ^ 32 }
  let keep := (s.gbk.live.map (fun r => r.at_ / 1024)).dedup
  let gone := ((s.gbk.ring.map (fun r => r.at_ / 1024)).dedup).filter (fun k => !keep.contains k)
  let s := s.each gone (fun s k => s.eraseWords (ringWord + 2048 * k) (ringWord + 2048 * k + 2048))
  { s with gbk.ring := s.gbk.ring.filter (fun r => !gone.contains (r.at_ / 1024)) }

/-- Give a freed place of R466 to the command that waits for it. -/
def State.nextPlace (s : State) (code : Nat) : State :=
  match s.gbk.waitPlace.find? (fun w => w.2.code = code) with
  | none => s
  | some w =>
    let s := { s with gbk.waitPlace := s.gbk.waitPlace.filter (fun x => x.1 ≠ w.1) }
    if code = 0x0A01 then { s with gbk.cleared := some w.2 }
    else ({ s with gbk.ownerSet := some w.2 }).post w.1 .success

/-- GUESTBOOK_RECORD_WRITE (R464, R466, R467). -/
def execGuestbookRecordWrite (s : State) : Out :=
  if s.pwr.phase ≠ .run ∨ s.ctlOn = false ∨ s.efl.busy.isSome then .next s
  else match s.gbk.cleared, s.gbk.ownerSet with
  | some r, _ =>
    let s := ({ s with gbk.cleared := none }).writeRec r
    let s := s.applyFloor (r.ps.getD 1 0)
    let s := match r.done with | some id => s.post id .success | none => s
    .next (s.nextPlace 0x0A01)
  | none, some r =>
    .next ((({ s with gbk.ownerSet := none }).writeRec r).nextPlace 0x0A03)
  | none, none =>
    if s.gbk.budget = 0 then .next s
    else if s.gbk.droppedSince ≠ 0 then
      let r := s.recOf 0x0A05 [s.gbk.droppedSince]
      .next ({ s with gbk.droppedSince := 0, gbk.budget := s.gbk.budget - 1 }.writeRec r)
    else match s.gbk.queue with
      | [] => .next s
      | r :: rest => .next ({ s with gbk.queue := rest, gbk.budget := s.gbk.budget - 1 }.writeRec r)

/-- COALESCE_WINDOW (R465): the 1 s window of a key ends. -/
def execCoalesceWindow (code key : Nat) (s : State) : Out :=
  match s.gbk.tracked.find? (fun t => t.code = code ∧ t.key = key) with
  | none => .next s
  | some t =>
    if t.count = 0 then
      .next { s with gbk.tracked := s.gbk.tracked.filter (fun x => ¬(x.code = code ∧ x.key = key)) }
    else
      let r : Rec := { code := code, attr := s.calAttr, coalesced := true, time := t.first, count := t.count,
                       ps := t.ps, lastDelta := t.last - t.first }
      let s := s.enqueue r
      .next { s with gbk.tracked := s.gbk.tracked.map (fun x =>
        if x.code = code ∧ x.key = key then { code := code, key := key } else x) }

/-- GUESTBOOK_READ (R471). -/
def execGuestbookRead (c : Cmd) (s : State) : Out :=
  adminCmd true c s (fun s =>
    let nrec := field (dw11 c) 15 0
    let lo := field (dw12 c) 15 0
    let hi := field (dw12 c) 31 16
    s.check c (field (dw11 c) 31 16 = 0 && zero13 c && 1 ≤ nrec && nrec ≤ 32768 && !(hi < lo && lo ≠ 0)) (fun s =>
      let old := s.gbk.oldest
      let start := if recDist old (dw10 c) ≥ 2 ^ 31 then old else dw10 c
      let cand := s.gbk.live.filter (fun r => recDist start r.recno < 2 ^ 31)
      let hit := cand.filter (fun r => (hi = 0) || (lo ≤ r.code && r.code ≤ hi))
      let out := hit.take nrec
      let next := if hit.length ≥ nrec then ((out.getLast?.map (·.recno)).getD start + 1) % 2 ^ 32
        else if cand.isEmpty then start else (s.gbk.newest + 1) % 2 ^ 32
      s.post c.id .success out.length next (out.flatMap recBytes)))

/-- A Get Log Page for a page reserved to the Manager (R280). -/
def mgrPage (c : Cmd) (s : State) (f : State → State) : Out :=
  adminCmd false c s (fun s => if s.isManager c.id.ctrl then f s else s.refuse c .invalidLog)

/-- GUESTBOOK_LOG (R472). -/
def execGuestbookLog (c : Cmd) (s : State) : Out :=
  mgrPage c s (fun s => s.check c (lpo c % 64 = 0) (fun s =>
    let g := s.gbk
    let head := pageOf 64 [(0, 4, g.oldest), (4, 4, g.newest), (8, 4, g.live.length), (12, 4, g.floor),
      (16, 8, g.dropped), (24, 1, flag g.ownerKey.isSome 0 + flag g.calSet 1)]
    s.page c (head ++ g.live.flatMap recBytes)))

/-- NONCE (R473). -/
def execNonce (c : Cmd) (s : State) : Out :=
  adminCmd true c s (fun s => s.check c (dw10 c = 0 && zero11 c) (fun s =>
    let n := s.freeVal % 2 ^ 256
    let s := { s.took with gbk.nonce := some (n, s.gbk.uptime) }
    s.post c.id .success 0 0 (toLe 32 n ++ toLe 16 Config.unitId.toNat ++ toLe 4 s.gbk.oldest
      ++ toLe 4 s.gbk.newest ++ toLe 8 0)))

/-- The first 8 bytes of SHA-384 of a key of 96 bytes (R470). -/
def keyHash (k : Nat) : Nat := Config.sha384 (toLe 96 k) % 2 ^ 64

/-- Whether the structure names the valid nonce, and the state with a named nonce spent (R474). -/
def State.nonceOk (s : State) (n : Nat) : Bool := s.gbk.nonce.map (·.1) = some n
def State.spendNonce (s : State) (n : Nat) : State :=
  if s.nonceOk n then { s with gbk.nonce := none } else s

/-- Refuse an owner action with code 0x0A02 (R470, R474, R476). -/
def State.denyOwner (s : State) (c : Cmd) (st : Status) (cause action : Nat) : State :=
  (s.log 0x0A02 [c.id.ctrl, cause, action]).refuse c st

/-- CLEAR (R474, R475). -/
def execClear (c : Cmd) (sigOk : Bool) (s : State) : Out :=
  adminCmd true c s (fun s =>
    let n := leAt c.buf 0 32
    let first := leAt c.buf 32 4
    let last := leAt c.buf 36 4
    let ok := s.nonceOk n
    let s := s.spendNonce n
    if ¬(dw10 c = 1 ∧ zero11 c = true ∧ zeroBytes c.buf 40 95 = true) then s.denyOwner c .invalidField 4 1
    else match s.gbk.ownerKey with
    | none => s.denyOwner c (.vendor 0x87) 0 1
    | some key =>
      if ok = false then s.denyOwner c (.vendor 0x87) 1 1
      else if sigOk = false then s.denyOwner c (.vendor 0x87) 2 1
      else if first ≠ s.gbk.oldest ∨ recDist first last ≥ 2 ^ 31 ∨ recDist first last > recDist first s.gbk.newest then
        s.denyOwner c .invalidField 3 1
      else
        let r := { s.recOf 0x0A01 [first, last, keyHash key, c.id.ctrl] with done := some c.id }
        if s.gbk.cleared.isNone then { s with gbk.cleared := some r }
        else { s with gbk.waitPlace := s.gbk.waitPlace ++ [(c.id, r)] })

/-- OWNER_SET (R476). -/
def execOwnerSet (c : Cmd) (sigOk onCurve : Bool) (s : State) : Out :=
  adminCmd true c s (fun s =>
    let n := leAt c.buf 0 32
    let ok := s.nonceOk n
    let s := s.spendNonce n
    let local' := c.viaMI || (s.ctrl c.id.ctrl).kind = .pf0
    let sigFine := match s.gbk.ownerKey with
      | none => zeroBytes c.buf 160 255 && local'
      | some _ => sigOk
    if ¬(dw10 c = 2 ∧ zero11 c = true ∧ zeroBytes c.buf 128 159 = true) then s.denyOwner c .invalidField 4 2
    else if ok = false then s.denyOwner c (.vendor 0x87) 1 2
    else if sigFine = false then s.denyOwner c (.vendor 0x87) 2 2
    else if onCurve = false then s.denyOwner c .invalidField 5 2
    else
      let key := leAt c.buf 32 96
      let r := s.recOf 0x0A03 [c.id.ctrl, keyHash key, if s.gbk.ownerKey.isSome then 1 else 0]
      let s := { s with gbk.ownerKey := some key }
      if s.gbk.ownerSet.isNone then ({ s with gbk.ownerSet := some r }).post c.id .success
      else { s with gbk.waitPlace := s.gbk.waitPlace ++ [(c.id, r)] })

/-- NONCE_EXPIRY (R474). -/
def execNonceExpiry (s : State) : Out := .next { s with gbk.nonce := none }

/-- TIMESTAMP (R463): from the Manager it sets the calendar offset; from another controller only its own reading. -/
def execTimestamp (c : Cmd) (s : State) : Out :=
  adminCmd false c s (fun s =>
    let v := leAt c.buf 0 6
    if s.isManager c.id.ctrl then
      let old := s.calMs
      let attr := s.calAttr
      let s := { s with gbk.calOff := (v + 2 ^ 48 - s.gbk.uptime % 2 ^ 48) % 2 ^ 48, gbk.calSet := true }
      (s.log 0x0A04 [old, v, attr]).post c.id .success
    else
      (s.modCtrl c.id.ctrl (fun k => { k with tsOff := (v + 2 ^ 48 - s.gbk.uptime % 2 ^ 48) % 2 ^ 48, tsSet := true })).post c.id .success)

end Sys2Proof.Machine
end

