-- ==== Sys2Proof/Machine/Qos.lean ====
section
/-! DEFINITION. Tenant shares: guarantees, borrowing, token balances, and the first five intake stages (R277 to R295, R314, R315, R324, R325). -/

namespace Sys2Proof.Machine

/-! ## Tokens (R324, R325): balances in units of 1 / (1000 g-denominator), uses in thousandths -/

/-- Rate classes: 0 toward the host, 1 from the host, 2 commands. -/
def State.tok (s : State) (c t : Nat) : Int := (look s.io.tok (c, t)).getD 0
def State.usedTok (s : State) (c t : Nat) : Nat := (look s.io.used (c, t)).getD 0
def State.spareTok (s : State) (c : Nat) : Nat := s.io.spare.getD c 0
def State.tokUnit (s : State) : Nat := 1000 * s.gDen
/-- Nominal capacity of a class times the epoch length, in thousandths of a byte or command. -/
def State.capE (s : State) (c : Nat) : Nat :=
  let e := s.inf stEpochLen
  if c = 2 then s.part.nomIops * e else s.part.nomBw * e * 1000
def allocOf (c : Nat) : Nat := if c = 2 then 280 else 276
/-- limit × E in thousandths; none where there is no limit. -/
def State.limitE (s : State) (c t : Nat) : Option Nat :=
  let l := s.inf (stTenant t (if c = 2 then 292 else 288))
  if l = 0 ∨ t = 0 then none else some (if c = 2 then l * s.inf stEpochLen else l * s.inf stEpochLen * 1000)

/-- Whether a class can take a command of cost `k`. -/
def State.canTakeTok (s : State) (c t k : Nat) : Bool :=
  (s.usedTok c t = 0 || (match s.limitE c t with | none => true | some l => s.usedTok c t + 1000 * k ≤ l))
    && (s.tok c t > 0 || s.spareTok c ≥ k * s.tokUnit)

/-- Charge a class. -/
def State.charge (s : State) (c t k : Nat) : State :=
  let s : State := { s with io.used := place s.io.used (c, t) (s.usedTok c t + 1000 * k) }
  if s.tok c t > 0 then { s with io.tok := place s.io.tok (c, t) (s.tok c t - (k * s.tokUnit : Nat)) }
  else { s with io.spare := (List.range 3).map (fun i => if i = c then s.spareTok c - k * s.tokUnit else s.spareTok i) }

/-- The bandwidth class and cost of a command (R324). -/
def bwCost (op : Nat) (c : Cmd) : Option (Nat × Nat) :=
  if op = 2 then some (0, 4096 * nlb c) else if op = 1 ∨ op = 5 then some (1, 4096 * nlb c) else none

/-- Admit a command in both of its classes, or in neither. -/
def State.admitTok (s : State) (f : Flight) : Option State :=
  let bw := bwCost f.op f.c
  let ok := s.canTakeTok 2 f.tenant 1 && (match bw with | some (c, k) => s.canTakeTok c f.tenant k | none => true)
  if ok then
    let s := s.charge 2 f.tenant 1
    some (match bw with | some (c, k) => s.charge c f.tenant k | none => s)
  else none

/-! ## Stages 1 to 3 (R287) -/

/-- I/O commands that may carry ORD (R278). -/
def ordOps : List Nat := [0, 1, 2, 8, 9]

/-- Blocks past the end of the namespace. -/
def Ns.rangeOk (x : Ns) (c : Cmd) : Bool := slba c + nlb c ≤ x.nsze

/-- Ranges of Dataset Management (NVMe): first block and count. -/
def dsmRanges (c : Cmd) : List (Nat × Nat) :=
  (List.range (dw10 c % 256 + 1)).map (fun i => (leAt c.buf (16 * i + 8) 8, leAt c.buf (16 * i + 4) 4))

/-- Stage 2 of a command on blocks. -/
def State.stage2 (s : State) (op : Nat) (c : Cmd) : Option Status :=
  if c.fuse ≠ 0 then some .invalidField
  else if ordFlag c ∧ ¬ordOps.contains op then some .invalidField
  else if op = 0 ∧ c.nsid = 0xFFFFFFFF then none
  else match s.ns? c.nsid with
    | none => some .invalidNs
    | some x =>
      if s.attachedTo x c.id.ctrl = false then some .invalidNs
      else if op = 0 ∨ op = 0x12 ∨ op = 0x1D ∨ op ≥ 0x90 then none
      else if op = 9 then
        if (dsmRanges c).all (fun r => r.1 + r.2 ≤ x.nsze) then none else some .lbaRange
      else if nlb c > 512 then some .invalidField
      else if x.rangeOk c = false then some .lbaRange
      else if op ≠ 8 ∧ x.piArgsOk c (slba c) = false then some .invalidPI
      else none

/-- Stage 3. -/
def State.stage3 (s : State) (op : Nat) (c : Cmd) : Option Status :=
  match s.ns? c.nsid with
  | none => none
  | some x =>
    if (s.pool x.pool).pstate ≠ 2 then some .nsNotReady
    else if (op = 1 ∨ op = 8 ∨ op = 9) ∧ s.nLog x.pool < 4 then some (.vendor 0x84)
    else none

/-- The command as the rest of the machine sees it: within a slice, NSID p + 1 names the slice namespace in pool p (R337). -/
def State.localNs (s : State) (c : Cmd) : Cmd :=
  match (s.ctrl c.id.ctrl).kind with
  | .slice k =>
    if c.nsid = 0xFFFFFFFF then c
    else { c with nsid := ((s.media.nss.find? (fun x => x.tenant = k && x.flags.testBit 1 && x.pool + 1 = c.nsid)).map Ns.nsid).getD 0 }
  | _ => c

/-- A command enters the pipeline (R286, R287): refused at stages 1 to 3, or held from stage 3 on as a flight. -/
def State.intake (s : State) (op : Nat) (c : Cmd) : State :=
  let c := s.localNs c
  let k := s.ctrl c.id.ctrl
  if k.authReq && !k.authed then s.refuse c .authentication
  else match s.stage2 op c with
    | some st => s.refuse c st
    | none => match s.stage3 op c with
      | some st => s.refuse c st
      | none =>
        let f : Flight := { op := op, c := c, tenant := k.tenant, stage := .held 3, ord := s.io.order }
        { s with io.flights := s.io.flights ++ [f], io.order := s.io.order + 1 }

/-! ## Steering (R145, R154 to R163) -/

/-- The segment parts of a range: segment, offset in it, length. -/
def segParts (size : Nat) : Nat → Nat → Nat → List (Nat × Nat × Nat)
  | 0, _, _ => []
  | fuel + 1, lo, hi =>
    if lo ≥ hi ∨ size = 0 then []
    else
      let k := lo / size
      let top := min hi ((k + 1) * size)
      (k, lo % size, top - lo) :: segParts size fuel top hi

/-- Blocks of admitted writes that stand above gaps, in all direct bands (R157). -/
def State.gapBlocks (s : State) : Nat :=
  (s.io.flights.flatMap (fun f => (f.parts.filter (fun e => s.solidEnd e.1 < e.2.1)).map (fun e => e.2.2 - e.2.1))).sum

/-- Open direct bands of a pool. -/
def State.openDirects (s : State) (p : Nat) : Nat :=
  (s.media.bands.filter (fun e => e.2.role = 1 ∧ e.2.pool = p ∧ ¬e.2.closed ∧ ¬e.2.closing ∧ ¬e.2.shavings)).length

/-- How a part goes direct: 0 not, 1 into the open band, 2 by a new band (R156); `len` is the length of the write. -/
def State.partWay (s : State) (x : Ns) (k o len : Nat) : Nat :=
  let g := x.seg k
  let policy := x.policy % 4
  if s.narrowFor x ∨ policy = 1 then 0
  else if g.folding.isSome then 0
  else match g.a with
    | some a =>
      let b := s.band a
      if b.copying ∨ b.closed ∨ b.closing then 0
      else if g.f ≤ o ∧ o ≤ g.f + 1024 ∧ (o ≤ s.solidEnd a ∨ s.gapBlocks + len ≤ 8192) then 1 else 0
    | none =>
      if o = 0 ∧ (policy = 2 ∨ len ≥ 16 * (x.policy / 256 % 256)) ∧ s.openDirects x.pool < 4096 then 2 else 0

/-- Whether every part of a range goes direct; parts on both sides of a segment boundary only by new bands, under rules 5 and 6 (R156). -/
def State.allDirect (s : State) (x : Ns) (len : Nat) (ps : List (Nat × Nat × Nat)) : Bool :=
  ps.all (fun e => let w := s.partWay x e.1 e.2.1 len; if ps.length > 1 then w = 2 else w ≠ 0)

/-- Placement handle of a Write (R160, R161): DTYPE 2 in Dword 12 [23:20], DSPEC in Dword 13 [31:16] (NVMe). -/
def State.handleOf (_s : State) (x : Ns) (c : Cmd) : Option Nat :=
  if x.flags.testBit 0 ∧ field (dw12 c) 23 20 = 2 ∧ dw13 c / 65536 < 64 then some (dw13 c / 65536) else none

/-- A handle leaves the unit it references (R161). -/
def State.dropHandle (s : State) (p h : Nat) : State :=
  match s.media.bands.find? (fun e => e.2.pool = p ∧ e.2.handle = some h) with
  | some e => (s.modBand e.1 (fun b => { b with handle := none })).modPool p (fun q => { q with fdpEvents := q.fdpEvents ++ [(0, h, e.1)] })
  | none => s

/-- Open a direct band for a segment. -/
def State.openSeg (s : State) (x : Ns) (k : Nat) (h : Option Nat) : Option Nat × State :=
  let s := s.needReg x.pool
  match s.openBand x.pool 1 x.nNs x.nsx k x.hasMeta (x.seg k).b none with
  | (none, s) => (none, s)
  | (some b, s) =>
    let s := s.modBand b (fun y => { y with handle := h })
    (some b, s.modSeg x.nsx k (fun g => { g with a := some b, f := 0 }))

/-- Steer a write as a whole (R156). -/
def State.steer (s : State) (f : Flight) : State :=
  match s.ns? f.c.nsid with
  | none => s
  | some x =>
    let ps := segParts (s.segSize x) (nlb f.c + 1) (slba f.c) (slba f.c + nlb f.c)
    -- a write at offset 0 of a segment ends its handle's reference to another unit (R161)
    let s := match s.handleOf x f.c, ps with
      | some h, e :: _ => if e.2.1 = 0 then s.dropHandle x.pool h else s
      | _, _ => s
    if s.allDirect x (nlb f.c) ps then
      let (s, parts) := ps.foldl (fun (a : State × List (Nat × Nat × Nat)) e =>
        let s := a.1
        match (x.seg e.1).a with
        | some b => (s, a.2 ++ [(b, e.2.1, e.2.1 + e.2.2)])
        | none =>
          match s.openSeg x e.1 (s.handleOf x f.c) with
          | (some b, s) => (s, a.2 ++ [(b, e.2.1, e.2.1 + e.2.2)])
          | (none, s) => (s, a.2)) (s, [])
      if parts.length = ps.length then s.modFlight f.c.id (fun f => { f with direct := true, parts := parts, handle := s.handleOf x f.c })
      else s
    else s

/-- Whether writes wait because a number they would take could pass a band's range: a log band or shavings not yet erased at `OPEN_SEQ` + 2^46 (R185); 2^32 numbers are kept for the copies that end the wait (assumption log 99). -/
def State.seqHeld (s : State) : Bool :=
  s.media.bands.any (fun e => e.2.role ≠ 0 && (e.2.shavings || e.2.role = 3) && e.2.openSeq + 2 ^ 46 ≤ s.media.seq + 2 ^ 32)

/-- Whether a roughing write waits at intake: log stall (R162) or the tenant's log share (R163), its admitted writes counted. -/
def State.roughWaits (s : State) (f : Flight) : Bool :=
  match s.ns? f.c.nsid with
  | none => false
  | some x =>
    (s.pool x.pool).logState = 2 ||
      (f.tenant ≠ 0 &&
        (s.media.log.filter (fun e => (s.nsx? e.1.1).any (fun y => y.tenant = f.tenant ∧ y.pool = x.pool))).length
            + ((s.io.flights.filter (fun g => g.tenant = f.tenant ∧ g.seq ≠ 0 ∧ ¬g.direct ∧ (s.ns? g.c.nsid).any (fun y => y.pool = x.pool))).map (fun g => nlb g.c)).sum
            + nlb f.c
          > s.guar f.tenant 284 (s.logCap x.pool))

/-- Follow the log's occupancy (R162). -/
def State.checkLog (s : State) (p : Nat) : State :=
  let o := s.logOcc p
  let was := (s.pool p).logState
  let now := if o ≥ 950 ∨ (was = 2 ∧ o ≥ 930) then 2 else if o ≥ 800 then 1 else 0
  let s := s.modPool p (fun q => { q with logState := now })
  let s := if was = 0 ∧ now ≠ 0 then s.log 0x0411 [p, o] else s
  if was ≠ 2 ∧ now = 2 then s.log 0x0412 [p, o] else s

/-! ## Stages 3 to 5 -/

/-- Whether the barrier rules let a command pass stage 5 (R295). -/
def State.barrierOk (s : State) (f : Flight) : Bool :=
  let earlier := (s.io.flights.takeWhile (fun g => g.c.id ≠ f.c.id)).filter (fun g => g.c.id.ctrl = f.c.id.ctrl ∧ g.c.id.sq = f.c.id.sq)
  if ordFlag f.c && ordOps.contains f.op then earlier.isEmpty else !(earlier.any (fun g => ordFlag g.c && ordOps.contains g.op))

/-- Set the stage of a flight; it begins to wait now. -/
def State.holdAt (s : State) (id : CmdId) (n : Nat) : State :=
  let f := s.flight? id
  if f.any (fun f => f.stage = .held n) then s
  else ({ s with io.order := s.io.order + 1 } : State).modFlight id (fun f => { f with stage := .held n, ord := s.io.order })

/-- Whether a command is held at stage 3 by a format or a sanitize (R334). -/
def State.nsHeld (s : State) (c : Cmd) : Bool :=
  s.media.sanitize.isSome || (s.ns? c.nsid).any (fun x => x.job = 1 || x.job = 2)

/-- Whether a range consists of whole segments (R159). -/
def State.wholeSegs (s : State) (c : Cmd) : Bool :=
  (s.ns? c.nsid).any (fun x => slba c % s.segSize x = 0 && (nlb c % s.segSize x = 0 || slba c + nlb c = x.nsze))

/-- Take a command through stages 3 to 5; true where it passed. -/
def State.toStage6 (s : State) (id : CmdId) : Bool × State :=
  match s.flight? id with
  | none => (false, s)
  | some f =>
    match f.stage with
    | .held 5 => if s.barrierOk f then (true, s.holdAt id 6) else (false, s)
    | .held n =>
      if n > 5 then (true, s)
      else if s.nsHeld f.c then (false, s.holdAt id 3)
      else if s.io.paused || s.pwr.sleep ≠ .active then (false, s.holdAt id 4)
      else
        let write := f.op = 1 || f.op = 8
        let way := (s.ns? f.c.nsid).any (fun x =>
          s.allDirect x (nlb f.c) (segParts (s.segSize x) (nlb f.c + 1) (slba f.c) (slba f.c + nlb f.c)))
        if write && ((!way && s.roughWaits f) || s.seqHeld) then (false, s.holdAt id 4)
        else match s.admitTok f with
          | none => (false, s.holdAt id 4)
          | some s =>
            let s := if write && !(f.op = 8 && s.wholeSegs f.c) then s.steer f else s
            let (seq, s) := if write then s.takeSeq else (0, s)
            let s := s.modFlight id (fun f => { f with seq := seq, guarS := s.guar f.tenant 264 32768, guarL := s.guar f.tenant 268 63488 })
            if s.barrierOk f then (true, s.holdAt id 6) else (false, s.holdAt id 5)
    | _ => (false, s)

end Sys2Proof.Machine
end

