-- ==== Sys2Proof/Machine/Io.lean ====
section
/-! DEFINITION. I/O commands on blocks: locks, staging, reads, writes, deallocation, publication, voiding and draining (R152, R153, R159 to R161, R177 to R187, R283, R292 to R298). -/

namespace Sys2Proof.Machine

/-! ## The chuck (R292 to R294) -/

/-- Whether a lock conflicts with one that reached stage 6 before it. -/
def conflicts (l : Lock) (earlier : List Lock) : Bool :=
  earlier.any (fun m => m.nsid = l.nsid && m.lo < l.hi && l.lo < m.hi && (l.excl || m.excl))

/-- A lock with its grant, given the locks before it. -/
def State.newLock (s : State) (id : CmdId) (nsid lo hi : Nat) (excl : Bool) : Lock :=
  let l : Lock := { id := id, nsid := nsid, lo := lo, hi := hi, excl := excl, granted := false, ord := s.io.order }
  { l with granted := !conflicts l s.io.locks }

/-- An exclusive lock is granted: fall-back reads that overlap it must repeat (R294). -/
def State.markHits (s : State) (l : Lock) : State :=
  if l.excl ∧ l.granted then
    { s with io.flights := s.io.flights.map (fun f =>
        if f.fallback ∧ f.c.nsid = l.nsid ∧ slba f.c < l.hi ∧ l.lo < slba f.c + nlb f.c then { f with hit := true } else f) }
  else s

/-- Take a lock entry; it is granted at once where nothing conflicts. -/
def State.takeLock (s : State) (l : Lock) : State :=
  ({ s with io.locks := s.io.locks ++ [l], io.order := s.io.order + 1 } : State).markHits l

/-- Grant the waiting locks of a command that no longer conflict. -/
def State.grantLocks (s : State) (id : CmdId) : State :=
  let now := s.io.locks.filter (fun l => l.id = id ∧ ¬l.granted ∧ ¬conflicts l (s.io.locks.takeWhile (fun m => m ≠ l)))
  let s : State := { s with io.locks := s.io.locks.map (fun l => if now.contains l then { l with granted := true } else l) }
  s.each now (fun s l => s.markHits { l with granted := true })

/-- The first command that waits at a stage, of those of its tenant (R288). -/
def State.firstAt (s : State) (f : Flight) (n : Nat) : Bool :=
  !(s.io.flights.any (fun g => g.stage = .held n && g.tenant = f.tenant && g.c.id ≠ f.c.id && g.ord < f.ord))

/-! ## Publication and voiding (R152, R153, R177 to R187) -/

/-- The tail of a part. -/
def State.tailOf (s : State) (e : Nat × Nat × Nat) : List Nat :=
  let b := s.band e.1
  let t := max e.2.1 (b.unitEnd e.2.2)
  (List.range (e.2.2 - t)).map (fun k => t + k)

/-- Whether a write meets R177 and R179. -/
def State.writeReady (s : State) (f : Flight) : Bool :=
  f.arrived = nlb f.c && f.bad.isNone && !f.voiding && f.stage ≠ .held 7
    && f.units.all s.unitSafe
    && f.parts.all (fun e => (s.band e.1).unitEnd e.2.2 ≤ max e.2.1 (s.band e.1).taken)
    && (let direct := (f.parts.map (fun e => e.2.2 - e.2.1)).sum
        let tails := (f.parts.map (fun e => (s.tailOf e).length)).sum
        f.locs.length ≥ nlb f.c - direct + tails)
    && f.locs.all (fun l => s.posSafe l.2.1 l.2.2)
    && f.parts.all (fun e => s.media.units.all (fun u => u.band ≠ some e.1 || u.restore ≠ 0
        || u.wl * (s.band e.1).rowSize + dataIdx e.1 (s.band e.1).n u.mp * (s.band e.1).step ≥ (s.band e.1).unitEnd e.2.2
        || u.mp = pPos e.1 (s.band e.1).n || u.mp = qPos e.1 (s.band e.1).n || s.unitSafe u.uid))
    && f.parts.all (fun e => !(s.io.flights.any (fun g => g.c.id ≠ f.c.id && g.parts.any (fun d => d.1 = e.1 && d.2.1 < e.2.1))))

/-- Publish a log location unless a newer one stands. -/
def State.putLog (s : State) (nsx lba : Nat) (e : LogEnt) : State :=
  match look s.media.log (nsx, lba) with
  | some old => if old.seq > e.seq then s else { s with media.log := place s.media.log (nsx, lba) e }
  | none => { s with media.log := place s.media.log (nsx, lba) e }

/-- The number of the codeword that a verified unit of a band holds at a position. -/
def Band.seqAt (b : Band) (pos : Nat) : Option Nat :=
  (b.tags.find? (fun t => t.1 = pos ∧ t.2.kind = 0)).map (fun t => fullSeq b.openSeq t.2.seqLo)

/-- Advance the frontier of a direct band, and remove the log entries of the blocks it now covers that are not newer (R152, R153, R180). -/
def State.publishPart (s : State) (x : Ns) (e : Nat × Nat × Nat) : State :=
  let b := s.band e.1
  let f := max b.frontier (b.unitEnd e.2.2)
  let base := b.seg * b.size
  let s := (s.modBand e.1 (fun b => { b with frontier := f })).modSeg x.nsx b.seg (fun g => if g.a = some e.1 then { g with f := f } else g)
  let s : State := { s with media.log := s.media.log.filter (fun l =>
    !(l.1.1 = x.nsx && base + b.frontier ≤ l.1.2 && l.1.2 < base + f && (b.seqAt (l.1.2 - base)).any (fun q => l.2.seq ≤ q))) }
  if f = b.size then s.modBand e.1 (fun b => { b with closing := true, handle := none }) else s

/-- Publish a write in one step (R152, R153, R296). -/
def State.publish (s : State) (f : Flight) : State :=
  match s.ns? f.c.nsid with
  | none => s
  | some x =>
    let s := s.each f.parts (fun s e => s.publishPart x e)
    let s := s.each f.locs (fun s l => s.putLog x.nsx l.1 { band := l.2.1, pos := l.2.2, seq := f.seq })
    let s := s.modNs x.nsx (fun x => { x with dealloc := x.dealloc.filter (fun l => l < slba f.c ∨ slba f.c + nlb f.c ≤ l) })
    let s := s.dropLost x.nsid (slba f.c) (slba f.c + nlb f.c)
    let s := (s.poolCount x.pool (if f.direct then 64 else 72) (4096 * nlb f.c)).modPool x.pool (fun q => { q with hostMeta := q.hostMeta + lbafMeta x.lbaf * nlb f.c })
    s.checkLog x.pool

/-- Whether any of a write's data has been placed. -/
def State.placed (s : State) (f : Flight) : Bool :=
  f.units ≠ [] || s.media.bands.any (fun e => e.2.ahead.any (fun a => a.2.1.tag.kind = 0 && a.2.1.tag.seqLo = f.seq % 2 ^ 48 && f.seq ≠ 0))

/-- End a write without publication (R187): cause as in code 0x060B. -/
def State.voidWrite (s : State) (id : CmdId) (st : Status) (cause : Nat) : State :=
  match s.flight? id with
  | none => s
  | some f =>
    if f.voiding then s
    else if s.placed f = false then s.finish id st
    else match s.ns? f.c.nsid with
      | none => s.finish id st
      | some x =>
        let s := s.modFlight id (fun f => { f with bad := some st, voiding := true })
        let s := s.log 0x060B [id.ctrl, f.seq, cause]
        let s := s.each f.parts (fun s e =>
          let s := s.modBand e.1 (fun b => { b with ahead := b.ahead.filter (fun a => a.2.1.tag.seqLo ≠ f.seq % 2 ^ 48 ∨ a.2.1.tag.kind ≠ 0) })
          if (s.band e.1).taken > e.2.1 then s.closeEarly e.1 else s)
        let s := s.needReg x.pool
        s.record x.pool 6 (0xFFFFFFFF + 2 ^ 32 * 6) [(16, 2, 1), (24, 8, f.seq)] (.voided id f.seq)

/-- Complete a write that is ready. -/
def State.tryWrite (s : State) (id : CmdId) : State :=
  match s.flight? id with
  | none => s
  | some f => if s.writeReady f then (s.publish f).finish id .success else s

/-! ## Placing write data (R115, R120, R148, R156, R157, R180, R283) -/

/-- The encrypted and tagged codeword of a block, and its metadata slot. -/
def writeCw (x : Ns) (f : Flight) (lba : Nat) (data : Block) : Codeword :=
  { tag := { seqLo := f.seq % 2 ^ 48, lba := lba, kind := 0, nsx := x.nsx, cfirst := lba = slba f.c, clast := lba + 1 = slba f.c + nlb f.c }
    data := Config.xts x.key lba data }

/-- Place one block of a write. -/
def State.placeBlock (s : State) (id : CmdId) (x : Ns) (lba : Nat) (data : Block) (slot : BitVec 512) : State :=
  match s.flight? id with
  | none => s
  | some f =>
    let cw := writeCw x f lba data
    let size := s.segSize x
    match f.parts.find? (fun e => (s.band e.1).seg = lba / size ∧ e.2.1 ≤ lba % size ∧ lba % size < e.2.2) with
    | some e =>
      let s := s.putAt e.1 (lba % size) cw slot
      if (s.tailOf e).contains (lba % size) then (s.toLog x.pool cw slot).2 else s
    | none => (s.toLog x.pool cw slot).2

/-- A direct part that can no longer be placed goes to the log: its start was taken meanwhile, or its band closed (R156). -/
def State.resteer (s : State) (id : CmdId) : State :=
  s.modFlight id (fun f =>
    let parts := f.parts.filter (fun e => let b := s.band e.1; e.2.1 ≥ b.taken && !b.closed && !b.closing && !b.copying)
    if parts.length = f.parts.length then f else { f with parts := [], direct := false })

/-- Blocks of a write arrive in order. -/
def State.placeAll (s : State) (id : CmdId) (x : Ns) (l : List (Nat × Block × BitVec 512)) : State :=
  let s := s.each l (fun s e => s.placeBlock id x e.1 e.2.1 e.2.2)
  let s := s.modFlight id (fun f => { f with arrived := f.arrived + l.length })
  match s.flight? id with
  | none => s
  | some f => s.each f.parts (fun s e => s.advance e.1)

/-- A whole Write Zeroes of parts of segments: zero data (R159, R285). -/
def State.placeZeros (s : State) (id : CmdId) : State :=
  match s.flight? id with
  | none => s
  | some f => match s.ns? f.c.nsid with
    | none => s
    | some x => (s.resteer id).placeAll id x ((List.range (nlb f.c)).map (fun k => (slba f.c + k, zeroBlock, onesSlot x)))

/-! ## Releases (R159) -/

/-- Work on one range of a Dataset Management: whole segments get a release record, the rest leaves the log map (R159). -/
def State.workRange (s : State) (id : CmdId) (x : Ns) (lo n : Nat) : State :=
  let size := max 1 (s.segSize x)
  let first := ceilDiv lo size
  let last := if lo + n = x.nsze then s.segCount x else (lo + n) / size
  let s := s.modFlight id (fun f => { f with ranges := f.ranges.map (fun r => if r.1 = lo ∧ r.2.1 = n then (lo, n, 1) else r) })
  let inside := fun (l : Nat) => lo ≤ l && l < lo + n && !(first ≤ l / size && l / size < last)
  let parts := (List.range (min n (first * size - lo))).map (fun k => lo + k) ++ (if last * size < lo + n ∧ first ≤ last then (List.range (lo + n - max lo (last * size))).map (fun k => max lo (last * size) + k) else [])
  let s : State := { s with media.log := s.media.log.filter (fun e => !(e.1.1 = x.nsx && inside e.1.2)) }
  let s := s.modNs x.nsx (fun y => { y with dealloc := (parts ++ y.dealloc).dedup })
  if first < last then s.releaseRec x first (last - first) (some id) else s.rangeDone id lo (lo + n)

/-- The ranges of a Dataset Management whose locks are granted and whose work has not begun. -/
def State.dsmGo (s : State) (id : CmdId) : State :=
  match s.flight? id with
  | none => s
  | some f => match s.ns? f.c.nsid with
    | none => s
    | some x =>
      let ready := f.ranges.filter (fun r => r.2.2 = 0 ∧ s.io.locks.any (fun l => l.id = id ∧ l.lo = r.1 ∧ l.hi = r.1 + r.2.1 ∧ l.granted))
      s.each ready (fun s r => s.workRange id x r.1 r.2.1)

/-- The locks of the ranges that have none yet, in order, while entries last. -/
def State.dsmLocks (s : State) (id : CmdId) : State :=
  match s.flight? id with
  | none => s
  | some f => s.each (f.ranges.filter (fun r => r.2.2 = 0)) (fun s r =>
      if s.io.locks.any (fun l => l.id = id ∧ l.lo = r.1 ∧ l.hi = r.1 + r.2.1) then s
      else if s.lockFor f then s.takeLock (s.newLock id f.c.nsid r.1 (r.1 + r.2.1) true)
      else s)

/-! ## Stages 6 to 8 -/

/-- Stage 8 (R151, R287). -/
def State.stage8 (s : State) (id : CmdId) : State :=
  match s.flight? id with
  | none => s
  | some f =>
    let s := s.modFlight id (fun f => { f with stage := .started })
    if f.op = 2 ∨ f.op = 5 ∨ f.op = 12 then
      let s := s.issueRead id
      { s with io.locks := s.io.locks.filter (fun l => l.id ≠ id) }
    else
    let s := match s.ns? f.c.nsid with | some x => s.useMap id x | none => s
    if f.op = 8 then
      if s.wholeSegs f.c then
        (match s.ns? f.c.nsid with
         | some x =>
           let k := slba f.c / s.segSize x
           s.releaseRec x k (ceilDiv (nlb f.c) (s.segSize x)) (some id)
         | none => s)
      else (s.placeZeros id).settle
    else s

/-- Whether a namespace's blocks come with metadata codewords. -/
def State.metaOf (s : State) (f : Flight) : Bool := (s.ns? f.c.nsid).any Ns.hasMeta

/-- Staging granules a command needs before it is issued (R24, R86, R314): three for each codeword that returns, metadata codewords too; for a write two for each block of its first part, at most 64 blocks (R258, R264); a Write Zeroes has its data at once. -/
def State.stagingNeed (s : State) (f : Flight) : Nat :=
  if f.op = 1 then 2 * min 64 (nlb f.c)
  else if f.op = 8 then 2 * nlb f.c
  else (if s.metaOf f then 6 else 3) * nlb f.c

/-- How many blocks of a write's data the transport lets the controller ask for by now: on NVMe/TCP as many ready-to-transfer PDUs of 64 blocks as the connection allows beyond what has arrived (R24, R258). -/
def State.window (s : State) (f : Flight) : Nat :=
  match s.connOf f.c.id with
  | some x => if x.rdma then nlb f.c else min (nlb f.c) (64 * (f.arrived / 64 + x.maxR2t))
  | none => nlb f.c

/-- Reserve staging for the parts of a write's data, one after the other, and ask for them, as far as staging and the transport allow (R24). -/
def State.askParts (s : State) (id : CmdId) : Nat → State
  | 0 => s
  | fuel + 1 =>
    match s.flight? id with
    | none => s
    | some f =>
      let k := min 64 (nlb f.c - f.asked)
      let have' := f.staged - 2 * (f.asked - f.arrived)
      if f.op ≠ 1 ∨ k = 0 ∨ s.window f < f.asked + k ∨ f.stage ≠ .started then s
      else if f.asked = 0 ∧ 2 * k ≤ have' then (s.modFlight id (fun f => { f with asked := f.asked + k })).askParts id fuel
      else if s.stagingFor f (2 * k) then (s.modFlight id (fun f => { f with asked := f.asked + k, staged := f.staged + 2 * k })).askParts id fuel
      else s

/-- Stage 7 (R24, R86): a write then requests its data part by part, a read is issued. -/
def State.stage7 (s : State) (id : CmdId) : State :=
  match s.flight? id with
  | none => s
  | some f =>
    if f.op = 9 then ((s.modFlight id (fun f => { f with stage := .started })).dsmGo id).dsmLocks id |>.dsmGo id
    else
      let s := s.holdAt id 7
      if s.stagingFor f (s.stagingNeed f) ∧ (s.flight? id).any (fun f => s.firstAt f 7) then
        ((s.modFlight id (fun f => { f with staged := s.stagingNeed f })).stage8 id).askParts id 9
      else s

/-- Stage 6 (R292 to R294). -/
def State.stage6 (s : State) (id : CmdId) : State :=
  match s.flight? id with
  | none => s
  | some f =>
    let lo := slba f.c
    let hi := slba f.c + nlb f.c
    let excl := f.op = 1 || f.op = 8
    if f.op = 9 then
      let s := s.modFlight id (fun g => { g with ranges := if g.ranges.isEmpty then (dsmRanges f.c).map (fun r => (r.1, r.2, 0)) else g.ranges })
      let s := s.dsmLocks id
      if s.io.locks.any (fun l => l.id = id ∧ l.granted) then s.stage7 id else s.holdAt id 6
    else if s.io.locks.any (fun l => l.id = id) then
      let s := s.grantLocks id
      if s.io.locks.any (fun l => l.id = id ∧ l.granted) then s.stage7 id else s.holdAt id 6
    else if s.lockFor f ∧ s.firstAt f 6 then
      let l := s.newLock id f.c.nsid lo hi excl
      let s := s.takeLock l
      if l.granted then s.stage7 id else s.holdAt id 6
    else if excl ∨ f.repeats ≥ 2 ∨ s.exclOver id f.c.nsid lo hi ∨ s.io.watch.length ≥ 4096 then s.holdAt id 6
    else
      let s := s.log 0x0608 [f.tenant, s.locksHeld f.tenant]
      let s : State := { s with io.watch := s.io.watch ++ [id] }
      (s.modFlight id (fun f => { f with fallback := true, hit := false })).stage7 id

/-- Take a command on blocks, or a Flush, as far as it gets. -/
def State.runBlock (s : State) (id : CmdId) : State :=
  match s.toStage6 id with
  | (false, s) => s
  | (true, s) =>
    match s.flight? id with
    | none => s
    | some f =>
      if f.op = 0 then s.finish id .success
      else if f.op = 9 ∧ (dw11 f.c).testBit 2 = false then s.finish id .success
      else s.stage6 id

/-- A command on blocks arrives. -/
def ioCmd (op : Nat) (c : Cmd) (s : State) : Out :=
  if s.accepts c = false then .next s else .next (((s.cmdArrives c).intake op c).runBlock c.id).settleJobs

/-- READ (R287). -/
def execRead (c : Cmd) (s : State) : Out := ioCmd 2 c s
/-- WRITE (R156). -/
def execWrite (c : Cmd) (s : State) : Out := ioCmd 1 c s
/-- FLUSH (R298). -/
def execFlush (c : Cmd) (s : State) : Out := ioCmd 0 c s
/-- COMPARE (R308). -/
def execCompare (c : Cmd) (s : State) : Out := ioCmd 5 c s
/-- VERIFY (R278). -/
def execVerify (c : Cmd) (s : State) : Out := ioCmd 12 c s
/-- WRITE_ZEROES (R159). -/
def execWriteZeroes (c : Cmd) (s : State) : Out := ioCmd 8 c s
/-- DATASET_MANAGEMENT (R159). -/
def execDatasetManagement (c : Cmd) (s : State) : Out := ioCmd 9 c s

/-- STAGING_RESERVED (R24): a command that waits for staging is tried again, and so is the next part of a write's data. -/
def execStagingReserved (id : CmdId) (s : State) : Out :=
  match s.flight? id with
  | none => .next s
  | some f =>
    if f.stage = .held 7 ∧ s.firstAt f 7 then .next (s.stage7 id)
    else .next (s.askParts id 9).sendWaiting

/-- RANGE_LOCK_GRANT (R293, R294). -/
def execRangeLockGrant (id : CmdId) (s : State) : Out :=
  match s.flight? id with
  | none => .next s
  | some f =>
    if f.op = 9 ∧ f.stage = .started then .next (((s.dsmLocks id).grantLocks id).dsmGo id)
    else if f.stage = .held 6 then .next ((s.grantLocks id).stage6 id)
    else .next s

/-- The first block of an arrival that fails its protection check, with its status (R283). -/
def firstBad (x : Ns) (f : Flight) (k0 : Nat) : List (Block × BitVec 512) → Option Status
  | [] => none
  | e :: l => (x.piCheck (piArgs f.c) k0 e.1 e.2).orElse (fun _ => firstBad x f (k0 + 1) l)

/-- The connection whose data digests the controller checks (R258, R260). -/
def State.digestConn (s : State) (id : CmdId) : Option Conn := (s.connOf id).filter (fun x => !x.rdma && x.ddgst)

/-- The blocks of an arrival as they are placed: address, data and metadata slot, the protection information made where PRACT asks for it (R283). -/
def madeBlocks (x : Ns) (f : Flight) (data : List Block) (pi : List (BitVec 512)) : List (Nat × Block × BitVec 512) :=
  (List.range data.length).map (fun k =>
    (slba f.c + f.arrived + k, data.getD k 0,
      if pract f.c ∧ x.piType ≠ 0 then x.piMake (piArgs f.c) (f.arrived + k) (data.getD k 0) (pi.getD k 0) else pi.getD k 0))

/-- WRITE_DATA_ARRIVAL (R24, R260, R283): `first` counts blocks within the command. -/
def execWriteDataArrival (id : CmdId) (first : Nat) (data : List Block) (pi : List (BitVec 512)) (digestOk busOk : Bool) (s : State) : Out :=
  match s.flight? id with
  | none => .next s
  | some f =>
    match s.ns? f.c.nsid with
    | none => .next s
    | some x =>
      if f.op ≠ 1 ∨ f.stage ≠ .started ∨ f.bad.isSome ∨ f.voiding ∨ first ≠ f.arrived ∨ f.arrived + data.length > f.asked then .next s
      else match (if digestOk then none else s.digestConn id) with
      | some k =>
        let s := (s.bump (dwPORT k.port + 0x32C) 1).log 0x0605 [k.port, 1, k.qid]
        .next (s.voidWrite id .transientTransport 2).settle
      | none =>
      if busOk = false then .next (s.voidWrite id .dataTransfer 2).settle
      else
        let l := (List.range data.length).map (fun k => ((data.getD k 0), (pi.getD k 0)))
        match (if pract f.c then none else firstBad x f first l) with
        | some st => .next (s.voidWrite id st 3).settle
        | none =>
          let s := if first = 0 then s.resteer id else s
          .next ((s.placeAll id x (madeBlocks x f data pi)).askParts id 9).settle

/-- WRITE_COMPLETE (R177, R179). -/
def execWriteComplete (id : CmdId) (s : State) : Out :=
  match s.flight? id with
  | none => .next s
  | some f => if f.op = 1 ∨ (f.op = 8 ∧ f.stage ≠ .held 6) then .next (s.tryWrite id).settle else .next s

/-! ## Placement (R160, R161) -/

/-- One descriptor of Reclaim Unit Handle Status (NVMe): handle, and blocks still writable in its unit. -/
def State.ruhEntry (s : State) (x : Ns) (h : Nat) : List Byte :=
  let left := match s.media.bands.find? (fun e => e.2.pool = x.pool ∧ e.2.handle = some h) with
    | some e => e.2.size - e.2.frontier
    | none => s.segSize x
  pageOf 32 [(0, 2, h), (2, 2, h), (8, 8, left)]

/-- Reclaim Unit Handle Status (R160). -/
def State.ioReceive (s : State) (c : Cmd) (x : Ns) : State :=
  if x.flags.testBit 0 = false ∨ dw10 c % 256 ≠ 1 then s.finish c.id .invalidField
  else
    let d := pageOf 16 [(14, 2, x.handles)] ++ (List.range x.handles).flatMap (s.ruhEntry x)
    s.finish c.id .success 0 (d.take (4 * (dw11 c + 1)))

/-- Reclaim Unit Handle Update (R161). -/
def State.ioSend (s : State) (c : Cmd) (x : Ns) : State :=
  let hs := (List.range (dw10 c / 65536 + 1)).map (fun i => leAt c.buf (2 * i) 2)
  if x.flags.testBit 0 = false ∨ dw10 c % 256 ≠ 1 ∨ hs.any (fun h => h ≥ x.handles) then s.finish c.id .invalidField
  else (s.each hs (fun s h => s.dropHandle x.pool h)).finish c.id .success

/-- A placement command past stage 5. -/
def State.runPlacement (s : State) (id : CmdId) : State :=
  match s.toStage6 id with
  | (false, s) => s
  | (true, s) =>
    match s.flight? id with
    | none => s
    | some f => match s.ns? f.c.nsid with
      | none => s
      | some x => if f.op = 0x12 then s.ioReceive f.c x else s.ioSend f.c x

/-- IO_MANAGEMENT_RECEIVE (R160). -/
def execIoManagementReceive (c : Cmd) (s : State) : Out :=
  if s.accepts c = false then .next s else .next (((s.cmdArrives c).intake 0x12 c).runPlacement c.id)
/-- IO_MANAGEMENT_SEND (R161). -/
def execIoManagementSend (c : Cmd) (s : State) : Out :=
  if s.accepts c = false then .next s else .next (((s.cmdArrives c).intake 0x1D c).runPlacement c.id)

/-! ## Draining (R297) -/

/-- Whether a command has passed stage 6. -/
def Flight.begun (f : Flight) : Bool :=
  f.fallback || (match f.stage with | .held n => n ≥ 7 | _ => true)

/-- Drain one started command (R297): cause as in code 0x060B. -/
def State.drainOne (s : State) (id : CmdId) (sqDel : Bool) (cause : Nat) : State :=
  let s := s.modFlight id (fun f => { f with stage := .drained, sqDel := sqDel })
  match s.flight? id with
  | none => s
  | some f =>
    if f.op = 1 ∨ (f.op = 8 ∧ s.wholeSegs f.c = false) then
      if s.writeReady f then (s.publish f).finish id .success else s.voidWrite id .sqDeleted cause
    else if f.op = 8 then s
    else if f.op = 9 then
      let s := s.modFlight id (fun f => { f with ranges := f.ranges.filter (fun r => r.2.2 ≠ 0) })
      (match s.flight? id with
       | some f => if f.ranges.all (fun r => r.2.2 = 2) then s.finish id .success else s
       | none => s)
    else
      let s : State := { s with
        srch.waitBatch := s.srch.waitBatch.filter (fun c => c.id ≠ id)
        srch.scans := s.srch.scans.map (fun x => { x with fetch := x.fetch.filter (fun c => c.id ≠ id) }) }
      s.finish id .success

/-- Squash the unstarted commands and drain the started ones of those that `p` picks; how many were drained. -/
def State.drainWhere (s : State) (p : CmdId → Bool) (sqDel : Bool) (cause : Nat) : Nat × State :=
  let all := s.io.flights.filter (fun f => p f.c.id)
  let todo := (all.filter (fun f => !f.begun)).map (fun f => f.c.id)
  let run := (all.filter (fun f => f.begun && f.stage ≠ .drained)).map (fun f => f.c.id)
  let s := if sqDel then s.each todo (fun s id => s.post id .sqDeleted)
    else { s with
      io.flights := s.io.flights.filter (fun f => !todo.contains f.c.id)
      io.locks := s.io.locks.filter (fun l => !todo.contains l.id) }
  (run.length, (s.each run (fun s id => s.drainOne id sqDel cause)).settle)

end Sys2Proof.Machine
end

