-- ==== Sys2Proof/Machine/Search.lean ====
section
/-! DEFINITION. Key search and pattern scan (R3, R340 to R378). -/

namespace Sys2Proof.Machine

/-! ## Entries, ownership and counters (R340, R341, R346, R347, R376) -/

/-- Entry number: bank and index. -/
def entNo (b i : Nat) : Nat := 16384 * b + i
def tent0 (_ : Nat) : TEnt := {}
def Srch.row (x : Srch) (k : Nat) : TEnt := x.tcam.get tent0 k
def Srch.copy (x : Srch) (k : Nat) : TEnt := x.copies.get tent0 k
/-- Write a TCAM row and its copy together (R349). -/
def State.setEnt (s : State) (k : Nat) (e : TEnt) : State :=
  { s with srch.tcam := s.srch.tcam.put tent0 k e
           srch.copies := s.srch.copies.put tent0 k e
           srch.bad := s.srch.bad.filter (fun j => j ≠ k) }
/-- Write a TCAM row alone (R355, R357, R377). -/
def State.setRow (s : State) (k : Nat) (e : TEnt) : State := { s with srch.tcam := s.srch.tcam.put tent0 k e }

/-- Whether a search key matches an entry (R346). -/
def TEnt.hits (e : TEnt) (k : BitVec 192) : Bool := e.valid && (k &&& e.mask) == e.key

/-- A bank or lane with no owner may be used by tenant 0 (R340). -/
def State.ownsBank (s : State) (t b : Nat) : Bool := s.inf (stBankOwner b) = t
def State.ownsLane (s : State) (t l : Nat) : Bool := s.inf (stLaneOwner l) = t
def State.ownsBanks (s : State) (t mask : Nat) : Bool := (bitsOf mask 16).all (s.ownsBank t)
def State.ownsLanes (s : State) (t mask : Nat) : Bool := (bitsOf mask 64).all (s.ownsLane t)

/-- Count in the bank counters of C5h, by byte offset. -/
def State.bankStat (s : State) (b off k : Nat) : State :=
  { s with srch.stats := s.srch.stats.mod zeroCell (64 * b + off) (fun v => satAdd 64 v k) }

/-- Put a candidate among those in the order of R347; the list below it is in that order, with lower entry numbers first at equal priority. -/
def insHit (h : Nat × TEnt) : List (Nat × TEnt) → List (Nat × TEnt)
  | [] => [h]
  | g :: l => if g.2.prio < h.2.prio ∨ (g.2.prio = h.2.prio ∧ h.1 < g.1) then h :: g :: l else g :: insHit h l

/-- The TCAM's hits in the named banks, in the order of R347. -/
def Srch.rawHits (x : Srch) (banks : Nat) (k : BitVec 192) : List (Nat × TEnt) :=
  (x.tcam.filter (fun e => banks.testBit (e.1 / 16384) && e.2.hits k)).foldl (fun l e => insHit e l) []

/-- Check one hit against its copy (R355): true where it was a false hit or a lost entry. -/
def State.verifyHit (s : State) (t : Nat) (key : BitVec 192) (k : Nat) : Bool × Bool × State :=
  let b := k / 16384
  if s.srch.bad.contains k then
    (false, true, (s.setEnt k {}).log 0x0803 [b, k % 16384, t])
  else if (s.srch.copy k).hits key then (false, false, s)
  else
    let s := ((s.setRow k (s.srch.copy k)).bump (dwSRCH + 8) 1).bankStat b 32 1
    (true, true, s.log 0x0801 [b, k % 16384, t])

/-- A search with every candidate verified (R355, R356): the matches left, and whether a false hit was discarded. -/
def State.search (s : State) (t banks : Nat) (key : BitVec 192) : List (Nat × TEnt) × Bool × State :=
  let s := s.each (bitsOf banks 16) (fun s b => s.bankStat b 8 1)
  let (fh, s) := (s.srch.rawHits banks key).foldl (fun (a : Bool × State) h =>
    let (f, _, s) := a.2.verifyHit t key h.1
    (a.1 || f, s)) (false, s)
  let hs := s.srch.rawHits banks key
  let inBank := fun (b : Nat) => (hs.filter (fun h => h.1 / 16384 = b)).length
  let s := s.each (bitsOf banks 16) (fun s b =>
    let s := if inBank b ≥ 1 then s.bankStat b 16 1 else s
    if inBank b ≥ 2 then s.bankStat b 24 1 else s)
  (hs, fh, s)

/-- `FLAGS` of a response (R351). -/
def respFlags (hs : List (Nat × TEnt)) (noCursor falseHit : Bool) : Nat :=
  let tie := match hs with | h :: l => l.any (fun g => g.2.prio = h.2.prio) | [] => false
  flag (hs.length ≥ 2) 0 + flag tie 1 + flag noCursor 2 + flag falseHit 3 + flag hs.isEmpty 4

/-- Bytes 0 to 15 of a response record (R351); of a key that matched nothing only `NOMATCH` is set (R352). -/
def respShort (hs : List (Nat × TEnt)) (noCursor falseHit : Bool) : List Byte :=
  match hs with
  | [] => pageOf 16 [(11, 1, 16)]
  | h :: _ => pageOf 16 [(0, 8, h.2.result), (8, 2, h.2.prio), (10, 1, h.1 / 16384), (11, 1, respFlags hs noCursor falseHit), (12, 2, h.1 % 16384)]
/-- Bytes 16 to 31 (R351). -/
def respLong (count token : Nat) : List Byte := pageOf 16 [(0, 4, count), (8, 8, token)]

/-! ## Cursors (R353) -/

def State.cursorsOf (s : State) (t : Nat) : Nat := (s.srch.cursors.filter (fun c => c.tenant = t)).length
/-- The lowest free cursor slot, where the tenant may hold one more. -/
def State.freeCursor (s : State) (t : Nat) : Option Nat :=
  if s.cursorsOf t ≥ 256 ∨ s.srch.cursors.length ≥ 16384 then none
  else (List.range (s.srch.cursors.length + 1)).find? (fun k => !(s.srch.cursors.any (fun c => c.token % 16384 = k)))
/-- The token of a new cursor. -/
def tokenOf (slot : Nat) (batch : Bool) (gen : Nat) : Nat := slot + flag batch 14 + 2 ^ 15 * gen
def State.addCursor (s : State) (c : Cursor) : State :=
  { s with srch.cursors := s.srch.cursors ++ [c], srch.gen := s.srch.gen + 1 }
def State.endCursor (s : State) (token : Nat) : State :=
  { s with srch.cursors := s.srch.cursors.filter (fun c => c.token ≠ token) }
/-- A write, or a change of owner, in a bank ends the long cursors over it. -/
def State.endBankCursors (s : State) (b : Nat) : State :=
  { s with srch.cursors := s.srch.cursors.filter (fun c => !(c.batch.isNone && c.banks.testBit b)) }

/-! ## Field checks of the vendor I/O commands (R20, R345, R348, R350, R354, R365, R373) -/

def lookForm (c : Cmd) : Nat := field c.cdw2.toNat 17 16
def lookBanks (c : Cmd) : Nat := c.cdw2.toNat % 65536
/-- The key of Dwords 10 to 15. -/
def lookKey (c : Cmd) : BitVec 192 :=
  BitVec.ofNat 192 (dw10 c + 2 ^ 32 * dw11 c + 2 ^ 64 * dw12 c + 2 ^ 96 * dw13 c + 2 ^ 128 * dw14 c + 2 ^ 160 * dw15 c)
def batchKeys (c : Cmd) : List (BitVec 192) :=
  (List.range (dw10 c)).map (fun i => BitVec.ofNat 192 (leAt c.buf (32 * i) 24))
def scanLanes (c : Cmd) : Nat := dw14 c + 2 ^ 32 * dw15 c

/-- Whether a vendor I/O command's fields are in order. -/
def vendorFields (op : Nat) (c : Cmd) : Bool :=
  c.fuse = 0 && (op = 0x98 || c.nsid = 0) &&
  (match op with
   | 0x90 => field c.cdw2.toNat 31 18 = 0 && lookForm c ≠ 3 && lookBanks c ≠ 0 &&
      (lookForm c ≠ 2 || (1 ≤ dw10 c && dw10 c ≤ 64 && zero11 c
        && (List.range (dw10 c)).all (fun i => leAt c.buf (32 * i + 24) 8 = 0)))
   | 0x91 => zero12 c
   | 0x92 => field (dw10 c) 31 5 = 0 && field (dw11 c) 31 14 = 0 && zeroBytes c.buf 50 55
   | 0x93 => field (dw10 c) 31 4 = 0 && field (dw11 c) 31 14 = 0
   | 0x98 => field (dw13 c) 31 18 = 0 && (dw13 c).testBit 16 = false && dw13 c % 65536 ≠ 0 && scanLanes c ≠ 0
   | 0x99 => field (dw10 c) 31 16 = 0 && field (dw11 c) 31 17 = 0 && dw11 c % 65536 ≠ 0 && zero12 c
   | _ => field (dw10 c) 31 16 = 0)

/-- The present units run a vendor opcode (R3). -/
def Part.runs (p : Part) (op : Nat) : Bool := if op ≤ 0x93 then p.keySearch else p.scan

/-- A vendor I/O command arrives (R286, R287, R345): stages 1 to 3. -/
def State.vendorIntake (s : State) (op : Nat) (c : Cmd) : State :=
  let ok := vendorFields op c
  let c := s.localNs c
  let k := s.ctrl c.id.ctrl
  let enter : State → State := fun s =>
    let f : Flight := { op := op, c := c, tenant := k.tenant, stage := .held 3, ord := s.io.order }
    { s with io.flights := s.io.flights ++ [f], io.order := s.io.order + 1 }
  if k.authReq && !k.authed then s.refuse c .authentication
  else if s.part.runs op = false then s.refuse c .invalidOpcode
  else if ok = false then s.refuse c .invalidField
  else if op = 0x98 then
    match s.ns? c.nsid with
    | none => s.refuse c .invalidNs
    | some x =>
      if s.attachedTo x c.id.ctrl = false then s.refuse c .invalidNs
      else if slba c + (dw12 c + 1) > x.nsze then s.refuse c .lbaRange
      else if (s.pool x.pool).pstate ≠ 2 then s.refuse c .nsNotReady
      else enter s
  else enter s

/-! ## Key Lookup and Key Next (R350 to R356) -/

/-- A short or long lookup. -/
def State.lookup (s : State) (f : Flight) (long : Bool) : State :=
  let c := f.c
  if s.ownsBanks f.tenant (lookBanks c) = false then s.finish c.id (.vendor 0x82)
  else
    let (hs, fh, s) := s.search f.tenant (lookBanks c) (lookKey c)
    match hs with
    | [] => s.finish c.id (.vendor 0x80)
    | h :: _ =>
      let want := long && hs.length ≥ 2
      let slot := s.freeCursor f.tenant
      let (token, s) := match want, slot with
        | true, some k =>
          let t := tokenOf k false s.srch.gen
          (t, s.addCursor { token := t, ctrl := c.id.ctrl, tenant := f.tenant, banks := lookBanks c, key := lookKey c,
                            last := (h.2.prio, h.1 / 16384, h.1 % 16384) })
        | _, _ => (0, s)
      let d := respShort hs (want && slot.isNone) fh ++ (if long then respLong hs.length token else [])
      s.post c.id .success (h.2.result % 2 ^ 32) (h.2.result / 2 ^ 32) d

/-- A batch lookup with a free cursor slot. -/
def State.batchOn (s : State) (f : Flight) (slot : Nat) : State :=
  let c := f.c
  let (rs, s) := (batchKeys c).foldl (fun (a : List (List Byte) × State) k =>
    let (hs, fh, s) := a.2.search f.tenant (lookBanks c) k
    (a.1 ++ [respShort hs false fh], s)) ([], s)
  let t := tokenOf slot true s.srch.gen
  let s := s.addCursor { token := t, ctrl := c.id.ctrl, tenant := f.tenant, batch := some rs }
  s.post c.id .success (t % 2 ^ 32) (t / 2 ^ 32)

/-- A batch lookup: without a free cursor it waits in its queue context (R352). -/
def State.batch (s : State) (f : Flight) : State :=
  let c := f.c
  if s.ownsBanks f.tenant (lookBanks c) = false then s.finish c.id (.vendor 0x82)
  else match s.freeCursor f.tenant with
    | some k => s.batchOn f k
    | none => { s.modFlight c.id (fun f => { f with stage := .started }) with srch.waitBatch := s.srch.waitBatch ++ [c] }

/-- Whether a hit comes strictly after a cursor's position (R354). -/
def afterPos (p : Nat × Nat × Nat) (h : Nat × TEnt) : Bool :=
  h.2.prio < p.1 || (h.2.prio = p.1 && entNo p.2.1 p.2.2 < h.1)

/-- Key Next (R354). -/
def State.keyNext (s : State) (f : Flight) : State :=
  let c := f.c
  let token := dw10 c + 2 ^ 32 * dw11 c
  match s.srch.cursors.find? (fun k => k.token = token ∧ k.tenant = f.tenant) with
  | none => s.finish c.id (.vendor 0x81)
  | some k =>
    match k.batch with
    | some rs =>
      if c.bufLen < 16 * rs.length then s.finish c.id .invalidField
      else (s.endCursor token).post c.id .success 0 0 rs.flatten
    | none =>
      if c.bufLen < 32 then s.finish c.id .invalidField
      else
        let (hs, fh, s) := s.search f.tenant k.banks k.key
        match hs.filter (afterPos k.last) with
        | [] => (s.endCursor token).finish c.id (.vendor 0x80)
        | h :: l =>
          let s : State := { s with srch.cursors := s.srch.cursors.map (fun x =>
            if x.token = token then { x with last := (h.2.prio, h.1 / 16384, h.1 % 16384) } else x) }
          s.post c.id .success (h.2.result % 2 ^ 32) (h.2.result / 2 ^ 32) (respShort (h :: l) false fh ++ respLong l.length token)

/-! ## Key Insert and Key Delete (R348, R349) -/

def entOf (c : Cmd) : TEnt :=
  let m := BitVec.ofNat 192 (leAt c.buf 24 24)
  { valid := true, mask := m, key := BitVec.ofNat 192 (leAt c.buf 0 24) &&& m, prio := leAt c.buf 48 2, result := leAt c.buf 56 8 }

/-- Key Insert. -/
def State.keyInsert (s : State) (f : Flight) : State :=
  let c := f.c
  let b := dw10 c % 16
  let k := entNo b (dw11 c)
  let was := (s.srch.row k).valid
  if s.ownsBank f.tenant b = false then s.finish c.id (.vendor 0x82)
  else if was ∧ (dw10 c).testBit 4 = false then s.finish c.id .invalidField
  else ((s.setEnt k (entOf c)).endBankCursors b).finish c.id .success (flag was 0)

/-- Key Delete. -/
def State.keyDelete (s : State) (f : Flight) : State :=
  let c := f.c
  let b := dw10 c % 16
  let k := entNo b (dw11 c)
  let was := (s.srch.row k).valid
  if s.ownsBank f.tenant b = false then s.finish c.id (.vendor 0x82)
  else ((s.setEnt k {}).endBankCursors b).finish c.id .success (flag was 0)

/-! ## Scans (R365 to R375) -/

def lane1 (_ : Nat) : LaneSt := {}
def State.sl (s : State) (l : Nat) : LaneSt := s.srch.lanes.get lane1 l
def State.modSl (s : State) (l : Nat) (f : LaneSt → LaneSt) : State :=
  { s with srch.lanes := s.srch.lanes.mod lane1 l f }
def abank0 (_ : Nat) : ABank := {}
def State.abank (s : State) (b : Nat) : ABank := s.srch.abanks.get abank0 b
def State.scan? (s : State) (sid : Nat) : Option Scan := s.srch.scans.find? (fun x => x.sid = sid)
def State.modScan (s : State) (sid : Nat) (f : Scan → Scan) : State :=
  { s with srch.scans := s.srch.scans.map (fun x => if x.sid = sid then f x else x) }
/-- Chunks of a scan, and blocks of one (R366). -/
def Scan.chunks (x : Scan) : Nat := ceilDiv x.nlb 256
def Scan.chunkLen (x : Scan) (k : Nat) : Nat := min 256 (x.nlb - 256 * k)
/-- Lanes at work for a scan. -/
def State.lanesOf (s : State) (sid : Nat) : List Nat := (s.srch.lanes.filter (fun e => e.2.scan = some sid)).map (·.1)
/-- A running scan of another tenant or chunk holds a bank (R363, R364). -/
def State.bankRuns (s : State) (b : Nat) : Bool := s.srch.scans.any (fun x => x.st = 0 && x.banks.testBit b)
/-- Lanes give up what they hold of a scan. -/
def State.freeLanes (s : State) (sid : Nat) : State :=
  s.each (s.lanesOf sid) (fun s l => s.modSl l (fun x => { x with scan := none, chunk := 0, held := [] }))

/-- Header and records of a Fetch (R373). -/
def fetchData (x : Scan) (rs : List ScanRec) : List Byte :=
  pageOf 32 [(0, 1, x.st), (1, 1, x.reason), (4, 4, rs.length), (8, 8, x.done), (16, 4, x.buf.length)]
    ++ rs.flatMap (fun r => pageOf 32 [(0, 8, r.end_), (8, 2, r.len), (10, 2, r.pattern), (12, 2, r.prio), (14, 1, r.flags), (15, 1, r.typ), (16, 2, min r.count 65535)])

/-- Answer a Fetch with what there is. -/
def State.answerFetch (s : State) (sid : Nat) (c : Cmd) : State :=
  match s.scan? sid with
  | none => s.finish c.id .invalidField
  | some x =>
    let rs := x.buf.take (dw11 c % 65536)
    let x : Scan := { x with buf := x.buf.drop rs.length, fetch := x.fetch.filter (fun g => g.id ≠ c.id) }
    let s := if x.st ≠ 0 ∧ x.buf.isEmpty then { s with srch.scans := s.srch.scans.filter (fun y => y.sid ≠ sid) }
      else s.modScan sid (fun _ => x)
    s.finish c.id .success rs.length (fetchData x rs)

/-- Answer the Fetches that wait, while there is something to answer. -/
def State.serveFetch (s : State) (sid : Nat) : State :=
  match s.scan? sid with
  | none => s
  | some x => s.each x.fetch (fun s c =>
      match s.scan? sid with
      | none => s.finish c.id .invalidField
      | some y => if y.buf ≠ [] ∨ y.st ≠ 0 then s.answerFetch sid c else s)

/-- A scan stops running (R373, R374, R378). -/
def State.endScan (s : State) (sid st reason : Nat) : State :=
  match s.scan? sid with
  | none => s
  | some x =>
    if x.st ≠ 0 then s
    else
      let s := ((s.freeLanes sid).modScan sid (fun y => { y with st := st, reason := reason })).log 0x0807 [sid, st + 256 * reason, x.produced]
      s.serveFetch sid

/-- A scan whose last chunk is released is done; one with no lane left ends (R373, R375). -/
def State.checkScan (s : State) (sid : Nat) : State :=
  match s.scan? sid with
  | none => s
  | some x =>
    if x.st ≠ 0 ∨ s.lanesOf sid ≠ [] then s
    else if x.nextChunk ≥ x.chunks then s.endScan sid 1 0
    else if (bitsOf x.lanes 64).all (fun l => !s.ownsLane x.tenant l) then s.endScan sid 3 2
    else s

/-- End every running scan of a namespace (R375). -/
def State.endNsScans (s : State) (nsid : Nat) : State :=
  s.each ((s.srch.scans.filter (fun x => x.nsid = nsid ∧ x.st = 0)).map (fun x => x.sid)) (fun s k => s.endScan k 3 1)

/-- Cancel a scan (R374): everything held or unfetched is discarded and the scan is freed; how many records that was. A Fetch that waits is the caller's to answer. -/
def State.cancelScan (s : State) (sid : Nat) : Nat × State :=
  match s.scan? sid with
  | none => (0, s)
  | some x =>
    let n := x.buf.length + ((s.lanesOf sid).map (fun l => (s.sl l).held.length)).sum
    let s := s.freeLanes sid
    let s := s.log 0x0807 [sid, 2, x.produced]
    (n, { s with srch.scans := s.srch.scans.filter (fun y => y.sid ≠ sid) })

/-- Scan Start after stages 1 to 5 (R365). -/
def State.scanStart (s : State) (f : Flight) : State :=
  let c := f.c
  let banks := dw13 c % 65536
  let lanes := scanLanes c
  let mine := (s.srch.scans.filter (fun x => x.tenant = f.tenant ∧ x.st = 0)).length
  let limit := if f.tenant = 0 then 64 else (s.tenant f.tenant).maxScans
  if !(s.ownsBanks f.tenant banks && s.ownsLanes f.tenant lanes) then s.finish c.id (.vendor 0x82)
  else if (bitsOf banks 16).any (fun b => (s.abank b).image = 0 || (s.abank b).image ≠ c.cdw2.toNat) then s.finish c.id (.vendor 0x89)
  else if mine ≥ limit ∨ s.srch.scans.length ≥ 64 ∨ s.srch.scans.any (fun x => x.st = 0 && x.lanes &&& lanes ≠ 0) then
    s.finish c.id (.vendor 0x8A)
  else
    let sid := ((List.range 65).map (fun k => (s.srch.nextScan + k) % 65536)).find? (fun k => (s.scan? k).isNone) |>.getD 0
    let x : Scan := { sid := sid, ctrl := c.id.ctrl, tenant := f.tenant, nsid := c.nsid, image := c.cdw2.toNat, slba := slba c,
                      nlb := dw12 c + 1, all := (dw13 c).testBit 17, banks := banks, lanes := lanes }
    let s : State := { s with srch.scans := s.srch.scans ++ [x], srch.nextScan := (sid + 1) % 65536 }
    s.finish c.id .success sid

/-- Scan Fetch (R373). -/
def State.scanFetch (s : State) (f : Flight) : State :=
  let c := f.c
  let sid := dw10 c % 65536
  match s.scan? sid with
  | none => s.finish c.id .invalidField
  | some x =>
    if x.ctrl ≠ c.id.ctrl then s.finish c.id .invalidField
    else if (dw11 c).testBit 16 ∧ x.buf = [] ∧ x.st = 0 then
      (s.modFlight c.id (fun f => { f with stage := .started })).modScan sid (fun y => { y with fetch := y.fetch ++ [c] })
    else s.answerFetch sid c

/-- Scan Cancel (R374). -/
def State.scanCancel (s : State) (f : Flight) : State :=
  let c := f.c
  let sid := dw10 c % 65536
  match s.scan? sid with
  | none => s.finish c.id .invalidField
  | some x =>
    if x.ctrl ≠ c.id.ctrl then s.finish c.id .invalidField
    else
      let (n, s) := s.cancelScan sid
      let s := s.each x.fetch (fun s g => s.finish g.id .success 0 (fetchData { x with st := 2, reason := 0, buf := [] } []))
      s.finish c.id .success n

/-! ## Running a vendor I/O command -/

/-- Take a vendor I/O command as far as it gets. -/
def State.runVendor (s : State) (id : CmdId) : State :=
  match s.toStage6 id with
  | (false, s) => s
  | (true, s) =>
    match s.flight? id with
    | none => s
    | some f =>
      match f.op with
      | 0x90 => if lookForm f.c = 2 then s.batch f else s.lookup f (lookForm f.c = 1)
      | 0x91 => s.keyNext f
      | 0x92 => s.keyInsert f
      | 0x93 => s.keyDelete f
      | 0x98 => s.scanStart f
      | 0x99 => s.scanFetch f
      | _ => s.scanCancel f

/-- A vendor I/O command arrives. -/
def vendorCmd (op : Nat) (c : Cmd) (s : State) : Out :=
  if s.accepts c = false then .next s else .next (((s.cmdArrives c).vendorIntake op c).runVendor c.id)

/-- A Key Lookup in a given form (R350): the row is the command with that `FORM`. -/
def lookupCmd (form : Nat) (c : Cmd) (s : State) : Out :=
  if lookForm c ≠ form ∧ lookForm c ≠ 3 then .next (if s.accepts c then s.refuse c .invalidField else s)
  else vendorCmd 0x90 c s

/-- KEY_LOOKUP_SHORT (R351). -/
def execKeyLookupShort (c : Cmd) (s : State) : Out := lookupCmd 0 c s
/-- KEY_LOOKUP_LONG (R351). -/
def execKeyLookupLong (c : Cmd) (s : State) : Out := lookupCmd 1 c s
/-- KEY_LOOKUP_BATCH (R352). -/
def execKeyLookupBatch (c : Cmd) (s : State) : Out := lookupCmd 2 c s
/-- KEY_NEXT (R354). -/
def execKeyNext (c : Cmd) (s : State) : Out := vendorCmd 0x91 c s
/-- KEY_INSERT (R348). -/
def execKeyInsert (c : Cmd) (s : State) : Out := vendorCmd 0x92 c s
/-- KEY_DELETE (R348). -/
def execKeyDelete (c : Cmd) (s : State) : Out := vendorCmd 0x93 c s
/-- SCAN_START (R365). -/
def execScanStart (c : Cmd) (s : State) : Out := vendorCmd 0x98 c s
/-- SCAN_FETCH (R373). -/
def execScanFetch (c : Cmd) (s : State) : Out := vendorCmd 0x99 c s
/-- SCAN_CANCEL (R374). -/
def execScanCancel (c : Cmd) (s : State) : Out := vendorCmd 0x9A c s

/-- CURSOR_FREED (R352): the tenant's batch that waited longest proceeds. -/
def execCursorFreed (tenant : Nat) (s : State) : Out :=
  let mine := fun (c : Cmd) => (s.flight? c.id).any (fun f => f.tenant = tenant)
  match s.srch.waitBatch.find? mine, s.freeCursor tenant with
  | some c, some k =>
    (match s.flight? c.id with
     | some f => .next (({ s with srch.waitBatch := s.srch.waitBatch.filter (fun d => d.id ≠ c.id) } : State).batchOn f k)
     | none => .next s)
  | _, _ => .next s

/-- CURSOR_EXPIRY (R353). -/
def execCursorExpiry (token : Nat) (s : State) : Out := .next (s.endCursor token)

/-- Scrub one row: a lost copy loses the entry (R355), a differing row is rewritten (R357). -/
def State.scrubRow (s : State) (k : Nat) : State :=
  let b := k / 16384
  if s.srch.bad.contains k then (s.setEnt k {}).log 0x0803 [b, k % 16384, s.inf (stBankOwner b)]
  else if s.srch.row k = s.srch.copy k then s
  else (((s.setRow k (s.srch.copy k)).bump (dwSRCH + 0xC) 1).bankStat b 40 1).log 0x0802 [b, k % 16384]

/-- TCAM_SCRUB (R357): one pass over a bank that holds valid entries. -/
def execTcamScrub (bank : Nat) (s : State) : Out :=
  if bank ≥ 16 then .fault (.noSuchInstance bank)
  else if s.part.keySearch = false ∨ s.pwr.phase ≠ .run then .next s
  else
    let keys := ((s.srch.tcam.map (·.1)) ++ (s.srch.copies.map (·.1))).dedup.filter (fun k => k / 16384 = bank)
    .next (s.each keys State.scrubRow)

/-- TCAM_INJ (R377): in service mode a write with `ARM` flips one key bit of the TCAM row, and `ARM` clears. -/
def execTcamInj (p : Path) (v : Word) (s : State) : Out :=
  let off := dwSRCH + 0x18
  winWrite p off s (fun s =>
    if s.pwr.mode ≠ 1 then s
    else
      let w := v.toNat &&& rwMask off
      if w.testBit 31 = false then s.setReg off w
      else
        let k := entNo (field w 29 26) (field w 25 12)
        let bit := field w 7 0
        let e := s.srch.row k
        let s := s.setReg off (clearBit w 31)
        if bit < 192 then s.setRow k { e with key := e.key ^^^ BitVec.ofNat 192 (2 ^ bit) } else s)

/-! ## Automata images (R361 to R364) -/

/-- The byte at an offset of an image being assembled: later pieces overwrite earlier ones (R362). -/
def LoadBuf.byte? (l : LoadBuf) (i : Nat) : Option Byte :=
  l.pieces.findSome? (fun p => if p.1 ≤ i then p.2[i - p.1]? else none)
/-- A stretch of an image, where all of it has arrived. -/
def LoadBuf.bytes (l : LoadBuf) (lo n : Nat) : Option (List Byte) := (List.range n).mapM (fun i => l.byte? (lo + i))
def load0 (_ : Nat) : LoadBuf := {}
def State.load (s : State) (t : Nat) : LoadBuf := s.srch.loads.get load0 t

/-- Section k of a header: offset, length, patterns, CRC (R361). -/
def secOf (h : List Byte) (k : Nat) : Nat × Nat × Nat × Nat :=
  (leAt h (32 + 16 * k) 4, leAt h (36 + 16 * k) 4, leAt h (40 + 16 * k) 4, leAt h (44 + 16 * k) 4)
/-- The header's own fields. -/
def imgHeadOk (h : List Byte) (image : Nat) : Bool :=
  leAt h 0 4 = 0x4854534F && leAt h 4 2 = 1 && 1 ≤ leAt h 6 1 && leAt h 6 1 ≤ 16 && leAt h 7 1 = 1
    && leAt h 8 4 ≠ 0 && leAt h 8 4 = image && 1 ≤ leAt h 12 4 && leAt h 12 4 ≤ 65536
    && 1 ≤ leAt h 16 2 && leAt h 16 2 ≤ 4096 && zeroBytes h 18 31 && zeroBytes h 288 507
    && leAt h 508 4 = crc32c (h.take 508)
    && (List.range (leAt h 6 1)).all (fun k => (secOf h k).1 % 4096 = 0 && (secOf h k).2.1 ≤ 1048576)
    && ((List.range (leAt h 6 1)).map (fun k => (secOf h k).2.2.1)).sum = leAt h 12 4
/-- The pattern table of a section: id, priority, span. -/
def patsOf (sec : List Byte) (n : Nat) : List (Nat × Nat × Nat) :=
  (List.range n).map (fun i => (leAt sec (12 * i) 2, leAt sec (12 * i + 2) 2, leAt sec (12 * i + 4) 2))

/-- Check 3 of R363: the sections with their patterns, where the image is whole and right. -/
def LoadBuf.checked (l : LoadBuf) (image : Nat) (structOk : Bool) : Option (List ABank) :=
  match l.bytes 0 512 with
  | none => none
  | some h =>
    if imgHeadOk h image = false ∨ structOk = false then none
    else
      match (List.range (leAt h 6 1)).mapM (fun k =>
        match l.bytes (secOf h k).1 (secOf h k).2.1 with
        | none => none
        | some b => if crc32c b = (secOf h k).2.2.2 then some { image := image, pats := patsOf b (secOf h k).2.2.1, bytes := b : ABank } else none) with
      | none => none
      | some bs =>
        let ps := bs.flatMap (fun b => b.pats)
        if (ps.map (·.1)).Nodup ∧ ps.all (fun p => 1 ≤ p.2.2 && p.2.2 ≤ 4096 && p.2.2 ≤ leAt h 16 2) then some bs else none

/-- Stages 1 and 2 of a pattern image command (R3, R345), then its body. -/
def imageCmd (c : Cmd) (ok : Bool) (s : State) (f : Nat → State → State) : Out :=
  adminOf s.part.scan false c s (fun s => s.check c (c.nsid = 0 && ok) (f (s.ctrl c.id.ctrl).tenant))

/-- The fields of Pattern Image Load (R362). -/
def loadFields (c : Cmd) : Bool :=
  1 ≤ dw10 c && dw10 c ≤ 524288 && dw11 c % 4096 = 0 && field (dw12 c) 31 17 = 0 && dw11 c + 4 * dw10 c ≤ 17825792

/-- Store a piece in the tenant's load buffer (R362). -/
def State.storePiece (s : State) (t : Nat) (c : Cmd) : State :=
  { s with srch.loads := s.srch.loads.mod load0 t (fun l =>
      { image := dw13 c, ctrl := c.id.ctrl,
        pieces := (dw11 c, c.buf.take (4 * dw10 c)) :: (if l.image = dw13 c then l.pieces else []) }) }

/-- PATTERN_IMAGE_LOAD (R362). -/
def execPatternImageLoad (c : Cmd) (s : State) : Out :=
  imageCmd c (loadFields c && (dw12 c).testBit 16 = false && dw12 c % 65536 = 0) s (fun t s => (s.storePiece t c).post c.id .success)

/-- PATTERN_IMAGE_LOAD_FINAL (R363). -/
def execPatternImageLoadFinal (c : Cmd) (structOk : Bool) (s : State) : Out :=
  imageCmd c (loadFields c && (dw12 c).testBit 16) s (fun t s =>
    let s := s.storePiece t c
    let mask := dw12 c % 65536
    let banks := bitsOf mask 16
    let l := s.load t
    let count := ((l.bytes 0 512).map (fun h => leAt h 6 1)).getD banks.length
    if s.ownsBanks t mask = false then s.refuse c (.vendor 0x82)
    else if banks.length ≠ count ∨ banks.any (fun b => ((s.abank b).image ≠ 0 && (s.abank b).image ≠ dw13 c) || s.bankRuns b) then
      s.refuse c .invalidField
    else match l.checked (dw13 c) structOk with
      | none => s.refuse c (.vendor 0x89)
      | some bs =>
        let s := s.each (banks.zip bs) (fun s (e : Nat × ABank) => { s with srch.abanks := s.srch.abanks.put abank0 e.1 e.2 })
        let s : State := { s with srch.loads := s.srch.loads.put load0 t {} }
        (s.log 0x0804 [t, dw13 c, mask]).post c.id .success)

/-- PATTERN_IMAGE_UNLOAD (R364). -/
def execPatternImageUnload (c : Cmd) (s : State) : Out :=
  let mask := dw10 c % 65536
  imageCmd c (field (dw10 c) 31 16 = 0 && zero11 c && mask ≠ 0) s (fun t s =>
    if s.ownsBanks t mask = false then s.refuse c (.vendor 0x82)
    else if (bitsOf mask 16).any s.bankRuns then s.refuse c .invalidField
    else
      let s := s.each (bitsOf mask 16) (fun s b => { s with srch.abanks := s.srch.abanks.put abank0 b {} })
      (s.log 0x0805 [t, mask]).post c.id .success)

/-! ## Lanes (R366 to R370) -/

/-- A verified candidate: pattern, priority, end offset, length. -/
structure Match where
  pattern : Nat
  prio : Nat
  endOff : Nat
  len : Nat
  deriving DecidableEq, Repr

/-- Put a match in the order of R369 and R370: ascending end offset, then priority descending, then pattern ascending. -/
def insMatch (m : Match) : List Match → List Match
  | [] => [m]
  | n :: l =>
    if m.endOff < n.endOff ∨ (m.endOff = n.endOff ∧ (n.prio < m.prio ∨ (m.prio = n.prio ∧ m.pattern < n.pattern))) then m :: n :: l
    else n :: insMatch m l

/-- The records of one end offset, its matches in order (R369, R372). -/
def recsAt (all : Bool) (ms : List Match) : List ScanRec :=
  match ms with
  | [] => []
  | m :: l =>
    let mk := fun (x : Match) (fl : Nat) => ({ end_ := x.endOff, len := x.len, pattern := x.pattern, prio := x.prio, flags := fl, typ := 0, count := ms.length } : ScanRec)
    let fl := flag (!l.isEmpty) 0 + flag (l.any (fun x => x.prio = m.prio)) 1
    if all then mk m fl :: l.map (fun x => mk x (fl + 4)) else [mk m fl]

/-- Byte offset at which a record stands in ascending order: a gap at its block's first byte. -/
def ScanRec.pos (r : ScanRec) : Nat := if r.typ = 0 then r.end_ else 4096 * r.end_
/-- Put a gap record among match records in ascending offset. -/
def insGap (g : ScanRec) : List ScanRec → List ScanRec
  | [] => [g]
  | r :: l => if g.pos ≤ r.pos then g :: r :: l else r :: insGap g l

/-- The records of a chunk (R366 to R370). -/
def chunkRecs (all : Bool) (lo n : Nat) (cands : List Candidate) (unreadable guardBad : List Nat) : List ScanRec :=
  let ms := cands.filterMap (fun c => match c.len with
    | some k => if 4096 * lo ≤ c.endOff ∧ c.endOff < 4096 * (lo + n) ∧ 1 ≤ k ∧ k ≤ 4096 then some (⟨c.pattern, c.prio, c.endOff, k⟩ : Match) else none
    | none => none)
  let ms := ms.foldl (fun l m => insMatch m l) []
  let recs := ((ms.map (fun m => m.endOff)).dedup).flatMap (fun e => recsAt all (ms.filter (fun m => m.endOff = e)))
  let inside := fun (l : List Nat) => l.filter (fun b => lo ≤ b ∧ b < lo + n)
  let gap := fun (t b : Nat) => ({ end_ := b, len := 0, pattern := 0, prio := 0, flags := 0, typ := t, count := 0 } : ScanRec)
  let gs := (inside unreadable).map (gap 1) ++ ((inside guardBad).filter (fun b => !unreadable.contains b)).map (gap 2)
  gs.foldl (fun l g => insGap g l) recs

/-- A lane's next piece of work: the scan whose lane it is, still owned, with a chunk left (R366, R375). -/
def State.laneScan (s : State) (l : Nat) : Option Scan :=
  s.srch.scans.find? (fun x => x.st = 0 && x.lanes.testBit l && s.ownsLane x.tenant l && decide (x.nextChunk < x.chunks))

/-- A shared range lock over the lookback and the chunk is free at once (R292, R366). -/
def State.chunkFree (s : State) (x : Scan) (lo hi : Nat) : Bool :=
  !(s.io.locks.any (fun l => l.nsid = x.nsid && l.excl && l.lo < hi && lo < l.hi))

/-- SCAN_CHUNK (R366 to R370): `cands` are what the automaton raises and the verifier makes of it, `ecc` the automata banks with an error, true where uncorrectable. -/
def execScanChunk (lane : Nat) (cands : List Candidate) (unreadable guardBad : List Nat) (ecc : List (Nat × Bool)) (s : State) : Out :=
  if lane ≥ 64 then .fault (.noSuchInstance lane)
  else if s.coreOn = false ∨ (s.sl lane).scan.isSome then .next s
  else match s.laneScan lane with
  | none => .next s
  | some x =>
    let k := x.nextChunk
    let lo := x.slba + 256 * k
    let n := x.chunkLen k
    let back := if k = 0 then 0 else 1
    if s.chunkFree x (lo - back) (lo + n) = false then .next s
    else
      let s := s.each (ecc.filter (fun e => e.1 < 16 && x.banks.testBit e.1)) (fun s e =>
        if e.2 then ((s.bump (dwSRCH + 0x14) 1).bankStat e.1 56 1).log 0x0806 [e.1, lane, x.sid]
        else (s.bump (dwSRCH + 0x10) 1).bankStat e.1 48 1)
      let s := s.each ((guardBad.filter (fun b => lo ≤ b ∧ b < lo + n))) (fun s b =>
        let bandNo := match s.ns? x.nsid with | some y => ((s.resolve y b).map (·.1)).getD 0 | none => 0
        s.log 0x0607 [x.nsid, b, bandNo])
      let s := s.modSl lane (fun y => { y with
        scan := some x.sid, chunk := k, held := chunkRecs x.all lo n cands unreadable guardBad,
        bytes := satAdd 64 y.bytes (4096 * (n + back)), cands := satAdd 64 y.cands cands.length,
        verified := satAdd 64 y.verified (cands.filter (fun c => c.len.isSome)).length })
      .next (s.modScan x.sid (fun y => { y with nextChunk := k + 1 }))

/-- Records that the next release point moves (R370). -/
def LaneSt.due (y : LaneSt) : List ScanRec := y.held.take 4096
/-- A lane that waits because its release would overflow the result buffer (R370). -/
def State.lanePaused (s : State) (l : Nat) : Bool :=
  match (s.sl l).scan with
  | none => false
  | some k => (s.scan? k).any (fun x => x.buf.length + (s.sl l).due.length > 65536)

/-- SCAN_RELEASE (R370). -/
def execScanRelease (lane : Nat) (s : State) : Out :=
  if lane ≥ 64 then .fault (.noSuchInstance lane)
  else match (s.sl lane).scan with
  | none => .next s
  | some sid =>
    match s.scan? sid with
    | none => .next s
    | some _ =>
      if s.lanePaused lane then .next s
      else
        let y := s.sl lane
        let rest := y.held.drop 4096
        let s := s.modScan sid (fun x => { x with buf := x.buf ++ y.due, produced := x.produced + y.due.length,
                                                  done := x.done + (if rest.isEmpty then x.chunkLen y.chunk else 0) })
        let s := s.modSl lane (fun y => if rest.isEmpty then { y with scan := none, chunk := 0, held := [] } else { y with held := rest })
        .next ((s.checkScan sid).serveFetch sid)

/-- SCAN_FETCH_WAIT_EXPIRY (R373). -/
def execScanFetchWaitExpiry (id : CmdId) (s : State) : Out :=
  match s.srch.scans.find? (fun x => x.fetch.any (fun c => c.id = id)) with
  | none => .next s
  | some x => match x.fetch.find? (fun c => c.id = id) with
    | some c => .next (s.answerFetch x.sid c)
    | none => .next s

/-- SCAN_EXPIRY (R373): 60 s without a Fetch after the scan's end. -/
def execScanExpiry (scan : Nat) (s : State) : Out :=
  match s.scan? scan with
  | none => .next s
  | some x => if x.st = 0 then .next s else .next { s with srch.scans := s.srch.scans.filter (fun y => y.sid ≠ scan) }

/-- The search side of a controller's drain (R297, R353, R362, R375): cursors freed, scans cancelled, its load discarded; batches and Fetches that wait are drained as commands. -/
def State.drainSearch (s : State) (p : Nat → Bool) : State :=
  let s : State := { s with
    srch.cursors := s.srch.cursors.filter (fun c => !p c.ctrl)
    srch.loads := s.srch.loads.filter (fun e => !p e.2.ctrl) }
  s.each ((s.srch.scans.filter (fun x => p x.ctrl)).map (fun x => x.sid)) (fun s k => (s.cancelScan k).2)

/-- Clear the `SRCH` domain (R342). -/
def State.clearSrch (s : State) : State :=
  { s with srch := { cursors := [], gen := s.srch.gen, nextScan := s.srch.nextScan, stats := s.srch.stats } }

/-- Valid entries of a bank. -/
def State.validIn (s : State) (b : Nat) : Nat := (s.srch.tcam.filter (fun e => e.1 / 16384 = b ∧ e.2.valid)).length

/-- The statistics that a controller may see: those of its own banks and lanes, for the Manager of all (R7, R376). -/
def State.searchPage (s : State) (ctrl : Nat) : List Byte :=
  let t := (s.ctrl ctrl).tenant
  let all := s.isManager ctrl
  let bank := fun (b : Nat) =>
    if s.part.keySearch && (all || s.ownsBank t b) then
      let o := 64 + 64 * b
      [(o, 2, s.inf (stBankOwner b)), (o + 2, 2, s.validIn b), (o + 4, 4, (s.abank b).image)]
        ++ [8, 16, 24, 32, 40, 48, 56].map (fun k => (o + k, 8, s.srch.stats.get zeroCell (64 * b + k)))
    else []
  let lane := fun (l : Nat) =>
    if s.part.scan && (all || s.ownsLane t l) then
      let o := 1088 + 32 * l
      let y := s.sl l
      [(o, 8, y.bytes), (o + 8, 8, y.cands), (o + 16, 8, y.verified), (o + 24, 2, y.scan.getD 0),
       (o + 26, 1, if y.scan.isNone then 0 else if s.lanePaused l then 2 else 1)]
    else []
  pageOf 4096 ([(0, 2, 1), (2, 1, flag s.part.keySearch 0 + flag s.part.scan 1),
    (8, 4, if s.part.keySearch then s.cursorsOf t else 0)]
    ++ (List.range 16).flatMap bank ++ (List.range 64).flatMap lane)

/-- SEARCH_STATISTICS (R7, R376). -/
def execSearchStatistics (c : Cmd) (s : State) : Out := adminCmd false c s (fun s => s.page c (s.searchPage c.id.ctrl))

end Sys2Proof.Machine
end

