-- ==== Sys2Proof/Machine/Flash.lean ====
section
/-! DEFINITION. Embedded flash: the keyed sequence, the checks, the engine and the reads (R402 to R421). -/

namespace Sys2Proof.Machine

/-- `FL_STAT` bit numbers (R421). -/
def flDONE : Nat := 3
def flBANK : Nat := 4
def flDOUBLE : Nat := 5
def flNOTERASED : Nat := 6
def flADDR : Nat := 7
def flPROT : Nat := 8
def flSEQ : Nat := 9
def flOWNER : Nat := 10
def flBUSY : Nat := 11
def flVERIFY : Nat := 12
def flCORR : Nat := 13
def flUNCORR : Nat := 14

/-- An issuer's code in `FL_STAT.OWNER` (R421). -/
def issCode : Issuer → Nat
  | .core _ => 1
  | .cluster k => 2 + k
  | .path .bar2 => 6
  | .path .d0h => 7
  | .path .mi => 8

/-- The state in which an issuer's `EFL` write acts: a core fetches from the bank it names (R404, R414). -/
def State.fetching (s : State) : Issuer → State
  | .core b => { s with efl.fetchBank := b }
  | _ => s

/-- Carry out an `EFL` write of an issuer: a path goes through the window, a core needs `CTL` on. -/
def eflWrite (i : Issuer) (off : Nat) (s : State) (f : State → State) : Out :=
  match i with
  | .path p => winWrite p (dwEFL + off) s f
  | .core b => if s.ctlOn then .next (f (s.fetching (.core b))) else .next s
  | .cluster _ => if s.coreOn then .next (f s) else .next s

def State.flErr (s : State) (bit : Nat) : State := s.raise (dwEFL + 0x30) (2 ^ bit)
/-- The lock re-engages (R412). -/
def State.relock (s : State) : State := { s with efl.seqStep := 0, efl.owner := 0 }
def State.seqErr (s : State) : State := s.relock.flErr flSEQ

/-- The bank of a flash address (R402). -/
def flBank (a : Nat) : Nat := if a < 0xC00000 then 0 else if a < 0x1800000 then 1 else 2
def flSector (a : Nat) : Nat := a / 65536
/-- Whether firmware runs to write codes of R422. -/
def State.fwLog (s : State) (code : Nat) (ps : List Nat) : State :=
  if s.pwr.phase = .run then s.log code ps else s

/-- The checks of R414, in order: the error bit of the first that fails. -/
def State.flCheck (s : State) (op a : Nat) (iss : Issuer) : Option Nat :=
  let mis : Bool := match op with
    | 1 => a % 32 != 0
    | 4 => a % 1024 != 0
    | 3 => a != 0 && a != 0xC00000
    | _ => a % 65536 != 0
  if op = 3 ∧ a ≥ 0x1800000 then some flPROT
  else if mis then some flADDR
  else if flSector a = 480 then some flPROT
  else if (match iss with | .core _ => s.efl.fetchBank == flBank a | _ => false) then some flBANK
  else if op = 1 ∧ s.efl.eflags.contains (flSector a) then some flNOTERASED
  else if op = 1 ∧ (s.fword (a / 32)).written then some flDOUBLE
  else if op = 1 ∧ (s.fword (a / 32)).torn then some flNOTERASED
  else none

/-- The erase flags an operation sets before its first pulse (R417). -/
def eraseSectors (op a : Nat) : List Nat :=
  if op = 2 then [flSector a]
  else if op = 3 then (List.range 192).map (fun i => flSector a + i) else []

/-- The starting write (R414, R416): the operation starts, or is refused. -/
def State.flStart (s : State) (op a : Nat) (data : BitVec 256) (iss : Issuer) : State :=
  match s.flCheck op a iss with
  | some bit =>
    ({ s.relock.flErr bit with efl.errAddr := a }).fwLog 0x0205 [flSector a, bit, issCode iss]
  | none =>
    { s.relock with
      efl.busy := some { op := op, addr := a, data := data, owner := issCode iss }
      efl.opBank := flBank a, efl.lastOp := op
      efl.eflags := s.efl.eflags ++ (eraseSectors op a).filter (fun k => !s.efl.eflags.contains k) }

/-- A write of an issuer that does not own the open sequence is discarded (R413). -/
def State.ownedWrite (s : State) (i : Issuer) (f : State → State) : State :=
  if s.efl.seqStep ≠ 0 ∧ s.efl.owner ≠ issCode i then s.flErr flOWNER else f s

/-- A write to `FL_KEY` (R410, R412). -/
def State.flKey (s : State) (i : Issuer) (v : Nat) : State :=
  s.ownedWrite i (fun s =>
    if s.efl.busy.isSome then s.flErr flBUSY
    else if s.efl.seqStep = 0 ∧ v = 0x4B1D then { s with efl.seqStep := 1, efl.owner := issCode i }
    else if s.efl.seqStep = 1 ∧ v = 0xB4E2 then { s with efl.seqStep := 2 }
    else s.seqErr)

/-- A write to `FL_CMD` (R411, R412). -/
def State.flCmd (s : State) (i : Issuer) (v : Nat) : State :=
  s.ownedWrite i (fun s =>
    let op := v % 256
    if s.efl.seqStep = 2 ∧ 1 ≤ op ∧ op ≤ 5 then { s with efl.seqStep := 3, efl.op := op } else s.seqErr)

/-- A write to `FL_ADDR`: the next step of PROGRAM, the starting write of the other opcodes. -/
def State.flAddr (s : State) (i : Issuer) (v : Nat) : State :=
  s.ownedWrite i (fun s =>
    let a := v % 2 ^ 25
    if s.efl.seqStep ≠ 3 then s.seqErr
    else if s.efl.op = 1 then { s with efl.seqStep := 4, efl.addr := a, efl.data := [] }
    else s.flStart s.efl.op a 0 i)

/-- A write to `FL_DATA`n; `FL_DATA7` starts PROGRAM. -/
def State.flData (s : State) (i : Issuer) (n v : Nat) : State :=
  s.ownedWrite i (fun s =>
    if s.efl.seqStep ≠ 4 + n then s.seqErr
    else
      let d := s.efl.data ++ [v]
      if n < 7 then { s with efl.seqStep := 5 + n, efl.data := d }
      else s.flStart 1 s.efl.addr (BitVec.ofNat 256 (d.foldr (fun x a => x + 2 ^ 32 * a) 0)) i)

/-- FL_KEY. -/
def execFlKey (i : Issuer) (v : Word) (s : State) : Out := eflWrite i 0x00 s (fun s => s.flKey i v.toNat)
/-- FL_CMD. -/
def execFlCmd (i : Issuer) (v : Word) (s : State) : Out := eflWrite i 0x04 s (fun s => s.flCmd i v.toNat)
/-- FL_SEQUENCE_STEP: a write to `FL_ADDR` (0x08) or `FL_DATA`n (0x10 + 4n). -/
def execFlSequenceStep (i : Issuer) (off : Nat) (v : Word) (s : State) : Out :=
  if off = 0x08 then eflWrite i off s (fun s => s.flAddr i v.toNat)
  else if 0x10 ≤ off ∧ off < 0x30 ∧ off % 4 = 0 then
    eflWrite i off s (fun s => s.flData i ((off - 0x10) / 4) v.toNat)
  else .next s
/-- FL_SEQUENCE_LATE (R412). -/
def execFlSequenceLate (s : State) : Out := if s.efl.seqStep = 0 then .next s else .next s.seqErr
/-- PROGRAM: the `FL_DATA7` write (R414). -/
def execProgram (i : Issuer) (v : Word) (s : State) : Out := eflWrite i 0x2C s (fun s => s.flData i 7 v.toNat)
/-- ERASE_SECTOR: the `FL_ADDR` write of its sequence (R417). -/
def execEraseSector (i : Issuer) (v : Word) (s : State) : Out := eflWrite i 0x08 s (fun s => s.flAddr i v.toNat)
/-- ERASE_BANK: the `FL_ADDR` write of its sequence (R417). -/
def execEraseBank (i : Issuer) (v : Word) (s : State) : Out := eflWrite i 0x08 s (fun s => s.flAddr i v.toNat)
/-- READ_MARKERS: the `FL_ADDR` write of its sequence (R411). -/
def execReadMarkers (i : Issuer) (v : Word) (s : State) : Out := eflWrite i 0x08 s (fun s => s.flAddr i v.toNat)
/-- CLEAR_ERASE_FLAG: the `FL_ADDR` write of its sequence (R418). -/
def execClearEraseFlag (i : Issuer) (v : Word) (s : State) : Out := eflWrite i 0x08 s (fun s => s.flAddr i v.toNat)

/-- Load `FL_RD_DATA` (R407, R408, R421). -/
def State.flLoad (s : State) (e : EccOutcome) : State :=
  let w := s.fword (s.efl.rdAddr / 32)
  let a := s.efl.rdAddr
  let s := { s with efl.rdValid := true, efl.rdWait := none }
  if w.written = false then { s with efl.rdData := BitVec.allOnes 256 }
  else match e with
  | .clean => { s with efl.rdData := w.data }
  | .corrected =>
    ({ (s.bump (dwEFL + 0xC4) 1).flErr flCORR with efl.rdData := w.data }).fwLog 0x0202 [flSector a, a]
  | .uncorrectable =>
    let s := (s.bump (dwEFL + 0xC8) 1).flErr flUNCORR
    ({ s.took with efl.rdData := BitVec.ofNat 256 s.freeVal, efl.errAddr := a }).fwLog 0x0203 [flSector a, a, 0]

/-- A write to `FL_RD_ADDR`: the read waits while its bank is busy (R405). -/
def State.flRead (s : State) (v : Nat) (e : EccOutcome) : State :=
  let a := v % 2 ^ 25 / 32 * 32
  let s := { s with efl.rdAddr := a, efl.rdValid := false, efl.rdWait := none }
  if s.efl.busy.any (fun o => flBank o.addr = flBank a) then { s with efl.rdWait := some e }
  else s.flLoad e

/-- FLASH_READ (R421). -/
def execFlashRead (p : Path) (v : Word) (ecc : EccOutcome) (s : State) : Out :=
  winWrite p (dwEFL + 0x40) s (fun s => s.flRead v.toNat ecc)

/-- Words `lo` to `hi - 1` in any mix of states: what an interrupted or unverified erase leaves (R409). -/
def State.eraseMix (s : State) (lo hi : Nat) : State :=
  let n := s.free
  let mixed := s.efl.words.every fword0 (fun a w =>
    if a < lo ∨ hi ≤ a then w
    else match Config.freeNat (n + (a - lo)) % 3 with
      | 0 => {}
      | 1 => { written := false, torn := true, data := w.data }
      | _ => w)
  { s with efl.words := mixed, free := n + (hi - lo) }

/-- An erase that fails verify: at least one of its sectors, which ones the spec leaves open, keeps its flag and any mix of states; the others are erased (R416, R417). -/
def State.eraseFails (s : State) (secs : List Nat) : State :=
  let n := s.free
  let pick := Config.freeNat n % secs.length
  let fails := (List.range secs.length).filter (fun i => i = pick || Config.freeNat (n + 1 + i) % 2 = 1)
  ({ s with free := n + 1 + secs.length } : State).each (List.range secs.length) (fun s i =>
    let sec := secs.getD i 0
    if fails.contains i then s.eraseMix (2048 * sec) (2048 * sec + 2048)
    else { s.eraseWords (2048 * sec) (2048 * sec + 2048) with efl.eflags := s.efl.eflags.filter (fun k => k ≠ sec) })

def State.clearFlags (s : State) (l : List Nat) : State :=
  { s with efl.eflags := s.efl.eflags.filter (fun k => !l.contains k) }

/-- Whether every word of a sector is erased (R418). -/
def State.blank (s : State) (sec : Nat) : Bool :=
  !(s.efl.words.any (fun e => e.1 / 2048 = sec ∧ (e.2.written ∨ e.2.torn)))

/-- FLASH_OP_DONE (R416 to R418). -/
def State.flDone (s : State) (verified : Bool) : State :=
  match s.efl.busy with
  | none => s
  | some o =>
    let s := { s with efl.busy := none }
    let bad := fun (s : State) => ({ s.flErr flVERIFY with efl.errAddr := o.addr }).fwLog 0x0204 [flSector o.addr, o.op, o.addr]
    let secs := eraseSectors o.op o.addr
    let s := match o.op with
      | 1 =>
        if verified then (s.setFword (o.addr / 32) { written := true, data := o.data }).flErr flDONE
        else bad ((s.setFword (o.addr / 32) { torn := true, data := o.data }).flErr flDONE)
      | 4 =>
        let w := fun i => s.fword (o.addr / 32 + i)
        ({ s with
          efl.markSet := ((List.range 32).map (fun i => flag (w i).written i)).sum
          efl.markTorn := ((List.range 32).map (fun i => flag (w i).torn i)).sum }).flErr flDONE
      | 5 =>
        if s.blank (flSector o.addr) then (s.clearFlags [flSector o.addr]).flErr flDONE
        else ({ s.flErr flNOTERASED with efl.errAddr := o.addr }).fwLog 0x0205 [flSector o.addr, flNOTERASED, o.owner]
      | _ =>
        let lo := o.addr / 32
        let hi := lo + 2048 * secs.length
        if verified then ((s.eraseWords lo hi).clearFlags secs).flErr flDONE
        else bad ((s.eraseFails secs).flErr flDONE)
    match s.efl.rdWait with
    | some e => s.flLoad e
    | none => s

/-- FLASH_OP_DONE. -/
def execFlashOpDone (verified : Bool) (s : State) : Out := .next (s.flDone verified)

/-- An operation interrupted by a loss of power or a restart (R409): a program leaves its word erased, torn or written, an erase any mix with its flag set. -/
def State.flInterrupt (s : State) : State :=
  match s.efl.busy with
  | none => s
  | some o =>
    let s := { s with efl.busy := none }
    match o.op with
    | 1 =>
      let w : FWord := match s.freeVal % 3 with
        | 0 => {}
        | 1 => { torn := true, data := o.data }
        | _ => { written := true, data := o.data }
      (s.took).setFword (o.addr / 32) w
    | 2 => s.eraseMix (o.addr / 32) (o.addr / 32 + 2048)
    | 3 => s.eraseMix (o.addr / 32) (o.addr / 32 + 2048 * 192)
    | _ => s

end Sys2Proof.Machine
end

