-- ==== Sys2Proof/Machine/Dma.lean ====
section
/-! DEFINITION. The general DMA engine (R478 to R490). -/

namespace Sys2Proof.Machine

/-- Whether channel `ch` belongs to the Manager (R478). -/
def State.mgrChan (s : State) (ch : Nat) : Bool := s.pwr.phase = .rescue || ch ≥ 28

/-- `CH_CFG` of a channel. -/
def State.chCfg (s : State) (ch : Nat) : Nat := s.reg (dwCH ch + 4)
/-- `CH_DESC`, 64 bits. -/
def State.chDesc (s : State) (ch : Nat) : Nat := s.reg (dwCH ch + 0x18) + 2 ^ 32 * s.reg (dwCH ch + 0x1C)

/-- Set a bit of `CH_STAT` (4 HALF, 5 FULL, 6 HALT) and signal it when enabled (R485). -/
def State.chEvent (s : State) (ch bit : Nat) : State :=
  let s := s.raise (dwCH ch + 0x10) (2 ^ bit)
  if (s.chCfg ch).testBit bit ∧ s.pwr.phase ≠ .rescue then { s with dma.irqs := s.dma.irqs ++ [(ch, bit - 4)] } else s

/-- A channel halts (R486). -/
def State.chHalt (s : State) (ch cause : Nat) : State :=
  (s.modChan ch (fun c => { c with st := 2, cause := cause, busy := false, fetch := c.fetch || cause = 6 })).chEvent ch 6

/-- Bytes of a burst (R481). -/
def burstBytes (b : Nat) : Nat := 256 * 2 ^ (b % 8)

/-- Whether a descriptor is well formed and its ranges lie in their spaces (R481, R482). DEDUCED: a unit of `DDR_POP.CAP` is 34 bits of DRAM address (R385). -/
def State.descOk (s : State) (d : Descriptor) : Bool :=
  let src := d.spaces % 4
  let dst := d.spaces / 4 % 4
  let within := fun (sp a : Nat) =>
    match sp with
    | 0 => s.ddr.ready && a + d.len ≤ s.ddr.cap * 2 ^ 34
    | 1 => a + d.len ≤ 2 ^ 64
    | 2 => a + d.len ≤ 0x2000000
    | _ => false
  d.spaces < 16 && d.flags < 8 && d.burst ≤ 4 && d.reserved23 = 0
    && d.src % 4 = 0 && d.dst % 4 = 0 && (dst ≠ 2 || (d.dst % 32 = 0 && d.len % 32 = 0))
    && 4 ≤ d.len && d.len ≤ 16777216 && d.len % 4 = 0
    && (d.flags.testBit 0 || d.next % 32 = 0)
    && !(src = 2 && dst = 2) && within src d.src && within dst d.dst

/-- Whether a descriptor or its channel uses host memory. -/
def State.usesHost (s : State) (ch : Nat) : Bool :=
  field (s.chCfg ch) 3 2 = 1 || (!(s.chan ch).fetch && (s.chan ch).desc.any (fun d => d.spaces % 4 = 1 || d.spaces / 4 % 4 = 1))

/-- The path's write reaches the channel's block (R478). -/
def chanWrite (p : Path) (ch : Nat) (s : State) (f : State → State) : Out :=
  if ch ≥ 32 then .fault (.noSuchInstance ch)
  else winWrite p (dwCH ch) s (fun s => if s.mgrChan ch then f s else s)

/-- START (R488). -/
def State.dmaStart (s : State) (p : Path) (ch : Nat) : State :=
  if (s.chan ch).st ≠ 0 then s
  else
    let s := s.modChan ch (fun c => { c with cur := s.chDesc ch, done := 0, retries := 0, desc := none, issuer := issCode (.path p) })
    if field (s.chCfg ch) 3 2 ≥ 2 then s.chHalt ch 6
    else
      let s := s.modChan ch (fun c => { c with st := 1, fetch := true, busy := false })
      if s.usesHost ch ∧ s.host.busMaster = false then s.chHalt ch 8 else s
/-- ABORT (R488). -/
def State.dmaAbort (s : State) (ch : Nat) : State :=
  s.modChan ch (fun c => { c with st := 0, busy := false, fetch := false })
/-- RESUME (R488). -/
def State.dmaResume (s : State) (ch : Nat) : State :=
  if (s.chan ch).st ≠ 2 then s
  else
    let s := s.modChan ch (fun c => { c with st := 1, retries := 0, busy := false })
    if s.usesHost ch ∧ s.host.busMaster = false then s.chHalt ch 8 else s

/-- DMA_START. -/
def execDmaStart (p : Path) (ch : Nat) (s : State) : Out := chanWrite p ch s (fun s => s.dmaStart p ch)
/-- DMA_ABORT. -/
def execDmaAbort (p : Path) (ch : Nat) (s : State) : Out := chanWrite p ch s (fun s => s.dmaAbort ch)
/-- DMA_RESUME. -/
def execDmaResume (p : Path) (ch : Nat) (s : State) : Out := chanWrite p ch s (fun s => s.dmaResume ch)

/-- DESCRIPTOR_FETCH (R482): a descriptor is fetched and checked. -/
def execDescriptorFetch (ch : Nat) (d : Descriptor) (s : State) : Out :=
  if ch ≥ 32 then .fault (.noSuchInstance ch)
  else if (s.chan ch).st ≠ 1 ∨ (s.chan ch).fetch = false then .next s
  else if s.descOk d = false then .next (s.chHalt ch 6)
  else
    let s := s.modChan ch (fun c => { c with desc := some d, done := 0, retries := 0, fetch := false })
    if s.usesHost ch ∧ s.host.busMaster = false then .next (s.chHalt ch 8) else .next s

/-- The first bytes of a burst the channel moves next, and how many it moves (R483). -/
def State.burstLen (s : State) (ch : Nat) (d : Descriptor) : Nat := min (burstBytes d.burst) (d.len - (s.chan ch).done)

/-- PROGRAM of one word by a burst: refused under R414, or carried out, verified or not (R480, R416). True when the burst goes on. -/
def State.flashWord (s : State) (iss addr : Nat) (data : BitVec 256) (verified : Bool) : State × Bool :=
  match s.flCheck 1 addr (.path .bar2) with
  | some bit => (({ s.flErr bit with efl.errAddr := addr } : State).fwLog 0x0205 [flSector addr, bit, iss], false)
  | none =>
    let s := ({ s with efl.opBank := flBank addr, efl.lastOp := 1 } : State).flErr flDONE
    if verified then (s.setFword (addr / 32) { written := true, data := data }, true)
    else
      let s := (s.setFword (addr / 32) { torn := true, data := data }).flErr flVERIFY
      (({ s with efl.errAddr := addr } : State).fwLog 0x0204 [flSector addr, 1, addr], false)

/-- Write the bytes of a burst to flash, one word after the other from `addr` up (R480): `none` when every word is verified, else the address of the word that is not. -/
def State.flashBurst (s : State) (iss addr : Nat) (data : List Byte) : Nat → State × Option Nat
  | 0 => (s, none)
  | n + 1 =>
    let r := s.flashWord iss addr (BitVec.ofNat 256 (leAt data 0 32)) true
    if r.2 then r.1.flashBurst iss (addr + 32) (data.drop 32) n else (r.1, some addr)

/-- A burst whose word at `a` is not verified (R480): the words before it are programmed with the source's bytes, which are free here. -/
def State.flashFails (s : State) (iss start a : Nat) : State × Nat :=
  let n := s.free
  let k := (a - start) / 32
  let data := (List.range (32 * k)).map (fun i => BitVec.ofNat 8 (Config.freeNat (n + i)))
  let r := ({ s with free := n + 32 * k + 1 } : State).flashBurst iss start data k
  match r.2 with
  | some b => (r.1, b)
  | none => ((r.1.flashWord iss a (BitVec.ofNat 256 (Config.freeNat (n + 32 * k))) false).1, a)

/-- Bytes of a burst that are done (R483, R485). -/
def State.burstMoved (s : State) (ch : Nat) (d : Descriptor) : State :=
  let c := s.chan ch
  let n := s.burstLen ch d
  let half := d.len / 8 * 4
  let s := s.modChan ch (fun c => { c with done := c.done + n, retries := 0, busy := false })
  let s := if d.flags.testBit 1 ∧ (c.done < half ∨ c.done = 0) ∧ half ≤ c.done + n then s.chEvent ch 4 else s
  if c.done + n < d.len then s
  else
    let s := if d.flags.testBit 2 then s.chEvent ch 5 else s
    if d.flags.testBit 0 then s.modChan ch (fun c => { c with st := 0 })
    else s.modChan ch (fun c => { c with fetch := true, cur := d.next })

/-- A channel halts at a flash word (R480). -/
def State.flashHalt (s : State) (ch a : Nat) : State := (s.modChan ch (fun c => { c with errAddr := a })).chHalt ch 5

/-- A burst whose source is read (R480, R483, R485): flash words are checked one by one. -/
def State.burstDone (s : State) (ch : Nat) (d : Descriptor) (data : List Byte) : State :=
  if d.spaces / 4 % 4 = 2 then
    let c := s.chan ch
    let r := s.flashBurst c.issuer (d.dst + c.done) data (s.burstLen ch d / 32)
    match r.2 with
    | some a => r.1.flashHalt ch a
    | none => r.1.burstMoved ch d
  else s.burstMoved ch d

/-- Whether a bus error of a cause can end a descriptor's burst (R486): 1 to 3 on host memory, 4 on a flash source. -/
def busCause (d : Descriptor) (cause : Nat) : Bool :=
  (cause = 4 && d.spaces % 4 = 2) || (1 ≤ cause && cause ≤ 3 && (d.spaces % 4 = 1 || d.spaces / 4 % 4 = 1))

/-- How a burst of a channel ends (R486). -/
def State.burst (s : State) (ch : Nat) (fin : BurstEnd) : State :=
  let c := s.chan ch
  match c.desc with
  | none => s
  | some d =>
    match fin with
    | .done data => s.burstDone ch d data
    | .flashError a =>
      let start := d.dst + c.done
      if d.spaces / 4 % 4 = 2 ∧ a % 32 = 0 ∧ start ≤ a ∧ a < start + s.burstLen ch d then
        let r := s.flashFails c.issuer start a
        r.1.flashHalt ch r.2
      else s
    | .busError cause a =>
      let t := if cause = 4 then
          (({ (s.bump (dwEFL + 0xC8) 1).flErr flUNCORR with efl.errAddr := a } : State).fwLog 0x0203 [flSector a, a, 0])
        else s
      if busCause d cause = false then s
      else if c.retries ≥ s.reg dwDMA % 8 then (t.modChan ch (fun c => { c with errAddr := a })).chHalt ch cause
      else t.modChan ch (fun c => { c with busy := true, errAddr := a })

/-- Whether a burst waits on flash (R405, R480): a write for the engine and the lock, a read for its banks. -/
def State.waitsFlash (s : State) (ch : Nat) (d : Descriptor) : Bool :=
  let a := d.src + (s.chan ch).done
  (d.spaces / 4 % 4 = 2 && (s.efl.busy.isSome || s.efl.seqStep ≠ 0))
    || (d.spaces % 4 = 2 && s.efl.busy.any (fun o => flBank o.addr = flBank a || flBank o.addr = flBank (a + s.burstLen ch d - 1)))

/-- The channels with a burst ready. -/
def State.readyChans (s : State) : List Nat :=
  (List.range 32).filter (fun ch =>
    let c := s.chan ch
    c.st = 1 && !c.busy && !c.fetch && c.desc.any (fun d => !s.waitsFlash ch d))

/-- The channel granted next (R484): highest `PRIO`, round robin within it. -/
def State.grantChan (s : State) : Option Nat :=
  let r := s.readyChans
  let top := (r.map (fun ch => s.chCfg ch % 4)).foldl max 0
  let best := r.filter (fun ch => s.chCfg ch % 4 = top)
  match best.find? (fun ch => ch > s.dma.last) with
  | some ch => some ch
  | none => best.head?

/-- DMA_BURST (R483, R484). -/
def execDmaBurst (fin : BurstEnd) (s : State) : Out :=
  match s.grantChan with
  | none => .next s
  | some ch => .next (({ s with dma.last := ch }).burst ch fin)

/-- DMA_RETRY (R486): a burst that waits on flash is granted again once the flash is free. -/
def execDmaRetry (ch : Nat) (fin : BurstEnd) (s : State) : Out :=
  if ch ≥ 32 then .fault (.noSuchInstance ch)
  else if (s.chan ch).st ≠ 1 ∨ (s.chan ch).busy = false then .next s
  else
    let s := s.modChan ch (fun c => { c with retries := c.retries + 1, busy := false })
    .next (if s.readyChans.contains ch then s.burst ch fin else s)

/-- PF0 bus mastering is lost: Manager channels that use host memory halt (R487). -/
def State.dmaBusLost (s : State) : State :=
  s.each ((List.range 32).filter (fun ch => (s.chan ch).st = 1 && s.mgrChan ch && s.usesHost ch)) (fun s ch => s.chHalt ch 8)

/-- BUS_MASTER_CLEAR (R487). -/
def execBusMasterClear (s : State) : Out := .next ({ s with host.busMaster := false }).dmaBusLost

end Sys2Proof.Machine
end

