-- ==== Sys2Proof/Machine/Ctrl.lean ====
section
/-! DEFINITION. Controllers: enabling, resets, drains, queues, fabrics commands and associations (R266 to R270, R277, R286, R297 to R306, R310, R311, R323, R328, R329). -/

namespace Sys2Proof.Machine

/-! ## Going on with held commands -/

/-- Try a held command again. -/
def State.resume (s : State) (id : CmdId) : State :=
  match s.flight? id with
  | none => s
  | some f =>
    if f.op = 0x12 ∨ f.op = 0x1D then s.runPlacement id
    else if f.op ≥ 0x90 then s.runVendor id
    else s.runBlock id

/-- BARRIER_PASS (R295). -/
def execBarrierPass (id : CmdId) (s : State) : Out :=
  match s.flight? id with
  | none => .next s
  | some f => if f.stage = .held 5 then .next (s.resume id) else .next s

/-! ## Queues (R277, R314, R315) -/

def Ctrl.pcie (k : Ctrl) : Bool := match k.kind with | .pf0 => true | .vf _ => true | .slice _ => true | _ => false
/-- Queue contexts a controller takes: one for its admin queue and one for each submission queue. -/
def Ctrl.contexts (k : Ctrl) : Nat := if k.exist then 1 + k.sqs.length else 0
def State.contexts (s : State) (t : Nat) : Nat := ((s.io.ctrls.filter (fun e => e.2.tenant = t ∧ e.2.kind ≠ .discovery)).map (fun e => e.2.contexts)).sum
/-- Whether a tenant may take one more queue context. -/
def State.contextFree (s : State) (t : Nat) : Bool :=
  if t = 0 then s.contexts 0 + 1 ≤ 512 else s.contexts t + 1 ≤ s.guar t 272 65024

/-- CREATE_IO_COMPLETION_QUEUE (R277). -/
def execCreateIoCompletionQueue (c : Cmd) (s : State) : Out :=
  adminCmd false c s (fun s =>
    let k := s.ctrl c.id.ctrl
    let qid := dw10 c % 65536
    let size := dw10 c / 65536
    if k.pcie = false then s.refuse c .invalidOpcode
    else if qid = 0 ∨ k.cqs.contains qid then s.refuse c .invalidQid
    else if size = 0 ∨ size > 4095 then s.refuse c .invalidQsize
    else s.check c ((dw11 c).testBit 0) (fun s =>
      (s.modCtrl c.id.ctrl (fun k => { k with cqs := k.cqs ++ [qid] })).post c.id .success))

/-- CREATE_IO_SUBMISSION_QUEUE (R277). -/
def execCreateIoSubmissionQueue (c : Cmd) (s : State) : Out :=
  adminCmd false c s (fun s =>
    let k := s.ctrl c.id.ctrl
    let qid := dw10 c % 65536
    let size := dw10 c / 65536
    let cq := dw11 c / 65536
    if k.pcie = false then s.refuse c .invalidOpcode
    else if qid = 0 ∨ k.sqs.any (fun q => q.1 = qid) ∨ !k.cqs.contains cq then s.refuse c .invalidQid
    else if size = 0 ∨ size > 4095 then s.refuse c .invalidQsize
    else s.check c ((dw11 c).testBit 0) (fun s =>
      if s.contextFree k.tenant = false then s.refuse c (.vendor 0x83)
      else (s.modCtrl c.id.ctrl (fun k => { k with sqs := k.sqs ++ [(qid, cq)] })).post c.id .success))

/-- DELETE_IO_COMPLETION_QUEUE (R277). -/
def execDeleteIoCompletionQueue (c : Cmd) (s : State) : Out :=
  adminCmd false c s (fun s =>
    let k := s.ctrl c.id.ctrl
    let qid := dw10 c % 65536
    if k.pcie = false then s.refuse c .invalidOpcode
    else if qid = 0 ∨ !k.cqs.contains qid then s.refuse c .invalidQid
    else if k.sqs.any (fun q => q.2 = qid) then s.refuse c .invalidQdel
    else (s.modCtrl c.id.ctrl (fun k => { k with cqs := k.cqs.filter (fun q => q ≠ qid) })).post c.id .success)

/-- Queue deletions whose every command has its completion (R302). -/
def State.settleSqDels (s : State) (ctrl : Nat) : State :=
  s.each (s.ctrl ctrl).sqDels (fun s d =>
    if s.io.flights.any (fun f => f.c.id.ctrl = ctrl && f.c.id.sq = d.1) then s
    else
      let s := s.modCtrl ctrl (fun k => { k with sqDels := k.sqDels.filter (fun e => e ≠ d), sqs := k.sqs.filter (fun q => q.1 ≠ d.1), tails := k.tails.filter (fun q => q.1 ≠ d.1) })
      let s : State := { s with host.conns := s.host.conns.filter (fun x => !(x.ctrl = some ctrl && x.qid = d.1)) }
      s.post d.2 .success)

/-- Stop a queue: unstarted commands abort, started ones drain and then abort (R302). -/
def State.deleteSq (s : State) (c : Cmd) (qid : Nat) : State :=
  let id := c.id.ctrl
  let s := s.modCtrl id (fun k => { k with sqDels := k.sqDels ++ [(qid, c.id)] })
  let (_, s) := s.drainWhere (fun i => i.ctrl = id && i.sq = qid) true 1
  s.settleSqDels id

/-- Put something off to the end of a firmware pause (R304). -/
def State.putOff (s : State) (l : Later) : State := { s with io.deferred := s.io.deferred ++ [l] }

/-- DELETE_IO_SUBMISSION_QUEUE (R302). -/
def execDeleteIoSubmissionQueue (c : Cmd) (s : State) : Out :=
  adminCmd false c s (fun s =>
    let k := s.ctrl c.id.ctrl
    let qid := dw10 c % 65536
    if k.pcie = false then s.refuse c .invalidOpcode
    else if qid = 0 ∨ !(k.sqs.any (fun q => q.1 = qid)) then s.refuse c .invalidQid
    else if s.io.paused then s.putOff (.sqDel c)
    else s.deleteSq c qid)

/-- DOORBELL_WRITE (R286): the entries up to the tail are to be fetched. -/
def execDoorbellWrite (ctrl sq tail : Nat) (s : State) : Out :=
  let k := s.ctrl ctrl
  if s.pwr.phase ≠ .run ∨ k.exist = false ∨ k.pcie = false ∨ k.rdy = false ∨ k.shst ≠ 0 ∨ (sq ≠ 0 ∧ !(k.sqs.any (fun q => q.1 = sq))) then .next s
  else .next (s.modCtrl ctrl (fun k => { k with tails := place k.tails sq tail }))

/-! ## Resets, losses and drains (R297 to R301) -/

/-- The connections of a controller close. -/
def State.closeConns (s : State) (ctrl : Nat) : State :=
  { s with host.conns := s.host.conns.filter (fun x => x.ctrl ≠ some ctrl) }

/-- Steps 1 to 3 of R299: fetching stops, unstarted commands are squashed, started ones drain. Causes: 0 to 3 as code 0x0609, 10 + c as code 0x060A, 20 a Tenant Reset or Delete, 30 a shutdown. -/
def State.beginDrain (s : State) (ctrl cause : Nat) : State :=
  let total := (s.io.flights.filter (fun f => f.c.id.ctrl = ctrl ∧ f.stage ≠ .drained)).length
  let s := s.modCtrl ctrl (fun k => { k with
    draining := true, resetCause := cause, tails := []
    aers := if cause = 30 then k.aers else [], aens := if cause = 30 then k.aens else [], sqDels := if cause = 30 then k.sqDels else [] })
  let s := s.drainSearch (fun i => i = ctrl)
  let (n, s) := s.drainWhere (fun i => i.ctrl = ctrl) false 0
  let t := (s.ctrl ctrl).tenant
  let s := if cause = 20 then s.modTenant t (fun x => { x with squashed := x.squashed + total }) else s
  s.modCtrl ctrl (fun k => { k with drainCount := n })

/-- A controller reset (R299). -/
def State.resetCtrl (s : State) (ctrl cause : Nat) : State :=
  let k := s.ctrl ctrl
  if k.exist = false then s
  else
    let s := s.modCtrl ctrl (fun k => { k with en := false })
    if k.resetting then s
    else if s.io.paused then s.putOff (.reset ctrl cause)
    else (s.modCtrl ctrl (fun k => { k with resetting := true })).beginDrain ctrl cause

/-- An association is lost (R301). -/
def State.loseAssoc (s : State) (ctrl cause : Nat) : State :=
  let k := s.ctrl ctrl
  if k.exist = false ∨ k.resetting then s
  else if s.io.paused then s.putOff (.lost ctrl cause)
  else ((s.modCtrl ctrl (fun k => { k with resetting := true, en := false })).closeConns ctrl).beginDrain ctrl (10 + cause)

/-- A connection is lost: its association goes with it. -/
def State.loseConn (s : State) (conn cause : Nat) : State :=
  match s.host.conns.find? (fun x => x.id = conn) with
  | none => s
  | some x =>
    let s : State := { s with host.conns := s.host.conns.filter (fun y => y.id ≠ conn) }
    match x.ctrl with
    | some k => s.loseAssoc k cause
    | none => s

/-- CONTROLLER_RESET (R299): `CC.EN` from 1 to 0. -/
def execControllerReset (ctrl : Nat) (s : State) : Out :=
  if s.pwr.phase ≠ .run ∨ (s.ctrl ctrl).en = false then .next s else .next (s.resetCtrl ctrl 0)

/-- CC_ENABLE (R299): ignored before `CSTS.RDY` has cleared. -/
def execCcEnable (ctrl : Nat) (s : State) : Out :=
  let k := s.ctrl ctrl
  if s.pwr.phase ≠ .run ∨ k.exist = false ∨ (k.pcie ∧ ¬s.host.pcieUp) ∨ k.en ∨ k.rdy ∨ k.resetting then .next s
  else .next (s.modCtrl ctrl (fun k => { k with en := true, rdy := true, shn := 0, shst := 0, resetCause := 0 }))

/-- A shutdown notification (R300). -/
def State.shutdownCtrl (s : State) (ctrl shn : Nat) : State :=
  let k := s.ctrl ctrl
  if k.exist = false ∨ k.shst ≠ 0 ∨ k.draining ∨ (shn ≠ 1 ∧ shn ≠ 2) then s
  else (s.modCtrl ctrl (fun k => { k with shn := shn, shst := 1 })).beginDrain ctrl 30

/-- SHUTDOWN_NOTIFICATION (R300). -/
def execShutdownNotification (ctrl : Nat) (shn : BitVec 2) (s : State) : Out :=
  if s.pwr.phase ≠ .run then .next s else .next (s.shutdownCtrl ctrl shn.toNat)

/-! ## Discovery (R269) -/

/-- The Manager's subsystem NQN, as a little-endian number of its bytes (R269). -/
def hexDigit (n : Nat) : Nat := if n < 10 then 48 + n else 87 + n
def mgrNqn : Nat :=
  let pre := "nqn.2031-05.com.tazivis:ux6400:".toUTF8.toList.map (fun b => b.toNat)
  let hex := (List.range 32).map (fun i => hexDigit (Config.unitId.toNat / 16 ^ (31 - i) % 16))
  (pre ++ hex).foldr (fun b a => b + 256 * a) 0
/-- The well-known discovery NQN (NVMe over Fabrics). -/
def discNqn : Nat := ("nqn.2014-08.org.nvmexpress.discovery".toUTF8.toList.map (fun b => b.toNat)).foldr (fun b a => b + 256 * a) 0

/-- Discovery Log Page Change to the discovery associations of the hosts concerned. -/
def State.discNotice (s : State) (hosts : List Nat) : State :=
  s.each (s.ctrlIds.filter (fun i => (s.ctrl i).kind = .discovery && hosts.contains (s.ctrl i).hostNqn)) (fun s i => s.aen i ⟨2, 0xF0, 0x70⟩)
/-- Every host of every list. -/
def State.allHosts (s : State) : List Nat :=
  (s.ten.mgrHosts.map (fun h => h.nqn)) ++ s.ten.tbl.flatMap (fun e => e.2.hosts.map (fun h => h.nqn))

/-! ## Connect and the fabrics commands -/

/-- The subsystem a Connect names: its tenant, or none for the discovery subsystem; in service mode only the Manager's and discovery are served. -/
def State.subsystem (s : State) (nqn : Nat) : Option (Option Nat) :=
  if nqn = discNqn then some none
  else if nqn = mgrNqn then some (some 0)
  else if s.pwr.mode = 1 then none
  else (s.ten.tbl.find? (fun e => e.2.occupied && e.2.nqn = nqn && e.2.deleting.isNone)).map (fun e => some e.1)
/-- Whether a host is on a tenant's list. -/
def State.listed (s : State) (t host : Nat) : Bool :=
  (if t = 0 then s.ten.mgrHosts else (s.tenant t).hosts).any (fun h => h.nqn = host)
/-- A Connect that is held: an association of the host drains, or the tenant is being reset (R301, R328). -/
def State.connectHeld (s : State) (t : Option Nat) (host : Nat) : Bool :=
  s.io.paused || (match t with
  | none => false
  | some t => !(s.tenant t).resetting.isEmpty || s.io.ctrls.any (fun e => e.2.exist && e.2.tenant = t && e.2.hostNqn = host && e.2.resetting))

/-- Close a connection without an answer (R311). -/
def State.dropConn (s : State) (conn : Nat) : State :=
  { s with host.conns := s.host.conns.filter (fun x => x.id ≠ conn) }

/-- The number after a fabric controller's; they stand above those of the PCIe controllers. -/
def ctrlAfter (k : Nat) : Nat := if k ≥ 65519 then 256 else k + 1
/-- The first number from `k` on that no controller has, looking at `n` of them. -/
def State.freeCtrl (s : State) (k : Nat) : Nat → Nat
  | 0 => k
  | n + 1 => if (s.ctrl k).exist then s.freeCtrl (ctrlAfter k) n else k
/-- The number of the next fabric controller. -/
def State.newCtrl (s : State) : Nat := s.freeCtrl s.io.nextCtrl s.io.ctrls.length

/-- Serve a Connect. -/
def State.serveConnect (s : State) (c : Cmd) (r : ConnectReq) : State :=
  match s.subsystem r.subNqn with
  | none => s.dropConn r.conn
  | some t =>
    if s.connectHeld t r.hostNqn then { s with io.heldConnects := s.io.heldConnects ++ [(c, r)] }
    else if t.any (fun t => s.listed t r.hostNqn = false) then s.dropConn r.conn
    else if r.depth = 0 ∨ r.depth > 4096 then s.refuse c .invalidField
    else if t.any (fun t => s.contextFree t = false) then s.refuse c (.vendor 0x83)
    else
      let bind := fun (s : State) (k : Nat) => ({ s with host.conns := s.host.conns.map (fun x => if x.id = r.conn then { x with ctrl := some k, qid := r.qid } else x) } : State)
      if r.qid = 0 then
        let k := s.newCtrl
        let need := match t with | some 0 => true | some t => (s.tenant t).flags.testBit 0 | none => false
        let s : State := { s with io.nextCtrl := ctrlAfter k }
        let s := s.modCtrl k (fun _ => { exist := true, kind := if t.isSome then .fabric else .discovery, tenant := t.getD 0, hostNqn := r.hostNqn,
                                         authReq := need, authed := !need })
        (bind s k).post c.id .success k
      else
        let k := s.ctrl r.cntlid
        if k.exist = false ∨ k.hostNqn ≠ r.hostNqn ∨ k.kind ≠ .fabric ∨ t ≠ some k.tenant ∨ k.rdy = false ∨ k.resetting
            ∨ k.sqs.any (fun q => q.1 = r.qid) then s.refuse c .invalidField
        else
          (bind (s.modCtrl r.cntlid (fun k => { k with sqs := k.sqs ++ [(r.qid, r.qid)] })) r.cntlid).post c.id .success r.cntlid

/-- Whether a port accepts a new connection on an address entry: bit 1 of `PORT_CFG` for RoCEv2, bit 2 for TCP (R252, R274). -/
def State.serves (s : State) (port entry bit : Nat) : Bool :=
  s.portExists port && (s.port port).linkUp && (s.reg (dwPORT port)).testBit bit && entry < 16
    && (s.reg (dwPORT port + 0x100 + 32 * entry + 16)).testBit 8

/-- CONNECT (R301, R311): on RoCEv2 the queue pair comes with it (R262). -/
def execConnect (c : Cmd) (r : ConnectReq) (s : State) : Out :=
  if s.pwr.phase ≠ .run then .next s
  else
    let s : State := if r.rdma ∧ s.serves r.port r.entry 1 ∧ !(s.host.conns.any (fun x => x.id = r.conn)) then
        { s with host.conns := s.host.conns ++ [{ id := r.conn, port := r.port, entry := r.entry, rdma := true }] } else s
    if s.host.conns.any (fun x => x.id = r.conn ∧ x.ctrl.isNone) then .next (s.serveConnect c r) else .next s

/-- Serve the Connects that are held no longer. -/
def State.serveHeld (s : State) : State :=
  let l := s.io.heldConnects
  ({ s with io.heldConnects := [] } : State).each l (fun s e => s.serveConnect e.1 e.2)

/-- Whether fabrics commands reach this controller now. -/
def State.onFabric (s : State) (c : Cmd) : Bool :=
  let k := s.ctrl c.id.ctrl
  s.pwr.phase = .run && s.ctlOn && k.exist && k.pcie = false && !k.resetting
/-- Fabrics commands are accepted only on fabric controllers (R277). -/
def fabricCmd (c : Cmd) (s : State) (f : State → State) : Out :=
  if s.onFabric c then .next (f (s.cmdArrives c))
  else if s.accepts c then .next (s.refuse c .invalidOpcode) else .next s

/-- AUTHENTICATION_SEND (R270). -/
def execAuthenticationSend (c : Cmd) (s : State) : Out := fabricCmd c s (fun s => s.post c.id .success)

/-- AUTHENTICATION_RECEIVE (R270): `ok` is what the exchange has come to. -/
def execAuthenticationReceive (c : Cmd) (ok : Bool) (s : State) : Out :=
  fabricCmd c s (fun s =>
    if ok then (s.modCtrl c.id.ctrl (fun k => { k with authed := true })).post c.id .success
    else
      let k := s.ctrl c.id.ctrl
      (s.log 0x0A20 [Config.nqnHash k.hostNqn % 2 ^ 64, k.tenant]).loseAssoc c.id.ctrl 3)

/-- Authentication comes first (R287). -/
def authFirst (c : Cmd) (s : State) (f : State → State) : State :=
  let k := s.ctrl c.id.ctrl
  if k.authReq && !k.authed then s.refuse c .authentication else f s

/-- The properties of R281: `CAP`, `VS`, `CC` and `CSTS`; bit 37 of `CAP` offers the NVM command set, `VS` is 2.0 (NVMe). -/
def State.property (s : State) (ctrl off : Nat) : Nat :=
  let k := s.ctrl ctrl
  match off with
  | 0x00 => 4095 + 2 ^ 16 + at' 8 24 + 2 ^ 37 + at' 4 52
  | 0x08 => 0x00020000
  | 0x14 => flag k.en 0 + at' k.shn 14 + at' 6 16 + at' 4 20
  | 0x1C => flag k.rdy 0 + at' k.shst 2
  | _ => 0

/-- A write of `CC` (R299, R300). -/
def State.writeCc (s : State) (ctrl v : Nat) : State :=
  let k := s.ctrl ctrl
  if v.testBit 0 = false then (if k.en then s.resetCtrl ctrl 0 else s)
  else
    let s := if ¬k.en ∧ ¬k.rdy ∧ ¬k.resetting then
        s.modCtrl ctrl (fun k => { k with en := true, rdy := true, shn := 0, shst := 0, resetCause := 0 }) else s
    s.shutdownCtrl ctrl (field v 15 14)

/-- PROPERTY_SET (R299). -/
def execPropertySet (c : Cmd) (s : State) : Out :=
  fabricCmd c s (fun s => authFirst c s (fun s =>
    if dw11 c = 0x14 then (s.post c.id .success).writeCc c.id.ctrl (dw12 c) else s.refuse c .invalidField))

/-- PROPERTY_GET (R277). -/
def execPropertyGet (c : Cmd) (s : State) : Out :=
  fabricCmd c s (fun s => authFirst c s (fun s =>
    let v := s.property c.id.ctrl (dw11 c)
    if ([0x00, 0x08, 0x14, 0x1C] : List Nat).contains (dw11 c) then s.post c.id .success (v % 2 ^ 32) (v / 2 ^ 32) else s.refuse c .invalidField))

/-- DISCONNECT (R299, R302): on the admin queue a controller reset, on an I/O queue the end of that queue. -/
def execDisconnect (c : Cmd) (s : State) : Out :=
  fabricCmd c s (fun s => authFirst c s (fun s =>
    if c.id.sq = 0 then ((s.post c.id .success).closeConns c.id.ctrl).resetCtrl c.id.ctrl 3
    else if s.io.paused then s.putOff (.sqDel c)
    else s.deleteSq c c.id.sq))

/-- KEEP_ALIVE (R277, R304). -/
def execKeepAlive (c : Cmd) (s : State) : Out :=
  adminCmd false c s (fun s => if s.io.paused then s.putOff (.keepAlive c) else s.post c.id .success)

/-- ABORT (R305): it never aborts. -/
def execAbort (c : Cmd) (s : State) : Out := adminCmd false c s (fun s => s.post c.id .success 1)

/-- ASYNCHRONOUS_EVENT_REQUEST (R277). -/
def execAsynchronousEventRequest (c : Cmd) (s : State) : Out :=
  adminCmd false c s (fun s =>
    let k := s.ctrl c.id.ctrl
    if k.aers.length ≥ 16 then s.refuse c .aerLimit
    else match k.aens with
      | e :: rest => (s.modCtrl c.id.ctrl (fun k => { k with aens := rest })).post c.id .success (e.typ + 256 * e.info + 65536 * e.page)
      | [] => s.modCtrl c.id.ctrl (fun k => { k with aers := k.aers ++ [c.id] }))

/-! ## Connections (R259, R261, R263, R301) -/

/-- ICREQ (R259). -/
def execIcreq (conn port entry pfv maxr2t hpda : Nat) (tls hdgst ddgst noSuccess : Bool) (s : State) : Out :=
  if s.pwr.phase ≠ .run ∨ s.serves port entry 2 = false ∨ s.host.conns.any (fun x => x.id = conn) then .next s
  else if tls ∨ pfv ≠ 0 then .next { s with host.terms := s.host.terms ++ [(conn, .invalidParameter)] }
  else .next { s with host.conns := s.host.conns ++ [{ id := conn, port := port, entry := entry, rdma := false, maxR2t := min (maxr2t + 1) 8, hpda := hpda, hdgst := hdgst, ddgst := ddgst, noSuccess := noSuccess }] }

/-- TCP_TIMEOUT (R261). -/
def execTcpTimeout (conn : Nat) (s : State) : Out := .next (s.loseConn conn 0)
/-- KEEP_ALIVE_TIMEOUT (R261); the pause of R304 does not count toward it. -/
def execKeepAliveTimeout (ctrl : Nat) (s : State) : Out :=
  if (s.ctrl ctrl).pcie ∨ s.io.paused then .next s else .next (s.loseAssoc ctrl 6)
/-- RDMA_RETRY_EXHAUSTED (R263). -/
def execRdmaRetryExhausted (conn : Nat) (s : State) : Out := .next (s.loseConn conn 1)
/-- CONNECTION_LOSS (R301): the host closes the connection; no cause of code 0x060A names this case, so the cause is free. -/
def execConnectionLoss (conn : Nat) (s : State) : Out := .next (s.took.loseConn conn s.freeVal)

/-! ## Resets of PCIe controllers (R266, R268) -/

def State.pcieCtrls (s : State) : List Nat := s.ctrlIds.filter (fun i => (s.ctrl i).pcie)

/-- PCIE_LINK (R268, R487): the link goes down. -/
def State.pcieDown (s : State) : State :=
  if s.host.pcieUp = false then s
  else
    let s : State := { s with host.pcieUp := false, host.speed := 0, host.width := 0, host.flit := false, host.sris := false, host.busMaster := false }
    let s := s.dmaBusLost
    let s := s.each s.pcieCtrls (fun s i => s.resetCtrl i 2)
    s.log 0x0606 [0xFF, 0, 0]

/-- PCIE_LINK (R268). -/
def execPcieLink (s : State) : Out := .next s.pcieDown

/-- PCIE_LINK_UP (R265, R276). DESIGN CHOICE (assumption log 100): speed and width share one parameter of code 0x0606, the speed plus 256 times the width. -/
def execPcieLinkUp (speed width : Nat) (flit sris : Bool) (s : State) : Out :=
  if s.pwr.phase = .held ∨ s.pwr.perst ∨ (List.range 16).any (fun i => s.lanePattern (192 + i)) then .next s
  else
    let s : State := { s with host.pcieUp := true, host.speed := speed, host.width := width, host.flit := flit, host.sris := sris, host.busMaster := true }
    .next (s.log 0x0606 [0xFF, 1, speed + 256 * width])

end Sys2Proof.Machine
end

