-- ==== Sys2Proof/Machine/Namespaces.lean ====
section
/-! DEFINITION. Namespaces: creation, deletion, attachment, format and sanitize (R139, R160, R243, R331 to R334, R337, R338). -/

namespace Sys2Proof.Machine

/-- The controllers a namespace is attached to. -/
def State.attachedCtrls (s : State) (x : Ns) : List Nat := s.ctrlIds.filter (s.attachedTo x)
/-- Namespace Attribute Changed to a list of controllers. -/
def State.nsChanged (s : State) (l : List Nat) (x : Ns) : State :=
  s.each l (fun s i =>
    let num := match (s.ctrl i).kind with | .slice _ => x.pool + 1 | _ => x.nsid
    (s.modCtrl i (fun k => { k with chg := num :: k.chg.filter (fun n => n ≠ num) })).aen i aenNsChanged)
/-- The controllers of a tenant. -/
def State.ctrlsOf (s : State) (t : Nat) : List Nat := s.ctrlIds.filter (fun i => (s.ctrl i).tenant = t && (s.ctrl i).kind ≠ .discovery)

/-- The existing pools. -/
def State.poolIds (s : State) : List Nat := [0, 1, 2, 3].filter (fun p => (s.pool p).exist)
/-- The lowest free namespace identifier and index. -/
def State.freeNsid (s : State) : Nat := ((List.range (s.media.nss.length + 1)).map (· + 1)).find? (fun k => !(s.media.nss.any (fun x => x.nsid = k))) |>.getD 0
def State.freeNsx (s : State) : Nat := (List.range (s.media.nss.length + 1)).find? (fun k => !(s.media.nss.any (fun x => x.nsx = k))) |>.getD 0

/-- Add a namespace with a fresh salt and NGUID (R331, R332). -/
def State.addNs (s : State) (x : Ns) : State :=
  let salt := s.freeVal % 2 ^ 128
  let s := s.took
  let guid := s.freeVal % 2 ^ 128
  let x : Ns := { x with salt := salt, nguid := guid }
  { s.took with media.nss := s.media.nss ++ [x], fw.salts := s.fw.salts.put zeroCell x.nsx salt }

/-- The create structure of Namespace Management (NVMe): NSZE, NCAP, FLBAS, DPS, ENDGID, NPHNDLS. -/
structure NsCreate where
  nsze : Nat
  ncap : Nat
  lbaf : Nat
  ext : Bool
  dps : Nat
  endgid : Nat
  handles : Nat
  deriving DecidableEq, Repr
def nsCreateOf (b : List Byte) : NsCreate :=
  { nsze := leAt b 0 8, ncap := leAt b 8 8, lbaf := leAt b 26 1 % 16 + 16 * field (leAt b 26 1) 6 5, ext := (leAt b 26 1).testBit 4,
    dps := leAt b 29 1, endgid := leAt b 102 2, handles := leAt b 392 2 }

/-- Whether the size, capacity, protection and handles of a CREATE agree (R139, R160). -/
def NsCreate.ok (d : NsCreate) : Bool :=
  d.nsze ≠ 0 && d.ncap = d.nsze && d.dps % 8 ≤ 3 && !(d.lbaf = 0 && d.dps % 8 ≠ 0) && d.handles ≤ 64 && !(d.handles ≠ 0 && d.lbaf ≠ 0)
/-- The pool that a CREATE names: the first where `ENDGID` is 0. -/
def State.createPool (s : State) (d : NsCreate) : Option Nat :=
  if d.endgid = 0 then s.poolIds.head? else s.poolIds.find? (fun p => p + 1 = d.endgid)
/-- The namespace that a CREATE makes, under an NSID and an index that no other has. -/
def State.newNs (s : State) (p : Nat) (d : NsCreate) : Ns :=
  { nsid := s.freeNsid, nsx := s.freeNsx, pool := p, lbaf := d.lbaf, dps := d.dps, ext := d.ext, nsze := d.nsze, nNs := s.nOf p,
    flags := if d.handles ≠ 0 then 1 else 0, handles := d.handles }
/-- Whether a pool, and the namespace table, have room for a new namespace (R139). -/
def State.nsFits (s : State) (p : Nat) (x : Ns) : Bool :=
  s.segReserved p + s.segCount x ≤ s.segTotal p && s.media.nss.length < 4096 && s.segSize x ≠ 0

/-- NAMESPACE_CREATE (R139, R160). -/
def execNamespaceCreate (c : Cmd) (s : State) : Out :=
  adminCmd true c s (fun s =>
    let d := nsCreateOf c.buf
    if dw10 c % 16 ≠ 0 then s.refuse c .invalidField
    else if d.lbaf > 3 then s.refuse c .invalidNs
    else match s.createPool d with
      | none => s.refuse c .invalidField
      | some p =>
        s.check c d.ok (fun s =>
          let x := s.newNs p d
          if s.nsFits p x = false then s.refuse c .nsCapacity
          else ((s.addNs x).writeRoot p (.rootGen p (some c.id) x.nsid)).settle))

/-- Give a namespace a change to make, and begin it when it can begin. -/
def State.setJob (s : State) (x : Ns) (job : Nat) (id : Option CmdId) : State :=
  let s := s.endNsScans x.nsid
  s.modNs x.nsx (fun y => { y with job := job, jobId := id, jobOn := false })

/-- NAMESPACE_DELETE (R243). -/
def execNamespaceDelete (c : Cmd) (s : State) : Out :=
  adminCmd true c s (fun s =>
    if dw10 c % 16 ≠ 1 then s.refuse c .invalidField
    else match s.ns? c.nsid with
      | none => s.refuse c .invalidNs
      | some x =>
        if x.job ≠ 0 then s.refuse c .nsNotReady
        else
          let l := s.attachedCtrls x
          ((s.setJob x 3 (some c.id)).nsChanged l x).settle)

/-- A controller list (NVMe): a count, then 16-bit numbers. -/
def ctrlList (b : List Byte) : List Nat := (List.range (leAt b 0 2)).map (fun i => leAt b (2 + 2 * i) 2)
/-- Attach controllers to a namespace (`sel` 0) or detach them. -/
def State.attach (s : State) (x : Ns) (sel : Nat) (ids : List Nat) : State :=
  s.modNs x.nsx (fun y => { y with attached := if sel = 0 then y.attached ++ ids else y.attached.filter (fun i => !ids.contains i) })

/-- NAMESPACE_ATTACHMENT (R277): SEL 0 attaches, 1 detaches; the buffer is a controller list. -/
def execNamespaceAttachment (c : Cmd) (s : State) : Out :=
  adminCmd true c s (fun s =>
    match s.ns? c.nsid with
    | none => s.refuse c .invalidNs
    | some x =>
      let sel := dw10 c % 16
      s.check c (sel ≤ 1 && x.tenant = 0 && leAt c.buf 0 2 ≤ 2047
          && (ctrlList c.buf).all (fun i => (s.ctrl i).exist && (s.ctrl i).tenant = 0 && (x.attached.contains i != (sel = 0 : Bool)))) (fun s =>
        ((s.attach x sel (ctrlList c.buf)).nsChanged (ctrlList c.buf) x).post c.id .success))

/-- A namespace is to be formatted as Dword 10 says: with a new key unless only the format changes (SES 0). -/
def State.startFormat (s : State) (x : Ns) (c : Cmd) : State :=
  (s.setJob x (if field (dw10 c) 11 9 = 0 then 1 else 2) (some c.id)).modNs x.nsx (fun y =>
    { y with newFmt := some (dw10 c % 16, field (dw10 c) 7 5 + 8 * field (dw10 c) 8 8, (dw10 c).testBit 4) })

/-- FORMAT_NVM (R334): LBAF [3:0], extended [4], PI [7:5], PIL [8], SES [11:9] of Dword 10 (NVMe). -/
def execFormatNvm (c : Cmd) (s : State) : Out :=
  adminCmd false c s (fun s =>
    let k := s.ctrl c.id.ctrl
    let l := s.localNs c
    let lbaf := dw10 c % 16
    let pi := field (dw10 c) 7 5
    let ses := field (dw10 c) 11 9
    match s.ns? l.nsid with
    | none => s.refuse c .invalidNs
    | some x =>
      if ¬s.isManager c.id.ctrl ∧ (x.tenant ≠ k.tenant ∨ k.tenant = 0) then s.refuse c .invalidOpcode
      else if x.job ≠ 0 then s.refuse c .nsNotReady
      else if lbaf > 3 ∨ (lbaf = 0) ≠ (x.lbaf = 0) then s.refuse c .invalidNs
      else s.check c (ses ≤ 2 && pi ≤ 3 && !(lbaf = 0 && pi ≠ 0)) (fun s =>
        (s.startFormat x c).settle))

/-- Begin a Sanitize (R334); it is answered at once and runs in the background. -/
def State.sanitizeStart (s : State) (c : Cmd) (act : Nat) : State :=
  if dw10 c % 8 ≠ act ∨ s.media.sanitize.isSome then s.refuse c .invalidField
  else
    let s : State := { s with media.sanitize := some (c.id, act), media.sanitizeStat := 2 }
    let s := s.each (s.media.nss.filter (fun x => x.job = 0)) (fun s x => s.setJob x 6 none)
    (s.post c.id .success).settle

/-- CRYPTO_ERASE (R334). -/
def execCryptoErase (c : Cmd) (s : State) : Out := adminCmd true c s (fun s => s.sanitizeStart c 4)
/-- BLOCK_ERASE (R334). -/
def execBlockErase (c : Cmd) (s : State) : Out := adminCmd true c s (fun s => s.sanitizeStart c 2)
/-- OVERWRITE (R334). -/
def execOverwrite (c : Cmd) (s : State) : Out := adminCmd true c s (fun s => s.refuse c .invalidField)

/-! ## Slice namespaces (R336, R337) -/

/-- The segments of each slice namespace in a pool: 1/16 of those that no other namespace reserves. -/
def State.sliceSegs (s : State) (p : Nat) : Nat :=
  (s.segTotal p - ((s.media.nss.filter (fun x => x.pool = p ∧ ¬x.flags.testBit 1)).map s.segCount).sum) / 16
/-- Create the missing slice namespaces of a pool. -/
def State.makeSlices (s : State) (p : Nat) : State :=
  let segs := s.sliceSegs p
  let missing := ((List.range 16).map (· + 1)).filter (fun k => !(s.media.nss.any (fun x => x.pool = p && x.flags.testBit 1 && x.tenant = k)))
  if segs = 0 ∨ missing = [] then s
  else
    let s := s.each missing (fun s k =>
      let x : Ns := { nsid := s.freeNsid, nsx := s.freeNsx, pool := p, lbaf := 0, nsze := 0, nNs := s.nOf p, flags := 2, tenant := k }
      s.addNs { x with nsze := segs * s.segSize x })
    (s.writeRoot p .nothing).log 0x0707 [missing.length, 0]
/-- Crypto-erase and delete the slice namespaces of a pool. -/
def State.dropSlices (s : State) (p : Nat) : State :=
  let l := s.media.nss.filter (fun x => x.pool = p && x.flags.testBit 1)
  if l = [] then s
  else ((s.each l (fun s x => s.setJob x 5 none)).log 0x0707 [0, l.length]).settle

end Sys2Proof.Machine
end

