-- ==== Sys2Proof/Machine/Tenants.lean ====
section
/-! DEFINITION. Tenants: creation, change, reset and deletion, host lists, virtual functions and slices (R310 to R330, R334 to R338). -/

namespace Sys2Proof.Machine

/-! ## The parameter block (R318) -/

/-- The nine-line part of R318 that is staged or installed. -/
structure TenParams where
  flags : Nat
  maxScans : Nat
  fields : List Nat
  banks : Nat
  lanes : Nat
  deriving DecidableEq, Repr
def tenParams (b : List Byte) : TenParams :=
  { flags := leAt b 3 1, maxScans := leAt b 4 1, fields := tenFields.map (fun o => leAt b o 4), banks := leAt b 296 2, lanes := leAt b 300 8 }
/-- The reserved fields and ranges that both commands check. -/
def TenParams.ok (t : TenParams) (b : List Byte) : Bool :=
  t.flags < 2 && t.maxScans ≤ 16 && zeroBytes b 5 7 && zeroBytes b 298 299 && zeroBytes b 308 511

/-- Whether a bank or lane is owned, in force, in the shadow or by a slot about to be installed, by a tenant other than `t`. -/
def State.bankTaken (s : State) (t b : Nat) : Bool :=
  [s.inf (stBankOwner b), s.sh (stBankOwner b)].any (fun o => o ≠ 0 && o ≠ t) || s.stage.installs.any (fun i => i.tid ≠ t && i.banks.testBit b)
def State.laneTaken (s : State) (t l : Nat) : Bool :=
  [s.inf (stLaneOwner l), s.sh (stLaneOwner l)].any (fun o => o ≠ 0 && o ≠ t) || s.stage.installs.any (fun i => i.tid ≠ t && i.lanes.testBit l)
/-- The sum over every slot but `t` of the larger of its allocations in force and in the shadow. -/
def State.otherAlloc (s : State) (t o : Nat) : Nat :=
  ((s.tenants.filter (fun u => u ≠ t)).map (fun u => max (s.inf (stTenant u o)) (s.sh (stTenant u o)))).sum
    + ((s.stage.installs.filter (fun i => i.tid ≠ t)).map (fun i => (i.allocs[(o - 264) / 4]?).getD 0)).sum

/-- The checks of R319 step 3 on masks and sums. -/
def State.sharesOk (s : State) (t : Nat) (x : TenParams) : Bool :=
  (s.part.keySearch || x.banks = 0) && (s.part.scan || x.lanes = 0)
    && (bitsOf x.banks 16).all (fun b => !s.bankTaken t b) && (bitsOf x.lanes 64).all (fun l => !s.laneTaken t l)
    && (!s.part.keySearch || s.unitFloor 16 ≤ popcount x.banks 16) && (!s.part.scan || s.unitFloor 64 ≤ popcount x.lanes 64)
    && (List.range 6).all (fun i => 100 * ((x.fields[i]?).getD 0 + s.otherAlloc t (264 + 4 * i)) ≤ (100 - s.ten.floorPct) * 2 ^ 20)

/-! ## Tenant Create (R317 to R320) -/

/-- A valid NQN: `nqn.` and more, at most 223 bytes, then zeros (NVMe). -/
def nqnOk (b : List Byte) : Bool :=
  let used := b.takeWhile (fun x => x ≠ 0)
  leAt b 0 4 = 0x2E6E716E && 5 ≤ used.length && used.length ≤ 223 && (b.drop used.length).all (fun x => x == 0)

/-- The slots no tenant holds or is about to hold. -/
def State.freeSlots (s : State) : List Nat :=
  ((List.range s.ten.tMax).map (· + 1)).filter (fun t => !(s.tenant t).occupied && !(s.stage.installs.any (fun i => i.tid = t)))
/-- A virtual function bound to a tenant other than `t`. -/
def State.vfTaken (s : State) (t v : Nat) : Bool :=
  s.ten.tbl.any (fun e => e.2.occupied && e.1 ≠ t && e.2.vf = v) || s.stage.installs.any (fun i => i.tid ≠ t && i.vf = v)

/-- The checks of R319 on the slot, the function, the NQN, the shares and the limits. -/
def State.createOk (s : State) (t : Nat) (b : List Byte) : Bool :=
  let x := tenParams b
  let vf := leAt b 2 1
  let nqn := leAt b 8 256
  let lim := fun (i : Nat) => (x.fields[i]?).getD 0
  s.freeSlots.contains t && !(vf ≠ 0 && s.vfTaken t vf) && nqnOk ((b.drop 8).take 256)
    && nqn ≠ mgrNqn && !s.ten.tbl.any (fun e => e.2.occupied && e.2.nqn = nqn) && !s.stage.installs.any (fun i => i.nqn = nqn)
    && s.sharesOk t x && s.limitOk (lim 3) (lim 6) s.part.nomBw && s.limitOk (lim 4) (lim 7) s.part.nomIops

/-- TENANT_CREATE (R319, R320). -/
def execTenantCreate (c : Cmd) (s : State) : Out :=
  adminCmd true c s (fun s =>
    let b := c.buf
    let x := tenParams b
    let tid := leAt b 0 2
    let vf := leAt b 2 1
    let nqn := leAt b 8 256
    let t := if tid = 0 then s.freeSlots.headD 0 else tid
    if s.pwr.mode = 1 ∨ dw10 c ≠ 0 ∨ zero11 c = false ∨ x.ok b = false ∨ tid > s.ten.tMax then s.refuse c .invalidField
    else if s.freeSlots.isEmpty then s.refuse c (.vendor 0x83)
    else if s.createOk t b = false then s.refuse c .invalidField
    else { s with stage.installs := s.stage.installs ++ [{ id := c.id, tid := t, vf := vf, flags := x.flags, maxScans := x.maxScans, nqn := nqn,
                                                           allocs := x.fields, banks := x.banks, lanes := x.lanes }] })

/-- The controller a bound virtual function presents (R266, R320). -/
def State.presentVf (s : State) (t v : Nat) : State :=
  if v = 0 then s else s.modCtrl v (fun _ => { exist := true, kind := .vf v, tenant := t })

/-- Install a tenant's entry at a boundary (R320). -/
def State.install (s : State) (i : Install) : State :=
  let s := s.each (tenFields.zip i.allocs) (fun s (e : Nat × Nat) => s.setBoth (stTenant i.tid e.1) e.2)
  let s := s.each (bitsOf i.banks 16) (fun s b => (s.setBoth (stBankOwner b) i.tid).endBankCursors b)
  let s := s.each (bitsOf i.lanes 64) (fun s l => s.setBoth (stLaneOwner l) i.tid)
  let s := s.modTenant i.tid (fun _ => { occupied := true, vf := i.vf, flags := i.flags, maxScans := i.maxScans, nqn := i.nqn })
  ((s.presentVf i.tid i.vf).log 0x0701 [i.tid, i.vf]).post i.id .success i.tid

/-! ## Tenant Reset and Tenant Delete (R327 to R330) -/

/-- Fields and refusals of R327; in service mode both are refused (R335). -/
def State.tenArgsOk (s : State) (c : Cmd) (del : Bool) : Bool :=
  let t := dw10 c % 65536
  s.pwr.mode ≠ 1 && field (dw10 c) 31 17 = 0 && zero11 c && (del || !(dw10 c).testBit 16) && t ≠ 0 && (s.tenant t).occupied
    && !(del && !(dw10 c).testBit 16 && s.media.nss.any (fun x => x.tenant = t && !x.dying))

/-- Steps 1 to 3 of R328 on every controller of a tenant. -/
def State.drainTenant (s : State) (t : Nat) : State :=
  let s := s.modTenant t (fun x => { x with squashed := 0, since := s.gbk.uptime })
  s.each (s.ctrlsOf t) (fun s i =>
    if (s.ctrl i).resetting then s.modCtrl i (fun k => { k with resetCause := 20 })
    else (s.modCtrl i (fun k => { k with resetting := true, en := false })).beginDrain i 20)

/-- Whether a tenant's drain still runs. -/
def State.tenDraining (s : State) (t : Nat) : Bool :=
  s.io.ctrls.any (fun e => e.2.exist && e.2.tenant = t && e.2.draining && e.2.resetCause = 20)

/-- Clear a tenant's search banks (R341). -/
def State.clearBanks (s : State) (t : Nat) : State :=
  let mine := fun (b : Nat) => s.inf (stBankOwner b) = t
  { s with
    srch.tcam := s.srch.tcam.filter (fun e => ¬mine (e.1 / 16384))
    srch.copies := s.srch.copies.filter (fun e => ¬mine (e.1 / 16384))
    srch.bad := s.srch.bad.filter (fun k => ¬mine (k / 16384))
    srch.abanks := s.srch.abanks.filter (fun e => ¬mine e.1) }

/-- A tenant's drain has ended (R328, R329). -/
def State.tenantDone (s : State) (t : Nat) : State :=
  let x := s.tenant t
  if s.tenDraining t then s
  else
    let n := min x.squashed 65535
    let s := if x.resetting = [] then s
      else
        let us := 1000 * (s.gbk.uptime - x.since) + s.freeVal % 2000 - 1000
        let s := s.took.log 0x0703 [t, x.squashed, us]
        let s := s.each x.resetting (fun s id => s.post id .success n)
        s.modTenant t (fun y => { y with resetting := [] })
    match x.deleting with
    | none => s.serveHeld
    | some ids =>
      if s.stage.frees.any (fun f => f.tid = t) then s
      else
        let s := s.serveHeld.clearBanks t
        let nss := s.media.nss.filter (fun y => x.destroy && y.tenant = t && !y.flags.testBit 1)
        let s := s.each nss (fun s y => s.setJob y 5 none)
        let s : State := { s with stage.frees := s.stage.frees ++ [{ ids := ids, tid := t, drained := x.squashed, nss := nss.length }] }
        s.settle

/-- Tenant Reset. -/
def State.tenantReset (s : State) (c : Cmd) : State :=
  let t := dw10 c % 65536
  let busy := !(s.tenant t).resetting.isEmpty || (s.tenant t).deleting.isSome
  let s := s.modTenant t (fun x => { x with resetting := x.resetting ++ [c.id] })
  if busy then s else (s.drainTenant t).tenantDone t

/-- Tenant Delete. -/
def State.tenantDelete (s : State) (c : Cmd) : State :=
  let t := dw10 c % 65536
  let x := s.tenant t
  if x.deleting.isSome then
    { s.modTenant t (fun x => { x with deleting := some (x.deleting.getD [] ++ [c.id]) }) with
      stage.frees := s.stage.frees.map (fun f => if f.tid = t then { f with ids := f.ids ++ [c.id] } else f) }
  else
    let busy := !x.resetting.isEmpty
    let s := s.modTenant t (fun x => { x with deleting := some [c.id], destroy := (dw10 c).testBit 16 })
    if busy then s else (s.drainTenant t).tenantDone t

/-- TENANT_RESET (R328). -/
def execTenantReset (c : Cmd) (s : State) : Out :=
  adminCmd true c s (fun s => s.check c (s.tenArgsOk c false) (fun s =>
    if s.io.paused then s.putOff (.tenReset c) else s.tenantReset c))
/-- TENANT_DELETE (R329). -/
def execTenantDelete (c : Cmd) (s : State) : Out :=
  adminCmd true c s (fun s => s.check c (s.tenArgsOk c true) (fun s =>
    if s.io.paused then s.putOff (.tenDelete c) else s.tenantDelete c))

/-- Free a deleted slot at a boundary: its shares, masks and entry (R329). -/
def State.freeSlot (s : State) (f : Free) : State :=
  let t := f.tid
  let s := s.each tenFields (fun s o => s.setBoth (stTenant t o) 0)
  let s := s.each ((List.range 16).filter (fun b => s.inf (stBankOwner b) = t ∨ s.sh (stBankOwner b) = t)) (fun s b => (s.setBoth (stBankOwner b) 0).endBankCursors b)
  let s := s.each ((List.range 64).filter (fun l => s.inf (stLaneOwner l) = t ∨ s.sh (stLaneOwner l) = t)) (fun s l => s.setBoth (stLaneOwner l) 0)
  let v := (s.tenant t).vf
  let s := if v = 0 then s else s.modCtrl v (fun _ => {})
  let hosts := (s.tenant t).hosts.map (fun h => h.nqn)
  let s := s.modTenant t (fun _ => {})
  let s : State := { s with media.nss := s.media.nss.map (fun x => if x.tenant = t ∧ x.job ≠ 5 ∧ x.flags.testBit 1 = false then { x with tenant := 0 } else x) }
  s.discNotice hosts

/-- Deleted slots at a boundary: freed, and completed once their namespaces are erased. -/
def State.settleFrees (s : State) : State :=
  s.each s.stage.frees (fun s f =>
    let s := if f.freed then s else s.freeSlot f
    if s.media.nss.any (fun x => x.tenant = f.tid && x.job = 5) then
      { s with stage.frees := s.stage.frees.map (fun g => if g.tid = f.tid then { g with freed := true } else g) }
    else
      let s : State := { s with stage.frees := s.stage.frees.filter (fun g => g.tid ≠ f.tid) }
      (s.log 0x0702 [f.tid, f.nss, f.drained]).each f.ids (fun s id => s.post id .success (min f.drained 65535)))

/-! ## The end of a drain (R297, R299 to R301) -/

/-- A fabric controller goes with its connections. -/
def State.ctrlGone (s : State) (ctrl : Nat) : State := (s.closeConns ctrl).modCtrl ctrl (fun _ => {})
/-- A controller is as after its reset: no queue, not ready, not enabled (R299). -/
def State.ctrlClear (s : State) (ctrl : Nat) : State :=
  s.modCtrl ctrl (fun k => { k with sqs := [], cqs := [], rdy := false, en := false, resetting := false, draining := false, shn := 0, shst := 0, sqDels := [] })

/-- DRAIN_COMPLETE: the controller's started commands have all ended. -/
def execDrainComplete (ctrl : Nat) (s : State) : Out :=
  let k := s.ctrl ctrl
  let s := s.settleSqDels ctrl
  if k.draining = false ∨ s.io.flights.any (fun f => f.c.id.ctrl = ctrl) then .next s
  else
    let n := k.drainCount
    if k.resetCause = 30 then .next (s.modCtrl ctrl (fun k => { k with shst := 2, draining := false }))
    else if k.resetCause = 20 then
      .next ((if k.pcie then s.ctrlClear ctrl else s.ctrlGone ctrl).tenantDone k.tenant)
    else if k.resetCause = 40 then .next (s.ctrlGone ctrl)
    else if k.resetCause ≥ 10 then
      .next ((s.ctrlGone ctrl).log 0x060A [ctrl, k.resetCause - 10, n]).serveHeld
    else
      let s := s.log 0x0609 [ctrl, k.resetCause, n]
      .next (if k.pcie = false ∧ k.resetCause = 3 then (s.ctrlGone ctrl).serveHeld else s.ctrlClear ctrl)

/-- FLR (R266, R299, R487): function 0 is PF0. -/
def execFlr (fn : Nat) (s : State) : Out :=
  let s := if fn = 0 ∧ s.host.pcieUp then s.dmaBusLost else s
  let k := s.ctrl fn
  if s.pwr.phase ≠ .run ∨ k.exist = false ∨ k.pcie = false ∨ s.pwr.mode = 1 ∧ fn ≠ 0 then .next s
  else .next (s.resetCtrl fn 1)

/-! ## Tenant Modify (R321, R323) -/

/-- Tenant Modify's shared checks: the action, the reserved fields, the tenant, and service mode (R335). -/
def modifyCmd (action : Nat) (c : Cmd) (argOk : Bool) (s : State) (f : Nat → State → State) : Out :=
  adminCmd true c s (fun s =>
    let t := dw10 c % 65536
    let zeroTid := action = 5 || action = 1
    s.check c (s.pwr.mode ≠ 1 && field (dw10 c) 31 20 = 0 && field (dw10 c) 19 16 = action && zero12 c && argOk
      && ((zeroTid && t = 0) || (action ≠ 5 && (s.tenant t).occupied))) (f t))

/-- Code 0x0704. -/
def State.modified (s : State) (t action arg : Nat) : State := s.log 0x0704 [t, action, arg]

/-- RESOURCES (R321). -/
def execResources (c : Cmd) (s : State) : Out :=
  modifyCmd 0 c (c.cdw11 = 0) s (fun t s =>
    let b := c.buf
    let x := tenParams b
    s.check c (x.ok b && zeroBytes b 0 2 && zeroBytes b 8 263 && s.sharesOk t x) (fun s =>
      let ten := (tenFields.zip x.fields).map (fun (e : Nat × Nat) => (stTenant t e.1, e.2))
      let own := fun (key : Nat → Nat) (mask n : Nat) => (List.range n).filterMap (fun i =>
        if mask.testBit i then some (key i, t)
        else if s.sh (key i) = t ∨ s.inf (key i) = t then some (key i, 0) else none)
      s.stageFor c.id (ten ++ own stBankOwner x.banks 16 ++ own stLaneOwner x.lanes 64) (.resources t x.flags x.maxScans)))

/-- A host-list entry (R323). -/
def hostAt (b : List Byte) (i : Nat) : HostEnt :=
  let o := 16 + 512 * i
  { nqn := leAt b o 256, keyLen := leAt b (o + 256) 1, ckeyLen := leAt b (o + 257) 1, transform := leAt b (o + 258) 1,
    key := leAt b (o + 264) 64, ckey := leAt b (o + 328) 64 }
def hostOk (needKey : Bool) (b : List Byte) (i : Nat) : Bool :=
  let o := 16 + 512 * i
  let h := hostAt b i
  let len := fun (n : Nat) => n = 0 || n = 32 || n = 48 || n = 64
  len h.keyLen && len h.ckeyLen && h.transform ≤ 3 && zeroBytes b (o + 259) (o + 263) && zeroBytes b (o + 392) (o + 511)
    && !(needKey && h.keyLen = 0)

/-- The host list of a tenant, tenant 0's being the Manager's. -/
def State.hostsOf (s : State) (t : Nat) : List HostEnt := if t = 0 then s.ten.mgrHosts else (s.tenant t).hosts
def State.setHosts (s : State) (t : Nat) (l : List HostEnt) : State :=
  if t = 0 then { s with ten.mgrHosts := l } else s.modTenant t (fun x => { x with hosts := l })
/-- The limits of a list of `n` entries, and the check of each (R323). -/
def State.hostsOk (s : State) (t n : Nat) (b : List Byte) : Bool :=
  let others := (if t = 0 then 0 else s.ten.mgrHosts.length)
    + ((s.ten.tbl.filter (fun e => e.1 ≠ t)).map (fun e => e.2.hosts.length)).sum
  n ≤ (if t = 0 then 8 else 64) && n + others ≤ 1024 && zeroBytes b 2 15 && (List.range n).all (hostOk (t = 0 || (s.tenant t).flags.testBit 0) b)

/-- HOSTS (R323). -/
def execHosts (c : Cmd) (s : State) : Out :=
  modifyCmd 1 c (c.cdw11 = 0) s (fun t s =>
    let n := leAt c.buf 0 2
    s.check c (s.hostsOk t n c.buf) (fun s =>
      let l := (List.range n).map (hostAt c.buf)
      (((s.setHosts t l).discNotice ((s.hostsOf t ++ l).map (fun h => h.nqn)).dedup).modified t 1 0).post c.id .success))

/-- A virtual function leaves its tenant: its controller is reset and presents nothing (R321). -/
def State.unbindVf (s : State) (v : Nat) : State :=
  if v = 0 ∨ (s.ctrl v).exist = false then s
  else if (s.ctrl v).resetting then s.modCtrl v (fun k => { k with resetCause := 40 })
  else (s.modCtrl v (fun k => { k with resetting := true, en := false })).beginDrain v 40

/-- A tenant takes a virtual function (none for 0), and leaves the one it had. -/
def State.bind (s : State) (t v : Nat) : State :=
  let old := (s.tenant t).vf
  let s := if old ≠ v then s.unbindVf old else s
  let s := s.modTenant t (fun x => { x with vf := v })
  if v ≠ 0 ∧ old ≠ v then s.presentVf t v else s

/-- BIND_VF (R321). -/
def execBindVf (c : Cmd) (s : State) : Out :=
  let v := dw11 c % 256
  modifyCmd 2 c (field (dw11 c) 31 8 = 0) s (fun t s =>
    s.check c (!(v ≠ 0 && s.vfTaken t v)) (fun s => ((s.bind t v).modified t 2 v).post c.id .success))

/-- Segments a tenant's namespaces reserve in a pool (R316). -/
def State.tenSegs (s : State) (t p : Nat) : Nat := ((s.media.nss.filter (fun x => x.pool = p ∧ x.tenant = t)).map s.segCount).sum

/-- NS_ASSIGN (R316, R321). -/
def execNsAssign (c : Cmd) (s : State) : Out :=
  modifyCmd 3 c true s (fun t s =>
    match s.ns? (dw11 c) with
    | none => s.refuse c .invalidField
    | some x =>
      s.check c (x.tenant = 0 && x.attached.isEmpty && x.job = 0 && s.tenSegs t x.pool + s.segCount x ≤ s.guar t 284 (s.segTotal x.pool)) (fun s =>
        let s := s.modNs x.nsx (fun y => { y with tenant := t })
        let s := (s.nsChanged (s.ctrlsOf t) x).modified t 3 x.nsid
        (s.writeRoot x.pool (.rootGen x.pool (some c.id) 0)).settle))

/-- NS_RELEASE (R334). -/
def execNsRelease (c : Cmd) (s : State) : Out :=
  modifyCmd 4 c true s (fun t s =>
    match s.ns? (dw11 c) with
    | none => s.refuse c .invalidField
    | some x =>
      s.check c (x.tenant = t && x.job = 0 && !x.flags.testBit 1) (fun s =>
        let s := (s.nsChanged (s.ctrlsOf t) x).modified t 4 x.nsid
        (s.setJob x 4 (some c.id)).settle))

/-- Whether `T_MAX`, the floor and the PF0 setting may be taken: every tenant fits, the shares fit in force and in the shadow, and someone keeps the Manager's privilege. -/
def State.globalOk (s : State) (tmax f : Nat) (mgr : Bool) : Bool :=
  let sums := fun (g : Nat → Nat) => [264, 268, 272, 276, 280, 284].all (fun o =>
    100 * ((s.tenants.map (fun t => g (stTenant t o))).sum) ≤ (100 - f) * 2 ^ 20)
  1 ≤ tmax && s.tenants.all (fun t => t ≤ tmax) && tmax ≤ s.part.tenants && f ≤ 50 && sums s.inf && sums s.sh && !(!mgr && s.ten.mgrHosts.isEmpty)

/-- GLOBAL (R312, R313, R321). -/
def execGlobal (c : Cmd) (s : State) : Out :=
  let tmax := dw11 c % 65536
  let f := field (dw11 c) 23 16
  let mgr := (dw11 c).testBit 24
  modifyCmd 5 c (field (dw11 c) 31 25 = 0) s (fun _ s =>
    s.check c (s.globalOk tmax f mgr) (fun s =>
      let s : State := { s with ten.pf0Mgr := mgr, ten.nextTMax := tmax, ten.nextFloor := f }
      (s.modified 0 5 0).post c.id .success))

/-- Privilege and fields of a Set Features FID reserved to the Manager (R280). -/
def mgrFeature (c : Cmd) (s : State) (f : State → State) : Out :=
  adminCmd false c s (fun s => if s.isManager c.id.ctrl then f s else s.refuse c .invalidField)

/-- TENANT_QOS (R322). -/
def execTenantQos (c : Cmd) (s : State) : Out :=
  mgrFeature c s (fun s =>
    let t := dw11 c % 65536
    s.check c (field (dw11 c) 31 16 = 0 && t ≠ 0 && (s.tenant t).occupied) (fun s =>
      s.stageFor c.id [(stTenant t 288, dw12 c), (stTenant t 292, dw13 c)] .plain))

/-! ## Slices (R338) -/

/-- Reset slice controllers; code 0x0609 lists no cause for it, so the cause is free. -/
def State.resetSlices (s : State) (mask : Nat) : State :=
  s.each ((bitsOf mask 16).map (· + 1)) (fun s k => (s.took).resetCtrl k (s.freeVal % 4))

/-- SLICE_RESET (R338). -/
def execSliceReset (p : Path) (v : Word) (s : State) : Out :=
  winWrite p (dwSLICE + 4) s (fun s => if s.pwr.mode = 1 then s.resetSlices (v.toNat % 65536) else s)

/-- WIPE (R338). -/
def execWipe (p : Path) (s : State) : Out :=
  winWrite p (dwSLICE + 4) s (fun s =>
    if s.pwr.mode ≠ 1 then s
    else
      let s := s.resetSlices 0xFFFF
      (s.each (s.media.nss.filter (fun x => x.flags.testBit 1 && x.job = 0)) (fun s x => s.setJob x 7 none)).settle)

end Sys2Proof.Machine
end

