-- ==== Sys2Proof/Machine/Pools.lean ====
section
/-! DEFINITION. Media Pool Configure and Cartridge Service (R138 to R143, R149, R150, R173 to R175, R244 to R246). -/

namespace Sys2Proof.Machine

/-! ## Media Pool Configure (R140 to R143) -/

/-- The parameter structure of R141. -/
structure PoolArgs where
  slots : Nat
  n : Nat
  logPm : Nat
  spare : Nat
  flags : Nat
  deriving DecidableEq, Repr
def poolArgs (b : List Byte) : PoolArgs :=
  { slots := leAt b 0 8, n := leAt b 8 1, logPm := leAt b 9 1, spare := leAt b 10 1, flags := leAt b 11 1 }

/-- Reserved and unused fields, the named slots and the ranges (R141, R142, first case). -/
def State.poolFields (s : State) (act : Nat) (c : Cmd) : Bool :=
  let a := poolArgs c.buf
  dw10 c / 64 = 0 && dw10 c % 16 = act && zero11 c
    && (act ≥ 4 || zeroBytes c.buf 12 63)
    && (match act with
      | 0 => a.slots < 2 ^ s.part.slots && 4 ≤ a.n && a.n ≤ 32 && a.logPm ≤ 20 && a.spare ≤ 4 && a.flags < 4
      | 1 => a.slots < 2 ^ s.part.slots && zeroBytes c.buf 8 11
      | 2 => a.slots < 2 ^ s.part.slots && zeroBytes c.buf 8 11
      | 3 => zeroBytes c.buf 0 7 && (a.n = 0 || 4 ≤ a.n && a.n ≤ 32) && a.logPm ≤ 20 && (a.spare ≤ 4 || a.spare = 0xFF) && a.flags < 4
      | _ => true)

/-- Slots that a waiting CREATE has taken. -/
def State.creatingSlots (s : State) : List Nat :=
  s.stage.waiting.flatMap (fun w => match w.kind with | .poolCreate _ slots _ _ _ => bitsOf slots 64 | _ => [])
/-- Pools that a waiting CREATE makes. -/
def State.creatingPools (s : State) : List Nat :=
  s.stage.waiting.filterMap (fun w => match w.kind with | .poolCreate p _ _ _ _ => some p | _ => none)

/-- Whether a cartridge belongs to a pool whose census has not ended, or is held by one that was not assembled (R200). -/
def State.claimed (s : State) (n : Nat) : Bool :=
  (s.slot n).held.isSome || s.creatingSlots.contains n
    || s.media.pools.any (fun e => (e.2.pstate = 1 || e.2.pstate = 3) && e.2.root.any (fun g => g.members.any (fun m => m.serial = (s.slot n).serial)))

/-- Whether the pool exists for the commands, and no DELETE of it has been accepted. -/
def State.poolReady (s : State) (p : Nat) : Bool := (s.pool p).exist && (s.pool p).pstate = 2 && !(s.pool p).deleting
/-- Whether an action other than CREATE waits for the end of the pool's census (assumption log 61). -/
def State.poolWaits (s : State) (act : Nat) (c : Cmd) : Bool :=
  let q := s.pool (dw10 c / 16 % 4)
  act ≠ 0 && q.exist && (q.pstate = 1 || q.pstate = 3) && s.poolFields act c

/-- `LOG_PM` at CREATE: 2 when 0. -/
def PoolArgs.logOr (a : PoolArgs) (d : Nat) : Nat := if a.logPm = 0 then d else a.logPm
def PoolArgs.spareOr (a : PoolArgs) (d : Nat) : Nat := if a.spare = 0xFF then d else a.spare

/-- The conditions under which a pool cannot give up `k` cartridges (R142, R245): too few for a namespace, or no room for the data. -/
def State.cannotLose (s : State) (p k : Nat) : Bool :=
  let q := s.pool p
  let left := (s.inService p).length - k
  (s.poolNss p).any (fun x => left < x.nNs + 4 + q.spare)
    || (s.segReserved p ≠ 0 && (left < 5 || q.segTotal left (s.nOf p) q.logPm q.spare < s.segReserved p))

/-- The refusals of R142, in the order of its table. -/
def State.poolRefusal (s : State) (act : Nat) (c : Cmd) : Option Status :=
  let a := poolArgs c.buf
  let p := dw10 c / 16 % 4
  let q := s.pool p
  let named := if act ≤ 2 then bitsOf a.slots 64 else []
  let joins : Bool := act ≤ 1
  let cls := if act = 0 then ((named.head?).map (fun n => (s.slot n).cls)).getD [] else q.cls
  let newN := if a.n = 0 then s.nOf p else a.n
  let newSpare := a.spareOr q.spare
  let newLog := a.logOr q.logPm
  if s.poolFields act c = false then some .invalidField
  else if (if act = 0 then q.exist || s.creatingPools.contains p else !s.poolReady p) then some .invalidField
  else if named.any (fun n => (s.slot n).st = .quarantined) then some (.vendor 0x88)
  else if joins && named.any (fun n => (s.slot n).st ≠ .admitted || s.claimed n) then some .invalidField
  else if act = 2 && named.any (fun n => (s.slot n).st ≠ .inService || (s.slot n).pool ≠ some p) then some .invalidField
  else if joins && named.any (fun n => (s.slot n).retireBits ≠ 0) then some .invalidField
  else if joins && named.any (fun n => (s.slot n).cls ≠ cls) then some .invalidField
  else if act = 0 && named.length < a.n + 4 + a.spare then some .invalidField
  else if act = 3 && newN + 4 + newSpare > (s.inService p).length then some .invalidField
  else if act = 0 && !s.dramFits p { cls := cls } named.length a.n (a.logOr 2) then some .invalidField
  else if act = 1 && !s.dramFits p q (q.carts + named.length) (s.nOf p) q.logPm then some .invalidField
  else if act = 3 && !s.dramFits p q q.carts newN newLog then some .invalidField
  else if act = 2 && s.cannotLose p named.length then some (.vendor 0x84)
  else if act = 3 && (newSpare > q.spare || newLog > q.logPm) && q.segTotal q.carts newN newLog newSpare < s.segReserved p then some (.vendor 0x84)
  else if act = 4 && (s.media.nss.any (fun x => x.pool = p)) then some .invalidField
  else none

/-- The settings of SET take effect. -/
def State.applySet (s : State) (p logPm spare flags : Nat) (id : CmdId) : State :=
  let s := s.modPool p (fun q => { q with logPm := logPm, spare := spare, flags := flags })
  ((s.log 0x0414 [p, 3, 0]).writeRoot p (.rootGen p (some id) 0)).settle

/-- The write state of a pool (R145): 1 normal, 2 narrow, 3 writes refused. -/
def State.writeState (s : State) (p : Nat) : Nat := if s.nLog p < 4 then 3 else if (s.pool p).narrow then 2 else 1

/-- The pool report (R175). -/
def State.poolReport (s : State) (p : Nat) : List Byte :=
  let q := s.pool p
  let slots := s.poolSlots p
  let failed := (s.slots.filter (fun e => e.2.st = .failed ∧ e.2.lastPool = some p)).map (·.1)
  pageOf 1024 ([(0, 1, s.writeState p), (1, 1, s.nOf p), (2, 1, s.nLog p), (3, 1, q.logPm), (4, 1, q.spare), (5, 1, q.flags),
    (6, 2, (s.inService p).length), (8, 8, ((slots ++ failed).map (fun n => 2 ^ n)).sum), (16, 8, s.segTotal p), (24, 8, s.segReserved p),
    (32, 8, s.logCap p), (40, 8, s.logLive p), (48, 2, s.logOcc p), (50, 2, s.openDirects p), (52, 4, (s.foldQueue p).length)]
    ++ q.counters.map (fun e => (e.1, 8, e.2))
    ++ slots.map (fun n => (512 + 8 * n, 8, (s.slot n).forecast + 65536 * (s.slot n).life)))

/-- Make the pool of a CREATE whose check passed (R143). -/
def State.makePool (s : State) (p slots logPm spare flags : Nat) (id : CmdId) : State :=
  let ns := (bitsOf slots 64).filter (fun n => (s.slot n).st = .admitted)
  let cls := ((ns.head?).map (fun n => (s.slot n).cls)).getD []
  let s := s.modPool p (fun _ => { exist := true, cls := cls, logPm := logPm, spare := spare, flags := flags, pstate := 2 })
  let s := s.each ns (fun s n => s.joinPool p n)
  ((s.log 0x0414 [p, 0, slots]).writeRoot p (.rootGen p (some id) 0)).settle

/-- The action of an accepted Media Pool Configure command (R143): SET with a new `N` and CREATE are staged; the others write a root generation and complete when it is durable (R193), a DELETE one that lists no members. DESIGN CHOICE (assumption log 95): `SLOTS` of code 0x0414 is 0 for DELETE and REPORT, which name no slots. -/
def State.poolAct (s : State) (act p : Nat) (a : PoolArgs) (id : CmdId) : State :=
  let q := s.pool p
  match act with
  | 0 => s.stageFor id [(stBandWidth p, a.n)] (.poolCreate p a.slots (a.logOr 2) a.spare a.flags)
  | 1 =>
    let s := s.each (bitsOf a.slots 64) (fun s n => s.joinPool p n)
    ((s.log 0x0414 [p, 1, a.slots]).writeRoot p (.rootGen p (some id) 0)).settle
  | 2 =>
    let s := s.each (bitsOf a.slots 64) (fun s n => s.startDrain n .remove)
    ((s.log 0x0414 [p, 2, a.slots]).writeRoot p (.rootGen p (some id) 0)).settle
  | 3 =>
    if a.n = 0 ∨ a.n = s.nOf p then s.applySet p (a.logOr q.logPm) (a.spareOr q.spare) a.flags id
    else s.stageFor id [(stBandWidth p, a.n)] (.poolSet p (a.logOr q.logPm) (a.spareOr q.spare) a.flags)
  | 4 =>
    let s := (s.log 0x0414 [p, 4, 0]).modPool p (fun q => { q with deleting := true })
    (s.putRoot p { s.rootNow p with members := [], nss := [], regs := [], jblocks := [], openBands := 0 } (.poolGone p id)).settle
  | _ => (s.log 0x0414 [p, 5, 0]).post id .success 0 0 (s.poolReport p)

/-- A Media Pool Configure command that has reached its pool: refused, or its action. -/
def State.poolGo (s : State) (act : Nat) (c : Cmd) : State :=
  match s.poolRefusal act c with
  | some st => s.refuse c st
  | none => s.poolAct act (dw10 c / 16 % 4) (poolArgs c.buf) c.id

/-- A Media Pool Configure command: it waits where the pool's census has not ended. -/
def poolCmd (act : Nat) (c : Cmd) (s : State) : Out :=
  adminCmd true c s (fun s =>
    if s.poolWaits act c then { s with media.late := s.media.late ++ [c] } else s.poolGo act c)

/-- The commands that waited for a pool's census run when it has ended, in their order. -/
def State.runLate (s : State) (p : Nat) : State :=
  let l := s.media.late.filter (fun c => dw10 c / 16 % 4 = p)
  ({ s with media.late := s.media.late.filter (fun c => dw10 c / 16 % 4 ≠ p) } : State).each l (fun s c => s.poolGo (dw10 c % 16) c)

/-- POOL_CREATE: `N` is staged; the pool is made when the boundary check passes. -/
def execPoolCreate (c : Cmd) (s : State) : Out := poolCmd 0 c s
/-- POOL_ADD: the command completes when the root generation is durable (R193). -/
def execPoolAdd (c : Cmd) (s : State) : Out := poolCmd 1 c s
/-- POOL_REMOVE: the command completes once migration has started and the root generation is durable. -/
def execPoolRemove (c : Cmd) (s : State) : Out := poolCmd 2 c s
/-- POOL_SET: with a new `N` it is staged, otherwise it takes effect at once. -/
def execPoolSet (c : Cmd) (s : State) : Out := poolCmd 3 c s
/-- POOL_DELETE (R142, R193): when its generation is durable the pool is gone and the command completes. -/
def execPoolDelete (c : Cmd) (s : State) : Out := poolCmd 4 c s
/-- POOL_REPORT (R175). -/
def execPoolReport (c : Cmd) (s : State) : Out := poolCmd 5 c s

/-! ## Cartridge Service (R244 to R246) -/

/-- A Cartridge Service command: the checks of R246 in their order, then the action. -/
def cartService (act : Nat) (c : Cmd) (s : State) (ok : Nat → State → Option Status) (f : Nat → State → State) : Out :=
  adminCmd true c s (fun s =>
    let n := dw10 c % 256
    if dw10 c / 4096 ≠ 0 ∨ dw10 c / 256 % 16 ≠ act ∨ zero11 c = false ∨ n ≥ s.part.slots then s.refuse c .invalidField
    else if (s.slot n).st = .quarantined ∧ act ≠ 2 ∧ act ≠ 3 then s.refuse c (.vendor 0x88)
    else match ok n s with
      | some st => s.refuse c st
      | none => f n s)

/-- Complete an accepted action (R246). -/
def State.served (s : State) (c : Cmd) (act n : Nat) : State :=
  let st := (s.slot n).st.code
  (s.log 0x0520 [n, act, st]).post c.id .success st

/-- Accept an action in some slot states only. -/
def inStates (ok : Slot → Bool) (n : Nat) (s : State) : Option Status := if ok (s.slot n) then none else some .invalidField

/-- DRAIN: completes once migration has started. -/
def execDrain (c : Cmd) (s : State) : Out :=
  cartService 0 c s (fun n s =>
    if (s.slot n).st ≠ .inService then some .invalidField
    else match (s.slot n).pool with
      | some p => if s.cannotLose p 1 then some (.vendor 0x84) else none
      | none => some .invalidField)
    (fun n s => ((s.startDrain n .service).served c 0 n).settle)

/-- UNDRAIN: the slot returns to service. -/
def execUndrain (c : Cmd) (s : State) : Out :=
  cartService 1 c s (inStates (fun x => x.st = .draining && x.drain = some .service && x.retireBits = 0))
    (fun n s =>
      let p := (s.slot n).pool.getD 0
      let s := s.modSlot n (fun x => { x with st := .inService, drain := none })
      let s := s.abandon (fun u => u.restore = 1 && u.band.any (fun b => ((s.band b).members.getD u.mp ⟨64, 0, 0⟩).slot = n))
      let s := s.modPool p (fun q => { q with members := q.members.map (fun m => if m.slot = n ∧ m.st = 1 then { m with st := 0 } else m) })
      (((s.writeRoot p .nothing).checkNarrow p).served c 1 n).settle)

/-- Whether no band of a slot's pool is degraded (R63). -/
def State.poolWhole (s : State) (p : Nat) : Bool :=
  s.media.bands.all (fun e => e.2.role = 0 || e.2.shavings || e.2.pool ≠ p || e.2.slots.all (fun m => m < 64 && !(s.slot m).slow))

/-- SEQ_UPDATE: completes when the update ends; a cartridge in service is updated as in R63. -/
def execSeqUpdate (c : Cmd) (s : State) : Out :=
  cartService 2 c s (inStates (fun x => (x.st = .quarantined || x.st = .inService || x.st = .admitted) && !x.updating && s.bundled x.model))
    (fun n s =>
      let x := s.slot n
      let s := s.modSlot n (fun x => { x with updCmd := some c.id })
      if x.st = .inService then
        if s.poolWhole (x.pool.getD 0) ∧ ¬s.slots.any (fun e => e.2.rolling) then (s.startUpdate n).modSlot n (fun x => { x with rolling := true }) else s
      else s.startUpdate n)

/-- POWER_OFF: as `CART_CTRL.PWR_OFF` (R74). -/
def execPowerOff (c : Cmd) (s : State) : Out :=
  cartService 3 c s (inStates (fun x => !(x.st = .inService || x.st = .draining || x.st = .empty || x.st = .off)))
    (fun n s => (s.pwrOff n).served c 3 n)

/-- POWER_ON: as `CART_CTRL.PWR_ON` (R74). -/
def execPowerOn (c : Cmd) (s : State) : Out :=
  cartService 4 c s (inStates (fun x => x.st = .off || x.st = .rejected || x.st = .failed))
    (fun n s => (s.pwrOn n).served c 4 n)

/-- RELEASE: the claim of an unassembled pool is dropped (R200). -/
def execRelease (c : Cmd) (s : State) : Out :=
  cartService 5 c s (inStates (fun x => x.st = .admitted && x.held.isSome))
    (fun n s => (s.modSlot n (fun x => { x with held := none })).served c 5 n)

/-- ROLLING_SEQ_UPDATE (R63): one cartridge at a time, while no band of its pool is degraded. -/
def execRollingSeqUpdate (n : Nat) (s : State) : Out :=
  onSlot s n (fun s =>
    let x := s.slot n
    if s.pwr.phase ≠ .run ∨ x.st ≠ .inService ∨ x.updating ∨ x.phase ≠ 5 ∨ s.bundled x.model = false
        ∨ (s.compatSeq x.model x.fwVer ∧ x.updCmd.isNone) ∨ s.slots.any (fun e => e.2.rolling)
        ∨ s.poolWhole (x.pool.getD 0) = false ∨ (x.updTried ∧ x.updCmd.isNone) then s
    else (s.startUpdate n).modSlot n (fun x => { x with rolling := true }))

end Sys2Proof.Machine
end

