-- ==== Sys2Proof/Machine/Epoch.lean ====
section
/-! DEFINITION. The epoch boundary: the check of the armed set, what follows it, and the refill of the rate classes (R29 to R41, R320, R325, R329). -/

namespace Sys2Proof.Machine

/-! ## The check (R32 to R34, R41) -/

/-- The counts of R41, as the window found them; without a window, as they stand now. -/
def State.checkIn (s : State) : CheckIn :=
  let ts := if s.stage.open' then s.stage.winTenants else s.tenants
  let admitted := if s.stage.open' then s.stage.winAdmitted else s.admittedSlots
  let due := s.stage.waiting.filter (fun w => w.boundary ≤ s.stage.epoch)
  { tenants := ts.filter (fun t => !(s.stage.frees.any (fun f => f.tid = t && !f.freed)))
    carts := if s.stage.open' then s.stage.winCarts else [0, 1, 2, 3].map (fun p => (s.inService p).length)
    creating := due.filterMap (fun w => match w.kind with
      | .poolCreate p slots _ _ _ => some (p, ((bitsOf slots 64).filter (fun n => admitted.contains n)).length)
      | _ => none)
    staged := due.flatMap (fun w => w.keys) }

/-- What an accepted command does besides its fields, and its completion. -/
def State.acceptStaged (s : State) (w : StageCmd) : State :=
  match w.kind with
  | .plain => s.post w.id .success
  | .resources t flags scans => ((s.modTenant t (fun x => { x with flags := flags, maxScans := scans })).log 0x0704 [t, 0, 0]).post w.id .success
  | .poolCreate p slots logPm spare flags => s.makePool p slots logPm spare flags w.id
  | .poolSet p logPm spare flags => s.applySet p logPm spare flags w.id

/-- Banks and lanes that change hands: cursors end, lanes stop at their release point (R321, R341, R353, R375). -/
def State.ownersChanged (s : State) (old : Cells Nat) : State :=
  let s := s.each ((List.range 16).filter (fun b => stGet old (stBankOwner b) ≠ s.inf (stBankOwner b))) (fun s b => s.endBankCursors b)
  if (List.range 64).any (fun l => stGet old (stLaneOwner l) ≠ s.inf (stLaneOwner l)) then
    s.each (s.srch.scans.map Scan.sid) (fun s k => s.checkScan k)
  else s

/-- The armed set passes (R33). -/
def State.applySetR33 (s : State) (m : Cells Nat) (due : List StageCmd) : State :=
  let old := s.dw.inForce
  let s : State := { s with dw.inForce := m }
  let s := (s.raise (dwSTAGE + 0x10) 8).ownersChanged old
  s.each due (fun s w => s.acceptStaged w)

/-- The armed set fails (R34, R38). -/
def State.rejectSet (s : State) (m : Cells Nat) (i : CheckIn) (r : Nat) (due : List StageCmd) : State :=
  let loc := rejectLoc (s.implicated m i r)
  let s : State := { s with stage.rule := r, stage.rejectAddr := loc }
  let s := (s.raise (dwSTAGE + 0x10) 4).log 0x0105 [r, s.stage.epoch, loc]
  let keep := s.stage.keptKeys
  let s := s.each ((due.flatMap (fun w => w.keys)).filter (fun k => !keep.contains k)) (fun s k => s.setSh k (s.inf k))
  s.each due (fun s w => s.post w.id (.vendor 0x85))

/-- The boundary check, where one is due. -/
def State.boundaryCheck (s : State) : State :=
  if s.stage.armed = false ∨ s.stage.commitEpoch > s.stage.epoch then { s with stage.window := none }
  else
    let m := s.stage.window.getD s.dw.shadow
    let i := s.checkIn
    let due := s.stage.waiting.filter (fun w => w.boundary ≤ s.stage.epoch)
    let fail := s.failing m i
    let s : State := { s with
      stage.window := none
      stage.armed := s.stage.later
      stage.commitEpoch := if s.stage.later then s.stage.epoch + 1 else s.stage.commitEpoch
      stage.later := false
      stage.waiting := s.stage.waiting.filter (fun w => w.boundary > s.stage.epoch) }
    match fail with
    | none => s.applySetR33 m due
    | some r => s.rejectSet m i r due

/-! ## The rate classes (R325) -/

/-- The tenants that hold a balance: tenant 0 and every occupied slot. -/
def State.payers (s : State) : List Nat := 0 :: s.tenants

/-- The refill of one class. -/
def State.refill (s : State) (c : Nat) : State :=
  let cap := s.capE c
  let ps := s.payers
  let s := s.each ps (fun s t =>
    let used := match s.limitE c t with | none => 0 | some l => s.usedTok c t - l
    let tok : Int := min (s.tok c t) 0 + ((s.gNum t (allocOf c) * cap : Nat) : Int)
    { s with io.tok := place s.io.tok (c, t) tok, io.used := place s.io.used (c, t) used })
  let given := (ps.map (fun t => s.gNum t (allocOf c))).sum
  { s with io.spare := (List.range 3).map (fun k => if k = c then (s.gDen - given) * cap else s.spareTok k) }

/-- Commands held at stages 3 and 4, in the order in which they began waiting. -/
def insWait (e : Nat × CmdId) : List (Nat × CmdId) → List (Nat × CmdId)
  | [] => [e]
  | a :: l => if e.1 < a.1 then e :: a :: l else a :: insWait e l
def State.waitingIds (s : State) : List CmdId :=
  ((s.io.flights.filter (fun f => f.stage = .held 3 || f.stage = .held 4)).foldr (fun f l => insWait (f.ord, f.c.id) l) []).map (·.2)

/-- Unused tokens of a tenant with nothing waiting at stage 4 pass to the spare. -/
def State.passTokens (s : State) (t : Nat) : State :=
  if s.io.flights.any (fun f => f.tenant = t ∧ f.stage = .held 4) then s
  else s.each [0, 1, 2] (fun s c =>
    let v := (max (s.tok c t) 0).toNat
    { s with
      io.spare := (List.range 3).map (fun k => if k = c then s.spareTok c + v else s.spareTok k)
      io.tok := place s.io.tok (c, t) (min (s.tok c t) 0) })

/-- The rate classes at a boundary. -/
def State.refillAll (s : State) : State :=
  let s := s.each [0, 1, 2] (fun s c => s.refill c)
  let s := s.each s.waitingIds (fun s id => s.resume id)
  s.each s.payers (fun s t => s.passTokens t)

/-- What a boundary does after the check: new tenants, freed slots, the rate classes, and work that waited for it (R38, R320, R325, R329). -/
def State.afterCheck (s : State) : State :=
    let l := s.stage.installs
    let s := ({ s with stage.installs := [] } : State).each l (fun s i => s.install i)
    let s := s.settleFrees
    let s := s.each s.poolIds (fun s p => s.checkLog p)
    s.refillAll.settle

/-- EPOCH_BOUNDARY (R33, R34, R37). -/
def execEpochBoundary (s : State) : Out :=
  if s.coreOn = false then .next s
  else .next (({ s with stage.epoch := s.stage.epoch + 1 } : State).boundaryCheck.afterCheck)

end Sys2Proof.Machine
end

