-- ==== Sys2Proof/Machine/Firmware.lean ====
section
/-! DEFINITION. Firmware images: the checks of a slot, download, commit, activation and the boot record (R423 to R444). -/

namespace Sys2Proof.Machine

/-! ## Reading the flash (R402, R407) -/

/-- A byte of the flash; an erased word reads as ones. -/
def State.flashByte (s : State) (a : Nat) : Nat :=
  let w := s.fword (a / 32)
  if w.written then w.data.toNat / 256 ^ (a % 32) % 256 else 255
/-- `n` bytes from an address, least significant first. -/
def State.flashLe (s : State) (a : Nat) : Nat → Nat
  | 0 => 0
  | n + 1 => s.flashByte a + 256 * s.flashLe (a + 1) n
/-- The same as bytes. -/
def State.flashBytes (s : State) (a n : Nat) : List Byte := (List.range n).map (fun i => BitVec.ofNat 8 (s.flashByte (a + i)))
/-- Whether bytes `lo` to `hi` from a base are zero. -/
def State.flashZero (s : State) (base lo hi : Nat) : Bool := (List.range (hi + 1 - lo)).all (fun i => s.flashByte (base + lo + i) == 0)

/-- The base of a firmware slot's bank (R402). -/
def slotBase (slot : Nat) : Nat := if slot = 2 then 0xC00000 else 0
/-- The flash address of a payload offset of a slot (R423). -/
def payAddr (slot p : Nat) : Nat := slotBase slot + 65536 * (1 + p / 65504) + p % 65504
/-- `n` bytes of payload. -/
def State.payBytes (s : State) (slot p n : Nat) : List Byte := (List.range n).map (fun i => BitVec.ofNat 8 (s.flashByte (payAddr slot (p + i))))

/-! ## The image in a slot (R424, R425, R427) -/

def State.imgBlocks (s : State) (slot : Nat) : Nat := s.flashLe (slotBase slot + 12) 4
def State.imgVersion (s : State) (slot : Nat) : Nat := s.flashLe (slotBase slot + 32) 8
def State.imgRev (s : State) (slot : Nat) : Nat := s.flashLe (slotBase slot + 40) 8
def State.imgSetFmt (s : State) (slot : Nat) : Nat := s.flashLe (slotBase slot + 48) 2
def State.imgSetFmtMin (s : State) (slot : Nat) : Nat := s.flashLe (slotBase slot + 50) 2

/-- A directory entry. -/
structure DirEnt where
  typ : Nat
  off : Nat
  len : Nat
  ver : Nat
  model : Nat
  zeros : Bool
  deriving DecidableEq, Repr
def State.dirEnt (s : State) (slot i : Nat) : DirEnt :=
  let b := slotBase slot + 512 + 64 * i
  { typ := s.flashByte b, off := s.flashLe (b + 4) 4, len := s.flashLe (b + 8) 4, ver := s.flashLe (b + 16) 8, model := s.flashLe (b + 24) 16
    zeros := s.flashZero b 1 3 && s.flashZero b 12 15 && s.flashZero b 40 63 }
/-- The entries in use. -/
def State.dir (s : State) (slot : Nat) : List DirEnt := (List.range (min 32 (s.flashByte (slotBase slot + 53)))).map (s.dirEnt slot)

/-- The rules of R425. -/
def State.dirOk (s : State) (slot : Nat) : Bool :=
  let d := s.dir slot
  let n := s.flashByte (slotBase slot + 53)
  let cnt := fun (t : Nat) => (d.filter (fun e => e.typ = t)).length
  let payload := 65504 * (s.imgBlocks slot - 1)
  let m3 := (d.filter (fun e => e.typ = 3)).map (fun e => e.model)
  3 ≤ n && n ≤ 32 && cnt 1 = 1 && cnt 2 = 1 && cnt 4 = 1 && cnt 3 ≤ 16 && m3.dedup.length = m3.length
    && d.all (fun e => 1 ≤ e.typ && e.typ ≤ 4 && e.off % 32 = 0 && e.off + e.len ≤ payload && e.zeros
      && (e.typ = 3 || e.model = 0) && (e.typ ≠ 1 || e.ver = s.imgVersion slot))
    && (List.range d.length).all (fun i => (List.range i).all (fun j =>
      match d[i]?, d[j]? with
      | some a, some b => a.off + a.len ≤ b.off || b.off + b.len ≤ a.off
      | _, _ => true))

/-- The trailer of a block at a flash address: its index and its CRC (R426). -/
def State.blockOk (s : State) (a i : Nat) : Bool :=
  s.flashLe (a + 65504) 4 = i && s.flashLe (a + 65532) 4 = crc32c (s.flashBytes a 65532)
/-- Whether every word of a block is written. -/
def State.blockWritten (s : State) (a : Nat) : Bool := (List.range 2048).all (fun i => (s.fword (a / 32 + i)).written)

/-- The checks of R428 in order: the reason of the first that fails, 0 when the slot is acceptable. -/
def State.slotReason (s : State) (slot : Nat) : Nat :=
  let b := slotBase slot
  let n := s.imgBlocks slot
  let blocks := List.range n
  if s.efl.eflags.any (fun k => k / 192 + 1 = slot ∧ k < 384) then 1
  else if s.flashLe b 4 ≠ 0x4655524B then 2
  else if s.flashLe (b + 4) 2 ≠ 1 ∨ n < 2 ∨ n > 192 ∨ s.dirOk slot = false ∨ s.flashByte (b + 10) ≥ 8 ∨ s.flashByte (b + 11) ≥ 2
      ∨ (s.flashByte (b + 11) = 0 ∧ s.flashLe (b + 16) 16 ≠ 0) ∨ s.flashZero b 54 511 = false ∨ s.flashZero b 2560 4095 = false
      ∨ s.flashZero b (4096 + 48 * (n - 1)) 65407 = false then 2
  else if s.flashLe (b + 6) 2 ≠ 0x6400
      ∨ (s.flashByte (b + 10)).testBit (match s.part with | .ux6464 => 0 | .ux6432 => 1 | .ux6416 => 2) = false then 3
  else if (s.flashLe (b + 8) 2).testBit 4 = false then 4
  else if s.flashByte (b + 11) = 1 ∧ s.flashLe (b + 16) 16 ≠ Config.unitId.toNat then 5
  else if blocks.any (fun i => !(s.blockWritten (b + 65536 * i) && s.blockOk (b + 65536 * i) i)) then 6
  else if blocks.any (fun i => i ≠ 0 && s.flashLe (b + 4096 + 48 * (i - 1)) 48 ≠ Config.sha384 (s.flashBytes (b + 65536 * i) 65536)) then 7
  else if s.flashByte (b + 52) ≥ 4 ∨ Config.imageSigOk (s.flashByte (b + 52)) (Config.sha384 (s.flashBytes b 65408)) (s.flashBytes (b + 65408) 96) = false then 8
  else 0

/-- The compatibility pairs of a slot's image (R427); a table that fails its own checks lists none. -/
def State.imgCompat (s : State) (slot : Nat) : List (Nat × Nat × Nat × Nat) :=
  match (s.dir slot).find? (fun e => e.typ = 4) with
  | none => []
  | some e =>
    let h := s.payBytes slot e.off 64
    let n := leAt h 8 4
    let body := s.payBytes slot (e.off + 64) (48 * min n 4096)
    if leAt h 0 4 = 0x4C425443 ∧ leAt h 4 2 = 1 ∧ 1 ≤ n ∧ n ≤ 4096 ∧ leAt h 60 4 = crc32c (h.take 60 ++ body) then
      (List.range n).map (fun i => (leAt body (48 * i) 1, leAt body (48 * i + 8) 8, leAt body (48 * i + 16) 8, leAt body (48 * i + 24) 16))
    else []
/-- The sequencer images a slot's image bundles: model, version and length. -/
def State.imgBundle (s : State) (slot : Nat) : List (Nat × Nat × Nat) :=
  ((s.dir slot).filter (fun e => e.typ = 3)).map (fun e => (e.model, e.ver, e.len))
/-- The version of its SerDes microcode. -/
def State.imgSerdes (s : State) (slot : Nat) : Nat := (((s.dir slot).find? (fun e => e.typ = 2)).map (fun e => e.ver)).getD 0

/-- The condition of R433 that fails first, with the first 8 bytes of the model it names. -/
def State.incompatible (s : State) (slot : Nat) : Option (Nat × Nat) :=
  let l := s.imgCompat slot
  let c := s.imgVersion slot
  let bundle := s.imgBundle slot
  if !(l.any (fun e => e.1 = 1 && e.2.1 = c && e.2.2.1 = s.imgSerdes slot)) then some (1, 0)
  else match bundle.find? (fun b => !(l.any (fun e => e.1 = 2 && e.2.1 = c && e.2.2.1 = b.2.1 && e.2.2.2 = b.1))) with
  | some b => some (2, b.1 % 2 ^ 64)
  | none =>
    let carts := s.slots.filter (fun e => e.2.st.member)
    match carts.find? (fun x => !(l.any (fun e => e.1 = 2 && e.2.1 = c && e.2.2.1 = x.2.fwVer && e.2.2.2 = x.2.model) || bundle.any (fun b => b.1 = x.2.model))) with
    | some x => some (3, x.2.model % 2 ^ 64)
    | none => none

/-- Firmware of a slot takes over: what the active image says. -/
def State.loadImage (s : State) (slot : Nat) : State :=
  { s with fw.running := slot, fw.version := s.imgVersion slot, fw.setFmt := s.imgSetFmt slot, fw.compat := s.imgCompat slot, fw.bundle := s.imgBundle slot }

/-! ## The boot record (R436) -/

/-- Write a boot record. -/
def State.writeBoot (s : State) (f : BootRec → BootRec) : State :=
  let b := s.fw.bootRec.getD {}
  { s with fw.bootRec := some { f b with gen := b.gen + 1 } }
/-- The slot that is not running. -/
def Fw.inactive (f : Fw) : Nat := 3 - f.running

/-! ## Download (R429, R430) -/

/-- Program one block of an image at its place. -/
def State.programBlock (s : State) (a : Nat) (b : List Byte) : State :=
  s.each (List.range 2048) (fun s i => s.setFword (a / 32 + i) { written := true, data := BitVec.ofNat 256 (leAt b (32 * i) 32) })

/-- The blocks of a piece, in order: a bad one ends the command. -/
def State.downloadBlocks (s : State) (c : Cmd) (base first : Nat) : Nat → State
  | 0 => s.post c.id .success
  | k + 1 =>
    let b := (c.buf.drop (65536 * (c.bufLen / 65536 - (k + 1)))).take 65536
    let i := first
    if leAt b 65504 4 ≠ i ∨ leAt b 65532 4 ≠ crc32c (b.take 65532) then s.refuse c .invalidField
    else (s.programBlock (base + 65536 * i) b).downloadBlocks c base (first + 1) k

/-- FIRMWARE_IMAGE_DOWNLOAD (R429, R430): NUMD in Dword 10, OFST in Dword 11. -/
def execFirmwareImageDownload (c : Cmd) (s : State) : Out :=
  adminCmd true c s (fun s =>
    let len := 4 * (dw10 c + 1)
    let off := 4 * dw11 c
    let slot := s.fw.inactive
    let base := slotBase slot
    let n := len / 65536
    let first := off / 65536
    if s.fw.trial ∨ s.fw.activating.isSome then s.refuse c .seqError
    else if len % 65536 ≠ 0 ∨ off % 65536 ≠ 0 ∨ first + n > 192 then s.refuse c .invalidField
    else
      let c : Cmd := { c with bufLen := len }
      if off = 0 then
        let s := s.eraseWords (base / 32) (base / 32 + 393216)
        let s := s.clearFlags ((List.range 192).map (fun i => base / 65536 + i))
        let s : State := { s with fw.download := true }
        let s := if (s.fw.bootRec.getD {}).pending = slot then s.writeBoot (fun b => { b with pending := 0 }) else s
        (s.log 0x0210 [slot]).downloadBlocks c base 0 n
      else if s.fw.download = false then s.refuse c .seqError
      else if s.efl.words.any (fun e => (base + off) / 32 ≤ e.1 ∧ e.1 < (base + off + len) / 32 ∧ e.2.written) then s.refuse c .overlap
      else s.downloadBlocks c base first n)

/-! ## Commit (R431 to R433) -/

/-- FS of Dword 10. -/
def fsOf (s : State) (c : Cmd) : Nat := if dw10 c % 8 = 0 then s.fw.inactive else dw10 c % 8
/-- The checks of R432 in order. -/
def State.commitRefusal (s : State) (ca slot : Nat) : Option (Status × Option (Nat × Nat)) :=
  if slot = s.fw.running ∧ ca ≠ 2 then some (.fwSlot, none)
  else if s.fw.activating.isSome ∨ (ca = 3 ∧ s.fw.trial) then some (.seqError, none)
  else if slot = s.fw.running then none
  else if s.slotReason slot ≠ 0 then some (.fwImage, none)
  else if s.imgSetFmtMin slot > s.fw.setFmt then some (.fwProhibited, none)
  else if ca = 3 ∧ s.media.sanitize.isSome then some (.fwProhibited, none)
  else match s.incompatible slot with
  | some e => some (.vendor 0x86, some e)
  | none => none

/-- A Firmware Commit with commit action `ca` (Dword 10 bits [5:3]). -/
def fwCommit (ca : Nat) (c : Cmd) (s : State) (f : Nat → State → State) : Out :=
  adminCmd true c s (fun s =>
    let slot := fsOf s c
    if field (dw10 c) 5 3 ≠ ca ∨ slot > 2 ∨ dw10 c / 64 ≠ 0 then s.refuse c .invalidField
    else match s.commitRefusal ca slot with
    | some (st, none) => s.refuse c st
    | some (st, some e) => (if e.1 = 3 then s.log 0x0217 [slot, e.1, e.2] else s).refuse c st
    | none => f slot (({ s with fw.download := false } : State).log 0x0211 [slot, ca, if slot = s.fw.running then s.fw.version else s.imgVersion slot]))

/-- REPLACE (R431): checks only. -/
def execReplace (c : Cmd) (s : State) : Out := fwCommit 0 c s (fun _ s => s.post c.id .success)
/-- REPLACE_ACTIVATE_NEXT (R431). -/
def execReplaceActivateNext (c : Cmd) (s : State) : Out :=
  fwCommit 1 c s (fun slot s => (s.writeBoot (fun b => { b with active := s.fw.running, pending := slot })).post c.id .success)
/-- ACTIVATE_NEXT (R431): naming the running slot clears `PENDING`. -/
def execActivateNext (c : Cmd) (s : State) : Out :=
  fwCommit 2 c s (fun slot s =>
    (s.writeBoot (fun b => { b with active := s.fw.running, pending := if slot = s.fw.running then 0 else slot })).post c.id .success)
/-- REPLACE_ACTIVATE_NOW (R434): staging begins, and the command completes when the pause ends. -/
def execReplaceActivateNow (c : Cmd) (s : State) : Out :=
  fwCommit 3 c s (fun _ s => { s with fw.activating := some c.id, fw.oldVer := s.fw.version })

/-! ## Activation without reset (R434, R435, R304) -/

/-- ACTIVATION_PAUSE: the boot record is durable, and the pause begins. -/
def execActivationPause (s : State) : Out :=
  if s.pwr.phase ≠ .run ∨ s.fw.activating.isNone ∨ s.io.paused then .next s
  else
    let old := s.fw.running
    let new := s.fw.inactive
    let s := s.writeBoot (fun _ => { active := new, previous := old, pending := 0, trial := true, fails := 1 })
    let s := s.loadImage new
    .next { s with fw.trial := true, fw.fellBack := false, fw.fails := 1, fw.started := false
                   fw.sets := { s.fw.sets with areas := s.fw.setFmt :: (s.fw.sets.areas.filter (fun a => a ≠ s.fw.setFmt)).take 1 }
                   io.paused := true }

/-- What the pause put off. -/
def State.doLater (s : State) (l : Later) : State :=
  match l with
  | .reset ctrl cause => s.resetCtrl ctrl cause
  | .lost ctrl cause => s.loseAssoc ctrl cause
  | .sqDel c => s.deleteSq c (if (s.ctrl c.id.ctrl).pcie then dw10 c % 65536 else c.id.sq)
  | .tenReset c => s.tenantReset c
  | .tenDelete c => s.tenantDelete c
  | .keepAlive c => s.post c.id .success

/-- Cartridges against the table of a newly activated image (R62, R63). -/
def State.newTable (s : State) : State :=
  let s : State := { s with slots := s.slots.every slot0 (fun _ x => { x with updTried := if x.st.member then false else x.updTried }) }
  s.each ((s.slots.filter (fun e => e.2.st = .quarantined ∧ ¬e.2.updating)).map (fun e => e.1)) (fun s n => s.compatStep n)

/-- PAUSE_END (R304, R434). -/
def execPauseEnd (s : State) : Out :=
  match s.fw.activating with
  | none => .next s
  | some id =>
    if s.io.paused = false then .next s
    else
      let l := s.io.deferred
      let s : State := { s with io.paused := false, io.deferred := [], fw.activating := none }
      let s := (s.log 0x0213 [s.fw.running, s.fw.oldVer, s.fw.version, s.freeVal]).took
      let s := s.post id .success
      let s := s.each l (fun s x => s.doLater x)
      let s := s.serveHeld
      let s := s.each s.waitingIds (fun s i => s.resume i)
      .next s.newTable

/-- FIRMWARE_CONFIRM (R441). -/
def execFirmwareConfirm (c : Cmd) (s : State) : Out :=
  mgrFeature c s (fun s =>
    if dw11 c ≠ 1 then s.refuse c .invalidField
    else if s.fw.trial = false then s.refuse c .seqError
    else
      let s := s.writeBoot (fun b => { b with active := s.fw.running, previous := 0, trial := false, fails := 0 })
      let s : State := { s with fw.trial := false, fw.fails := 0, fw.sets := { s.fw.sets with areas := [s.fw.setFmt] } }
      (s.log 0x0214 [s.fw.running, s.fw.version]).post c.id .success)

/-- What Get Features C2h returns (R441). -/
def State.confirmValue (s : State) : Nat :=
  flag s.fw.trial 0 + at' s.fw.running 1 + flag s.fw.fellBack 3 + at' (s.fw.fails % 256) 8 + at' s.fw.setFmt 16

/-- Whether the census of every pool that can be assembled has ended. -/
def State.censusEnded (s : State) : Bool := [0, 1, 2, 3].all (fun p => (s.pool p).pstate ≠ 1 && (s.pool p).pstate ≠ 3)

/-- STARTED_POINT (R438). -/
def execStartedPoint (s : State) : Out :=
  if s.pwr.phase ≠ .run ∨ s.fw.started ∨ s.censusEnded = false ∨ s.io.paused then .next s
  else
    let s := s.writeBoot (fun b => { b with active := s.fw.running, fails := 0 })
    .next { s with fw.started := true, fw.fails := 0 }

/-! ## Boot selection (R437) -/

/-- What the boot ROM chooses: slot, on trial, previous, fails, fell back. -/
def State.bootChoice (s : State) : Nat × Bool × Nat × Nat × Bool :=
  match s.fw.bootRec with
  | none => (1, false, 0, 0, false)
  | some b =>
    if b.pending ≠ 0 then (b.pending, true, b.active, 0, false)
    else if b.trial ∧ b.fails ≥ 2 then (b.previous, false, 0, b.fails, true)
    else (b.active, b.trial, b.previous, b.fails, b.fellBack)

/-- Select a slot: the state with its boot record, or none acceptable. Refused slots are noted for code 0x0212. -/
def State.selectSlot (s : State) : Option State :=
  let (slot, trial, prev, fails, fell) := s.bootChoice
  let b := s.fw.bootRec.getD {}
  let r := s.slotReason slot
  let other := 3 - slot
  let r2 := if r = 0 then 0 else s.slotReason other
  let pick : Option (Nat × Bool × Nat × Bool) :=
    if r = 0 then some (slot, trial, prev, fell) else if r2 = 0 then some (other, false, 0, b.fellBack && other = b.active) else none
  let s : State := { s with fw.refused := (if r = 0 then [] else [(slot, r)]) ++ (if r2 = 0 then [] else [(other, r2)]) }
  match pick with
  | none => none
  | some (k, tr, pv, fb) =>
    let f := if tr then fails + 1 else if k = b.active then b.fails else fails
    let s := if k ≠ b.active ∨ tr then
        s.writeBoot (fun _ => { active := k, previous := pv, pending := 0, trial := tr, fellBack := fb, fails := f })
      else s
    let s := s.loadImage k
    some { s with fw.trial := tr, fw.fellBack := fb, fw.fails := f
                  pwr.latched := s.pwr.latched ++ (if fb ∧ ¬b.fellBack then [(0x0215, [k, fails])] else []) }

end Sys2Proof.Machine
end

