-- ==== Sys2Proof/Machine/Startup.lean ====
section
/-! DEFINITION. Reset, the boot ROM and the start of firmware (R28, R178, R194, R203 to R205, R313, R335, R336, R342, R409, R419, R420, R437 to R439, R442, R458, R498 to R502, R507, R513). -/

namespace Sys2Proof.Machine

/-! ## What a loss leaves on media (R178, R194) -/

/-- The tag under which a unit is outstanding. -/
def State.unitTag (s : State) (u : PUnit) : Option Nat :=
  ((s.slot u.at_.slot).out.find? (fun (o : Nat × OutCmd) => o.2.why = .unit u.uid)).map (fun o => o.1)

/-- How a program in flight ended, where the command says so: 0 or 1 nothing readable, 2 verified; elsewhere the value is free. -/
def State.unitFate (s : State) (torn : List (Nat × Nat × Nat)) (u : PUnit) : Nat :=
  match s.unitTag u with
  | some t => ((torn.find? (fun e => e.1 = u.at_.slot ∧ e.2.1 = t)).map (fun e => e.2.2)).getD s.freeVal
  | none => 0

/-- The programs in flight end with the controller; what was not verified is gone. -/
def State.endUnits (s : State) (torn : List (Nat × Nat × Nat)) : State :=
  let s := s.each (s.media.units.filter (fun u => u.sent && !u.verified && u.restore = 0)) (fun s u =>
    let f := s.unitFate torn u
    let s := s.took
    if f % 3 = 2 then
      match u.kind with
      | .band _ _ _ => (s.modUnit u.uid (fun v => { v with verified := true })).noteTags u
      | .journal _ recs => { s with media.jrecs := s.media.jrecs.map (fun j => if recs.contains j.jid then { j with left := j.left - 1 } else j) }
      | .root rid => { s with media.recs := s.media.recs.map (fun r => if r.rid = rid then { r with left := r.left - 1 } else r) }
    else s)
  { s with media.units := (s.media.units.filter (fun u => u.band.isSome && u.restore = 0)).map (fun u => { u with sent := u.verified, fetch := none, release := none, await := [] }) }

/-- Records whose programs all ended well at the loss are durable, though the controller never learnt of it (R194). DESIGN CHOICE (assumption log 95): a root generation counts only when all its programs ended well, on every member; R194 and R195 leave open a generation that is complete on some. -/
def State.lastRecs (s : State) : State :=
  s.each (s.media.recs.filter (fun r => r.durable = false)) (fun s r =>
    if s.recSafe r = false then s
    else
      let s : State := { s with media.recs := s.media.recs.map (fun y => if y.rid = r.rid then { y with durable := true } else y) }
      match r.k with
      | .header b => s.modBand b (fun x => { x with headDurable := true })
      | .summary b => s.modBand b (fun x => { x with sumDurable := true })
      | .memberRec b pos pl cause => s.memberDone b pos pl cause
      | .copied rid => s.takeCopy r rid
      | .rootGen p _ _ => s.modPool p (fun q => { q with root := (q.roots.find? (fun g => g.seq = r.seq)).orElse (fun _ => q.root) })
      | _ => if r.typ = 0x10 then s.modPool r.pool (fun q => { q with root := (q.roots.find? (fun g => g.seq = r.seq)).orElse (fun _ => q.root) }) else s)

/-- The key of a member while no slot is known for it. -/
def offKey (p i : Nat) : Nat := 2 ^ 40 + 256 * p + i

/-- Rename a slot or key wherever media state names it. -/
def State.renameAll (s : State) (n key : Nat) : State :=
  let s := s.rename n key
  let f := fun (k : Nat) => if k = n then key else k
  { s with
    media.bands := s.media.bands.every band0 (fun _ b => { b with jhost0 := f b.jhost0, jhost1 := f b.jhost1 })
    media.jrecs := s.media.jrecs.map (fun j => { j with host := f j.host, at_ := j.at_.map (fun pl => { pl with slot := f pl.slot }) })
    media.rings := s.media.rings.map (fun (e : Nat × JRing) => (f e.1, { e.2 with blocks := e.2.blocks.map (fun pl => { pl with slot := f pl.slot }) })) }

/-- Cartridges may move between slots while the unit is off: members are known by pool and index until the census finds them (R73, R195). -/
def State.offline (s : State) : State :=
  let l := s.slots.filterMap (fun (e : Nat × Slot) => e.2.pool.map (fun p => (e.1, offKey p e.2.midx)))
  let s := s.each l (fun s (e : Nat × Nat) => s.renameAll e.1 e.2)
  { s with
    media.blocks := s.media.blocks.filter (fun e => e.1.slot ≥ 64)
    media.rings := s.media.rings.filter (fun e => e.1 ≥ 64) }

/-- The media side of a reset: what is durable or verified stays, everything kept in DRAM goes (R187 to R194, R397). -/
def State.mediaReset (s : State) (torn : List (Nat × Nat × Nat)) : State :=
  let s := (s.endUnits torn).lastRecs.offline
  let m := s.media
  { s with media := {
      pools := m.pools.every pool0 (fun _ q => { q with
        roots := [], logBand := none, regBand := none, counters := [], hostMeta := 0, mediaMeta := 0, startup := [], deep := false, deleting := false, waitSpare := [], migrated := [], fdpEvents := []
        logState := 0, narrow := false, exist := q.root.isSome, pstate := if q.root.isSome then 1 else 0
        rebuildDone := 0, rebuildBytes := 0, rowsLost := 0, rejournals := 0 })
      nss := m.nss
      bands := m.bands.filter (fun e => e.2.role ≠ 0 && e.2.headDurable && !e.2.shavings)
      lastBand := m.lastBand
      blocks := m.blocks
      units := m.units
      jrecs := m.jrecs.filter (fun j => j.left = 0 && j.host ≥ 64)
      rings := m.rings
      recs := m.recs.filter (fun r => r.durable && r.typ ≠ 0x10)
      gone := m.gone.filter (fun g => !g.done)
      seq := m.seq
      nextId := m.nextId
      lost := m.lost
      lostGen := m.lostGen
      overflow := m.overflow
      sanitize := m.sanitize
      sanitizeStat := m.sanitizeStat } }

/-! ## Reset (R28, R460, R498) -/

/-- A slot through a reset: what its pins say, and the pool its last member left (R174). -/
def resetSlot (off : Bool) (x : Slot) : Slot :=
  { pwren := x.pwren && !off, prsntLow := x.prsntLow, prsnt := x.prsnt, alert := x.alert, lastPool := x.lastPool }

/-- The staged fields that firmware loads again with the tenant tables. -/
def tenantKeys (m : Cells Nat) : Cells Nat :=
  m.filter (fun e => e.1 ≥ 0x400000 || (List.range 16).any (fun b => e.1 = stBankOwner b) || (List.range 64).any (fun l => e.1 = stLaneOwner l))

/-- Every domain except `AON` in reset; with `aon` also `AON`, with `off` every `CART_PWREN` low. -/
def State.resetDomains (s : State) (torn : List (Nat × Nat × Nat)) (aon off : Bool) (cause : Nat) : State :=
  let s := (s.flInterrupt).mediaReset torn
  let keepReg := fun (k : Nat) => !aon && isAonOffset k
  let keepW1c := fun (k : Nat) => k = 0x44 || (!aon && k = dwPWR + 0x84)
  let ten := s.ten.stored.getD (s.ten.tbl, tenantKeys s.dw.inForce)
  { part := s.part, pending := s.pending, free := s.free
    dw := { regs := s.dw.regs.filter (fun e => keepReg e.1), w1c := s.dw.w1c.filter (fun e => keepW1c e.1), inForce := ten.2, shadow := ten.2 }
    pwr := { phase := .held, porst := s.pwr.porst, perst := s.pwr.perst, refclk := s.pwr.refclk, modeLive := s.pwr.modeLive, mode := s.pwr.mode
             wakePins := s.pwr.wakePins, temps := s.pwr.temps, peak := s.pwr.peak, seen := s.pwr.seen, trip := s.pwr.trip, tap := s.pwr.tap
             tapHold := s.pwr.tapHold, cause := cause, lantern := s.pwr.lantern, latched := if aon then [] else s.pwr.latched }
    stage := {}
    slots := s.slots.every slot0 (fun _ x => resetSlot off x)
    seqs := s.seqs
    shelf := s.shelf
    ends := []
    media := s.media
    io := { posted := s.io.posted }
    ten := { tbl := ten.1.every tenant0 (fun _ t => { t with deleting := none, resetting := [], destroy := false, squashed := 0, since := 0 })
             tMax := s.ten.nextTMax, floorPct := s.ten.nextFloor, nextTMax := s.ten.nextTMax, nextFloor := s.ten.nextFloor
             pf0Mgr := s.ten.pf0Mgr, mgrHosts := s.ten.mgrHosts }
    host := { savedRegs := s.host.savedRegs, savedKeys := s.host.savedKeys }
    srch := { gen := s.srch.gen, nextScan := s.srch.nextScan }
    ddr := { savedOrder := s.ddr.savedOrder }
    efl := { words := s.efl.words, eflags := s.efl.eflags }
    fw := { running := s.fw.running, bootRec := s.fw.bootRec, sets := s.fw.sets, salts := s.fw.salts }
    gbk := { ring := s.gbk.ring, pos := s.gbk.pos, nextNo := s.gbk.nextNo, floor := s.gbk.floor, ownerKey := s.gbk.ownerKey
             uptime := if aon then 0 else s.gbk.uptime, polSerial := s.gbk.polSerial, polClass := s.gbk.polClass, polFlags := s.gbk.polFlags
             polIssuers := s.gbk.polIssuers, polDeny := s.gbk.polDeny, polSig := s.gbk.polSig }
    dma := {}
    lt := {} }

/-! ## The boot ROM (R203, R419, R437, R439) -/

/-- One flagged sector (R419): left in a slot bank, else cleared by the blank check or erased again. -/
def State.handleFlag (s : State) (sec : Nat) : Nat × State :=
  if sec < 384 then (3, s)
  else if s.blank sec then (0, s.clearFlags [sec])
  else if s.freeVal % 2 = 0 then (1, (s.took.eraseWords (2048 * sec) (2048 * sec + 2048)).clearFlags [sec])
  else (2, s.took.eraseMix (2048 * sec) (2048 * sec + 2048))

/-- Every set flag; `FL_BOOT` keeps the first, and a sector whose erase failed is noted for code 0x0204. -/
def State.handleFlags (s : State) : State :=
  s.each ((List.range 512).filter (fun k => s.efl.eflags.contains k)) (fun s sec =>
    let (o, s) := s.handleFlag sec
    let s : State := if s.efl.boot = 0 then { s with efl.boot := sec + at' 1 9 + at' o 10 } else s
    if o = 2 then { s with pwr.latched := s.pwr.latched ++ [(0x0204, [sec, 2, 65536 * sec])] } else s)

/-- Drop every `CART_PWREN`. -/
def State.allOff (s : State) : State :=
  { s with slots := s.slots.every slot0 (fun _ x => { x with pwren := false }) }

/-- Rescue mode (R439): the boot ROM writes its codes itself. -/
def State.enterRescue (s : State) (cause : Nat) : State :=
  let s := s.allOff
  let s := s.each s.fw.refused (fun s e => s.writeRec (s.recOf 0x0212 [e.1, e.2]))
  let s := s.writeRec (s.recOf 0x0218 [0, cause])
  { s with pwr.phase := .rescue, pwr.rescueCause := cause, fw.refused := [] }

/-- Every present cartridge is powered, or begins admission again where its power stayed (R73, R203, R205). -/
def State.powerPresent (s : State) : State :=
  s.each ((List.range s.part.slots).filter (fun n => (s.slot n).prsntLow)) (fun s n =>
    if (s.slot n).pwren then s.modSlot n (fun x => { x with st := .powering, prsnt := true, phase := 1 })
    else (s.modSlot n (fun x => { x with prsnt := true })).askPower n)

/-- The boot ROM phase. -/
def State.bootRom (s : State) : State :=
  let s := s.handleFlags
  if s.pwr.mode ≥ 2 then s.enterRescue 0
  else match s.selectSlot with
  | some s => ({ s with pwr.phase := .boot } : State).powerPresent
  | none =>
    let slot := s.bootChoice.1
    ({ s with fw.refused := [(slot, s.slotReason slot), (3 - slot, s.slotReason (3 - slot))] } : State).enterRescue 1

/-- A restart that leaves `AON` and the cartridges' power alone (R28, R205). -/
def State.restart (s : State) (cause : Nat) : State := (s.resetDomains [] false false cause).bootRom
/-- The internal-fault restart (R396): its code is written during the start it causes. -/
def State.faultRestart (s : State) (code : Nat) (ps : List Nat) : State :=
  ({ s with pwr.latched := s.pwr.latched ++ [(code, ps)] } : State).restart 3

/-! ## Pins and clocks (R28, R497 to R501, R507, R513) -/

/-- Instructions that take the pins (R513). -/
def takesPins (c : BitVec 8) : Bool := c = 0 || (3 ≤ c.toNat && c.toNat ≤ 6)

/-- The start after a release of `PORST_N` (R500): the straps are sampled. -/
def State.releaseStart (s : State) : State :=
  let hot := s.pwr.temps.any (fun t => (110 : Int) ≤ t.toInt)
  if s.pwr.refclk = false ∨ (s.pwr.trip ∧ hot) then s
  else ({ s with pwr.mode := s.pwr.modeLive, pwr.trip := false, pwr.tapHold := false, pwr.seen := false, pwr.cause := 0 } : State).bootRom

/-- Cartridges that changed their slots while the unit was off (R64, R73): those of empty or renewed slots go, then those named by slot and number come. -/
def State.reseat (s : State) (prsntN : BitVec 64) (moved : List (Nat × Nat)) : State :=
  let out := (List.range s.part.slots).filter (fun n => s.seqs.any (fun e => e.1 = n) && (prsntN.getLsbD n || moved.any (fun e => e.1 = n)))
  let s := s.each out State.shelve
  s.each (moved.filter (fun e => e.1 < s.part.slots && !prsntN.getLsbD e.1)) (fun s e => s.seatCart e.1 (some e.2))

/-- COLD_START (R203): `PORST_N` is released; `carts` says which slots hold a cartridge, and which of them one that was elsewhere before. -/
def execColdStart (mode : BitVec 2) (carts : ColdCarts) (s : State) : Out :=
  if s.pwr.porst then .next s
  else
    let s : State := { s.reseat carts.prsntN carts.moved with pwr.porst := true, pwr.modeLive := mode.toNat }
    let s := s.each (List.range s.part.slots) (fun s n => s.modSlot n (fun x =>
      { x with prsntLow := !carts.prsntN.getLsbD n, prsnt := false }))
    if takesPins s.pwr.tap then .next { s with pwr.tapHold := true } else .next s.releaseStart

/-- PORST_ASSERT (R498): the only full reset. -/
def execPorstAssert (s : State) : Out :=
  .next { s.resetDomains [] true true 0 with pwr.porst := false, pwr.tapHold := false, pwr.lantern := 0 }

/-- POWER_LOSS (R497): every supply is gone; `torn` tells how programs in flight ended, by slot and tag. -/
def execPowerLoss (torn : List (Nat × Nat × Nat)) (s : State) : Out :=
  let s := s.resetDomains torn true true 0
  let s : State := { s with pwr := { modeLive := s.pwr.modeLive }, dw.w1c := s.dw.w1c.filter (fun e => e.1 ≠ 0x44) }
  .next { s with slots := s.slots.every slot0 (fun _ x => { lastPool := x.lastPool })
                 seqs := s.seqs.every seq0 (fun _ q => q.powerLost) }

/-- CLOCK_LOSS (R28): in Active. -/
def execClockLoss (s : State) : Out :=
  if s.pwr.phase = .held ∨ s.pwr.sleep ≠ .active then .next s
  else .next (({ s with pwr.latched := s.pwr.latched ++ [(0x0102, [])] } : State).restart 1)

/-- REFCLK_LOSS (R501): every clock stops. -/
def execRefclkLoss (s : State) : Out :=
  if s.pwr.refclk = false then .next s
  else if s.pwr.porst = false then .next { s with pwr.refclk := false }
  else .next { (s.resetDomains [] false false 1) with pwr.refclk := false }

/-- REFCLK_RETURN (R501): the controller restarts. -/
def execRefclkReturn (s : State) : Out :=
  if s.pwr.refclk then .next s
  else
    let s : State := { s with pwr.refclk := true }
    if s.pwr.porst = false ∨ s.pwr.trip ∨ s.pwr.tapHold then .next s
    else .next ({ s with pwr.latched := s.pwr.latched ++ [(0x0102, [])], pwr.cause := 1 } : State).bootRom

/-- The hottest of a list of readings. -/
def hottest (l : List (BitVec 8)) : BitVec 8 := l.foldl (fun a t => if a.toInt < t.toInt then t else a) (l.headD 0)

/-- Per-millisecond counters of C4h (R399): hot-refresh time by channel, time spent throttled by requester. -/
def State.dramTick (s : State) : State :=
  let add := fun (s : State) (off k : Nat) => ({ s with ddr.log := s.ddr.log.mod zeroCell off (fun v => satAdd 64 v k) } : State)
  let s := s.each ((s.ddr.hot.map (fun e => e.1)).dedup) (fun s c => add s (680 + 64 * c) 1)
  s.each ((s.ddr.throttles.map Throttle.req).dedup) (fun s i => add s (80 + 32 * i) 1000)

/-- The rate budget of the guestbook (R466): 8 records per second, up to 1,024. -/
def State.gbkTick (s : State) : State :=
  let k := s.gbk.refill + 8
  { s with gbk.budget := min 1024 (s.gbk.budget + k / 1000), gbk.refill := k % 1000 }

/-- TEMP_SAMPLE (R463, R507): every 1 ms; the millisecond counter counts it (assumption log 4). -/
def execTempSample (readings : List (BitVec 8)) (s : State) : Out :=
  let ts := (List.range 16).map (fun i => readings.getD i 0)
  let hot := hottest ts
  let s : State := { s with
    pwr.temps := ts
    pwr.peak := if s.pwr.porst = false then 0 else if s.pwr.seen ∧ hot.toInt ≤ s.pwr.peak.toInt then s.pwr.peak else hot
    pwr.seen := s.pwr.porst
    gbk.uptime := if s.pwr.porst ∧ s.pwr.refclk then (s.gbk.uptime + 1) % 2 ^ 48 else s.gbk.uptime }
  let s := if s.pwr.porst ∧ s.pwr.refclk then s.gbkTick else s
  if ts.any (fun t => (120 : Int) ≤ t.toInt) ∧ s.pwr.trip = false then
    .next { (s.raise 0x44 (2 ^ 31)).resetDomains [] false true s.pwr.cause with pwr.trip := true }
  else .next s.dramTick

/-- Let a start held by the TAP run (R513). -/
def State.tapRelease (s : State) : State :=
  if s.pwr.tapHold ∧ ¬takesPins s.pwr.tap then ({ s with pwr.tapHold := false } : State).releaseStart else s

/-- TAP_INSTRUCTION (R513). -/
def execTapInstruction (code : BitVec 8) (s : State) : Out := .next ({ s with pwr.tap := code } : State).tapRelease
/-- TEST_LOGIC_RESET (R512, R513): IDCODE is selected. -/
def execTestLogicReset (s : State) : Out := .next ({ s with pwr.tap := 2 } : State).tapRelease

/-! ## The start of firmware (R204, R420, R438, R442) -/

/-- The settings area that firmware of format `f` takes (R440, R442): its own, the newest it can convert, or none. -/
def State.settingsArea (s : State) (f fmin : Nat) : Option Nat :=
  if s.fw.sets.areas.contains f then some f else s.fw.sets.areas.find? (fun a => fmin ≤ a && a ≤ f)

/-- Factory settings (R442): the data that settings do not hold is not affected; namespaces of tenants that are gone pass to tenant 0. -/
def State.factorySettings (s : State) : State :=
  { s with
    fw.sets := {}
    ten := {}
    dw.inForce := [], dw.shadow := []
    host.savedRegs := none
    ddr.savedOrder := 0
    slots := s.slots.every slot0 (fun _ x => { x with lastPool := none })
    media.nss := s.media.nss.map (fun x => if x.flags.testBit 1 then x else { x with tenant := 0 }) }

/-- Firmware takes its settings. -/
def State.loadSettings (s : State) : State :=
  let f := s.fw.setFmt
  match s.settingsArea f (s.imgSetFmtMin s.fw.running) with
  | some a =>
    let keep := if s.fw.trial then (s.fw.sets.areas.filter (fun x => x ≠ f)).take 1 else if a = f then [] else [a]
    { s with fw.sets := { s.fw.sets with areas := f :: keep } }
  | none =>
    let found := s.fw.sets.areas.headD 0
    let s := s.factorySettings
    ({ s with fw.sets := { areas := [f] } } : State).log 0x0216 [s.fw.running, found]

/-- The saved values come into force: Room Key, member timers, power and wake configuration, `HOST` (R226, R275, R449, R460). -/
def State.applySaved (s : State) : State :=
  let s := match s.fw.sets.roomKey with
    | some v => { s with pwr.idle := field v 15 8, pwr.srchDrop := v.testBit 4, pwr.deepest := field v 3 2, pwr.hold := v % 4 }
    | none => s
  let s := match s.fw.sets.timers with
    | some t => { s with media.tSlow := t.1, media.tFail := t.2.1, media.slowPct := t.2.2 }
    | none => s
  let s := match s.fw.sets.pwr with
    | some l => if s.pwr.cause = 0 then s.each l (fun s e => s.setReg e.1 e.2) else s
    | none => s
  match s.host.savedRegs with
  | some (rw, st) =>
    let s := s.each rw (fun s e => s.setReg e.1 e.2)
    let s := s.each st (fun s e => s.setBoth e.1 e.2)
    s.each s.host.savedKeys (fun s k => s.modPort k.1 (fun p => { p with
      cak := k.2.1, ckn := k.2.2
      stCak := (List.range 16).foldl (fun (m : Cells Nat) i => m.put zeroCell i (if i < 8 then k.2.1 / 2 ^ (32 * i) % 2 ^ 32 else k.2.2 / 2 ^ (32 * (i - 8)) % 2 ^ 32)) [] }))
  | none => s

/-- Tenants whose namespaces no table entry owns pass to tenant 0 (R442). -/
def State.orphans (s : State) : State :=
  { s with media.nss := s.media.nss.map (fun x => if x.tenant ≠ 0 ∧ ¬x.flags.testBit 1 ∧ ¬(s.tenant x.tenant).occupied then { x with tenant := 0 } else x) }

/-- The controllers that are there before any Connect (R204, R266, R335, R336). -/
def State.firstCtrls (s : State) : State :=
  let s := s.modCtrl 0 (fun _ => { exist := true, kind := .pf0 })
  if s.pwr.mode = 1 then
    let s : State := { s with ten := { s.ten with stored := some (s.ten.tbl, tenantKeys s.dw.inForce), tbl := [], tMax := 16, floorPct := 100 }
                              dw.inForce := s.dw.inForce.filter (fun e => !(tenantKeys s.dw.inForce).contains e)
                              dw.shadow := s.dw.shadow.filter (fun e => !(tenantKeys s.dw.shadow).contains e) }
    let s := s.each ((List.range 16).map (· + 1)) (fun s k =>
      let s := s.modTenant k (fun _ => { occupied := true, maxScans := 4 })
      let s := s.modCtrl k (fun _ => { exist := true, kind := .slice k, tenant := k })
      let s := if s.part.keySearch then s.setBoth (stBankOwner (k - 1)) k else s
      if s.part.scan then s.each [0, 1, 2, 3] (fun s i => s.setBoth (stLaneOwner (4 * (k - 1) + i)) k) else s)
    s
  else s.each s.tenants (fun s t => s.presentVf t (s.tenant t).vf)

/-- Whether a regulator entry takes the `VDD_CORE` role (R458). -/
def State.coreRail (s : State) : Bool :=
  (List.range 8).any (fun r => let v := s.reg (dwPWR + 0x100 + 4 * r); v.testBit 31 && field v 19 16 = 1)

/-- Note the end of a phase of R203 in the Start-Up Report (R206); within the present millisecond its microsecond is free. -/
def State.phaseEnds (s : State) (ph : Nat) : State :=
  { s.took with fw.times := s.fw.times.put zeroCell ph ((1000 * s.gbk.uptime + s.freeVal % 1000) % 2 ^ 32) }

/-- FIRMWARE_START (R204). -/
def execFirmwareStart (s : State) : Out :=
  if s.pwr.phase ≠ .trained then .next s
  else match s.incompatible s.fw.running with
  | some (c, m) =>
    if c ≤ 2 then .next ((s.writeRec (s.recOf 0x0217 [s.fw.running, c, m])).restart 3) else .next (go s)
  | none => .next (go s)
where
  go (s : State) : State :=
    let codes := s.pwr.latched
    let refused := s.fw.refused
    let s : State := { s with pwr.phase := .run, pwr.latched := [], fw.refused := [], fw.started := false }
    let s := s.each codes (fun s e => s.log e.1 e.2)
    let s := if s.efl.boot.testBit 9 then s.log 0x0201 [s.efl.boot % 512, field s.efl.boot 11 10] else s
    let s := s.each refused (fun s e => s.log 0x0212 [e.1, e.2])
    let s := s.loadSettings.applySaved.orphans
    let s : State := { s with pwr.vcore := if s.coreRail then Config.vcoreMv else 0 }
    (s.firstCtrls).phaseEnds 2

end Sys2Proof.Machine
end

