-- ==== Sys2Proof/Machine/Dram.lean ====
section
/-! DEFINITION. The DRAM controller: population, training, refresh, row disturbance, ECC and scrubbing (R379 to R401). -/

namespace Sys2Proof.Machine

/-! ## Population (R379, R381) -/

/-- Size of a rank in units of 16 GB. -/
def rank16 (d : Dimm) : Nat := match d.dense32, d.x8 with | false, true => 1 | false, false => 2 | true, true => 2 | true, false => 4
def popMask (l : List Dimm) : Nat := ((List.range 8).map (fun c => flag (l.any (fun d => d.channel = c)) c)).sum
def popDpc (l : List Dimm) : Nat := match l with | [] => 0 | d :: _ => (l.filter (fun e => e.channel = d.channel)).length
def popRanks (l : List Dimm) : Nat := match l with | [] => 0 | d :: _ => if d.twoRanks then 2 else 1
/-- Capacity of a set of channels in units of 16 GB. -/
def popCap (l : List Dimm) (chans : Nat) : Nat := popcount chans 8 * popDpc l * popRanks l * ((l.head?.map rank16).getD 0)
/-- Why the population check fails: 0 a rule of R379, 1 the channel set, 2 the capacity. -/
def popFault (l : List Dimm) : Option Nat :=
  let same : Bool := match l with
    | [] => true
    | d :: _ => l.all (fun e => e.dense32 == d.dense32 && e.x8 == d.x8 && e.twoRanks == d.twoRanks)
  let per := fun (c : Nat) => (l.filter (fun e => e.channel = c)).length
  if !same || l.any (fun d => d.speed < 6400 || d.channel ≥ 8 || per d.channel > 2 || per d.channel ≠ popDpc l) then some 0
  else if popMask l ≠ 0xFF ∧ popMask l ≠ 0x0F then some 1
  else if popCap l (popMask l) < 4 then some 2
  else none

/-! ## Training (R382, R383) -/

def noResult : ChannelResult := { failStep := 0, rankFail := 0, rdEye := 0, wrEye := 0, wrVref := 0, rdVref := 0 }
def chanPass (r : ChannelResult) : Bool := r.failStep = 0 && r.rankFail = 0 && 16 ≤ r.rdEye && 16 ≤ r.wrEye

/-- DRAM is not used (R381, R383). -/
def State.dramFails (s : State) : State :=
  { s with ddr.fail := true, ddr.ready := false, ddr.chUp := 0, pwr.phase := .rescue
           pwr.rescueCause := if s.pwr.phase = .rescue then s.pwr.rescueCause else 2 }

/-- What the boot ROM's codes are: written at once where no firmware will run. -/
def State.bootLog (s : State) (stays : Bool) (code : Nat) (ps : List Nat) : State :=
  if stays then s.writeRec (s.recOf code ps) else { s with pwr.latched := s.pwr.latched ++ [(code, ps)] }

/-- DRAM is in use: the start goes on where an image was accepted. -/
def State.dramReady (s : State) (chUp cap : Nat) (reduced : Bool) : State :=
  { s with
    ddr.ready := true, ddr.fail := false, ddr.reduced := reduced, ddr.chUp := chUp, ddr.cap := cap, ddr.step := 7, ddr.mapOrder := s.ddr.savedOrder
    pwr.phase := if s.pwr.phase = .boot ∨ s.pwr.rescueCause = 2 then .trained else s.pwr.phase
    pwr.rescueCause := if s.pwr.rescueCause = 2 then 0 else s.pwr.rescueCause }

/-- Population check and training of every channel. -/
def State.train (s : State) (l : List Dimm) (res : List (Nat × ChannelResult)) : State :=
  match popFault l with
  | some c => (({ s with ddr.step := 1, ddr.chPop := popMask l } : State).bootLog true 0x0906 [0xFF, c]).dramFails
  | none =>
    let pop := popMask l
    let chans := bitsOf pop 8
    let r := fun (c : Nat) => (look res c).getD noResult
    let failed := chans.filter (fun c => chanPass (r c) = false)
    let steps := chans.map (fun c => if (r c).failStep = 0 then 7 else (r c).failStep)
    let d := l.head?
    let s : State := { s with
      ddr.chPop := pop, ddr.res := chans.map (fun c => (c, r c)), ddr.step := steps.foldl max 0
      ddr.density := if d.any (fun d => d.dense32) then 1 else 0, ddr.width := if d.any (fun d => d.x8) then 1 else 0
      ddr.ranks := popRanks l - 1, ddr.dpc := popDpc l - 1 }
    let lowFails := failed.any (fun c => c < 4)
    let short : Bool := lowFails || (!failed.isEmpty && popCap l 0x0F < 4)
    let stays : Bool := short || (s.pwr.phase = .rescue && s.pwr.rescueCause ≠ 2)
    let s := s.each failed (fun s c => s.bootLog stays 0x0901 [c, (r c).failStep, (r c).rankFail])
    if short then s.dramFails
    else if failed.isEmpty then s.dramReady pop (popCap l pop) false
    else (s.bootLog stays 0x0907 [0xFF, (failed.map (fun c => 2 ^ c)).sum]).dramReady 0x0F (popCap l 0x0F) true

/-- The boot ROM and training phases of R203 have ended. -/
def State.trained (s : State) : State := if s.pwr.phase = .trained then (s.phaseEnds 0).phaseEnds 1 else s

/-- DRAM_TRAINING (R382): after the boot ROM accepts an image, and in rescue mode. -/
def execDramTraining (dimms : List Dimm) (res : List (Nat × ChannelResult)) (s : State) : Out :=
  if (s.pwr.phase = .boot ∨ s.pwr.phase = .rescue) ∧ ¬s.ddr.ready ∧ ¬s.ddr.fail then .next (s.train dimms res).trained
  else .next s

/-- DRAM_RETRAIN (R383): acted on only while `DDR_STAT.FAIL` is set. -/
def execDramRetrain (p : Path) (dimms : List Dimm) (res : List (Nat × ChannelResult)) (s : State) : Out :=
  winWrite p (dwDDR + 4) s (fun s => if s.ddr.fail then (({ s with ddr.fail := false } : State).train dimms res).trained else s)

/-- DDR_SAVE (R385). -/
def execDdrSave (p : Path) (s : State) : Out :=
  winWrite p (dwDDR + 4) s (fun s => { s with ddr.savedOrder := field (s.reg (dwDDR + 8)) 9 8 })

/-! ## Address mapping (R385, R386) -/

/-- Where a physical address falls. -/
structure DramAddr where
  chan : Nat
  sub : Nat
  group : Nat
  bank : Nat
  col : Nat
  rank : Nat
  row : Nat
  deriving DecidableEq, Repr

/-- Take the low `n` bits of an address that is being split. -/
def takeBits (n a : Nat) : Nat × Nat := (a % 2 ^ n, a / 2 ^ n)

/-- Split an address in one of the three orders: `ch` channel bits, `x8` devices, `rk` rank bits, `rw` row bits; orders 0 and 1 hash the bank bits. -/
def dramSplit (order ch : Nat) (x8 : Bool) (rk rw a : Nat) : DramAddr :=
  let cw := if x8 then 6 else 7
  let a := a / 64
  if order = 2 then
    let (col, a) := takeBits cw a
    let (bg, a) := takeBits 3 a
    let (bk, a) := takeBits 2 a
    let (sub, a) := takeBits 1 a
    let (rank, a) := takeBits rk a
    let (row, a) := takeBits rw a
    { chan := a % 2 ^ ch, sub := sub, group := bg, bank := bk, col := col, rank := rank, row := row }
  else
    let (lo, a) := if order = 1 then takeBits 2 a else (0, a)
    let (c, a) := takeBits ch a
    let (sub, a) := takeBits 1 a
    let (bg, a) := takeBits 3 a
    let (hi, a) := takeBits (if order = 1 then cw - 2 else cw) a
    let (bk, a) := takeBits 2 a
    let (rank, a) := takeBits rk a
    let row := a % 2 ^ rw
    { chan := c, sub := sub, group := bg ^^^ (row % 8), bank := bk ^^^ (row / 8 % 4), col := if order = 1 then lo + 4 * hi else hi, rank := rank, row := row }

/-- Where an address falls in the order in force, with the population in use. -/
def State.dramAt (s : State) (a : Nat) : DramAddr :=
  let d := s.ddr
  dramSplit d.mapOrder (if d.chUp = 0x0F then 2 else 3) (d.width = 1) (d.ranks + d.dpc) (if d.density = 1 then 17 else 16) a
/-- The bank of an address: channel, rank, and bank within the rank, with its bank group and subchannel. -/
def State.bankAt (s : State) (a : Nat) : Nat × Nat × Nat :=
  let d := s.dramAt a
  (d.chan, d.rank, d.bank + 4 * d.group + 32 * d.sub)

/-! ## Counters of C4h (R399) -/

def State.ddrCount (s : State) (off k : Nat) : State := { s with ddr.log := s.ddr.log.mod zeroCell off (fun v => satAdd 64 v k) }
def offReq (i o : Nat) : Nat := 64 + 32 * i + o
def offChan (c o : Nat) : Nat := 640 + 64 * c + o
/-- Whether a channel can be accessed. -/
def State.chanOn (s : State) (ch : Nat) : Bool := s.ddr.ready && !s.ddr.selfRef && !s.ddr.off && s.ddr.chUp.testBit ch && ch < 8

/-! ## Recalibration and refresh (R384, R388) -/

/-- DRAM_RECALIBRATION: the delays move by no more than the drift measured. -/
def execDramRecalibration (ch drift : Nat) (s : State) : Out :=
  if s.chanOn ch = false then .next s
  else .next { s.took with ddr.drift := s.ddr.drift.mod zeroCell ch (fun v => v + s.freeVal % (drift + 1)) }

/-- The bank a refresh counts for: with all-bank refresh the rank as a whole, under bank 0 (R388). -/
def State.refBank (s : State) (bank : Nat) : Nat := if (s.reg (dwDDR + 8)).testBit 3 then 0 else bank

/-- Whether a request waits for a bank that a refresh needs. -/
def State.dramWaits (s : State) (ch rank bank : Nat) : Bool :=
  s.ddr.queue.any (fun q => let k := s.bankAt q.addr; k.1 = ch && k.2.1 = rank && s.refBank k.2.2 = s.refBank bank)

/-- DRAM_REFRESH: issued, which closes the rows of the banks that it needs (R387), or, where `postpone` says so, postponed up to four times while requests wait; a hot DIMM doubles the rate. -/
def execDramRefresh (ch rank bank : Nat) (postpone : Bool) (dimm : Nat) (celsius : Int) (s : State) : Out :=
  if s.chanOn ch = false then .next s
  else
    let s := if celsius > 85 then ({ s with ddr.hot := (ch, dimm) :: s.ddr.hot.filter (fun e => e ≠ (ch, dimm)) } : State).log 0x0908 [ch, dimm, (celsius % 2 ^ 64).toNat]
      else { s with ddr.hot := s.ddr.hot.filter (fun e => e ≠ (ch, dimm)) }
    let k := (look s.ddr.postponed (ch, rank, s.refBank bank)).getD 0
    if postpone ∧ s.dramWaits ch rank bank ∧ k < 4 then
      .next (({ s with ddr.postponed := place s.ddr.postponed (ch, rank, s.refBank bank) (k + 1) } : State).ddrCount (offChan ch 8) 1)
    else .next { s with ddr.postponed := drop' s.ddr.postponed (ch, rank, s.refBank bank)
                        ddr.openRows := s.ddr.openRows.filter (fun e => !(e.1.1 = ch && e.1.2.1 = rank && s.refBank e.1.2.2 = s.refBank bank)) }

/-! ## Row disturbance (R389 to R393) -/

/-- Count an activation of a key in a bank's table (R390). -/
def State.countAct (s : State) (key : Nat × Nat × Nat) (row req : Nat) : Nat × State :=
  let t := (look s.ddr.acts key).getD []
  match t.find? (fun a => a.row = row ∧ a.req = req) with
  | some a =>
    (a.count + 1, { s with ddr.acts := place s.ddr.acts key (t.map (fun b => if b.row = row ∧ b.req = req then { b with count := a.count + 1 } else b)) })
  | none =>
    if t.length < 64 then (1, { s with ddr.acts := place s.ddr.acts key (t ++ [{ row := row, req := req, count := 1 }]) })
    else
      let low := t.foldl (fun m a => min m a.count) ((t.head?.map Act.count).getD 0)
      match s.choose (t.filter (fun a => a.count = low)) with
      | (some v, s) =>
        (low + 1, { s with ddr.acts := place s.ddr.acts key (t.map (fun b => if b = v then { row := row, req := req, count := low + 1 } else b)) })
      | (none, s) => (0, s)
/-- The row total. -/
def State.rowTotal (s : State) (key : Nat × Nat × Nat) (row : Nat) : Nat :=
  ((((look s.ddr.acts key).getD []).filter (fun a => a.row = row)).map Act.count).sum

/-- Refresh management (R391): for each further multiple of the threshold in force that the row's total has reached since it was last issued for the row (R393). -/
def State.rfm (s : State) (key : Nat × Nat × Nat) (row before after : Nat) : State :=
  let th := max 1 (s.inf stRfmTh)
  let crossed := after / th - min before ((look s.ddr.acted (key, row)).getD 0) / th
  let s : State := if crossed = 0 then s else { s with ddr.acted := place s.ddr.acted (key, row) after }
  let raa := (look s.ddr.raa key).getD 0 + 1
  let due := raa ≥ Config.raaThreshold key.1 key.2.1
  let s : State := { s with ddr.raa := place s.ddr.raa key (if due then 0 else raa) }
  let s : State := if crossed = 0 ∧ due = false then s
    else { s with ddr.throttles := s.ddr.throttles.map (fun t => if (t.ch, t.rank, t.bank) = key then { t with managed := true } else t) }
  s.ddrCount (offChan key.1 0) (crossed + (if due then 1 else 0))

/-- The step a count calls for (R392). -/
def stepFor (th count : Nat) : Nat := if count ≥ 4 * th then 3 else if count ≥ 2 * th then 2 else if count ≥ th then 1 else 0

/-- The position of a key in code 0x0904: rank, bank and row (assumption log 11). -/
def bankRow (rank bank row : Nat) : Nat := row + 2 ^ 32 * bank + 2 ^ 40 * rank

/-- Throttle a requester on a bank (R392). -/
def State.throttle (s : State) (key : Nat × Nat × Nat) (row req count : Nat) : State :=
  let step := stepFor (s.inf stThrTh) count
  let code := fun (s : State) (k : Nat) => s.log 0x0904 [key.1, req, bankRow key.2.1 key.2.2 row, k]
  let entry := fun (s : State) => code (s.ddrCount (offReq req 8) 1) step
  if step = 0 ∨ req = 15 then s
  else
    let mine := fun (t : Throttle) => t.req = req && t.ch = key.1 && t.rank = key.2.1 && t.bank = key.2.2
    let new : Throttle := { req := req, ch := key.1, rank := key.2.1, bank := key.2.2, row := row, step := step, live := true }
    match s.ddr.throttles.find? mine with
    | some t =>
      let s : State := { s with ddr.throttles := s.ddr.throttles.map (fun u => if mine u then { u with step := max u.step step, live := true, row := row, managed := u.managed && !(u.step < 3 && step = 3) } else u) }
      if step > t.step then entry s else s
    | none =>
      if s.ddr.throttles.length < 256 then entry { s with ddr.throttles := s.ddr.throttles ++ [new] }
      else match s.ddr.throttles.find? (fun t => t.step = 1) with
      | some old => entry { s with ddr.throttles := s.ddr.throttles.filter (fun t => t ≠ old) ++ [new] }
      | none => code s 0

/-! ## ECC (R394 to R396) -/

/-- What an access or patrol finds on a channel. -/
def State.dramEcc (s : State) (ch : Nat) (e : DramEcc) : State :=
  match e with
  | .clean => s
  | .corrected rank addr => ((s.bump (dwDDR + 0x100 + 8 * ch) 1).ddrCount (offChan ch 16) 1).log 0x0902 [ch, rank, addr]
  | .uncorrectable rank addr region =>
    let s := (s.bump (dwDDR + 0x104 + 8 * ch) 1).ddrCount (offChan ch 24) 1
    match region with
    | .readCache => { s with ddr.cacheDropped := s.ddr.cacheDropped + 1 }
    | .loadBuffer t => { s with srch.loads := s.srch.loads.filter (fun e => e.1 ≠ t) }
    | .other code => s.faultRestart 0x0903 [ch, rank, addr, code]

/-! ## The scheduler (R387, R392) -/

/-- Whether a request finds its row open. -/
def State.rowHit (s : State) (q : DramReq) : Bool := look s.ddr.openRows (s.bankAt q.addr) = some (s.dramAt q.addr).row

/-- Nanoseconds between activations at a throttle's step (R392). -/
def throttleGap (step : Nat) : Nat := match step with | 1 => 1000 | 2 => 4000 | _ => 16000

/-- Whether the throttle of its requester lets a request be served (R392). -/
def State.dramMay (s : State) (now : Nat) (q : DramReq) : Bool :=
  let k := s.bankAt q.addr
  match s.ddr.throttles.find? (fun t => t.req = q.req ∧ (t.ch, t.rank, t.bank) = k) with
  | none => true
  | some t =>
    if s.rowHit q then t.step < 3 || t.managed
    else match look s.ddr.lastAct (q.req, k) with
      | some l => l + throttleGap t.step ≤ now
      | none => true

/-- The requests of a subchannel, in order of arrival. -/
def State.subQueue (s : State) (ch sub : Nat) : List DramReq :=
  s.ddr.queue.filter (fun q => let d := s.dramAt q.addr; d.chan = ch && d.sub = sub)

/-- The requests of a list before the first equal to `q`. -/
def olderThan (l : List DramReq) (q : DramReq) : List DramReq := l.takeWhile (fun e => e ≠ q)

/-- Row hits first, then the oldest. -/
def State.hitFirst (s : State) (l : List DramReq) : Option DramReq := (l.find? s.rowHit).orElse (fun _ => l.head?)

/-- The request that a subchannel serves next (R387): one that has waited 2 µs before any row hit; reads before writes, unless it drains its writes; never a write before an older read of the same 64 bytes. -/
def State.dramNext (s : State) (ch sub now : Nat) : Option DramReq :=
  let l := s.subQueue ch sub
  let may := l.filter (fun q => s.dramMay now q && !(q.write && (olderThan l q).any (fun e => !e.write && e.addr / 64 = q.addr / 64)))
  let first := may.filter (fun q => q.write = s.ddr.draining.contains (ch, sub))
  (may.find? (fun q => q.ns + 2000 ≤ now)).orElse (fun _ => s.hitFirst (if first.isEmpty then may else first))

/-- The write mode of a subchannel (R387): from 48 waiting writes until 16 are left. -/
def State.dramMode (s : State) (ch sub : Nat) : State :=
  let n := ((s.subQueue ch sub).filter (fun q => q.write)).length
  let rest := s.ddr.draining.filter (fun e => e ≠ (ch, sub))
  { s with ddr.draining := if n ≥ 48 then (ch, sub) :: rest else if n ≤ 16 then rest else s.ddr.draining }

/-- Serve requests until one needs a row that is not open; that row is then open in its bank. -/
def State.dramServe (s : State) (ch sub now : Nat) : Nat → Option DramReq × State
  | 0 => (none, s)
  | fuel + 1 =>
    let s := s.dramMode ch sub
    match s.dramNext ch sub now with
    | none => (none, s)
    | some q =>
      let hit := s.rowHit q
      let s : State := { s with ddr.queue := s.ddr.queue.erase q }
      if hit then s.dramServe ch sub now fuel
      else
        let k := s.bankAt q.addr
        (some q, { s with ddr.openRows := place s.ddr.openRows k (s.dramAt q.addr).row, ddr.lastAct := place s.ddr.lastAct (q.req, k) now })

/-- An activation is counted; refresh management and throttles follow (R390 to R393). -/
def State.activate (s : State) (q : DramReq) : State :=
  let key := s.bankAt q.addr
  let row := (s.dramAt q.addr).row
  let before := s.rowTotal key row
  let (count, s) := s.countAct key row q.req
  let s := s.ddrCount (offReq q.req 0) 1
  (s.rfm key row before (s.rowTotal key row)).throttle key row q.req count

/-- Place a request behind those that came no later. -/
def insertReq (q : DramReq) : List DramReq → List DramReq
  | [] => [q]
  | e :: l => if q.ns < e.ns then q :: e :: l else e :: insertReq q l
/-- Reads and writes that arrive together, in order of arrival (R387). -/
def arrivalsOf (reads writes : List DramReq) : List DramReq :=
  (reads.map (fun q => ({ q with write := false } : DramReq)) ++ writes.map (fun q => ({ q with write := true } : DramReq))).foldl (fun l q => insertReq q l) []

/-- DRAM_ACTIVATION (R387 to R396): the requests that have arrived join the queue of their subchannel, which serves row hits and then the next request that needs an activation; `ecc` is what that access finds. -/
def execDramActivation (ch sub now : Nat) (reads writes : List DramReq) (ecc : DramEcc) (s : State) : Out :=
  if s.chanOn ch = false then .next s
  else
    let new := (arrivalsOf reads writes).filter (fun q => let d := s.dramAt q.addr; q.req < 16 && d.chan = ch && d.sub = sub)
    let s : State := { s with ddr.queue := s.ddr.queue ++ new }
    match s.dramServe ch sub now s.ddr.queue.length with
    | (some q, s) => .next ((s.activate q).dramEcc ch ecc)
    | (none, s) => .next s

/-- DISTURBANCE_WINDOW (R390, R392): every 32 ms. -/
def execDisturbanceWindow (s : State) : Out :=
  if s.ddr.ready = false ∨ s.ddr.selfRef then .next s
  else .next { s with
    ddr.acts := []
    ddr.acted := []
    ddr.throttles := s.ddr.throttles.filterMap (fun t =>
      if t.live then some { t with live := false } else if t.step ≤ 1 then none else some { t with step := t.step - 1 }) }

/-- DRAM_PATROL_SCRUB (R395): one pass over a channel, with what it found (assumption log 12). -/
def execDramPatrolScrub (ch : Nat) (ecc : DramEcc) (s : State) : Out :=
  if s.chanOn ch = false then .next s
  else .next ((s.ddrCount (offChan ch 32) 1).dramEcc ch ecc)

/-! ## Throttle and Disturbance log (R399) -/

/-- The highest step applied to a requester now. -/
def State.topStep (s : State) (i : Nat) : Nat := ((s.ddr.throttles.filter (fun t => t.req = i)).map Throttle.step).foldl max 0

/-- THROTTLE_AND_DISTURBANCE (R399). -/
def execThrottleAndDisturbance (c : Cmd) (s : State) : Out :=
  mgrPage c s (fun s =>
    s.page c (pageOf 2048 ([(0, 2, 1), (2, 1, s.ddr.chUp), (3, 1, s.ddr.mapOrder), (4, 2, s.ddr.throttles.length)]
      ++ s.ddr.log.map (fun e => (e.1, 8, e.2)) ++ (List.range 16).map (fun i => (offReq i 24, 1, s.topStep i)))))

end Sys2Proof.Machine
end

