-- ==== Sys2Proof/Machine/Census.lean ====
section
/-! DEFINITION. The census: how a start rebuilds a pool from its root, its register, its journal and the tags of its media (R178, R186, R194 to R204, R206, R207, R218, R398). -/

namespace Sys2Proof.Machine

/-! ## Members (R195 step 1) -/

/-- Slots in which a listed member may be found: its cartridge was admitted or quarantined. -/
def State.foundIn (s : State) (serial : Nat) : Option Nat :=
  (s.slots.find? (fun e => e.2.serial = serial ∧ e.2.prsnt ∧ (e.2.st = .admitted ∨ e.2.st = .quarantined))).map (fun e => e.1)
/-- Where the member's cartridge stands, in any state. -/
def State.serialIn (s : State) (serial : Nat) : Option Nat :=
  (s.slots.find? (fun e => e.2.serial = serial ∧ e.2.prsnt)).map (fun e => e.1)

/-- Every slot with a cartridge is past admission (R203). -/
def State.slotsSettled (s : State) : Bool :=
  s.slots.all (fun e => !(e.2.st = .debounce || e.2.st = .powering || e.2.st = .training || e.2.st = .admitting))

/-- A listed member takes its place: a found one in its slot, any other as a failed member with reason 0x0A (R195, R198). -/
def State.seat (s : State) (p : Nat) (m : Member) : Member × State :=
  if m.st = 2 then
    let bytes := ((s.bandsOn m.slot).map (fun b => (s.pool p).memberBytes (s.band b).mode)).sum
    let s : State := { s with media.gone := s.media.gone.map (fun g => if g.key = m.slot then { g with startMs := s.gbk.uptime, total := bytes, bytes := 0 } else g) }
    (m, if bytes = 0 then s else s.log 0x0504 [p, ((s.media.gone.find? (fun g => g.key = m.slot)).map Gone.slot).getD 0xFF, bytes])
  else
    let stale := (s.media.gone.filter (fun g => g.pool = p ∧ g.idx = m.idx)).map (fun g => g.key)
    let keys := offKey p m.idx :: stale
    let s : State := { s with media.gone := s.media.gone.filter (fun g => !(stale.contains g.key)) }
    match s.foundIn m.serial with
    | some n =>
      let s := s.each keys (fun s k => s.renameAll k n)
      let quar := (s.slot n).st = .quarantined
      let s := s.modSlot n (fun x => { x with
        pool := some p, midx := m.idx, lastPool := none, lostMember := false
        st := if quar then .quarantined else if m.st = 1 then .draining else .inService
        drain := if m.st = 1 then some (if x.retireBits ≠ 0 then .life else .service) else none
        slow := quar, slowSince := s.gbk.uptime, fastProbes := 0 })
      ({ m with slot := n }, if quar then s.log 0x0501 [n, 3] else s)
    | none =>
      let key := 64 + s.media.nextId
      let s := s.each keys (fun s k => (s.freshId.2).renameAll k key)
      let bytes := ((s.bandsOn key).map (fun b => (s.pool p).memberBytes (s.band b).mode)).sum
      let g : Gone := { key := key, slot := (s.serialIn m.serial).getD m.slot, pool := p, idx := m.idx, reason := 0x0A, startMs := s.gbk.uptime, total := bytes }
      let s : State := { s with media.gone := s.media.gone ++ [g] }
      let n := g.slot
      let s := if n ≥ 64 then s
        else if (s.slot n).st = .empty ∨ (s.slot n).serial = m.serial then
          (s.modSlot n (fun x => { x with reason := if x.st = .rejected then x.reason else 0x0A, lastPool := some p
                                          rebuildDone := false, lostMember := x.st = .empty })).slotEvent n 10
        else if (s.slot n).pool = none then s.modSlot n (fun x => { x with lastPool := some p })
        else s
      let s := (s.log 0x0503 [n, 0x0A, p]).log 0x0504 [p, n, bytes]
      ({ m with slot := key, st := 2 }, s)

/-- Seat every listed member. -/
def State.seatAll (s : State) (p : Nat) : List Member → List Member × State
  | [] => ([], s)
  | m :: l => let (m, s) := s.seat p m; let (r, s) := s.seatAll p l; (m :: r, s)

/-! ## What can be read of a row (R196 to R198) -/

/-- A protection equation of a row: 0 P or 1 Q over the members of a mask. -/
abbrev Eqn := Nat × Nat

/-- What equations recover once: one unknown, or two under P and Q over the same unknowns. -/
def eqnStep (n : Nat) (eqs : List Eqn) (known : List Nat) : List Nat :=
  let unk := fun (e : Eqn) => (bitsOf e.2 n).filter (fun m => !known.contains m)
  let one := eqs.flatMap (fun e => if (unk e).length ≤ 1 then unk e else [])
  let two := eqs.flatMap (fun e => if e.1 = 0 ∧ (unk e).length = 2 ∧ eqs.any (fun f => f.1 = 1 ∧ unk f = unk e) then unk e else [])
  (known ++ one ++ two).dedup
def eqnClose (n : Nat) (eqs : List Eqn) (known : List Nat) : Nat → List Nat
  | 0 => known
  | k + 1 => eqnClose n eqs (eqnStep n eqs known) k

/-- Whether a member's unit of a row was programmed and verified, and no earlier start found it damaged. -/
def State.unitDone (s : State) (bno wl mp : Nat) : Bool :=
  let b := s.band bno
  let us := s.rowUnits bno wl
  !b.torn.contains (mp, wl) && (match us.find? (fun u => u.mp = mp) with
    | some u => u.verified
    | none => wl < b.wlOf b.taken)
/-- Whether it is read by L0 to L2 from a cartridge that serves reads directly (R196). -/
def State.unitSeen (s : State) (v : CensusReads) (bno wl mp : Nat) : Bool :=
  s.unitDone bno wl mp && s.direct ((s.band bno).readPlace mp wl).1 && !v.weak.contains (bno, wl, mp) && !v.dead.contains (bno, wl, mp)
/-- The slot in which a lost member's cartridge still answers (R198). -/
def State.stillIn (s : State) (n : Nat) : Option Nat :=
  let at_ : Option Nat := if n < 64 then some n
    else (s.media.gone.find? (fun g => g.key = n)).bind (fun g =>
      ((s.pool g.pool).members.find? (fun m => m.idx = g.idx)).bind (fun m => s.serialIn m.serial))
  at_.filter (fun k => (s.slot k).phase = 5)

/-- The equations at hand for a row: final P and Q, and the journal records in force on hosts that answer. -/
def State.rowEqns (s : State) (v : CensusReads) (bno wl : Nat) : List Eqn :=
  let b := s.band bno
  let full := ((dataPositions bno b.n).map (fun m => 2 ^ m)).sum
  let fin := (if s.unitSeen v bno wl (pPos bno b.n) then [((0 : Nat), full)] else []) ++ (if s.unitSeen v bno wl (qPos bno b.n) then [(1, full)] else [])
  let rec' := fun (pq : Nat) => match s.inForceJ bno wl pq with | some j => (if s.answers j.host then [(pq, j.mask)] else []) | none => []
  fin ++ rec' 0 ++ rec' 1

/-- The data members of a row that are readable or can be reconstructed from the others. -/
def State.rowIndirect (s : State) (v : CensusReads) (bno wl : Nat) : List Nat :=
  let b := s.band bno
  let seen := (dataPositions bno b.n).filter (fun m => s.unitSeen v bno wl m)
  eqnClose (b.n + 2) (s.rowEqns v bno wl) seen (b.n + 2)
/-- The lost members of a row whose cartridge still answers: they are read directly, with the full ladder (R198). -/
def State.rowDirect (s : State) (v : CensusReads) (bno wl : Nat) : List Nat :=
  let b := s.band bno
  let known := s.rowIndirect v bno wl
  (dataPositions bno b.n).filter (fun m => !known.contains m && s.unitDone bno wl m &&
    !v.dead.contains (bno, wl, m) && !s.direct (b.readPlace m wl).1 && (s.stillIn (b.readPlace m wl).1.slot).isSome)
/-- The data members of a row that the census gets. -/
def State.rowKnown (s : State) (v : CensusReads) (bno wl : Nat) : List Nat :=
  let b := s.band bno
  eqnClose (b.n + 2) (s.rowEqns v bno wl) (s.rowIndirect v bno wl ++ s.rowDirect v bno wl) (b.n + 2)

/-- Rows in which anything was programmed. -/
def State.rowCount (s : State) (bno : Nat) : Nat := ceilDiv (s.band bno).taken (max 1 (s.band bno).rowSize)
/-- Rows that lack a verified final P or Q. -/
def State.cutRows (s : State) (bno : Nat) : List Nat :=
  let b := s.band bno
  (List.range (s.rowCount bno)).filter (fun w => !(s.unitDone bno w (pPos bno b.n) && s.unitDone bno w (qPos bno b.n)))

/-! ## The scan of an open band (R196, R197) -/

/-- Position of the first codeword of a data unit. -/
def Band.unitPos (b : Band) (bno wl mp : Nat) : Nat := wl * b.rowSize + dataIdx bno b.n mp * b.step

/-- Scan an open direct or log band: tags of what is readable or reconstructable, the frontier, and what is damaged. -/
def State.scanBand (s : State) (v : CensusReads) (p bno : Nat) : State :=
  -- without a closing summary the relocations are lost, and the wordlines are read through their rows (R130)
  let away := (s.band bno).relocs.map (fun e => (e.1, e.2.1))
  let s := s.modBand bno (fun b => { b with relocs := [], torn := b.torn ++ away })
  let b := s.band bno
  let rows := List.range (s.rowCount bno)
  let cut := s.cutRows bno
  let known := rows.map (fun w => (w, s.rowKnown v bno w))
  let isKnown := fun (w m : Nat) => ((look known w).getD []).contains m
  -- the journal records in force, on hosts that answer
  let recs := rows.flatMap (fun w => ((s.inForceJ bno w 0).toList ++ (s.inForceJ bno w 1).toList).filter (fun j => s.answers j.host))
  let noRec := recs.isEmpty
  let seen := fun (s : State) (w : Nat) => (dataPositions bno b.n).filter (fun m => s.unitSeen v bno w m)
  let jrows := (cut.filter (fun w => recs.any (fun j => j.wl = w) && (s.rowIndirect v bno w).length > (seen s w).length)).length
  let drows := (rows.filter (fun w => s.rowDirect v bno w ≠ [])).length
  let s := if noRec then (s.log 0x0124 [p, bno]).modPool p (fun q => { q with startup := q.startup.mod zeroCell 56 (fun v => v + 1) }) else s
  -- tags of units the loss left unverified but the row gives back
  let gained := s.media.units.filter (fun u => u.band = some bno && u.restore = 0 && !u.verified && u.mp ≠ pPos bno b.n && u.mp ≠ qPos bno b.n && isKnown u.wl u.mp)
  let s := s.each gained (fun s u => s.noteTags u)
  let gone := rows.flatMap (fun w => ((dataPositions bno b.n).filter (fun m => !isKnown w m)).map (fun m => (w, m)))
  -- a verified unit that nothing gives back is lost with its row (R198)
  let lost := gone.filter (fun e => s.unitDone bno e.1 e.2)
  let tagsOf := fun (s : State) (e : Nat × Nat) => (s.band bno).tags.filter (fun t => b.unitPos bno e.1 e.2 ≤ t.1 && t.1 < b.unitPos bno e.1 e.2 + b.step)
  let s := s.each lost (fun s e =>
    let s := s.each (List.range (ceilDiv b.step 4)) (fun s q => s.rowLost bno e.1 (4 * q))
    s.each ((tagsOf s e).filter (fun t => t.2.kind = 0)) (fun s t => s.addLost t.2.nsx t.2.lba 0 bno))
  let torn := rows.flatMap (fun w => ((List.range (b.n + 2)).filter (fun m => !s.unitDone bno w m)).map (fun m => (m, w)))
  let units := rows.flatMap (fun w => (dataPositions bno b.n).map (fun m => (w, m)))
  let f := match units.find? (fun e => !isKnown e.1 e.2) with
    | some e => b.unitPos bno e.1 e.2
    | none => s.rowCount bno * b.rowSize
  let add := fun (m : Cells Nat) (o k : Nat) => m.mod zeroCell o (fun v => v + k)
  let s := s.modPool p (fun q => { q with startup := add (add (add (add q.startup 48 recs.length) 64 jrows) 72 drows) 80 ((lost.map (fun e => e.1)).dedup).length })
  let s : State := { s with
    media.units := s.media.units.filter (fun u => u.band ≠ some bno)
    media.jrecs := s.media.jrecs.filter (fun j => j.band ≠ bno || cut.contains j.wl) }
  let pins := s.media.jrecs.any (fun j => j.band = bno)
  s.modBand bno (fun x => { x with
    torn := torn ++ away, pinned := pins, early := true, frontier := if b.role = 1 then min f x.taken else x.frontier
    tags := x.tags.filter (fun t => !(gone.any (fun e => b.unitPos bno e.1 e.2 ≤ t.1 && t.1 < b.unitPos bno e.1 e.2 + b.step)))
    ahead := [], metaGot := [], runP := [], runQ := [], rowMask := 0, refs := 0, handle := none, copying := false, closing := false })

/-- A closed band as its summary describes it. -/
def State.loadClosed (s : State) (bno : Nat) : State :=
  let s : State := { s with media.units := s.media.units.filter (fun u => u.band ≠ some bno) }
  s.modBand bno (fun x => { x with
    closed := true, closing := false, copying := false, frontier := if x.role ≥ 3 ∨ x.early then x.frontier else x.size
    ahead := [], metaGot := [], runP := [], runQ := [], rowMask := 0, refs := 0, handle := none, refresh := false, doubled := false, copied := [] })

/-! ## The commit check (R186) -/

/-- A block the census finds: namespace index, address, full number, commit marks, band and position. -/
structure Found where
  nsx : Nat
  lba : Nat
  seq : Nat
  cfirst : Bool
  clast : Bool
  band : Nat
  pos : Nat
  deriving DecidableEq, Repr

/-- Blocks of a band that can count: in a dense band those below its frontier. -/
def State.foundOf (s : State) (bno : Nat) : List Found :=
  let b := s.band bno
  (b.tags.filter (fun t => t.2.kind = 0 && (b.role = 3 || t.1 < b.frontier))).map (fun t =>
    { nsx := t.2.nsx, lba := t.2.lba, seq := fullSeq b.openSeq t.2.seqLo, cfirst := t.2.cfirst, clast := t.2.clast, band := bno, pos := t.1 })

/-- The pool's bands that hold blocks. -/
def State.dataBands (s : State) (p : Nat) : List Nat :=
  (s.media.bands.filter (fun e => e.2.pool = p && !e.2.shavings && 1 ≤ e.2.role && e.2.role ≤ 3 && (e.2.role ≠ 2 || e.2.closed))).map (fun e => e.1)
def State.found (s : State) (p : Nat) : List Found := (s.dataBands p).flatMap s.foundOf

/-- Release records of a pool: namespace index, first segment, count, number. -/
def State.releases (s : State) (p : Nat) : List (Nat × Nat × Nat × Nat) :=
  (s.media.recs.filter (fun r => r.durable && r.typ = 5 && r.pool = p)).map (fun r =>
    let f := fun (o : Nat) => ((r.body.find? (fun e => e.1 = o)).map (fun e => e.2.2)).getD 0
    (f 16, f 20, f 28, r.first))
/-- Numbers that void records name. -/
def State.voids (s : State) (p : Nat) : List Nat :=
  (s.media.recs.filter (fun r => r.durable && r.typ = 6 && r.pool = p)).flatMap (fun r => (r.body.filter (fun e => e.1 ≥ 24)).map (fun e => e.2.2))
/-- Whether a release record above a number covers a block. -/
def State.released (s : State) (rel : List (Nat × Nat × Nat × Nat)) (nsx lba seq : Nat) : Bool :=
  match s.nsx? nsx with
  | none => true
  | some x => let k := lba / max 1 (s.segSize x); rel.any (fun r => r.1 = nsx && r.2.1 ≤ k && k < r.2.1 + r.2.2.1 && seq < r.2.2.2)

/-- The commit check of one number. -/
def State.commitOk (s : State) (all : List Found) (rel : List (Nat × Nat × Nat × Nat)) (voids : List Nat) (q : Nat) : Bool :=
  let mine := all.filter (fun e => e.seq = q)
  match mine.find? (fun e => e.cfirst), mine.find? (fun e => e.clast) with
  | some a, some z =>
    a.nsx = z.nsx && !voids.contains q
      && (List.range (z.lba + 1 - a.lba)).all (fun i =>
        all.any (fun e => e.nsx = a.nsx && e.lba = a.lba + i && e.seq ≥ q) || s.released rel a.nsx (a.lba + i) q)
  | _, _ => false

/-- Numbers to check: those of open bands, and those of tail copies (R195 step 7): the last block of a write whose first block no log band holds, where other blocks of it lie in direct bands or its segment has an older open one. -/
def State.toCheck (s : State) (p : Nat) (open' : List Nat) : List Nat :=
  let all := s.found p
  let inOpen := (open'.flatMap s.foundOf).map (fun e => e.seq)
  let tails := (all.filter (fun e => e.clast && (s.band e.band).role = 3 && !(all.any (fun a => a.seq = e.seq && a.cfirst && (s.band a.band).role = 3))
    && (all.any (fun a => a.seq = e.seq && (s.band a.band).role = 1)
      || open'.any (fun b => (s.band b).role = 1 && (s.band b).nsx = e.nsx && (s.nsx? e.nsx).any (fun x => e.lba / max 1 (s.segSize x) = (s.band b).seg)
        && (s.band b).openSeq < e.seq)))).map (fun e => e.seq)
  (inOpen ++ tails).dedup

/-- Check, lower frontiers to the first block of a failing number, and check again until nothing changes. -/
def State.commitAll (s : State) (p : Nat) (open' : List Nat) (cand : List Nat) (bad : List Nat) : Nat → List Nat × State
  | 0 => (bad, s)
  | fuel + 1 =>
    let all := s.found p
    let rel := s.releases p
    let voids := s.voids p
    let fresh := cand.filter (fun q => !bad.contains q && !s.commitOk all rel voids q)
    if fresh.isEmpty then (bad, s)
    else
      let s := s.each open' (fun s b =>
        if (s.band b).role ≠ 1 then s
        else
          let at_ := ((s.foundOf b).filter (fun e => fresh.contains e.seq)).map (fun e => e.pos)
          s.modBand b (fun x => { x with frontier := at_.foldl min x.frontier }))
      s.commitAll p open' cand (bad ++ fresh) fuel

/-! ## The maps (R195 steps 5 to 8) -/

/-- The segment map of one segment: the newest candidate and what lies behind it; the other candidates become shavings. -/
def State.mapSeg (s : State) (p : Nat) (rel : List (Nat × Nat × Nat × Nat)) (x : Ns) (k : Nat) : State :=
  let cand := (s.media.bands.filter (fun e => e.2.pool = p && !e.2.shavings && (e.2.role = 1 || (e.2.role = 2 && e.2.closed)) && e.2.nsx = x.nsx && e.2.seg = k
    && !(rel.any (fun r => r.1 = x.nsx && r.2.1 ≤ k && k < r.2.1 + r.2.2.1 && e.2.openSeq < r.2.2.2)))).map (fun e => e.1)
  let best := cand.foldl (fun (acc : Option Nat) b => match acc with | none => some b | some a => if (s.band a).openSeq < (s.band b).openSeq then some b else some a) none
  match best with
  | none => s
  | some a =>
    let f := (s.band a).frontier
    if f ≥ (s.band a).size then s.modSeg x.nsx k (fun _ => { b := some a })
    else s.modSeg x.nsx k (fun _ => { a := some a, f := f, early := true, b := (s.band a).prevA.bind (fun b => if cand.contains b then some b else none) })

/-- The dense band and number that stand for a block. -/
def State.denseOf (s : State) (x : Ns) (lba : Nat) : Option (Nat × Nat) :=
  let size := max 1 (s.segSize x)
  let g := x.seg (lba / size)
  let o := lba % size
  let b := match g.a with | some a => if o < g.f then some a else g.b | none => g.b
  b.map (fun b => (b, (((s.band b).tags.find? (fun t => t.1 = o)).map (fun t => fullSeq (s.band b).openSeq t.2.seqLo)).getD 0))

/-- Put a found log block into the log map when it is the newest. -/
def State.mapLog (s : State) (rel : List (Nat × Nat × Nat × Nat)) (bad : List Nat) (e : Found) : State :=
  match s.nsx? e.nsx with
  | none => s
  | some x =>
    let older : Bool := match look s.media.log (e.nsx, e.lba) with | some o => o.seq < e.seq | none => true
    let dense : Bool := match s.denseOf x e.lba with
      | none => true
      | some (b, q) => if e.seq < (s.band b).openSeq then false else if (s.band b).closeSeq ≠ 0 ∧ (s.band b).closeSeq < e.seq then true else q < e.seq
    if older && dense && !bad.contains e.seq && !s.released rel e.nsx e.lba e.seq && e.lba < x.nsze then
      { s with media.log := place s.media.log (e.nsx, e.lba) { band := e.band, pos := e.pos, seq := e.seq } }
    else s

/-- Die-blocks of the pool after the start: those in use keep their use, all others are free and erased before use (R194). -/
def State.tidyBlocks (s : State) (p : Nat) : State :=
  let ours := s.poolSlots p
  let used := fun (pl : Place) (b : Nat) => let x := s.band b
    x.role ≠ 0 && !x.shavings && (x.members.contains pl || x.splits.any (fun e => e.2.2 = pl))
  { s with media.blocks := (s.media.blocks.filter (fun e => e.1.slot ≥ 64 || ours.contains e.1.slot || (s.slot e.1.slot).pool.isSome)).map (fun (e : Place × BlockEnt) =>
      if !ours.contains e.1.slot then e
      else
        let st : BlockSt := match e.2.st with
          | .member b => if used e.1 b then .member b else .free
          | .journal => if (s.ring e.1.slot).blocks.contains e.1 || s.media.jrecs.any (fun j => j.at_.contains e.1) then .journal else .free
          | .root => .root
          | .retired => .retired
          | .shavings b => if s.media.bands.any (fun x => x.1 = b) then .shavings b else .free
          | _ => .free
        (e.1, { e.2 with st := st, level := 0, retireNext := 0, ready := if st = .free then false else e.2.ready })) }

/-- Root and journal die-blocks whose erase the loss interrupted are erased now. -/
def State.eraseAgain (s : State) (p : Nat) : State :=
  s.each (s.media.blocks.filter (fun e => (e.2.st = .journal || e.2.st = .root) && !e.2.ready && (s.slot e.1.slot).pool = some p)) (fun s e => s.eraseFor e.1 1 e.2.st)

/-! ## The deep scan (R201, R202) -/

/-- The trigger of a deep scan (R201, R207): 0 where a register row cannot be recovered, more than two members of a register band being unreadable; 1 where two band headers claim one die-block with the same `OPEN_SEQ`. -/
def State.needsDeep (s : State) (p : Nat) : Option Nat :=
  let mine := s.media.bands.filter (fun e => e.2.pool = p && e.2.role ≠ 0 && !e.2.shavings)
  if mine.any (fun e => e.2.role = 4 && e.2.taken ≠ 0 && (e.2.members.filter (fun pl => !s.direct pl)).length > 2) then some 0
  else if mine.any (fun e => mine.any (fun f => e.1 ≠ f.1 && e.2.openSeq = f.2.openSeq && e.2.members.any (fun pl => f.2.members.contains pl))) then some 1
  else none

/-- The lowest free band number that keeps the tags and the rotation of band `b`: the same modulo 65,536 and modulo `N` + 2 (R202). -/
def State.renumber (s : State) (b n : Nat) : Nat :=
  let step := Nat.lcm 65536 (n + 2)
  ((List.range (s.media.bands.length + 1)).map (fun k => b % step + step * k)).find? (fun k => !(s.media.bands.any (fun e => e.1 = k))) |>.getD b

/-- What the deep scan loses and changes: release, void and member records, relocations; each data band takes a new number, and its `CLOSE_SEQ` is no longer known. -/
def State.deepScan (s : State) (p trigger : Nat) : State :=
  let s := s.modPool p (fun q => { q with pstate := 3, deep := true })
  let secs := s.freeVal
  let s := (s.took).log 0x0123 [p, trigger, secs]
  let s : State := { s with media.recs := s.media.recs.filter (fun r => r.pool ≠ p), media.bands := s.media.bands.filter (fun e => !(e.2.pool = p && e.2.role = 4)) }
  let bs := (s.media.bands.filter (fun e => e.2.pool = p && e.2.role ≠ 0 && !e.2.shavings)).map (fun e => e.1)
  s.each bs (fun s b =>
    let x := s.band b
    let rest := s.media.bands.put band0 b {}
    let k := ({ s with media.bands := rest } : State).renumber b x.n
    let r := fun (o : Option Nat) => if o = some b then some k else o
    { s with
      media.bands := Cells.put band0 (rest.every band0 (fun _ e => { e with prevA := r e.prevA, prevB := r e.prevB })) k { x with relocs := [], closeSeq := 0 }
      media.jrecs := s.media.jrecs.map (fun j => if j.band = b then { j with band := k } else j)
      media.units := s.media.units.map (fun u => match u.kind with | .band c w m => if c = b then { u with kind := .band k w m } else u | _ => u)
      media.blocks := s.media.blocks.map (fun (e : Place × BlockEnt) => if e.2.st = .member b then (e.1, { e.2 with st := .member k }) else e) })

/-! ## Assembly -/

/-- The namespaces as the root names them, with what firmware keeps of them (R155, R332, R334, R442). -/
def State.rootNss (s : State) (g : RootGen) : List Ns :=
  let tbl := (s.ten.stored.map (fun t => t.1)).getD s.ten.tbl
  g.nss.map (fun x =>
    let cur := s.media.nss.find? (fun y => y.nsid = x.nsid ∧ y.nsx = x.nsx)
    let orphan := x.tenant ≠ 0 && !x.flags.testBit 1 && !(Cells.get tenant0 tbl x.tenant).occupied
    { x with segs := [], dealloc := [], policy := 0x000A0200, jobId := none, jobOn := false, newFmt := none
             job := if s.media.sanitize.isSome then 6 else 0
             tenant := if orphan then 0 else x.tenant
             salt := s.fw.salts.get zeroCell x.nsx
             attached := (cur.map Ns.attached).getD x.attached })

/-- The highest number any structure on media bears. -/
def State.topSeq (s : State) : Nat :=
  let bs := s.media.bands.map (fun (e : Nat × Band) => ((e.2.tags.map (fun t => fullSeq e.2.openSeq t.2.seqLo)).foldl max (max e.2.openSeq e.2.closeSeq)))
  let js := s.media.jrecs.map JRec.seq
  let rs := s.media.recs.map DurRec.seq
  let ps := s.media.pools.map (fun (e : Nat × Pool) => (e.2.root.map RootGen.seq).getD 0)
  (bs ++ js ++ rs ++ ps).foldl max 0

/-- Steps 2 to 8 on a pool whose members are seated: the failing numbers and the open bands. -/
def State.rebuildMaps (s : State) (v : CensusReads) (p : Nat) : List Nat × List Nat × State :=
  let mine := fun (r : Nat → Bool) (s : State) => (s.media.bands.filter (fun e => e.2.pool = p && !e.2.shavings && r e.2.role)).map (fun e => e.1)
  let closed := (mine (fun r => 1 ≤ r && r ≤ 3) s).filter (fun b => (s.band b).sumDurable && !((s.band b).role = 2 && (s.band b).early))
  let open' := (mine (fun r => r = 1 || r = 3) s).filter (fun b => !(s.band b).sumDurable)
  -- a copy destination closed before it was whole is given up too (assumption log 96)
  let dest := (mine (fun r => r = 2) s).filter (fun b => !(s.band b).sumDurable || (s.band b).early)
  let s := s.modPool p (fun q => { q with startup := ((((q.startup.put zeroCell 16 closed.length).put zeroCell 24 (open'.filter (fun b => (s.band b).role = 1)).length).put zeroCell 32
    (open'.filter (fun b => (s.band b).role = 3)).length).put zeroCell 40 dest.length) })
  let s := s.each closed (fun s b => s.loadClosed b)
  let s := s.each dest (fun s b => s.shave b)
  let s := s.each open' (fun s b => s.scanBand v p b)
  let cand := s.toCheck p open'
  let (bad, s) := s.commitAll p open' cand [] (cand.length + 1)
  let rel := s.releases p
  let s := s.each (s.media.nss.filter (fun x => x.pool = p)) (fun s x => s.each (List.range (s.segCount x)) (fun s k => s.mapSeg p rel x k))
  let kept := (s.media.nss.filter (fun x => x.pool = p)).flatMap (fun x => x.segs.flatMap (fun (e : Nat × Seg) => e.2.a.toList ++ e.2.b.toList))
  let s := s.each ((mine (fun r => r = 1 || r = 2) s).filter (fun b => !kept.contains b)) (fun s b => s.shave b)
  let voids := s.voids p
  let all := (s.found p).filter (fun e => (s.band e.band).role = 3)
  let s := s.each all (fun s e => s.mapLog rel (bad ++ voids) e)
  let loaded := (s.media.log.filter (fun e => (s.band e.2.band).pool = p)).length
  let s := s.modPool p (fun q => { q with startup := (((q.startup.put zeroCell 88 bad.length).put zeroCell 96 voids.length).put zeroCell 104 loaded).put zeroCell 112 (s.found p).length })
  (bad, open', s)

/-- Step 9: void records, closing summaries of the open bands, the root where membership changed (R193, R195). -/
def State.startWrites (s : State) (p : Nat) (bad open' : List Nat) (changed : Bool) : State :=
  let s := s.eraseAgain p
  let s := if changed then s.writeRoot p .nothing else s
  let s := if (s.inService p).length ≥ 8 then s.needReg p else s
  -- after a deep scan the register is written afresh (R202)
  let kept := if (s.pool p).deep then (s.media.bands.filter (fun e => e.2.pool = p && !e.2.shavings && 1 ≤ e.2.role && e.2.role ≤ 3)).map (fun e => e.1) else []
  let s := s.each kept (fun s b => let s := s.headerRec b; if (s.band b).sumDurable then (s.closeBand b).modBand b (fun x => { x with closedMs := (s.band b).closedMs }) else s)
  let chunks := (List.range (ceilDiv bad.length 508)).map (fun i => (bad.drop (508 * i)).take 508)
  let s := s.each chunks (fun s l => s.record p 6 (0xFFFFFFFF + 2 ^ 32 * 6) ((16, 2, l.length) :: l.mapIdx (fun i q => (24 + 8 * i, 8, q))) .nothing)
  let s := s.each (open'.filter (fun b => !(s.band b).shavings)) (fun s b => s.modBand b (fun x =>
    let last := (x.tags.map (fun t => t.1 + 1)).foldl max x.frontier
    { x with closing := true, taken := ceilDiv last (max 1 x.rowSize) * x.rowSize }))
  if bad.isEmpty then s else s.log 0x0122 [p, bad.length]

/-- Assemble a pool from its root (R195, R198, R202). -/
def State.assemble (s : State) (v : CensusReads) (p : Nat) (g : RootGen) : State :=
  let s := s.modPool p (fun q => { q with
    exist := true, cls := g.cls, logPm := g.logPm, spare := g.spare, flags := g.flags, rootSeq := g.seq, members := g.members })
  let s := s.setBoth (stBandWidth p) g.n
  let s : State := { s with media.nss := s.media.nss.filter (fun x => x.pool ≠ p) ++ s.rootNss g }
  let (ms, s) := s.seatAll p g.members
  let s := s.modPool p (fun q => { q with members := ms })
  let absent := ((g.members.zip ms).filter (fun e => e.1.st ≠ 2 && e.2.st = 2)).length
  let quar := ((s.poolSlots p).filter (fun n => (s.slot n).st = .quarantined)).length
  let s := s.modPool p (fun q => { q with startup := ((((q.startup.put zeroCell 1 g.members.length).put zeroCell 2 (s.poolSlots p).length).put zeroCell 3 quar).put zeroCell 8 g.seq) })
  -- what the root does not name is not the pool's
  let s : State := { s with media.bands := s.media.bands.filter (fun e => !(e.2.pool = p && e.2.members.any (fun pl => pl.slot ≥ 2 ^ 40)))
                            media.jrecs := s.media.jrecs.filter (fun j => j.host < 64 || !((s.band j.band).pool = p))
                            media.blocks := s.media.blocks.filter (fun e => !(offKey p 0 ≤ e.1.slot && e.1.slot < offKey (p + 1) 0))
                            media.rings := (s.media.rings.filter (fun e => !(offKey p 0 ≤ e.1 && e.1 < offKey (p + 1) 0) && (e.1 < 64 || e.1 ≥ 2 ^ 40))).map (fun (e : Nat × JRing) => (e.1, { e.2 with fill := [] })) }
  let deep := s.needsDeep p
  let s := match deep with | some t => s.deepScan p t | none => s
  let (bad, open', s) := s.rebuildMaps v p
  let s := s.tidyBlocks p
  -- where a root page is known to be programmed (R220)
  let s := s.each ((s.poolSlots p).filter (fun n => !v.roots.contains n)) (fun s n =>
    s.modSlot n (fun x => { x with rootAt := some (2 * g.pair, (s.rootBlock n (2 * g.pair) false).block, g.wl) }))
  let top := max s.topSeq s.media.highSeq
  let s : State := { s with media.highSeq := top, media.resumeSeq := top + 2 ^ 32, media.seq := max s.media.seq (top + 2 ^ 32) }
  let s := if absent + quar = 0 then s else s.log 0x0121 [p, absent, quar]
  let s := s.startWrites p bad open' (absent ≠ 0 || deep.isSome)
  let s := s.modPool p (fun q => { q with pstate := 2, rebuildStart := s.gbk.uptime })
  let s := if s.pwr.mode = 1 then s.makeSlices p else s.dropSlices p
  let s := (s.checkNarrow p).settle
  let s := s.each (s.media.nss.filter (fun x => x.pool = p)) (fun s x => s.nsChanged (s.attachedCtrls x) x)
  s.each ((s.slots.filter (fun e => e.2.st = .admitted ∧ e.2.lastPool = some p)).map (fun e => e.1)) (fun s n => s.autoAdd n)

/-- A pool that is not assembled keeps its cartridges (R200, R398). -/
def State.holdPool (s : State) (p : Nat) (found : List Nat) : State :=
  let s := s.each found (fun s n => s.modSlot n (fun x => { x with held := some p }))
  s.modPool p (fun q => { q with pstate := 4, exist := false })

/-- The end of admission is noted once (R206). -/
def State.admissionEnds (s : State) : State := if s.fw.times.any (fun e => e.1 = 3) then s else s.phaseEnds 3

/-- The start is done once every census has ended (R206, R207). -/
def State.startDone (s : State) : State :=
  if s.censusEnded = false ∨ s.fw.upDone ∨ s.slotsSettled = false then s
  else
    let s := s.each [4, 5, 6, 7, 8, 9] (fun s k => s.admissionEnds.phaseEnds k)
    ({ s with fw.upDone := true } : State).log 0x0120 [0xFF, s.pwr.cause, s.gbk.uptime]

/-- What counts against DRAM when a pool is assembled: the pools already ready, and its own namespaces (R398). -/
def State.censusView (s : State) (g : RootGen) : State :=
  { s with media.pools := s.media.pools.every pool0 (fun _ q => { q with exist := q.exist && q.pstate = 2 })
           media.nss := s.media.nss.filter (fun x => (s.pool x.pool).pstate = 2) ++ g.nss }

/-- The census of a pool has ended: commands that waited for it run (R204), and the start may be done. -/
def State.censusEnd (s : State) (p : Nat) : State := (s.runLate p).startDone

/-- CENSUS (R195 to R204): one pool; `v` says what its reads give. -/
def execCensus (p : Nat) (v : CensusReads) (s : State) : Out :=
  if s.pwr.phase ≠ .run ∨ p ≥ 4 ∨ s.coreOn = false ∨ s.slotsSettled = false then .next s
  else
    let s := s.admissionEnds
    let q := s.pool p
    match (if q.pstate = 1 then q.root else none) with
    | none => .next s.startDone
    | some g =>
      let found := (g.members.filter (fun m => m.st ≠ 2)).filterMap (fun m => s.foundIn m.serial)
      let readable := found.filter (fun n => (s.slot n).st = .admitted && !v.roots.contains n)
      if found.isEmpty then .next ((s.modPool p (fun q => { q with pstate := 0, exist := false })).censusEnd p)
      else if readable.isEmpty then .next (((s.holdPool p found).log 0x0125 [p, found.length]).censusEnd p)
      else
        let want : Pool := { cls := g.cls }
        let carts := (g.members.filter (fun m => m.st ≠ 2)).length
        if (s.censusView g).dramFits p want carts g.n g.logPm then .next ((s.assemble v p g).censusEnd p)
        else .next (((s.holdPool p found).log 0x0905 [0xFF, p, mapBytes (want.allBlocks carts) g.n (want.logCap carts g.logPm), 3 * s.dramBytes / 4]).censusEnd p)

end Sys2Proof.Machine
end

