-- ==== Sys2Proof/Machine/Ports.lean ====
section
/-! DEFINITION. Host ports: modes, frames, priority flow control, congestion control, addresses, MACsec and the saved configuration (R249 to R257, R267, R271, R272, R274 to R276). -/

namespace Sys2Proof.Machine

/-- A port number that no part has faults; one that the group's mode does not give has no function. -/
def onPort (s : State) (p : Nat) (f : State → State) : Out :=
  if p ≥ 64 then .fault (.noSuchInstance p)
  else if s.pwr.phase ≠ .run ∨ s.portExists p = false then .next s
  else .next (f s)

/-! ## Modes (R249, R250) -/

/-- Whether a mode can be taken: its value, no armed commit, and every rate limit within the new line rate. -/
def State.modeOk (s : State) (g mode : Nat) : Bool :=
  let l := modeLanes mode
  let ports := if l = 0 then [] else ((List.range 16).filter (fun i => i % l = 0)).map (fun i => 16 * g + i)
  (mode ≤ 4 && (s.part = .ux6464 || mode = 0 || mode = 3)) && !s.stage.armed
    && ports.all (fun p => s.inf (stPortRate p) ≤ modeRate mode && s.sh (stPortRate p) ≤ modeRate mode)

/-- A port goes down. -/
def State.portDown (s : State) (p cause : Nat) : State :=
  if (s.port p).linkUp then (s.modPort p (fun x => { x with linkUp := false, fecLock := false })).log 0x0602 [p, cause] else s

/-- A new mode: every port of the group goes down, its associations are lost, and the thresholds follow the new reserve. -/
def State.setMode (s : State) (g mode : Nat) : State :=
  let old := s.grpMode g
  let ports := s.portsOf g
  let s := s.each ports (fun s p => s.portDown p 3)
  let s := s.each ports (fun s p => s.modPort p (fun x => { cak := x.cak, ckn := x.ckn, stCak := x.stCak }))
  let conns := (s.host.conns.filter (fun x => ports.contains x.port)).map (fun x => x.id)
  let s := s.each conns (fun s i => s.loseConn i 4)
  let s := s.setReg (dwGROUP g) mode
  let s := s.each (s.portsOf g) (fun s p => s.setReg (dwPORT p + 0x0C) (pfcThFor (modeLanes mode)))
  (s.log 0x0604 [g, old, mode]).discNotice s.allHosts

/-- PORT_MODE (R250). -/
def execPortMode (p : Path) (g : Nat) (mode : BitVec 3) (s : State) : Out :=
  if g ≥ 4 then .fault (.noSuchInstance g)
  else winWrite p (dwGROUP g) s (fun s =>
    if mode.toNat = s.grpMode g then s
    else if s.modeOk g mode.toNat then s.setMode g mode.toNat
    else s.raise (dwGROUP g + 4) 2)

/-! ## Frames (R252 to R255, R257, R260, R271, R272) -/

/-- `PFC_EN`, `TRUST` and the MACsec policy of a port. -/
def State.pfcEn (s : State) (p prio : Nat) : Bool := (s.reg (dwPORT p)).testBit (8 + prio)
def State.macPolicy (s : State) (p : Nat) : Nat := s.reg (dwPORT p + 0x14) % 4
/-- The packet-number limit of the port's suite. -/
def State.pnLimit (s : State) (p : Nat) : Nat := if field (s.reg (dwPORT p + 0x14)) 3 2 = 1 then 2 ^ 64 - 1 else 0xFFFFFFFF

/-- Bytes held in the port's reserve, and its size. -/
def Port.heldAll (x : Port) : Nat := (x.held.map (fun e => e.2)).sum
def State.reservation (s : State) (p : Nat) : Nat := 262144 * modeLanes (s.grpMode (p / 16))

/-- What the transport engines have taken out of the reserve since the last event: how much is free. -/
def State.drainHeld (s : State) (p prio : Nat) : State :=
  s.took.modPort p (fun x => { x with held := x.held.mod zeroCell prio (fun v => v - s.freeVal % (v + 1)) })

/-- Send a PFC frame. -/
def State.sendPfc (s : State) (p : Nat) : State := (s.bump (dwPORT p + 0x31C) 1).bump (dwPORT p + 0x304) 1

/-- The MACsec checks of a received frame: the state after it, or none where it is dropped. -/
def State.macsecIn (s : State) (p : Nat) (f : Frame) : Option State :=
  let x := s.port p
  let pol := s.macPolicy p
  if f.protectedFrame = false then (if pol = 2 ∧ ¬f.eapol then none else some s)
  else
    let ch := f.sa / 2
    let a := f.sa % 2
    let cur := a = x.txSa
    let ok : Bool := pol ≠ 0 && x.sakOn && ch < 8 && (cur || x.newSa || x.oldOk.contains ch) && !x.rxStop.testBit f.sa && x.rxPn.get zeroCell f.sa < f.pn
    if ok = false then none
    else
      let first : Bool := x.newSa && a ≠ x.txSa
      let stop := if f.pn ≥ s.pnLimit p then setBit x.rxStop f.sa else x.rxStop
      some (s.modPort p (fun x => { x with
        rxPn := x.rxPn.put zeroCell f.sa f.pn, rxStop := stop
        txSa := if first then a else x.txSa, txPn := if first then 1 else x.txPn
        stopTx := if first then false else x.stopTx
        newSa := if first then false else x.newSa
        oldOk := if first then (List.range 8).filter (fun c => c ≠ ch) else if a = x.txSa then x.oldOk.filter (fun c => c ≠ ch) else x.oldOk }))

/-- A RoCEv2 packet with CE: at most one CNP per queue pair and interval; within the clock's millisecond the choice is free. -/
def State.cnp (s : State) (p q : Nat) : State :=
  let y := s.host.qps.get (fun _ => {}) q
  let iv := s.reg (dwXPORT + 4) % 65536
  let due : Bool := match y.lastCnp with
    | none => true
    | some t => let d := s.gbk.uptime - t; if 1000 * (d - 1) ≥ iv ∧ d ≥ 1 then true else if 1000 * (d + 1) ≤ iv then false else s.freeVal % 2 = 1
  let s := s.took
  if due then
    let s : State := { s with host.qps := s.host.qps.mod (fun _ => {}) q (fun y => { y with lastCnp := some s.gbk.uptime }) }
    (s.bump (dwPORT p + 0x324) 1).bump (dwPORT p + 0x304) 1
  else s

/-- Place an accepted frame. -/
def State.placeFrame (s : State) (p : Nat) (f : Frame) : State :=
  let prio := if (s.reg (dwPORT p)).testBit 16 then f.dscp / 8 % 8 else f.pcp % 8
  let s := s.drainHeld p prio
  if (s.port p).heldAll + f.len > s.reservation p then s.bump (dwPORT p + 0x308) 1
  else
    let s := s.modPort p (fun x => { x with held := x.held.mod zeroCell prio (fun v => v + f.len) })
    let high : Bool := (s.port p).held.get zeroCell prio ≥ 1024 * (s.reg (dwPORT p + 0x0C) % 65536)
    let s := if s.pfcEn p prio && high && !(s.port p).xoff.testBit prio then
        (s.modPort p (fun x => { x with xoff := setBit x.xoff prio })).sendPfc p
      else s
    let s := if f.ce then
        let s := s.bump (dwPORT p + 0x320) 1
        match f.roceQp with | some q => s.cnp p q | none => s
      else s
    if f.headerDigestBad then
      match f.conn with
      | some i =>
        (match s.host.conns.find? (fun x => x.id = i ∧ x.hdgst) with
         | some x =>
           let s : State := { s with host.terms := s.host.terms ++ [(i, .headerDigest)] }
           ((s.bump (dwPORT p + 0x32C) 1).log 0x0605 [p, 0, x.qid]).loseConn i 2
         | none => s)
      | none => s
    else s

/-- FRAME_RECEIVE (R252 to R255, R257, R260, R271). -/
def execFrameReceive (p : Nat) (f : Frame) (s : State) : Out :=
  onPort s p (fun s =>
    if (s.port p).linkUp = false then s
    else if f.fcsOk = false then s.bump (dwPORT p + 0x30C) 1
    else
      let s := s.bump (dwPORT p + 0x300) 1
      match s.macsecIn p f with
      | none => s.bump (dwPORT p + 0x328) 1
      | some s =>
        let addr : Bool := f.eapol || f.addrEntry.any (fun e => e < 16 && (s.reg (dwPORT p + 0x100 + 32 * e + 16)).testBit 8)
        if f.len > 9216 ∨ addr = false ∨ f.known = false then s.bump (dwPORT p + 0x308) 1
        else s.placeFrame p f)

/-! ## Priority flow control (R255, R256) -/

/-- PFC_FRAME. -/
def execPfcFrame (p prio quanta : Nat) (s : State) : Out :=
  onPort s p (fun s =>
    if (s.port p).linkUp = false ∨ prio ≥ 8 then s
    else
      let s := (s.bump (dwPORT p + 0x318) 1).bump (dwPORT p + 0x300) 1
      if s.pfcEn p prio then s.modPort p (fun x => { x with paused := if quanta = 0 then clearBit x.paused prio else setBit x.paused prio }) else s)

/-- PFC_PAUSE_REFRESH. -/
def execPfcPauseRefresh (p prio : Nat) (s : State) : Out :=
  onPort s p (fun s =>
    if (s.port p).xoff.testBit prio = false then s
    else
      let s := s.drainHeld p prio
      if (s.port p).held.get zeroCell prio ≥ 1024 * (s.reg (dwPORT p + 0x0C) / 65536) then s.sendPfc p
      else (s.modPort p (fun x => { x with xoff := clearBit x.xoff prio })).sendPfc p)

/-- PFC_PAUSE_EXPIRY. -/
def execPfcPauseExpiry (p prio : Nat) (s : State) : Out :=
  onPort s p (fun s => s.modPort p (fun x => { x with paused := clearBit x.paused prio }))

/-- PFC_STORM. -/
def execPfcStorm (p prio : Nat) (s : State) : Out :=
  onPort s p (fun s =>
    if s.reg (dwPORT p + 0x10) % 65536 = 0 ∨ (s.port p).paused.testBit prio = false ∨ (s.port p).storm.testBit prio then s
    else (s.modPort p (fun x => { x with storm := setBit x.storm prio })).log 0x0603 [p, prio])

/-- PFC_STORM_CLEAR. -/
def execPfcStormClear (p prio : Nat) (s : State) : Out :=
  onPort s p (fun s => s.modPort p (fun x => { x with storm := clearBit x.storm prio }))

/-- DCQCN_RATE_INCREASE (R257): fast recovery for five periods, then additive increase, up to line rate; alpha decays by its gain (DCQCN's published algorithm). -/
def execDcqcnRateIncrease (qp : Nat) (s : State) : Out :=
  match s.host.conns.find? (fun x => x.id = qp ∧ x.rdma) with
  | none => .next s
  | some x =>
    let line := 10 * modeRate (s.grpMode (x.port / 16))
    let y := s.host.qps.get (fun _ => {}) qp
    let y : Qp := if y.target = 0 then { y with target := line, rate := line } else y
    let g := field (s.reg dwXPORT) 15 8
    let target := if y.stage < 5 then y.target else min line (y.target + s.reg dwXPORT % 256)
    let y : Qp := { y with target := target, rate := min line ((y.rate + target) / 2), stage := min 255 (y.stage + 1), alpha := y.alpha - y.alpha / 2 ^ g }
    .next { s with host.qps := s.host.qps.put (fun _ => {}) qp y }

/-! ## Links (R276) -/

/-- PORT_LINK_UP. -/
def execPortLinkUp (p : Nat) (s : State) : Out :=
  onPort s p (fun s =>
    if (s.port p).linkUp ∨ (s.reg (dwPORT p)).testBit 0 = false ∨ (s.portLanes p).any s.lanePattern then s
    else (s.modPort p (fun x => { x with linkUp := true, fecLock := true })).log 0x0601 [p, s.grpMode (p / 16)])

/-- PORT_LINK_DOWN: connections live on within the limits of R261 and R263. -/
def execPortLinkDown (p cause : Nat) (s : State) : Out := onPort s p (fun s => s.portDown p cause)

/-! ## Addresses (R252, R274) -/

/-- ADDRESS_ENTRY_WRITE: one dword of an entry. -/
def execAddressEntryWrite (p : Path) (port e dword : Nat) (v : Word) (s : State) : Out :=
  if port ≥ 64 then .fault (.noSuchInstance port)
  else if e ≥ 16 ∨ dword ≥ 8 then .next s
  else
    let off := dwPORT port + 0x100 + 32 * e + 4 * dword
    winWrite p off s (fun s =>
      let flags := dwPORT port + 0x100 + 32 * e + 16
      let was := (s.reg flags).testBit 8
      let s := s.setReg off (v.toNat &&& rwMask off)
      let now := (s.reg flags).testBit 8
      let conns := (s.host.conns.filter (fun x => x.port = port ∧ x.entry = e)).map (fun x => x.id)
      let s := if was && !now then s.each conns (fun s i => s.loseConn i 5) else s
      if was || now then s.discNotice s.allHosts else s)

/-! ## MACsec (R271, R272) -/

/-- A number from staged dwords. -/
def wide (m : Cells Nat) (lo n : Nat) : Nat := ((List.range n).map (fun i => m.get zeroCell (lo + i) * 2 ^ (32 * i))).sum

/-- MKA_LOAD. -/
def execMkaLoad (p : Path) (port : Nat) (s : State) : Out :=
  if port ≥ 64 then .fault (.noSuchInstance port)
  else winWrite p (dwPORT port + 0x80) s (fun s => s.modPort port (fun x => { x with
    cak := wide x.stCak 0 8, ckn := wide x.stCak 8 8
    macsecUp := false, sakOn := false, newSa := false, oldOk := [], stopTx := false, txPn := 0, rxPn := [], rxStop := 0 }))

/-- SAK_DISTRIBUTION: the idle association of each channel takes the new key. -/
def execSakDistribution (p : Nat) (s : State) : Out :=
  onPort s p (fun s =>
    if s.macPolicy p = 0 ∨ (s.port p).linkUp = false then s
    else s.modPort p (fun x =>
      let idle := if x.sakOn then 1 - x.txSa else x.txSa
      let keys := (List.range 8).map (fun c => 2 * c + idle)
      { x with macsecUp := true, sakOn := true, newSa := x.sakOn, oldOk := if x.sakOn then List.range 8 else []
               txPn := if x.sakOn then x.txPn else 1, stopTx := if x.sakOn then x.stopTx else false
               rxPn := keys.foldl (fun (m : Cells Nat) k => m.put zeroCell k 0) x.rxPn
               rxStop := keys.foldl clearBit x.rxStop }))

/-- PN_EXHAUSTED: at the earlier mark firmware asks for a new SAK; at the limit sending or receiving stops. -/
def execPnExhausted (p : Nat) (transmit atLimit : Bool) (channel : Nat) (s : State) : Out :=
  onPort s p (fun s =>
    if (s.port p).sakOn = false ∨ atLimit = false then s
    else if transmit then
      (if (s.port p).newSa then s else (s.modPort p (fun x => { x with stopTx := true, txPn := s.pnLimit p })).log 0x0A21 [p, 0])
    else if channel ≥ 8 then s
    else s.modPort p (fun x => { x with rxStop := setBit x.rxStop (2 * channel + x.txSa) }))

/-- MKA_PEER_TIMEOUT. -/
def execMkaPeerTimeout (p : Nat) (s : State) : Out :=
  onPort s p (fun s =>
    if s.macPolicy p ≠ 2 then s else (s.modPort p (fun x => { x with macsecUp := false })).log 0x0A21 [p, 1])

/-! ## The saved configuration (R275) -/

/-- Whether a register belongs to `HOST`. -/
def isHostOff (off : Nat) : Bool := dwHOST ≤ off && off < 0x400000

/-- HOST_SAVE. -/
def execHostSave (p : Path) (s : State) : Out :=
  winWrite p (dwXPORT + 0x10) s (fun s =>
    { s with
      host.savedRegs := some ((s.dw.regs.filter (fun e => isHostOff e.1 && rwMask e.1 ≠ 0)), s.dw.inForce.filter (fun e => isHostOff e.1))
      host.savedKeys := (s.host.ports.map (fun e => (e.1, wide e.2.stCak 0 8, wide e.2.stCak 8 8))).filter (fun e => e.2 ≠ (0, 0)) })

/-! ## PCIe (R267) -/

/-- PASID_TLP: an Unsupported Request is counted; outside service mode the `SLICE` block holds no count. -/
def execPasidTlp (pasid : Nat) (s : State) : Out :=
  if s.pwr.phase = .held ∨ s.host.pcieUp = false then .next s
  else if s.pwr.mode = 1 ∧ (pasid = 0 ∨ pasid > 16) then .next (s.bump (dwSLICE + 0x20) 1)
  else .next s

end Sys2Proof.Machine
end

