-- ==== Sys2Proof/Machine/Power.lean ====
section
/-! DEFINITION. Power domains, room keys, entry, exit, wake sources, cartridge power and PMBus (R445 to R461, R499). -/

namespace Sys2Proof.Machine

/-! ## Room keys (R446 to R448) -/

/-- Domain numbers of `PWR_KEY` (R460). -/
def domCTL : Nat := 1
def domCORE : Nat := 2
def domDDR : Nat := 3
def domPCIE : Nat := 4
def domSRCH : Nat := 5
def domHP (g : Nat) : Nat := 6 + g
def domCG (g : Nat) : Nat := 10 + g

/-- Firmware tasks that hold `CORE` (class 1). -/
def State.fwBusy (s : State) : Bool :=
  [0, 1, 2, 3].any (fun p => s.logOcc p ≥ 500)
    || s.media.nss.any (fun x => x.segs.any (fun (e : Nat × Seg) => e.2.refresh || e.2.folding.isSome))
    || s.media.bands.any (fun e => e.2.copying || (e.2.refresh && !e.2.shavings))
    || s.media.gone.any (fun g => !g.done && s.holdsData g.key)
    || s.slots.any (fun e => e.2.st = .draining || e.2.updating)
    || !s.media.gcs.isEmpty || !s.censusEnded
/-- A command past stage 4 of R287, or an active DMA channel (class 2). -/
def Flight.pastStage4 (f : Flight) : Bool := match f.stage with | .held n => n > 4 | _ => true
def State.engineBusy (s : State) : Bool := s.io.flights.any Flight.pastStage4 || s.dma.chans.any (fun e => e.2.st = 1 || e.2.st = 3)
/-- What keeps `SRCH` on: a scan, a cursor, or stored contents unless `SRCH_DROP` is set. -/
def State.searchHeld (s : State) : Bool :=
  !s.srch.scans.isEmpty || !s.srch.cursors.isEmpty
    || (!s.pwr.srchDrop && (s.srch.tcam.any (fun e => e.2.valid) || s.srch.abanks.any (fun e => e.2.image ≠ 0)))
/-- The domain a controller's power state keys (class 4). -/
def Ctrl.keyed (k : Ctrl) : Option Nat :=
  if !k.exist || !k.en || k.shst = 2 then none else match k.ps with | 0 => some domCORE | 1 => some domCTL | _ => some domDDR
/-- `PWR_KEY.MGR` of a domain. -/
def State.mgrKey (s : State) (d : Nat) : Bool := (s.reg (dwKEY d)).testBit 16

/-- Classes with a key of their own on a domain (R447). -/
def State.ownKeys (s : State) (d : Nat) : List Nat :=
  let hold := match s.pwr.hold with | 0 => some domCORE | 1 => some domCTL | 2 => some domDDR | _ => none
  (if hold = some d || s.mgrKey d then [0] else [])
    ++ (if (d = domCORE && s.fwBusy) || (d = domCTL && s.efl.busy.isSome) then [1] else [])
    ++ (if (d = domCORE && s.engineBusy) || (d = domSRCH && s.searchHeld) then [2] else [])
    ++ (if (d = domPCIE && s.host.pcieUp) || (6 ≤ d && d ≤ 9 && d - 6 < s.part.groups && s.grpMode (d - 6) ≠ 0)
          || (10 ≤ d && d ≤ 17 && s.slots.any (fun e => e.1 / 8 = d - 10 && !(e.2.st = .empty || e.2.st = .debounce || e.2.st = .rejected || e.2.st = .off))) then [3] else [])
    ++ (if s.io.ctrls.any (fun e => e.2.keyed = some d) then [4] else [])
    ++ (if d = domCORE && s.pwr.wakeKey then [5] else [])

/-- Classes with a key, direct or under R446. -/
def State.keys (s : State) (d : Nat) : List Nat :=
  let core := s.ownKeys domCORE
  let ctl := s.ownKeys domCTL ++ s.ownKeys domPCIE ++ s.ownKeys domSRCH ++ core
    ++ ((List.range 4).flatMap (fun g => s.ownKeys (domHP g))).filter (fun c => c ≠ 3)
  if d = domCTL then ctl.dedup
  else if d = domDDR then (s.ownKeys domDDR ++ ctl).dedup
  else s.ownKeys d

/-- Whether a domain is powered (R450). -/
def State.domainOn (s : State) (d : Nat) : Bool :=
  if s.part.hasDomain d = false then false
  else if d = 0 then true
  else if s.pwr.phase = .held then false
  else match s.pwr.sleep with
    | .asleep 1 =>
      if d = domCTL then true
      else if d = domPCIE ∨ d = domSRCH then !(s.keys d).isEmpty
      else if 6 ≤ d ∧ d ≤ 9 then !(s.keys d).isEmpty && (s.reg (dwPWR + 0x8C)).testBit (4 + (d - 6))
      else false
    | .asleep _ => false
    | _ => if d = domCTL then true else if d = domCORE then s.pwr.phase = .run else if d = domDDR then s.ddr.ready else !(s.keys d).isEmpty

/-! ## Settings (R448, R449, R457, R460) -/

/-- ROOM_KEY (R449): Set Features C1h. -/
def execRoomKey (c : Cmd) (s : State) : Out :=
  mgrFeature c s (fun s =>
    let v := dw11 c
    if s.pwr.mode = 1 then s.refuse c .seqError
    else if v / 65536 ≠ 0 ∨ field v 7 5 ≠ 0 ∨ field v 15 8 = 0 then s.refuse c .invalidField
    else
      let s : State := { s with pwr.idle := field v 15 8, pwr.srchDrop := v.testBit 4, pwr.deepest := field v 3 2, pwr.hold := v % 4 }
      let s : State := if saveBit c then { s with fw.sets.roomKey := some v } else s
      s.post c.id .success)
/-- What Get Features C1h returns. -/
def State.roomKeyValue (s : State) : Nat := at' s.pwr.idle 8 + flag s.pwr.srchDrop 4 + at' s.pwr.deepest 2 + s.pwr.hold

/-- POWER_MANAGEMENT (R448): Set Features 02h; it is not saved. -/
def execPowerManagement (c : Cmd) (s : State) : Out :=
  adminCmd false c s (fun s =>
    s.check c (dw11 c % 32 ≤ 2) (fun s => (s.modCtrl c.id.ctrl (fun k => { k with ps := dw11 c % 32 })).post c.id .success))

/-- PWR_KEY_MGR (R460); a new key on `CORE` after an entry request is a wake (R455). -/
def execPwrKeyMgr (p : Path) (d : Nat) (v : Word) (s : State) : Out :=
  if d ≥ 18 then .fault (.noSuchInstance d)
  else winWrite p (dwKEY d) s (fun s =>
    let fresh := v.toNat.testBit 16 && !s.mgrKey d
    let s := s.setReg (dwKEY d) (v.toNat &&& rwMask (dwKEY d))
    if fresh && d = domCORE && s.pwr.sleep ≠ .active then s.latch 9 else s)

/-- PWR_SAVE (R460): the write of `PWR_CFG`. -/
def execPwrSave (p : Path) (v : Word) (s : State) : Out :=
  winWrite p (dwPWR + 0x8C) s (fun s =>
    let s := s.setReg (dwPWR + 0x8C) (v.toNat &&& 0xF1)
    if v.toNat.testBit 8 then
      { s with fw.sets.pwr := some (([0x80, 0x88, 0x8C, 0x90] ++ (List.range 8).map (fun r => 0x100 + 4 * r)).map (fun o => (dwPWR + o, s.reg (dwPWR + o)))) }
    else s)

/-- Whether a stagger is taken (R457). -/
def State.staggerOk (s : State) (n ms : Nat) : Bool :=
  1 ≤ n && n ≤ 64 && 5 ≤ ms && ms ≤ 200 && ceilDiv s.part.slots n * ms ≤ 1000
/-- CART_STAGGER (R457). -/
def execCartStagger (p : Path) (v : Word) (s : State) : Out :=
  winWrite p (dwPWR + 0x90) s (fun s =>
    if s.staggerOk (v.toNat % 128) (field v.toNat 15 8) then s.setReg (dwPWR + 0x90) (v.toNat &&& 0xFF7F) else s)

/-! ## PMBus (R459) -/

/-- One rail's answer. -/
def State.railAnswer (s : State) (r : Nat) (a : RailAnswer) : State :=
  match a with
  | .nack => (({ s with pwr.pmbRail := r } : State).raise (dwPWR + 0x120) 2).log 0x0114 [r]
  | .status w => if w = 0 then s else (({ s with pwr.pmbRail := r } : State).raise (dwPWR + 0x120) 1).log 0x0113 [r, w]

/-- PMBUS_ALERT: every enabled rail is read. -/
def execPmbusAlert (answers : List (Nat × RailAnswer)) (s : State) : Out :=
  if s.pwr.porst = false ∨ s.pwr.refclk = false then .next s
  else .next (s.each ((List.range 8).filter (fun r => (s.reg (dwPWR + 0x100 + 4 * r)).testBit 31)) (fun s r =>
    match look answers r with
    | some a => s.railAnswer r a
    | none => s))

/-! ## Wake sources (R455) -/

/-- The power controller runs. -/
def State.aonOn (s : State) : Bool := s.pwr.porst && s.pwr.refclk && s.pwr.phase ≠ .held
def State.wakeCfg (s : State) : Nat := s.reg (dwPWR + 0x80)
/-- Whether the unit sleeps at least as deep as a state. -/
def State.sleepsFrom (s : State) (t : Nat) : Bool := match s.pwr.sleep with | .asleep k => k ≥ t | _ => false
def State.stowed (s : State) : Bool := s.pwr.sleep = .asleep 1

/-- Whether a pin in level mode is asserted and enabled. -/
def State.levelPin (s : State) (p : Nat) : Bool :=
  let c := field s.wakeCfg (4 * p + 3) (4 * p)
  c.testBit 0 && !c.testBit 2 && (s.pwr.wakePins.testBit p == c.testBit 1)

/-- WAKE_PIN: the pin takes a level. -/
def execWakePin (pin : Nat) (level : Bool) (s : State) : Out :=
  if pin ≥ 4 then .fault (.noSuchInstance pin)
  else
    let was := s.pwr.wakePins.testBit pin
    let s : State := { s with pwr.wakePins := if level then setBit s.pwr.wakePins pin else clearBit s.pwr.wakePins pin }
    let c := field s.wakeCfg (4 * pin + 3) (4 * pin)
    let hit := c.testBit 0 && (level == c.testBit 1) && (!c.testBit 2 || was != level)
    .next (if s.aonOn && hit then s.latch pin else s)

/-- LINK_WAKE: in Stowed a frame on a held group, deeper a far-end signal on a group in use. -/
def execLinkWake (g : Nat) (s : State) : Out :=
  if g ≥ 4 then .fault (.noSuchInstance g)
  else
    let en := s.wakeCfg.testBit 16 && g < s.part.groups
    let hit := (s.stowed && (s.reg (dwPWR + 0x8C)).testBit (4 + g) && s.grpMode g ≠ 0) || (s.sleepsFrom 2 && s.grpMode g ≠ 0)
    .next (if s.aonOn && en && hit then s.latch 4 else s)

/-- PCIE_WAKE: a TLP in Stowed; deeper `PERST_N` rising. -/
def execPcieWake (s : State) : Out :=
  let hit := (s.stowed && s.host.pcieUp) || (s.sleepsFrom 2 && s.pwr.perst)
  let s' : State := if s.sleepsFrom 2 then { s with pwr.perst := false } else s
  .next (if s.aonOn && s.wakeCfg.testBit 17 && hit then s'.latch 5 else s')

/-- PERST (R499): low is a link loss; a rising edge is a wake in Dormant and Rest. -/
def execPerst (level : Bool) (s : State) : Out :=
  let rise := level && s.pwr.perst
  let s : State := { s with pwr.perst := !level }
  if s.aonOn = false then .next s
  else if rise && s.sleepsFrom 2 && s.wakeCfg.testBit 17 then .next (s.latch 5)
  else if level = false then .next s.pcieDown
  else .next s

/-- WAKE_TIMER: the programmed seconds have passed since entry completed. -/
def execWakeTimer (s : State) : Out :=
  .next (if s.aonOn && s.sleepsFrom 1 && s.wakeCfg.testBit 18 && s.reg (dwPWR + 0x88) ≠ 0 then s.latch 6 else s)

/-- CARTRIDGE_WAKE: a presence change; while the unit sleeps it is kept for the exit. -/
def execCartridgeWake (n : Nat) (level : Bool) (s : State) : Out :=
  if n ≥ 64 then .fault (.noSuchInstance n)
  else if n ≥ s.part.slots ∨ s.aonOn = false then .next s
  else
    let s := if s.sleepsFrom 1 then s.modSlot n (fun x => { x with prsntLow := !level }) else s
    .next (if s.wakeCfg.testBit 19 then s.latch 7 else s)

/-- KEY_WAKE: a client takes a key on `CORE` during entry or in Stowed, or on `CTL` in Dormant. -/
def execKeyWake (_cls dom : Nat) (s : State) : Out :=
  let entering : Bool := match s.pwr.sleep with | .entering _ _ => true | _ => false
  .next (if s.aonOn && ((dom = domCORE && (entering || s.stowed)) || (dom = domCTL && s.pwr.sleep = .asleep 2)) then s.latch 9 else s)

/-! ## Entry (R451 to R453) -/

/-- The target of an entry request: 0 where none is made (R451). -/
def State.entryTarget (s : State) : Nat :=
  let t := if (s.keys domCTL) ≠ [] then 1 else if (s.keys domDDR) ≠ [] then 2 else 3
  min t s.pwr.deepest

/-- Whether an entry request can be made now. -/
def State.mayEnter (s : State) : Bool :=
  s.pwr.phase = .run && s.pwr.mode = 0 && s.w1c (dwPWR + 0x84) = 0 && !([0, 1, 2, 3].any s.levelPin) && s.pwr.deepest ≠ 0

/-- ENTRY_REQUEST (R451): no key on `CORE` for `IDLE`; from Stowed, none on `CTL`. The wake key has run out when the latch has been clear for `IDLE`. -/
def execEntryRequest (s : State) : Out :=
  if s.mayEnter = false then .next s
  else
    let s : State := { s with pwr.wakeKey := false }
    match s.pwr.sleep with
    | .active => if (s.ownKeys domCORE) ≠ [] then .next s else .next { s with pwr.sleep := .entering 0 s.entryTarget, pwr.fromStowed := false, pwr.shutSent := [] }
    | .asleep 1 => if s.entryTarget ≤ 1 then .next s else .next { s with pwr.sleep := .entering 0 s.entryTarget, pwr.fromStowed := true, pwr.shutSent := [] }
    | _ => .next s

/-- Whether `CART_PWREN` falls on entry to a state (R457). -/
def State.pwrenFalls (s : State) (t : Nat) : Bool := t ≥ 2 && !(s.reg (dwPWR + 0x8C)).testBit 0

/-- A slot whose power goes for a sleep: a member or an admitted cartridge keeps its state and is admitted again later; any other starts over. -/
def State.slotSleeps (s : State) (n : Nat) : State :=
  let x := s.slot n
  let keep := x.st.member || x.st = .admitted || x.pool.isSome
  let s := if x.phase = 5 then s.slotEvent n 5 else s
  let s := s.modSlot n (fun x => { x with pwren := false, phase := 0, width := 0, upWidth := 0, lanes := 0, depth := 0, farPver := 0, farBuf := 0, mgmtDue := false
                                          syncDue := false, out := [], queue := [], heldTags := [], dataQ := [], reauth := false })
  if keep || x.pwren = false then s else s.modSlot n (fun x => { x with st := .powering, waitPower := false })
/-- A slot that is to be powered again. -/
def State.slotWaits (s : State) (n : Nat) : State := s.modSlot n (fun x => { x with waitPower := true })

/-- Held commands go on. -/
def State.goOn (s : State) : State := s.each (s.io.flights.map (fun f => f.c.id)) (fun s i => s.resume i)

/-- An entry stops at a point (R453): what it did is undone, and the unit is Active again; one that began in Stowed goes on to the exit. -/
def State.abortEntry (s : State) (point : Nat) : State :=
  let src := s.pwr.wakeSrc
  let s := s.log 0x0112 [point, src]
  let s := s.each s.pwr.shutSent (fun s n => (s.slotSleeps n).slotWaits n)
  let s : State := { s with
    pwr.lastWake := src, pwr.lastAbort := point + 1, pwr.shutSent := []
    pwr.sleep := if s.pwr.fromStowed then .asleep 1 else .active
    pwr.wakeKey := true
    ddr.selfRef := s.pwr.fromStowed, ddr.off := false }
  if s.pwr.fromStowed then s else s.goOn

/-- A point's check: the wake latch (R452). -/
def entryPoint (point : Nat) (s : State) (ok : Nat → State → Bool) (f : Nat → State → State) : Out :=
  match s.pwr.sleep with
  | .entering p t =>
    if p + 1 ≠ point ∨ ok t s = false then .next s
    else if s.w1c (dwPWR + 0x84) ≠ 0 then .next (s.abortEntry point)
    else .next (f t ({ s with pwr.sleep := .entering point t } : State))
  | _ => .next s

/-- ENTRY_E1: cartridge commands are finished; SHUTDOWN goes to cartridges that lose power; associations end for Dormant and Rest (R454). -/
def execEntryE1 (s : State) : Out :=
  entryPoint 1 s (fun _ s => !s.engineBusy) (fun t s =>
    let down := if s.pwrenFalls t then (s.slots.filter (fun e => e.2.pwren && e.2.phase = 5)).map (fun e => e.1) else []
    let s := s.each down (fun s n => s.send n 0x7F { tag := 0 } .shutdown)
    let s : State := { s with pwr.shutSent := down }
    if t ≥ 2 then s.each (s.ctrlIds.filter (fun i => !(s.ctrl i).pcie)) (fun s i => s.took.loseAssoc i s.freeVal) else s)

/-- ENTRY_E2: the spill, then DRAM into self-refresh or stopped. -/
def execEntryE2 (s : State) : Out :=
  entryPoint 2 s (fun _ s => s.slots.all (fun e => e.2.out.isEmpty)) (fun t s =>
    { s with ddr.selfRef := t ≤ 2, ddr.off := t ≥ 3, ddr.openRows := [] })

/-- Power-down of `SRCH` clears the search contents (R342). -/
def State.searchOff (s : State) : State := s.clearSrch

/-- The links of a slot are idle while `CG` is off. -/
def State.linkSleeps (s : State) (n : Nat) : State :=
  let s := if (s.slot n).phase = 5 then s.slotEvent n 5 else s
  s.modSlot n (fun x => { x with phase := 0, lanes := 0, depth := 0, out := [], queue := [], dataQ := [] })

/-- ENTRY_E3: the last point; after its check entry completes. -/
def execEntryE3 (s : State) : Out :=
  entryPoint 3 s (fun _ s => s.ddr.selfRef || s.ddr.off) (fun t s =>
    let us := s.freeVal
    let s := s.took.log 0x0110 [t, us]
    let s : State := { s with stage.window := none, pwr.lastState := t, pwr.sleep := .asleep t, pwr.shutSent := [], pwr.lantern := if t ≥ 2 then 0 else s.pwr.lantern }
    let up := (s.slots.filter (fun e => e.2.pwren)).map (fun e => e.1)
    let s := s.each up (fun s n => if s.pwrenFalls t then s.slotSleeps n else s.linkSleeps n)
    let held := fun (g : Nat) => t = 1 && (s.reg (dwPWR + 0x8C)).testBit (4 + g)
    let s := s.each ((List.range 4).filter (fun g => !held g)) (fun s g =>
      s.each (s.portsOf g) (fun s p => s.modPort p (fun x => { x with linkUp := false, fecLock := false })))
    let s := if s.domainOn domSRCH then s else s.searchOff
    if t ≤ 1 then s
    else
      let rails := t = 3 && (List.range 8).any (fun r => let v := s.reg (dwPWR + 0x100 + 4 * r); v.testBit 31 && field v 19 16 = 2)
      { s with pwr.kept := s.gbk.queue, gbk.queue := [], pwr.railOff := rails
               host.pcieUp := false, host.speed := 0, host.width := 0, host.flit := false, host.sris := false })

/-! ## Exit (R454) -/

/-- Presence changes that the sleep kept (R72, R455). -/
def State.presence (s : State) : State :=
  s.each (List.range s.part.slots) (fun s n =>
    let x := s.slot n
    if x.prsnt ∧ x.prsntLow = false then s.cartGone n
    else if x.prsnt = false ∧ x.prsntLow ∧ x.st = .empty then s.modSlot n (fun x => { x with st := .debounce })
    else s)

/-- Slots after a sleep: kept power means a full retrain (R93, R454), otherwise the slot waits for power. -/
def State.slotsBack (s : State) (dropped : Bool) : State :=
  s.each ((s.slots.filter (fun e => e.2.prsnt && !(e.2.st = .empty || e.2.st = .off || e.2.st = .rejected || e.2.st = .failed || e.2.st = .readyRemove))).map (fun e => e.1)) (fun s n =>
    if (s.slot n).pwren then
      ((s.took.fullRetrain n s.freeVal).modEnd (endKey n true) (fun _ => {})).modEnd (endKey n false) (fun _ => {})
    else if dropped then s.slotWaits n else s)

/-- The records that a sleep kept stand in the queue before those of the exit (R452, R466). -/
def State.requeue (s : State) (kept : List Rec) : State :=
  let new := s.gbk.queue
  ({ s with gbk.queue := kept } : State).each new (fun s r => s.enqueue r)

/-- PWR_EXIT: a latched wake ends the sleep. -/
def execPwrExit (s : State) : Out :=
  match s.pwr.sleep with
  | .asleep t =>
    if s.w1c (dwPWR + 0x84) = 0 then .next s
    else
      let src := s.pwr.wakeSrc
      let us := s.freeVal
      let dropped := s.pwrenFalls t
      let kept := s.pwr.kept
      let s : State := { s.took with pwr.sleep := .active, pwr.lastWake := src, pwr.wakeKey := true, pwr.kept := [] }
      if t ≥ 3 then
        let last := s.pwr.lastState
        let lw := s.pwr.lastWake
        let s := ({ s with pwr.railOff := false } : State).presence
        let s := s.restart 2
        let s : State := { s.requeue kept with pwr.lastState := last, pwr.lastWake := lw, pwr.wakeKey := true }
        .next { s with pwr.latched := s.pwr.latched ++ [(0x0111, [t, src, us])] }
      else
        let s : State := { s.requeue kept with ddr.selfRef := false }
        let s := if t = 2 then s.handleFlags else s
        let s := (s.presence).slotsBack dropped
        .next ((s.log 0x0111 [t, src, us]).goOn.pump)
  | _ => .next s

end Sys2Proof.Machine
end

