-- ==== Sys2Proof/Machine/LinkTest.lean ====
section
/-! DEFINITION. Pattern generators and checkers of the SerDes lanes, and the DDR PHY loopback (R508 to R511). -/

namespace Sys2Proof.Machine

/-- The power domain of a lane (R9, R508). -/
def laneDomain (l : Nat) : Nat :=
  if l < 64 then domHP (l / 16) else if l < 192 then domCG ((l - 64) / 16) else domPCIE

/-- Whether a write to `LT_LCTRL` of a lane is acted on (R508). -/
def State.patternOk (s : State) (p : Path) (l : Nat) : Bool :=
  s.domainOn (laneDomain l)
    && (if l < 64 then
          let k := modeLanes (s.grpMode (l / 16))
          s.pwr.phase = .rescue || k = 0 || (s.reg (dwPORT (l / k * k))).testBit 0 = false
        else if l < 192 then
          let st := (s.slot ((l - 64) / 2)).st
          s.pwr.phase = .rescue || st = .empty || st = .off || st = .rejected || st = .failed || st = .readyRemove
        else s.pwr.mode = 1 && p ≠ .bar2)

/-- A pattern or loop write is ignored: `REFUSED` and `LANE` of `LT_GSTAT`. -/
def State.refuseLane (s : State) (l : Nat) : State :=
  ({ s with lt.lane := l } : State).raise dwLTEST 0x100

/-- A write to `LT_LCTRL` that is acted on; a checker whose set-up changes seeds again. -/
def State.setPattern (s : State) (l v : Nat) : State :=
  let old := s.reg (dwLANE l)
  let new := v &&& 0x777
  let was := s.lanePattern l
  let s := s.setReg (dwLANE l) new
  let s := if field new 10 4 = field old 10 4 then s else s.modLane l (fun x => { x with locked := false })
  if l ≥ 192 ∧ was = false ∧ s.lanePattern l then s.pcieDown else s

/-- PATTERN_MODE (R508). -/
def execPatternMode (p : Path) (l : Nat) (v : Word) (s : State) : Out :=
  if l ≥ 208 then .fault (.noSuchInstance l)
  else winWrite p (dwLANE l) s (fun s => if s.patternOk p l then s.setPattern l v.toNat else s.refuseLane l)

/-- Errors counted on a lane (R511). -/
def State.laneErrors (s : State) (l n : Nat) : State := s.bump (dwLANE l + 0x08) n

/-- INJ (R509): one bit of the generated stream is flipped; a locked checker that the lane's own loopback feeds counts one error. -/
def execInj (p : Path) (l : Nat) (v : Word) (s : State) : Out :=
  if l ≥ 208 then .fault (.noSuchInstance l)
  else winWrite p (dwLANE l + 0x30) s (fun s =>
    if v.toNat.testBit 0 = false ∨ s.reg (dwLANE l) % 8 = 0 then s
    else
      let s := s.modLane l (fun x => { x with injectedBits := x.injectedBits + 1 })
      if (s.lane l).locked ∧ field (s.reg (dwLANE l)) 10 9 = 1 then s.laneErrors l 1 else s)

/-- DDR_LOOP (R510). -/
def execDdrLoop (p : Path) (v : Word) (s : State) : Out :=
  winWrite p (dwLTEST + 0x10) s (fun s =>
    if s.ddr.ready then s.refuseLane 0xFF else s.setReg (dwLTEST + 0x10) (v.toNat % 256))

/-- CHECKER_LOCKED (R509). -/
def execCheckerLocked (l : Nat) (s : State) : Out :=
  if l ≥ 208 then .fault (.noSuchInstance l)
  else if field (s.reg (dwLANE l)) 6 4 = 0 ∨ (s.lane l).locked then .next s
  else .next (s.modLane l (fun x => { x with locked := true, bits := 0 }))

/-- CHECKER_LOST_LOCK (R509): `LOST` is set. -/
def execCheckerLostLock (l : Nat) (s : State) : Out :=
  if l ≥ 208 then .fault (.noSuchInstance l)
  else if (s.lane l).locked = false then .next s
  else .next ((s.modLane l (fun x => { x with locked := false })).raise (dwLANE l + 0x04) 2)

end Sys2Proof.Machine
end

