-- ==== Sys2Proof/Machine/Regs.lean ====
section
/-! DEFINITION. What each register of the device window reads as: its RO bits, and the value of a whole dword (R12, R40, R105, R137, R274, R338, R377, R400, R421, R460, R477, R490, R502, R507, R511). -/

namespace Sys2Proof.Machine

/-- `DEV` (R11, R12, R502, R507). -/
def State.roDev (s : State) (o : Nat) : Nat :=
  if o = 0 then at' 0x6400 16 + s.part.code
  else if o = 4 then 0x10
  else if o = 0x10 then s.part.cap
  else if 0x20 ≤ o ∧ o ≤ 0x2C then Config.unitId.toNat / 2 ^ (8 * (o - 0x20)) % 2 ^ 32
  else if o = 0x40 then at' s.pwr.wakePins 16 + flag (!s.pwr.perst) 8 + at' s.pwr.modeLive 2 + s.pwr.mode
  else if o = 0x44 then
    let hot := hottest s.pwr.temps
    at' s.pwr.peak.toNat 16 + at' hot.toNat 8 + s.pwr.temps.findIdx (fun t => t = hot) % 16
  else 0

/-- `STAGE` (R40): `SHADOW_DATA` returns the shadow of the dword that `SHADOW_ADDR` names. -/
def State.roStage (s : State) (o : Nat) : Nat :=
  if o = 0 then s.stage.epoch % 2 ^ 32
  else if o = 4 then s.stage.epoch / 2 ^ 32
  else if o = 0x10 then at' s.stage.rule 8 + flag s.dirty 1 + flag s.stage.armed 0
  else if o = 0x18 then s.stage.commitEpoch % 2 ^ 32
  else if o = 0x1C then s.stage.commitEpoch / 2 ^ 32
  else if o = 0x20 then s.stage.rejectAddr
  else if o = 0x28 then
    let a := s.reg (dwSTAGE + 0x24)
    if isStOffset a && s.locPresent a then s.sh a else 0
  else 0

/-- `PWR_STATE.STATE`. -/
def Sleep.code : Sleep → Nat
  | .active => 0 | .entering _ _ => 1 | .asleep _ => 2 | .exiting _ => 3
/-- `PWR` (R460). -/
def State.roPwr (s : State) (o : Nat) : Nat :=
  if o = 0 then at' s.pwr.lastWake 24 + at' s.pwr.lastAbort 16 + at' s.pwr.lastState 8 + s.pwr.sleep.code
  else if 0x10 ≤ o ∧ o < 0x58 then
    let d := (o - 0x10) / 4
    flag (s.domainOn d) 8 + ((s.keys d).map (fun c => 2 ^ c)).foldl (· ||| ·) 0
  else if o = 0x120 then at' s.pwr.pmbRail 8
  else if o = 0x124 then s.pwr.vcore
  else 0

/-- `EFL` (R421). -/
def State.roEfl (s : State) (o : Nat) : Nat :=
  let f := s.efl
  if o = 0x30 then
    let own := match f.busy with | some b => b.owner | none => f.owner
    at' own 28 + at' f.opBank 26 + at' f.lastOp 16 + flag (f.seqStep ≥ 2) 1 + flag f.busy.isSome 0
  else if o = 0x34 then f.errAddr
  else if o = 0x38 then f.markSet
  else if o = 0x3C then f.markTorn
  else if o = 0x40 then f.rdAddr
  else if o = 0x44 then flag f.rdValid 0
  else if 0x60 ≤ o ∧ o < 0x80 then f.rdData.toNat / 2 ^ (8 * (o - 0x60)) % 2 ^ 32
  else if 0x80 ≤ o ∧ o < 0xC0 then ((List.range 32).map (fun j => flag (f.eflags.contains (8 * (o - 0x80) + j)) j)).sum
  else if o = 0xC0 then f.boot
  else 0

/-- `GBK` (R477). -/
def State.roGbk (s : State) (o : Nat) : Nat :=
  let g := s.gbk
  if o = 0 then g.oldest
  else if o = 4 then g.newest
  else if o = 8 then g.floor
  else if o = 0xC then at' g.queue.length 16 + at' g.tracked.length 8 + flag g.nonce.isSome 2 + flag g.ownerKey.isSome 1 + flag g.calSet 0
  else if o = 0x20 then s.calMs % 2 ^ 32
  else if o = 0x24 then s.calMs / 2 ^ 32
  else if o = 0x28 then s.calAttr
  else if o = 0x30 then g.uptime % 2 ^ 32
  else if o = 0x34 then g.uptime / 2 ^ 32
  else 0

/-- `DMA` (R490). -/
def State.roDma (s : State) (o : Nat) : Nat :=
  let bits := fun (st : Nat) => ((List.range 32).map (fun c => flag ((s.chan c).st = st) c)).sum
  if o = 4 then bits 1
  else if o = 8 then bits 2
  else if 0x100 ≤ o ∧ o < 0x900 then
    let k := s.chan ((o - 0x100) / 0x40)
    match (o - 0x100) % 0x40 with
    | 0x10 => at' k.retries 12 + at' k.cause 8 + k.st
    | 0x20 => k.cur % 2 ^ 32
    | 0x24 => k.cur / 2 ^ 32
    | 0x28 => k.done
    | 0x30 => k.errAddr % 2 ^ 32
    | 0x34 => k.errAddr / 2 ^ 32
    | _ => 0
  else 0

/-- The result that training left for a channel (R400). -/
def State.trainRes (s : State) (c : Nat) : Nat × Nat :=
  match look s.ddr.res c with
  | some r => (flag (chanPass r) 31 + at' r.failStep 24 + at' r.rankFail 16 + at' r.rdEye 8 + r.wrEye, at' r.wrVref 8 + r.rdVref)
  | none => (0, 0)
/-- `DDR` (R400). -/
def State.roDdr (s : State) (o : Nat) : Nat :=
  let d := s.ddr
  if o = 0 then at' d.chUp 16 + at' d.step 8 + flag d.selfRef 3 + flag d.reduced 2 + flag d.fail 1 + flag d.ready 0
  else if o = 8 then at' d.mapOrder 4
  else if o = 0xC then at' d.cap 24 + at' d.density 14 + at' d.width 12 + at' d.ranks 10 + at' d.dpc 8 + d.chPop
  else if 0x40 ≤ o ∧ o < 0x80 then (if o % 8 = 0 then (s.trainRes ((o - 0x40) / 8)).1 else (s.trainRes ((o - 0x40) / 8)).2)
  else if 0xC0 ≤ o ∧ o < 0x100 then
    let i := (o - 0xC0) / 4
    let banks := (((d.throttles.filter (fun t => t.req = i)).map (fun t => (t.ch, t.rank, t.bank))).dedup).length
    at' (s.topStep i) 16 + at' (min 255 banks) 8
  else 0

/-- The slice namespaces of a pool. -/
def State.sliceNss (s : State) (p : Nat) : List Ns := s.media.nss.filter (fun x => x.pool = p && x.flags.testBit 1)
/-- Whether slice namespaces stand ready in every assembled pool (R338). -/
def State.slicesReady (s : State) : Bool :=
  s.censusEnded && s.fw.upDone && [0, 1, 2, 3].all (fun p => (s.pool p).pstate ≠ 2 || ((s.sliceNss p).length = 16 && (s.sliceNss p).all (fun x => x.job = 0)))
/-- `SLICE` (R338). -/
def State.roSlice (s : State) (o : Nat) : Nat :=
  if o = 0 then ((List.range 16).map (fun k => flag ((s.ctrl (k + 1)).exist && (s.ctrl (k + 1)).en) (16 + k))).sum + flag s.slicesReady 1 + 1
  else if 0x10 ≤ o ∧ o < 0x20 then ((s.sliceNss ((o - 0x10) / 4)).head?.map s.segCount).getD 0
  else 0

/-- `LTEST` (R511). -/
def State.roLtest (s : State) (o : Nat) : Nat :=
  if o = 0 then s.lt.lane
  else if o < 0x1000 then 0
  else
    let l := (o - 0x1000) / 0x40
    let y := s.lane l
    match (o - 0x1000) % 0x40 with
    | 0x04 => flag y.locked 2 + flag (s.lanePattern l) 0
    | 0x10 => y.bits % 2 ^ 32
    | 0x14 => y.bits / 2 ^ 32 % 2 ^ 32
    | _ => 0

/-- `SRCH` (R343, R377). -/
def State.roSrch (s : State) (o : Nat) : Nat :=
  if o = 0 then flag s.part.scan 1 + flag s.part.keySearch 0
  else if 0x200 ≤ o ∧ o < 0x240 then
    let b := (o - 0x200) / 4
    let v := s.validIn b
    flag ((s.abank b).image ≠ 0) 17 + flag (s.domainOn domSRCH && (v ≠ 0 || s.inf (stBankOwner b) ≠ 0)) 16 + v
  else if 0x280 ≤ o ∧ o < 0x2C0 then (s.abank ((o - 0x280) / 4)).image
  else if 0x500 ≤ o ∧ o < 0x600 then
    let l := (o - 0x500) / 4
    match (s.sl l).scan with
    | some k => at' (if s.lanePaused l then 2 else 1) 16 + k
    | none => 0
  else 0

/-- `CART_STAT` (R105). -/
def Slot.stat (x : Slot) : Nat :=
  at' x.reason 16 + flag x.auth 11 + at' (if x.phase = 5 then x.width else 0) 9 + flag x.alert 8 + flag x.pwren 7 + flag x.prsnt 6 + x.st.code
/-- A `CART` block (R105). -/
def State.roCart (s : State) (n o : Nat) : Nat :=
  let x := s.slot n
  if o = 0 then x.stat
  else if o = 0xC then at' x.farPver 12 + at' x.lanes 4 + x.phase
  else if o = 0x24 then at' x.out.length 16 + x.depth
  else if o = 0x28 then x.fwVer % 2 ^ 32
  else if o = 0x2C then x.fwVer / 2 ^ 32
  else if o = 0x30 then x.life
  else if o = 0x34 then x.retired
  else if o = 0x38 then x.deadDies
  else if 0x200 ≤ o ∧ o < 0x400 then leAt x.desc (o - 0x200) 4
  else 0

/-- Whether some port of a group trains: it is enabled and has no link (R274). -/
def State.grpTrains (s : State) (g : Nat) : Bool :=
  (s.portsOf g).any (fun p => (s.reg (dwPORT p)).testBit 0 && !(s.port p).linkUp)
/-- `HOST` (R274). -/
def State.roHost (s : State) (o : Nat) : Nat :=
  if o < 0x40000 then
    let x := s.port (o / 0x1000)
    if o % 0x1000 = 4 then at' x.paused 8 + flag (x.storm ≠ 0) 3 + flag x.macsecUp 2 + flag x.fecLock 1 + flag x.linkUp 0 else 0
  else if o < 0x44000 then (if o % 0x1000 = 4 then flag (s.grpTrains ((o - 0x40000) / 0x1000)) 0 else 0)
  else if o = 0x50000 then
    at' s.host.speed 10 + at' s.host.width 5 + flag s.host.flit 2 + flag s.host.sris 1 + flag s.host.pcieUp 0
  else 0

/-- In rescue mode no firmware runs: of `GBK` only the calendar counters answer (R439). -/
def State.roVal (s : State) (off : Nat) : Nat :=
  if off < 0x10000 then s.roDev off
  else if off < 0x20000 then s.roStage (off - dwSTAGE)
  else if off < 0x30000 then s.roPwr (off - dwPWR)
  else if off < 0x40000 then s.roEfl (off - dwEFL)
  else if off < 0x50000 then (if s.pwr.phase = .rescue && off < dwGBK + 0x20 then 0 else s.roGbk (off - dwGBK))
  else if off < 0x60000 then s.roDma (off - dwDMA)
  else if off < 0x70000 then s.roDdr (off - dwDDR)
  else if off < 0x80000 then s.roSlice (off - dwSLICE)
  else if off < 0x100000 then s.roLtest (off - dwLTEST)
  else if off < 0x140000 then s.roCart ((off - 0x100000) / 0x1000) ((off - 0x100000) % 0x1000)
  else if off < 0x300000 then s.roSrch (off - dwSRCH)
  else s.roHost (off - dwHOST)

/-- RC counters that no command of the model counts: frames sent, FEC codewords, and what a running checker sees (R105, R274, R509, R510). -/
def State.outsideCount (s : State) (off : Nat) : Bool :=
  if dwHOST ≤ off ∧ off < dwHOST + 0x40000 then
    (off % 0x1000 = 0x304 || off % 0x1000 = 0x310 || off % 0x1000 = 0x314) && (s.port ((off - dwHOST) / 0x1000)).linkUp
  else if 0x100000 ≤ off ∧ off < 0x140000 then
    (off % 0x1000 = 0x10 || off % 0x1000 = 0x14) && (s.slot ((off - 0x100000) / 0x1000)).phase = 5
  else if dwLTEST + 0x20 ≤ off ∧ off < dwLTEST + 0x40 then (s.reg (dwLTEST + 0x10)).testBit ((off - dwLTEST - 0x20) / 4)
  else if dwLANE 0 ≤ off ∧ off < dwLANE 208 then (off - dwLANE 0) % 0x40 = 8 && (s.lane ((off - dwLANE 0) / 0x40)).locked
  else false

/-- Whether a dword holds an RC counter (R105, R137, R274, R338, R377, R400, R421, R477, R511). -/
def isRc (off : Nat) : Bool :=
  off = dwEFL + 0xC4 || off = dwEFL + 0xC8 || off = dwGBK + 0x10 || off = dwGBK + 0x14 || off = dwGBK + 0x18
  || (dwDDR + 0x100 ≤ off && off < dwDDR + 0x140) || off = dwSLICE + 0x20
  || (dwLTEST + 0x20 ≤ off && off < dwLTEST + 0x40)
  || (dwLANE 0 ≤ off && off < dwLANE 208 && (off - dwLANE 0) % 0x40 = 8)
  || (0x100000 ≤ off && off < 0x140000 && (let o := off % 0x1000; (0x10 ≤ o && o ≤ 0x20) || (0x408 ≤ o && o ≤ 0x410)))
  || off = dwSRCH + 8 || off = dwSRCH + 0xC || off = dwSRCH + 0x10 || off = dwSRCH + 0x14
  || (dwHOST ≤ off && off < dwHOST + 0x40000 && (let o := off % 0x1000; 0x300 ≤ o && o ≤ 0x32C))

/-- The value of a dword, without the effects of reading it (R17, R19). -/
def State.dword (s : State) (off : Nat) : Nat :=
  if isStOffset off then s.inf off
  else
    let rw := if off = dwEFL + 0x40 then 0 else s.reg off &&& rwMask off
    let wc := if s.pwr.phase = .rescue && dwGBK ≤ off && off < dwGBK + 0x20 then 0 else s.w1c off
    let rc := if isRc off && !(s.pwr.phase = .rescue && dwGBK ≤ off && off < dwGBK + 0x20) then s.dw.cnt.get zeroCell off else 0
    s.roVal off ||| rw ||| wc ||| rc

end Sys2Proof.Machine
end

