-- ==== Sys2Proof/Machine/Logs.lean ====
section
/-! DEFINITION. Get Log Page: the vendor pages C0h, C1h, C2h and C6h and the standard pages (R135, R161, R206, R242, R243, R247, R269, R280, R281, R334, R444, R507). -/

namespace Sys2Proof.Machine

/-! ## Pages with bytes that the spec leaves open -/

/-- Lay fields, given as (byte offset, width, value), over a page. -/
def overlay (base : List Byte) (fs : List (Nat × Nat × Nat)) : List Byte :=
  base.mapIdx (fun i b =>
    match fs.find? (fun f => f.1 ≤ i && i < f.1 + f.2.1) with
    | some f => BitVec.ofNat 8 (f.2.2 / 256 ^ (i - f.1))
    | none => b)
/-- Post a page of which the spec states only some fields; the others are free (assumption log 2). -/
def State.openPage (s : State) (c : Cmd) (len : Nat) (fs : List (Nat × Nat × Nat)) : State :=
  let base := toLe len s.freeVal
  s.took.page c (overlay base fs)

/-- The status code type and status code of a status, as NVMe numbers them (PRESUMED; vendor codes R307). -/
def Status.code : Status → Nat
  | .success => 0 | .invalidOpcode => 0x01 | .invalidField => 0x02 | .dataTransfer => 0x04 | .sqDeleted => 0x08
  | .invalidNs => 0x0B | .seqError => 0x0C | .transientTransport => 0x22 | .lbaRange => 0x80 | .nsNotReady => 0x82
  | .invalidQid => 0x101 | .invalidQsize => 0x102 | .abortLimit => 0x103 | .aerLimit => 0x105 | .fwSlot => 0x106
  | .fwImage => 0x107 | .invalidLog => 0x109 | .invalidQdel => 0x10C | .notSaveable => 0x10D | .fwProhibited => 0x113
  | .overlap => 0x114 | .nsCapacity => 0x115 | .invalidPI => 0x181 | .authentication => 0x191 | .unrecovered => 0x281
  | .guardErr => 0x282 | .appTagErr => 0x283 | .refTagErr => 0x284 | .compareFailure => 0x285 | .vendor k => 0x700 + k

/-! ## Cartridge Health, C0h (R106, R135) -/

/-- One entry. -/
def State.healthEntry (s : State) (n : Nat) : List Byte :=
  let x := s.slot n
  if x.st = .empty then pageOf 512 [(0, 4, x.stat)]
  else pageOf 512 ([(0, 4, x.stat), (4, 2, x.life), (6, 1, x.lifeFlags), (7, 1, x.pool.getD 0xFF), (8, 8, x.fwVer), (16, 16, x.serial),
    (32, 4, x.retired), (36, 2, x.deadDies), (256, 32, (x.diesFailed.dedup.map (fun d => 2 ^ d)).sum)] ++ x.media.map (fun (e : Nat × Nat) => (e.1, 8, e.2)))
/-- The page. -/
def State.healthPage (s : State) : List Byte :=
  pageOf 64 [(0, 2, s.part.slots), (2, 2, 512)] ++ (List.range s.part.slots).flatMap s.healthEntry
/-- Reading the page arms each slot's event again; one that came meanwhile is posted now (R106). -/
def State.rearmCart (s : State) : State :=
  s.each (List.range s.part.slots) (fun s n =>
    let late := (s.slot n).aenLate
    let s := s.modSlot n (fun x => { x with aenOpen := late, aenLate := false })
    if late then s.aenManagers 0xC0 else s)
/-- CARTRIDGE_HEALTH (R135). -/
def execCartridgeHealth (c : Cmd) (s : State) : Out :=
  mgrPage c s (fun s => (s.page c s.healthPage).rearmCart)

/-! ## Lost LBA List, C1h (R242, R243) -/

/-- The lost ranges a controller may see, under the NSIDs it uses. -/
def State.lostSeen (s : State) (id : Nat) : List Lost :=
  s.media.lost.filterMap (fun l =>
    match s.ns? l.nsid with
    | none => none
    | some x =>
      if s.isManager id then some l
      else if s.attachedTo x id then some (if x.flags.testBit 1 then { l with nsid := x.pool + 1 } else l)
      else none)
/-- One entry. -/
def Lost.bytes (l : Lost) : List Byte :=
  pageOf 32 [(0, 4, l.nsid), (4, 1, l.cause), (8, 8, l.slba), (16, 4, l.nlb), (20, 4, l.band), (24, 6, l.time), (30, 1, l.origin)]
/-- LOST_LBA_LIST (R242). -/
def execLostLbaList (c : Cmd) (s : State) : Out :=
  adminCmd false c s (fun s =>
    let l := s.lostSeen c.id.ctrl
    let head := pageOf 64 [(0, 8, s.media.lostGen), (8, 4, l.length), (12, 1, flag s.media.overflow 0)]
    let s := s.page c (head ++ l.flatMap Lost.bytes)
    { s with media.lostAen := s.media.lostAen.filter (fun i => i ≠ c.id.ctrl) })

/-! ## Rebuild Progress, C2h (R247) -/

/-- Members that a band misses. -/
def State.bandMisses (s : State) (b : Nat) : Nat := ((s.mustRestore b).filter (fun e => e.2 = 2)).length
/-- The bands of a pool that miss a number of members. -/
def State.bandsMissing (s : State) (p k : Nat) : Nat :=
  (s.media.bands.filter (fun e => e.2.pool = p && e.2.role ≠ 0 && !e.2.shavings && s.bandMisses e.1 = k)).length
/-- Whether a pool is degraded. -/
def State.degraded (s : State) (p : Nat) : Bool := s.bandsMissing p 1 + s.bandsMissing p 2 ≠ 0
/-- Failed members of a pool whose rebuild is not done. -/
def State.goneOf (s : State) (p : Nat) : List Gone := s.media.gone.filter (fun g => g.pool = p && !g.done)
/-- Whether a pool's rebuild runs. -/
def State.rebuilds (s : State) (p : Nat) : Bool :=
  !(s.goneOf p).isEmpty || (s.rebuildOrder p).any (fun b => s.bandMisses b ≠ 0)
/-- The rebuild state of a pool. -/
def State.rebuildState (s : State) (p : Nat) : Nat :=
  if (s.pool p).exist = false then 0
  else if !(s.pool p).waitSpare.isEmpty then 4
  else if s.rebuilds p then 3
  else if s.degraded p then 2
  else 1
/-- A pool's entry; the estimate is free. -/
def State.rebuildEntry (s : State) (eta p : Nat) : List (Nat × Nat × Nat) :=
  let q := s.pool p
  let o := 64 + 128 * p
  let total := ((s.media.gone.filter (fun g => g.pool = p && q.rebuildStart ≤ g.startMs)).map Gone.total).sum
  if q.exist = false then []
  else [(o, 1, s.rebuildState p), (o + 1, 1, s.inf stRebuildShare), (o + 2, 1, (s.goneOf p).length),
    (o + 4, 4, s.bandsMissing p 2), (o + 8, 4, s.bandsMissing p 1), (o + 12, 4, q.rebuildDone), (o + 16, 8, total), (o + 24, 8, q.rebuildBytes),
    (o + 32, 8, q.rebuildStart), (o + 40, 4, if s.rebuilds p then eta % 2 ^ 32 else 0), (o + 44, 4, q.current), (o + 48, 8, q.rowsLost), (o + 56, 8, q.rejournals)]
/-- A slot's entry: a failed member stays in place while its rebuild runs. -/
def State.memberEntry (s : State) (n : Nat) : List (Nat × Nat × Nat) :=
  let x := s.slot n
  let o := 576 + 4 * n
  match s.media.gone.reverse.find? (fun g => g.slot = n && !g.done) with
  | some g => [(o, 1, 3), (o + 1, 1, g.reason), (o + 2, 1, if g.total = 0 then 0 else min 100 (100 * g.bytes / g.total))]
  | none =>
    if x.st = .failed then [(o, 1, 4), (o + 1, 1, x.reason), (o + 2, 1, 100)]
    else if x.pool.isSome then [(o, 1, if x.slow then 2 else 1), (o + 1, 1, x.reason)]
    else [(o + 1, 1, x.reason)]
/-- The page; `eta` is the estimate of the time left, which the spec leaves open. -/
def State.rebuildPage (s : State) (eta : Nat) : List Byte :=
  let bits := fun (f : Nat → Bool) => (([0, 1, 2, 3].filter f).map (fun p => 2 ^ p)).sum
  pageOf 1024 ([(0, 2, 1), (2, 1, bits s.degraded), (3, 1, bits s.rebuilds), (8, 8, s.media.rowsLost)]
    ++ [0, 1, 2, 3].flatMap (s.rebuildEntry eta) ++ (List.range s.part.slots).flatMap s.memberEntry)
/-- REBUILD_PROGRESS (R247). -/
def execRebuildProgress (c : Cmd) (s : State) : Out :=
  mgrPage c s (fun s => s.took.page c (s.rebuildPage s.freeVal))

/-! ## Start-Up Report, C6h (R206) -/

/-- The phase in progress; a census is one step, so that its phases 5 to 9 are over when it has answered (assumption log 34). -/
def State.startPhase (s : State) : Nat := if s.fw.upDone then 10 else if s.fw.times.any (fun e => e.1 = 3) then 4 else 3
/-- The page (R206). -/
def State.startPage (s : State) : List Byte :=
  let ps := [0, 1, 2, 3]
  let flags := flag (ps.any (fun p => (s.pool p).startup.get zeroCell 56 ≠ 0)) 0 + flag (ps.any (fun p => (s.pool p).deep)) 1
    + flag (ps.any s.degraded) 2 + flag (ps.any (fun p => (s.pool p).pstate = 4)) 3
  pageOf 1024 ([(0, 2, 1), (2, 1, s.startPhase), (3, 1, s.pwr.cause), (4, 1, s.fw.running), (5, 1, flags),
      (48, 8, s.media.resumeSeq), (56, 8, s.media.highSeq)]
    ++ (List.range 10).map (fun k => (8 + 4 * k, 4, s.fw.times.get zeroCell k))
    ++ ps.flatMap (fun p => (128 + 224 * p, 1, (s.pool p).pstate)
        :: (s.pool p).startup.map (fun (e : Nat × Nat) => (128 + 224 * p + e.1, if e.1 < 8 then 1 else 8, e.2))))
/-- START_UP_REPORT (R206). -/
def execStartUpReport (c : Cmd) (s : State) : Out := mgrPage c s (fun s => s.page c s.startPage)

/-! ## Standard pages: identifiers and layouts PRESUMED from NVMe; the content the spec states -/

/-- Error Information (R281, R307): a controller's newest 256 entries. -/
def State.errorPage (s : State) (c : Cmd) : State :=
  let l := (s.io.errLog.filter (fun e => e.2.1.ctrl = c.id.ctrl)).take 256
  s.openPage c (64 * l.length) ((l.mapIdx (fun i e => [(64 * i, 8, e.1), (64 * i + 8, 2, e.2.1.sq), (64 * i + 10, 2, e.2.1.cid), (64 * i + 12, 2, 2 * e.2.2.code)])).flatten)

/-- A feature that a controller has set, or its default. -/
def Ctrl.feat (k : Ctrl) (fid dflt : Nat) : Nat := match k.feats.get zeroCell fid with | 0 => dflt | v + 1 => v
/-- Composite Temperature in kelvin (R507). -/
def State.kelvin (s : State) : Nat := (273 + (hottest s.pwr.temps).toInt).toNat
/-- Whether critical warning bit 1 stands for a controller: at or above its over threshold, or at or below its under threshold. -/
def State.tempWarning (s : State) (id : Nat) : Bool :=
  let k := s.ctrl id
  s.kelvin ≥ k.feat 0x04 368 || s.kelvin ≤ k.feat 0x104 0
/-- SMART / Health Information (R507). -/
def State.smartPage (s : State) (c : Cmd) : State :=
  let warn := s.freeVal % 256
  let warn := if s.tempWarning c.id.ctrl then setBit warn 1 else clearBit warn 1
  s.took.openPage c 512 [(0, 1, warn), (1, 2, s.kelvin)]

/-- Firmware Slot Information (R444). -/
def State.fwPage (s : State) (c : Cmd) : State :=
  let next := (s.fw.bootRec.map BootRec.pending).getD 0
  let rev := fun (k : Nat) => if s.slotReason k = 0 then s.imgRev k else 0
  s.page c (pageOf 512 [(0, 1, s.fw.running + 16 * next), (8, 8, rev 1), (16, 8, rev 2)])

/-- Changed Namespace List: ascending, and empty again once read. -/
def State.changedPage (s : State) (c : Cmd) : State :=
  let l := ((s.ctrl c.id.ctrl).chg.mergeSort (· ≤ ·)).take 1024
  (s.page c (pageOf 4096 (l.mapIdx (fun i n => (4 * i, 4, n))))).modCtrl c.id.ctrl (fun k => { k with chg := [] })

/-- Sanitize Status (R334). -/
def State.sanitizePage (s : State) (c : Cmd) : State :=
  let act := (s.media.sanitize.map (fun e => e.2)).getD 0
  s.openPage c 512 ([(2, 2, s.media.sanitizeStat)] ++ (if s.media.sanitize.isSome then [(4, 4, act)] else []))

/-- The four FDP pages of an endurance group (R160, R161). -/
def State.fdpPage (s : State) (c : Cmd) (lid p : Nat) : State :=
  let q := s.pool p
  let n := fun (o : Nat) => q.counters.get zeroCell o
  if lid = 0x20 then
    s.openPage c 336 ([(0, 2, 0), (4, 4, 336), (16, 2, 320), (20, 4, 1), (24, 2, 64), (32, 8, 4096 * s.nOf p * q.blocksOf false)]
      ++ (List.range 64).map (fun i => (80 + 4 * i, 1, 1)))
  else if lid = 0x21 then
    let used := (s.media.nss.filter (fun x => x.pool = p)).map Ns.handles
    s.page c (pageOf 520 ((0, 2, 64) :: (List.range 64).map (fun i => (8 + 8 * i, 1, flag (used.any (fun h => i < h)) 0))))
  else if lid = 0x22 then
    s.openPage c 64 [(0, 16, n 64 + n 72 + q.hostMeta), (16, 16, n 80 + n 88 + q.mediaMeta)]
  else
    let host := (dw10 c).testBit 8
    let l := q.fdpEvents.filter (fun e => (e.1 < 0x80) = host)
    s.openPage c (64 + 64 * l.length) ((0, 4, l.length) :: (l.mapIdx (fun i e => [(64 + 64 * i, 1, e.1), (66 + 64 * i, 2, e.2.1)])).flatten)

/-- Text as bytes. -/
def textOf (t : String) : List Byte := t.toUTF8.toList.map (fun b => BitVec.ofNat 8 b.toNat)
def padTo (n : Nat) (l : List Byte) : List Byte := l ++ List.replicate (n - l.length) 0
/-- The text of an address entry: dotted decimal, or eight groups of hexadecimal. -/
def addrText (v6 : Bool) (b : List Byte) : List Byte :=
  let dec := fun (k : Nat) => textOf (toString k)
  let at_ := fun (i : Nat) => leAt b i 1
  if v6 then
    let grp := fun (i : Nat) => [at_ (2 * i) / 16, at_ (2 * i) % 16, at_ (2 * i + 1) / 16, at_ (2 * i + 1) % 16].map (fun d => BitVec.ofNat 8 (hexDigit d))
    (List.intersperse [58] ((List.range 8).map grp)).flatten
  else (List.intersperse [46] ((List.range 4).map (fun i => dec (at_ (12 + i))))).flatten
/-- The bytes of a port's address entry. -/
def State.addrBytes (s : State) (p e : Nat) : List Byte :=
  (List.range 8).flatMap (fun i => toLe 4 (s.reg (dwPORT p + 0x100 + 32 * e + 4 * i)))
/-- One entry of the discovery log (R269). -/
def State.discEntry (s : State) (nqn p e : Nat) (rdma : Bool) : List Byte :=
  let b := s.addrBytes p e
  let v6 := (leAt b 17 1).testBit 1
  pageOf 32 [(0, 1, if rdma then 1 else 3), (1, 1, if v6 then 2 else 1), (2, 1, 2), (3, 1, 2), (4, 2, p), (6, 2, 0xFFFF), (8, 2, 4096)]
    ++ padTo 224 (textOf "4420") ++ toLe 256 nqn ++ padTo 256 (addrText v6 b) ++ List.replicate 256 0
/-- The addresses on which a controller of the unit is reached: port, entry, transport. -/
def State.discAddrs (s : State) : List (Nat × Nat × Bool) :=
  ((List.range 64).filter (fun p => s.portExists p && (s.reg (dwPORT p)).testBit 0)).flatMap (fun p =>
    ((List.range 16).filter (fun e => (leAt (s.addrBytes p e) 17 1).testBit 0)).flatMap (fun e =>
      (if (s.reg (dwPORT p)).testBit 2 then [(p, e, false)] else []) ++ (if (s.reg (dwPORT p)).testBit 1 then [(p, e, true)] else [])))
/-- The subsystems a host may reach. -/
def State.reachable (s : State) (host : Nat) : List Nat :=
  (if s.listed 0 host then [mgrNqn] else [])
    ++ (if s.pwr.mode = 1 then [] else (s.ten.tbl.filter (fun e => e.2.occupied && e.2.deleting.isNone && s.listed e.1 host)).map (fun e => e.2.nqn))
/-- The discovery log page (R269). -/
def State.discPage (s : State) (c : Cmd) : State :=
  let gen := s.freeVal % 2 ^ 64
  let l := (s.reachable (s.ctrl c.id.ctrl).hostNqn).flatMap (fun q => s.discAddrs.map (fun a => s.discEntry q a.1 a.2.1 a.2.2))
  s.took.page c (pageOf 1024 [(0, 8, gen), (8, 8, l.length)] ++ l.flatten)

/-- A standard page. -/
def State.standardPage (s : State) (c : Cmd) (lid : Nat) : State :=
  if (s.ctrl c.id.ctrl).kind = .discovery then (if lid = 0x70 then s.discPage c else s.refuse c .invalidLog)
  else if lid = 0x01 then s.errorPage c
  else if lid = 0x02 then s.smartPage c
  else if lid = 0x03 then s.fwPage c
  else if lid = 0x04 then s.changedPage c
  else if lid = 0x81 then s.sanitizePage c
  else if 0x20 ≤ lid ∧ lid ≤ 0x23 then
    let g := field (dw11 c) 31 16
    if 1 ≤ g ∧ g ≤ 4 ∧ (s.pool (g - 1)).exist then s.fdpPage c lid (g - 1) else s.refuse c .invalidField
  else s.refuse c .invalidLog

/-- GET_LOG_PAGE (R277, R280): a vendor page is served by its own command. -/
def execGetLogPage (c : Cmd) (s : State) : Out :=
  match dw10 c % 256 with
  | 0xC0 => execCartridgeHealth c s
  | 0xC1 => execLostLbaList c s
  | 0xC2 => execRebuildProgress c s
  | 0xC3 => execGuestbookLog c s
  | 0xC4 => execThrottleAndDisturbance c s
  | 0xC5 => execSearchStatistics c s
  | 0xC6 => execStartUpReport c s
  | lid => adminCmd false c s (fun s => s.standardPage c lid)

end Sys2Proof.Machine
end

