-- ==== Sys2Proof/Machine/Features.lean ====
section
/-! DEFINITION. Set Features, Get Features and Identify (R10, R12, R38, R39, R55 to R58, R155, R204, R226, R234, R277, R280 to R282, R448, R506). -/

namespace Sys2Proof.Machine

/-! ## Staged settings -/

/-- EPOCH_LENGTH (R39): staged and committed under R38; it cannot be saved. -/
def execEpochLength (c : Cmd) (s : State) : Out :=
  mgrFeature c s (fun s =>
    if saveBit c then s.refuse c .notSaveable
    else s.check c (dw11 c / 2 ^ 14 = 0) (fun s => s.stageFor c.id [(stEpochLen, dw11 c)] .plain))
/-- REBUILD_SHARE (R38, R234). -/
def execRebuildShare (c : Cmd) (s : State) : Out :=
  mgrFeature c s (fun s => s.check c (dw11 c / 2 ^ 7 = 0) (fun s => s.stageFor c.id [(stRebuildShare, dw11 c)] .plain))

/-! ## Member timers (R226) -/

/-- MEMBER_TIMERS: the values hold from now on, and the slow-ratio windows start again. -/
def execMemberTimers (c : Cmd) (s : State) : Out :=
  mgrFeature c s (fun s =>
    let slow := dw11 c % 65536
    let fail := field (dw11 c) 31 16
    let pct := dw12 c % 256
    s.check c (dw12 c / 256 = 0 && 2 ≤ slow && slow ≤ 1000 && 5 ≤ fail && fail ≤ 600 && 1 ≤ pct && pct ≤ 50 && slow ≤ 10 * fail) (fun s =>
      let s : State := { s with media.tSlow := slow, media.tFail := fail, media.slowPct := pct }
      let s : State := if saveBit c then { s with fw.sets.timers := some (slow, fail, pct) } else s
      let s := s.each (s.slots.map (fun e => e.1)) (fun s n => s.modSlot n (fun x => { x with win := [], fastCount := 0, slowCount := 0 }))
      s.post c.id .success))

/-! ## Write path policy (R155) -/

/-- Whether a Dword 11 is a policy. -/
def policyOk (v : Nat) : Bool :=
  field v 31 24 = 0 && field v 7 2 = 0 && 1 ≤ field v 23 16 && field v 23 16 ≤ 100 && 1 ≤ field v 15 8 && field v 15 8 ≤ 32 && v % 4 ≤ 2
/-- The namespace of C6h: attached to the controller, or a status. -/
def State.policyNs (s : State) (c : Cmd) : Except Status Ns :=
  match s.ns? (s.localNs c).nsid with
  | none => .error .invalidNs
  | some x =>
    if s.attachedTo x c.id.ctrl then .ok x
    else if s.isManager c.id.ctrl = false ∧ x.tenant ≠ (s.ctrl c.id.ctrl).tenant then .error .invalidOpcode
    else .error .invalidNs
/-- WRITE_PATH_POLICY (R155). -/
def execWritePathPolicy (c : Cmd) (s : State) : Out :=
  adminCmd false c s (fun s => s.check c (policyOk (dw11 c)) (fun s =>
    if c.nsid = 0xFFFFFFFF then
      ({ s with media.nss := s.media.nss.map (fun x => if s.attachedTo x c.id.ctrl then { x with policy := dw11 c } else x) } : State).post c.id .success
    else match s.policyNs c with
      | .error st => s.refuse c st
      | .ok x => (s.modNs x.nsx (fun y => { y with policy := dw11 c })).post c.id .success))

/-! ## Cartridge admission policy (R55 to R58) -/

/-- Step 1 of R56. -/
def admissionOk (len : Nat) (b : List Byte) : Bool :=
  let ni := leAt b 10 2
  let nd := leAt b 12 2
  len = 16 + 32 * ni + 16 * nd + 96 && ni ≤ 16 && nd ≤ 256 && leAt b 8 1 ≤ 3 && leAt b 9 1 ≤ 1 && zeroBytes b 14 15
/-- The policy takes effect, and slots rejected under the old one are powered again (R57). -/
def State.takePolicy (s : State) (b : List Byte) : State :=
  let ni := leAt b 10 2
  let nd := leAt b 12 2
  let s : State := { s with
    gbk.polSerial := leAt b 0 8
    gbk.polClass := leAt b 8 1
    gbk.polFlags := leAt b 9 1
    gbk.polIssuers := (List.range ni).map (fun i => leAt b (16 + 32 * i) 32)
    gbk.polDeny := (List.range nd).map (fun i => leAt b (16 + 32 * ni + 16 * i) 16)
    gbk.polSig := leAt b (16 + 32 * ni + 16 * nd) 96 }
  let s := s.log 0x0310 [0xFF, s.gbk.polSerial, s.gbk.polClass]
  s.each ((s.slots.filter (fun e => e.2.st = .rejected && (e.2.reason = 2 || e.2.reason = 3))).map (fun e => e.1)) (fun s n => s.askPower n)
/-- Whether the owner key verifies the policy's signature: over SHA-384 of the bytes before it, followed by the unit ID (R55). -/
def State.policySigned (s : State) (len : Nat) (b : List Byte) : Bool :=
  s.gbk.ownerKey.any (fun k =>
    Config.ownerSigOk k (Config.sha384 (b.take (len - 96) ++ toLe 16 Config.unitId.toNat)) ((b.drop (len - 96)).take 96))
/-- CARTRIDGE_ADMISSION_POLICY (R55, R56): the buffer is the structure of R55, its `SIGNATURE` given apart where the command does not hold it. -/
def execCartridgeAdmissionPolicy (c : Cmd) (sig : List Byte) (s : State) : Out :=
  let b := c.buf ++ sig
  mgrFeature c s (fun s =>
    if admissionOk (dw11 c % 65536) b = false ∨ field (dw11 c) 31 16 ≠ 0 ∨ field (dw10 c) 31 8 ≠ 0 then s.refuse c .invalidField
    else if s.policySigned (dw11 c % 65536) b = false then s.refuse c (.vendor 0x87)
    else if leAt b 0 8 ≤ s.gbk.polSerial then s.refuse c (.vendor 0x87)
    else (s.takePolicy b).post c.id .success)
/-- The policy structure in force (R58). -/
def State.policyBytes (s : State) : List Byte :=
  let g := s.gbk
  toLe 8 g.polSerial ++ toLe 1 g.polClass ++ toLe 1 g.polFlags ++ toLe 2 g.polIssuers.length ++ toLe 2 g.polDeny.length ++ toLe 2 0
    ++ g.polIssuers.flatMap (toLe 32) ++ g.polDeny.flatMap (toLe 16) ++ toLe 96 g.polSig

/-! ## Standard features: numbers and places PRESUMED from NVMe -/

/-- Standard features held as their Dword 11: Arbitration, Error Recovery, Number of Queues, Interrupt Coalescing and Configuration, Write Atomicity, Asynchronous Event Configuration, Keep Alive Timer. -/
def plainFids : List Nat := [0x01, 0x05, 0x07, 0x08, 0x09, 0x0A, 0x0B, 0x0F]
/-- The key of a Temperature Threshold: over, or under (R507). -/
def tempKey (v : Nat) : Nat := if field v 21 20 = 1 then 0x104 else 0x04
/-- Set a standard feature. -/
def State.setStd (s : State) (c : Cmd) (fid : Nat) : State :=
  let put := fun (k v : Nat) => s.modCtrl c.id.ctrl (fun x => { x with feats := x.feats.put zeroCell k (v + 1) })
  if fid = 0x04 then
    s.check c (field (dw11 c) 21 20 ≤ 1 && (field (dw11 c) 19 16 = 0 || field (dw11 c) 19 16 = 15)) (fun _ => (put (tempKey (dw11 c)) (dw11 c % 65536)).post c.id .success)
  else if fid = 0x07 then
    let got := s.freeVal % 2 ^ 32
    ((put fid (dw11 c)).took).post c.id .success got
  else if plainFids.contains fid then (put fid (dw11 c)).post c.id .success
  else s.refuse c .invalidField
/-- SET_FEATURES (R277, R280): a feature with a command of its own is set by it. -/
def execSetFeatures (c : Cmd) (s : State) : Out :=
  match dw10 c % 256 with
  | 0x02 => execPowerManagement c s
  | 0x0E => execTimestamp c s
  | 0xC0 => execTenantQos c s
  | 0xC1 => execRoomKey c s
  | 0xC2 => execFirmwareConfirm c s
  | 0xC3 => execEpochLength c s
  | 0xC4 => execRebuildShare c s
  | 0xC5 => execMemberTimers c s
  | 0xC6 => execWritePathPolicy c s
  | 0xC7 => execCartridgeAdmissionPolicy c [] s
  | fid => adminCmd false c s (fun s => s.setStd c fid)

/-! ## Get Features -/

/-- What a feature returns: Dwords 0 and 1 now, by default and as saved, and data; or a status. -/
structure FeatVal where
  cur : Nat × Nat
  dflt : Nat × Nat := (0, 0)
  saved : Option (Nat × Nat) := none
  /-- Saveable bit 0, per namespace bit 1, changeable bit 2. -/
  caps : Nat := 4
  data : List Byte := []
  deriving DecidableEq, Repr
/-- The Timestamp of a controller: the calendar for the Manager's, its own offset for another (R463). -/
def State.timestamp (s : State) (id : Nat) : List Byte :=
  let k := s.ctrl id
  if s.isManager id ∨ k.tsSet = false then toLe 6 s.calMs ++ toLe 1 s.calAttr ++ [0]
  else toLe 6 ((s.gbk.uptime + k.tsOff) % 2 ^ 48) ++ toLe 1 2 ++ [0]
/-- A feature of a controller (R39, R58, R155, R226, R234, R322, R441, R448, R449, R463). -/
def State.featVal (s : State) (c : Cmd) (fid : Nat) : Except Status FeatVal :=
  let k := s.ctrl c.id.ctrl
  let mgr := s.isManager c.id.ctrl
  if fid = 0x02 then .ok { cur := (k.ps, 0) }
  else if fid = 0x04 then
    let d := if tempKey (dw11 c) = 0x04 then 368 else 0
    .ok { cur := (k.feat (tempKey (dw11 c)) d, 0), dflt := (d, 0) }
  else if fid = 0x0E then .ok { cur := (0, 0), data := s.timestamp c.id.ctrl }
  else if plainFids.contains fid then .ok { cur := (k.feat fid 0, 0) }
  else if fid = 0xC6 then
    match s.policyNs c with
    | .error st => .error st
    | .ok x => .ok { cur := (x.policy, 0), dflt := (0x000A0200, 0), caps := 6 }
  else if mgr = false then .error .invalidField
  else if fid = 0xC0 then
    let t := dw11 c % 65536
    if t = 0 ∨ (s.tenant t).occupied = false then .error .invalidField
    else .ok { cur := (s.inf (stTenant t 288), s.inf (stTenant t 292)) }
  else if fid = 0xC1 then .ok { cur := (s.roomKeyValue, 0), dflt := (0xA08, 0), saved := s.fw.sets.roomKey.map (fun v => (v, 0)), caps := 5 }
  else if fid = 0xC2 then .ok { cur := (s.confirmValue, 0) }
  else if fid = 0xC3 then .ok { cur := (s.inf stEpochLen, 0), dflt := (100, 0) }
  else if fid = 0xC4 then .ok { cur := (s.inf stRebuildShare, 0), dflt := (25, 0) }
  else if fid = 0xC5 then
    .ok { cur := (at' s.media.tFail 16 + s.media.tSlow, s.media.slowPct), dflt := (at' 40 16 + 15, 5)
          saved := s.fw.sets.timers.map (fun t => (at' t.2.1 16 + t.1, t.2.2)), caps := 5 }
  else if fid = 0xC7 then .ok { cur := (0, 0), data := s.policyBytes, caps := 5 }
  else .error .invalidField
/-- GET_FEATURES (R280): SEL in Dword 10 [10:8] asks for the current, default or saved value, or for the capabilities. -/
def execGetFeatures (c : Cmd) (s : State) : Out :=
  adminCmd false c s (fun s =>
    match s.featVal c (dw10 c % 256) with
    | .error st => s.refuse c st
    | .ok v =>
      let sel := field (dw10 c) 10 8
      let r := if sel = 0 then v.cur else if sel = 1 then v.dflt else if sel = 2 then v.saved.getD v.dflt else (v.caps, 0)
      if sel > 3 then s.refuse c .invalidField else s.post c.id .success r.1 r.2 v.data)

/-! ## Identify: structure numbers and places PRESUMED from NVMe; the content the spec states -/

/-- The NQN of a controller's subsystem (R269). -/
def State.subNqn (s : State) (id : Nat) : Nat :=
  let k := s.ctrl id
  if k.kind = .discovery then discNqn else if k.tenant = 0 then mgrNqn else (s.tenant k.tenant).nqn
/-- Identify Controller (R10, R12, R281, R429, R431, R448, R507). -/
def State.idCtrl (s : State) (id : Nat) : List (Nat × Nat × Nat) :=
  let keyed := s.host.conns.any (fun x => x.ctrl = some id && x.rdma)
  let ps : Nat → Nat → Nat → Nat → Nat → List (Nat × Nat × Nat) := fun i mp flags en ex =>
    let o := 2048 + 32 * i
    [(o, 2, mp), (o + 3, 1, flags), (o + 4, 4, en), (o + 8, 4, ex)]
  [(77, 1, 9), (78, 2, id), (80, 4, 0x20000), (88, 4, 10000), (256, 2, 0x0E), (258, 1, 3), (259, 1, 15), (260, 1, 0x14), (262, 1, 255), (263, 1, 2),
   (265, 1, 0), (266, 2, 368), (268, 2, 378), (270, 2, 1), (319, 1, 16), (320, 2, 1), (512, 1, 0x66), (513, 1, 0x44), (516, 4, 4096), (520, 2, 0xCD),
   (522, 2, 0), (525, 1, 0), (526, 2, 511), (528, 2, 511), (532, 2, 0), (536, 4, if keyed then 5 else 1), (768, 256, s.subNqn id)]
   ++ ps 0 29000 0 0 0 ++ ps 1 0 2 110000 200000 ++ ps 2 0 2 110000 1600000
   ++ [(3072, 4, s.part.cap), (3076, 2, s.part.code), (3078, 1, 0x10), (3079, 1, 0), (3080, 16, Config.unitId.toNat)]
/-- The NSID by which a controller names a namespace. -/
def nsidFor (x : Ns) : Nat := if x.flags.testBit 1 then x.pool + 1 else x.nsid
/-- Identify Namespace (R160, R282). -/
def State.idNs (_s : State) (x : Ns) : List (Nat × Nat × Nat) :=
  [(0, 8, x.nsze), (8, 8, x.nsze), (25, 1, 3), (26, 1, x.lbaf + flag x.ext 4), (27, 1, 3), (28, 1, 0x1F), (29, 1, x.dps), (31, 1, 0), (33, 1, 0),
   (102, 2, x.pool + 1), (104, 16, x.nguid), (128, 4, at' 12 16), (132, 4, 8 + at' 12 16), (136, 4, 16 + at' 12 16), (140, 4, 64 + at' 12 16)]
/-- A page of numbers of `w` bytes. -/
def listPage (w : Nat) (l : List Nat) : List Byte := pageOf 4096 (l.mapIdx (fun i n => (w * i, w, n)))
/-- The namespaces attached to a controller, by its NSIDs, ascending. -/
def State.activeNs (s : State) (id : Nat) : List Nat :=
  ((s.media.nss.filter (fun x => s.attachedTo x id)).map nsidFor).mergeSort (· ≤ ·)
/-- Post 4,096 bytes of Identify data of which the spec states some fields; the others are free. -/
def State.idPage (s : State) (c : Cmd) (fs : List (Nat × Nat × Nat)) : State :=
  let base := toLe 4096 s.freeVal
  s.took.post c.id .success 0 0 (overlay base fs)
/-- The namespace an Identify names, where it is attached to the controller (`att`) or only allocated. -/
def State.idTarget (s : State) (c : Cmd) (att : Bool) : Option Ns :=
  match s.ns? (s.localNs c).nsid with
  | some x => if !att || s.attachedTo x c.id.ctrl then some x else none
  | none => none
/-- One Identify structure. -/
def State.identify' (s : State) (c : Cmd) (cns : Nat) : State :=
  let id := c.id.ctrl
  let mgr := s.isManager id
  let data := fun (b : List Byte) => s.post c.id .success 0 0 b
  let ns := fun (att : Bool) (f : Ns → State) =>
    if c.nsid = 0 ∨ (c.nsid > 4096 ∧ c.nsid ≠ 0xFFFFFFFF) then s.refuse c .invalidNs
    else match s.idTarget c att with
      | some x => f x
      | none => data (List.replicate 4096 0)
  if cns = 0x01 then s.idPage c (s.idCtrl id)
  else if (s.ctrl id).kind = .discovery then s.refuse c .invalidField
  else if cns = 0x00 then ns true (fun x => s.idPage c (s.idNs x))
  else if cns = 0x02 then data (listPage 4 (((s.activeNs id).filter (fun n => n > c.nsid)).take 1024))
  else if cns = 0x03 then ns true (fun x => data (pageOf 4096 [(0, 1, 2), (1, 1, 16), (4, 16, x.nguid)]))
  else if cns = 0x06 then s.idPage c [(0, 1, 9), (1, 1, 9)]
  else if cns = 0x08 then ns true (fun x => s.idPage c [(12, 2, x.pool + 1), (14, 1, flag ((s.pool x.pool).pstate = 2) 0)])
  else if cns = 0x13 then
    let l := (s.ctrlsOf (s.ctrl id).tenant).filter (fun k => k ≥ field (dw10 c) 31 16)
    data (listPage 2 (l.length :: l.take 2047))
  else if mgr = false then s.refuse c .invalidField
  else if cns = 0x10 then data (listPage 4 ((((s.media.nss.map Ns.nsid).mergeSort (· ≤ ·)).filter (fun n => n > c.nsid)).take 1024))
  else if cns = 0x11 then ns false (fun x => s.idPage c (s.idNs x))
  else if cns = 0x12 then ns false (fun x =>
    let l := (s.attachedCtrls x).filter (fun k => k ≥ field (dw10 c) 31 16)
    data (listPage 2 (l.length :: l.take 2047)))
  else if cns = 0x19 then
    let l := (s.poolIds.map (fun p => p + 1)).filter (fun g => g ≥ dw11 c % 65536)
    data (listPage 2 (l.length :: l))
  else s.refuse c .invalidField
/-- IDENTIFY (R281). -/
def execIdentify (c : Cmd) (s : State) : Out := adminCmd false c s (fun s => s.identify' c (dw10 c % 256))

end Sys2Proof.Machine
end

