-- ==== Sys2Proof/Machine/Link.lean ====
section
/-! DEFINITION. The Horost link: control blocks, acknowledgement, replay, link management, data frames, and the sequencer's restart (R80 to R95, R103). -/

namespace Sys2Proof.Machine

/-- Whether the link of a slot is up. -/
def State.linkRuns (s : State) (n : Nat) : Bool := (s.slot n).pwren && (s.slot n).phase = 5
/-- Whether superframes travel: the blocks are locked, for the exchange of training or on a link that is up (R92). -/
def State.linkTalks (s : State) (n : Nat) : Bool := (s.slot n).pwren && (3 ≤ (s.slot n).phase && (s.slot n).phase ≤ 5)

/-- The sending end of a direction. -/
def sendKey (n : Nat) (toCtrl : Bool) : Nat := endKey n (!toCtrl)

/-! ## Messages (R82, R96, R102) -/

/-- A message of 19 bytes: its type, its tag, and fields by byte offset and width. -/
def msgOf (typ tag : Nat) (fs : List (Nat × Nat × Nat)) : List Byte := pageOf 19 ((0, 1, typ) :: (1, 2, tag) :: fs)
/-- `CMD` (R96). -/
def cmdMsg (op : Nat) (m : CartCmd) : List Byte :=
  msgOf 1 m.tag [(3, 1, op), (4, 1, m.die), (5, 1, m.plane), (6, 2, m.block), (8, 2, m.page), (10, 1, m.mode),
    (11, 1, m.cwMask + 16 * m.soft), (12, 1, m.readLevel), (13, 2, m.count), (15, 4, m.arg)]
/-- The operands of a `CMD` message (R96); reserved bits are read with their field, so that a set one is out of range. -/
def cmdOf (b : List Byte) : CartCmd :=
  { tag := leAt b 1 2, die := leAt b 4 1, plane := leAt b 5 1, block := leAt b 6 2, page := leAt b 8 2, mode := leAt b 10 1,
    cwMask := leAt b 11 1 % 16, soft := leAt b 11 1 / 16, readLevel := leAt b 12 1, count := leAt b 13 2, arg := leAt b 15 4 }
/-- `STATUS` and `XFER_RDY` (R82, R101, R102). -/
def statusMsg (e : SeqStatus) : List Byte :=
  let v := fun i => e.vals.getD i 0
  if e.code = xferRdy then msgOf 3 e.tag [(4, 2, v 0), (6, 2, v 1)]
  else if e.code = 0x10 then msgOf 2 e.tag [(3, 1, 0x10), (4, 1, v 0), (6, 2, v 1), (8, 2, v 2)]
  else msgOf 2 e.tag [(3, 1, e.code), (15, 4, e.data.length)]
/-- `DATA_HDR` and `DATA_END` of a frame (R82, R84). -/
def hdrMsg (f : TxFrame) : List Byte := msgOf 4 f.tag [(4, 2, f.idx), (6, 1, f.bytes.length / 64), (7, 2, f.valid)]
def endMsg (e : Nat × Nat) : List Byte := msgOf 5 e.1 [(4, 4, e.2)]
/-- `ACK` and `NAK` of an end (R91). -/
def ackMsg (e : LinkEnd) : List Byte := msgOf 7 ((e.rxNext + 4095) % 4096) []
def nakMsg (e : LinkEnd) : List Byte := msgOf 8 e.rxNext []
/-- `LINK_MGMT` 01h of the controller (R90, R92). DESIGN CHOICE (assumption log 91): version in byte 4, `CMD_DEPTH` in 5–6, replay buffer size in 7–10. -/
def mgmtMsg : List Byte := msgOf 10 0 [(3, 1, 1), (4, 1, 1), (5, 2, 4096), (7, 4, 262144)]

/-- A control block (R81): number and version, a zero byte, three messages of 19 bytes, the CRC. -/
def blockOf (no : Nat) (ms : List (List Byte)) : List Byte :=
  let body := toLe 2 (no + 4096) ++ [0] ++ (List.range 3).flatMap (fun i => ms.getD i (msgOf 0 0 []))
  body ++ toLe 4 (crc32 body)

/-! ## What an end sends (R80, R83, R84, R88, R90, R91) -/

/-- Bytes padded with zeros to whole blocks (R84). -/
def wholeBlocks (l : List Byte) : List Byte := l ++ List.replicate ((64 - l.length % 64) % 64) 0
/-- Valid bytes of frame `idx` of a command's data to the cartridge: codewords of 4,608, the nonce and ID of CHALLENGE, a chunk of an image. -/
def validBytes (o : OutCmd) (idx : Nat) : Nat :=
  if o.op = 0x20 then 4608 else if o.op = 0x03 then 48 else min 4608 (64 * o.m.count - 4608 * idx)
/-- Change the first entry that satisfies `p`. -/
def modFirst {α : Type} (p : α → Bool) (f : α → α) : List α → List α
  | [] => []
  | a :: l => if p a then f a :: l else a :: modFirst p f l
/-- A message of the sequencer with data still to go, and one whose turn has come: its data has gone. -/
def SeqStatus.hasData (e : SeqStatus) : Bool := !e.gone && e.frames * 4608 < e.data.length
def SeqStatus.ready (e : SeqStatus) : Bool := !e.gone && e.data.length ≤ e.frames * 4608

/-- The data frame that an end sends next: the controller's in the order of the grants (R88), the sequencer's in the order of its answers (R86). -/
def State.nextFrame (s : State) (n : Nat) (toCtrl : Bool) : Option TxFrame :=
  if toCtrl then
    ((s.seqOf n).sent.reverse.find? SeqStatus.hasData).map (fun e =>
      let d := (e.data.drop (4608 * e.frames)).take 4608
      { tag := e.tag, idx := e.frames, valid := d.length, bytes := wholeBlocks d })
  else
    match (s.slot n).dataQ with
    | [] => none
    | (tag, idx) :: _ =>
      match (s.slot n).cmdAt tag with
      | none => none
      | some o =>
        if o.gone || o.grant.isSome then
          let w := ((look o.frames idx).getD 0).toNat
          some { tag := tag, idx := idx, valid := validBytes o idx, bytes := wholeBlocks (toLe (validBytes o idx) w) }
        else none
/-- That frame is under way. -/
def State.popFrame (s : State) (n : Nat) (toCtrl : Bool) : State :=
  if toCtrl then s.modSeq n (fun q => { q with sent := (modFirst SeqStatus.hasData (fun e => { e with frames := e.frames + 1 }) q.sent.reverse).reverse })
  else s.modSlot n (fun x => { x with dataQ := x.dataQ.tail })

/-- Fill the data blocks of a superframe (R80, R84): `room` blocks are left and `k` message slots; at most one frame ends in it, so that its `DATA_END` finds a slot in the next control block. Answers the headers of frames that begin, and the blocks. -/
def State.fillBlocks (n : Nat) (toCtrl : Bool) : Nat → Nat → Nat → Bool → State → List (List Byte) × List Byte × State
  | 0, _, _, _, s => ([], [], s)
  | fuel + 1, room, k, ended, s =>
    let key := sendKey n toCtrl
    match (s.endOf key).cur with
    | some f =>
      let left := f.bytes.length / 64 - f.sent
      let out := (f.bytes.drop (64 * f.sent)).take (64 * min room left)
      if left ≤ room then
        let r := State.fillBlocks n toCtrl fuel (room - left) k true (s.modEnd key (fun e => { e with cur := none, endDue := some (f.tag, crc32 f.bytes) }))
        (r.1, out ++ r.2.1, r.2.2)
      else ([], out, s.modEnd key (fun e => { e with cur := some { f with sent := f.sent + room } }))
    | none =>
      match s.nextFrame n toCtrl with
      | none => ([], [], s)
      | some f =>
        if room = 0 ∨ k = 0 ∨ (ended ∧ f.bytes.length / 64 ≤ room) then ([], [], s)
        else
          let r := State.fillBlocks n toCtrl fuel room (k - 1) ended ((s.popFrame n toCtrl).modEnd key (fun e => { e with cur := some f }))
          (hdrMsg f :: r.1, r.2.1, r.2.2)

/-- The other messages, at most `k`, in the order of R83: `STATUS` and `XFER_RDY`, `CMD`, `LINK_MGMT`. -/
def State.takeMsgs (s : State) (n : Nat) (toCtrl : Bool) (k : Nat) : List (List Byte) × State :=
  if toCtrl then
    let l := ((s.seqOf n).sent.reverse.filter SeqStatus.ready).take k
    (l.map statusMsg, s.modSeq n (fun q => { q with sent := ((List.range l.length).foldl (fun a _ => modFirst SeqStatus.ready (fun e => { e with gone := true }) a) q.sent.reverse).reverse }))
  else
    let x := s.slot n
    let l := (x.out.filter (fun (o : Nat × OutCmd) => !o.2.gone)).take k
    let mg := x.mgmtDue && l.length < k
    (l.map (fun o => cmdMsg o.2.op o.2.m) ++ (if mg then [mgmtMsg] else []),
     s.modSlot n (fun x => { x with mgmtDue := x.mgmtDue && !mg
                                    out := x.out.map (fun (o : Nat × OutCmd) => if l.any (fun y => y.1 = o.1) then (o.1, { o.2 with gone := true }) else o) }))

/-- Superframes that an end's replay buffer holds (R90): 256 KiB at the controller; at the sequencer what it reported, at least as much. -/
def State.bufFrames (s : State) (n : Nat) (toCtrl : Bool) : Nat := if toCtrl then max 256 ((s.slot n).farBuf / 1024) else 256
/-- The sender of a direction stops (R90): its buffer is full, or 2,048 superframes are unacknowledged. -/
def State.sendStops (s : State) (n : Nat) (toCtrl : Bool) : Bool :=
  min 2048 (s.bufFrames n toCtrl) ≤ (s.endOf (sendKey n toCtrl)).replay.length

/-- The `ACK` and `NAK` that an end owes. -/
def LinkEnd.acks (e : LinkEnd) : List (List Byte) := (if e.ackDue then [ackMsg e] else []) ++ (if e.nakDue then [nakMsg e] else [])

/-- An end sends its next superframe: one to be replayed, byte for byte (R91); during a stop one with `ACK`, `NAK` and `IDLE` only, which carries the last number again (R90); else a new one, its message slots filled in the order of R83. -/
def State.sendSf (s : State) (n : Nat) (toCtrl : Bool) : State :=
  let key := sendKey n toCtrl
  let e := s.endOf key
  match e.resend with
  | f :: rest => s.modEnd key (fun e => { e with resend := rest, last := some f })
  | [] =>
    let acks := e.acks
    if s.sendStops n toCtrl then
      let no := (e.txSeq + 4095) % 4096
      s.modEnd key (fun e => { e with ackDue := false, nakDue := false, last := some ⟨no, blockOf no acks, []⟩ })
    else
      let ends := e.endDue.toList.map endMsg
      let s := s.modEnd key (fun e => { e with ackDue := false, nakDue := false, endDue := none })
      let (hdrs, data, s) := State.fillBlocks n toCtrl 6 15 (3 - acks.length - ends.length) false s
      let first := acks ++ ends ++ hdrs
      let (rest, s) := s.takeMsgs n toCtrl (3 - first.length)
      let sf : Superframe := ⟨e.txSeq, blockOf e.txSeq (first ++ rest), data ++ List.replicate (960 - data.length) 0⟩
      s.modEnd key (fun e => { e with txSeq := (e.txSeq + 1) % 4096, replay := e.replay ++ [sf], last := some sf })

/-- Replay from a superframe (R91); the fourth replay of one superframe starts a fast retrain (R93). -/
def State.replayFrom (s : State) (n : Nat) (toCtrl : Bool) (sf : Nat) : State :=
  let k := sendKey n toCtrl
  let e := s.endOf k
  let times := if e.replays.1 = sf then e.replays.2 + 1 else 1
  let s := s.modEnd k (fun e => { e with replays := (sf, times), resend := e.replay.dropWhile (fun f => f.no ≠ sf) })
  let s := if toCtrl then s else s.bump (dwCART n + 0x1C) 1
  if times ≥ 4 then
    let cause := s.freeVal
    (s.took.modEnd k (fun e => { e with replays := (0, 0) })).fastRetrain n cause
  else s

/-! ## What an end receives (R81, R82, R84, R91, R95) -/

/-- The receiver asks for what it expects (R91). -/
def State.nakFor (s : State) (n : Nat) (toCtrl : Bool) : State :=
  let s := s.modEnd (endKey n toCtrl) (fun e => { e with nakSent := true, nakDue := true })
  if toCtrl then s.bump (dwCART n + 0x18) 1 else s

/-- Code 0x0311, where the controller is the end that detects it (R95). -/
def State.protoNote (s : State) (n : Nat) (toCtrl : Bool) (typ tag : Nat) : State :=
  if toCtrl then s.log 0x0311 [n, typ, tag] else s

/-- A data frame fails its check (R91): the superframe of its header is asked for again, and what was accepted since is not taken twice. -/
def State.frameBad (s : State) (n : Nat) (toCtrl : Bool) (sf : Nat) : State :=
  (s.nakFor n toCtrl).modEnd (endKey n toCtrl) (fun e => { e with again := e.again + (e.rxNext + 4096 - sf % 4096) % 4096, rxNext := sf % 4096, openFrames := [] })

/-- ACK (R91): every superframe up to the named one leaves the replay buffer of the end that receives it. -/
def execAck (n : Nat) (toCtrl : Bool) (sf : BitVec 12) (s : State) : Out :=
  onSlot s n (fun s =>
    if s.linkRuns n = false then s
    else s.modEnd (endKey n toCtrl) (fun e =>
      if e.replay.any (fun f => f.no = sf.toNat) then
        { e with replay := (e.replay.dropWhile (fun f => f.no ≠ sf.toNat)).drop 1 }
      else e))

/-- NAK (R91): the end that receives it replays from the named superframe. -/
def execNak (n : Nat) (toCtrl : Bool) (sf : BitVec 12) (s : State) : Out :=
  onSlot s n (fun s => if s.linkRuns n then s.replayFrom n (!toCtrl) sf.toNat else s)

/-- ACK_TIMER (R91): what is due goes with the end's next superframe. -/
def execAckTimer (n : Nat) (toCtrl : Bool) (s : State) : Out :=
  onSlot s n (fun s =>
    if s.linkRuns n && (s.endOf (endKey n toCtrl)).ackDue then s.sendSf n (!toCtrl) else s)

/-- REPLAY_TIMEOUT (R91). -/
def execReplayTimeout (n : Nat) (toCtrl : Bool) (s : State) : Out :=
  onSlot s n (fun s =>
    match (s.endOf (sendKey n toCtrl)).replay with
    | f :: _ => if s.linkRuns n then s.replayFrom n toCtrl f.no else s
    | [] => s)

/-- LINK_MGMT (R82, R92, R95): 1 parameters, 2 retrain request. What the sequencer receives shows that the controller sends locked blocks (phase 3), what the controller receives that both ends do (phase 4; assumption log 91). -/
def execLinkMgmt (n : Nat) (toCtrl : Bool) (subtype pver : Nat) (s : State) : Out :=
  onSlot s n (fun s =>
    let ph := (s.slot n).phase
    if subtype = 1 ∧ 2 ≤ ph ∧ ph ≤ 4 then
      if toCtrl = false then
        if pver = 1 then s.modSlot n (fun x => { x with phase := max 3 x.phase })
        else s.modSeq n (fun q => { q with noTrain := true })
      else if pver = 1 then s.modSlot n (fun x => { x with farPver := pver, phase := 4 })
      else
        let tag := s.freeVal
        (((s.took.modSlot n (fun x => { x with farPver := pver })).log 0x0311 [n, 0x0A, tag]).log 0x030F [n, 1]).reject n 8
    else if subtype = 2 ∧ s.linkRuns n then
      let cause := s.freeVal
      s.took.fastRetrain n cause
    else s)

/-- The entries of a SYNC reply (R97). -/
def syncEntries : List Byte → Nat → List (Nat × Nat)
  | _, 0 => []
  | d, k + 1 => if d.length < 4 then [] else (leAt d 0 2, leAt d 2 2) :: syncEntries (d.drop 4) k

/-- The counts of LIFE_READ (R97). -/
def lifeOf (d : List Byte) : Life := { dense := leAt d 0 8, slc := leAt d 8 8, retired := leAt d 16 4, failedDies := leAt d 20 2 }

/-- Data that reaches the controller under a tag. -/
def State.ctrlData (s : State) (n tag idx : Nat) (d : List Byte) : State :=
  match (s.slot n).cmdAt tag with
  | some o => (match o.why with
    | .sync => s.modSlot n (fun x => { x with lastSync := syncEntries d d.length })
    | .health => s.healthData n d
    | .life => (s.setLife n (lifeOf d)).lifeCheck n
    | .wear die => s.wearData n die idx d
    | .admitLife =>
      let s := s.modSlot n (fun x => { x with out := x.out.map (fun (e : Nat × OutCmd) => if e.1 = tag then (e.1, { e.2 with why := .life }) else e) })
      ((s.setLife n (lifeOf d)).authPass n false).lifeCheck n
    | _ => s)
  | none => s

/-- A whole data frame at the end it goes to. -/
def State.frameIn (s : State) (n : Nat) (toCtrl : Bool) (tag idx : Nat) (payload : List Byte) : State :=
  if toCtrl then s.ctrlData n tag idx payload else s.modSeq n (fun q => q.frame tag idx payload)

/-- DATA_FRAME (R84, R91, R95): a frame that travels whole, from `DATA_HDR` to `DATA_END`: its length in blocks, valid bytes, the superframe of its header, its blocks, and the CRC-32 of `DATA_END`. While a `NAK` stands it is discarded. -/
def execDataFrame (n : Nat) (toCtrl : Bool) (tag idx : Nat) (len : FrameLen) (hdrSf crc : Nat) (payload : List Byte) (s : State) : Out :=
  onSlot s n (fun s =>
    let e := s.endOf (endKey n toCtrl)
    if s.linkRuns n = false ∨ e.nakSent then s
    else if len.blocks = 0 ∨ len.blocks > 72 ∨ e.openFrames ≠ [] then (s.protoNote n toCtrl 4 tag).linkReset n
    else if payload.length ≠ 64 * len.blocks ∨ crc ≠ crc32 payload then s.frameBad n toCtrl hdrSf
    else s.frameIn n toCtrl tag idx (payload.take len.valid))

/-- FW_ACTIVATE (R97, R102, R103): after SUCCESS the sequencer restarts and resets the link. -/
def execFwActivate (n : Nat) (m : CartCmd) (imageOk : Bool) (s : State) : Out :=
  onSlot s n (fun s =>
    if s.linkRuns n = false then s
    else
      let q := s.seqOf n
      match q.refuse 0x41 m with
      | some code => s.modSeq n (fun q => q.say m.tag code)
      | none =>
        if q.hasImage = false then s.modSeq n (fun q => q.say m.tag 0x31)
        else if imageOk = false then s.modSeq n (fun q => q.say m.tag 0x30)
        else
          let s := (s.modSeq n (fun q => (q.say m.tag 0x00).activate)).linkReset n
          if (s.slot n).rolling then s.setSlow n 2 else s)

/-! ## Control blocks (R80 to R84, R91, R95) -/

/-- The state that an outcome answers. -/
def State.after (s : State) (o : Out) : State :=
  match o with
  | .next t => t
  | _ => s

/-- A `CMD` message at the sequencer (R96, R97, R99): the command of its opcode. What a die or an image check then finds is free. -/
def State.cmdIn (s : State) (n : Nat) (b : List Byte) : State :=
  let m := cmdOf b
  let op := leAt b 3 1
  let v := s.freeVal
  let odd : Bool := v % 2 = 1
  s.after (match op with
    | 0x01 => execCartIdentify n m s
    | 0x02 => execGetCert n m s
    | 0x03 => seqCmd n 0x03 m s (fun q => q.hold 0x03 1 m)
    | 0x04 => execSync n m s
    | 0x10 => execCartRead n ⟨m, odd⟩ s.took
    | 0x20 => execCartProgram n m odd s.took
    | 0x21 => execErase n m s
    | 0x23 => execBufferRead n m s
    | 0x24 => execBufferRelease n m s
    | 0x30 => execWearRead n m s
    | 0x31 => execLifeRead n m s
    | 0x33 => execRetireBlock n m s
    | 0x40 => seqCmd n 0x40 m s (fun q => q.hold 0x40 1 m)
    | 0x41 => execFwActivate n m odd s.took
    | 0x50 => execGetHealth n m s
    | 0x7F => execCartShutdown n m s
    | _ => seqUnknown n op m s)

/-- A `STATUS` message at the controller (R101, R102): the command of its code; a code that R102 does not list has no effect. -/
def State.statusIn (s : State) (n : Nat) (b : List Byte) : State :=
  let tag := leAt b 1 2
  s.after (match leAt b 3 1 with
    | 0x00 => execSuccess n tag s
    | 0x01 => execDataReceived n tag s
    | 0x02 => execCmdRefused n tag 0x02 s
    | 0x03 => execCmdRefused n tag 0x03 s
    | 0x04 => execCmdRefused n tag 0x04 s
    | 0x10 => execProgramReplaced n tag (leAt b 4 1) (leAt b 6 2) (leAt b 8 2) s
    | 0x11 => execProgramFail n tag true s
    | 0x12 => execNotErased n tag s
    | 0x13 => execEraseFail n tag s
    | 0x14 => execDieFail n tag s
    | 0x16 => execRetiredBlock n tag s
    | 0x30 => execFwInvalid n tag s
    | 0x31 => execFwNotLoaded n tag s
    | 0x3F => execShutDown n tag s
    | _ => .next s)

/-- Blocks that the open frames still lack. -/
def LinkEnd.missing (e : LinkEnd) : Nat := (e.openFrames.map (fun f => f.len - f.bytes.length / 64)).sum

/-- `DATA_HDR` and `DATA_END` (R82, R84, R95): a frame opens in the superframe of its first block, and closes once every block is there; its CRC-32 is over every block. -/
def State.frameMsg (s : State) (n : Nat) (toCtrl : Bool) (sf : Nat) (m : List Byte) : State :=
  let typ := leAt m 0 1
  let tag := leAt m 1 2
  let key := endKey n toCtrl
  let e := s.endOf key
  if typ = 4 then
    let len := leAt m 6 1
    if len = 0 ∨ len > 72 ∨ 15 ≤ e.missing then (s.protoNote n toCtrl 4 tag).linkReset n
    else s.modEnd key (fun e => { e with openFrames := e.openFrames ++ [{ tag := tag, idx := leAt m 4 2, len := len, valid := leAt m 7 2, sf := sf }] })
  else
    match e.openFrames with
    | f :: rest =>
      if f.bytes.length ≠ 64 * f.len then (s.protoNote n toCtrl 5 tag).linkReset n
      else if leAt m 4 4 ≠ crc32 f.bytes then s.frameBad n toCtrl f.sf
      else (s.modEnd key (fun e => { e with openFrames := rest })).frameIn n toCtrl f.tag f.idx (f.bytes.take f.valid)
    | [] => if 0 < e.again then s else (s.protoNote n toCtrl 5 tag).linkReset n

/-- One message of an accepted control block (R82, R95). In a superframe that was accepted before, only its data frames are taken. -/
def State.takeMsg (s : State) (n : Nat) (toCtrl : Bool) (sf : Nat) (m : List Byte) : State :=
  let typ := leAt m 0 1
  let tag := leAt m 1 2
  if (s.endOf (endKey n toCtrl)).rxNext ≠ (sf + 1) % 4096 ∨ s.linkTalks n = false then s
  else if typ = 4 ∨ typ = 5 then s.frameMsg n toCtrl sf m
  else if 0 < (s.endOf (endKey n toCtrl)).again then s
  else match typ with
    | 0 => s
    | 1 => if toCtrl then s else s.cmdIn n m
    | 2 => if toCtrl then s.statusIn n m else s
    | 3 => if toCtrl then s.after (execXferRdy n tag (leAt m 4 2) (leAt m 6 2) s) else s
    | 7 => s.after (execAck n toCtrl (BitVec.ofNat 12 tag) s)
    | 8 => s.after (execNak n toCtrl (BitVec.ofNat 12 tag) s)
    | 10 => s.after (execLinkMgmt n toCtrl (leAt m 3 1) (leAt m 4 1) s)
    | _ => s.protoNote n toCtrl typ tag

/-- Give data blocks to the open frames in order (R84), at most as many as blocks stand in `d`. -/
def feedFrames : List RxFrame → List Byte → List RxFrame
  | [], _ => []
  | f :: l, d =>
    let k := 64 * f.len - f.bytes.length
    { f with bytes := f.bytes ++ d.take k } :: feedFrames l (d.drop k)

/-- A control block that is not whole (R81, R91). -/
def blockBad (b : List Byte) : Bool := b.length ≠ 64 || leAt b 60 4 ≠ crc32 (b.take 60)

/-- The sender's part of a superframe that arrives: its own copy is what it built; a damaged block stands for a superframe sent before that has not arrived, else for the sender's next one. -/
def State.sends (s : State) (n : Nat) (toCtrl : Bool) (b : List Byte) : State :=
  let sf := leAt b 0 2 % 4096
  let e := s.endOf (sendKey n toCtrl)
  let new : Bool := if blockBad b then !e.resend.isEmpty || e.txSeq = (s.endOf (endKey n toCtrl)).rxNext else sf = e.txSeq || e.resend.any (fun f => f.no = sf)
  if new then s.sendSf n toCtrl else s

/-- The receiver accepts superframe `sf` (R91). -/
def State.acceptSf (s : State) (n : Nat) (toCtrl : Bool) (sf : Nat) : State :=
  s.modEnd (endKey n toCtrl) (fun e => { e with rxNext := (sf + 1) % 4096, ackDue := true, nakSent := false, nakDue := false })
/-- The three messages of an accepted control block, in order (R81). -/
def State.takeBlockMsgs (s : State) (n : Nat) (toCtrl : Bool) (sf : Nat) (b : List Byte) : State :=
  s.each [3, 22, 41] (fun s o => s.takeMsg n toCtrl sf ((b.drop o).take 19))
/-- Its data blocks go to the open frames; one accepted again counts down (R84, R91). -/
def State.takeData (s : State) (n : Nat) (toCtrl : Bool) (data : List Byte) : State :=
  s.modEnd (endKey n toCtrl) (fun e => { e with openFrames := feedFrames e.openFrames data, again := e.again - 1 })

/-- CONTROL_BLOCK (R80, R81, R90, R91, R95): a superframe arrives, its control block and its data blocks. -/
def execControlBlock (n : Nat) (toCtrl : Bool) (x : SfBytes) (s : State) : Out :=
  let b := x.block
  onSlot s n (fun s =>
    if s.linkTalks n = false then s
    else
      let sf := leAt b 0 2 % 4096
      let s := s.sends n toCtrl b
      if blockBad b then s.nakFor n toCtrl
      else if leAt b 0 2 / 4096 ≠ 1 ∨ leAt b 2 1 ≠ 0 then
        let typ := s.freeVal
        let tag := s.took.freeVal
        (s.took.took.protoNote n toCtrl typ tag).nakFor n toCtrl
      else if sf ≠ (s.endOf (endKey n toCtrl)).rxNext then s
      else
        let s := (s.acceptSf n toCtrl sf).takeBlockMsgs n toCtrl sf b
        if (s.endOf (endKey n toCtrl)).rxNext ≠ (sf + 1) % 4096 then s else s.takeData n toCtrl x.data)

end Sys2Proof.Machine
end

