-- ==== Sys2Proof/Machine/Window.lean ====
section
/-! DEFINITION. Accesses of the device window: writes and reads of any dword, and Device Window Access D0h (R15 to R20, R42 to R45). -/

namespace Sys2Proof.Machine

/-! ## Writes -/

/-- A write to `WAKE_LATCH` or `WAKE_CFG`: a pin in level mode that is asserted latches again (R455). -/
def State.relatchPins (s : State) : State := s.each [0, 1, 2, 3] (fun s p => if s.levelPin p then s.latch p else s)

/-- A write to `PORT_CFG`: a port disabled goes down (R274). -/
def State.writePortCfg (s : State) (p v : Nat) : State :=
  let s := s.setReg (dwPORT p) (v &&& rwMask (dwPORT p))
  if v.testBit 0 then s else s.portDown p 2

/-- Values of RW fields that a write leaves alone: out of range, or outside service mode (R137, R377, R400, R478). -/
def State.rwIgnored (s : State) (off v : Nat) : Bool :=
  if off = dwSRCH + 4 then v % 1024 < 10 || 1000 < v % 1024
  else if off = dwDDR + 0x180 then v % 256 < 1 || 168 < v % 256
  else if 0x100000 ≤ off ∧ off < 0x140000 ∧ off % 0x1000 = 0x404 then s.pwr.mode ≠ 1 || v % 8 > 5
  else if dwCH 0 ≤ off ∧ off < dwCH 32 then !s.mgrChan ((off - dwCH 0) / 0x40)
  else false

/-- A write that only updates fields: W1C bits are cleared, RW bits are taken, the rest is ignored (R17, R20). -/
def State.plainWrite (s : State) (off v : Nat) : State :=
  let clearable := if dwCH 0 ≤ off ∧ off < dwCH 32 then s.mgrChan ((off - dwCH 0) / 0x40) else true
  let s : State := if clearable then { s with dw.w1c := s.dw.w1c.mod zeroCell off (fun w => w ^^^ (w &&& v)) } else s
  let m := rwMask off
  if m = 0 ∨ s.rwIgnored off v then s else s.setReg off (v &&& m)

/-- A dword of `STAGE` or an ST field. -/
def writeStage (p : Path) (off : Nat) (v : Word) (s : State) : Out :=
  if isStOffset off then execShadowWrite p off v s
  else if off = dwSTAGE + 0xC ∧ v.toNat % 4 = 1 then execCommit p s
  else if off = dwSTAGE + 0xC ∧ v.toNat % 4 = 2 then execDiscard p s
  else winWrite p off s (fun s => s.plainWrite off v.toNat)

/-- A dword of `PWR`. -/
def writePwr (p : Path) (off : Nat) (v : Word) (s : State) : Out :=
  let o := off - dwPWR
  if 0x10 ≤ o ∧ o < 0x58 then execPwrKeyMgr p ((o - 0x10) / 4) v s
  else if o = 0x8C then execPwrSave p v s
  else if o = 0x90 then execCartStagger p v s
  else if o = 0x80 ∨ o = 0x84 then winWrite p off s (fun s => (s.plainWrite off v.toNat).relatchPins)
  else winWrite p off s (fun s => s.plainWrite off v.toNat)

/-- A dword of `EFL`; how a read of a flash word ends is free here (FLASH_READ gives it). -/
def writeEfl (p : Path) (off : Nat) (v : Word) (s : State) : Out :=
  let o := off - dwEFL
  if o = 0 then execFlKey (.path p) v s
  else if o = 4 then execFlCmd (.path p) v s
  else if o = 8 ∨ (0x10 ≤ o ∧ o < 0x30) then execFlSequenceStep (.path p) o v s
  else if o = 0x40 then execFlashRead p v (match s.freeVal % 3 with | 0 => .clean | 1 => .corrected | _ => .uncorrectable) s.took
  else winWrite p off s (fun s => s.plainWrite off v.toNat)

/-- A dword of `DMA`: of bits written together `ABORT` prevails (R488). -/
def writeDma (p : Path) (off : Nat) (v : Word) (s : State) : Out :=
  let ch := (off - dwCH 0) / 0x40
  if dwCH 0 ≤ off ∧ off < dwCH 32 ∧ (off - dwCH 0) % 0x40 = 0 then
    if v.toNat.testBit 1 then execDmaAbort p ch s
    else if v.toNat.testBit 0 && (s.chan ch).st = 0 then execDmaStart p ch s
    else if v.toNat.testBit 2 then execDmaResume p ch s
    else winWrite p off s (fun s => s)
  else winWrite p off s (fun s => s.plainWrite off v.toNat)

/-- A dword of `DDR`; training results come with the command DRAM_RETRAIN. -/
def writeDdr (p : Path) (off : Nat) (v : Word) (s : State) : Out :=
  if off = dwDDR + 4 then (if v.toNat.testBit 1 then execDdrSave p s else winWrite p off s (fun s => s))
  else winWrite p off s (fun s => s.plainWrite off v.toNat)

/-- A dword of `SLICE`: `RESET` and `WIPE` together act as `WIPE` (R338). -/
def writeSlice (p : Path) (off : Nat) (v : Word) (s : State) : Out :=
  if off = dwSLICE + 4 then (if v.toNat.testBit 16 then execWipe p s else execSliceReset p v s)
  else winWrite p off s (fun s => s.plainWrite off v.toNat)

/-- A dword of `LTEST`. -/
def writeLtest (p : Path) (off : Nat) (v : Word) (s : State) : Out :=
  let l := (off - dwLANE 0) / 0x40
  if off = dwLTEST + 0x10 then execDdrLoop p v s
  else if dwLANE 0 ≤ off ∧ off < dwLANE 208 ∧ (off - dwLANE 0) % 0x40 = 0 then execPatternMode p l v s
  else if dwLANE 0 ≤ off ∧ off < dwLANE 208 ∧ (off - dwLANE 0) % 0x40 = 0x30 then execInj p l v s
  else winWrite p off s (fun s => s.plainWrite off v.toNat)

/-- A dword of a `CART` block: of bits of `CART_CTRL` the highest-ranking acts (R74). -/
def writeCart (p : Path) (off : Nat) (v : Word) (s : State) : Out :=
  let n := (off - 0x100000) / 0x1000
  let b := v.toNat
  match off % 0x1000 with
  | 0x004 =>
    if b.testBit 0 then execPwrOff p n s
    else if b.testBit 1 then execPwrOn p n s
    else if b.testBit 3 then execLinkReset p n s
    else if b.testBit 2 then execRetrain p n s
    else winWrite p off s (fun s => s)
  | 0x044 => execEventEnWrite p n v s
  | 0x400 => execEccInj p n v s
  | _ => winWrite p off s (fun s => s.plainWrite off b)

/-- A dword of `HOST`; the key dwords are kept for `MKA_CTRL` (R271). -/
def writeHost (p : Path) (off : Nat) (v : Word) (s : State) : Out :=
  let port := (off - dwHOST) / 0x1000
  let o := off % 0x1000
  if off < dwGROUP 0 then
    if o = 0 then winWrite p off s (fun s => s.writePortCfg port v.toNat)
    else if 0x40 ≤ o ∧ o < 0x80 then winWrite p off s (fun s => s.modPort port (fun x => { x with stCak := x.stCak.put zeroCell ((o - 0x40) / 4) v.toNat }))
    else if o = 0x80 then (if v.toNat.testBit 0 then execMkaLoad p port s else winWrite p off s (fun s => s))
    else if 0x100 ≤ o ∧ o < 0x300 then execAddressEntryWrite p port ((o - 0x100) / 32) (o % 32 / 4) v s
    else winWrite p off s (fun s => s.plainWrite off v.toNat)
  else if off < dwGROUP 4 ∧ o = 0 then execPortMode p ((off - dwGROUP 0) / 0x1000) (BitVec.ofNat 3 v.toNat) s
  else if off = dwXPORT + 0x10 then (if v.toNat.testBit 0 then execHostSave p s else winWrite p off s (fun s => s))
  else winWrite p off s (fun s => s.plainWrite off v.toNat)

/-- One aligned dword write through a path: the command of the register where it has one, else its fields. -/
def writeDword (p : Path) (off : Nat) (v : Word) (s : State) : Out :=
  if isStOffset off ∨ (dwSTAGE ≤ off ∧ off < dwPWR) then writeStage p off v s
  else if dwPWR ≤ off ∧ off < dwEFL then writePwr p off v s
  else if dwEFL ≤ off ∧ off < dwGBK then writeEfl p off v s
  else if dwDMA ≤ off ∧ off < dwDDR then writeDma p off v s
  else if dwDDR ≤ off ∧ off < dwSLICE then writeDdr p off v s
  else if dwSLICE ≤ off ∧ off < dwLTEST then writeSlice p off v s
  else if dwLTEST ≤ off ∧ off < 0x90000 then writeLtest p off v s
  else if 0x100000 ≤ off ∧ off < 0x140000 then writeCart p off v s
  else if off = dwSRCH + 0x18 then execTcamInj p v s
  else if dwHOST ≤ off ∧ off < 0x400000 then writeHost p off v s
  else winWrite p off s (fun s => s.plainWrite off v.toNat)

/-- DW_REGISTER_WRITE (R16, R42): a write of another width or alignment is discarded. -/
def execDwRegisterWrite (p : Path) (off width : Nat) (v : Word) (s : State) : Out :=
  if off % 4 = 0 ∧ width = 4 then writeDword p off v s
  else winWrite p (4 * (off / 4)) s (fun s => s)

/-! ## Reads -/

/-- Whether a dword is the low one of a 64-bit register that is read under R16. -/
def isLow64 (off : Nat) : Bool :=
  off = dwSTAGE || off = dwSTAGE + 0x18 || off = dwGBK + 0x20 || off = dwGBK + 0x30
  || (0x100000 ≤ off && off < 0x140000 && off % 0x1000 = 0x28)
  || (dwCH 0 ≤ off && off < dwCH 32 && (let o := (off - dwCH 0) % 0x40; o = 0x18 || o = 0x20 || o = 0x30))
  || (dwLANE 0 ≤ off && off < dwLANE 208 && (off - dwLANE 0) % 0x40 = 0x10)
/-- The key of a path's latch for the high dword at `off`. -/
def latchKey (p : Path) (off : Nat) : Nat :=
  (match p with | .bar2 => 0 | .d0h => 1 | .mi => 2) * 2 ^ 22 + off
def State.setLatch (s : State) (p : Path) (off v : Nat) : State :=
  { s with dw.latch := s.dw.latch.put zeroCell (latchKey p off) v }

/-- What happened outside since the last look: events that no command of the model counts (assumption log 2). -/
def State.catchUp (s : State) (off : Nat) : State :=
  let s := if s.outsideCount off then (s.took).bump off (s.freeVal % 2 ^ 32) else s
  let o := (off - dwLANE 0) % 0x40
  let l := (off - dwLANE 0) / 0x40
  if dwLANE 0 ≤ off ∧ off < dwLANE 208 ∧ (o = 0x10 ∨ o = 0x14) ∧ (s.lane l).locked then
    (s.took).modLane l (fun x => { x with bits := (x.bits + s.freeVal) % 2 ^ 64 })
  else s

/-- The RC bits of a dword are cleared (R17). -/
def State.clearRc (s : State) (off : Nat) : State :=
  if isRc off then { s with dw.cnt := s.dw.cnt.put zeroCell off 0 } else s

/-- One aligned dword read that reaches its register: its value, RC cleared, latches loaded and consumed (R16, R17). -/
def State.readReg (s : State) (p : Path) (off : Nat) : Nat × State :=
  let held := s.dw.latch.get zeroCell (latchKey p off)
  if held ≠ 0 then (held - 1, s.setLatch p off 0)
  else
    let s := s.catchUp off
    let v := s.dword off
    let s := if isLow64 off then s.setLatch p (off + 4) (s.dword (off + 4) + 1) else s
    (v, s.clearRc off)

/-- One dword read through a path (R6, R42, R43). -/
def State.readDword (s : State) (p : Path) (off : Nat) : Nat × State :=
  match s.reach p off with
  | .ok => s.readReg p off
  | .denied => (0, s.log 0x0A10 [0, off, 0])
  | .silent => (0, s)
  | .dead => (0, s)

/-- DW_CLEARING_READ (R16): the dword that contains the first byte is read; bytes beyond it read zero. -/
def execDwClearingRead (p : Path) (off width : Nat) (s : State) : Out :=
  if s.reach p (4 * (off / 4)) = .dead then .next s
  else
    let r := s.readDword p (4 * (off / 4))
    let bytes := (toLe 4 r.1).drop (off % 4) ++ List.replicate width 0
    .next { r.2 with dw.rdata := bytes.take width }

/-! ## Device Window Access (R43, R44) -/

/-- One dword write of D0h. -/
def State.putDword (s : State) (p : Path) (off : Nat) (v : Word) : State :=
  match writeDword p off v s with
  | .next t => t
  | _ => s
/-- The dwords of a read, in ascending order. -/
def State.readDwords (s : State) (p : Path) (off n : Nat) : List Byte × State :=
  (List.range n).foldl (fun (acc : List Byte × State) i =>
    let r := acc.2.readDword p (off + 4 * i)
    (acc.1 ++ toLe 4 r.1, r.2)) ([], s)
/-- The dwords of a write, in ascending order. -/
def State.writeDwords (s : State) (p : Path) (off n : Nat) (b : List Byte) : State :=
  s.each (List.range n) (fun s i => s.putDword p (off + 4 * i) (BitVec.ofNat 32 (leAt b (4 * i) 4)))
/-- The field checks of R44. -/
def winFieldsOk (c : Cmd) : Bool :=
  let off := dw10 c % 2 ^ 22
  let n := dw11 c % 2 ^ 11
  dw10 c / 2 ^ 22 = 0 && field (dw11 c) 31 17 = 0 && field (dw11 c) 15 11 = 0 && off % 4 = 0 && 1 ≤ n && n ≤ 1024 && off + 4 * n ≤ 0x400000
/-- The transfer of an accepted D0h. -/
def State.windowAccess (s : State) (c : Cmd) : State :=
  let p : Path := if c.viaMI then .mi else .d0h
  let off := dw10 c % 2 ^ 22
  let n := dw11 c % 2 ^ 11
  if (dw11 c).testBit 16 then (s.writeDwords p off n c.buf).post c.id .success n
  else
    let r := s.readDwords p off n
    r.2.post c.id .success n 0 r.1
/-- DEVICE_WINDOW_ACCESS: authentication is asked before privilege (R43). -/
def execDeviceWindowAccess (c : Cmd) (s : State) : Out :=
  if s.accepts c = false then .next s
  else
    let s := s.cmdArrives c
    let k := s.ctrl c.id.ctrl
    if k.kind = .fabric && k.tenant = 0 && !k.authed then .next (s.refuse c (.vendor 0x87))
    else if k.authReq && !k.authed then .next (s.refuse c .authentication)
    else if s.isManager c.id.ctrl = false then .next (s.refuse c .invalidOpcode)
    else if c.fuse ≠ 0 then .next (s.refuse c .invalidField)
    else .next (s.check c (winFieldsOk c) (fun s => s.windowAccess c))

end Sys2Proof.Machine
end

