-- ==== Sys2Proof/Machine/Mi.lean ====
section
/-! DEFINITION. The NVMe-MI management endpoint (R273). Layouts, codes and status numbers are those of NVMe-MI (PRESUMED). -/

namespace Sys2Proof.Machine

/-- Whether the endpoint hears a request on a port: 0 the SMBus port, 1 the in-band port through PF0; firmware serves it (R273, R439). -/
def State.miHears (s : State) (port : Nat) : Bool :=
  s.pwr.phase = .run && s.ctlOn && (port = 0 || port = 1 && s.host.pcieUp)
/-- Answer a request with a status and data. -/
def State.miSay (s : State) (status : Nat) (b : List Byte) : State := { s with host.miOut := (status, b) }
/-- Answer with `n` bytes of which the spec states the fields `fs`; the others are free (assumption log 2). -/
def State.miOpen (s : State) (n : Nat) (fs : List (Nat × Nat × Nat)) : State :=
  let base := toLe n s.freeVal
  s.took.miSay 0 (overlay base fs)
/-- Status Invalid Parameter. -/
def miInvalid : Nat := 4
/-- A request on a port that the endpoint does not hear has no effect. -/
def miRequest (port : Nat) (s : State) (f : State → State) : Out := if s.miHears port then .next (f s) else .next s

/-- The controllers that exist, ascending. -/
def State.miCtrls (s : State) (start : Nat) : List Nat :=
  (s.ctrlIds.filter (fun i => (s.ctrl i).exist && start ≤ i)).mergeSort (· ≤ ·)

/-- READ_NVME_MI_DATA_STRUCTURE: type 0 the subsystem, 1 a port, 2 the controllers, 3 a controller, 4 the optional commands. -/
def execReadNvmeMiDataStructure (port dtype ident : Nat) (s : State) : Out :=
  miRequest port s (fun s =>
    if dtype = 0 then s.miOpen 32 [(0, 1, 1)]
    else if dtype = 1 ∧ ident = 0 then s.miOpen 32 [(0, 1, 2), (2, 2, 64), (8, 1, 0x1D), (9, 1, 2), (10, 1, 0x6A)]
    else if dtype = 1 ∧ ident = 1 then s.miOpen 32 [(0, 1, 1), (2, 2, 64)]
    else if dtype = 2 then
      let l := s.miCtrls ident
      s.miSay 0 (toLe 2 l.length ++ (l.take 2047).flatMap (toLe 2))
    else if dtype = 3 ∧ (s.ctrl ident).exist then s.miOpen 32 []
    else if dtype = 4 then s.miOpen 4096 []
    else s.miSay miInvalid [])

/-- NVM_SUBSYSTEM_HEALTH_STATUS_POLL: Composite Temperature and the temperature warning are as SMART shows them (R507); the composite controller status, and so what clearing it changes, is free. -/
def execNvmSubsystemHealthStatusPoll (port : Nat) (_clearStatus : Bool) (s : State) : Out :=
  miRequest port s (fun s =>
    let warn := (s.managers.any s.tempWarning)
    let sw := s.freeVal % 256
    let sw := if warn then clearBit sw 1 else setBit sw 1
    s.took.miOpen 8 [(1, 1, sw), (2, 1, (hottest s.pwr.temps).toNat)])

/-- One entry of a controller health poll. -/
def State.miEntry (s : State) (id : Nat) (f : Nat) : List Byte :=
  let k := s.ctrl id
  let st := f % 65536 / 16 * 16 + at' (k.shst % 4) 2 + at' (f % 2) 1 + flag k.rdy 0
  let w := if s.tempWarning id then setBit (f / 65536 % 256) 1 else clearBit (f / 65536 % 256) 1
  overlay (toLe 16 (f / 2 ^ 24)) [(0, 2, id), (2, 2, st), (4, 2, s.kelvin), (8, 1, w)]
/-- CONTROLLER_HEALTH_STATUS_POLL: entries of the controllers from `start` on, as many as a message holds. -/
def execControllerHealthStatusPoll (port start : Nat) (s : State) : Out :=
  miRequest port s (fun s =>
    let l := (s.miCtrls start).take 255
    l.foldl (fun (t : State) id => t.took.miSay 0 (t.host.miOut.2 ++ t.miEntry id t.freeVal)) (s.miSay 0 []))

/-- CONFIGURATION_GET: 1 the SMBus frequency (1 is 100 kHz, 2 is 400 kHz), 3 the MCTP transmission unit. -/
def execConfigurationGet (port id : Nat) (s : State) : Out :=
  miRequest port s (fun s =>
    if id = 1 then s.miSay 0 (toLe 3 s.host.smbusHz)
    else if id = 3 then s.miSay 0 (toLe 3 s.host.mctpMtu)
    else s.miSay miInvalid [])
/-- CONFIGURATION_SET: the frequencies and the unit that R273 names, and no others. -/
def execConfigurationSet (port id value : Nat) (s : State) : Out :=
  miRequest port s (fun s =>
    if id = 1 ∧ (value = 1 ∨ value = 2) then ({ s with host.smbusHz := value } : State).miSay 0 []
    else if id = 3 ∧ value = 64 then ({ s with host.mctpMtu := value } : State).miSay 0 []
    else s.miSay miInvalid [])

/-- Dispatch of a tunnelled Firmware Commit by its commit action (R431). -/
def miCommit (c : Cmd) (s : State) : Out :=
  match field (dw10 c) 5 3 with
  | 0 => execReplace c s
  | 1 => execReplaceActivateNext c s
  | 2 => execActivateNext c s
  | 3 => execReplaceActivateNow c s
  | _ => adminCmd true c s (fun s => s.refuse c .invalidField)
/-- Dispatch of a tunnelled Cartridge Service by its action (R244). -/
def miService (c : Cmd) (s : State) : Out :=
  match field (dw10 c) 11 8 with
  | 0 => execDrain c s
  | 1 => execUndrain c s
  | 2 => execSeqUpdate c s
  | 3 => execPowerOff c s
  | 4 => execPowerOn c s
  | 5 => execRelease c s
  | _ => adminCmd true c s (fun s => s.refuse c .invalidField)
/-- Dispatch of a tunnelled Guestbook Owner command by its action (R473 to R476); the verdicts on signature and point are free here. -/
def miOwner (c : Cmd) (s : State) : Out :=
  match dw10 c % 16 with
  | 0 => execNonce c s
  | 1 => execClear c (s.freeVal % 2 = 0) s.took
  | 2 => execOwnerSet c (s.freeVal % 2 = 0) (s.freeVal / 2 % 2 = 0) s.took
  | _ => adminCmd true c s (fun s => s.refuse c .invalidField)
/-- NVME_ADMIN_COMMAND_TUNNEL: the carried commands run as commands of the controller they name; others are refused. -/
def execNvmeAdminCommandTunnel (port opcode : Nat) (c : Cmd) (s : State) : Out :=
  let c : Cmd := { c with viaMI := true }
  if s.miHears port = false then .next s
  else if c.buf.length > 4152 ∨ (s.ctrl c.id.ctrl).exist = false then .next (s.miSay miInvalid [])
  else match opcode with
  | 0x02 => execGetLogPage c s
  | 0x06 => execIdentify c s
  | 0x09 => execSetFeatures c s
  | 0x0A => execGetFeatures c s
  | 0x10 => miCommit c s
  | 0x11 => execFirmwareImageDownload c s
  | 0xC4 => miService c s
  | 0xC8 => execGuestbookRead c s
  | 0xC9 => miOwner c s
  | 0xD0 => execDeviceWindowAccess c s
  | _ => .next (s.refuse c .invalidOpcode)

/-- BASIC_MANAGEMENT_COMMAND: SMBus block reads at code 0 (status, warnings, temperature) and code 8 (vendor and serial number), as NVMe-MI lays them out. -/
def execBasicManagementCommand (code : Nat) (s : State) : Out :=
  miRequest 0 s (fun s =>
    if code = 0 then
      let warn := s.managers.any s.tempWarning
      let w := s.freeVal % 256
      let w := if warn then clearBit w 1 else setBit w 1
      s.took.miOpen 8 [(0, 1, 6), (2, 1, w), (3, 1, (hottest s.pwr.temps).toNat)]
    else if code = 8 then s.miOpen 24 [(0, 1, 22)]
    else s.miSay miInvalid [])

end Sys2Proof.Machine
end

