-- ==== Sys2Proof/Machine/Dispatch.lean ====
section
/-! DEFINITION. Which meaning each command has: one arm per row of the opcode table. -/

namespace Sys2Proof.Machine

/-- A command's effect on everything but the queue. -/
def exec (i : Instr) (s : State) : Host.Outcome State Fault Refusal :=
  match i with
  | .dwRegisterWrite p off width v => Sys2Proof.Machine.execDwRegisterWrite p off width v s
  | .dwClearingRead p off width => Sys2Proof.Machine.execDwClearingRead p off width s
  | .deviceWindowAccess c => Sys2Proof.Machine.execDeviceWindowAccess c s
  | .shadowWrite p off v => Sys2Proof.Machine.execShadowWrite p off v s
  | .commit p => Sys2Proof.Machine.execCommit p s
  | .discard p => Sys2Proof.Machine.execDiscard p s
  | .checkWindowOpen => Sys2Proof.Machine.execCheckWindowOpen s
  | .epochBoundary => Sys2Proof.Machine.execEpochBoundary s
  | .clockLoss => Sys2Proof.Machine.execClockLoss s
  | .porstAssert => Sys2Proof.Machine.execPorstAssert s
  | .coldStart mode carts => Sys2Proof.Machine.execColdStart mode carts s
  | .dramTraining dimms res => Sys2Proof.Machine.execDramTraining dimms res s
  | .firmwareStart => Sys2Proof.Machine.execFirmwareStart s
  | .census pool reads => Sys2Proof.Machine.execCensus pool reads s
  | .startedPoint => Sys2Proof.Machine.execStartedPoint s
  | .perst level => Sys2Proof.Machine.execPerst level s
  | .refclkLoss => Sys2Proof.Machine.execRefclkLoss s
  | .tempSample readings => Sys2Proof.Machine.execTempSample readings s
  | .tapInstruction code => Sys2Proof.Machine.execTapInstruction code s
  | .presenceLow n => Sys2Proof.Machine.execPresenceLow n s
  | .cartInserted x => Sys2Proof.Machine.execCartInserted x s
  | .pwrenRise => Sys2Proof.Machine.execPwrenRise s
  | .cartRemoved n => Sys2Proof.Machine.execCartRemoved n s
  | .cartAlert n => Sys2Proof.Machine.execCartAlert n s
  | .getHealthTimeout n => Sys2Proof.Machine.execGetHealthTimeout n s
  | .cartPowerTimeout n => Sys2Proof.Machine.execCartPowerTimeout n s
  | .trainingTimeout n => Sys2Proof.Machine.execTrainingTimeout n s
  | .farEndSignal n => Sys2Proof.Machine.execFarEndSignal n s
  | .linkUp n lp => Sys2Proof.Machine.execLinkUp n lp s
  | .identifyTimeout n => Sys2Proof.Machine.execIdentifyTimeout n s
  | .descriptorReceived n d => Sys2Proof.Machine.execDescriptorReceived n d s
  | .signatureReceived n r life => Sys2Proof.Machine.execSignatureReceived n r life s
  | .authTimeout n => Sys2Proof.Machine.execAuthTimeout n s
  | .seqUpdateTimeout n => Sys2Proof.Machine.execSeqUpdateTimeout n s
  | .pwrOff p n => Sys2Proof.Machine.execPwrOff p n s
  | .pwrOn p n => Sys2Proof.Machine.execPwrOn p n s
  | .linkReset p n => Sys2Proof.Machine.execLinkReset p n s
  | .retrain p n => Sys2Proof.Machine.execRetrain p n s
  | .fastRetrain n cause => Sys2Proof.Machine.execFastRetrain n cause s
  | .retrainDone n ok full lp => Sys2Proof.Machine.execRetrainDone n ok full lp s
  | .lanternFrame => Sys2Proof.Machine.execLanternFrame s
  | .eventEnWrite p n v => Sys2Proof.Machine.execEventEnWrite p n v s
  | .lifePoll n life => Sys2Proof.Machine.execLifePoll n life s
  | .migrateDone n => Sys2Proof.Machine.execMigrateDone n s
  | .controlBlock n toCtrl sf => Sys2Proof.Machine.execControlBlock n toCtrl sf s
  | .ack n toCtrl sf => Sys2Proof.Machine.execAck n toCtrl sf s
  | .nak n toCtrl sf => Sys2Proof.Machine.execNak n toCtrl sf s
  | .ackTimer n toCtrl => Sys2Proof.Machine.execAckTimer n toCtrl s
  | .replayTimeout n toCtrl => Sys2Proof.Machine.execReplayTimeout n toCtrl s
  | .linkMgmt n toCtrl subtype pver => Sys2Proof.Machine.execLinkMgmt n toCtrl subtype pver s
  | .dataFrame n toCtrl tag idx len hdrSf crc payload => Sys2Proof.Machine.execDataFrame n toCtrl tag idx len hdrSf crc payload s
  | .xferRdy n tag first count => Sys2Proof.Machine.execXferRdy n tag first count s
  | .codewordArrival n tag k a => Sys2Proof.Machine.execCodewordArrival n tag k a s
  | .success n tag => Sys2Proof.Machine.execSuccess n tag s
  | .dataReceived n tag => Sys2Proof.Machine.execDataReceived n tag s
  | .programReplaced n tag die block page => Sys2Proof.Machine.execProgramReplaced n tag die block page s
  | .programFail n tag held => Sys2Proof.Machine.execProgramFail n tag held s
  | .notErased n tag => Sys2Proof.Machine.execNotErased n tag s
  | .retiredBlock n tag => Sys2Proof.Machine.execRetiredBlock n tag s
  | .eraseFail n tag => Sys2Proof.Machine.execEraseFail n tag s
  | .dieFail n tag => Sys2Proof.Machine.execDieFail n tag s
  | .cmdRefused n tag code => Sys2Proof.Machine.execCmdRefused n tag code s
  | .fwInvalid n tag => Sys2Proof.Machine.execFwInvalid n tag s
  | .fwNotLoaded n tag => Sys2Proof.Machine.execFwNotLoaded n tag s
  | .shutDown n tag => Sys2Proof.Machine.execShutDown n tag s
  | .cartIdentify n m => Sys2Proof.Machine.execCartIdentify n m s
  | .getCert n m => Sys2Proof.Machine.execGetCert n m s
  | .challenge n m nonce unitId => Sys2Proof.Machine.execChallenge n m nonce unitId s
  | .sync n m => Sys2Proof.Machine.execSync n m s
  | .cartRead n r => Sys2Proof.Machine.execCartRead n r s
  | .cartProgram n m blank => Sys2Proof.Machine.execCartProgram n m blank s
  | .dieProgramDone n tag verified dieAlive => Sys2Proof.Machine.execDieProgramDone n tag verified dieAlive s
  | .erase n m => Sys2Proof.Machine.execErase n m s
  | .bufferRead n m => Sys2Proof.Machine.execBufferRead n m s
  | .bufferRelease n m => Sys2Proof.Machine.execBufferRelease n m s
  | .wearRead n m => Sys2Proof.Machine.execWearRead n m s
  | .lifeRead n m => Sys2Proof.Machine.execLifeRead n m s
  | .retireBlock n m => Sys2Proof.Machine.execRetireBlock n m s
  | .fwDownload n m data => Sys2Proof.Machine.execFwDownload n m data s
  | .fwActivate n m imageOk => Sys2Proof.Machine.execFwActivate n m imageOk s
  | .getHealth n m => Sys2Proof.Machine.execGetHealth n m s
  | .cartShutdown n m => Sys2Proof.Machine.execCartShutdown n m s
  | .eccInj p n v => Sys2Proof.Machine.execEccInj p n v s
  | .patrol pool band row => Sys2Proof.Machine.execPatrol pool band row s
  | .slcUnitTimeout pool => Sys2Proof.Machine.execSlcUnitTimeout pool s
  | .journalUnitTimeout pool n => Sys2Proof.Machine.execJournalUnitTimeout pool n s
  | .frontierFill nsx seg => Sys2Proof.Machine.execFrontierFill nsx seg s
  | .fold nsx seg => Sys2Proof.Machine.execFold nsx seg s
  | .foldSwitch band => Sys2Proof.Machine.execFoldSwitch band s
  | .logGc pool band => Sys2Proof.Machine.execLogGc pool band s
  | .reserveErase n die mode => Sys2Proof.Machine.execReserveErase n die mode s
  | .wearCheck pool => Sys2Proof.Machine.execWearCheck pool s
  | .lifeForecast pool => Sys2Proof.Machine.execLifeForecast pool s
  | .read c => Sys2Proof.Machine.execRead c s
  | .write c => Sys2Proof.Machine.execWrite c s
  | .stagingReserved id => Sys2Proof.Machine.execStagingReserved id s
  | .writeDataArrival id first data pi digestOk busOk => Sys2Proof.Machine.execWriteDataArrival id first data pi digestOk busOk s
  | .rangeLockGrant id => Sys2Proof.Machine.execRangeLockGrant id s
  | .barrierPass id => Sys2Proof.Machine.execBarrierPass id s
  | .writeComplete id => Sys2Proof.Machine.execWriteComplete id s
  | .tSlowExpiry n tag => Sys2Proof.Machine.execTSlowExpiry n tag s
  | .slowProbe n => Sys2Proof.Machine.execSlowProbe n s
  | .tFailExpiry n => Sys2Proof.Machine.execTFailExpiry n s
  | .slowRatioCheck n => Sys2Proof.Machine.execSlowRatioCheck n s
  | .rebuildRow pool band row => Sys2Proof.Machine.execRebuildRow pool band row s
  | .spareRetry pool => Sys2Proof.Machine.execSpareRetry pool s
  | .portMode p g mode => Sys2Proof.Machine.execPortMode p g mode s
  | .frameReceive port f => Sys2Proof.Machine.execFrameReceive port f s
  | .pfcFrame port prio quanta => Sys2Proof.Machine.execPfcFrame port prio quanta s
  | .pfcPauseRefresh port prio => Sys2Proof.Machine.execPfcPauseRefresh port prio s
  | .pfcStorm port prio => Sys2Proof.Machine.execPfcStorm port prio s
  | .pfcStormClear port prio => Sys2Proof.Machine.execPfcStormClear port prio s
  | .dcqcnRateIncrease qp => Sys2Proof.Machine.execDcqcnRateIncrease qp s
  | .portLinkUp port => Sys2Proof.Machine.execPortLinkUp port s
  | .portLinkDown port cause => Sys2Proof.Machine.execPortLinkDown port cause s
  | .icreq conn port entry pfv maxr2t hpda tls hdgst ddgst noSuccess => Sys2Proof.Machine.execIcreq conn port entry pfv maxr2t hpda tls hdgst ddgst noSuccess s
  | .tcpTimeout conn => Sys2Proof.Machine.execTcpTimeout conn s
  | .keepAliveTimeout ctrl => Sys2Proof.Machine.execKeepAliveTimeout ctrl s
  | .rdmaRetryExhausted conn => Sys2Proof.Machine.execRdmaRetryExhausted conn s
  | .addressEntryWrite p port e dword v => Sys2Proof.Machine.execAddressEntryWrite p port e dword v s
  | .hostSave p => Sys2Proof.Machine.execHostSave p s
  | .mkaLoad p port => Sys2Proof.Machine.execMkaLoad p port s
  | .sakDistribution port => Sys2Proof.Machine.execSakDistribution port s
  | .pnExhausted port transmit atLimit channel => Sys2Proof.Machine.execPnExhausted port transmit atLimit channel s
  | .mkaPeerTimeout port => Sys2Proof.Machine.execMkaPeerTimeout port s
  | .pcieLink => Sys2Proof.Machine.execPcieLink s
  | .flr fn => Sys2Proof.Machine.execFlr fn s
  | .busMasterClear => Sys2Proof.Machine.execBusMasterClear s
  | .pasidTlp pasid => Sys2Proof.Machine.execPasidTlp pasid s
  | .doorbellWrite ctrl sq tail => Sys2Proof.Machine.execDoorbellWrite ctrl sq tail s
  | .controllerReset ctrl => Sys2Proof.Machine.execControllerReset ctrl s
  | .ccEnable ctrl => Sys2Proof.Machine.execCcEnable ctrl s
  | .shutdownNotification ctrl shn => Sys2Proof.Machine.execShutdownNotification ctrl shn s
  | .drainComplete ctrl => Sys2Proof.Machine.execDrainComplete ctrl s
  | .flush c => Sys2Proof.Machine.execFlush c s
  | .compare c => Sys2Proof.Machine.execCompare c s
  | .writeZeroes c => Sys2Proof.Machine.execWriteZeroes c s
  | .datasetManagement c => Sys2Proof.Machine.execDatasetManagement c s
  | .verify c => Sys2Proof.Machine.execVerify c s
  | .ioManagementReceive c => Sys2Proof.Machine.execIoManagementReceive c s
  | .ioManagementSend c => Sys2Proof.Machine.execIoManagementSend c s
  | .deleteIoSubmissionQueue c => Sys2Proof.Machine.execDeleteIoSubmissionQueue c s
  | .createIoSubmissionQueue c => Sys2Proof.Machine.execCreateIoSubmissionQueue c s
  | .deleteIoCompletionQueue c => Sys2Proof.Machine.execDeleteIoCompletionQueue c s
  | .createIoCompletionQueue c => Sys2Proof.Machine.execCreateIoCompletionQueue c s
  | .getLogPage c => Sys2Proof.Machine.execGetLogPage c s
  | .cartridgeHealth c => Sys2Proof.Machine.execCartridgeHealth c s
  | .lostLbaList c => Sys2Proof.Machine.execLostLbaList c s
  | .rebuildProgress c => Sys2Proof.Machine.execRebuildProgress c s
  | .guestbookLog c => Sys2Proof.Machine.execGuestbookLog c s
  | .throttleAndDisturbance c => Sys2Proof.Machine.execThrottleAndDisturbance c s
  | .searchStatistics c => Sys2Proof.Machine.execSearchStatistics c s
  | .startUpReport c => Sys2Proof.Machine.execStartUpReport c s
  | .identify c => Sys2Proof.Machine.execIdentify c s
  | .abort c => Sys2Proof.Machine.execAbort c s
  | .setFeatures c => Sys2Proof.Machine.execSetFeatures c s
  | .getFeatures c => Sys2Proof.Machine.execGetFeatures c s
  | .tenantQos c => Sys2Proof.Machine.execTenantQos c s
  | .roomKey c => Sys2Proof.Machine.execRoomKey c s
  | .firmwareConfirm c => Sys2Proof.Machine.execFirmwareConfirm c s
  | .epochLength c => Sys2Proof.Machine.execEpochLength c s
  | .rebuildShare c => Sys2Proof.Machine.execRebuildShare c s
  | .memberTimers c => Sys2Proof.Machine.execMemberTimers c s
  | .writePathPolicy c => Sys2Proof.Machine.execWritePathPolicy c s
  | .cartridgeAdmissionPolicy c sig => Sys2Proof.Machine.execCartridgeAdmissionPolicy c sig s
  | .timestamp c => Sys2Proof.Machine.execTimestamp c s
  | .powerManagement c => Sys2Proof.Machine.execPowerManagement c s
  | .asynchronousEventRequest c => Sys2Proof.Machine.execAsynchronousEventRequest c s
  | .namespaceCreate c => Sys2Proof.Machine.execNamespaceCreate c s
  | .namespaceDelete c => Sys2Proof.Machine.execNamespaceDelete c s
  | .namespaceAttachment c => Sys2Proof.Machine.execNamespaceAttachment c s
  | .keepAlive c => Sys2Proof.Machine.execKeepAlive c s
  | .propertySet c => Sys2Proof.Machine.execPropertySet c s
  | .propertyGet c => Sys2Proof.Machine.execPropertyGet c s
  | .connect c r => Sys2Proof.Machine.execConnect c r s
  | .authenticationSend c => Sys2Proof.Machine.execAuthenticationSend c s
  | .authenticationReceive c ok => Sys2Proof.Machine.execAuthenticationReceive c ok s
  | .disconnect c => Sys2Proof.Machine.execDisconnect c s
  | .formatNvm c => Sys2Proof.Machine.execFormatNvm c s
  | .cryptoErase c => Sys2Proof.Machine.execCryptoErase c s
  | .blockErase c => Sys2Proof.Machine.execBlockErase c s
  | .overwrite c => Sys2Proof.Machine.execOverwrite c s
  | .tenantCreate c => Sys2Proof.Machine.execTenantCreate c s
  | .tenantDelete c => Sys2Proof.Machine.execTenantDelete c s
  | .tenantReset c => Sys2Proof.Machine.execTenantReset c s
  | .resources c => Sys2Proof.Machine.execResources c s
  | .hosts c => Sys2Proof.Machine.execHosts c s
  | .bindVf c => Sys2Proof.Machine.execBindVf c s
  | .nsAssign c => Sys2Proof.Machine.execNsAssign c s
  | .nsRelease c => Sys2Proof.Machine.execNsRelease c s
  | .global c => Sys2Proof.Machine.execGlobal c s
  | .sliceReset p v => Sys2Proof.Machine.execSliceReset p v s
  | .wipe p => Sys2Proof.Machine.execWipe p s
  | .drain c => Sys2Proof.Machine.execDrain c s
  | .undrain c => Sys2Proof.Machine.execUndrain c s
  | .seqUpdate c => Sys2Proof.Machine.execSeqUpdate c s
  | .powerOff c => Sys2Proof.Machine.execPowerOff c s
  | .powerOn c => Sys2Proof.Machine.execPowerOn c s
  | .release c => Sys2Proof.Machine.execRelease c s
  | .poolCreate c => Sys2Proof.Machine.execPoolCreate c s
  | .poolAdd c => Sys2Proof.Machine.execPoolAdd c s
  | .poolRemove c => Sys2Proof.Machine.execPoolRemove c s
  | .poolSet c => Sys2Proof.Machine.execPoolSet c s
  | .poolDelete c => Sys2Proof.Machine.execPoolDelete c s
  | .poolReport c => Sys2Proof.Machine.execPoolReport c s
  | .keyLookupShort c => Sys2Proof.Machine.execKeyLookupShort c s
  | .keyLookupLong c => Sys2Proof.Machine.execKeyLookupLong c s
  | .keyLookupBatch c => Sys2Proof.Machine.execKeyLookupBatch c s
  | .cursorFreed tenant => Sys2Proof.Machine.execCursorFreed tenant s
  | .keyNext c => Sys2Proof.Machine.execKeyNext c s
  | .cursorExpiry token => Sys2Proof.Machine.execCursorExpiry token s
  | .keyInsert c => Sys2Proof.Machine.execKeyInsert c s
  | .keyDelete c => Sys2Proof.Machine.execKeyDelete c s
  | .tcamScrub bank => Sys2Proof.Machine.execTcamScrub bank s
  | .tcamInj p v => Sys2Proof.Machine.execTcamInj p v s
  | .patternImageLoad c => Sys2Proof.Machine.execPatternImageLoad c s
  | .patternImageLoadFinal c structOk => Sys2Proof.Machine.execPatternImageLoadFinal c structOk s
  | .patternImageUnload c => Sys2Proof.Machine.execPatternImageUnload c s
  | .scanStart c => Sys2Proof.Machine.execScanStart c s
  | .scanChunk lane cands unreadable guardBad ecc => Sys2Proof.Machine.execScanChunk lane cands unreadable guardBad ecc s
  | .scanRelease lane => Sys2Proof.Machine.execScanRelease lane s
  | .scanFetch c => Sys2Proof.Machine.execScanFetch c s
  | .scanFetchWaitExpiry id => Sys2Proof.Machine.execScanFetchWaitExpiry id s
  | .scanCancel c => Sys2Proof.Machine.execScanCancel c s
  | .scanExpiry scan => Sys2Proof.Machine.execScanExpiry scan s
  | .dramRetrain p dimms res => Sys2Proof.Machine.execDramRetrain p dimms res s
  | .ddrSave p => Sys2Proof.Machine.execDdrSave p s
  | .dramRecalibration ch drift => Sys2Proof.Machine.execDramRecalibration ch drift s
  | .dramRefresh ch rank bank postpone dimm celsius => Sys2Proof.Machine.execDramRefresh ch rank bank postpone dimm celsius s
  | .dramActivation ch sub now reads writes ecc => Sys2Proof.Machine.execDramActivation ch sub now reads writes ecc s
  | .disturbanceWindow => Sys2Proof.Machine.execDisturbanceWindow s
  | .dramPatrolScrub ch ecc => Sys2Proof.Machine.execDramPatrolScrub ch ecc s
  | .flKey iss v => Sys2Proof.Machine.execFlKey iss v s
  | .flCmd iss v => Sys2Proof.Machine.execFlCmd iss v s
  | .flSequenceStep iss off v => Sys2Proof.Machine.execFlSequenceStep iss off v s
  | .flSequenceLate => Sys2Proof.Machine.execFlSequenceLate s
  | .program iss v => Sys2Proof.Machine.execProgram iss v s
  | .eraseSector iss v => Sys2Proof.Machine.execEraseSector iss v s
  | .eraseBank iss v => Sys2Proof.Machine.execEraseBank iss v s
  | .readMarkers iss v => Sys2Proof.Machine.execReadMarkers iss v s
  | .clearEraseFlag iss v => Sys2Proof.Machine.execClearEraseFlag iss v s
  | .flashOpDone verified => Sys2Proof.Machine.execFlashOpDone verified s
  | .flashRead p v ecc => Sys2Proof.Machine.execFlashRead p v ecc s
  | .firmwareImageDownload c => Sys2Proof.Machine.execFirmwareImageDownload c s
  | .replace c => Sys2Proof.Machine.execReplace c s
  | .replaceActivateNext c => Sys2Proof.Machine.execReplaceActivateNext c s
  | .activateNext c => Sys2Proof.Machine.execActivateNext c s
  | .replaceActivateNow c => Sys2Proof.Machine.execReplaceActivateNow c s
  | .activationPause => Sys2Proof.Machine.execActivationPause s
  | .pauseEnd => Sys2Proof.Machine.execPauseEnd s
  | .rollingSeqUpdate n => Sys2Proof.Machine.execRollingSeqUpdate n s
  | .entryRequest => Sys2Proof.Machine.execEntryRequest s
  | .entryE1 => Sys2Proof.Machine.execEntryE1 s
  | .entryE2 => Sys2Proof.Machine.execEntryE2 s
  | .entryE3 => Sys2Proof.Machine.execEntryE3 s
  | .wakePin pin level => Sys2Proof.Machine.execWakePin pin level s
  | .linkWake g => Sys2Proof.Machine.execLinkWake g s
  | .pcieWake => Sys2Proof.Machine.execPcieWake s
  | .wakeTimer => Sys2Proof.Machine.execWakeTimer s
  | .cartridgeWake n level => Sys2Proof.Machine.execCartridgeWake n level s
  | .keyWake cls dom => Sys2Proof.Machine.execKeyWake cls dom s
  | .pwrExit => Sys2Proof.Machine.execPwrExit s
  | .pwrKeyMgr p d v => Sys2Proof.Machine.execPwrKeyMgr p d v s
  | .pwrSave p v => Sys2Proof.Machine.execPwrSave p v s
  | .cartStagger p v => Sys2Proof.Machine.execCartStagger p v s
  | .pmbusAlert answers => Sys2Proof.Machine.execPmbusAlert answers s
  | .guestbookRead c => Sys2Proof.Machine.execGuestbookRead c s
  | .nonce c => Sys2Proof.Machine.execNonce c s
  | .clear c sigOk => Sys2Proof.Machine.execClear c sigOk s
  | .ownerSet c sigOk onCurve => Sys2Proof.Machine.execOwnerSet c sigOk onCurve s
  | .nonceExpiry => Sys2Proof.Machine.execNonceExpiry s
  | .guestbookRecordWrite => Sys2Proof.Machine.execGuestbookRecordWrite s
  | .coalesceWindow code key => Sys2Proof.Machine.execCoalesceWindow code key s
  | .dmaStart p ch => Sys2Proof.Machine.execDmaStart p ch s
  | .dmaAbort p ch => Sys2Proof.Machine.execDmaAbort p ch s
  | .dmaResume p ch => Sys2Proof.Machine.execDmaResume p ch s
  | .descriptorFetch ch d => Sys2Proof.Machine.execDescriptorFetch ch d s
  | .dmaBurst fin => Sys2Proof.Machine.execDmaBurst fin s
  | .dmaRetry ch fin => Sys2Proof.Machine.execDmaRetry ch fin s
  | .patternMode p lane v => Sys2Proof.Machine.execPatternMode p lane v s
  | .inj p lane v => Sys2Proof.Machine.execInj p lane v s
  | .ddrLoop p v => Sys2Proof.Machine.execDdrLoop p v s
  | .readNvmeMiDataStructure port dtype ident => Sys2Proof.Machine.execReadNvmeMiDataStructure port dtype ident s
  | .nvmSubsystemHealthStatusPoll port clearStatus => Sys2Proof.Machine.execNvmSubsystemHealthStatusPoll port clearStatus s
  | .controllerHealthStatusPoll port start => Sys2Proof.Machine.execControllerHealthStatusPoll port start s
  | .configurationGet port id => Sys2Proof.Machine.execConfigurationGet port id s
  | .configurationSet port id value => Sys2Proof.Machine.execConfigurationSet port id value s
  | .nvmeAdminCommandTunnel port opcode c => Sys2Proof.Machine.execNvmeAdminCommandTunnel port opcode c s
  | .basicManagementCommand code => Sys2Proof.Machine.execBasicManagementCommand code s
  | .dieEraseDone n tag res => Sys2Proof.Machine.execDieEraseDone n tag res s
  | .powerLoss torn => Sys2Proof.Machine.execPowerLoss torn s
  | .refclkReturn => Sys2Proof.Machine.execRefclkReturn s
  | .checkerLocked lane => Sys2Proof.Machine.execCheckerLocked lane s
  | .checkerLostLock lane => Sys2Proof.Machine.execCheckerLostLock lane s
  | .pcieLinkUp speed width flit sris => Sys2Proof.Machine.execPcieLinkUp speed width flit sris s
  | .connectionLoss conn => Sys2Proof.Machine.execConnectionLoss conn s
  | .pfcPauseExpiry port prio => Sys2Proof.Machine.execPfcPauseExpiry port prio s
  | .testLogicReset => Sys2Proof.Machine.execTestLogicReset s

end Sys2Proof.Machine
end

