-- ==== Sys2Proof/Safety.lean ====
section
/-! DEFINITION. What the statements count as a sound state, and when a command finds the unit ready for it. -/

namespace Sys2Proof.Machine

/-! ## Sound states: addressed state in its one canonical form, queues within their bounds -/

/-- The device window's storage is canonical: then `DIRTY` is 1 exactly when some field's shadow differs from its value in force (R30). -/
def Dw.sound (d : Dw) : Bool :=
  d.regs.wf rwReset && d.cnt.wf zeroCell && d.w1c.wf zeroCell && d.inForce.wf stReset && d.shadow.wf stReset && d.latch.wf zeroCell
def Media.sound (m : Media) : Bool := m.pools.wf pool0 && m.bands.wf band0
def Ten.sound (t : Ten) : Bool :=
  t.tbl.wf tenant0 && (match t.stored with | none => true | some x => x.1.wf tenant0 && x.2.wf stReset)
def Srch.sound (x : Srch) : Bool := x.tcam.wf tent0 && x.copies.wf tent0 && x.abanks.wf abank0
/-- The guestbook's queue holds at most 1,024 records (R466), and at most 64 keys are tracked (R465). -/
def Gbk.sound (g : Gbk) : Bool := g.queue.length ≤ 1024 && g.tracked.length ≤ 64
/-- The state is sound. -/
def State.sound (s : State) : Bool :=
  s.dw.sound && (match s.stage.window with | none => true | some m => m.wf stReset) && s.pwr.kept.length ≤ 1024 && s.slots.wf slot0 && s.seqs.wf seq0 && s.ends.wf end0 && s.media.sound
    && s.io.ctrls.wf ctrl0 && s.ten.sound && s.host.ports.wf port0 && s.srch.sound && s.efl.words.wf fword0
    && s.gbk.sound && s.dma.chans.wf chan0 && s.lt.lanes.wf lane0

/-! ## When a command finds the unit ready -/

/-- The controller takes an admin command and intake stage 1 lets it pass: firmware runs and the controller is ready, the unit is Active and the controller in PS0, authentication is done where it is required, the privilege (`mgr`) is held, and FUSE is zero (R279, R287, R300, R439). -/
def State.readyFor (s : State) (mgr : Bool) (c : Cmd) : Bool :=
  s.accepts c && s.pwr.sleep = .active && (s.ctrl c.id.ctrl).ps = 0
    && (!(s.ctrl c.id.ctrl).authReq || (s.ctrl c.id.ctrl).authed) && (!mgr || s.isManager c.id.ctrl) && c.fuse = 0

/-- An I/O command of this host passes intake at once and finds nothing else at work: it passes stages 1 to 3, no command is in the pipeline, no lock is held, no namespace changes, nothing is paused, and its tenant has the tokens, the lock entry and the staging it needs (R24, R287, R293, R325, R334). -/
def State.freeFor (s : State) (op : Nat) (c : Cmd) : Bool :=
  let k := s.ctrl c.id.ctrl
  let f : Flight := { op := op, c := c, tenant := k.tenant, stage := .held 3, guarS := s.guar k.tenant 264 32768, guarL := s.guar k.tenant 268 63488 }
  s.accepts c && s.pwr.sleep = .active && k.ps = 0 && (!k.authReq || k.authed) && (match k.kind with | .slice _ => false | _ => true)
    && (s.stage2 op c).isNone && (s.stage3 op c).isNone && s.io.flights.isEmpty && s.io.locks.isEmpty && s.io.watch.isEmpty && !s.io.paused
    && s.media.sanitize.isNone && s.media.nss.all (fun x => x.job = 0)
    && s.canTakeTok 2 k.tenant 1 && (match bwCost op c with | some (b, n) => s.canTakeTok b k.tenant n | none => true)
    && s.lockFor f && s.stagingFor f (s.stagingNeed f)

/-- A key-search or scan command passes stages 1 to 5 at once and finds nothing else at work (R3, R287, R295, R324, R334, R345). -/
def State.vendorFree (s : State) (op : Nat) (c : Cmd) : Bool :=
  let k := s.ctrl c.id.ctrl
  s.accepts c && s.pwr.sleep = .active && k.ps = 0 && (!k.authReq || k.authed) && s.part.runs op && vendorFields op c
    && s.io.flights.isEmpty && s.io.locks.isEmpty && s.io.watch.isEmpty && !s.io.paused && s.media.sanitize.isNone && s.canTakeTok 2 k.tenant 1
    && (op ≠ 0x98 || (s.ns? (s.localNs c).nsid).any (fun x => s.attachedTo x c.id.ctrl && slba c + (dw12 c + 1) ≤ x.nsze && (s.pool x.pool).pstate = 2 && x.job ≠ 1 && x.job ≠ 2))

/-- An `EFL` write of this issuer reaches the register (R413, R421): a path through the window, a core while its domain is on. -/
def State.eflReaches (s : State) (i : Issuer) (off : Nat) : Bool :=
  match i with
  | .path p => s.reach p (dwEFL + off) = .ok
  | .core _ => s.ctlOn
  | .cluster _ => s.coreOn

/-- Dwords whose write only updates the register's own bits: no command of the table stands for it, and nothing beside the register follows (R42). -/
def plainDword (off : Nat) : Bool :=
  !isStOffset off && off ≠ dwSTAGE + 0xC && !(dwKEY 0 ≤ off && off < dwKEY 18) && !([0x80, 0x84, 0x8C, 0x90].any (fun o => off = dwPWR + o))
    && !([0, 4, 8, 0x10, 0x14, 0x18, 0x1C, 0x20, 0x24, 0x28, 0x2C, 0x40].any (fun o => off = dwEFL + o))
    && !(dwCH 0 ≤ off && off < dwCH 32 && (off - dwCH 0) % 0x40 = 0) && off ≠ dwDDR + 4 && off ≠ dwSLICE + 4 && off ≠ dwLTEST + 0x10
    && !(dwLANE 0 ≤ off && off < dwLANE 208 && ((off - dwLANE 0) % 0x40 = 0 || (off - dwLANE 0) % 0x40 = 0x30))
    && !(0x100000 ≤ off && off < 0x140000 && (off % 0x1000 = 4 || off % 0x1000 = 0x44 || off % 0x1000 = 0x400)) && off ≠ dwSRCH + 0x18
    && !(dwHOST ≤ off && off < dwGROUP 0 && (off % 0x1000 = 0 || (0x40 ≤ off % 0x1000 && off % 0x1000 ≤ 0x80) || (0x100 ≤ off % 0x1000 && off % 0x1000 < 0x300)))
    && !(dwGROUP 0 ≤ off && off < dwGROUP 4 && off % 0x1000 = 0) && off ≠ dwXPORT + 0x10

/-- Whether a write of `v` at `off` through `p` is the command `i`, which has a row of its own (R31, R32, R38, R42, R74, R137, R249, R271, R274, R338, R377, R400, R413, R460, R488, R511). -/
def rowOfWrite (p : Path) (off : Nat) (v : Word) (i : Instr) : Bool :=
  let b := v.toNat
  match i with
  | .commit q => q = p && off = dwSTAGE + 0xC && b % 4 = 1
  | .discard q => q = p && off = dwSTAGE + 0xC && b % 4 = 2
  | .pwrKeyMgr q d w => q = p && w = v && d < 18 && off = dwKEY d
  | .pwrSave q w => q = p && w = v && off = dwPWR + 0x8C
  | .cartStagger q w => q = p && w = v && off = dwPWR + 0x90
  | .flKey j w => j = .path p && w = v && off = dwEFL
  | .flCmd j w => j = .path p && w = v && off = dwEFL + 4
  | .flSequenceStep j r w => j = .path p && w = v && (r = 8 || (0x10 ≤ r && r < 0x30)) && off = dwEFL + r && off % 4 = 0
  | .ddrSave q => q = p && off = dwDDR + 4 && b.testBit 1
  | .wipe q => q = p && off = dwSLICE + 4 && b.testBit 16
  | .sliceReset q w => q = p && w = v && off = dwSLICE + 4 && !b.testBit 16
  | .ddrLoop q w => q = p && w = v && off = dwLTEST + 0x10
  | .tcamInj q w => q = p && w = v && off = dwSRCH + 0x18
  | .hostSave q => q = p && off = dwXPORT + 0x10 && b.testBit 0
  | .dmaAbort q c => q = p && c < 32 && off = dwCH c && b.testBit 1
  | .patternMode q l w => q = p && w = v && l < 208 && off = dwLANE l
  | .inj q l w => q = p && w = v && l < 208 && off = dwLANE l + 0x30
  | .pwrOff q n => q = p && n < 64 && off = dwCART n + 4 && b.testBit 0
  | .pwrOn q n => q = p && n < 64 && off = dwCART n + 4 && b % 4 = 2
  | .linkReset q n => q = p && n < 64 && off = dwCART n + 4 && b % 4 = 0 && b.testBit 3
  | .retrain q n => q = p && n < 64 && off = dwCART n + 4 && b % 16 = 4
  | .eventEnWrite q n w => q = p && w = v && n < 64 && off = dwCART n + 0x44
  | .eccInj q n w => q = p && w = v && n < 64 && off = dwCART n + 0x400
  | .mkaLoad q n => q = p && n < 64 && off = dwPORT n + 0x80 && b.testBit 0
  | .portMode q g w => q = p && w = BitVec.ofNat 3 b && g < 4 && off = dwGROUP g
  | _ => false

/-- Which command the newest completion answers, and how. -/
def State.lastAnswer (s : State) : Option (CmdId × Status) := s.io.posted.getLast?.map (fun e => (e.id, e.st))

end Sys2Proof.Machine
end

