-- ==== Sys2Proof/WellFormed.lean ====
section
/-! DEFINITION. Which operands a sender can give: instance numbers, tags and offsets within the ranges the spec's fields have. -/

namespace Sys2Proof

/-- The identity of a host command: 16-bit controller, queue and command identifiers. -/
def idWf (i : CmdId) : Bool := i.ctrl < 65536 && i.sq < 65536 && i.cid < 65536

/-- A host command: its identity, and a data buffer no longer than the length it names. -/
def cmdWf (c : Cmd) : Bool := idWf c.id && c.nsid < 2 ^ 32 && c.fuse < 4 && c.buf.length ≤ c.bufLen

/-- A `CMD` message within the widths of R96. -/
def cartWf (m : CartCmd) : Bool :=
  m.tag < 65536 && m.die < 256 && m.plane < 256 && m.block < 65536 && m.page < 65536 && m.mode < 256
    && m.cwMask < 16 && m.soft < 4 && m.readLevel < 256 && m.count < 65536 && m.arg < 2 ^ 32

/-- A command whose operands a sender can give. -/
def Instr.wf : Instr → Bool
  | .dwRegisterWrite _ off width _ => decide (off < 0x400000) && decide (1 ≤ width ∧ width ≤ 8)
  | .dwClearingRead _ off width => decide (off < 0x400000) && decide (1 ≤ width ∧ width ≤ 8)
  | .deviceWindowAccess c => cmdWf c
  | .shadowWrite _ off _ => decide (off < 0x400000)
  | .commit _ => true
  | .discard _ => true
  | .checkWindowOpen => true
  | .epochBoundary => true
  | .clockLoss => true
  | .porstAssert => true
  | .coldStart _ _ => true
  | .dramTraining _ _ => true
  | .firmwareStart => true
  | .census pool _ => decide (pool < 4)
  | .startedPoint => true
  | .perst _ => true
  | .refclkLoss => true
  | .tempSample _ => true
  | .tapInstruction _ => true
  | .presenceLow n => decide (n < 64)
  | .cartInserted x => decide (x.slot < 64)
  | .pwrenRise => true
  | .cartRemoved n => decide (n < 64)
  | .cartAlert n => decide (n < 64)
  | .getHealthTimeout n => decide (n < 64)
  | .cartPowerTimeout n => decide (n < 64)
  | .trainingTimeout n => decide (n < 64)
  | .farEndSignal n => decide (n < 64)
  | .linkUp n _ => decide (n < 64)
  | .identifyTimeout n => decide (n < 64)
  | .descriptorReceived n _ => decide (n < 64)
  | .signatureReceived n _ _ => decide (n < 64)
  | .authTimeout n => decide (n < 64)
  | .seqUpdateTimeout n => decide (n < 64)
  | .pwrOff _ n => decide (n < 64)
  | .pwrOn _ n => decide (n < 64)
  | .linkReset _ n => decide (n < 64)
  | .retrain _ n => decide (n < 64)
  | .fastRetrain n _ => decide (n < 64)
  | .retrainDone n _ _ _ => decide (n < 64)
  | .lanternFrame => true
  | .eventEnWrite _ n _ => decide (n < 64)
  | .lifePoll n _ => decide (n < 64)
  | .migrateDone n => decide (n < 64)
  | .controlBlock n _ _ => decide (n < 64)
  | .ack n _ _ => decide (n < 64)
  | .nak n _ _ => decide (n < 64)
  | .ackTimer n _ => decide (n < 64)
  | .replayTimeout n _ => decide (n < 64)
  | .linkMgmt n _ _ _ => decide (n < 64)
  | .dataFrame n _ tag _ _ _ _ _ => decide (n < 64) && decide (tag < 4096)
  | .xferRdy n tag _ _ => decide (n < 64) && decide (tag < 4096)
  | .codewordArrival n tag _ _ => decide (n < 64) && decide (tag < 4096)
  | .success n tag => decide (n < 64) && decide (tag < 4096)
  | .dataReceived n tag => decide (n < 64) && decide (tag < 4096)
  | .programReplaced n tag die _ _ => decide (n < 64) && decide (tag < 4096) && decide (die < 256)
  | .programFail n tag _ => decide (n < 64) && decide (tag < 4096)
  | .notErased n tag => decide (n < 64) && decide (tag < 4096)
  | .retiredBlock n tag => decide (n < 64) && decide (tag < 4096)
  | .eraseFail n tag => decide (n < 64) && decide (tag < 4096)
  | .dieFail n tag => decide (n < 64) && decide (tag < 4096)
  | .cmdRefused n tag _ => decide (n < 64) && decide (tag < 4096)
  | .fwInvalid n tag => decide (n < 64) && decide (tag < 4096)
  | .fwNotLoaded n tag => decide (n < 64) && decide (tag < 4096)
  | .shutDown n tag => decide (n < 64) && decide (tag < 4096)
  | .cartIdentify n m => decide (n < 64) && cartWf m
  | .getCert n m => decide (n < 64) && cartWf m
  | .challenge n m _ _ => decide (n < 64) && cartWf m
  | .sync n m => decide (n < 64) && cartWf m
  | .cartRead n r => decide (n < 64) && cartWf r.m
  | .cartProgram n m _ => decide (n < 64) && cartWf m
  | .dieProgramDone n tag _ _ => decide (n < 64) && decide (tag < 4096)
  | .erase n m => decide (n < 64) && cartWf m
  | .bufferRead n m => decide (n < 64) && cartWf m
  | .bufferRelease n m => decide (n < 64) && cartWf m
  | .wearRead n m => decide (n < 64) && cartWf m
  | .lifeRead n m => decide (n < 64) && cartWf m
  | .retireBlock n m => decide (n < 64) && cartWf m
  | .fwDownload n m _ => decide (n < 64) && cartWf m
  | .fwActivate n m _ => decide (n < 64) && cartWf m
  | .getHealth n m => decide (n < 64) && cartWf m
  | .cartShutdown n m => decide (n < 64) && cartWf m
  | .eccInj _ n _ => decide (n < 64)
  | .patrol pool _ _ => decide (pool < 4)
  | .slcUnitTimeout pool => decide (pool < 4)
  | .journalUnitTimeout pool n => decide (pool < 4) && decide (n < 64)
  | .frontierFill nsx _ => decide (nsx < 4096)
  | .fold nsx _ => decide (nsx < 4096)
  | .foldSwitch _ => true
  | .logGc pool _ => decide (pool < 4)
  | .reserveErase n die _ => decide (n < 64) && decide (die < 256)
  | .wearCheck pool => decide (pool < 4)
  | .lifeForecast pool => decide (pool < 4)
  | .read c => cmdWf c
  | .write c => cmdWf c
  | .stagingReserved id => idWf id
  | .writeDataArrival id _ _ _ _ _ => idWf id
  | .rangeLockGrant id => idWf id
  | .barrierPass id => idWf id
  | .writeComplete id => idWf id
  | .tSlowExpiry n tag => decide (n < 64) && decide (tag < 4096)
  | .slowProbe n => decide (n < 64)
  | .tFailExpiry n => decide (n < 64)
  | .slowRatioCheck n => decide (n < 64)
  | .rebuildRow pool _ _ => decide (pool < 4)
  | .spareRetry pool => decide (pool < 4)
  | .portMode _ g _ => decide (g < 4)
  | .frameReceive port f => decide (port < 64) && decide (f.len ≤ 65535)
  | .pfcFrame port prio _ => decide (port < 64) && decide (prio < 8)
  | .pfcPauseRefresh port prio => decide (port < 64) && decide (prio < 8)
  | .pfcStorm port prio => decide (port < 64) && decide (prio < 8)
  | .pfcStormClear port prio => decide (port < 64) && decide (prio < 8)
  | .dcqcnRateIncrease _ => true
  | .portLinkUp port => decide (port < 64)
  | .portLinkDown port _ => decide (port < 64)
  | .icreq _ port _ _ _ _ _ _ _ _ => decide (port < 64)
  | .tcpTimeout _ => true
  | .keepAliveTimeout _ => true
  | .rdmaRetryExhausted _ => true
  | .addressEntryWrite _ port e dword _ => decide (port < 64) && decide (e < 16) && decide (dword < 8)
  | .hostSave _ => true
  | .mkaLoad _ port => decide (port < 64)
  | .sakDistribution port => decide (port < 64)
  | .pnExhausted port _ _ _ => decide (port < 64)
  | .mkaPeerTimeout port => decide (port < 64)
  | .pcieLink => true
  | .flr fn => decide (fn < 256)
  | .busMasterClear => true
  | .pasidTlp _ => true
  | .doorbellWrite _ _ _ => true
  | .controllerReset _ => true
  | .ccEnable _ => true
  | .shutdownNotification _ _ => true
  | .drainComplete _ => true
  | .flush c => cmdWf c
  | .compare c => cmdWf c
  | .writeZeroes c => cmdWf c
  | .datasetManagement c => cmdWf c
  | .verify c => cmdWf c
  | .ioManagementReceive c => cmdWf c
  | .ioManagementSend c => cmdWf c
  | .deleteIoSubmissionQueue c => cmdWf c
  | .createIoSubmissionQueue c => cmdWf c
  | .deleteIoCompletionQueue c => cmdWf c
  | .createIoCompletionQueue c => cmdWf c
  | .getLogPage c => cmdWf c
  | .cartridgeHealth c => cmdWf c
  | .lostLbaList c => cmdWf c
  | .rebuildProgress c => cmdWf c
  | .guestbookLog c => cmdWf c
  | .throttleAndDisturbance c => cmdWf c
  | .searchStatistics c => cmdWf c
  | .startUpReport c => cmdWf c
  | .identify c => cmdWf c
  | .abort c => cmdWf c
  | .setFeatures c => cmdWf c
  | .getFeatures c => cmdWf c
  | .tenantQos c => cmdWf c
  | .roomKey c => cmdWf c
  | .firmwareConfirm c => cmdWf c
  | .epochLength c => cmdWf c
  | .rebuildShare c => cmdWf c
  | .memberTimers c => cmdWf c
  | .writePathPolicy c => cmdWf c
  | .cartridgeAdmissionPolicy c _ => cmdWf c
  | .timestamp c => cmdWf c
  | .powerManagement c => cmdWf c
  | .asynchronousEventRequest c => cmdWf c
  | .namespaceCreate c => cmdWf c
  | .namespaceDelete c => cmdWf c
  | .namespaceAttachment c => cmdWf c
  | .keepAlive c => cmdWf c
  | .propertySet c => cmdWf c
  | .propertyGet c => cmdWf c
  | .connect c _ => cmdWf c
  | .authenticationSend c => cmdWf c
  | .authenticationReceive c _ => cmdWf c
  | .disconnect c => cmdWf c
  | .formatNvm c => cmdWf c
  | .cryptoErase c => cmdWf c
  | .blockErase c => cmdWf c
  | .overwrite c => cmdWf c
  | .tenantCreate c => cmdWf c
  | .tenantDelete c => cmdWf c
  | .tenantReset c => cmdWf c
  | .resources c => cmdWf c
  | .hosts c => cmdWf c
  | .bindVf c => cmdWf c
  | .nsAssign c => cmdWf c
  | .nsRelease c => cmdWf c
  | .global c => cmdWf c
  | .sliceReset _ _ => true
  | .wipe _ => true
  | .drain c => cmdWf c
  | .undrain c => cmdWf c
  | .seqUpdate c => cmdWf c
  | .powerOff c => cmdWf c
  | .powerOn c => cmdWf c
  | .release c => cmdWf c
  | .poolCreate c => cmdWf c
  | .poolAdd c => cmdWf c
  | .poolRemove c => cmdWf c
  | .poolSet c => cmdWf c
  | .poolDelete c => cmdWf c
  | .poolReport c => cmdWf c
  | .keyLookupShort c => cmdWf c
  | .keyLookupLong c => cmdWf c
  | .keyLookupBatch c => cmdWf c
  | .cursorFreed _ => true
  | .keyNext c => cmdWf c
  | .cursorExpiry _ => true
  | .keyInsert c => cmdWf c
  | .keyDelete c => cmdWf c
  | .tcamScrub bank => decide (bank < 16)
  | .tcamInj _ _ => true
  | .patternImageLoad c => cmdWf c
  | .patternImageLoadFinal c _ => cmdWf c
  | .patternImageUnload c => cmdWf c
  | .scanStart c => cmdWf c
  | .scanChunk lane _ _ _ _ => decide (lane < 64)
  | .scanRelease lane => decide (lane < 64)
  | .scanFetch c => cmdWf c
  | .scanFetchWaitExpiry id => idWf id
  | .scanCancel c => cmdWf c
  | .scanExpiry _ => true
  | .dramRetrain _ _ _ => true
  | .ddrSave _ => true
  | .dramRecalibration ch _ => decide (ch < 8)
  | .dramRefresh ch _ _ _ _ _ => decide (ch < 8)
  | .dramActivation ch _ _ _ _ _ => decide (ch < 8)
  | .disturbanceWindow => true
  | .dramPatrolScrub ch _ => decide (ch < 8)
  | .flKey _ _ => true
  | .flCmd _ _ => true
  | .flSequenceStep _ off _ => decide (off < 0x400000)
  | .flSequenceLate => true
  | .program _ _ => true
  | .eraseSector _ _ => true
  | .eraseBank _ _ => true
  | .readMarkers _ _ => true
  | .clearEraseFlag _ _ => true
  | .flashOpDone _ => true
  | .flashRead _ _ _ => true
  | .firmwareImageDownload c => cmdWf c
  | .replace c => cmdWf c
  | .replaceActivateNext c => cmdWf c
  | .activateNext c => cmdWf c
  | .replaceActivateNow c => cmdWf c
  | .activationPause => true
  | .pauseEnd => true
  | .rollingSeqUpdate n => decide (n < 64)
  | .entryRequest => true
  | .entryE1 => true
  | .entryE2 => true
  | .entryE3 => true
  | .wakePin pin _ => decide (pin < 4)
  | .linkWake g => decide (g < 4)
  | .pcieWake => true
  | .wakeTimer => true
  | .cartridgeWake n _ => decide (n < 64)
  | .keyWake _ _ => true
  | .pwrExit => true
  | .pwrKeyMgr _ d _ => decide (d < 18)
  | .pwrSave _ _ => true
  | .cartStagger _ _ => true
  | .pmbusAlert _ => true
  | .guestbookRead c => cmdWf c
  | .nonce c => cmdWf c
  | .clear c _ => cmdWf c
  | .ownerSet c _ _ => cmdWf c
  | .nonceExpiry => true
  | .guestbookRecordWrite => true
  | .coalesceWindow _ _ => true
  | .dmaStart _ ch => decide (ch < 32)
  | .dmaAbort _ ch => decide (ch < 32)
  | .dmaResume _ ch => decide (ch < 32)
  | .descriptorFetch ch _ => decide (ch < 32)
  | .dmaBurst _ => true
  | .dmaRetry ch _ => decide (ch < 32)
  | .patternMode _ lane _ => decide (lane < 208)
  | .inj _ lane _ => decide (lane < 208)
  | .ddrLoop _ _ => true
  | .readNvmeMiDataStructure port _ _ => decide (port < 64)
  | .nvmSubsystemHealthStatusPoll port _ => decide (port < 64)
  | .controllerHealthStatusPoll port _ => decide (port < 64)
  | .configurationGet port _ => decide (port < 64)
  | .configurationSet port _ _ => decide (port < 64)
  | .nvmeAdminCommandTunnel port _ c => decide (port < 64) && cmdWf c
  | .basicManagementCommand _ => true
  | .dieEraseDone n tag _ => decide (n < 64) && decide (tag < 4096)
  | .powerLoss _ => true
  | .refclkReturn => true
  | .checkerLocked lane => decide (lane < 208)
  | .checkerLostLock lane => decide (lane < 208)
  | .pcieLinkUp _ width _ _ => decide (1 ≤ width ∧ width ≤ 8)
  | .connectionLoss _ => true
  | .pfcPauseExpiry port prio => decide (port < 64) && decide (prio < 8)
  | .testLogicReset => true

end Sys2Proof
end

