-- ==== Sys2Proof/Certificates/Slice0/Obligations.lean ====
section
/-! DEFINITION. The statements for the provers, from the numbered rules of the spec. -/

open Sys2Proof Sys2Proof.Machine

/-- For every command c and state s, a step of s with c at the front of its queue is exec of c on s with the queue's rest. An empty queue leaves the state as it is: that clause is the model's choice (log entry 3). (derived: spec/08_command_intake_ordering.md) -/
def Obligations.StepRunsTheFrontCommand : Prop :=
  (∀ (c : Instr) (rest : List Instr) (s : State), s.pending = c :: rest → step s = exec c { s with pending := rest }) ∧
  (∀ s : State, s.pending = [] → step s = .next s)

/-- For every state s, if a step answers a next state t, then t is the same part as s (R1: the parts differ in what is fused, and no command changes it), and t's queue is s's queue without its front command: no command of the table adds to the queue or drops from it. (derived: R1, spec/08_command_intake_ordering.md) -/
def Obligations.StepKeepsPartAndTakesOneCommand : Prop :=
  ∀ s t : State, step s = .next t → t.part = s.part ∧ t.pending = s.pending.tail

/-- For every well-formed command and every state, exec answers a next state, of the same part and with the same queue: no command is refused by the model, and a fault is only for the number of an instance that no part of the family has. A command that the spec says is refused, ignored or without function is answered or passed over so, and the machine goes on. (derived: R8, spec/08_command_intake_ordering.md) -/
def Obligations.EveryCommandASenderCanGiveRuns : Prop :=
  ∀ (i : Instr) (s : State), i.wf = true → ∃ t, exec i s = .next t ∧ t.part = s.part ∧ t.pending = s.pending

/-- For every sound state s, if a step answers a next state t, then t is sound. Sound: the device window's fields in force and shadow, its registers, counters and latches, the slots, sequencers and link ends, the pools and bands, the controllers, tenants and ports, the flash words, the TCAM, its copies and the automata banks, the DMA channels and the SerDes lanes are held in their one canonical form (so that DIRTY of R30, which compares the two maps, is 1 exactly when some field differs); the queue holds at most 1,024 records (R466); at most 64 keys are tracked (R465). (derived: R30, R465, R466) -/
def Obligations.StepKeepsStateSound : Prop :=
  ∀ s t : State, s.sound = true → step s = .next t → t.sound = true

/-- The state in reset has every addressed map in its canonical form and the guestbook's queue and tracked keys within their bounds. (derived: R30, R465, R466) -/
def Obligations.ResetStateIsSound : Prop :=
  State.reset.sound = true

/-- In every sound state DIRTY is set exactly when there is an ST field whose shadow differs from its value in force (the second sentence of R30). (derived: R30) -/
def Obligations.DirtyShowsADifferingField : Prop :=
  ∀ s : State, s.sound = true → (s.dirty = true ↔ ∃ k, s.sh k ≠ s.inf k)

/-- Where the access reaches its register: SHADOW_WRITE of an ST field sets its shadow to the written bits and changes no other shadow, no value in force and nothing else. COMMIT with no set armed arms one and loads COMMIT_EPOCH with the next boundary, or the one after it when the check window is open; a further COMMIT before the window changes nothing; a COMMIT in the open window of the armed set records one later commit. DISCARD with no command of R38 waiting copies every value in force into its shadow and clears ARMED, unless the window is open for the armed set, whose check then still takes place. CHECK_WINDOW_OPEN takes the shadow as it stands. (derived: R20, R30, R31, R32, R35, R42) -/
def Obligations.StagingCommandsCompleteAndKeepTheRest : Prop :=
  (∀ (p : Path) (off : Nat) (v : Word) (s : State), s.reach p off = .ok → isStOffset off = true →
    ∃ t, exec (.shadowWrite p off v) s = .next t ∧ t.sh off = v.toNat &&& stMask off ∧
      (∀ k, k ≠ off → t.sh k = s.sh k) ∧ t = { s with dw := { s.dw with shadow := t.dw.shadow } }) ∧
  (∀ (p : Path) (s : State), s.reach p (dwSTAGE + 0x0C) = .ok → s.stage.armed = false →
    exec (.commit p) s = .next { s with stage := { s.stage with
      armed := true, commitEpoch := if s.stage.window = none then s.stage.epoch + 1 else s.stage.epoch + 2 } }) ∧
  (∀ (p : Path) (s : State), s.reach p (dwSTAGE + 0x0C) = .ok → s.stage.armed = true → s.stage.window = none →
    exec (.commit p) s = .next s) ∧
  (∀ (p : Path) (s : State), s.reach p (dwSTAGE + 0x0C) = .ok → s.stage.armed = true → s.stage.window ≠ none →
    s.stage.commitEpoch = s.stage.epoch + 1 →
    exec (.commit p) s = .next { s with stage := { s.stage with later := true } }) ∧
  (∀ (p : Path) (s : State), s.reach p (dwSTAGE + 0x0C) = .ok → s.stage.waiting = [] →
    ∃ t, exec (.discard p) s = .next t ∧ t.dw.shadow = s.dw.inForce ∧ t.dirty = false ∧
      (s.stage.window = none → t.stage.armed = false) ∧
      (s.stage.window ≠ none → s.stage.commitEpoch = s.stage.epoch + 1 → t.stage.armed = s.stage.armed) ∧
      t = { s with dw := { s.dw with shadow := t.dw.shadow }, stage := t.stage }) ∧
  (∀ s : State, s.coreOn = true →
    ∃ t, exec .checkWindowOpen s = .next t ∧ t.stage.window = some s.dw.shadow ∧ t = { s with stage := t.stage })

/-- While the datapath is on, EPOCH_BOUNDARY counts the boundary, checks the armed set at the new count, and then does what waits for a boundary; with the datapath off nothing happens. The boundary check on its own: with an armed set due and no command waiting, a set that passes every rule (and changes no owner of a bank or lane) is in force after it and APPLIED is set; a set that fails leaves the set in force as it was, sets REJECT and RULE to the lowest failing rule, and REJECT_ADDR to the implicated field's location. (derived: R29, R32, R33, R34, R37) -/
def Obligations.EpochBoundaryCountsAndChecksTheArmedSet : Prop :=
  (∀ s : State, s.coreOn = true →
    exec .epochBoundary s = .next ({ s with stage := { s.stage with epoch := s.stage.epoch + 1 } } : State).boundaryCheck.afterCheck) ∧
  (∀ s : State, s.coreOn = false → exec .epochBoundary s = .next s) ∧
  (∀ s : State, s.stage.armed = true → s.stage.commitEpoch ≤ s.stage.epoch → s.stage.waiting = [] →
    s.failing (s.stage.window.getD s.dw.shadow) s.checkIn = none →
    (∀ b < 16, stGet (s.stage.window.getD s.dw.shadow) (stBankOwner b) = s.inf (stBankOwner b)) →
    (∀ l < 64, stGet (s.stage.window.getD s.dw.shadow) (stLaneOwner l) = s.inf (stLaneOwner l)) →
    s.boundaryCheck.dw.inForce = s.stage.window.getD s.dw.shadow ∧
      (s.boundaryCheck.w1c (dwSTAGE + 0x10)).testBit 3 = true ∧ s.boundaryCheck.stage.armed = s.stage.later) ∧
  (∀ (s : State) (r : Nat), s.stage.armed = true → s.stage.commitEpoch ≤ s.stage.epoch → s.stage.waiting = [] →
    s.failing (s.stage.window.getD s.dw.shadow) s.checkIn = some r →
    s.boundaryCheck.dw.inForce = s.dw.inForce ∧ s.boundaryCheck.stage.rule = r ∧
      (s.boundaryCheck.w1c (dwSTAGE + 0x10)).testBit 2 = true ∧
      s.boundaryCheck.stage.rejectAddr = rejectLoc (s.implicated (s.stage.window.getD s.dw.shadow) s.checkIn r))

/-- A DW_REGISTER_WRITE answers a next state for every offset, width and value. Where it reaches its register: an aligned dword write of a dword without a command of its own takes exactly the writable bits, clears the W1C bits written 1, and changes no other register, no field in force and no shadow; out-of-range values and channels of another tenant are left alone; of a dword that is another row's command it is that command; a write of another width or alignment is discarded. An aligned dword read with no latch held returns the dword and clears an RC field; a silent location reads zero; a denied one too, with code 0x0A10. A valid D0h from a Manager controller completes with success and NDW in Dword 0, its read with the dwords in ascending order; one whose fields fail is Invalid Field. (derived: R6, R16, R17, R20, R42, R43, R44) -/
def Obligations.WindowAccessesCompleteAtTheirRegister : Prop :=
  (∀ (p : Path) (off width : Nat) (v : Word) (s : State), off < 0x400000 → ∃ t, exec (.dwRegisterWrite p off width v) s = .next t) ∧
  (∀ (p : Path) (off : Nat) (v : Word) (s : State), s.reach p off = .ok → off % 4 = 0 → plainDword off = true → s.rwIgnored off v.toNat = false →
    ∃ t, exec (.dwRegisterWrite p off 4 v) s = .next t ∧ (rwMask off ≠ 0 → t.reg off = v.toNat &&& rwMask off) ∧ t.w1c off = s.w1c off ^^^ (s.w1c off &&& v.toNat) ∧
      (∀ o, o ≠ off → t.reg o = s.reg o ∧ t.w1c o = s.w1c o) ∧ t.dw.inForce = s.dw.inForce ∧ t.dw.shadow = s.dw.shadow ∧ t = { s with dw := t.dw }) ∧
  (∀ (p : Path) (off : Nat) (v : Word) (s : State), s.reach p off = .ok → off % 4 = 0 → plainDword off = true → s.rwIgnored off v.toNat = true →
    ∃ t, exec (.dwRegisterWrite p off 4 v) s = .next t ∧ (∀ o, t.reg o = s.reg o) ∧ t = { s with dw := { s.dw with w1c := t.dw.w1c } }) ∧
  (∀ (p : Path) (off : Nat) (v : Word) (i : Instr) (s : State), rowOfWrite p off v i = true → exec (.dwRegisterWrite p off 4 v) s = exec i s) ∧
  (∀ (p : Path) (off width : Nat) (v : Word) (s : State), s.reach p (4 * (off / 4)) = .ok → (off % 4 ≠ 0 ∨ width ≠ 4) →
    exec (.dwRegisterWrite p off width v) s = .next s) ∧
  (∀ (p : Path) (off : Nat) (s : State), s.reach p off = .ok → off % 4 = 0 → s.dw.latch.get zeroCell (latchKey p off) = 0 →
    s.outsideCount off = false → off < dwLTEST ∨ dwLANE 208 ≤ off →
    ∃ t, exec (.dwClearingRead p off 4) s = .next t ∧ t.dw.rdata = toLe 4 (s.dword off) ∧
      (isRc off = true → t.dw.cnt.get zeroCell off = 0) ∧ t = { s with dw := t.dw }) ∧
  (∀ (p : Path) (off width : Nat) (s : State), s.reach p (4 * (off / 4)) = .silent ∨ s.reach p (4 * (off / 4)) = .denied → off % 4 + width ≤ 4 →
    ∃ t, exec (.dwClearingRead p off width) s = .next t ∧ t.dw.rdata = List.replicate width 0 ∧
      (s.reach p (4 * (off / 4)) = .silent → t = { s with dw := { s.dw with rdata := t.dw.rdata } })) ∧
  (∀ (c : Cmd) (s : State), s.accepts c = true → ((s.ctrl c.id.ctrl).authReq = true → (s.ctrl c.id.ctrl).authed = true) → s.isManager c.id.ctrl = true → c.fuse = 0 →
    winFieldsOk c = true →
    ∃ t e, exec (.deviceWindowAccess c) s = .next t ∧ t.io.posted.getLast? = some e ∧ e.id = c.id ∧ e.st = .success ∧
      e.dw0 = dw11 c % 2 ^ 11 ∧
      ((dw11 c).testBit 16 = false → e.data = ((s.cmdArrives c).readDwords (if c.viaMI then .mi else .d0h) (dw10 c % 2 ^ 22) (dw11 c % 2 ^ 11)).1)) ∧
  (∀ (c : Cmd) (s : State), s.accepts c = true → ((s.ctrl c.id.ctrl).authReq = true → (s.ctrl c.id.ctrl).authed = true) → s.isManager c.id.ctrl = true → c.fuse = 0 →
    winFieldsOk c = false →
    ∃ t, exec (.deviceWindowAccess c) s = .next t ∧ t.lastAnswer = some (c.id, .invalidField) ∧ t = { s.cmdArrives c with io := t.io })

/-- For the issuer that owns the sequence (or opens it), where the write reaches EFL: the first key opens step 1 and records the owner, the second key reaches step 2, a defined opcode step 3, FL_ADDR of PROGRAM step 4, and FL_DATAn the next step with its data; each changes only the flash controller's state. A late sequence locks again with the sequence error raised. A write of another issuer raises the owner error, a key while an operation runs the busy error, and any other write out of its step locks again with the sequence error; a write that does not reach EFL and meets no protection changes nothing. (derived: R410, R411, R412, R413) -/
def Obligations.FlashSequenceAdvancesStepByStep : Prop :=
  (∀ (i : Issuer) (s : State), s.eflReaches i 0x00 = true → s.efl.seqStep = 0 → s.efl.busy = none →
    ∃ t, exec (.flKey i 0x4B1D) s = .next t ∧ t.efl.seqStep = 1 ∧ t.efl.owner = issCode i ∧ t = { s with efl := t.efl }) ∧
  (∀ (i : Issuer) (s : State), s.eflReaches i 0x00 = true → s.efl.seqStep = 1 → s.efl.owner = issCode i → s.efl.busy = none →
    ∃ t, exec (.flKey i 0xB4E2) s = .next t ∧ t.efl.seqStep = 2 ∧ t.efl.owner = issCode i ∧ t = { s with efl := t.efl }) ∧
  (∀ (i : Issuer) (v : Word) (s : State), s.eflReaches i 0x00 = true →
    (s.efl.seqStep ≠ 0 → s.efl.owner ≠ issCode i → exec (.flKey i v) s = .next ((s.fetching i).flErr flOWNER)) ∧
    (s.efl.seqStep = 0 ∨ s.efl.owner = issCode i → s.efl.busy ≠ none → exec (.flKey i v) s = .next ((s.fetching i).flErr flBUSY)) ∧
    (s.efl.seqStep = 0 ∨ s.efl.owner = issCode i → s.efl.busy = none → ¬(s.efl.seqStep = 0 ∧ v = 0x4B1D#32) → ¬(s.efl.seqStep = 1 ∧ v = 0xB4E2#32) → exec (.flKey i v) s = .next (s.fetching i).seqErr)) ∧
  (∀ (i : Issuer) (v : Word) (s : State), s.eflReaches i 0x04 = true → s.efl.seqStep = 2 → s.efl.owner = issCode i →
    1 ≤ v.toNat % 256 → v.toNat % 256 ≤ 5 →
    ∃ t, exec (.flCmd i v) s = .next t ∧ t.efl.seqStep = 3 ∧ t.efl.op = v.toNat % 256 ∧ t = { s with efl := t.efl }) ∧
  (∀ (i : Issuer) (v : Word) (s : State), s.eflReaches i 0x04 = true →
    (s.efl.seqStep ≠ 0 → s.efl.owner ≠ issCode i → exec (.flCmd i v) s = .next ((s.fetching i).flErr flOWNER)) ∧
    (s.efl.seqStep = 0 ∨ s.efl.owner = issCode i → s.efl.seqStep ≠ 2 ∨ v.toNat % 256 = 0 ∨ 5 < v.toNat % 256 → exec (.flCmd i v) s = .next (s.fetching i).seqErr)) ∧
  (∀ (i : Issuer) (v : Word) (s : State), s.eflReaches i 0x08 = true → s.efl.seqStep = 3 → s.efl.owner = issCode i → s.efl.op = 1 →
    ∃ t, exec (.flSequenceStep i 0x08 v) s = .next t ∧ t.efl.seqStep = 4 ∧ t.efl.addr = v.toNat % 2 ^ 25 ∧ t = { s with efl := t.efl }) ∧
  (∀ (i : Issuer) (n : Nat) (v : Word) (s : State), n < 7 → s.eflReaches i (0x10 + 4 * n) = true → s.efl.seqStep = 4 + n → s.efl.owner = issCode i →
    ∃ t, exec (.flSequenceStep i (0x10 + 4 * n) v) s = .next t ∧ t.efl.seqStep = 5 + n ∧ t.efl.data = s.efl.data ++ [v.toNat] ∧
      t = { s with efl := t.efl }) ∧
  (∀ (i : Issuer) (v : Word) (s : State), s.eflReaches i 0x08 = true →
    (s.efl.seqStep ≠ 0 → s.efl.owner ≠ issCode i → exec (.flSequenceStep i 0x08 v) s = .next ((s.fetching i).flErr flOWNER)) ∧
    (s.efl.seqStep = 0 ∨ s.efl.owner = issCode i → s.efl.seqStep ≠ 3 → exec (.flSequenceStep i 0x08 v) s = .next (s.fetching i).seqErr) ∧
    (s.efl.owner = issCode i → s.efl.seqStep = 3 → s.efl.op ≠ 1 → exec (.flSequenceStep i 0x08 v) s = .next ((s.fetching i).flStart s.efl.op (v.toNat % 2 ^ 25) 0 i))) ∧
  (∀ (i : Issuer) (n : Nat) (v : Word) (s : State), n < 8 → s.eflReaches i (0x10 + 4 * n) = true →
    (s.efl.seqStep ≠ 0 → s.efl.owner ≠ issCode i → exec (.flSequenceStep i (0x10 + 4 * n) v) s = .next ((s.fetching i).flErr flOWNER)) ∧
    (s.efl.seqStep = 0 ∨ s.efl.owner = issCode i → s.efl.seqStep ≠ 4 + n → exec (.flSequenceStep i (0x10 + 4 * n) v) s = .next (s.fetching i).seqErr) ∧
    (s.efl.owner = issCode i → s.efl.seqStep = 11 → n = 7 → exec (.flSequenceStep i (0x10 + 4 * n) v) s =
      .next ((s.fetching i).flStart 1 s.efl.addr (BitVec.ofNat 256 ((s.efl.data ++ [v.toNat]).foldr (fun x a => x + 2 ^ 32 * a) 0)) i))) ∧
  (∀ (i : Issuer) (off : Nat) (v : Word) (s : State), off ≠ 8 → off < 0x10 ∨ 0x30 ≤ off ∨ off % 4 ≠ 0 → exec (.flSequenceStep i off v) s = .next s) ∧
  (∀ s : State, s.efl.seqStep ≠ 0 →
    ∃ t, exec .flSequenceLate s = .next t ∧ t.efl.seqStep = 0 ∧ t.efl.owner = 0 ∧ (t.w1c (dwEFL + 0x30)).testBit flSEQ = true ∧
      t = { s with efl := t.efl, dw := t.dw }) ∧
  (∀ s : State, s.efl.seqStep = 0 → exec .flSequenceLate s = .next s) ∧
  (∀ (i : Issuer) (off : Nat) (v : Word) (x : Instr) (s : State), (off, x) ∈ [(0x00, Instr.flKey i v), (0x04, .flCmd i v), (0x08, .flSequenceStep i 0x08 v), (0x2C, .program i v), (0x08, .eraseSector i v), (0x08, .eraseBank i v),
      (0x08, .readMarkers i v), (0x08, .clearEraseFlag i v)] → s.eflReaches i off = false → (∀ p, i = .path p → s.reach p (dwEFL + off) ≠ .denied) → exec x s = .next s)

/-- The last write of each keyed sequence, by its owner: when the checks of R414 pass, the engine is busy with that operation, address and owner, the lock is back, and only the flash controller's state changes; when one fails, no operation starts, the lock is back and its error bit is raised. The same write by another issuer or in another step of the sequence starts nothing and raises the owner or the sequence error. (derived: R411, R412, R413, R414, R416, R417) -/
def Obligations.FlashOperationsStartOrAreRefusedByTheFirstCheck : Prop :=
  (∀ (i : Issuer) (v : Word) (s : State), s.eflReaches i 0x2C = true → s.efl.seqStep = 11 → s.efl.owner = issCode i →
    (s.fetching i).flCheck 1 s.efl.addr i = none →
    ∃ t o, exec (.program i v) s = .next t ∧ t.efl.busy = some o ∧ o.op = 1 ∧ o.addr = s.efl.addr ∧ o.owner = issCode i ∧
      t.efl.seqStep = 0 ∧ t = { s with efl := t.efl }) ∧
  (∀ (i : Issuer) (v : Word) (s : State) (bit : Nat), s.eflReaches i 0x2C = true → s.efl.seqStep = 11 → s.efl.owner = issCode i →
    (s.fetching i).flCheck 1 s.efl.addr i = some bit →
    ∃ t, exec (.program i v) s = .next t ∧ t.efl.busy = s.efl.busy ∧ t.efl.seqStep = 0 ∧ t.efl.words = s.efl.words ∧
      (t.w1c (dwEFL + 0x30)).testBit bit = true) ∧
  (∀ (i : Issuer) (v : Word) (s : State), s.eflReaches i 0x2C = true →
    (s.efl.seqStep ≠ 0 → s.efl.owner ≠ issCode i → exec (.program i v) s = .next ((s.fetching i).flErr flOWNER)) ∧
    (s.efl.seqStep = 0 ∨ s.efl.owner = issCode i → s.efl.seqStep ≠ 11 → exec (.program i v) s = .next (s.fetching i).seqErr)) ∧
  (∀ (i : Issuer) (v : Word) (s : State), s.eflReaches i 0x08 = true → s.efl.seqStep = 3 → s.efl.owner = issCode i → s.efl.op = 2 → (s.fetching i).flCheck 2 (v.toNat % 2 ^ 25) i = none →
    ∃ t o, exec (.eraseSector i v) s = .next t ∧ t.efl.busy = some o ∧ o.op = 2 ∧ o.addr = v.toNat % 2 ^ 25 ∧ t.efl.seqStep = 0 ∧
      flSector (v.toNat % 2 ^ 25) ∈ t.efl.eflags ∧ t = { s with efl := t.efl }) ∧
  (∀ (i : Issuer) (v : Word) (s : State), s.eflReaches i 0x08 = true → s.efl.seqStep = 3 → s.efl.owner = issCode i → s.efl.op = 3 → (s.fetching i).flCheck 3 (v.toNat % 2 ^ 25) i = none →
    ∃ t o, exec (.eraseBank i v) s = .next t ∧ t.efl.busy = some o ∧ o.op = 3 ∧ o.addr = v.toNat % 2 ^ 25 ∧ t.efl.seqStep = 0 ∧
      (∀ k < 192, flSector (v.toNat % 2 ^ 25) + k ∈ t.efl.eflags) ∧ t = { s with efl := t.efl }) ∧
  (∀ (i : Issuer) (v : Word) (s : State), s.eflReaches i 0x08 = true → s.efl.seqStep = 3 → s.efl.owner = issCode i → s.efl.op = 4 → (s.fetching i).flCheck 4 (v.toNat % 2 ^ 25) i = none →
    ∃ t o, exec (.readMarkers i v) s = .next t ∧ t.efl.busy = some o ∧ o.op = 4 ∧ o.addr = v.toNat % 2 ^ 25 ∧ t.efl.seqStep = 0 ∧
      t.efl.eflags = s.efl.eflags ∧ t = { s with efl := t.efl }) ∧
  (∀ (i : Issuer) (v : Word) (s : State), s.eflReaches i 0x08 = true → s.efl.seqStep = 3 → s.efl.owner = issCode i → s.efl.op = 5 → (s.fetching i).flCheck 5 (v.toNat % 2 ^ 25) i = none →
    ∃ t o, exec (.clearEraseFlag i v) s = .next t ∧ t.efl.busy = some o ∧ o.op = 5 ∧ o.addr = v.toNat % 2 ^ 25 ∧ t.efl.seqStep = 0 ∧
      t.efl.eflags = s.efl.eflags ∧ t = { s with efl := t.efl }) ∧
  (∀ (i : Issuer) (v : Word) (x : Instr) (bit : Nat) (s : State), x ∈ [Instr.eraseSector i v, .eraseBank i v, .readMarkers i v, .clearEraseFlag i v] → s.eflReaches i 0x08 = true → s.efl.seqStep = 3 → s.efl.owner = issCode i → s.efl.op ≠ 1 →
    (s.fetching i).flCheck s.efl.op (v.toNat % 2 ^ 25) i = some bit →
    ∃ t, exec x s = .next t ∧ t.efl.busy = s.efl.busy ∧ t.efl.seqStep = 0 ∧ t.efl.owner = 0 ∧ t.efl.errAddr = v.toNat % 2 ^ 25 ∧ t.efl.words = s.efl.words ∧ t.efl.eflags = s.efl.eflags ∧
      (t.w1c (dwEFL + 0x30)).testBit bit = true ∧ t = { s with efl := t.efl, dw := t.dw, gbk := t.gbk }) ∧
  (∀ (i : Issuer) (v : Word) (x : Instr) (s : State), x ∈ [Instr.eraseSector i v, .eraseBank i v, .readMarkers i v, .clearEraseFlag i v] → s.eflReaches i 0x08 = true →
    (s.efl.seqStep ≠ 0 → s.efl.owner ≠ issCode i → exec x s = .next ((s.fetching i).flErr flOWNER)) ∧
    (s.efl.seqStep = 0 ∨ s.efl.owner = issCode i → s.efl.seqStep ≠ 3 → exec x s = .next (s.fetching i).seqErr) ∧
    (s.efl.owner = issCode i → s.efl.seqStep = 3 → s.efl.op = 1 → exec x s = .next { s.fetching i with efl := { (s.fetching i).efl with seqStep := 4, addr := v.toNat % 2 ^ 25, data := [] } }))

/-- When the engine ends with a verified outcome and no read waits: a program leaves its word written with its data and every other word as it was; an erase leaves every word of its sectors erased and every other word as it was; marker reads show the markers of their 32 words, and a flag clear over a blank sector drops exactly its erase flag; both change no word. DONE is raised. A program that fails its verify leaves its word torn, an erase that fails leaves a flag of one of its sectors set and every word outside them; VERIFY is raised. A clean read of a bank that is not busy loads the word's data, or all ones where the word is not written; one of a busy bank waits for the engine. (derived: R405, R407, R408, R416, R417, R418, R421) -/
def Obligations.FlashEngineEndsAndReadsReturnTheWord : Prop :=
  (∀ (s : State) (o : FlashOp), s.efl.busy = some o → s.efl.rdWait = none → o.op = 1 →
    ∃ t, exec (.flashOpDone true) s = .next t ∧ t.efl.busy = none ∧ t.fword (o.addr / 32) = { written := true, data := o.data } ∧
      (∀ w, w ≠ o.addr / 32 → t.fword w = s.fword w) ∧ (t.w1c (dwEFL + 0x30)).testBit flDONE = true ∧
      t = { s with efl := t.efl, dw := t.dw }) ∧
  (∀ (s : State) (o : FlashOp), s.efl.busy = some o → s.efl.rdWait = none → o.op = 1 →
    ∃ t, exec (.flashOpDone false) s = .next t ∧ t.efl.busy = none ∧ t.fword (o.addr / 32) = { torn := true, data := o.data } ∧ (∀ w, w ≠ o.addr / 32 → t.fword w = s.fword w) ∧
      t.efl.errAddr = o.addr ∧ (t.w1c (dwEFL + 0x30)).testBit flVERIFY = true ∧ t = { s with efl := t.efl, dw := t.dw, gbk := t.gbk }) ∧
  (∀ (s : State) (o : FlashOp), s.efl.busy = some o → s.efl.rdWait = none → o.op = 2 ∨ o.op = 3 →
    ∃ t, exec (.flashOpDone true) s = .next t ∧ t.efl.busy = none ∧
      (∀ w, t.fword w = if o.addr / 32 ≤ w ∧ w < o.addr / 32 + 2048 * (if o.op = 2 then 1 else 192) then {} else s.fword w) ∧
      flSector o.addr ∉ t.efl.eflags ∧ (t.w1c (dwEFL + 0x30)).testBit flDONE = true ∧ t = { s with efl := t.efl, dw := t.dw }) ∧
  (∀ (s : State) (o : FlashOp), s.efl.busy = some o → s.efl.rdWait = none → o.op = 2 ∨ o.op = 3 → s.efl.words.wf fword0 = true →
    ∃ t, exec (.flashOpDone false) s = .next t ∧ t.efl.busy = none ∧ (∀ w, w < o.addr / 32 ∨ o.addr / 32 + 2048 * (if o.op = 2 then 1 else 192) ≤ w → t.fword w = s.fword w) ∧
      (∀ k ∈ s.efl.eflags, k ∉ eraseSectors o.op o.addr → k ∈ t.efl.eflags) ∧ (∃ k ∈ eraseSectors o.op o.addr, k ∈ s.efl.eflags → k ∈ t.efl.eflags) ∧
      t.efl.errAddr = o.addr ∧ (t.w1c (dwEFL + 0x30)).testBit flVERIFY = true ∧ t = { s with efl := t.efl, dw := t.dw, gbk := t.gbk, free := t.free }) ∧
  (∀ (s : State) (o : FlashOp), s.efl.busy = some o → s.efl.rdWait = none → o.op = 4 →
    ∃ t, exec (.flashOpDone true) s = .next t ∧ t.efl.words = s.efl.words ∧
      t.efl.markSet = ((List.range 32).map (fun k => flag (s.fword (o.addr / 32 + k)).written k)).sum ∧
      t.efl.markTorn = ((List.range 32).map (fun k => flag (s.fword (o.addr / 32 + k)).torn k)).sum ∧ (t.w1c (dwEFL + 0x30)).testBit flDONE = true) ∧
  (∀ (s : State) (o : FlashOp), s.efl.busy = some o → s.efl.rdWait = none → o.op = 5 → s.blank (flSector o.addr) = true →
    ∃ t, exec (.flashOpDone true) s = .next t ∧ t.efl.words = s.efl.words ∧ flSector o.addr ∉ t.efl.eflags ∧
      (∀ k, k ≠ flSector o.addr → (k ∈ t.efl.eflags ↔ k ∈ s.efl.eflags)) ∧ (t.w1c (dwEFL + 0x30)).testBit flDONE = true) ∧
  (∀ (p : Path) (v : Word) (s : State), s.reach p (dwEFL + 0x40) = .ok → s.efl.busy = none →
    ∃ t, exec (.flashRead p v .clean) s = .next t ∧ t.efl.rdValid = true ∧ t.efl.rdAddr = v.toNat % 2 ^ 25 / 32 * 32 ∧
      t.efl.rdData = (if (s.fword (v.toNat % 2 ^ 25 / 32)).written then (s.fword (v.toNat % 2 ^ 25 / 32)).data else BitVec.allOnes 256) ∧
      t = { s with efl := t.efl }) ∧
  (∀ (p : Path) (v : Word) (e : EccOutcome) (s : State), s.reach p (dwEFL + 0x40) = .ok →
    (∀ o, s.efl.busy = some o → flBank o.addr = flBank (v.toNat % 2 ^ 25 / 32 * 32) →
      exec (.flashRead p v e) s = .next { s with efl := { s.efl with rdAddr := v.toNat % 2 ^ 25 / 32 * 32, rdValid := false, rdWait := some e } }) ∧
    ((∀ o, s.efl.busy = some o → flBank o.addr ≠ flBank (v.toNat % 2 ^ 25 / 32 * 32)) →
      exec (.flashRead p v e) s = .next (({ s with efl := { s.efl with rdAddr := v.toNat % 2 ^ 25 / 32 * 32, rdValid := false, rdWait := none } } : State).flLoad e))) ∧
  (∀ (s : State), ((s.fword (s.efl.rdAddr / 32)).written = true →
      (∃ t, s.flLoad .corrected = t ∧ t.efl.rdValid = true ∧ t.efl.rdData = (s.fword (s.efl.rdAddr / 32)).data ∧ (t.w1c (dwEFL + 0x30)).testBit flCORR = true) ∧
      (∃ t, s.flLoad .uncorrectable = t ∧ t.efl.rdValid = true ∧ t.efl.errAddr = s.efl.rdAddr ∧ (t.w1c (dwEFL + 0x30)).testBit flUNCORR = true))) ∧
  (∀ (ok : Bool) (s : State), s.efl.busy = none → exec (.flashOpDone ok) s = .next s) ∧
  (∀ (p : Path) (v : Word) (e : EccOutcome) (s : State), s.reach p (dwEFL + 0x40) = .silent ∨ s.reach p (dwEFL + 0x40) = .dead → exec (.flashRead p v e) s = .next s)

/-- With firmware running, the flash engine free, no reserved record waiting, budget left and nothing dropped, GUESTBOOK_RECORD_WRITE takes the oldest record of the queue and writes it at the ring position with the next record number; both move on. A CLEAR record is written before all others and then raises the floor and answers its command; an OWNER_SET record comes next; then one of the count dropped. With the engine busy, no budget or nothing to write, nothing changes. A ring position that begins a sector first erases it. The end of a key's window without repeats stops the tracking; with repeats it queues one coalesced record with their count, where the queue has room, and tracks anew. NONCE_EXPIRY leaves no valid nonce and changes nothing else. (derived: R462, R464, R465, R466, R467, R474) -/
def Obligations.GuestbookRecordsAreWrittenCoalescedAndNumbered : Prop :=
  (∀ (s : State) (r : Rec) (rest : List Rec), s.pwr.phase = .run → s.ctlOn = true → s.efl.busy = none → s.gbk.cleared = none →
    s.gbk.ownerSet = none → s.gbk.budget ≠ 0 → s.gbk.droppedSince = 0 → s.gbk.queue = r :: rest →
    ∃ t, exec .guestbookRecordWrite s = .next t ∧ t.gbk.queue = rest ∧ t.gbk.budget = s.gbk.budget - 1 ∧
      t.gbk.ring.getLast? = some { r with recno := s.gbk.nextNo, at_ := s.gbk.pos, done := none } ∧
      t.gbk.nextNo = (s.gbk.nextNo + 1) % 2 ^ 32 ∧ t.gbk.pos = (s.gbk.pos + 1) % 65536 ∧ t = { s with gbk := t.gbk, efl := t.efl }) ∧
  (∀ (s : State) (r : Rec), s.pwr.phase = .run → s.ctlOn = true → s.efl.busy = none →
    (s.gbk.cleared = some r → exec .guestbookRecordWrite s = .next ((match r.done with
      | some id => ((({ s with gbk := { s.gbk with cleared := none } } : State).writeRec r).applyFloor (r.ps.getD 1 0)).post id .success
      | none => (({ s with gbk := { s.gbk with cleared := none } } : State).writeRec r).applyFloor (r.ps.getD 1 0)).nextPlace 0x0A01)) ∧
    (s.gbk.cleared = none → s.gbk.ownerSet = some r → exec .guestbookRecordWrite s = .next ((({ s with gbk := { s.gbk with ownerSet := none } } : State).writeRec r).nextPlace 0x0A03)) ∧
    (s.gbk.cleared = none → s.gbk.ownerSet = none → s.gbk.budget ≠ 0 → s.gbk.droppedSince ≠ 0 → exec .guestbookRecordWrite s =
      .next (({ s with gbk := { s.gbk with droppedSince := 0, budget := s.gbk.budget - 1 } } : State).writeRec (s.recOf 0x0A05 [s.gbk.droppedSince])))) ∧
  (∀ s : State, (s.pwr.phase ≠ .run ∨ s.ctlOn = false ∨ s.efl.busy ≠ none ∨
    (s.gbk.cleared = none ∧ s.gbk.ownerSet = none ∧ (s.gbk.budget = 0 ∨ (s.gbk.droppedSince = 0 ∧ s.gbk.queue = [])))) → exec .guestbookRecordWrite s = .next s) ∧
  (∀ (s : State) (r : Rec), ∃ x : Rec, (s.writeRec r).gbk.ring.getLast? = some x ∧ x = { r with recno := s.gbk.nextNo, at_ := s.gbk.pos, done := none } ∧
    (s.writeRec r).gbk.nextNo = (s.gbk.nextNo + 1) % 2 ^ 32 ∧ (s.writeRec r).gbk.pos = (s.gbk.pos + 1) % 65536 ∧
    (s.writeRec r).fword (ringWord + 2 * s.gbk.pos) = { written := true, data := BitVec.ofNat 256 (leAt (recBytes x) 0 32) } ∧
    (s.writeRec r).fword (ringWord + 2 * s.gbk.pos + 1) = { written := true, data := BitVec.ofNat 256 (leAt (recBytes x) 32 32) } ∧
    (s.gbk.pos % 1024 ≠ 0 → (s.writeRec r).gbk.ring = s.gbk.ring ++ [x] ∧ ∀ w, w ≠ ringWord + 2 * s.gbk.pos → w ≠ ringWord + 2 * s.gbk.pos + 1 → (s.writeRec r).fword w = s.fword w) ∧
    (s.gbk.pos % 1024 = 0 → (s.writeRec r).gbk.ring = s.gbk.ring.filter (fun y => y.at_ / 1024 ≠ s.gbk.pos / 1024) ++ [x] ∧
      (∀ w, ringWord + 2 * s.gbk.pos + 1 < w → w < ringWord + 2 * s.gbk.pos + 2048 → (s.writeRec r).fword w = {}) ∧
      (∀ w, w < ringWord + 2 * s.gbk.pos ∨ ringWord + 2 * s.gbk.pos + 2048 ≤ w → (s.writeRec r).fword w = s.fword w)) ∧
    s.writeRec r = { s with gbk := (s.writeRec r).gbk, efl := (s.writeRec r).efl }) ∧
  (∀ (s : State) (last : Nat), (s.applyFloor last).gbk.floor = (last + 1) % 2 ^ 32 ∧ (s.applyFloor last).gbk.live = s.gbk.ring.filter (fun r => recDist ((last + 1) % 2 ^ 32) r.recno < 2 ^ 31) ∧
    s.applyFloor last = { s with gbk := { s.gbk with floor := (last + 1) % 2 ^ 32, ring := (s.applyFloor last).gbk.ring }, efl := { s.efl with words := (s.applyFloor last).efl.words } }) ∧
  (∀ (code key : Nat) (s : State) (x : Track), s.gbk.tracked.find? (fun t => t.code = code ∧ t.key = key) = some x → x.count = 0 →
    ∃ t, exec (.coalesceWindow code key) s = .next t ∧ (∀ y ∈ t.gbk.tracked, ¬(y.code = code ∧ y.key = key)) ∧ t.gbk.queue = s.gbk.queue ∧
      t = { s with gbk := t.gbk }) ∧
  (∀ (code key : Nat) (s : State) (x : Track), s.gbk.tracked.find? (fun t => t.code = code ∧ t.key = key) = some x → x.count ≠ 0 →
    s.gbk.queue.length < 1024 →
    ∃ t r, exec (.coalesceWindow code key) s = .next t ∧ t.gbk.queue = s.gbk.queue ++ [r] ∧ r.code = code ∧ r.coalesced = true ∧
      r.count = x.count ∧ r.time = x.first ∧ r.lastDelta = x.last - x.first ∧ t = { s with gbk := t.gbk }) ∧
  (∀ (code key : Nat) (s : State), s.gbk.tracked.find? (fun t => t.code = code ∧ t.key = key) = none → exec (.coalesceWindow code key) s = .next s) ∧
  (∀ (code key : Nat) (s : State) (x : Track), s.gbk.tracked.find? (fun t => t.code = code ∧ t.key = key) = some x → x.count ≠ 0 → 1024 ≤ s.gbk.queue.length →
    ∃ t, exec (.coalesceWindow code key) s = .next t ∧ t.gbk.queue = s.gbk.queue ∧ t.gbk.tracked = s.gbk.tracked.map (fun y => if y.code = code ∧ y.key = key then { code := code, key := key } else y) ∧
      t = { s with gbk := t.gbk, dw := { s.dw with cnt := t.dw.cnt } }) ∧
  (∀ s : State, exec .nonceExpiry s = .next { s with gbk := { s.gbk with nonce := none } })

/-- From a ready Manager controller: a valid Guestbook Read returns, when it asks for every code, the records at and above START up to its limit, and their count in Dword 0, with a code range those within it; Dword 1 is the number to go on from. The log page with an offset that is a multiple of 64 succeeds. NONCE leaves one valid nonce and succeeds. A CLEAR with the valid nonce, a verified signature and the records from OLDEST up to a last one no newer than NEWEST takes the place of the clear record with that range and spends the nonce. OWNER_SET with a verified key exchange installs the new key. A CLEAR or OWNER_SET that fails a check is denied with its status and code 0x0A02 and has spent the nonce it named. A Timestamp sets the calendar to its value; from another controller only that controller's own. Commands whose fields are not in order are refused. (derived: R463, R471, R472, R473, R474, R475, R476) -/
def Obligations.GuestbookCommandsAnswer : Prop :=
  (∀ (c : Cmd) (s : State), s.readyFor true c = true → field (dw11 c) 31 16 = 0 → zero13 c = true → dw12 c = 0 →
    1 ≤ field (dw11 c) 15 0 → field (dw11 c) 15 0 ≤ 32768 →
    ∃ t e, exec (.guestbookRead c) s = .next t ∧ t.io.posted.getLast? = some e ∧ e.id = c.id ∧ e.st = .success ∧
      e.data = ((s.gbk.live.filter (fun r => recDist (if recDist s.gbk.oldest (dw10 c) ≥ 2 ^ 31 then s.gbk.oldest else dw10 c) r.recno < 2 ^ 31)).take
        (field (dw11 c) 15 0)).flatMap recBytes ∧ t.gbk = s.gbk) ∧
  (∀ (c : Cmd) (start lo hi : Nat) (cand hit : List Rec) (s : State), s.readyFor true c = true → field (dw11 c) 31 16 = 0 → zero13 c = true → 1 ≤ field (dw11 c) 15 0 → field (dw11 c) 15 0 ≤ 32768 →
    lo = field (dw12 c) 15 0 → hi = field (dw12 c) 31 16 → lo = 0 ∨ lo ≤ hi → start = (if recDist s.gbk.oldest (dw10 c) ≥ 2 ^ 31 then s.gbk.oldest else dw10 c) →
    cand = s.gbk.live.filter (fun r => recDist start r.recno < 2 ^ 31) → hit = cand.filter (fun r => hi = 0 ∨ (lo ≤ r.code ∧ r.code ≤ hi)) →
    exec (.guestbookRead c) s = .next (s.post c.id .success (hit.take (field (dw11 c) 15 0)).length
      (if field (dw11 c) 15 0 ≤ hit.length then (((hit.take (field (dw11 c) 15 0)).getLast?.map (fun r => r.recno)).getD start + 1) % 2 ^ 32
        else if cand = [] then start else (s.gbk.newest + 1) % 2 ^ 32) ((hit.take (field (dw11 c) 15 0)).flatMap recBytes))) ∧
  (∀ (c : Cmd) (s : State), s.readyFor true c = true → field (dw11 c) 31 16 ≠ 0 ∨ zero13 c = false ∨ field (dw11 c) 15 0 = 0 ∨ 32768 < field (dw11 c) 15 0 ∨ (field (dw12 c) 15 0 ≠ 0 ∧ field (dw12 c) 31 16 < field (dw12 c) 15 0) →
    exec (.guestbookRead c) s = .next (s.refuse c .invalidField)) ∧
  (∀ (c : Cmd) (s : State), s.readyFor true c = true → lpo c % 64 = 0 →
    exec (.guestbookLog c) s = .next (s.page c (pageOf 64 [(0, 4, s.gbk.oldest), (4, 4, s.gbk.newest), (8, 4, s.gbk.live.length), (12, 4, s.gbk.floor), (16, 8, s.gbk.dropped),
      (24, 1, flag s.gbk.ownerKey.isSome 0 + flag s.gbk.calSet 1)] ++ s.gbk.live.flatMap recBytes))) ∧
  (∀ (c : Cmd) (s : State), s.readyFor true c = true → lpo c % 64 = 0 →
    ∃ t, exec (.guestbookLog c) s = .next t ∧ t.lastAnswer = some (c.id, .success) ∧ t.gbk = s.gbk) ∧
  (∀ (c : Cmd) (s : State), (s.readyFor true c = true → lpo c % 64 ≠ 0 → exec (.guestbookLog c) s = .next (s.refuse c .invalidField)) ∧
    (s.readyFor false c = true → s.isManager c.id.ctrl = false → exec (.guestbookLog c) s = .next (s.refuse c .invalidLog))) ∧
  (∀ (c : Cmd) (s : State), s.readyFor true c = true → dw10 c = 0 → zero11 c = true →
    ∃ t n, exec (.nonce c) s = .next t ∧ t.gbk.nonce = some (n, s.gbk.uptime) ∧ n < 2 ^ 256 ∧ t.lastAnswer = some (c.id, .success) ∧
      t.io.posted.getLast?.map (fun e => e.data) = some (toLe 32 n ++ toLe 16 Config.unitId.toNat ++ toLe 4 s.gbk.oldest ++ toLe 4 s.gbk.newest ++ toLe 8 0) ∧
      t = { s with gbk := { s.gbk with nonce := t.gbk.nonce }, io := t.io, free := t.free }) ∧
  (∀ (c : Cmd) (s : State), s.readyFor true c = true → dw10 c ≠ 0 ∨ zero11 c = false → exec (.nonce c) s = .next (s.refuse c .invalidField)) ∧
  (∀ (c : Cmd) (s : State) (key : Nat), s.readyFor true c = true → dw10 c = 1 → zero11 c = true → zeroBytes c.buf 40 95 = true →
    s.gbk.ownerKey = some key → s.nonceOk (leAt c.buf 0 32) = true → leAt c.buf 32 4 = s.gbk.oldest →
    recDist s.gbk.oldest (leAt c.buf 36 4) < 2 ^ 31 → recDist s.gbk.oldest (leAt c.buf 36 4) ≤ recDist s.gbk.oldest s.gbk.newest →
    s.gbk.cleared = none →
    ∃ t r, exec (.clear c true) s = .next t ∧ t.gbk.cleared = some r ∧ r.code = 0x0A01 ∧
      r.ps = [s.gbk.oldest, leAt c.buf 36 4, keyHash key, c.id.ctrl] ∧ r.done = some c.id ∧ t.gbk.nonce = none ∧ t = { s with gbk := t.gbk }) ∧
  (∀ (c : Cmd) (sigOk ok : Bool) (u s : State), s.readyFor true c = true → ok = s.nonceOk (leAt c.buf 0 32) → u = s.spendNonce (leAt c.buf 0 32) →
    (dw10 c ≠ 1 ∨ zero11 c = false ∨ zeroBytes c.buf 40 95 = false → exec (.clear c sigOk) s = .next (u.denyOwner c .invalidField 4 1)) ∧
    (dw10 c = 1 → zero11 c = true → zeroBytes c.buf 40 95 = true →
      (s.gbk.ownerKey = none → exec (.clear c sigOk) s = .next (u.denyOwner c (.vendor 0x87) 0 1)) ∧
      (∀ key, s.gbk.ownerKey = some key → ok = false → exec (.clear c sigOk) s = .next (u.denyOwner c (.vendor 0x87) 1 1)) ∧
      (∀ key, s.gbk.ownerKey = some key → ok = true → sigOk = false → exec (.clear c sigOk) s = .next (u.denyOwner c (.vendor 0x87) 2 1)) ∧
      (∀ key, s.gbk.ownerKey = some key → ok = true → sigOk = true →
        leAt c.buf 32 4 ≠ s.gbk.oldest ∨ 2 ^ 31 ≤ recDist (leAt c.buf 32 4) (leAt c.buf 36 4) ∨ recDist (leAt c.buf 32 4) s.gbk.newest < recDist (leAt c.buf 32 4) (leAt c.buf 36 4) →
        exec (.clear c sigOk) s = .next (u.denyOwner c .invalidField 3 1)) ∧
      (∀ key r w, s.gbk.ownerKey = some key → ok = true → sigOk = true → leAt c.buf 32 4 = s.gbk.oldest → recDist s.gbk.oldest (leAt c.buf 36 4) < 2 ^ 31 →
        recDist s.gbk.oldest (leAt c.buf 36 4) ≤ recDist s.gbk.oldest s.gbk.newest → s.gbk.cleared = some w → r = { s.recOf 0x0A01 [s.gbk.oldest, leAt c.buf 36 4, keyHash key, c.id.ctrl] with done := some c.id } →
        exec (.clear c sigOk) s = .next { u with gbk := { u.gbk with waitPlace := u.gbk.waitPlace ++ [(c.id, r)] } }))) ∧
  (∀ (c : Cmd) (s : State), s.readyFor true c = true → dw10 c = 2 → zero11 c = true → zeroBytes c.buf 128 159 = true →
    s.nonceOk (leAt c.buf 0 32) = true → (s.gbk.ownerKey = none → zeroBytes c.buf 160 255 = true ∧ (s.ctrl c.id.ctrl).kind = .pf0) →
    s.gbk.ownerSet = none →
    ∃ t, exec (.ownerSet c true true) s = .next t ∧ t.gbk.ownerKey = some (leAt c.buf 32 96) ∧ t.gbk.nonce = none ∧
      t.lastAnswer = some (c.id, .success) ∧ t = { s with gbk := t.gbk, io := t.io }) ∧
  (∀ (c : Cmd) (sigOk onCurve ok fine : Bool) (u s : State), s.readyFor true c = true → ok = s.nonceOk (leAt c.buf 0 32) → u = s.spendNonce (leAt c.buf 0 32) →
    fine = (match s.gbk.ownerKey with | none => zeroBytes c.buf 160 255 && (c.viaMI || (s.ctrl c.id.ctrl).kind = .pf0) | some _ => sigOk) →
    (dw10 c ≠ 2 ∨ zero11 c = false ∨ zeroBytes c.buf 128 159 = false → exec (.ownerSet c sigOk onCurve) s = .next (u.denyOwner c .invalidField 4 2)) ∧
    (dw10 c = 2 → zero11 c = true → zeroBytes c.buf 128 159 = true →
      (ok = false → exec (.ownerSet c sigOk onCurve) s = .next (u.denyOwner c (.vendor 0x87) 1 2)) ∧
      (ok = true → fine = false → exec (.ownerSet c sigOk onCurve) s = .next (u.denyOwner c (.vendor 0x87) 2 2)) ∧
      (ok = true → fine = true → onCurve = false → exec (.ownerSet c sigOk onCurve) s = .next (u.denyOwner c .invalidField 5 2)) ∧
      (ok = true → fine = true → onCurve = true → ∃ t, exec (.ownerSet c sigOk onCurve) s = .next t ∧ t.gbk.ownerKey = some (leAt c.buf 32 96) ∧ t.gbk.nonce = none ∧
        (s.gbk.ownerSet = none → t.lastAnswer = some (c.id, .success) ∧ t.gbk.ownerSet.map (fun r => (r.code, r.ps)) =
          some (0x0A03, [c.id.ctrl, keyHash (leAt c.buf 32 96), if s.gbk.ownerKey.isSome then 1 else 0])) ∧
        (s.gbk.ownerSet ≠ none → t.io = s.io ∧ t.gbk.ownerSet = s.gbk.ownerSet ∧ t.gbk.waitPlace.map (fun w => w.1) = s.gbk.waitPlace.map (fun w => w.1) ++ [c.id]) ∧
        t = { s with gbk := t.gbk, io := t.io }))) ∧
  (∀ (c : Cmd) (s : State), s.readyFor true c = true →
    ∃ t, exec (.timestamp c) s = .next t ∧ t.calMs = leAt c.buf 0 6 ∧ t.gbk.calSet = true ∧ t.lastAnswer = some (c.id, .success) ∧
      t = { s with gbk := t.gbk, dw := { s.dw with cnt := t.dw.cnt }, io := t.io }) ∧
  (∀ (c : Cmd) (s : State), s.readyFor false c = true → s.isManager c.id.ctrl = false →
    ∃ t, exec (.timestamp c) s = .next t ∧ t.gbk = s.gbk ∧ (t.ctrl c.id.ctrl).tsSet = true ∧ (t.ctrl c.id.ctrl).tsOff = (leAt c.buf 0 6 + 2 ^ 48 - s.gbk.uptime % 2 ^ 48) % 2 ^ 48 ∧ (∀ k, k ≠ c.id.ctrl → t.ctrl k = s.ctrl k) ∧ t.lastAnswer = some (c.id, .success) ∧ t = { s with io := t.io })

/-- On a Manager channel whose write reaches it: START of an idle channel with a valid descriptor space makes it active at CH_DESC, ready to fetch; where bus mastering it needs is off it halts with cause 8, with an invalid space with cause 6; ABORT makes it idle; RESUME of a halted one makes it active. A fetched descriptor that passes the checks becomes the channel's, or halts it with cause 6 where it does not. A finished burst adds its bytes to the channel granted; into flash it programs its words, and a word that R414 refuses halts the channel with cause 5 and leaves flash as it was; a bus error past the last retry halts it with its cause; one before it leaves the burst to be tried again; a retry that is due reads on. The channel granted is one of the highest priority, round robin. On a channel of another tenant, or where a command does not apply, nothing changes. Losing bus mastering clears the enable. None of them touches another channel, registers in force or memory outside flash. (derived: R478, R481, R482, R483, R485, R486, R487, R488) -/
def Obligations.DmaChannelsRunAsTheirRegistersSay : Prop :=
  (∀ (p : Path) (ch : Nat) (s : State), ch < 32 → s.reach p (dwCH ch) = .ok → s.mgrChan ch = true → (s.chan ch).st = 0 →
    field (s.chCfg ch) 3 2 = 0 ∨ (field (s.chCfg ch) 3 2 = 1 ∧ s.host.busMaster = true) →
    ∃ t, exec (.dmaStart p ch) s = .next t ∧ (t.chan ch).st = 1 ∧ (t.chan ch).fetch = true ∧ (t.chan ch).cur = s.chDesc ch ∧
      (∀ k, k ≠ ch → t.chan k = s.chan k) ∧ t = { s with dma := t.dma }) ∧
  (∀ (p : Path) (ch : Nat) (s : State), ch < 32 → s.reach p (dwCH ch) = .ok → s.mgrChan ch = true →
    exec (.dmaStart p ch) s = .next (s.dmaStart p ch) ∧ exec (.dmaAbort p ch) s = .next (s.dmaAbort ch) ∧ exec (.dmaResume p ch) s = .next (s.dmaResume ch) ∧
    ((s.chan ch).st ≠ 0 → exec (.dmaStart p ch) s = .next s) ∧ ((s.chan ch).st ≠ 2 → exec (.dmaResume p ch) s = .next s)) ∧
  (∀ (p : Path) (ch : Nat) (s : State), ch < 32 → s.reach p (dwCH ch) = .ok → s.mgrChan ch = true → (s.chan ch).st = 0 → 2 ≤ field (s.chCfg ch) 3 2 ∨ (field (s.chCfg ch) 3 2 = 1 ∧ s.host.busMaster = false) →
    ∃ t, exec (.dmaStart p ch) s = .next t ∧ (t.chan ch).st = 2 ∧ (t.chan ch).cause = (if field (s.chCfg ch) 3 2 = 1 then 8 else 6) ∧ (∀ k, k ≠ ch → t.chan k = s.chan k) ∧
      (t.w1c (dwCH ch + 0x10)).testBit 6 = true ∧ t = { s with dma := t.dma, dw := { s.dw with w1c := t.dw.w1c } }) ∧
  (∀ (p : Path) (ch : Nat) (s : State), ch < 32 → s.reach p (dwCH ch) = .silent ∨ s.reach p (dwCH ch) = .dead ∨ (s.reach p (dwCH ch) = .ok ∧ s.mgrChan ch = false) →
    exec (.dmaStart p ch) s = .next s ∧ exec (.dmaAbort p ch) s = .next s ∧ exec (.dmaResume p ch) s = .next s) ∧
  (∀ (p : Path) (ch : Nat) (s : State), ch < 32 → s.reach p (dwCH ch) = .ok → s.mgrChan ch = true →
    ∃ t, exec (.dmaAbort p ch) s = .next t ∧ (t.chan ch).st = 0 ∧ (t.chan ch).busy = false ∧
      (∀ k, k ≠ ch → t.chan k = s.chan k) ∧ t = { s with dma := t.dma }) ∧
  (∀ (p : Path) (ch : Nat) (s : State), ch < 32 → s.reach p (dwCH ch) = .ok → s.mgrChan ch = true → (s.chan ch).st = 2 → s.usesHost ch = false ∨ s.host.busMaster = true →
    ∃ t, exec (.dmaResume p ch) s = .next t ∧ (t.chan ch).st = 1 ∧ (t.chan ch).retries = 0 ∧
      (∀ k, k ≠ ch → t.chan k = s.chan k) ∧ t = { s with dma := t.dma }) ∧
  (∀ (p : Path) (ch : Nat) (s : State), ch < 32 → s.reach p (dwCH ch) = .ok → s.mgrChan ch = true → (s.chan ch).st = 2 → s.usesHost ch = true → s.host.busMaster = false →
    ∃ t, exec (.dmaResume p ch) s = .next t ∧ (t.chan ch).st = 2 ∧ (t.chan ch).cause = 8 ∧ (∀ k, k ≠ ch → t.chan k = s.chan k) ∧ t = { s with dma := t.dma, dw := { s.dw with w1c := t.dw.w1c } }) ∧
  (∀ (ch : Nat) (d : Descriptor) (s : State), ch < 32 → (s.chan ch).st = 1 → (s.chan ch).fetch = true → s.descOk d = true → s.host.busMaster = true ∨ (d.spaces % 4 ≠ 1 ∧ d.spaces / 4 % 4 ≠ 1 ∧ field (s.chCfg ch) 3 2 ≠ 1) →
    ∃ t, exec (.descriptorFetch ch d) s = .next t ∧ (t.chan ch).desc = some d ∧ (t.chan ch).fetch = false ∧ (t.chan ch).done = 0 ∧
      (∀ k, k ≠ ch → t.chan k = s.chan k) ∧ t = { s with dma := t.dma }) ∧
  (∀ (ch : Nat) (d : Descriptor) (s : State), ch < 32 → (s.chan ch).st = 1 → (s.chan ch).fetch = true → s.descOk d = true → s.host.busMaster = false → d.spaces % 4 = 1 ∨ d.spaces / 4 % 4 = 1 →
    ∃ t, exec (.descriptorFetch ch d) s = .next t ∧ (t.chan ch).st = 2 ∧ (t.chan ch).cause = 8 ∧ (∀ k, k ≠ ch → t.chan k = s.chan k) ∧ t = { s with dma := t.dma, dw := { s.dw with w1c := t.dw.w1c } }) ∧
  (∀ (ch : Nat) (d : Descriptor) (s : State), ch < 32 → (s.chan ch).st = 1 → (s.chan ch).fetch = true → s.descOk d = false →
    ∃ t, exec (.descriptorFetch ch d) s = .next t ∧ (t.chan ch).st = 2 ∧ (t.chan ch).cause = 6 ∧ (∀ k, k ≠ ch → t.chan k = s.chan k)) ∧
  (∀ (ch : Nat) (d : Descriptor) (s : State), ch < 32 → (s.chan ch).st ≠ 1 ∨ (s.chan ch).fetch = false → exec (.descriptorFetch ch d) s = .next s) ∧
  (∀ (e : BurstEnd) (s : State), (s.grantChan = none → exec (.dmaBurst e) s = .next s) ∧
    (∀ ch, s.grantChan = some ch → exec (.dmaBurst e) s = .next (({ s with dma := { s.dma with last := ch } } : State).burst ch e))) ∧
  (∀ (s : State) (ch : Nat), s.grantChan = some ch → ch ∈ s.readyChans ∧ (∀ k ∈ s.readyChans, s.chCfg k % 4 ≤ s.chCfg ch % 4) ∧
    (∀ k ∈ s.readyChans, s.chCfg k % 4 = s.chCfg ch % 4 → s.dma.last < k → (s.dma.last < ch ∧ ch ≤ k))) ∧
  (∀ (s : State) (ch : Nat) (d : Descriptor) (data : List Byte), (s.chan ch).desc = some d →
    (d.spaces / 4 % 4 ≠ 2 → s.burst ch (.done data) = s.burstMoved ch d) ∧
    (d.spaces / 4 % 4 = 2 → ∀ u, (s.flashBurst (s.chan ch).issuer (d.dst + (s.chan ch).done) data (s.burstLen ch d / 32) = (u, none) → s.burst ch (.done data) = u.burstMoved ch d) ∧
      (∀ a, s.flashBurst (s.chan ch).issuer (d.dst + (s.chan ch).done) data (s.burstLen ch d / 32) = (u, some a) → s.burst ch (.done data) = u.flashHalt ch a))) ∧
  (∀ (s : State) (ch : Nat) (d : Descriptor), ch < 32 → (((s.burstMoved ch d).chan ch).done = (s.chan ch).done + s.burstLen ch d ∧ ((s.burstMoved ch d).chan ch).busy = false ∧
    (d.len ≤ (s.chan ch).done + s.burstLen ch d → (d.flags.testBit 0 = true → ((s.burstMoved ch d).chan ch).st = 0) ∧
      (d.flags.testBit 0 = false → ((s.burstMoved ch d).chan ch).fetch = true ∧ ((s.burstMoved ch d).chan ch).cur = d.next) ∧
      (d.flags.testBit 2 = true → ((s.burstMoved ch d).w1c (dwCH ch + 0x10)).testBit 5 = true)) ∧
    (d.flags.testBit 1 = true → (s.chan ch).done < d.len / 8 * 4 → d.len / 8 * 4 ≤ (s.chan ch).done + s.burstLen ch d → ((s.burstMoved ch d).w1c (dwCH ch + 0x10)).testBit 4 = true) ∧
    (∀ k, k ≠ ch → (s.burstMoved ch d).chan k = s.chan k) ∧ s.burstMoved ch d = { s with dma := (s.burstMoved ch d).dma, dw := { s.dw with w1c := (s.burstMoved ch d).dw.w1c } })) ∧
  (∀ (data : List Byte) (ch : Nat) (d : Descriptor) (s : State), s.grantChan = some ch → (s.chan ch).desc = some d → d.spaces / 4 % 4 ≠ 2 →
    ∃ t, exec (.dmaBurst (.done data)) s = .next t ∧ (t.chan ch).done = (s.chan ch).done + min (burstBytes d.burst) (d.len - (s.chan ch).done) ∧
      t.dma.last = ch ∧ (∀ k, k ≠ ch → t.chan k = s.chan k) ∧ t = { s with dma := t.dma, dw := t.dw }) ∧
  (∀ (data : List Byte) (ch bit : Nat) (d : Descriptor) (s : State), s.grantChan = some ch → (s.chan ch).desc = some d → d.spaces / 4 % 4 = 2 → d.dst % 32 = 0 → (s.chan ch).done % 32 = 0 →
    32 ≤ s.burstLen ch d → s.flCheck 1 (d.dst + (s.chan ch).done) (.path .bar2) = some bit →
    ∃ t, exec (.dmaBurst (.done data)) s = .next t ∧ (t.chan ch).st = 2 ∧ (t.chan ch).cause = 5 ∧ (t.chan ch).errAddr = d.dst + (s.chan ch).done ∧
      (t.chan ch).done = (s.chan ch).done ∧ t.efl.errAddr = d.dst + (s.chan ch).done ∧ t.efl.words = s.efl.words ∧ (∀ k, k ≠ ch → t.chan k = s.chan k)) ∧
  (∀ (data : List Byte) (ch : Nat) (d : Descriptor) (s : State), s.grantChan = some ch → (s.chan ch).desc = some d → d.spaces / 4 % 4 = 2 →
    s.burstLen ch d = 32 → s.flCheck 1 (d.dst + (s.chan ch).done) (.path .bar2) = none →
    ∃ t, exec (.dmaBurst (.done data)) s = .next t ∧ (t.chan ch).done = (s.chan ch).done + 32 ∧
      t.fword ((d.dst + (s.chan ch).done) / 32) = { written := true, data := BitVec.ofNat 256 (leAt data 0 32) } ∧
      (∀ a, a ≠ (d.dst + (s.chan ch).done) / 32 → t.fword a = s.fword a) ∧ (∀ k, k ≠ ch → t.chan k = s.chan k)) ∧
  (∀ (ch cause a : Nat) (d : Descriptor) (s : State), s.grantChan = some ch → (s.chan ch).desc = some d → busCause d cause = true → s.reg dwDMA % 8 ≤ (s.chan ch).retries →
    ∃ t, exec (.dmaBurst (.busError cause a)) s = .next t ∧ (t.chan ch).st = 2 ∧ (t.chan ch).cause = cause ∧ (t.chan ch).errAddr = a ∧ (t.w1c (dwCH ch + 0x10)).testBit 6 = true ∧ (∀ k, k ≠ ch → t.chan k = s.chan k) ∧
      t = { s with dma := t.dma, dw := t.dw, efl := t.efl, gbk := t.gbk }) ∧
  (∀ (ch cause a : Nat) (d : Descriptor) (s : State), s.grantChan = some ch → (s.chan ch).desc = some d → busCause d cause = true → (s.chan ch).retries < s.reg dwDMA % 8 →
    ∃ t, exec (.dmaBurst (.busError cause a)) s = .next t ∧ (t.chan ch).st = 1 ∧ (t.chan ch).busy = true ∧ (t.chan ch).done = (s.chan ch).done ∧ (t.chan ch).errAddr = a ∧ (∀ k, k ≠ ch → t.chan k = s.chan k) ∧
      t = { s with dma := t.dma, dw := t.dw, efl := t.efl, gbk := t.gbk }) ∧
  (∀ (cause a ch : Nat) (d : Descriptor) (s : State), ch < 32 → (s.chan ch).st = 1 → (s.chan ch).busy = true → (s.chan ch).fetch = false → (s.chan ch).desc = some d →
    s.waitsFlash ch d = false → busCause d cause = true → (s.chan ch).retries + 1 ≥ s.reg dwDMA % 8 →
    ∃ t, exec (.dmaRetry ch (.busError cause a)) s = .next t ∧ (t.chan ch).st = 2 ∧ (t.chan ch).cause = cause ∧ (t.chan ch).errAddr = a ∧
      (∀ k, k ≠ ch → t.chan k = s.chan k)) ∧
  (∀ (ch : Nat) (e : BurstEnd) (u s : State), ch < 32 → (s.chan ch).st = 1 → (s.chan ch).busy = true → u = s.modChan ch (fun c => { c with retries := c.retries + 1, busy := false }) →
    exec (.dmaRetry ch e) s = .next (if ch ∈ u.readyChans then u.burst ch e else u)) ∧
  (∀ (ch : Nat) (e : BurstEnd) (s : State), ch < 32 → (s.chan ch).st ≠ 1 ∨ (s.chan ch).busy = false → exec (.dmaRetry ch e) s = .next s) ∧
  (∀ s : State, ∃ t, exec .busMasterClear s = .next t ∧ t.host.busMaster = false ∧
    (∀ ch < 32, (s.chan ch).st = 1 → s.mgrChan ch = true → s.usesHost ch = true → (t.chan ch).st = 2 ∧ (t.chan ch).cause = 8) ∧
    (∀ ch, ¬(ch < 32 ∧ (s.chan ch).st = 1 ∧ s.mgrChan ch = true ∧ s.usesHost ch = true) → t.chan ch = s.chan ch) ∧ t = { s with dma := t.dma, dw := { s.dw with w1c := t.dw.w1c }, host := { s.host with busMaster := false } })

/-- A pattern-mode write that R508 accepts takes the fields of LT_LCTRL; one it refuses changes no lane and raises REFUSED with the lane. A PCIe lane whose generator or checker starts takes the PCIe link down. An injection into a generator counts one flipped bit; without a generator nothing. A DDR loop write before DRAM is in use takes its bits, after it is refused. A running checker that locks shows LOCKED with its bits at zero; a locked one that loses lock raises LOST. (derived: R508, R509, R510, R511) -/
def Obligations.LinkTestCommandsActOnTheirLane : Prop :=
  (∀ (p : Path) (l : Nat) (v : Word) (s : State), l < 192 → s.reach p (dwLANE l) = .ok → s.patternOk p l = true →
    ∃ t, exec (.patternMode p l v) s = .next t ∧ t.reg (dwLANE l) = v.toNat &&& 0x777 ∧ (∀ k, k ≠ l → t.lane k = s.lane k) ∧
      (∀ o, o ≠ dwLANE l → t.reg o = s.reg o) ∧ t = { s with dw := t.dw, lt := t.lt }) ∧
  (∀ (p : Path) (l : Nat) (v : Word) (s : State), l < 208 → s.reach p (dwLANE l) = .ok → s.patternOk p l = true → exec (.patternMode p l v) s = .next (s.setPattern l v.toNat)) ∧
  (∀ (l v : Nat) (s : State), (s.setPattern l v).reg (dwLANE l) = v &&& 0x777 ∧ (field (v &&& 0x777) 10 4 ≠ field (s.reg (dwLANE l)) 10 4 → ((s.setPattern l v).lane l).locked = false) ∧ (∀ k, k ≠ l → (s.setPattern l v).lane k = s.lane k) ∧
    (192 ≤ l → s.lanePattern l = false → (s.setReg (dwLANE l) (v &&& 0x777)).lanePattern l = true → (s.setPattern l v).host.pcieUp = false)) ∧
  (∀ (p : Path) (l : Nat) (v : Word) (s : State), l < 208 → s.reach p (dwLANE l) = .ok → s.patternOk p l = false →
    ∃ t, exec (.patternMode p l v) s = .next t ∧ t.lt.lane = l ∧ t.lt.lanes = s.lt.lanes ∧ t.dw.regs = s.dw.regs ∧
      (t.w1c dwLTEST).testBit 8 = true) ∧
  (∀ (p : Path) (l : Nat) (v : Word) (s : State), l < 208 → s.reach p (dwLANE l + 0x30) = .ok → v.toNat.testBit 0 = true → s.reg (dwLANE l) % 8 ≠ 0 →
    ∃ t, exec (.inj p l v) s = .next t ∧ (t.lane l).injectedBits = (s.lane l).injectedBits + 1 ∧ (∀ k, k ≠ l → t.lane k = s.lane k) ∧
      t = { s with dw := t.dw, lt := t.lt }) ∧
  (∀ (p : Path) (l : Nat) (v : Word) (s : State), l < 208 → s.reach p (dwLANE l + 0x30) = .ok → v.toNat.testBit 0 = false ∨ s.reg (dwLANE l) % 8 = 0 → exec (.inj p l v) s = .next s) ∧
  (∀ (p : Path) (v : Word) (s : State), s.reach p (dwLTEST + 0x10) = .ok → s.ddr.ready = false →
    ∃ t, exec (.ddrLoop p v) s = .next t ∧ t.reg (dwLTEST + 0x10) = v.toNat % 256 ∧ (∀ o, o ≠ dwLTEST + 0x10 → t.reg o = s.reg o) ∧
      t = { s with dw := t.dw }) ∧
  (∀ (p : Path) (v : Word) (s : State), s.reach p (dwLTEST + 0x10) = .ok → s.ddr.ready = true → exec (.ddrLoop p v) s = .next (s.refuseLane 0xFF)) ∧
  (∀ (p : Path) (l : Nat) (v : Word) (s : State), l < 208 →
    (s.reach p (dwLANE l) = .silent ∨ s.reach p (dwLANE l) = .dead → exec (.patternMode p l v) s = .next s) ∧
    (s.reach p (dwLANE l + 0x30) = .silent ∨ s.reach p (dwLANE l + 0x30) = .dead → exec (.inj p l v) s = .next s) ∧
    (s.reach p (dwLTEST + 0x10) = .silent ∨ s.reach p (dwLTEST + 0x10) = .dead → exec (.ddrLoop p v) s = .next s)) ∧
  (∀ (l : Nat) (s : State), l < 208 → field (s.reg (dwLANE l)) 6 4 ≠ 0 → (s.lane l).locked = false →
    ∃ t, exec (.checkerLocked l) s = .next t ∧ (t.lane l).locked = true ∧ (t.lane l).bits = 0 ∧ (∀ k, k ≠ l → t.lane k = s.lane k) ∧
      t = { s with lt := t.lt }) ∧
  (∀ (l : Nat) (s : State), l < 208 → (field (s.reg (dwLANE l)) 6 4 = 0 ∨ (s.lane l).locked = true → exec (.checkerLocked l) s = .next s) ∧ ((s.lane l).locked = false → exec (.checkerLostLock l) s = .next s)) ∧
  (∀ (l : Nat) (s : State), l < 208 → (s.lane l).locked = true →
    ∃ t, exec (.checkerLostLock l) s = .next t ∧ (t.lane l).locked = false ∧ (t.w1c (dwLANE l + 0x04)).testBit 1 = true ∧
      (∀ k, k ≠ l → t.lane k = s.lane k) ∧ t = { s with dw := t.dw, lt := t.lt })

/-- A cold start with the reference clock running, no trip and the TAP not on the pins samples the straps and presence and runs the boot ROM with cause 0. PORST_N low and a power loss hold every domain: staged settings, commands, link ends, search, DMA and link-test state are gone, and so are the window's counters. Losing the internal clocks restarts with cause 1, losing the reference clock holds every domain until it returns and then restarts with cause 1. A temperature sample replaces the readings and counts the millisecond; a sensor at 120 degrees trips the unit into reset. A TAP instruction or Test-Logic-Reset with no start held, or on an instruction that takes the pins, only changes the selected instruction; else it lets a held start run. (derived: R28, R30, R203, R497, R498, R500, R501, R507, R513) -/
def Obligations.ResetsAndRestartsClearWhatTheyReset : Prop :=
  (∀ (mode : BitVec 2) (prsntN : BitVec 64) (moved : List (Nat × Nat)) (s : State), s.pwr.porst = false → s.pwr.refclk = true → s.pwr.trip = false → takesPins s.pwr.tap = false →
    ∃ u : State, exec (.coldStart mode ⟨prsntN, moved⟩) s = .next u.bootRom ∧ u.pwr.porst = true ∧ u.pwr.mode = mode.toNat ∧ u.pwr.cause = 0 ∧
      (∀ n < s.part.slots, (u.slot n).prsntLow = !prsntN.getLsbD n)) ∧
  (∀ s : State, ∃ t, exec .porstAssert s = .next t ∧ t.pwr.phase = .held ∧ t.pwr.porst = false ∧ t.stage = {} ∧ t.io.flights = [] ∧ t.ends = [] ∧
    t.dw.regs = [] ∧ t.dw.cnt = [] ∧ t.dma = {} ∧ t.lt = {} ∧ t.srch.tcam = []) ∧
  (∀ (torn : List (Nat × Nat × Nat)) (s : State), ∃ t, exec (.powerLoss torn) s = .next t ∧ t.pwr.phase = .held ∧ t.pwr.porst = false ∧ t.stage = {} ∧
    t.io.flights = [] ∧ t.ends = [] ∧ t.dw.regs = [] ∧ t.dw.cnt = [] ∧ t.dma = {} ∧ t.lt = {} ∧ t.srch.tcam = []) ∧
  (∀ s : State, s.pwr.phase ≠ .held → s.pwr.sleep = .active →
    ∃ u : State, exec .clockLoss s = .next u.bootRom ∧ u.pwr.phase = .held ∧ u.pwr.cause = 1 ∧ u.stage = {} ∧ u.io.flights = [] ∧ u.dw.cnt = []) ∧
  (∀ s : State, s.pwr.refclk = true → s.pwr.porst = true →
    ∃ t, exec .refclkLoss s = .next t ∧ t.pwr.refclk = false ∧ t.pwr.phase = .held ∧ t.pwr.cause = 1 ∧ t.stage = {} ∧ t.io.flights = []) ∧
  (∀ s : State, s.pwr.refclk = false → s.pwr.porst = true → s.pwr.trip = false → s.pwr.tapHold = false →
    exec .refclkReturn s = .next ({ s with pwr := { s.pwr with refclk := true, latched := s.pwr.latched ++ [(0x0102, [])], cause := 1 } } : State).bootRom) ∧
  (∀ (l : List (BitVec 8)) (s : State), s.pwr.porst = true → s.pwr.refclk = true → (∀ i < 16, (l.getD i 0).toInt < 120) →
    ∃ t, exec (.tempSample l) s = .next t ∧ t.pwr.temps = (List.range 16).map (fun i => l.getD i 0) ∧ t.gbk.uptime = (s.gbk.uptime + 1) % 2 ^ 48 ∧
      t = { s with pwr := t.pwr, gbk := t.gbk, ddr := t.ddr }) ∧
  (∀ (l : List (BitVec 8)) (s : State), s.pwr.trip = false → (∃ i < 16, 120 ≤ (l.getD i 0).toInt) →
    ∃ t, exec (.tempSample l) s = .next t ∧ t.pwr.trip = true ∧ t.pwr.phase = .held ∧ t.stage = {} ∧ t.io.flights = []) ∧
  (∀ (code : BitVec 8) (s : State), s.pwr.tapHold = false ∨ takesPins code = true → exec (.tapInstruction code) s = .next { s with pwr := { s.pwr with tap := code } }) ∧
  (∀ (code : BitVec 8) (s : State), s.pwr.tapHold = true → takesPins code = false → exec (.tapInstruction code) s = .next ({ s with pwr := { s.pwr with tap := code, tapHold := false } } : State).releaseStart) ∧
  (∀ s : State, s.pwr.tapHold = true → exec .testLogicReset s = .next ({ s with pwr := { s.pwr with tap := 2, tapHold := false } } : State).releaseStart) ∧
  (∀ s : State, s.pwr.tapHold = false → exec .testLogicReset s = .next { s with pwr := { s.pwr with tap := 2 } })

/-- In the state in reset PORST_N is low, every domain is held, the TAP holds no start, and no command waits. (derived: R498, R500) -/
def Obligations.ResetIsHeldInReset : Prop :=
  State.reset.pwr.phase = .held ∧ State.reset.pwr.porst = false ∧ State.reset.pwr.tapHold = false ∧ State.reset.pending = []

/-- After training, an image with no incompatible firmware starts: firmware runs, the codes noted by the boot ROM are taken, and the first controllers are set up. A census that finds none of a pool's members leaves the pool absent, one whose members can be read and whose map fits DRAM assembles it from its root; one whose map does not fit, or none of whose roots can be read, holds the pool (code 0x0125); a pool that awaits none is left as it is. The started point, with every census ended and no pause, marks the run as started with no failed starts in the boot record. (derived: R195, R204, R420, R438) -/
def Obligations.StartOfFirmwareAndItsPoints : Prop :=
  (∀ s : State, s.pwr.phase = .trained → s.incompatible s.fw.running = none →
    ∃ u : State, exec .firmwareStart s = .next (u.firstCtrls.phaseEnds 2) ∧ u.pwr.phase = .run ∧ u.pwr.latched = []) ∧
  (∀ (p : Nat) (v : CensusReads) (s : State), s.pwr.phase = .run → p < 4 → s.coreOn = true → s.slotsSettled = true → ((s.pool p).pstate ≠ 1 ∨ (s.pool p).root = none) →
    exec (.census p v) s = .next s.admissionEnds.startDone) ∧
  (∀ (p : Nat) (v : CensusReads) (g : RootGen) (s : State), s.pwr.phase = .run → p < 4 → s.coreOn = true → s.slotsSettled = true →
    (s.pool p).pstate = 1 → (s.pool p).root = some g → (∀ m ∈ g.members, s.foundIn m.serial = none) →
    ∃ u : State, exec (.census p v) s = .next (u.censusEnd p) ∧ (u.pool p).pstate = 0 ∧ (u.pool p).exist = false ∧ (∀ q, q ≠ p → u.pool q = s.pool q) ∧
      u = { s.admissionEnds with media := u.media }) ∧
  (∀ (p n : Nat) (v : CensusReads) (g : RootGen) (s : State), s.pwr.phase = .run → p < 4 → s.coreOn = true → s.slotsSettled = true →
    (s.pool p).pstate = 1 → (s.pool p).root = some g → (∃ m ∈ g.members, m.st ≠ 2 ∧ s.foundIn m.serial = some n) → (s.slot n).st = .admitted → n ∉ v.roots →
    (s.admissionEnds.censusView g).dramFits p { cls := g.cls } (g.members.filter (fun m => m.st ≠ 2)).length g.n g.logPm = true →
    exec (.census p v) s = .next ((s.admissionEnds.assemble v p g).censusEnd p)) ∧
  (∀ (p n : Nat) (v : CensusReads) (g : RootGen) (s : State), s.pwr.phase = .run → p < 4 → s.coreOn = true → s.slotsSettled = true →
    (s.pool p).pstate = 1 → (s.pool p).root = some g → (∃ m ∈ g.members, m.st ≠ 2 ∧ s.foundIn m.serial = some n) → (s.slot n).st = .admitted → n ∉ v.roots →
    (s.admissionEnds.censusView g).dramFits p { cls := g.cls } (g.members.filter (fun m => m.st ≠ 2)).length g.n g.logPm = false →
    ∃ u : State, exec (.census p v) s = .next (u.censusEnd p) ∧ u.pool p = ((s.admissionEnds).holdPool p ((g.members.filter (fun m => m.st ≠ 2)).filterMap (fun m => s.foundIn m.serial))).pool p) ∧
  (∀ (p n : Nat) (v : CensusReads) (g : RootGen) (s : State), s.pwr.phase = .run → p < 4 → s.coreOn = true → s.slotsSettled = true →
    (s.pool p).pstate = 1 → (s.pool p).root = some g → (∃ m ∈ g.members, m.st ≠ 2 ∧ s.foundIn m.serial = some n) →
    (∀ m ∈ g.members, ∀ k, s.foundIn m.serial = some k → (s.slot k).st = .admitted → k ∈ v.roots) →
    exec (.census p v) s = .next ((((s.admissionEnds).holdPool p ((g.members.filter (fun m => m.st ≠ 2)).filterMap (fun m => s.foundIn m.serial))).log 0x0125 [p, ((g.members.filter (fun m => m.st ≠ 2)).filterMap (fun m => s.foundIn m.serial)).length]).censusEnd p)) ∧
  (∀ s : State, s.pwr.phase = .run → s.fw.started = false → s.censusEnded = true → s.io.paused = false →
    ∃ t b, exec .startedPoint s = .next t ∧ t.fw.started = true ∧ t.fw.fails = 0 ∧ t.fw.bootRec = some b ∧ b.fails = 0 ∧ b.active = s.fw.running ∧
      t = { s with fw := t.fw })

/-- While the power controller runs: a pin takes its level, and an enabled pin at its level latches its bit; an enabled link, PCIe, timer or cartridge event in a state of R455 latches its bit; a key taken on CORE during entry or in Stowed latches its bit. PERST_N falling is a loss of the PCIe link; rising it is noted, and in Dormant and Rest it latches its bit where enabled. (derived: R447, R455, R460, R499) -/
def Obligations.WakeSourcesLatch : Prop :=
  (∀ (pin : Nat) (level : Bool) (s : State), pin < 4 →
    ∃ t, exec (.wakePin pin level) s = .next t ∧ t.pwr.wakePins.testBit pin = level ∧
      (s.aonOn = true → (field s.wakeCfg (4 * pin + 3) (4 * pin)).testBit 0 = true → (field s.wakeCfg (4 * pin + 3) (4 * pin)).testBit 1 = level →
        (field s.wakeCfg (4 * pin + 3) (4 * pin)).testBit 2 = false → (t.w1c (dwPWR + 0x84)).testBit pin = true) ∧
      t = { s with pwr := t.pwr, dw := t.dw }) ∧
  (∀ (g : Nat) (s : State), g < s.part.groups → s.aonOn = true → s.wakeCfg.testBit 16 = true → s.grpMode g ≠ 0 →
    (s.sleepsFrom 2 = true ∨ (s.stowed = true ∧ (s.reg (dwPWR + 0x8C)).testBit (4 + g) = true)) →
    ∃ t, exec (.linkWake g) s = .next t ∧ (t.w1c (dwPWR + 0x84)).testBit 4 = true ∧ t = { s with pwr := t.pwr, dw := t.dw }) ∧
  (∀ s : State, s.aonOn = true → s.wakeCfg.testBit 17 = true → ((s.stowed = true ∧ s.host.pcieUp = true) ∨ (s.sleepsFrom 2 = true ∧ s.pwr.perst = true)) →
    ∃ t, exec .pcieWake s = .next t ∧ (t.w1c (dwPWR + 0x84)).testBit 5 = true ∧ t = { s with pwr := t.pwr, dw := t.dw }) ∧
  (∀ s : State, s.aonOn = true → s.wakeCfg.testBit 18 = true → s.sleepsFrom 1 = true → s.reg (dwPWR + 0x88) ≠ 0 →
    ∃ t, exec .wakeTimer s = .next t ∧ (t.w1c (dwPWR + 0x84)).testBit 6 = true ∧ t = { s with pwr := t.pwr, dw := t.dw }) ∧
  (∀ (n : Nat) (level : Bool) (s : State), n < 64 → n < s.part.slots → s.aonOn = true → s.wakeCfg.testBit 19 = true →
    ∃ t, exec (.cartridgeWake n level) s = .next t ∧ (t.w1c (dwPWR + 0x84)).testBit 7 = true ∧ (s.sleepsFrom 1 = true → (t.slot n).prsntLow = !level) ∧
      (∀ k, k ≠ n → t.slot k = s.slot k) ∧ t = { s with slots := t.slots, pwr := t.pwr, dw := t.dw }) ∧
  (∀ (cls dom : Nat) (s : State), s.aonOn = true → ((dom = domCORE ∧ (s.stowed = true ∨ s.pwr.sleep = .entering 0 1 ∨ s.pwr.sleep = .entering 1 3)) ∨ (dom = domCTL ∧ s.pwr.sleep = .asleep 2)) →
    ∃ t, exec (.keyWake cls dom) s = .next t ∧ (t.w1c (dwPWR + 0x84)).testBit 9 = true ∧ t = { s with pwr := t.pwr, dw := t.dw }) ∧
  (∀ s : State, s.aonOn = false ∨ s.sleepsFrom 2 = false ∨ s.pwr.perst = false ∨ s.wakeCfg.testBit 17 = false →
    exec (.perst true) s = .next { s with pwr := { s.pwr with perst := false } }) ∧
  (∀ s : State, s.aonOn = true → s.sleepsFrom 2 = true → s.pwr.perst = true → s.wakeCfg.testBit 17 = true →
    ∃ t, exec (.perst true) s = .next t ∧ t.pwr.perst = false ∧ (t.w1c (dwPWR + 0x84)).testBit 5 = true ∧ t = { s with pwr := t.pwr, dw := t.dw }) ∧
  (∀ s : State, s.aonOn = true → exec (.perst false) s = .next ({ s with pwr := { s.pwr with perst := true } } : State).pcieDown) ∧
  (∀ s : State, s.aonOn = false → exec (.perst false) s = .next { s with pwr := { s.pwr with perst := true } })

/-- With no key on CORE and no wake latched, an entry request starts an entry toward its target. With no wake latched, E1 toward Stowed, E2 and E3 each reach their point when what they wait for is done; E2 puts DRAM into self-refresh, or stops it toward Rest; after E3 the unit sleeps in its target state. A latched wake at a point ends the entry. A latched wake ends Stowed and Dormant: the unit is Active, the source is kept as the last wake, DRAM leaves self-refresh, and held work goes on; Rest ends in a restart with cause 2, its exit's code noted for the start. (derived: R451, R452, R453, R454) -/
def Obligations.EntryAndExitMovePointByPoint : Prop :=
  (∀ s : State, s.mayEnter = true → s.pwr.sleep = .active → ({ s with pwr := { s.pwr with wakeKey := false } } : State).ownKeys domCORE = [] →
    exec .entryRequest s = .next { s with pwr := { s.pwr with wakeKey := false, fromStowed := false, shutSent := [],
                                                              sleep := .entering 0 ({ s with pwr := { s.pwr with wakeKey := false } } : State).entryTarget } }) ∧
  (∀ s : State, s.mayEnter = true → s.pwr.sleep = .asleep 1 → 2 ≤ ({ s with pwr := { s.pwr with wakeKey := false } } : State).entryTarget →
    exec .entryRequest s = .next { s with pwr := { s.pwr with wakeKey := false, fromStowed := true, shutSent := [],
                                                              sleep := .entering 0 ({ s with pwr := { s.pwr with wakeKey := false } } : State).entryTarget } }) ∧
  (∀ s : State, s.pwr.sleep = .entering 0 1 → s.engineBusy = false → s.w1c (dwPWR + 0x84) = 0 →
    exec .entryE1 s = .next { s with pwr := { s.pwr with sleep := .entering 1 1, shutSent := [] } }) ∧
  (∀ (g : Nat) (s : State), s.pwr.sleep = .entering 0 g → s.engineBusy = false → s.w1c (dwPWR + 0x84) = 0 →
    ∃ t, exec .entryE1 s = .next t ∧ t.pwr.sleep = .entering 1 g ∧ (g ≤ 1 → t.media = s.media) ∧ t.dw.regs = s.dw.regs ∧
      t.pwr.shutSent = (if s.pwrenFalls g then (s.slots.filter (fun e => e.2.pwren && e.2.phase = 5)).map (fun e => e.1) else [])) ∧
  (∀ (n g : Nat) (s : State), s.pwr.sleep = .entering n g → s.w1c (dwPWR + 0x84) ≠ 0 →
    (n = 0 → s.engineBusy = false → exec .entryE1 s = .next (s.abortEntry 1)) ∧
      (n = 1 → (∀ e ∈ s.slots, e.2.out = []) → exec .entryE2 s = .next (s.abortEntry 2)) ∧
      (n = 2 → s.ddr.selfRef = true ∨ s.ddr.off = true → exec .entryE3 s = .next (s.abortEntry 3))) ∧
  (∀ (t : Nat) (s : State), s.pwr.sleep = .entering 1 t → (∀ e ∈ s.slots, e.2.out = []) → s.w1c (dwPWR + 0x84) = 0 →
    exec .entryE2 s = .next { s with pwr := { s.pwr with sleep := .entering 2 t }, ddr := { s.ddr with selfRef := t ≤ 2, off := t ≥ 3, openRows := [] } }) ∧
  (∀ (g : Nat) (s : State), s.pwr.sleep = .entering 2 g → s.ddr.selfRef = true ∨ s.ddr.off = true → s.w1c (dwPWR + 0x84) = 0 →
    ∃ t, exec .entryE3 s = .next t ∧ t.pwr.sleep = .asleep g ∧ t.pwr.lastState = g ∧ t.ddr = s.ddr) ∧
  (∀ (g : Nat) (s : State), s.pwr.sleep = .asleep g → g ≤ 2 → s.w1c (dwPWR + 0x84) ≠ 0 →
    ∃ u : State, exec .pwrExit s = .next ((u.presence.slotsBack (s.pwrenFalls g)).log 0x0111 [g, s.pwr.wakeSrc, s.freeVal]).goOn.pump ∧ u.pwr.sleep = .active ∧
      u.pwr.lastWake = s.pwr.wakeSrc ∧ u.pwr.wakeKey = true ∧ u.ddr.selfRef = false ∧ u.pwr.kept = []) ∧
  (∀ (g : Nat) (s : State), s.pwr.sleep = .asleep g → 3 ≤ g → s.w1c (dwPWR + 0x84) ≠ 0 →
    ∃ t, exec .pwrExit s = .next t ∧ t.pwr.sleep = .active ∧ t.pwr.lastWake = s.pwr.wakeSrc ∧ t.pwr.lastState = s.pwr.lastState ∧ t.pwr.cause = 2 ∧
      t.stage = {} ∧ t.io.flights = [] ∧ t.pwr.latched.getLast? = some (0x0111, [g, s.pwr.wakeSrc, s.freeVal]))

/-- From a ready Manager controller in normal mode, a Room Key with no reserved bit set and a non-zero IDLE sets IDLE, SRCH_DROP, DEEPEST and HOLD. Power Management puts the controller into its state. Where the write reaches it: a manager key is set or dropped in its register alone, PWR_CFG takes its bits and with SAVE keeps the power registers, and a stagger within R457 is taken. A PMBus alert with an enabled rail that does not answer raises the no-answer bit. (derived: R448, R449, R457, R459, R460) -/
def Obligations.PowerSettingsTakeTheirValues : Prop :=
  (∀ (c : Cmd) (s : State), s.readyFor true c = true → s.pwr.mode ≠ 1 → dw11 c / 65536 = 0 → field (dw11 c) 7 5 = 0 → field (dw11 c) 15 8 ≠ 0 →
    ∃ t, exec (.roomKey c) s = .next t ∧ t.pwr.idle = field (dw11 c) 15 8 ∧ t.pwr.srchDrop = (dw11 c).testBit 4 ∧ t.pwr.deepest = field (dw11 c) 3 2 ∧
      t.pwr.hold = dw11 c % 4 ∧ t.lastAnswer = some (c.id, .success) ∧ t = { s with pwr := t.pwr, fw := t.fw, io := t.io }) ∧
  (∀ (c : Cmd) (s : State), s.readyFor false c = true → dw11 c % 32 ≤ 2 →
    ∃ t, exec (.powerManagement c) s = .next t ∧ (t.ctrl c.id.ctrl).ps = dw11 c % 32 ∧ t.lastAnswer = some (c.id, .success) ∧
      (∀ k, k ≠ c.id.ctrl → t.ctrl k = s.ctrl k) ∧ t = { s with io := t.io }) ∧
  (∀ (p : Path) (d : Nat) (v : Word) (s : State), d < 18 → s.reach p (dwKEY d) = .ok →
    ∃ t, exec (.pwrKeyMgr p d v) s = .next t ∧ t.mgrKey d = v.toNat.testBit 16 ∧ (∀ o, o ≠ dwKEY d → t.reg o = s.reg o) ∧
      t = { s with dw := t.dw, pwr := t.pwr }) ∧
  (∀ (p : Path) (v : Word) (s : State), s.reach p (dwPWR + 0x8C) = .ok →
    ∃ t, exec (.pwrSave p v) s = .next t ∧ t.reg (dwPWR + 0x8C) = v.toNat &&& 0xF1 ∧ (∀ o, o ≠ dwPWR + 0x8C → t.reg o = s.reg o) ∧
      (v.toNat.testBit 8 = true → ∃ l, t.fw.sets.pwr = some l ∧ (dwPWR + 0x8C, v.toNat &&& 0xF1) ∈ l ∧ (dwPWR + 0x80, s.reg (dwPWR + 0x80)) ∈ l) ∧
      t = { s with dw := t.dw, fw := t.fw }) ∧
  (∀ (p : Path) (v : Word) (s : State), s.reach p (dwPWR + 0x90) = .ok → s.staggerOk (v.toNat % 128) (field v.toNat 15 8) = true →
    ∃ t, exec (.cartStagger p v) s = .next t ∧ t.reg (dwPWR + 0x90) = v.toNat &&& 0xFF7F ∧ (∀ o, o ≠ dwPWR + 0x90 → t.reg o = s.reg o) ∧
      t = { s with dw := t.dw }) ∧
  (∀ (a : List (Nat × RailAnswer)) (s : State), s.pwr.porst = true → s.pwr.refclk = true →
    exec (.pmbusAlert a) s = .next (s.each (((List.range 8).filter (fun r => (s.reg (dwPWR + 0x100 + 4 * r)).testBit 31)).filterMap (fun r => (look a r).map (fun x => (r, x)))) (fun s e => s.railAnswer e.1 e.2))) ∧
  (∀ (r w : Nat) (s : State), s.pwr.porst = true → s.pwr.refclk = true → r < 8 → (s.reg (dwPWR + 0x100 + 4 * r)).testBit 31 = true → w ≠ 0 →
    ∃ t, exec (.pmbusAlert [(r, .status w)]) s = .next t ∧ (t.w1c (dwPWR + 0x120)).testBit 0 = true ∧ t.pwr.pmbRail = r) ∧
  (∀ (r : Nat) (s : State), s.pwr.porst = true → s.pwr.refclk = true → r < 8 → (s.reg (dwPWR + 0x100 + 4 * r)).testBit 31 = true →
    ∃ t, exec (.pmbusAlert [(r, .nack)]) s = .next t ∧ (t.w1c (dwPWR + 0x120)).testBit 1 = true ∧ t.pwr.pmbRail = r)

/-- With DRAM neither in use nor failed, a population that passes R379 and channels that all pass training bring DRAM into use with every populated channel and the whole capacity, after the boot ROM and (while DDR_STAT.FAIL stands) through a retrain; a population that fails the check sets FAIL, leaves DRAM out of use and ends in rescue. A save of the map keeps MAP of DDR_CFG and changes nothing else. (derived: R379, R381, R382, R383, R385, R400) -/
def Obligations.DramTrainsOrFails : Prop :=
  (∀ (l : List Dimm) (res : List (Nat × ChannelResult)) (s : State), s.pwr.phase = .boot → s.ddr.ready = false → s.ddr.fail = false → popFault l = none →
    (∀ c ∈ bitsOf (popMask l) 8, chanPass ((look res c).getD noResult) = true) →
    ∃ t, exec (.dramTraining l res) s = .next t ∧ t.ddr.ready = true ∧ t.ddr.fail = false ∧ t.ddr.chUp = popMask l ∧ t.ddr.cap = popCap l (popMask l) ∧
      t.pwr.phase = .trained) ∧
  (∀ (l : List Dimm) (res : List (Nat × ChannelResult)) (k : Nat) (s : State), s.pwr.phase = .boot → s.ddr.ready = false → s.ddr.fail = false → popFault l = some k →
    ∃ t, exec (.dramTraining l res) s = .next t ∧ t.ddr.ready = false ∧ t.ddr.fail = true ∧ t.ddr.chUp = 0 ∧ t.pwr.phase = .rescue ∧ t.pwr.rescueCause = 2) ∧
  (∀ (p : Path) (l : List Dimm) (res : List (Nat × ChannelResult)) (s : State), s.reach p (dwDDR + 4) = .ok → s.ddr.fail = true → popFault l = none →
    (∀ c ∈ bitsOf (popMask l) 8, chanPass ((look res c).getD noResult) = true) →
    ∃ t, exec (.dramRetrain p l res) s = .next t ∧ t.ddr.ready = true ∧ t.ddr.fail = false ∧ t.ddr.chUp = popMask l) ∧
  (∀ (l : List Dimm) (res : List (Nat × ChannelResult)) (s : State), s.pwr.phase = .boot ∨ s.pwr.phase = .rescue → s.ddr.ready = false → s.ddr.fail = false →
    exec (.dramTraining l res) s = .next (s.train l res).trained) ∧
  (∀ (p : Path) (l : List Dimm) (res : List (Nat × ChannelResult)) (s : State), s.reach p (dwDDR + 4) = .ok → s.ddr.fail = true →
    exec (.dramRetrain p l res) s = .next (({ s with ddr := { s.ddr with fail := false } } : State).train l res).trained) ∧
  (∀ (p : Path) (l : List Dimm) (res : List (Nat × ChannelResult)) (s : State), s.reach p (dwDDR + 4) = .ok → s.ddr.fail = false →
    exec (.dramRetrain p l res) s = .next s) ∧
  (∀ (p : Path) (s : State), s.reach p (dwDDR + 4) = .ok →
    exec (.ddrSave p) s = .next { s with ddr := { s.ddr with savedOrder := field (s.reg (dwDDR + 8)) 9 8 } })

/-- On a channel in use: a recalibration moves the delay by no more than the drift; a refresh is issued and closes the rows of its banks, and one with requests waiting may be postponed up to four times. Arriving requests join their subchannel's queue: row hits are served, then the next request that needs an activation, which opens its row; a lone first activation of a row is tracked with count 1. The request chosen is never a write before an older read of the same 64 bytes, is one that has waited 2 µs where such a one may be served, and is no write while a read may be served and writes are not drained. A patrol pass is counted, and a corrected error at it. A disturbance window drops every count, releases throttles at step 1 that were not renewed and lowers the others not renewed. The log page answers a ready Manager controller. (derived: R384, R387, R388, R390, R392, R394, R395, R399) -/
def Obligations.DramRefreshAndDisturbanceAreCounted : Prop :=
  (∀ (ch drift : Nat) (s : State), s.chanOn ch = true →
    ∃ t d, exec (.dramRecalibration ch drift) s = .next t ∧ d ≤ drift ∧ t.ddr.drift.get zeroCell ch = s.ddr.drift.get zeroCell ch + d ∧
      (∀ k, k ≠ ch → t.ddr.drift.get zeroCell k = s.ddr.drift.get zeroCell k) ∧ t = { s with free := t.free, ddr := t.ddr }) ∧
  (∀ (ch rank bank dimm : Nat) (postpone : Bool) (celsius : Int) (s : State), s.chanOn ch = true →
    postpone = false ∨ s.dramWaits ch rank bank = false ∨ 4 ≤ (look s.ddr.postponed (ch, rank, s.refBank bank)).getD 0 →
    ∃ t, exec (.dramRefresh ch rank bank postpone dimm celsius) s = .next t ∧ look t.ddr.postponed (ch, rank, s.refBank bank) = none ∧
      (∀ k, k ≠ (ch, rank, s.refBank bank) → look t.ddr.postponed k = look s.ddr.postponed k) ∧
      (∀ e ∈ t.ddr.openRows, ¬(e.1.1 = ch ∧ e.1.2.1 = rank ∧ s.refBank e.1.2.2 = s.refBank bank))) ∧
  (∀ (ch rank bank dimm : Nat) (celsius : Int) (s : State), s.chanOn ch = true → (look s.ddr.postponed (ch, rank, s.refBank bank)).getD 0 < 4 → s.dramWaits ch rank bank = true →
    ∃ t, exec (.dramRefresh ch rank bank true dimm celsius) s = .next t ∧
      look t.ddr.postponed (ch, rank, s.refBank bank) = some ((look s.ddr.postponed (ch, rank, s.refBank bank)).getD 0 + 1) ∧ t.ddr.openRows = s.ddr.openRows) ∧
  (∀ (ch sub now : Nat) (reads writes : List DramReq) (ecc : DramEcc) (q : DramReq) (u v : State) (s : State), s.chanOn ch = true →
    u = { s with ddr := { s.ddr with queue := s.ddr.queue ++ (arrivalsOf reads writes).filter (fun a => a.req < 16 && (s.dramAt a.addr).chan = ch && (s.dramAt a.addr).sub = sub) } } →
    u.dramServe ch sub now u.ddr.queue.length = (some q, v) →
    exec (.dramActivation ch sub now reads writes ecc) s = .next ((v.activate q).dramEcc ch ecc)) ∧
  (∀ (ch sub now : Nat) (reads writes : List DramReq) (ecc : DramEcc) (u v : State) (s : State), s.chanOn ch = true →
    u = { s with ddr := { s.ddr with queue := s.ddr.queue ++ (arrivalsOf reads writes).filter (fun a => a.req < 16 && (s.dramAt a.addr).chan = ch && (s.dramAt a.addr).sub = sub) } } →
    u.dramServe ch sub now u.ddr.queue.length = (none, v) →
    exec (.dramActivation ch sub now reads writes ecc) s = .next v) ∧
  (∀ (q : DramReq) (now : Nat) (s : State), s.chanOn (s.dramAt q.addr).chan = true → q.req < 16 → s.ddr.queue = [] → s.ddr.throttles = [] → s.rowHit q = false →
    look s.ddr.acts (s.bankAt q.addr) = none →
    ∃ t, exec (.dramActivation (s.dramAt q.addr).chan (s.dramAt q.addr).sub now (if q.write then [] else [q]) (if q.write then [q] else []) .clean) s = .next t ∧
      look t.ddr.acts (s.bankAt q.addr) = some [{ row := (s.dramAt q.addr).row, req := q.req, count := 1 }] ∧
      look t.ddr.openRows (s.bankAt q.addr) = some (s.dramAt q.addr).row ∧ t.ddr.queue = [] ∧
      (∀ k, k ≠ s.bankAt q.addr → look t.ddr.acts k = look s.ddr.acts k ∧ look t.ddr.openRows k = look s.ddr.openRows k)) ∧
  (∀ (ch sub now : Nat) (q e : DramReq) (s : State), s.dramNext ch sub now = some q → q.write = true → e ∈ olderThan (s.subQueue ch sub) q → e.write = false →
    e.addr / 64 ≠ q.addr / 64) ∧
  (∀ (ch sub now : Nat) (q e : DramReq) (s : State), s.dramNext ch sub now = some q → e ∈ s.subQueue ch sub → e.write = false → s.dramMay now e = true → e.ns + 2000 ≤ now →
    q.ns + 2000 ≤ now) ∧
  (∀ (ch sub now : Nat) (q e : DramReq) (s : State), s.dramNext ch sub now = some q → s.ddr.draining.contains (ch, sub) = false → now < q.ns + 2000 →
    e ∈ s.subQueue ch sub → e.write = false → s.dramMay now e = true → q.write = false) ∧
  (∀ s : State, s.ddr.ready = true → s.ddr.selfRef = false →
    ∃ t, exec .disturbanceWindow s = .next t ∧ t.ddr.acts = [] ∧ (∀ x ∈ t.ddr.throttles, x.live = false) ∧
      t.ddr.throttles.length ≤ s.ddr.throttles.length ∧ t = { s with ddr := t.ddr }) ∧
  (∀ (ch : Nat) (s : State), s.chanOn ch = true →
    ∃ t, exec (.dramPatrolScrub ch .clean) s = .next t ∧
      t.ddr.log.get zeroCell (offChan ch 32) = satAdd 64 (s.ddr.log.get zeroCell (offChan ch 32)) 1 ∧ t = { s with ddr := t.ddr }) ∧
  (∀ (ch rank addr : Nat) (s : State), s.chanOn ch = true →
    ∃ t, exec (.dramPatrolScrub ch (.corrected rank addr)) s = .next t ∧
      t.ddr.log.get zeroCell (offChan ch 32) = satAdd 64 (s.ddr.log.get zeroCell (offChan ch 32)) 1 ∧
      t.ddr.log.get zeroCell (offChan ch 16) = satAdd 64 (s.ddr.log.get zeroCell (offChan ch 16)) 1 ∧
      t.dw.cnt.get zeroCell (dwDDR + 0x100 + 8 * ch) = satAdd 32 (s.dw.cnt.get zeroCell (dwDDR + 0x100 + 8 * ch)) 1 ∧
      t = { s with ddr := t.ddr, dw := t.dw, gbk := t.gbk }) ∧
  (∀ (ch : Nat) (ecc : DramEcc) (s : State), s.chanOn ch = true → exec (.dramPatrolScrub ch ecc) s = .next ((s.ddrCount (offChan ch 32) 1).dramEcc ch ecc)) ∧
  (∀ (c : Cmd) (s : State), s.readyFor true c = true →
    ∃ t, exec (.throttleAndDisturbance c) s = .next t ∧ t.lastAnswer = some (c.id, .success) ∧ t = { s with io := t.io })

/-- For a slot the part has, while the pins act: PRESENCE_LOW takes an empty slot to DEBOUNCE and CART_INSERTED on to POWERING, waiting for power with its insertion event raised; PWREN_RISE powers the first waiting slot and restarts its sequencer; removal leaves the slot EMPTY with nothing of the cartridge; an alert sets ALERT and its event, and asks a powered cartridge for its health; an unanswered GET_HEALTH is logged and no longer waited for. The power and training time-outs reject the slot with reasons 7 and 8. The far end's signal takes a powered slot to TRAINING. PWR_OFF takes a slot off at once, or after SHUTDOWN where its link is up; PWR_ON starts an OFF, REJECTED or FAILED slot; in any other state each is only logged. The lantern frame shows which lanterns are lit. EVENT_EN takes its eleven bits. (derived: R69, R71, R72, R74, R75, R77, R92, R106, R457) -/
def Obligations.SlotEventsMoveTheSlot : Prop :=
  (∀ (n : Nat) (s : State), n < s.part.slots → s.pinsLive = true →
    ∃ t, exec (.presenceLow n) s = .next t ∧ (t.slot n).st = (if (s.slot n).st = .empty then .debounce else (s.slot n).st) ∧ (t.slot n).prsntLow = true ∧
      (∀ k, k ≠ n → t.slot k = s.slot k) ∧ t = { s with slots := t.slots }) ∧
  (∀ (n : Nat) (which : Option Nat) (s : State), n < s.part.slots → s.pinsLive = true → (s.slot n).st = .debounce → (s.slot n).prsntLow = true →
    ∃ t, exec (.cartInserted ⟨n, which⟩) s = .next t ∧ (t.slot n).st = .powering ∧ (t.slot n).waitPower = true ∧ (t.slot n).prsnt = true ∧
      (t.w1c (dwCART n + 0x40)).testBit 0 = true ∧ (∀ k, k ≠ n → t.slot k = s.slot k) ∧
      (which = none → t.seqs = s.seqs ∧ t.shelf = s.shelf) ∧ (∀ c ∈ which.toList, t.seqOf n = s.shelf.away.get seq0 c) ∧
      t = { s with slots := t.slots, seqs := t.seqs, shelf := t.shelf, dw := t.dw, gbk := t.gbk, io := t.io }) ∧
  (∀ (e : Nat × Slot) (s : State), (s.slots.filter (fun x => x.2.waitPower)).head? = some e →
    ∃ t, exec .pwrenRise s = .next t ∧ (t.slot e.1).pwren = true ∧ (t.slot e.1).waitPower = false ∧ (t.slot e.1).phase = 1 ∧
      t.seqOf e.1 = (s.seqOf e.1).powerUp s.shelf.next ∧ (∀ k, k ≠ e.1 → t.slot k = s.slot k ∧ t.seqOf k = s.seqOf k) ∧
      t = { s with slots := t.slots, seqs := t.seqs, shelf := t.shelf }) ∧
  (∀ (n : Nat) (s : State), n < s.part.slots → s.pinsLive = true → (s.slot n).st ≠ .empty →
    ∃ t, exec (.cartRemoved n) s = .next t ∧ (t.slot n).st = .empty ∧ (t.slot n).prsnt = false ∧ (t.slot n).desc = [] ∧
      (t.slot n).serial = 0 ∧ (t.w1c (dwCART n + 0x40)).testBit 1 = true ∧ t.seqOf n = {}) ∧
  (∀ (n : Nat) (s : State), n < s.part.slots → s.pinsLive = true → (s.slot n).prsntLow = true →
    ∃ t, exec (.cartAlert n) s = .next t ∧ (t.slot n).alert = true ∧ (t.w1c (dwCART n + 0x40)).testBit 7 = true ∧
      ((s.slot n).pwren = true → (t.slot n).waits (fun p => p = .health) = true) ∧ (∀ o, o ≠ dwCART n + 0x40 → t.w1c o = s.w1c o) ∧ t = { s with slots := t.slots, dw := t.dw, io := t.io }) ∧
  (∀ (n : Nat) (s : State), n < s.part.slots → (s.slot n).waits (fun p => p = .health) = true →
    ∃ t, exec (.getHealthTimeout n) s = .next t ∧ (t.slot n).waits (fun p => p = .health) = false ∧ (t.slot n).st = (s.slot n).st ∧
      t.gbk = (s.log 0x030B [n, 0xFF, 0x8000]).gbk ∧ (∀ k, k ≠ n → t.slot k = s.slot k) ∧ t = { s with slots := t.slots, gbk := t.gbk, dw := t.dw }) ∧
  (∀ (n : Nat) (s : State), n < s.part.slots → (s.slot n).st = .powering → (s.slot n).pwren = true →
    ∃ t, exec (.cartPowerTimeout n) s = .next t ∧ (t.slot n).st = .rejected ∧ (t.slot n).reason = 7 ∧ (t.slot n).pwren = false ∧
      (t.w1c (dwCART n + 0x40)).testBit 3 = true ∧ t = { s with slots := t.slots, dw := t.dw, gbk := t.gbk, io := t.io }) ∧
  (∀ (n : Nat) (s : State), n < s.part.slots → (s.slot n).st = .training →
    ∃ t, exec (.trainingTimeout n) s = .next t ∧ (t.slot n).st = .rejected ∧ (t.slot n).reason = 8 ∧ (t.slot n).pwren = false ∧
      (t.w1c (dwCART n + 0x40)).testBit 3 = true ∧ t = { s with slots := t.slots, dw := t.dw, gbk := t.gbk, io := t.io }) ∧
  (∀ (n : Nat) (s : State), n < s.part.slots → (s.slot n).pwren = true → (s.slot n).phase = 1 →
    ∃ t, exec (.farEndSignal n) s = .next t ∧ (t.slot n).phase = 2 ∧ (t.slot n).st = (if (s.slot n).st = .powering then .training else (s.slot n).st) ∧
      (∀ k, k ≠ n → t.slot k = s.slot k) ∧ t = { s with slots := t.slots }) ∧
  (∀ (p : Path) (n : Nat) (s : State), n < 64 → s.reach p (dwCART n + 4) = .ok → (s.slot n).st ∈ [.debounce, .powering, .training] →
    ∃ t, exec (.pwrOff p n) s = .next t ∧ (t.slot n).st = .off ∧ (t.slot n).pwren = false ∧ (t.slot n).waitPower = false ∧ ((s.slot n).phase ≠ 5 → ∀ k, k ≠ n → t.slot k = s.slot k) ∧
      t = { s with slots := t.slots, dw := t.dw, io := t.io }) ∧
  (∀ (p : Path) (n : Nat) (s : State), n < 64 → s.reach p (dwCART n + 4) = .ok → (s.slot n).st ∈ [.admitting, .quarantined, .admitted, .rejected, .readyRemove, .failed] →
    (s.slot n).updating = false → (s.slot n).phase ≠ 5 →
    ∃ t, exec (.pwrOff p n) s = .next t ∧ (t.slot n).st = .off ∧ (t.slot n).pwren = false ∧ (∀ k, k ≠ n → t.slot k = s.slot k) ∧ t = { s with slots := t.slots }) ∧
  (∀ (p : Path) (n : Nat) (s : State), n < 64 → s.reach p (dwCART n + 4) = .ok → (s.slot n).st ∈ [.admitting, .quarantined, .admitted, .rejected, .readyRemove, .failed] →
    (s.slot n).phase = 5 →
    ∃ t, exec (.pwrOff p n) s = .next t ∧ (t.slot n).offAfterShutdown = true ∧ (t.slot n).waits (fun p => p = .shutdown) = true ∧ (t.slot n).updating = ((s.slot n).updating && (s.slot n).st = .admitting) ∧
      (∀ k, k ≠ n → t.slot k = s.slot k) ∧ t = { s with slots := t.slots, dw := t.dw, gbk := t.gbk, io := t.io }) ∧
  (∀ (p : Path) (n : Nat) (s : State), n < 64 → s.reach p (dwCART n + 4) = .ok → (s.slot n).st ∈ [.inService, .draining, .empty, .off] →
    exec (.pwrOff p n) s = .next (s.log 0x0312 [n, (s.slot n).st.code])) ∧
  (∀ (p : Path) (n : Nat) (s : State), n < 64 → s.reach p (dwCART n + 4) = .ok → (s.slot n).st ∈ [.off, .rejected, .failed] →
    ∃ t, exec (.pwrOn p n) s = .next t ∧ (t.slot n).st = .powering ∧ (t.slot n).waitPower = true ∧ (∀ k, k ≠ n → t.slot k = s.slot k) ∧
      t = { s with slots := t.slots }) ∧
  (∀ (p : Path) (n : Nat) (s : State), n < 64 → s.reach p (dwCART n + 4) = .ok → (s.slot n).st ∉ [.off, .rejected, .failed] →
    exec (.pwrOn p n) s = .next (s.log 0x0312 [n, (s.slot n).st.code])) ∧
  (∀ s : State, s.pwr.phase ≠ .held → s.sleepsFrom 2 = false →
    ∃ t, exec .lanternFrame s = .next t ∧ (∀ n < 64, t.pwr.lantern.getLsbD n = s.lanternOn n) ∧ t = { s with pwr := { s.pwr with lantern := t.pwr.lantern } }) ∧
  (∀ (p : Path) (n : Nat) (v : Word) (s : State), n < 64 → s.reach p (dwCART n + 0x44) = .ok →
    ∃ t, exec (.eventEnWrite p n v) s = .next t ∧ t.reg (dwCART n + 0x44) = v.toNat &&& 0x7FF ∧
      (∀ o, o ≠ dwCART n + 0x44 → t.reg o = s.reg o) ∧ t = { s with slots := t.slots, dw := t.dw, io := t.io })

/-- A link-up with a locked lane and protocol version 1 brings the link up at its width and sends IDENTIFY; another version rejects with reason 8. An accepted descriptor is kept and the two certificates are asked for; one that fails its checks rejects with 4, a denied serial with 3, no certificates with 2 unless the policy class is 3, which asks for the life counts first. A proof of identity that holds, under a chain that the policy allows, admits a cartridge of a listed version with its life counts taken; one that does not hold rejects with 1. The identify and authentication time-outs reject with 4 and 1, fail a member, and reject a cartridge that authenticates again with 12. An update that times out is over, with its status. A life poll takes the counts of LIFE_READ. A drained member whose bands are gone leaves its pool, for ADMITTED after REMOVE, else for READY_REMOVE. (derived: R47, R49, R52, R53, R54, R59, R61, R65, R92, R95, R173) -/
def Obligations.AdmissionGoesStepByStep : Prop :=
  (∀ (n : Nat) (lp : LinkParams) (a b : Bool) (s : State), n < s.part.slots → 2 ≤ (s.slot n).phase → (s.slot n).phase ≤ 4 → (s.slot n).pwren = true → (s.seqOf n).noTrain = false →
    lp.pver = 1 → (lp.lane0 && !s.lanePattern (64 + 2 * n)) = a → (lp.lane1 && !s.lanePattern (65 + 2 * n)) = b → (a || b) = true →
    ∃ t, exec (.linkUp n lp) s = .next t ∧ (t.slot n).phase = 5 ∧ (t.slot n).width = (if a && b then 2 else 1) ∧ (t.slot n).depth = lp.cmdDepth ∧ (t.slot n).farBuf = lp.replayBuf ∧
      (t.slot n).st = (if (s.slot n).st = .training then .admitting else (s.slot n).st) ∧
      (t.slot n).waits (fun p => p = .identify) = true ∧ t = { s with slots := t.slots, dw := t.dw, gbk := t.gbk, io := t.io }) ∧
  (∀ (n : Nat) (lp : LinkParams) (s : State), n < s.part.slots → 2 ≤ (s.slot n).phase → (s.slot n).phase ≤ 4 → (s.slot n).pwren = true → (s.seqOf n).noTrain = false →
    lp.pver ≠ 1 →
    ∃ t, exec (.linkUp n lp) s = .next t ∧ (t.slot n).st = .rejected ∧ (t.slot n).reason = 8 ∧ (t.slot n).pwren = false) ∧
  (∀ (n : Nat) (s : State), n < s.part.slots → (s.slot n).waits (fun p => p = .identify) = true → (s.slot n).st = .admitting → (s.slot n).reauth = false →
    ∃ t, exec (.identifyTimeout n) s = .next t ∧ (t.slot n).st = .rejected ∧ (t.slot n).reason = 4 ∧ (t.slot n).pwren = false ∧
      t = { s with slots := t.slots, dw := t.dw, gbk := t.gbk, io := t.io }) ∧
  (∀ (n p : Nat) (s : State), n < s.part.slots → (s.slot n).waits (fun p => p = .identify) = true → (s.slot n).st.member = true → (s.slot n).pool = some p →
    exec (.identifyTimeout n) s = .next (s.failMember n 0x0C)) ∧
  (∀ (n : Nat) (s : State), n < s.part.slots → (s.slot n).waits (fun p => p = .identify) = true → (s.slot n).st = .admitted ∨ (s.slot n).st = .quarantined → (s.slot n).reauth = true →
    ∃ t, exec (.identifyTimeout n) s = .next t ∧ (t.slot n).st = .rejected ∧ (t.slot n).reason = 0x0C ∧ (t.slot n).pwren = false) ∧
  (∀ (n : Nat) (d : List Byte) (s : State), n < s.part.slots → (s.slot n).waits (fun p => p = .identify) = true → descOk d = true →
    ((s.slot n).reauth = true → (s.slot n).serial = leAt d 24 16) → s.gbk.polDeny.contains (leAt d 24 16) = false → leAt d 92 1 ≠ 0 →
    ∃ t, exec (.descriptorReceived n d) s = .next t ∧ (t.slot n).desc = d ∧ (t.slot n).serial = leAt d 24 16 ∧ (t.slot n).fwVer = leAt d 40 8 ∧
      (t.slot n).polClass = s.gbk.polClass ∧ (t.slot n).polIssuers = s.gbk.polIssuers ∧
      (t.slot n).waits (fun p => p = .cert 0) = true ∧ (t.slot n).waits (fun p => p = .cert 1) = true ∧ (t.slot n).waits (fun p => p = .identify) = false ∧
      (∀ k, k ≠ n → t.slot k = s.slot k) ∧ t = { s with slots := t.slots, seqs := t.seqs }) ∧
  (∀ (n : Nat) (d : List Byte) (s : State), n < s.part.slots → (s.slot n).waits (fun p => p = .identify) = true → (s.slot n).st = .admitting → (s.slot n).reauth = false →
    descOk d = false ∨ s.gbk.polDeny.contains (leAt d 24 16) = true ∨ (leAt d 92 1 = 0 ∧ s.gbk.polClass ≠ 3) →
    ∃ t, exec (.descriptorReceived n d) s = .next t ∧ (t.slot n).st = .rejected ∧
      (t.slot n).reason = (if descOk d = false then 4 else if s.gbk.polDeny.contains (leAt d 24 16) = true then 3 else 2) ∧ (t.slot n).pwren = false) ∧
  (∀ (n : Nat) (d : List Byte) (s : State), n < s.part.slots → (s.slot n).waits (fun p => p = .identify) = true → descOk d = true → (s.slot n).reauth = false →
    s.gbk.polDeny.contains (leAt d 24 16) = false → leAt d 92 1 = 0 → s.gbk.polClass = 3 →
    ∃ t, exec (.descriptorReceived n d) s = .next t ∧ (t.slot n).desc = d ∧ (t.slot n).waits (fun p => p = .admitLife) = true ∧ (t.slot n).st = (s.slot n).st ∧
      (∀ k, k ≠ n → t.slot k = s.slot k) ∧ t = { s with slots := t.slots, seqs := t.seqs }) ∧
  (∀ (n : Nat) (r : AuthResult) (life : Life) (s : State), n < s.part.slots → (s.slot n).waits (fun p => p = .challenge) = true →
    (s.slot n).chainAllowed r = true → (s.slot n).st = .admitting → (s.slot n).updating = false → (s.slot n).reauth = false → (s.slot n).classChg = false →
    (s.slot n).pool = none → (s.slot n).lastPool = none → s.compatSeq (s.slot n).model (s.slot n).fwVer = true →
    ∃ t, exec (.signatureReceived n r life) s = .next t ∧
      ((s.slot n).identityOk r = true → (t.slot n).st = .admitted ∧ (t.slot n).auth = true ∧ (t.slot n).retired = life.retired ∧
        (t.slot n).life = lifeUsed (s.slot n) life ∧ (t.w1c (dwCART n + 0x40)).testBit 2 = true) ∧
      ((s.slot n).identityOk r = false → (t.slot n).st = .rejected ∧ (t.slot n).reason = 1 ∧ (t.slot n).pwren = false) ∧
      t = { s with slots := t.slots, dw := t.dw, gbk := t.gbk, io := t.io }) ∧
  (∀ (n : Nat) (r : AuthResult) (life : Life) (s : State), n < s.part.slots → (s.slot n).waits (fun p => p = .challenge) = true →
    (s.slot n).chainAllowed r = false → (s.slot n).st = .admitting → (s.slot n).reauth = false →
    ∃ t, exec (.signatureReceived n r life) s = .next t ∧ (t.slot n).st = .rejected ∧
      (t.slot n).reason = (if (s.slot n).identityOk r = true then 2 else 1) ∧ (t.slot n).pwren = false) ∧
  (∀ (n : Nat) (s : State), n < s.part.slots → (s.slot n).waits (fun p => p = .challenge) = true → (s.slot n).st = .admitting → (s.slot n).reauth = false →
    ∃ t, exec (.authTimeout n) s = .next t ∧ (t.slot n).st = .rejected ∧ (t.slot n).reason = 1 ∧ (t.slot n).pwren = false ∧
      t = { s with slots := t.slots, dw := t.dw, gbk := t.gbk, io := t.io }) ∧
  (∀ (n p : Nat) (s : State), n < s.part.slots → (s.slot n).waits (fun p => p = .challenge) = true → (s.slot n).st.member = true → (s.slot n).pool = some p →
    exec (.authTimeout n) s = .next (s.failMember n 0x0C)) ∧
  (∀ (n : Nat) (s : State), n < s.part.slots → (s.slot n).updating = true →
    ∃ t, exec (.seqUpdateTimeout n) s = .next t ∧ (t.slot n).updating = false ∧ (t.slot n).st = (s.slot n).st ∧ (t.slot n).updCmd = none ∧
      (∀ id ∈ (s.slot n).updCmd.toList, t.lastAnswer = some (id, .success)) ∧
      (∀ k, k ≠ n → t.slot k = s.slot k) ∧ t = { s with slots := t.slots, dw := t.dw, gbk := t.gbk, io := t.io }) ∧
  (∀ (n : Nat) (life : Life) (s : State), n < s.part.slots → (s.slot n).st = .admitted →
    ∃ t, exec (.lifePoll n life) s = .next t ∧ (t.slot n).life = lifeUsed (s.slot n) life ∧ (t.slot n).retired = life.retired ∧ (t.slot n).st = .admitted ∧
      t = { s with slots := t.slots, dw := t.dw, gbk := t.gbk, io := t.io }) ∧
  (∀ (n : Nat) (life : Life) (s : State), n < s.part.slots → (s.slot n).st.member = true → exec (.lifePoll n life) s = .next ((s.setLife n life).lifeCheck n)) ∧
  (∀ (n p : Nat) (s : State), n < s.part.slots → (s.slot n).pool = some p → (s.slot n).st = .draining → s.holdsData n = false →
    s.media.jrecs.any (fun j => j.host = n ∧ s.newestJ j) = false →
    ∃ t, exec (.migrateDone n) s = .next t ∧ (t.slot n).pool = none ∧ (t.slot n).lastPool = some p ∧ (t.pool p).members.any (fun m => m.slot = n) = false ∧
      ((s.slot n).drain = some .remove → (s.slot n).lifeFlags.testBit 1 = false → (t.slot n).st = .admitted) ∧
      ((s.slot n).drain ≠ some .remove ∨ (s.slot n).lifeFlags.testBit 1 = true → (s.slot n).phase ≠ 5 → (t.slot n).st = .readyRemove ∧ (t.slot n).pwren = false) ∧
      ((s.slot n).drain ≠ some .remove ∨ (s.slot n).lifeFlags.testBit 1 = true → (s.slot n).phase = 5 → (t.slot n).offAfterShutdown = true ∧ (t.slot n).waits (fun p => p = .shutdown) = true))

/-- While superframes travel: a control block that is not whole asks for what is expected; one of another version or with byte 2 set asks too; one with another number than the expected one is dropped; the expected one is accepted, an acknowledgement falls due, its three messages are taken in order and its data blocks go to the open frames (three idle messages change the two ends only). ACK takes every superframe up to the named one out of the buffer; NAK and a replay time-out replay from a superframe, and the fourth replay of one starts a fast retrain; the acknowledgement timer sends what is due. A link reset clears both ends and, where the link is up, starts the identity exchange. A requested or detected fast retrain leaves the up phase for phase 6; one that succeeds returns to it with both ends naming what they expect, one that fails goes to a full retrain. Parameters of version 1 move training on; another version rejects the slot, or stops the sequencer's training. (derived: R81, R82, R84, R90, R91, R92, R93, R95) -/
def Obligations.LinkEndsMoveTheirNumbers : Prop :=
  (∀ (n : Nat) (toCtrl : Bool) (b data : List Byte) (s : State), n < s.part.slots → s.linkTalks n = true → blockBad b = true →
    exec (.controlBlock n toCtrl ⟨b, data⟩) s = .next ((s.sends n toCtrl b).nakFor n toCtrl)) ∧
  (∀ (n : Nat) (toCtrl : Bool) (b data : List Byte) (s : State), n < s.part.slots → s.linkTalks n = true → blockBad b = false → (leAt b 0 2 / 4096 ≠ 1 ∨ leAt b 2 1 ≠ 0) →
    ∃ t, exec (.controlBlock n toCtrl ⟨b, data⟩) s = .next t ∧ (t.endOf (endKey n toCtrl)).nakSent = true ∧ (t.endOf (endKey n toCtrl)).nakDue = true ∧
      (t.endOf (endKey n toCtrl)).rxNext = (s.endOf (endKey n toCtrl)).rxNext) ∧
  (∀ (n : Nat) (toCtrl : Bool) (b data : List Byte) (s : State), n < s.part.slots → s.linkTalks n = true → blockBad b = false → leAt b 0 2 / 4096 = 1 → leAt b 2 1 = 0 →
    leAt b 0 2 % 4096 ≠ (s.endOf (endKey n toCtrl)).rxNext →
    exec (.controlBlock n toCtrl ⟨b, data⟩) s = .next (s.sends n toCtrl b)) ∧
  (∀ (n : Nat) (toCtrl : Bool) (b data : List Byte) (u : State) (s : State), n < s.part.slots → s.linkTalks n = true → blockBad b = false → leAt b 0 2 / 4096 = 1 → leAt b 2 1 = 0 →
    leAt b 0 2 % 4096 = (s.endOf (endKey n toCtrl)).rxNext →
    u = ((s.sends n toCtrl b).acceptSf n toCtrl (leAt b 0 2 % 4096)).takeBlockMsgs n toCtrl (leAt b 0 2 % 4096) b →
    exec (.controlBlock n toCtrl ⟨b, data⟩) s = .next (if (u.endOf (endKey n toCtrl)).rxNext = (leAt b 0 2 % 4096 + 1) % 4096 then u.takeData n toCtrl data else u)) ∧
  (∀ (n : Nat) (toCtrl : Bool) (b data : List Byte) (s : State), n < s.part.slots → s.linkTalks n = true → blockBad b = false →
    leAt b 0 2 / 4096 = 1 → leAt b 2 1 = 0 → leAt b 0 2 % 4096 = (s.endOf (endKey n toCtrl)).rxNext → leAt b 3 1 = 0 → leAt b 22 1 = 0 → leAt b 41 1 = 0 →
    ∃ t, exec (.controlBlock n toCtrl ⟨b, data⟩) s = .next t ∧ (t.endOf (endKey n toCtrl)).rxNext = (leAt b 0 2 % 4096 + 1) % 4096 ∧
      (t.endOf (endKey n toCtrl)).ackDue = true ∧ (t.endOf (endKey n toCtrl)).nakSent = false ∧
      (∀ k, k / 2 ≠ n → t.endOf k = s.endOf k) ∧ t = { s.sends n toCtrl b with ends := t.ends }) ∧
  (∀ (n : Nat) (toCtrl : Bool) (sf : BitVec 12) (f : Superframe) (older newer : List Superframe) (s : State), n < s.part.slots → s.linkRuns n = true →
    (s.endOf (endKey n toCtrl)).replay = older ++ f :: newer → f.no = sf.toNat → (∀ g ∈ older, g.no ≠ sf.toNat) →
    ∃ t, exec (.ack n toCtrl sf) s = .next t ∧ (t.endOf (endKey n toCtrl)).replay = newer ∧
      (∀ k, k ≠ endKey n toCtrl → t.endOf k = s.endOf k) ∧ t = { s with ends := t.ends }) ∧
  (∀ (n : Nat) (toCtrl : Bool) (sf : BitVec 12) (s : State), n < s.part.slots → s.linkRuns n = true → (∀ g ∈ (s.endOf (endKey n toCtrl)).replay, g.no ≠ sf.toNat) →
    ∃ t, exec (.ack n toCtrl sf) s = .next t ∧ (t.endOf (endKey n toCtrl)).replay = (s.endOf (endKey n toCtrl)).replay ∧
      (∀ k, k ≠ endKey n toCtrl → t.endOf k = s.endOf k) ∧ t = { s with ends := t.ends }) ∧
  (∀ (n k : Nat) (toCtrl : Bool) (sf : BitVec 12) (s : State), n < s.part.slots → s.linkRuns n = true →
    k = (if (s.endOf (endKey n toCtrl)).replays.1 = sf.toNat then (s.endOf (endKey n toCtrl)).replays.2 + 1 else 1) → k < 4 →
    ∃ t, exec (.nak n toCtrl sf) s = .next t ∧ (t.endOf (endKey n toCtrl)).replays = (sf.toNat, k) ∧
      (t.endOf (endKey n toCtrl)).resend = (s.endOf (endKey n toCtrl)).replay.dropWhile (fun f => f.no ≠ sf.toNat) ∧
      (∀ k, k ≠ endKey n toCtrl → t.endOf k = s.endOf k) ∧ t = { s with ends := t.ends, dw := t.dw }) ∧
  (∀ (n : Nat) (toCtrl : Bool) (sf : BitVec 12) (s : State), n < s.part.slots → s.linkRuns n = true → (s.endOf (endKey n toCtrl)).replays = (sf.toNat, 3) → (s.slot n).st.member = false →
    ∃ t, exec (.nak n toCtrl sf) s = .next t ∧ (t.slot n).phase = 6 ∧ (t.endOf (endKey n toCtrl)).replays = (0, 0) ∧
      (∀ k, k ≠ endKey n toCtrl → t.endOf k = s.endOf k)) ∧
  (∀ (n k : Nat) (toCtrl : Bool) (f : Superframe) (rest : List Superframe) (s : State), n < s.part.slots → s.linkRuns n = true →
    (s.endOf (endKey n (!toCtrl))).replay = f :: rest → k = (if (s.endOf (endKey n (!toCtrl))).replays.1 = f.no then (s.endOf (endKey n (!toCtrl))).replays.2 + 1 else 1) → k < 4 →
    ∃ t, exec (.replayTimeout n toCtrl) s = .next t ∧ (t.endOf (endKey n (!toCtrl))).replays = (f.no, k) ∧ (t.endOf (endKey n (!toCtrl))).resend = f :: rest ∧
      (∀ k, k ≠ endKey n (!toCtrl) → t.endOf k = s.endOf k) ∧ t = { s with ends := t.ends, dw := t.dw }) ∧
  (∀ (n : Nat) (toCtrl : Bool) (f : Superframe) (rest : List Superframe) (s : State), n < s.part.slots → s.linkRuns n = true →
    (s.endOf (endKey n (!toCtrl))).replay = f :: rest → (s.endOf (endKey n (!toCtrl))).replays = (f.no, 3) → (s.slot n).st.member = false →
    ∃ t, exec (.replayTimeout n toCtrl) s = .next t ∧ (t.slot n).phase = 6) ∧
  (∀ (n : Nat) (toCtrl : Bool) (s : State), n < s.part.slots → s.linkRuns n = true → (s.endOf (endKey n toCtrl)).ackDue = true → (s.endOf (endKey n toCtrl)).resend = [] →
    ∃ t, exec (.ackTimer n toCtrl) s = .next t ∧ (t.endOf (endKey n toCtrl)).ackDue = false ∧ (t.endOf (endKey n toCtrl)).nakDue = false ∧
      (∀ k, k ≠ endKey n toCtrl → t.endOf k = s.endOf k) ∧ t = { s with ends := t.ends, slots := t.slots, seqs := t.seqs }) ∧
  (∀ (n : Nat) (toCtrl : Bool) (f : Superframe) (rest : List Superframe) (s : State), n < s.part.slots → s.linkRuns n = true → (s.endOf (endKey n toCtrl)).ackDue = true →
    (s.endOf (endKey n toCtrl)).resend = f :: rest →
    ∃ t, exec (.ackTimer n toCtrl) s = .next t ∧ (t.endOf (endKey n toCtrl)).last = some f ∧ (t.endOf (endKey n toCtrl)).resend = rest ∧ t = { s with ends := t.ends }) ∧
  (∀ (p : Path) (n : Nat) (s : State), n < 64 → s.reach p (dwCART n + 4) = .ok → (s.slot n).pwren = true →
    ∃ t, exec (.linkReset p n) s = .next t ∧ t.endOf (endKey n true) = {} ∧ t.endOf (endKey n false) = {} ∧
      ((s.slot n).phase = 5 → (t.slot n).waits (fun p => p = .identify) = true ∧ (t.slot n).syncDue = true) ∧
      ((s.slot n).phase = 6 → (t.slot n).idDue = true ∧ (t.slot n).syncDue = true) ∧ (t.slot n).phase = (s.slot n).phase ∧
      (∀ k, k / 2 ≠ n → t.endOf k = s.endOf k) ∧ (∀ k, k ≠ n → t.slot k = s.slot k) ∧ t = { s with ends := t.ends, slots := t.slots, free := t.free, gbk := t.gbk, dw := t.dw }) ∧
  (∀ (p : Path) (n : Nat) (s : State), n < 64 → s.reach p (dwCART n + 4) = .ok → (s.slot n).phase = 5 → (s.slot n).st.member = false →
    ∃ t, exec (.retrain p n) s = .next t ∧ (t.slot n).phase = 6 ∧ (t.slot n).out = (s.slot n).out ∧ t.ends = s.ends ∧
      t = { s with slots := t.slots, free := t.free, gbk := t.gbk, dw := t.dw, io := t.io }) ∧
  (∀ (p : Path) (n : Nat) (s : State), n < 64 → s.reach p (dwCART n + 4) = .ok → (s.slot n).phase = 5 → (s.slot n).st.member = true →
    ∃ u : State, exec (.retrain p n) s = .next (((u.setSlow n 1).bump (dwCART n + 0x20) 1).log 0x0309 [n, 0, s.freeVal]) ∧ (u.slot n).phase = 6 ∧ (u.slot n).out = (s.slot n).out ∧
      u = { s with slots := u.slots, free := u.free, gbk := u.gbk, dw := u.dw, io := u.io }) ∧
  (∀ (n cause : Nat) (s : State), n < s.part.slots → (s.slot n).phase = 5 → (s.slot n).st.member = false →
    ∃ t, exec (.fastRetrain n cause) s = .next t ∧ (t.slot n).phase = 6 ∧ (t.slot n).out = (s.slot n).out ∧ t.ends = s.ends ∧
      t = { s with slots := t.slots, gbk := t.gbk, dw := t.dw, io := t.io }) ∧
  (∀ (n cause : Nat) (s : State), n < s.part.slots → (s.slot n).phase = 5 → (s.slot n).st.member = true →
    ∃ u : State, exec (.fastRetrain n cause) s = .next (((u.setSlow n 1).bump (dwCART n + 0x20) 1).log 0x0309 [n, 0, cause]) ∧ (u.slot n).phase = 6 ∧ (u.slot n).out = (s.slot n).out ∧
      u = { s with slots := u.slots, gbk := u.gbk, dw := u.dw, io := u.io }) ∧
  (∀ (n : Nat) (lp : LinkParams) (s : State), n < s.part.slots → (s.slot n).phase = 6 →
    ∃ t, exec (.retrainDone n true false lp) s = .next t ∧ (t.slot n).phase = 5 ∧ (t.slot n).idDue = false ∧
      (t.endOf (endKey n true)) = { s.endOf (endKey n true) with nakSent := true, nakDue := true } ∧
      (t.endOf (endKey n false)) = { s.endOf (endKey n false) with nakSent := true, nakDue := true } ∧
      ((s.slot n).idDue = false → (t.slot n).out = (s.slot n).out) ∧ ((s.slot n).idDue = true → (t.slot n).waits (fun p => p = .identify) = true) ∧ (∀ k, k ≠ n → t.slot k = s.slot k) ∧
      t = { s with slots := t.slots, ends := t.ends }) ∧
  (∀ (n : Nat) (lp : LinkParams) (s : State), n < s.part.slots → (s.slot n).phase = 6 → (s.slot n).st.member = false →
    ∃ t, exec (.retrainDone n false false lp) s = .next t ∧ (t.slot n).phase = 1 ∧ (t.slot n).lanes = 0) ∧
  (∀ (n : Nat) (lp : LinkParams) (s : State), n < s.part.slots → 1 ≤ (s.slot n).phase → (s.slot n).phase ≤ 4 → (s.slot n).st ≠ .powering → (s.slot n).st ≠ .training →
    lp.pver = 1 → (lp.lane0 || lp.lane1) = true →
    ∃ t, exec (.retrainDone n true true lp) s = .next t ∧ (t.slot n).phase = 5 ∧ (t.slot n).width = (if lp.lane0 && lp.lane1 then 2 else 1) ∧
      (t.slot n).waits (fun p => p = .identify) = true ∧ (t.slot n).syncDue = true ∧ t.endOf (endKey n true) = {} ∧ t.endOf (endKey n false) = {}) ∧
  (∀ (n : Nat) (lp : LinkParams) (s : State), n < s.part.slots → 1 ≤ (s.slot n).phase → (s.slot n).phase ≤ 4 → (s.slot n).st ≠ .powering → (s.slot n).st ≠ .training →
    exec (.retrainDone n false true lp) s = .next (s.retrainFailed n)) ∧
  (∀ (n : Nat) (s : State), n < s.part.slots → 2 ≤ (s.slot n).phase → (s.slot n).phase ≤ 4 →
    ∃ t, exec (.linkMgmt n true 1 1) s = .next t ∧ (t.slot n).phase = 4 ∧ (t.slot n).farPver = 1 ∧ (∀ k, k ≠ n → t.slot k = s.slot k) ∧
      t = { s with slots := t.slots }) ∧
  (∀ (n : Nat) (s : State), n < s.part.slots → 2 ≤ (s.slot n).phase → (s.slot n).phase ≤ 4 →
    ∃ t, exec (.linkMgmt n false 1 1) s = .next t ∧ (t.slot n).phase = max 3 (s.slot n).phase ∧ (∀ k, k ≠ n → t.slot k = s.slot k) ∧ t = { s with slots := t.slots }) ∧
  (∀ (n v : Nat) (s : State), n < s.part.slots → 2 ≤ (s.slot n).phase → (s.slot n).phase ≤ 4 → v ≠ 1 →
    ∃ t, exec (.linkMgmt n true 1 v) s = .next t ∧ (t.slot n).st = .rejected ∧ (t.slot n).reason = 8 ∧ (t.slot n).pwren = false) ∧
  (∀ (n v : Nat) (s : State), n < s.part.slots → 2 ≤ (s.slot n).phase → (s.slot n).phase ≤ 4 → v ≠ 1 →
    ∃ t, exec (.linkMgmt n false 1 v) s = .next t ∧ t.seqOf n = { s.seqOf n with noTrain := true } ∧ (∀ k, k ≠ n → t.seqOf k = s.seqOf k) ∧ t = { s with seqs := t.seqs }) ∧
  (∀ (n v : Nat) (toCtrl : Bool) (s : State), n < s.part.slots → s.linkRuns n = true →
    exec (.linkMgmt n toCtrl 2 v) s = .next (s.took.fastRetrain n s.freeVal))

/-- Over a link that is up, with no NAK standing and no frame open: a frame of 1 to 72 whole blocks whose check holds reaches the sequencer as program data of its tag, and the controller as the data of the tag's command (the entries of a SYNC, the counts of a life poll); one whose check fails, or with blocks missing, is asked for again from the superframe of its header. A frame of no block, of more than 72, or inside another resets the link. While a NAK stands a frame is discarded. (derived: R82, R84, R88, R89, R91, R95, R97) -/
def Obligations.FramesReachTheirTag : Prop :=
  (∀ (n tag idx blocks valid hdrSf : Nat) (payload : List Byte) (s : State), n < s.part.slots → s.linkRuns n = true → (s.endOf (endKey n false)).nakSent = false →
    (s.endOf (endKey n false)).openFrames = [] → 1 ≤ blocks → blocks ≤ 72 → payload.length = 64 * blocks →
    ∃ t, exec (.dataFrame n false tag idx ⟨blocks, valid⟩ hdrSf (crc32 payload) payload) s = .next t ∧ t.seqOf n = (s.seqOf n).frame tag idx (payload.take valid) ∧
      (∀ k, k ≠ n → t.seqOf k = s.seqOf k) ∧ t = { s with seqs := t.seqs }) ∧
  (∀ (n tag idx blocks valid hdrSf : Nat) (payload : List Byte) (s : State), n < s.part.slots → s.linkRuns n = true → (s.endOf (endKey n true)).nakSent = false →
    (s.endOf (endKey n true)).openFrames = [] → 1 ≤ blocks → blocks ≤ 72 → payload.length = 64 * blocks →
    exec (.dataFrame n true tag idx ⟨blocks, valid⟩ hdrSf (crc32 payload) payload) s = .next (s.ctrlData n tag idx (payload.take valid))) ∧
  (∀ (n tag idx blocks valid hdrSf : Nat) (payload : List Byte) (o : OutCmd) (s : State), n < s.part.slots → s.linkRuns n = true → (s.endOf (endKey n true)).nakSent = false →
    (s.endOf (endKey n true)).openFrames = [] → 1 ≤ blocks → blocks ≤ 72 → payload.length = 64 * blocks → (s.slot n).cmdAt tag = some o → o.why = .sync →
    ∃ t, exec (.dataFrame n true tag idx ⟨blocks, valid⟩ hdrSf (crc32 payload) payload) s = .next t ∧ (t.slot n).lastSync = syncEntries (payload.take valid) (payload.take valid).length ∧
      (∀ k, k ≠ n → t.slot k = s.slot k) ∧ t = { s with slots := t.slots }) ∧
  (∀ (n tag idx blocks valid hdrSf : Nat) (payload : List Byte) (o : OutCmd) (s : State), n < s.part.slots → s.linkRuns n = true → (s.endOf (endKey n true)).nakSent = false →
    (s.endOf (endKey n true)).openFrames = [] → 1 ≤ blocks → blocks ≤ 72 → payload.length = 64 * blocks → (s.slot n).cmdAt tag = some o → o.why = .life →
    exec (.dataFrame n true tag idx ⟨blocks, valid⟩ hdrSf (crc32 payload) payload) s = .next ((s.setLife n (lifeOf (payload.take valid))).lifeCheck n)) ∧
  (∀ (n tag idx blocks valid hdrSf crc : Nat) (toCtrl : Bool) (payload : List Byte) (s : State), n < s.part.slots → s.linkRuns n = true → (s.endOf (endKey n toCtrl)).nakSent = false →
    (s.endOf (endKey n toCtrl)).openFrames = [] → 1 ≤ blocks → blocks ≤ 72 → (payload.length ≠ 64 * blocks ∨ crc ≠ crc32 payload) →
    ∃ t, exec (.dataFrame n toCtrl tag idx ⟨blocks, valid⟩ hdrSf crc payload) s = .next t ∧ (t.endOf (endKey n toCtrl)).nakSent = true ∧ (t.endOf (endKey n toCtrl)).nakDue = true ∧
      (t.endOf (endKey n toCtrl)).rxNext = hdrSf % 4096 ∧ (∀ k, k ≠ endKey n toCtrl → t.endOf k = s.endOf k) ∧ t = { s with ends := t.ends, dw := t.dw }) ∧
  (∀ (n tag idx blocks valid hdrSf crc : Nat) (payload : List Byte) (s : State), n < s.part.slots → s.linkRuns n = true → (s.endOf (endKey n false)).nakSent = false →
    blocks = 0 ∨ 72 < blocks ∨ (s.endOf (endKey n false)).openFrames ≠ [] →
    exec (.dataFrame n false tag idx ⟨blocks, valid⟩ hdrSf crc payload) s = .next (s.linkReset n)) ∧
  (∀ (n tag idx blocks valid hdrSf crc : Nat) (payload : List Byte) (s : State), n < s.part.slots → s.linkRuns n = true → (s.endOf (endKey n true)).nakSent = false →
    blocks = 0 ∨ 72 < blocks ∨ (s.endOf (endKey n true)).openFrames ≠ [] →
    exec (.dataFrame n true tag idx ⟨blocks, valid⟩ hdrSf crc payload) s = .next ((s.log 0x0311 [n, 4, tag]).linkReset n)) ∧
  (∀ (n tag idx blocks valid hdrSf crc : Nat) (toCtrl : Bool) (payload : List Byte) (s : State), n < s.part.slots → (s.endOf (endKey n toCtrl)).nakSent = true →
    exec (.dataFrame n toCtrl tag idx ⟨blocks, valid⟩ hdrSf crc payload) s = .next s)

/-- Over a link that is up, for a tag that is outstanding: a final status ends its command (endCmd: the tag is free, or kept where the sequencer holds the data), has the effect of its own operation for whatever the command was sent for, and then the units and bands settle. SUCCESS of a program verifies its unit; SUCCESS of an erase readies its die-block. PROGRAM_REPLACED counts and verifies the unit at its replacement. PROGRAM_FAIL, NOT_ERASED and RETIRED_BLOCK of a program count in the slot's counters. ERASE_FAIL and RETIRED_BLOCK retire the die-block, DIE_FAIL fails the die, and a refused erase sets its die-block aside. FW_INVALID and FW_NOT_LOADED end an update. SHUT_DOWN lets a program be sent again. DATA_RECEIVED and XFER_RDY mark the command and leave it outstanding; XFER_RDY also lets its codewords go, in the order and with the scrambling of R98 and R108. The data of IDENTIFY and CHALLENGE ends these, not their SUCCESS. A tag that is not outstanding, or a grant beyond the PROGRAM's codewords, resets the link. (derived: R22, R85, R88, R89, R95, R101, R102, R103, R129, R134) -/
def Obligations.FinalStatusesEndTheirCommand : Prop :=
  (∀ (n tag : Nat) (o : OutCmd) (s : State), n < s.part.slots → (s.slot n).phase = 5 → (s.slot n).cmdAt tag = some o → o.why ≠ .identify → o.why ≠ .challenge →
    exec (.success n tag) s = .next (((s.endCmd n tag o).gotSuccess n o).tryClearSlow n).settle) ∧
  (∀ (n tag : Nat) (o : OutCmd) (s : State), n < s.part.slots → (s.slot n).cmdAt tag = some o → o.why = .identify ∨ o.why = .challenge → exec (.success n tag) s = .next s) ∧
  (∀ (n tag uid : Nat) (o : OutCmd) (u : Machine.PUnit) (s : State), n < s.part.slots → (s.slot n).phase = 5 → (s.slot n).cmdAt tag = some o → o.why = .unit uid →
    s.unit? uid = some u → u.restore = 0 → u.band ≠ none →
    ∃ v : State, exec (.success n tag) s = .next (v.tryClearSlow n).settle ∧ (∃ w, v.unit? uid = some w ∧ w.verified = true ∧ w.left = true) ∧
      v.media.recs = s.media.recs ∧ ((s.slot n).queue = [] → (v.slot n).cmdAt tag = none)) ∧
  (∀ (n tag d b m : Nat) (o : OutCmd) (s : State), n < s.part.slots → (s.slot n).phase = 5 → (s.slot n).cmdAt tag = some o → o.why = .erase d b m →
    ∃ v : State, exec (.success n tag) s = .next (v.tryClearSlow n).settle ∧ ((s.slot n).queue = [] → (v.slot n).cmdAt tag = none) ∧ (v.blockEnt ⟨n, d, b⟩).ready = true ∧
      v = { s with slots := v.slots, seqs := v.seqs, media := { s.media with blocks := v.media.blocks } }) ∧
  (∀ (n tag die block page : Nat) (o : OutCmd) (s : State), n < s.part.slots → (s.slot n).phase = 5 → (s.slot n).cmdAt tag = some o →
    exec (.programReplaced n tag die block page) s = .next (((s.endCmd n tag o).gotProgramReplaced n die block page o).tryClearSlow n).settle) ∧
  (∀ (n tag uid die block page : Nat) (o : OutCmd) (u : Machine.PUnit) (s : State), n < s.part.slots → (s.slot n).phase = 5 → (s.slot n).cmdAt tag = some o → o.why = .unit uid →
    s.unit? uid = some u → u.restore = 0 → u.band ≠ none →
    ∃ v : State, exec (.programReplaced n tag die block page) s = .next (v.tryClearSlow n).settle ∧
      (∃ w, v.unit? uid = some w ∧ w.verified = true) ∧ (v.slot n).media.get zeroCell 168 = satAdd 64 ((s.slot n).media.get zeroCell 168) 1) ∧
  (∀ (n tag : Nat) (held : Bool) (o : OutCmd) (s : State), n < s.part.slots → (s.slot n).phase = 5 → (s.slot n).cmdAt tag = some o →
    exec (.programFail n tag held) s = .next (((s.endCmd n tag o held).gotProgramFail n tag held o).tryClearSlow n).settle) ∧
  (∀ (n tag uid : Nat) (held : Bool) (o : OutCmd) (s : State), n < s.part.slots → (s.slot n).phase = 5 → (s.slot n).cmdAt tag = some o → o.why = .unit uid → s.unit? uid = none →
    ∃ v : State, exec (.programFail n tag held) s = .next (v.tryClearSlow n).settle ∧ (v.slot n).media.get zeroCell 176 = satAdd 64 ((s.slot n).media.get zeroCell 176) 1 ∧
      (held = true → ∃ e, (e ∈ (v.slot n).out.map (fun x => x.2) ∨ e ∈ (v.slot n).queue) ∧ e.op = 0x24 ∧ e.m.arg = tag) ∧ v = { s with slots := v.slots, seqs := v.seqs, gbk := v.gbk, dw := v.dw }) ∧
  (∀ (n tag : Nat) (o : OutCmd) (s : State), n < s.part.slots → (s.slot n).phase = 5 → (s.slot n).cmdAt tag = some o →
    exec (.notErased n tag) s = .next (((s.endCmd n tag o).gotNotErased n tag o).tryClearSlow n).settle) ∧
  (∀ (n tag uid : Nat) (o : OutCmd) (s : State), n < s.part.slots → (s.slot n).phase = 5 → (s.slot n).cmdAt tag = some o → o.why = .unit uid → s.unit? uid = none →
    ∃ v : State, exec (.notErased n tag) s = .next (v.tryClearSlow n).settle ∧ (v.slot n).media.get zeroCell 184 = satAdd 64 ((s.slot n).media.get zeroCell 184) 1 ∧
      ((s.slot n).queue = [] → (v.slot n).cmdAt tag = none) ∧ v = { s with slots := v.slots, seqs := v.seqs, gbk := v.gbk, dw := v.dw }) ∧
  (∀ (n tag : Nat) (o : OutCmd) (s : State), n < s.part.slots → (s.slot n).phase = 5 → (s.slot n).cmdAt tag = some o →
    exec (.retiredBlock n tag) s = .next (((s.endCmd n tag o).gotRetiredBlock n tag o).tryClearSlow n).settle) ∧
  (∀ (n tag uid : Nat) (o : OutCmd) (s : State), n < s.part.slots → (s.slot n).phase = 5 → (s.slot n).cmdAt tag = some o → o.why = .unit uid → s.unit? uid = none → (s.blockEnt ⟨n, o.m.die, o.m.block⟩).st ≠ .journal →
    ∃ v : State, exec (.retiredBlock n tag) s = .next (v.tryClearSlow n).settle ∧ (v.slot n).media.get zeroCell 184 = satAdd 64 ((s.slot n).media.get zeroCell 184) 1 ∧
      ((s.slot n).queue = [] → (v.slot n).cmdAt tag = none) ∧ (v.blockEnt ⟨n, o.m.die, o.m.block⟩).st = .retired ∧
      v = { s with slots := v.slots, seqs := v.seqs, gbk := v.gbk, dw := v.dw, media := { s.media with blocks := v.media.blocks } }) ∧
  (∀ (n tag : Nat) (o : OutCmd) (s : State), n < s.part.slots → (s.slot n).phase = 5 → (s.slot n).cmdAt tag = some o →
    exec (.eraseFail n tag) s = .next (((s.endCmd n tag o).gotEraseFail n o).tryClearSlow n).settle) ∧
  (∀ (n tag d b m : Nat) (o : OutCmd) (s : State), n < s.part.slots → (s.slot n).phase = 5 → (s.slot n).cmdAt tag = some o → o.why = .erase d b m →
    (s.blockEnt ⟨n, d, b⟩).st = .erased → (s.dieBlocks n d).length < 15 → (s.slot n).st = .admitted →
    ∃ v : State, exec (.eraseFail n tag) s = .next (v.tryClearSlow n).settle ∧ ((s.slot n).queue = [] → (v.slot n).cmdAt tag = none) ∧ (v.blockEnt ⟨n, d, b⟩).st = .retired ∧
      (v.slot n).media.get zeroCell 192 = satAdd 64 ((s.slot n).media.get zeroCell 192) 1 ∧ (v.slot n).retired = (s.slot n).retired + 1) ∧
  (∀ (n tag : Nat) (o : OutCmd) (s : State), n < s.part.slots → (s.slot n).phase = 5 → (s.slot n).cmdAt tag = some o →
    exec (.dieFail n tag) s = .next (((s.endCmd n tag o).gotDieFail n tag o).tryClearSlow n).settle) ∧
  (∀ (n tag : Nat) (o : OutCmd) (s : State), n < s.part.slots → (s.slot n).phase = 5 → (s.slot n).cmdAt tag = some o → o.why = .probe → (s.slot n).diesFailed.contains o.m.die = false →
    s.media.units = [] → s.media.bands = [] → (s.slot n).st = .admitted →
    ∃ v : State, exec (.dieFail n tag) s = .next (v.tryClearSlow n).settle ∧ ((s.slot n).queue = [] → (v.slot n).cmdAt tag = none) ∧ (v.slot n).diesFailed = o.m.die :: (s.slot n).diesFailed) ∧
  (∀ (n tag code : Nat) (o : OutCmd) (s : State), n < s.part.slots → (s.slot n).phase = 5 → (s.slot n).cmdAt tag = some o →
    exec (.cmdRefused n tag code) s = .next (((s.endCmd n tag o).gotCmdRefused n tag code o).tryClearSlow n).settle) ∧
  (∀ (n tag code d b m : Nat) (o : OutCmd) (s : State), n < s.part.slots → (s.slot n).phase = 5 → (s.slot n).cmdAt tag = some o → o.why = .erase d b m →
    (s.blockEnt ⟨n, d, b⟩).st = .erased →
    ∃ v : State, exec (.cmdRefused n tag code) s = .next (v.tryClearSlow n).settle ∧ ((s.slot n).queue = [] → (v.slot n).cmdAt tag = none) ∧ (o.m.die = d → o.m.block = b → (v.blockEnt ⟨n, d, b⟩).st = .aside) ∧
      v = { s with slots := v.slots, seqs := v.seqs, gbk := v.gbk, dw := v.dw, media := { s.media with blocks := v.media.blocks } }) ∧
  (∀ (n tag : Nat) (o : OutCmd) (s : State), n < s.part.slots → (s.slot n).phase = 5 → (s.slot n).cmdAt tag = some o →
    exec (.fwInvalid n tag) s = .next (((s.endCmd n tag o).failUpdate n 0x30).tryClearSlow n).settle) ∧
  (∀ (n tag : Nat) (o : OutCmd) (s : State), n < s.part.slots → (s.slot n).phase = 5 → (s.slot n).cmdAt tag = some o → (s.slot n).updating = true → o.why ≠ .probe →
    ∃ v : State, exec (.fwInvalid n tag) s = .next (v.tryClearSlow n).settle ∧ (v.slot n).updating = false ∧ ((s.slot n).queue = [] → (v.slot n).cmdAt tag = none) ∧
      v.gbk.queue.length ≤ s.gbk.queue.length + 2 ∧ v = { s with slots := v.slots, seqs := v.seqs, gbk := v.gbk, dw := v.dw, io := v.io }) ∧
  (∀ (n tag : Nat) (o : OutCmd) (s : State), n < s.part.slots → (s.slot n).phase = 5 → (s.slot n).cmdAt tag = some o →
    exec (.fwNotLoaded n tag) s = .next (((s.endCmd n tag o).failUpdate n 0x31).tryClearSlow n).settle) ∧
  (∀ (n tag : Nat) (o : OutCmd) (s : State), n < s.part.slots → (s.slot n).phase = 5 → (s.slot n).cmdAt tag = some o → (s.slot n).updating = true → o.why ≠ .probe →
    ∃ v : State, exec (.fwNotLoaded n tag) s = .next (v.tryClearSlow n).settle ∧ (v.slot n).updating = false ∧ ((s.slot n).queue = [] → (v.slot n).cmdAt tag = none) ∧
      v.gbk.queue.length ≤ s.gbk.queue.length + 2 ∧ v = { s with slots := v.slots, seqs := v.seqs, gbk := v.gbk, dw := v.dw, io := v.io }) ∧
  (∀ (n tag : Nat) (o : OutCmd) (s : State), n < s.part.slots → (s.slot n).phase = 5 → (s.slot n).cmdAt tag = some o →
    exec (.shutDown n tag) s = .next (((s.endCmd n tag o).gotShutDown n o).tryClearSlow n).settle) ∧
  (∀ (n tag uid : Nat) (o : OutCmd) (u : Machine.PUnit) (s : State), n < s.part.slots → (s.slot n).phase = 5 → (s.slot n).cmdAt tag = some o → o.why = .unit uid → s.unit? uid = some u →
    ∃ v : State, exec (.shutDown n tag) s = .next (v.tryClearSlow n).settle ∧ ((s.slot n).queue = [] → (v.slot n).cmdAt tag = none) ∧ v.unit? uid = some { u with sent := false } ∧
      v = { s with slots := v.slots, seqs := v.seqs, media := { s.media with units := v.media.units } }) ∧
  (∀ (n tag : Nat) (o : OutCmd) (s : State), n < s.part.slots → (s.slot n).phase = 5 → (s.slot n).cmdAt tag = some o → (match o.why with | .unit _ => false | _ => true) = true →
    ∃ t, exec (.dataReceived n tag) s = .next t ∧ (t.slot n).cmdAt tag = some { o with bufferDone := true } ∧ (∀ k, k ≠ n → t.slot k = s.slot k) ∧
      t = { s with slots := t.slots }) ∧
  (∀ (n tag uid : Nat) (o : OutCmd) (u : Machine.PUnit) (s : State), n < s.part.slots → (s.slot n).phase = 5 → (s.slot n).cmdAt tag = some o → o.why = .unit uid → s.unit? uid = some u → u.left = false →
    ∃ t, exec (.dataReceived n tag) s = .next t ∧ (t.slot n).cmdAt tag = some { o with bufferDone := true } ∧ t.unit? uid = some { u with left := true } ∧ (∀ k, k ≠ n → t.slot k = s.slot k) ∧
      t = { s with slots := t.slots, io := { s.io with flights := t.io.flights }, media := { s.media with units := t.media.units } }) ∧
  (∀ (n tag first count : Nat) (o : OutCmd) (s : State), n < s.part.slots → (s.slot n).phase = 5 → (s.slot n).cmdAt tag = some o → o.op = 0x20 → first + count ≤ o.m.count →
    ∃ t, exec (.xferRdy n tag first count) s = .next t ∧ (t.slot n).cmdAt tag = some { o with grant := some (first, count), frames := s.granted o first count } ∧ (∀ k, k ≠ n → t.slot k = s.slot k) ∧
      t = { s with slots := t.slots }) ∧
  (∀ (n tag first count : Nat) (o : OutCmd) (s : State), n < s.part.slots → (s.slot n).phase = 5 → (s.slot n).cmdAt tag = some o → o.op ≠ 0x20 ∨ o.m.count < first + count →
    exec (.xferRdy n tag first count) s = .next ((s.log 0x0311 [n, 3, tag]).linkReset n)) ∧
  (∀ (i : Instr) (n tag code die block page : Nat) (held : Bool) (s : State), n < s.part.slots → (s.slot n).phase = 5 → (s.slot n).cmdAt tag = none →
    i ∈ [.success n tag, .dataReceived n tag, .programReplaced n tag die block page, .programFail n tag held, .notErased n tag, .retiredBlock n tag, .eraseFail n tag, .dieFail n tag, .cmdRefused n tag code, .fwInvalid n tag, .fwNotLoaded n tag, .shutDown n tag] →
    exec i s = .next ((s.log 0x0311 [n, 2, tag]).linkReset n)) ∧
  (∀ (n tag first count : Nat) (s : State), n < s.part.slots → (s.slot n).phase = 5 → (s.slot n).cmdAt tag = none → exec (.xferRdy n tag first count) s = .next ((s.log 0x0311 [n, 3, tag]).linkReset n))

/-- A codeword that answers a request in progress goes to it, one of a BUFFER_READ goes back to its unit, and any other is discarded; an armed injection meets it first. T_SLOW marks a timed command once and counts it, and then the slot may take the slow mark and the command its slow path. A slow slot is probed with a READ of a page programmed well, whose data is discarded. T_FAIL of a member with commands outstanding fails it, but during its rolling update. The ratio check keeps the last ten windows and starts the next; too many slow commands fail a member unless it is withheld. Error injection is set only in service mode. (derived: R22, R101, R137, R219, R220, R221, R222, R223, R229) -/
def Obligations.MemberTimersAndCodewordsAct : Prop :=
  (∀ (n tag k rid : Nat) (a b : CwArrival) (o : OutCmd) (q : CwReq) (u : State) (s : State), n < s.part.slots → (s.slot n).phase = 5 → (s.slot n).cmdAt tag = some o → o.why = .cw rid →
    s.req? rid = some q → q.viaRow = false → k = q.i % 4 → s.injected n a = (b, u) →
    exec (.codewordArrival n tag k a) s = .next (u.arrive n q b).settle) ∧
  (∀ (n tag k uid : Nat) (a b : CwArrival) (o : OutCmd) (u : State) (s : State), n < s.part.slots → (s.slot n).phase = 5 → (s.slot n).cmdAt tag = some o → o.why = .bufferRead uid →
    s.injected n a = (b, u) → exec (.codewordArrival n tag k a) s = .next (u.bufferWord uid k b)) ∧
  (∀ (n tag k : Nat) (a b : CwArrival) (o : OutCmd) (u : State) (s : State), n < s.part.slots → (s.slot n).phase = 5 → (s.slot n).cmdAt tag = some o → o.why = .probe →
    s.injected n a = (b, u) → exec (.codewordArrival n tag k a) s = .next u) ∧
  (∀ (n tag : Nat) (o : OutCmd) (s : State), n < s.part.slots → (s.slot n).cmdAt tag = some o → o.op = 0x10 ∨ o.op = 0x20 → o.slowCounted = false →
    ∃ u : State, exec (.tSlowExpiry n tag) s = .next ((u.setSlow n 0).slowFollows n tag o) ∧ (u.slot n).cmdAt tag = some { o with slowCounted := true } ∧ (u.slot n).slowCount = (s.slot n).slowCount + 1 ∧
      (∀ k, k ≠ n → u.slot k = s.slot k) ∧ u = { s with slots := u.slots }) ∧
  (∀ (n tag : Nat) (o : OutCmd) (s : State), n < s.part.slots → (s.slot n).cmdAt tag = some o → o.slowCounted = true ∨ (o.op ≠ 0x10 ∧ o.op ≠ 0x20) → exec (.tSlowExpiry n tag) s = .next s) ∧
  (∀ (n page mode : Nat) (pl : Place) (s : State), n < s.part.slots → (s.slot n).slow = true → s.probePlace n = some (pl, page, mode) →
    ∃ t, exec (.slowProbe n) s = .next t ∧
      (∃ e, (e ∈ (t.slot n).out.map (fun x => x.2) ∨ e ∈ (t.slot n).queue) ∧ e.op = 0x10 ∧ e.why = .probe ∧ e.m.die = pl.die ∧ e.m.block = pl.block ∧ e.m.page = page ∧ e.m.mode = mode) ∧
      (∀ k, k ≠ n → t.slot k = s.slot k) ∧ t = { s with slots := t.slots }) ∧
  (∀ (n p : Nat) (s : State), n < s.part.slots → (s.slot n).offAfterShutdown = false → (s.slot n).st.member = true → (s.slot n).out ≠ [] → (s.slot n).rolling = false → (s.slot n).pool = some p →
    exec (.tFailExpiry n) s = .next (s.failMember n 0x0A).settle) ∧
  (∀ (n : Nat) (s : State), n < s.part.slots → (s.slot n).offAfterShutdown = true →
    ∃ t, exec (.tFailExpiry n) s = .next t ∧ (t.slot n).st = (if (s.slot n).st = .draining then .readyRemove else .off) ∧ (t.slot n).pwren = false ∧ t = { s with slots := t.slots, dw := t.dw, io := t.io }) ∧
  (∀ (n : Nat) (s : State), n < s.part.slots → (s.slot n).st.member = false →
    ∃ t, exec (.slowRatioCheck n) s = .next t ∧ (t.slot n).win = (((s.slot n).fastCount, (s.slot n).slowCount) :: (s.slot n).win).take 10 ∧ (t.slot n).fastCount = 0 ∧
      (t.slot n).slowCount = 0 ∧ (∀ k, k ≠ n → t.slot k = s.slot k) ∧ t = { s with slots := t.slots }) ∧
  (∀ (n : Nat) (w : List (Nat × Nat)) (s : State), n < s.part.slots → (s.slot n).st.member = true → w = (((s.slot n).fastCount, (s.slot n).slowCount) :: (s.slot n).win).take 10 →
    ∃ u : State, (u.slot n).win = w ∧ (u.slot n).fastCount = 0 ∧ (u.slot n).slowCount = 0 ∧ (∀ k, k ≠ n → u.slot k = s.slot k) ∧ u = { s with slots := u.slots } ∧
      exec (.slowRatioCheck n) s = .next (if 200 ≤ (w.map (fun e => e.1 + e.2)).sum ∧ s.media.slowPct * (w.map (fun e => e.1 + e.2)).sum < (w.map (fun e => e.2)).sum * 100
        then (match u.withheld n with | some m => u.log 0x0509 [n, m] | none => (u.failMember n 0x0B).settle) else u)) ∧
  (∀ (p : Path) (n : Nat) (v : Word) (s : State), n < 64 → s.reach p (dwCART n + 0x400) = .ok → s.pwr.mode = 1 →
    ∃ t, exec (.eccInj p n v) s = .next t ∧ t.reg (dwCART n + 0x400) = v.toNat &&& 0x300FF ∧ (∀ o, o ≠ dwCART n + 0x400 → t.reg o = s.reg o) ∧ t = { s with dw := t.dw }) ∧
  (∀ (p : Path) (n : Nat) (v : Word) (s : State), n < 64 → s.reach p (dwCART n + 0x400) = .ok → s.pwr.mode ≠ 1 → exec (.eccInj p n v) s = .next s)

/-- For a command that reaches the sequencer over a link that is up and passes every check of refusal: the reading commands answer with their data and length, CART_READ with its codewords; PROGRAM of an erased wordline and ERASE are held under their tag, ERASE having raised the count of its mode and emptied the die-block; a PROGRAM of a wordline that is not erased is answered 12h; BUFFER_READ and BUFFER_RELEASE of held data return it and let it go, and are answered 03h where none is held; RETIRE_BLOCK retires; FW_DOWNLOAD keeps its bytes; FW_ACTIVATE with a good image restarts with it and resets the link, and answers 30h or 31h to a bad or missing one; SHUTDOWN completes, once no program is left. A die that does not respond is failed, and its READ answered 14h. No other sequencer changes. (derived: R46, R50, R51, R64, R85, R86, R97, R98, R99, R100, R103) -/
def Obligations.SequencerAnswersItsCommands : Prop :=
  (∀ (n : Nat) (m : CartCmd) (s : State), n < s.part.slots → s.linkRuns n = true → (s.seqOf n).refuse 0x01 m = none →
    ∃ t, exec (.cartIdentify n m) s = .next t ∧ t.seqOf n = ({ s.seqOf n with desc := (s.seqOf n).descr } : Seq).say m.tag 0 [(s.seqOf n).descr.length] (s.seqOf n).descr ∧
      (∀ k, k ≠ n → t.seqOf k = s.seqOf k) ∧ t = { s with seqs := t.seqs }) ∧
  (∀ (n : Nat) (m : CartCmd) (s : State), n < s.part.slots → s.linkRuns n = true → (s.seqOf n).refuse 0x02 m = none →
    ∃ t, exec (.getCert n m) s = .next t ∧ t.seqOf n = (s.seqOf n).say m.tag 0 [((s.seqOf n).cert m.arg).length] ((s.seqOf n).cert m.arg) ∧
      ((s.seqOf n).cert m.arg).length ≤ 1024 ∧ (∀ k, k ≠ n → t.seqOf k = s.seqOf k) ∧ t = { s with seqs := t.seqs }) ∧
  (∀ (n : Nat) (m : CartCmd) (nonce uid : Nat) (s : State), n < s.part.slots → s.linkRuns n = true → (s.seqOf n).refuse 0x03 m = none →
    ∃ t, exec (.challenge n m nonce uid) s = .next t ∧
      t.seqOf n = (s.seqOf n).say m.tag 0 [64, nonce, uid] (toLe 64 (Config.cartSign (s.seqOf n).cart (challengeMsg nonce uid (s.seqOf n).descr) s.freeVal)) ∧
      (∀ k, k ≠ n → t.seqOf k = s.seqOf k) ∧ t = { s with seqs := t.seqs, free := t.free }) ∧
  (∀ (n : Nat) (m : CartCmd) (s : State), n < s.part.slots → s.linkRuns n = true → (s.seqOf n).refuse 0x04 m = none →
    ∃ t, exec (.sync n m) s = .next t ∧ t.seqOf n = ((s.seqOf n).say m.tag 0 [(s.seqOf n).syncData.length] (s.seqOf n).syncData).syncAgain ∧
      4 * ((s.seqOf n).cmds.length + (s.seqOf n).heldData.length) ≤ (s.seqOf n).syncData.length ∧ (∀ k, k ≠ n → t.seqOf k = s.seqOf k) ∧ t = { s with seqs := t.seqs }) ∧
  (∀ (n : Nat) (m : CartCmd) (s : State), n < s.part.slots → s.linkRuns n = true → (s.seqOf n).refuse 0x10 m = none →
    ∃ t d, exec (.cartRead n ⟨m, true⟩) s = .next t ∧ t.seqOf n = (s.seqOf n).say m.tag 0 [d.length] d ∧ d.length = 4608 * (bitsOf m.cwMask 4).length * (1 + m.soft) ∧
      (∀ k, k ≠ n → t.seqOf k = s.seqOf k) ∧ t = { s with seqs := t.seqs, free := t.free }) ∧
  (∀ (n : Nat) (m : CartCmd) (s : State), n < s.part.slots → s.linkRuns n = true → (s.seqOf n).refuse 0x10 m = none →
    ∃ t, exec (.cartRead n ⟨m, false⟩) s = .next t ∧ t.seqOf n = (s.seqOf n).dieDead m.die m.tag ∧
      (∀ k, k ≠ n → t.seqOf k = s.seqOf k) ∧ t = { s with seqs := t.seqs, free := t.free }) ∧
  (∀ (n : Nat) (m : CartCmd) (blank : Bool) (s : State), n < s.part.slots → s.linkRuns n = true → (s.seqOf n).refuse 0x20 m = none →
    blank = true ∨ (s.seqOf n).knownErased m = true →
    ∃ t c, exec (.cartProgram n m blank) s = .next t ∧ look (t.seqOf n).cmds m.tag = some c ∧ c.op = 0x20 ∧ c.m = m ∧
      (t.seqOf n).blocks = (s.seqOf n).blocks ∧ (∀ k, k ≠ n → t.seqOf k = s.seqOf k) ∧ t = { s with seqs := t.seqs }) ∧
  (∀ (n : Nat) (m : CartCmd) (s : State), n < s.part.slots → s.linkRuns n = true → (s.seqOf n).refuse 0x20 m = none →
    (s.seqOf n).knownErased m = false →
    ∃ t, exec (.cartProgram n m false) s = .next t ∧ t.seqOf n = (s.seqOf n).say m.tag 0x12 ∧ t = { s with seqs := t.seqs }) ∧
  (∀ (n : Nat) (m : CartCmd) (s : State), n < s.part.slots → s.linkRuns n = true → (s.seqOf n).refuse 0x21 m = none →
    ∃ t c, exec (.erase n m) s = .next t ∧ look (t.seqOf n).cmds m.tag = some c ∧ c.op = 0x21 ∧
      (t.seqOf n).blk m.die m.block = { (s.seqOf n).blk m.die m.block with
        dense := ((s.seqOf n).blk m.die m.block).dense + (if m.mode = 0 then 1 else 0),
        slc := ((s.seqOf n).blk m.die m.block).slc + (if m.mode = 1 then 1 else 0), mode := m.mode, fresh := false, pages := [] } ∧
      (∀ d b, blkKey d b ≠ blkKey m.die m.block → (t.seqOf n).blk d b = ((s.seqOf n).release m.die m.block).blk d b) ∧
      (∀ e ∈ (t.seqOf n).relocs, ¬(e.1.1 = m.die ∧ e.1.2.1 = m.block)) ∧ (∀ k, k ≠ n → t.seqOf k = s.seqOf k) ∧ t = { s with seqs := t.seqs }) ∧
  (∀ (n : Nat) (m : CartCmd) (fr : List (Nat × List Byte)) (s : State), n < s.part.slots → s.linkRuns n = true → (s.seqOf n).refuse 0x23 m = none → look (s.seqOf n).heldData m.arg = some fr →
    ∃ t d, exec (.bufferRead n m) s = .next t ∧ d = fr.flatMap (fun e => e.2) ∧ t.seqOf n = (s.seqOf n).say m.tag 0 [d.length] d ∧
      (∀ k, k ≠ n → t.seqOf k = s.seqOf k) ∧ t = { s with seqs := t.seqs }) ∧
  (∀ (n : Nat) (m : CartCmd) (fr : List (Nat × List Byte)) (s : State), n < s.part.slots → s.linkRuns n = true → (s.seqOf n).refuse 0x24 m = none → look (s.seqOf n).heldData m.arg = some fr →
    ∃ t, exec (.bufferRelease n m) s = .next t ∧ look (t.seqOf n).heldData m.arg = none ∧ (t.seqOf n).blocks = (s.seqOf n).blocks ∧
      (∀ k, k ≠ n → t.seqOf k = s.seqOf k) ∧ t = { s with seqs := t.seqs }) ∧
  (∀ (i : Instr) (n op : Nat) (m : CartCmd) (s : State), n < s.part.slots → s.linkRuns n = true → (op, i) ∈ [(0x23, .bufferRead n m), (0x24, .bufferRelease n m)] → (s.seqOf n).refuse op m = none → look (s.seqOf n).heldData m.arg = none →
    ∃ t, exec i s = .next t ∧ t.seqOf n = (s.seqOf n).say m.tag 0x03 ∧ (∀ k, k ≠ n → t.seqOf k = s.seqOf k) ∧ t = { s with seqs := t.seqs }) ∧
  (∀ (n : Nat) (m : CartCmd) (s : State), n < s.part.slots → s.linkRuns n = true → (s.seqOf n).refuse 0x30 m = none →
    ∃ t d, exec (.wearRead n m) s = .next t ∧ d = (List.range (s.seqOf n).offered).flatMap (fun b => wearEntry ((s.seqOf n).blk m.die b)) ∧
      t.seqOf n = (s.seqOf n).say m.tag 0 [d.length] d ∧ t = { s with seqs := t.seqs }) ∧
  (∀ (n : Nat) (m : CartCmd) (s : State), n < s.part.slots → s.linkRuns n = true → (s.seqOf n).refuse 0x31 m = none →
    ∃ t, exec (.lifeRead n m) s = .next t ∧ t.seqOf n = (s.seqOf n).say m.tag 0 [64] (s.seqOf n).lifeData ∧ (∀ k, k ≠ n → t.seqOf k = s.seqOf k) ∧ t = { s with seqs := t.seqs }) ∧
  (∀ (n : Nat) (m : CartCmd) (s : State), n < s.part.slots → s.linkRuns n = true → (s.seqOf n).refuse 0x33 m = none →
    ∃ t, exec (.retireBlock n m) s = .next t ∧ (t.seqOf n).blk m.die m.block = { (s.seqOf n).blk m.die m.block with retired := true } ∧
      (∀ d b, blkKey d b ≠ blkKey m.die m.block → (t.seqOf n).blk d b = (s.seqOf n).blk d b) ∧ (∀ k, k ≠ n → t.seqOf k = s.seqOf k) ∧ t = { s with seqs := t.seqs }) ∧
  (∀ (n : Nat) (m : CartCmd) (data : List Byte) (s : State), n < s.part.slots → s.linkRuns n = true → (s.seqOf n).refuse 0x40 m = none →
    ∃ t, exec (.fwDownload n m data) s = .next t ∧
      (∀ k, (t.seqOf n).fwBytes.get zeroCell k = if m.arg ≤ k ∧ k < m.arg + min (64 * m.count) data.length then (data.getD (k - m.arg) 0).toNat + 1
        else (s.seqOf n).fwBytes.get zeroCell k) ∧ (∀ k, k ≠ n → t.seqOf k = s.seqOf k) ∧ t = { s with seqs := t.seqs }) ∧
  (∀ (n : Nat) (m : CartCmd) (s : State), n < s.part.slots → s.linkRuns n = true → (s.seqOf n).refuse 0x41 m = none → (s.seqOf n).hasImage = true → (s.slot n).rolling = false →
    ∃ t, exec (.fwActivate n m true) s = .next t ∧ t.seqOf n = ((s.seqOf n).say m.tag 0).activate ∧ (t.slot n).waits (fun p => p = .identify) = true ∧
      t.endOf (endKey n true) = {} ∧ t.endOf (endKey n false) = {} ∧
      t = { s with seqs := t.seqs, slots := t.slots, ends := t.ends, gbk := t.gbk, dw := t.dw, free := t.free }) ∧
  (∀ (n : Nat) (m : CartCmd) (s : State), n < s.part.slots → s.linkRuns n = true → (s.seqOf n).refuse 0x41 m = none → (s.seqOf n).hasImage = true → (s.slot n).rolling = true →
    ∃ u : State, exec (.fwActivate n m true) s = .next (u.setSlow n 2) ∧ u.seqOf n = ((s.seqOf n).say m.tag 0).activate ∧ (u.slot n).waits (fun p => p = .identify) = true ∧
      u = { s with seqs := u.seqs, slots := u.slots, ends := u.ends, gbk := u.gbk, dw := u.dw, free := u.free }) ∧
  (∀ (n : Nat) (m : CartCmd) (s : State), n < s.part.slots → s.linkRuns n = true → (s.seqOf n).refuse 0x41 m = none → (s.seqOf n).hasImage = true →
    ∃ t, exec (.fwActivate n m false) s = .next t ∧ t.seqOf n = (s.seqOf n).say m.tag 0x30 ∧ (∀ k, k ≠ n → t.seqOf k = s.seqOf k) ∧ t = { s with seqs := t.seqs }) ∧
  (∀ (n : Nat) (m : CartCmd) (ok : Bool) (s : State), n < s.part.slots → s.linkRuns n = true → (s.seqOf n).refuse 0x41 m = none → (s.seqOf n).hasImage = false →
    ∃ t, exec (.fwActivate n m ok) s = .next t ∧ t.seqOf n = (s.seqOf n).say m.tag 0x31 ∧ (∀ k, k ≠ n → t.seqOf k = s.seqOf k) ∧ t = { s with seqs := t.seqs }) ∧
  (∀ (n : Nat) (m : CartCmd) (s : State), n < s.part.slots → s.linkRuns n = true → (s.seqOf n).refuse 0x50 m = none →
    ∃ t d, exec (.getHealth n m) s = .next t ∧ t.seqOf n = (s.seqOf n).say m.tag 0 [64] d ∧ d.length = 64 ∧ leAt d 2 1 < 8 ∧ leAt d 16 8 = (s.seqOf n).downs % 2 ^ 64 ∧
      (∀ k, k ≠ n → t.seqOf k = s.seqOf k) ∧ t = { s with seqs := t.seqs, free := t.free }) ∧
  (∀ (n : Nat) (m : CartCmd) (s : State), n < s.part.slots → s.linkRuns n = true → (s.seqOf n).refuse 0x7F m = none → (∀ e ∈ (s.seqOf n).cmds, e.2.op ≠ 0x20 ∧ e.2.op ≠ 0x7F) →
    ∃ t, exec (.cartShutdown n m) s = .next t ∧ (t.seqOf n).shut = true ∧ (t.seqOf n).cmds = (s.seqOf n).cmds ∧ (t.seqOf n).sent.head? = some { tag := m.tag, code := 0 } ∧
      (∀ k, k ≠ n → t.seqOf k = s.seqOf k) ∧ t = { s with seqs := t.seqs }) ∧
  (∀ (n : Nat) (m : CartCmd) (s : State), n < s.part.slots → s.linkRuns n = true → (s.seqOf n).refuse 0x7F m = none → (∃ e ∈ (s.seqOf n).cmds, e.2.op = 0x20) →
    ∃ t, exec (.cartShutdown n m) s = .next t ∧ t.seqOf n = ({ s.seqOf n with shut := true } : Seq).hold 0x7F 0 m ∧
      (∀ k, k ≠ n → t.seqOf k = s.seqOf k) ∧ t = { s with seqs := t.seqs })

/-- For a command that reaches the sequencer over a link that is up: when a check refuses it, its code is the answer and nothing else of the unit changes; after SHUTDOWN every command is refused with 3Fh; a tag in use or a full command depth is refused with 04h; an opcode that R97 does not list with 02h; an operand out of range with 03h; a failed die with 14h; a retired die-block with 16h for PROGRAM and ERASE. (derived: R85, R99, R102, R103) -/
def Obligations.SequencerRefusesByTheFirstFailingCheck : Prop :=
  (∀ (n code : Nat) (m : CartCmd) (s : State), n < s.part.slots → s.linkRuns n = true →
    ∀ e ∈ [(0x01, Instr.cartIdentify n m), (0x02, .getCert n m), (0x04, .sync n m), (0x20, .cartProgram n m true), (0x21, .erase n m), (0x23, .bufferRead n m),
      (0x24, .bufferRelease n m), (0x30, .wearRead n m), (0x31, .lifeRead n m), (0x33, .retireBlock n m), (0x40, .fwDownload n m []), (0x41, .fwActivate n m true),
      (0x50, .getHealth n m), (0x7F, .cartShutdown n m)],
    (s.seqOf n).refuse e.1 m = some code → exec e.2 s = .next (s.modSeq n (fun q => q.say m.tag code))) ∧
  (∀ (i : Instr) (n op code nonce uid : Nat) (alive : Bool) (m : CartCmd) (s : State), n < s.part.slots → s.linkRuns n = true → (op, i) ∈ [(0x03, .challenge n m nonce uid), (0x10, .cartRead n ⟨m, alive⟩)] → (s.seqOf n).refuse op m = some code →
    ∃ t, exec i s = .next t ∧ t.seqOf n = (s.seqOf n).say m.tag code ∧ (∀ k, k ≠ n → t.seqOf k = s.seqOf k) ∧ t = { s with seqs := t.seqs, free := t.free }) ∧
  (∀ (q : Seq) (op : Nat) (m : CartCmd), q.shut = true → q.refuse op m = some 0x3F) ∧
  (∀ (q : Seq) (op : Nat) (m : CartCmd), q.shut = false → q.depth ≤ q.cmds.length + q.heldData.length ∨ q.cmds.any (fun e => e.1 = m.tag) = true → q.refuse op m = some 0x04) ∧
  (∀ (q : Seq) (op : Nat) (m : CartCmd), q.shut = false → q.cmds.length + q.heldData.length < q.depth → q.cmds.any (fun e => e.1 = m.tag) = false → q.heldData.any (fun e => e.1 = m.tag) = false → knownOp op = false →
    q.refuse op m = some 0x02) ∧
  (∀ (q : Seq) (op : Nat) (m : CartCmd), q.shut = false → q.cmds.length + q.heldData.length < q.depth → q.cmds.any (fun e => e.1 = m.tag) = false → q.heldData.any (fun e => e.1 = m.tag) = false → knownOp op = true → q.inRange op m = false →
    q.refuse op m = some 0x03) ∧
  (∀ (q : Seq) (m : CartCmd), q.shut = false → q.cmds.length + q.heldData.length < q.depth → q.cmds.any (fun e => e.1 = m.tag) = false → q.heldData.any (fun e => e.1 = m.tag) = false → m.mode = 2 →
    q.refuse 0x21 m = some 0x03) ∧
  (∀ (q : Seq) (m : CartCmd), q.shut = false → q.cmds.length + q.heldData.length < q.depth → q.cmds.any (fun e => e.1 = m.tag) = false → q.heldData.any (fun e => e.1 = m.tag) = false → m.mode ≤ 1 → m.die < q.dies → m.block < q.offered →
    q.failedDies.contains m.die = true → q.refuse 0x21 m = some 0x14) ∧
  (∀ (q : Seq) (m : CartCmd), q.shut = false → q.cmds.length + q.heldData.length < q.depth → q.cmds.any (fun e => e.1 = m.tag) = false → q.heldData.any (fun e => e.1 = m.tag) = false → m.mode ≤ 1 → m.die < q.dies → m.block < q.offered →
    q.failedDies.contains m.die = false → (q.blk m.die m.block).retired = true → q.refuse 0x21 m = some 0x16)

/-- When a die ends a program that was programming: verified, the wordline holds the frames in index order and the answer is SUCCESS; not verified with no reserve left on the die, the data is held under its tag and the answer is 11h; not verified with reserve left, the answer is 10h with a place on the same die; a die that no longer answers is failed with 14h. An erase that ends verified makes the die-block known erased, else retires it with 13h; a die that no longer answers is failed with 14h. (derived: R97, R99, R100, R101, R102) -/
def Obligations.DieEndsSettleTheSequencer : Prop :=
  (∀ (n tag : Nat) (c : SeqCmd) (s : State), n < s.part.slots → look (s.seqOf n).cmds tag = some c → c.op = 0x20 → c.state = 2 →
    ∃ t, exec (.dieProgramDone n tag true true) s = .next t ∧
      look ((t.seqOf n).blk c.m.die c.m.block).pages c.m.page = some (unitFrames c.frames c.m.count) ∧ look (t.seqOf n).cmds tag = none ∧
      (∀ k, k ≠ n → t.seqOf k = s.seqOf k) ∧ t = { s with seqs := t.seqs }) ∧
  (∀ (n tag : Nat) (c : SeqCmd) (s : State), n < s.part.slots → look (s.seqOf n).cmds tag = some c → c.op = 0x20 → c.state = 2 →
    (s.seqOf n).spare ≤ (s.seqOf n).reserve.get zeroCell c.m.die →
    ∃ t, exec (.dieProgramDone n tag false true) s = .next t ∧ (tag, c.frames) ∈ (t.seqOf n).heldData ∧ look (t.seqOf n).cmds tag = none ∧
      (∃ e, e ∈ (t.seqOf n).sent ∧ e.tag = tag ∧ e.code = 0x11) ∧ t = { s with seqs := t.seqs }) ∧
  (∀ (n tag : Nat) (c : SeqCmd) (s : State), n < s.part.slots → look (s.seqOf n).cmds tag = some c → c.op = 0x20 → c.state = 2 →
    (s.seqOf n).reserve.get zeroCell c.m.die < (s.seqOf n).spare →
    ∃ t e b p, exec (.dieProgramDone n tag false true) s = .next t ∧ e ∈ (t.seqOf n).sent ∧ e.tag = tag ∧ e.code = 0x10 ∧ e.vals = [c.m.die, b, p] ∧
      look (t.seqOf n).cmds tag = none ∧ t = { s with seqs := t.seqs, free := t.free }) ∧
  (∀ (n tag : Nat) (v : Bool) (c : SeqCmd) (s : State), n < s.part.slots → look (s.seqOf n).cmds tag = some c → c.op = 0x20 → c.state = 2 →
    ∃ t, exec (.dieProgramDone n tag v false) s = .next t ∧ (t.seqOf n).failedDies = c.m.die :: (s.seqOf n).failedDies ∧ (t.seqOf n).blocks = (s.seqOf n).blocks ∧
      t = { s with seqs := t.seqs }) ∧
  (∀ (n tag : Nat) (c : SeqCmd) (s : State), n < s.part.slots → look (s.seqOf n).cmds tag = some c → c.op = 0x21 →
    ∃ t, exec (.dieEraseDone n tag .erased) s = .next t ∧ (t.seqOf n).blk c.m.die c.m.block = { (s.seqOf n).blk c.m.die c.m.block with fresh := true } ∧
      look (t.seqOf n).cmds tag = none ∧ (∀ k, k ≠ n → t.seqOf k = s.seqOf k) ∧ t = { s with seqs := t.seqs }) ∧
  (∀ (n tag : Nat) (c : SeqCmd) (s : State), n < s.part.slots → look (s.seqOf n).cmds tag = some c → c.op = 0x21 →
    ∃ t, exec (.dieEraseDone n tag .failed) s = .next t ∧ (t.seqOf n).blk c.m.die c.m.block = { (s.seqOf n).blk c.m.die c.m.block with retired := true } ∧
      look (t.seqOf n).cmds tag = none ∧ (∃ e, e ∈ (t.seqOf n).sent ∧ e.tag = tag ∧ e.code = 0x13) ∧ (∀ k, k ≠ n → t.seqOf k = s.seqOf k) ∧ t = { s with seqs := t.seqs }) ∧
  (∀ (n tag : Nat) (c : SeqCmd) (s : State), n < s.part.slots → look (s.seqOf n).cmds tag = some c → c.op = 0x21 →
    ∃ t, exec (.dieEraseDone n tag .silent) s = .next t ∧ t.seqOf n = (s.seqOf n).dieDead c.m.die tag ∧ (∀ k, k ≠ n → t.seqOf k = s.seqOf k) ∧ t = { s with seqs := t.seqs })

/-- With the datapath off, these commands change nothing. With it on: an SLC unit time-out fills the log unit and the register unit being filled; a journal time-out programs the open journal unit, or loses a host with no die-block left. A frontier fill and a fold whose case holds begin a copy under the next number, the fill closing its handle's reference. A fold switch maps the segment to its copy, with the log entries that the copy took dropped and the old bands in shavings. Garbage collection begins for a forced or chosen victim. A reserve erase sends the ERASE that a number range forces, else one for a die-block it picks, unless the reserve is full. A wear check queues the segments of the old bands that lie least worn. A forecast follows from a week of daily figures. A rebuild row collects or completes a log band, rewrites the register band, or restores the band whose turn it is; a retry empties the waiting list and tries the first band. Patrol reads a row's programmed and verified wordlines. (derived: R126, R156, R158, R161, R165, R167, R169, R170, R172, R182, R231, R233) -/
def Obligations.BackgroundWorkActsOnItsPool : Prop :=
  (∀ (pool band row nsx seg n : Nat) (s : State), s.coreOn = false →
    exec (.patrol pool band row) s = .next s ∧ exec (.slcUnitTimeout pool) s = .next s ∧ exec (.journalUnitTimeout pool n) s = .next s ∧
      exec (.frontierFill nsx seg) s = .next s ∧ exec (.fold nsx seg) s = .next s ∧ exec (.logGc pool band) s = .next s ∧ exec (.wearCheck pool) s = .next s ∧
      exec (.lifeForecast pool) s = .next s ∧ exec (.rebuildRow pool band row) s = .next s ∧ exec (.spareRetry pool) s = .next s) ∧
  (∀ (pool : Nat) (s u : State), s.coreOn = true → pool < 4 → u = s.fillOpen (s.pool pool).logBand →
    exec (.slcUnitTimeout pool) s = .next (u.fillOpen (u.pool pool).regBand).settle) ∧
  (∀ (pool n : Nat) (s : State), s.coreOn = true → n < 64 → (s.slot n).pool = some pool → (s.ring n).blocks ≠ [] →
    exec (.journalUnitTimeout pool n) s = .next (s.issueJournal n).settle) ∧
  (∀ (pool n : Nat) (s : State), s.coreOn = true → n < 64 → (s.slot n).pool = some pool → (s.ring n).blocks = [] →
    exec (.journalUnitTimeout pool n) s = .next (s.journalLost n).settle) ∧
  (∀ (nsx seg a : Nat) (x : Ns) (s : State), s.nsx? nsx = some x → (x.seg seg).a = some a → s.coreOn = true → s.openDirect (x.seg seg) = true →
    (s.band a).copying = false → s.fillBusy x seg a = false →
    exec (.frontierFill nsx seg) s = .next (((s.beginFill x.pool a).copyRowOf a).settle) ∧ ((s.beginFill x.pool a).band a).copying = true ∧
      ((s.beginFill x.pool a).band a).copySeq = s.media.seq ∧ ((s.beginFill x.pool a).band a).handle = none ∧ (s.beginFill x.pool a).media.seq = s.media.seq + 1 ∧
      ((s.beginFill x.pool a).pool x.pool).fdpEvents = (s.pool x.pool).fdpEvents ++ (s.band a).handle.toList.map (fun h => (0x80, h, a)) ∧
      s.beginFill x.pool a = { s with media := (s.beginFill x.pool a).media }) ∧
  (∀ (nsx seg : Nat) (x : Ns) (s : State), s.nsx? nsx = some x → s.coreOn = true → seg < s.segCount x → (x.seg seg).folding = none →
    s.openDirect (x.seg seg) = false → s.narrowFor x = false → s.segBusy x seg = false → s.foldDue x seg = true →
    (∀ u, s.foldBand x nsx seg = (none, u) → exec (.fold nsx seg) s = .next u) ∧
    (∀ b u, s.foldBand x nsx seg = (some b, u) →
    exec (.fold nsx seg) s = .next (((u.beginFold nsx seg b (x.seg seg)).copyRowOf b).settle) ∧ ((u.beginFold nsx seg b (x.seg seg)).band b).copying = true ∧
      ((u.beginFold nsx seg b (x.seg seg)).band b).copySeq = u.media.seq ∧ (u.beginFold nsx seg b (x.seg seg)).media.seq = u.media.seq + 1 ∧
      u.beginFold nsx seg b (x.seg seg) = { u with media := (u.beginFold nsx seg b (x.seg seg)).media })) ∧
  (∀ (band : Nat) (x : Ns) (s : State), (s.band band).role = 2 → (s.band band).sumDurable = true → (s.band band).shavings = false →
    s.nsx? (s.band band).nsx = some x → (x.seg (s.band band).seg).folding = some band →
    exec (.foldSwitch band) s =
      .next ((s.switchSeg band).each ((x.seg (s.band band).seg).a.toList ++ (x.seg (s.band band).seg).b.toList) (fun s o => s.shave o)).settle ∧
      ((s.switchSeg band).nsx? (s.band band).nsx).map (fun y => y.seg (s.band band).seg) = some { b := some band, lastFold := s.gbk.uptime } ∧
      s.switchSeg band = { s with media := (s.switchSeg band).media }) ∧
  (∀ (pool band : Nat) (s : State), s.coreOn = true → (s.band band).role = 3 → (s.band band).pool = pool → (s.band band).closed = true → (s.band band).shavings = false →
    (∀ g ∈ s.media.gcs, g.src ≠ band) → s.logBusy pool = false → s.gcForced band = true ∨ s.gcVictim pool band = true →
    exec (.logGc pool band) s = .next (s.startGc pool band)) ∧
  (∀ (n die mode : Nat) (pl : Place) (s : State), n < s.part.slots → (s.slot n).st = .inService → (s.slot n).lifeFlags.testBit 2 = false → mode ≤ 1 →
    die < (s.slot n).dieCount → (s.slot n).diesFailed.contains die = false → s.mustErase n die = some pl →
    exec (.reserveErase n die mode) s = .next (s.eraseFor pl mode .erased).freeBands) ∧
  (∀ (n die mode : Nat) (pl : Place) (s u : State), n < s.part.slots → (s.slot n).st = .inService → (s.slot n).lifeFlags.testBit 2 = false → mode ≤ 1 →
    die < (s.slot n).dieCount → (s.slot n).diesFailed.contains die = false → s.mustErase n die = none →
    ((s.dieBlocks n die).filter (fun e => e.2.st = .erased ∧ e.2.mode = mode)).length < (if mode = 0 then 2 else 1) → s.pickDirty n die = (some pl, u) →
    exec (.reserveErase n die mode) s = .next (u.eraseFor pl mode .erased).freeBands) ∧
  (∀ (n die mode : Nat) (s : State), n < s.part.slots → s.mustErase n die = none →
    (if mode = 0 then 2 else 1) ≤ ((s.dieBlocks n die).filter (fun e => e.2.st = .erased ∧ e.2.mode = mode)).length →
    exec (.reserveErase n die mode) s = .next s) ∧
  (∀ (pool : Nat) (s : State), s.coreOn = true → pool < 4 →
    ∃ t, exec (.wearCheck pool) s = .next t ∧ t = { s with media := { s.media with nss := t.media.nss } } ∧
      (∀ e ∈ s.oldBands pool, s.leastWorn pool e.2 = true → ∀ y, t.nsx? e.2.nsx = some y → (y.seg e.2.seg).refresh = true) ∧
      ((∀ e ∈ s.oldBands pool, s.leastWorn pool e.2 = false) → t = s)) ∧
  (∀ (pool : Nat) (s : State), s.coreOn = true → pool < 4 →
    ∃ t, exec (.lifeForecast pool) s = .next t ∧ t = { s with slots := t.slots } ∧
      (∀ n, n ∉ s.inService pool → t.slot n = s.slot n) ∧ (∀ n, (s.inService pool).count n = 1 → t.slot n = (s.slot n).forecastDay)) ∧
  (∀ (x : Slot), x.forecastDay.lifeDays = (x.life :: x.lifeDays).take 8 ∧
    (x.lifeDays.length < 7 → x.forecastDay.forecast = 0xFFFF) ∧
    (∀ d, x.lifeDays[6]? = some d → x.life ≤ d → x.forecastDay.forecast = 0xFFFF) ∧
    (∀ d, x.lifeDays[6]? = some d → d < x.life → x.forecastDay.forecast = min 0xFFFE ((900 - x.life) * 7 / (x.life - d))) ∧
    x.forecastDay = { x with lifeDays := x.forecastDay.lifeDays, forecast := x.forecastDay.forecast }) ∧
  (∀ (pool band row : Nat) (s : State), s.coreOn = true → (s.band band).role = 1 ∨ (s.band band).role = 2 → (s.band band).pool = pool → (s.band band).shavings = false →
    s.rebuildTurn pool band = true →
    exec (.rebuildRow pool band row) s = .next (s.rebuildRow pool band row)) ∧
  (∀ (pool band row : Nat) (s : State), s.coreOn = true → (s.band band).role = 3 → (s.band band).pool = pool → (s.band band).shavings = false →
    s.gcForced band = true → s.rebuildAhead pool 2 = false → (∀ g ∈ s.media.gcs, g.src ≠ band) → (s.band band).closed = true → s.logBusy pool = false →
    exec (.rebuildRow pool band row) s = .next (s.startGc pool band)) ∧
  (∀ (pool band row : Nat) (s : State), s.coreOn = true → (s.band band).role = 3 → (s.band band).pool = pool → (s.band band).shavings = false →
    s.gcForced band = true → s.rebuildAhead pool 2 = false → (∀ g ∈ s.media.gcs, g.src ≠ band) → (s.band band).closed = false →
    exec (.rebuildRow pool band row) s = .next (s.closeEarly band).settle) ∧
  (∀ (pool band row : Nat) (s : State), s.coreOn = true → (s.band band).role = 4 → (s.band band).pool = pool → (s.band band).shavings = false →
    (s.pool pool).regBand = some band → s.gcForced band = true →
    exec (.rebuildRow pool band row) s = .next ((s.modPool pool (fun q => { q with regBand := none })).needReg pool).settle) ∧
  (∀ (pool : Nat) (s u : State), s.coreOn = true → pool < 4 → u = s.modPool pool (fun q => { q with waitSpare := [] }) →
    exec (.spareRetry pool) s = (match (u.rebuildOrder pool).head? with | some b => .next (u.rebuildRow pool b 0) | none => .next u)) ∧
  (∀ (pool band row : Nat) (s : State), s.coreOn = true → (s.band band).role ≠ 0 → (s.band band).shavings = false → (s.band band).pool = pool →
    row < ceilDiv (s.band band).taken (max 1 (s.band band).rowSize) → (∀ mp < (s.band band).n + 2, s.patrols band row mp = false) →
    exec (.patrol pool band row) s = .next s.settle) ∧
  (∀ (pool band row : Nat) (s : State), s.coreOn = true → (s.band band).role ≠ 0 → (s.band band).shavings = false → (s.band band).pool = pool →
    row < ceilDiv (s.band band).taken (max 1 (s.band band).rowSize) →
    exec (.patrol pool band row) s =
      .next (s.each ((List.range ((s.band band).n + 2)).filter (fun mp => s.patrols band row mp)) (fun u mp => u.patrolWord (s.band band) band row mp)).settle)

/-- A block command that its controller accepts enters intake and is taken as far as it gets; one that is not accepted changes nothing. For a command that passes intake at once with nothing else at work: Flush completes with success and touches no media. A read, compare or verify starts with three granules for each codeword it returns, metadata codewords included, its reads issued and its lock gone. A write of tenant 0 to a roughing namespace starts with the next sequence number and an exclusive lock on its range, and has asked for data up to what its staging holds, the first 64 blocks at least staged. Write Zeroes of whole segments writes their release record. Dataset Management of one partial range takes its blocks from the log, marks them, and completes; without AD it only completes. (derived: R24, R86, R156, R159, R183, R243, R287, R292, R293, R298) -/
def Obligations.BlockCommandsGetTheirLocksAndStaging : Prop :=
  (∀ (op : Nat) (i : Instr) (c : Cmd) (s : State),
    (op, i) ∈ [(0, Instr.flush c), (1, .write c), (2, .read c), (5, .compare c), (8, .writeZeroes c), (9, .datasetManagement c), (12, .verify c)] → s.accepts c = true →
    exec i s = .next (((s.cmdArrives c).intake op c).runBlock c.id).settleJobs) ∧
  (∀ (op : Nat) (i : Instr) (c : Cmd) (s : State), (op, i) ∈ [(0x12, Instr.ioManagementReceive c), (0x1D, .ioManagementSend c)] → s.accepts c = true →
    exec i s = .next (((s.cmdArrives c).intake op c).runPlacement c.id)) ∧
  (∀ (i : Instr) (c : Cmd) (s : State), i ∈ [Instr.flush c, .write c, .read c, .compare c, .writeZeroes c, .datasetManagement c, .verify c, .ioManagementReceive c, .ioManagementSend c] →
    s.accepts c = false → exec i s = .next s) ∧
  (∀ (c : Cmd) (s : State), s.freeFor 0 c = true → c.nsid = 0xFFFFFFFF →
    ∃ t, exec (.flush c) s = .next t ∧ t.lastAnswer = some (c.id, .success) ∧ t.media = s.media ∧ t = { s with io := t.io }) ∧
  (∀ (op : Nat) (i : Instr) (c : Cmd) (s : State), (op, i) ∈ [(2, Instr.read c), (5, .compare c), (12, .verify c)] → s.freeFor op c = true →
    ∃ (u : State) (f : Flight), exec i s = .next ({ u.issueRead c.id with io.locks := (u.issueRead c.id).io.locks.filter (fun l => l.id ≠ c.id) } : State).settleJobs ∧
      u.flight? c.id = some f ∧ f.op = op ∧ f.c = c ∧ f.stage = .started ∧ f.staged = (if (s.ns? c.nsid).any Ns.hasMeta then 6 else 3) * nlb c ∧ u = { s with io := u.io }) ∧
  (∀ (c : Cmd) (x : Ns) (s : State), s.freeFor 1 c = true → (s.ctrl c.id.ctrl).tenant = 0 → s.ns? c.nsid = some x → x.policy % 4 = 1 → 0 < s.segSize x →
    (s.pool x.pool).logState ≠ 2 → s.seqHeld = false →
    ∃ t f l, exec (.write c) s = .next t ∧ t.flight? c.id = some f ∧ f.op = 1 ∧ f.stage = .started ∧ f.seq = s.media.seq ∧ f.direct = false ∧
      f.asked ≤ nlb c ∧ f.staged = 2 * max f.asked (min 64 (nlb c)) ∧
      t.io.locks = [l] ∧ l.id = c.id ∧ l.granted = true ∧ l.excl = true ∧ l.lo = slba c ∧ l.hi = slba c + nlb c ∧
      t = { s with io := t.io, media := t.media } ∧ t.media.seq = s.media.seq + 1 ∧
      (s.handleOf x c = none → t.media = { s.media with seq := s.media.seq + 1, mapCache := t.media.mapCache })) ∧
  (∀ (c : Cmd) (x : Ns) (s : State), s.freeFor 8 c = true → (s.ctrl c.id.ctrl).tenant = 0 → s.ns? c.nsid = some x → 0 < s.segSize x →
    (s.pool x.pool).logState ≠ 2 → s.seqHeld = false → s.wholeSegs c = true →
    ∃ (u : State) (f : Flight), exec (.writeZeroes c) s = .next (u.releaseRec x (slba c / s.segSize x) (ceilDiv (nlb c) (s.segSize x)) (some c.id)).settleJobs ∧
      u.flight? c.id = some f ∧ f.op = 8 ∧ f.stage = .started ∧ u = { s with io := u.io, media := { s.media with seq := s.media.seq + 1, mapCache := u.media.mapCache } }) ∧
  (∀ (c : Cmd) (s : State), s.freeFor 9 c = true → (dw11 c).testBit 2 = false →
    ∃ t, exec (.datasetManagement c) s = .next t ∧ t.lastAnswer = some (c.id, .success) ∧ t.media = s.media ∧ t = { s with io := t.io }) ∧
  (∀ (c : Cmd) (x : Ns) (lo n : Nat) (s : State), s.freeFor 9 c = true → (dw11 c).testBit 2 = true → dsmRanges c = [(lo, n)] → s.ns? c.nsid = some x → s.nsx? x.nsx = some x →
    0 < n → 0 < lo % s.segSize x → lo % s.segSize x + n < s.segSize x → lo + n ≠ x.nsze → s.media.reqs = [] →
    ∃ t y, exec (.datasetManagement c) s = .next t ∧ t.lastAnswer = some (c.id, .success) ∧
      (∀ l, lo ≤ l → l < lo + n → look t.media.log (x.nsx, l) = none) ∧ t.nsx? x.nsx = some y ∧ (∀ l, lo ≤ l → l < lo + n → l ∈ y.dealloc) ∧
      t = { s with io := t.io, media := t.media })

/-- Staging takes the first command that waits for it on, and otherwise the next part of a write's data; a write starts with staging for its first part at least. A command whose lock is granted goes on, a write then with its staging; one held at a barrier is tried again. Data in order is placed, with protection information made where PRACT asks, and the next part is asked for; a failed data digest is counted and recorded and, like a bus error or a failed protection check, voids the write with its status. Data out of order or not asked for changes nothing. A write that meets R177 is published and completes with success; one that does not waits. The two placement commands answer with success for an endowed namespace. (derived: R24, R179, R260, R283, R287, R288, R293, R295) -/
def Obligations.HeldBlockCommandsGoOn : Prop :=
  (∀ (id : CmdId) (s : State), s.flight? id = none →
    exec (.stagingReserved id) s = .next s ∧ exec (.rangeLockGrant id) s = .next s ∧ exec (.barrierPass id) s = .next s ∧ exec (.writeComplete id) s = .next s) ∧
  (∀ (id : CmdId) (f : Flight) (s : State), s.flight? id = some f → f.stage = .held 7 → s.firstAt f 7 = true →
    exec (.stagingReserved id) s = .next (s.stage7 id)) ∧
  (∀ (id : CmdId) (f : Flight) (s : State), s.flight? id = some f → f.stage ≠ .held 7 ∨ s.firstAt f 7 = false →
    exec (.stagingReserved id) s = .next (s.askParts id 9).sendWaiting) ∧
  (∀ (id : CmdId) (f : Flight) (s : State), s.flight? id = some f → f.op = 1 → f.stage = .held 7 → s.firstAt f 7 = true → s.stagingFor f (s.stagingNeed f) = true → f.asked = 0 →
    ∃ t g, exec (.stagingReserved id) s = .next t ∧ t.flight? id = some g ∧ g.stage = .started ∧ g.staged = 2 * max g.asked (min 64 (nlb f.c)) ∧
      t = { s with io := { s.io with flights := t.io.flights }, media := { s.media with mapCache := t.media.mapCache } }) ∧
  (∀ (id : CmdId) (f : Flight) (s : State), s.flight? id = some f → f.op ≠ 9 → f.stage = .held 6 →
    exec (.rangeLockGrant id) s = .next ((s.grantLocks id).stage6 id)) ∧
  (∀ (id : CmdId) (f : Flight) (s : State), s.flight? id = some f → f.op = 9 → f.stage = .started →
    exec (.rangeLockGrant id) s = .next (((s.dsmLocks id).grantLocks id).dsmGo id)) ∧
  (∀ (id : CmdId) (f : Flight) (l : Lock) (s : State), s.flight? id = some f → f.op = 1 → f.stage = .held 6 → f.asked = 0 → s.io.locks = [l] → l.id = id → l.granted = false →
    s.stagingFor f (s.stagingNeed f) = true → (∀ g ∈ s.io.flights, g.stage ≠ .held 7) →
    ∃ t g, exec (.rangeLockGrant id) s = .next t ∧ t.io.locks = [{ l with granted := true }] ∧ t.flight? id = some g ∧ g.stage = .started ∧
      g.staged = 2 * max g.asked (min 64 (nlb f.c)) ∧ t = { s with io := t.io, media := { s.media with mapCache := t.media.mapCache } }) ∧
  (∀ (id : CmdId) (f : Flight) (s : State), s.flight? id = some f → f.stage = .held 5 →
    exec (.barrierPass id) s = .next (s.resume id)) ∧
  (∀ (id : CmdId) (f : Flight) (s : State), s.flight? id = some f → f.stage = .held 5 → f.op = 0 → s.barrierOk f = true → f.refs = [] → s.media.reqs = [] →
    ∃ t, exec (.barrierPass id) s = .next t ∧ t.lastAnswer = some (id, .success) ∧ t = { s with io := t.io }) ∧
  (∀ (id : CmdId) (f : Flight) (x : Ns) (data : List Block) (pi : List (BitVec 512)) (s : State), s.flight? id = some f → s.ns? f.c.nsid = some x → f.op = 1 → f.stage = .started →
    f.bad = none → f.voiding = false → f.arrived + data.length ≤ f.asked →
    pract f.c = true ∨ firstBad x f f.arrived ((List.range data.length).map (fun k => (data.getD k 0, pi.getD k 0))) = none →
    exec (.writeDataArrival id f.arrived data pi true true) s =
      .next (((if f.arrived = 0 then s.resteer id else s).placeAll id x (madeBlocks x f data pi)).askParts id 9).settle) ∧
  (∀ (id : CmdId) (f : Flight) (x : Ns) (data : List Block) (pi : List (BitVec 512)) (st : Status) (s : State), s.flight? id = some f → s.ns? f.c.nsid = some x → f.op = 1 →
    f.stage = .started → f.bad = none → f.voiding = false → f.arrived + data.length ≤ f.asked → pract f.c = false →
    firstBad x f f.arrived ((List.range data.length).map (fun k => (data.getD k 0, pi.getD k 0))) = some st →
    exec (.writeDataArrival id f.arrived data pi true true) s = .next (s.voidWrite id st 3).settle) ∧
  (∀ (id : CmdId) (f : Flight) (x : Ns) (data : List Block) (pi : List (BitVec 512)) (bus : Bool) (k : Conn) (s : State), s.flight? id = some f → s.ns? f.c.nsid = some x → f.op = 1 → f.stage = .started →
    f.bad = none → f.voiding = false → f.arrived + data.length ≤ f.asked → s.digestConn id = some k →
    exec (.writeDataArrival id f.arrived data pi false bus) s =
      .next ((((s.bump (dwPORT k.port + 0x32C) 1).log 0x0605 [k.port, 1, k.qid]).voidWrite id .transientTransport 2).settle)) ∧
  (∀ (id : CmdId) (f : Flight) (x : Ns) (data : List Block) (pi : List (BitVec 512)) (ok : Bool) (s : State), s.flight? id = some f → s.ns? f.c.nsid = some x → f.op = 1 → f.stage = .started →
    f.bad = none → f.voiding = false → f.arrived + data.length ≤ f.asked → ok = true ∨ s.digestConn id = none →
    exec (.writeDataArrival id f.arrived data pi ok false) s = .next (s.voidWrite id .dataTransfer 2).settle) ∧
  (∀ (id : CmdId) (f : Flight) (first : Nat) (data : List Block) (pi : List (BitVec 512)) (ok bus : Bool) (s : State), s.flight? id = some f →
    f.op ≠ 1 ∨ f.stage ≠ .started ∨ f.bad ≠ none ∨ f.voiding = true ∨ first ≠ f.arrived ∨ f.asked < f.arrived + data.length →
    exec (.writeDataArrival id first data pi ok bus) s = .next s) ∧
  (∀ (id : CmdId) (f : Flight) (s : State), s.flight? id = some f → f.op = 1 ∨ (f.op = 8 ∧ f.stage ≠ .held 6) → s.writeReady f = true →
    exec (.writeComplete id) s = .next ((s.publish f).finish id .success).settle) ∧
  (∀ (id : CmdId) (f : Flight) (s : State), s.flight? id = some f → f.op = 1 ∨ (f.op = 8 ∧ f.stage ≠ .held 6) → s.writeReady f = false →
    exec (.writeComplete id) s = .next s.settle) ∧
  (∀ (c : Cmd) (x : Ns) (s : State), s.freeFor 0x12 c = true → s.ns? c.nsid = some x → x.flags.testBit 0 = true → dw10 c % 256 = 1 → s.media.reqs = [] →
    ∃ t, exec (.ioManagementReceive c) s = .next t ∧ t.lastAnswer = some (c.id, .success) ∧ t = { s with io := t.io }) ∧
  (∀ (c : Cmd) (x : Ns) (s : State), s.freeFor 0x1D c = true → s.ns? c.nsid = some x → x.flags.testBit 0 = true → dw10 c % 256 = 1 →
    (∀ i ≤ dw10 c / 65536, leAt c.buf (2 * i) 2 < x.handles) →
    ∃ t, exec (.ioManagementSend c) s = .next t ∧ t.lastAnswer = some (c.id, .success) ∧ t = { s with io := t.io, media := t.media })

/-- On a ready PCIe controller, a completion or submission queue within the rules is created, an unused completion queue is deleted, and a submission queue's deletion is noted, drains and is answered once its commands are gone. Keep Alive and Abort answer with success (Abort with bit 0 set: nothing aborted); an event request waits, or takes the oldest waiting event. On a fabric controller, authentication messages are answered and a passed exchange authenticates; Property Set of CC enables, Property Get returns the property; Disconnect on the admin queue answers and resets, on an I/O queue deletes it; a failed exchange is recorded and loses the association. An admin Connect that is not held and within its limits makes a controller bound to its connection, an I/O Connect adds a queue to its controller; one to an unknown subsystem or of an unlisted host is dropped, one in a drain or a pause held, one without a context free refused. Outside these rules each command is refused with its status; during a pause, deletions and Keep Alive are put off; fabrics commands on another controller, and queue commands on a fabric one, have no opcode. (derived: R259, R270, R277, R299, R301, R302, R305) -/
def Obligations.QueueAndFabricsCommandsAnswer : Prop :=
  (∀ (c : Cmd) (s : State), s.readyFor false c = true → (s.ctrl c.id.ctrl).pcie = true → dw10 c % 65536 ≠ 0 → (s.ctrl c.id.ctrl).cqs.contains (dw10 c % 65536) = false →
    1 ≤ dw10 c / 65536 → dw10 c / 65536 ≤ 4095 → (dw11 c).testBit 0 = true →
    ∃ t, exec (.createIoCompletionQueue c) s = .next t ∧ (t.ctrl c.id.ctrl).cqs = (s.ctrl c.id.ctrl).cqs ++ [dw10 c % 65536] ∧ t.lastAnswer = some (c.id, .success) ∧
      (∀ k, k ≠ c.id.ctrl → t.ctrl k = s.ctrl k) ∧ t = { s with io := t.io }) ∧
  (∀ (c : Cmd) (s : State), s.readyFor false c = true → (s.ctrl c.id.ctrl).pcie = true → dw10 c % 65536 ≠ 0 → (s.ctrl c.id.ctrl).sqs.all (fun q => q.1 ≠ dw10 c % 65536) = true →
    (s.ctrl c.id.ctrl).cqs.contains (dw11 c / 65536) = true → 1 ≤ dw10 c / 65536 → dw10 c / 65536 ≤ 4095 → (dw11 c).testBit 0 = true → s.contextFree (s.ctrl c.id.ctrl).tenant = true →
    ∃ t, exec (.createIoSubmissionQueue c) s = .next t ∧ (t.ctrl c.id.ctrl).sqs = (s.ctrl c.id.ctrl).sqs ++ [(dw10 c % 65536, dw11 c / 65536)] ∧
      t.lastAnswer = some (c.id, .success) ∧ (∀ k, k ≠ c.id.ctrl → t.ctrl k = s.ctrl k) ∧ t = { s with io := t.io }) ∧
  (∀ (c : Cmd) (s : State), s.readyFor false c = true → (s.ctrl c.id.ctrl).pcie = true → dw10 c % 65536 ≠ 0 → (s.ctrl c.id.ctrl).cqs.contains (dw10 c % 65536) = true →
    (s.ctrl c.id.ctrl).sqs.all (fun q => q.2 ≠ dw10 c % 65536) = true →
    ∃ t, exec (.deleteIoCompletionQueue c) s = .next t ∧ (t.ctrl c.id.ctrl).cqs.contains (dw10 c % 65536) = false ∧ t.lastAnswer = some (c.id, .success) ∧
      (∀ k, k ≠ c.id.ctrl → t.ctrl k = s.ctrl k) ∧ t = { s with io := t.io }) ∧
  (∀ (c : Cmd) (s : State), s.readyFor false c = true → (s.ctrl c.id.ctrl).pcie = true → dw10 c % 65536 ≠ 0 → (s.ctrl c.id.ctrl).sqs.any (fun q => q.1 = dw10 c % 65536) = true →
    s.io.paused = false → s.io.flights = [] →
    ∃ u : State, exec (.deleteIoSubmissionQueue c) s = .next (u.settle.settleSqDels c.id.ctrl) ∧
      (u.ctrl c.id.ctrl).sqDels = (s.ctrl c.id.ctrl).sqDels ++ [(dw10 c % 65536, c.id)] ∧ (∀ k, k ≠ c.id.ctrl → u.ctrl k = s.ctrl k) ∧ u = { s with io := u.io }) ∧
  (∀ (k qid : Nat) (id : CmdId) (s : State), (s.ctrl k).sqDels = [(qid, id)] → (∀ f ∈ s.io.flights, f.c.id.ctrl ≠ k ∨ f.c.id.sq ≠ qid) →
    (s.settleSqDels k).lastAnswer = some (id, .success) ∧ ((s.settleSqDels k).ctrl k).sqDels = [] ∧
      ((s.settleSqDels k).ctrl k).sqs.any (fun q => q.1 = qid) = false) ∧
  (∀ (c : Cmd) (s : State), s.readyFor false c = true → s.io.paused = false →
    ∃ t, exec (.keepAlive c) s = .next t ∧ t.lastAnswer = some (c.id, .success) ∧ t = { s with io := t.io }) ∧
  (∀ (c : Cmd) (s : State), s.readyFor false c = true →
    ∃ t, exec (.abort c) s = .next t ∧ t.lastAnswer = some (c.id, .success) ∧ (∃ e, e ∈ t.io.posted ∧ e.id = c.id ∧ e.dw0 = 1) ∧ t = { s with io := t.io }) ∧
  (∀ (c : Cmd) (s : State), s.readyFor false c = true → (s.ctrl c.id.ctrl).aers.length < 16 → (s.ctrl c.id.ctrl).aens = [] →
    ∃ t, exec (.asynchronousEventRequest c) s = .next t ∧ (t.ctrl c.id.ctrl).aers = (s.ctrl c.id.ctrl).aers ++ [c.id] ∧ (∀ k, k ≠ c.id.ctrl → t.ctrl k = s.ctrl k) ∧
      t = { s with io := { s.io with ctrls := t.io.ctrls } }) ∧
  (∀ (c : Cmd) (e : Aen) (rest : List Aen) (s : State), s.readyFor false c = true → (s.ctrl c.id.ctrl).aers.length < 16 → (s.ctrl c.id.ctrl).aens = e :: rest →
    ∃ t, exec (.asynchronousEventRequest c) s = .next t ∧ (t.ctrl c.id.ctrl).aens = rest ∧ t.lastAnswer = some (c.id, .success) ∧ t = { s with io := t.io }) ∧
  (∀ (c : Cmd) (s : State), s.onFabric c = true → s.pwr.sleep = .active → (s.ctrl c.id.ctrl).ps = 0 →
    ∃ t, exec (.authenticationSend c) s = .next t ∧ t.lastAnswer = some (c.id, .success) ∧ t = { s with io := t.io }) ∧
  (∀ (c : Cmd) (s : State), s.onFabric c = true → s.pwr.sleep = .active → (s.ctrl c.id.ctrl).ps = 0 →
    ∃ t, exec (.authenticationReceive c true) s = .next t ∧ (t.ctrl c.id.ctrl).authed = true ∧ t.lastAnswer = some (c.id, .success) ∧
      (∀ k, k ≠ c.id.ctrl → t.ctrl k = s.ctrl k) ∧ t = { s with io := t.io }) ∧
  (∀ (c : Cmd) (s : State), s.onFabric c = true → s.pwr.sleep = .active → (s.ctrl c.id.ctrl).ps = 0 → (s.ctrl c.id.ctrl).authed = true → dw11 c = 0x14 →
    (dw12 c).testBit 0 = true → field (dw12 c) 15 14 = 0 → (s.ctrl c.id.ctrl).en = false → (s.ctrl c.id.ctrl).rdy = false →
    ∃ t, exec (.propertySet c) s = .next t ∧ (t.ctrl c.id.ctrl).en = true ∧ (t.ctrl c.id.ctrl).rdy = true ∧ t.lastAnswer = some (c.id, .success) ∧
      (∀ k, k ≠ c.id.ctrl → t.ctrl k = s.ctrl k) ∧ t = { s with io := t.io }) ∧
  (∀ (c : Cmd) (s : State), s.onFabric c = true → s.pwr.sleep = .active → (s.ctrl c.id.ctrl).ps = 0 → (s.ctrl c.id.ctrl).authed = true → dw11 c ∈ [0x00, 0x08, 0x14, 0x1C] →
    ∃ t e, exec (.propertyGet c) s = .next t ∧ t.io.posted.getLast? = some e ∧ e.id = c.id ∧ e.st = .success ∧
      e.dw0 + 2 ^ 32 * e.dw1 = s.property c.id.ctrl (dw11 c) ∧ t = { s with io := t.io }) ∧
  (∀ (c : Cmd) (s : State), s.onFabric c = true → s.pwr.sleep = .active → (s.ctrl c.id.ctrl).ps = 0 → (s.ctrl c.id.ctrl).authReq = false ∨ (s.ctrl c.id.ctrl).authed = true → c.id.sq = 0 →
    ∃ u : State, exec (.disconnect c) s = .next (u.resetCtrl c.id.ctrl 3) ∧ u.lastAnswer = some (c.id, .success) ∧
      (∀ x ∈ u.host.conns, x.ctrl ≠ some c.id.ctrl) ∧ u = { s with io := u.io, host := u.host }) ∧
  (∀ (c : Cmd) (r : ConnectReq) (t : Option Nat) (s : State), s.pwr.phase = .run → r.rdma = false → s.host.conns.any (fun x => x.id = r.conn ∧ x.ctrl.isNone) = true →
    s.subsystem r.subNqn = some t → s.connectHeld t r.hostNqn = false → t.all (fun t => s.listed t r.hostNqn) = true → 1 ≤ r.depth → r.depth ≤ 4096 →
    t.all (fun t => s.contextFree t) = true → r.qid = 0 →
    ∃ v, exec (.connect c r) s = .next v ∧ (v.ctrl s.newCtrl).exist = true ∧ (v.ctrl s.newCtrl).tenant = t.getD 0 ∧ (v.ctrl s.newCtrl).hostNqn = r.hostNqn ∧
      v.lastAnswer = some (c.id, .success) ∧ (∀ x ∈ v.host.conns, x.id = r.conn → x.ctrl = some s.newCtrl) ∧ (∀ k, k ≠ s.newCtrl → v.ctrl k = s.ctrl k) ∧
      v = { s with io := v.io, host := v.host }) ∧
  (∀ (i : Instr) (c : Cmd) (s : State), i ∈ [Instr.createIoCompletionQueue c, .createIoSubmissionQueue c, .deleteIoCompletionQueue c, .deleteIoSubmissionQueue c] →
    s.readyFor false c = true → (s.ctrl c.id.ctrl).pcie = false → exec i s = .next (s.refuse c .invalidOpcode)) ∧
  (∀ (c : Cmd) (s : State), s.readyFor false c = true → (s.ctrl c.id.ctrl).pcie = true → dw10 c % 65536 = 0 ∨ (s.ctrl c.id.ctrl).cqs.contains (dw10 c % 65536) = true →
    exec (.createIoCompletionQueue c) s = .next (s.refuse c .invalidQid)) ∧
  (∀ (c : Cmd) (s : State), s.readyFor false c = true → (s.ctrl c.id.ctrl).pcie = true → dw10 c % 65536 ≠ 0 → (s.ctrl c.id.ctrl).cqs.contains (dw10 c % 65536) = false →
    dw10 c / 65536 = 0 ∨ 4095 < dw10 c / 65536 → exec (.createIoCompletionQueue c) s = .next (s.refuse c .invalidQsize)) ∧
  (∀ (c : Cmd) (s : State), s.readyFor false c = true → (s.ctrl c.id.ctrl).pcie = true →
    dw10 c % 65536 = 0 ∨ (s.ctrl c.id.ctrl).sqs.any (fun q => q.1 = dw10 c % 65536) = true ∨ (s.ctrl c.id.ctrl).cqs.contains (dw11 c / 65536) = false →
    exec (.createIoSubmissionQueue c) s = .next (s.refuse c .invalidQid)) ∧
  (∀ (c : Cmd) (s : State), s.readyFor false c = true → (s.ctrl c.id.ctrl).pcie = true → dw10 c % 65536 ≠ 0 → (s.ctrl c.id.ctrl).sqs.all (fun q => q.1 ≠ dw10 c % 65536) = true →
    (s.ctrl c.id.ctrl).cqs.contains (dw11 c / 65536) = true → 1 ≤ dw10 c / 65536 → dw10 c / 65536 ≤ 4095 → (dw11 c).testBit 0 = true → s.contextFree (s.ctrl c.id.ctrl).tenant = false →
    exec (.createIoSubmissionQueue c) s = .next (s.refuse c (.vendor 0x83))) ∧
  (∀ (c : Cmd) (s : State), s.readyFor false c = true → (s.ctrl c.id.ctrl).pcie = true → dw10 c % 65536 ≠ 0 → (s.ctrl c.id.ctrl).cqs.contains (dw10 c % 65536) = true →
    (s.ctrl c.id.ctrl).sqs.any (fun q => q.2 = dw10 c % 65536) = true → exec (.deleteIoCompletionQueue c) s = .next (s.refuse c .invalidQdel)) ∧
  (∀ (c : Cmd) (s : State), s.readyFor false c = true → (s.ctrl c.id.ctrl).pcie = true → dw10 c % 65536 ≠ 0 → (s.ctrl c.id.ctrl).sqs.any (fun q => q.1 = dw10 c % 65536) = true →
    exec (.deleteIoSubmissionQueue c) s = .next (if s.io.paused then s.putOff (.sqDel c) else s.deleteSq c (dw10 c % 65536))) ∧
  (∀ (c : Cmd) (s : State), s.readyFor false c = true → s.io.paused = true → exec (.keepAlive c) s = .next (s.putOff (.keepAlive c))) ∧
  (∀ (c : Cmd) (s : State), s.readyFor false c = true → 16 ≤ (s.ctrl c.id.ctrl).aers.length → exec (.asynchronousEventRequest c) s = .next (s.refuse c .aerLimit)) ∧
  (∀ (c : Cmd) (s : State), s.onFabric c = true → s.pwr.sleep = .active → (s.ctrl c.id.ctrl).ps = 0 →
    exec (.authenticationReceive c false) s =
      .next ((s.log 0x0A20 [Config.nqnHash (s.ctrl c.id.ctrl).hostNqn % 2 ^ 64, (s.ctrl c.id.ctrl).tenant]).loseAssoc c.id.ctrl 3)) ∧
  (∀ (i : Instr) (c : Cmd) (s : State), i ∈ [Instr.propertySet c, .propertyGet c, .disconnect c] → s.onFabric c = true → s.pwr.sleep = .active → (s.ctrl c.id.ctrl).ps = 0 →
    (s.ctrl c.id.ctrl).authReq = true → (s.ctrl c.id.ctrl).authed = false → exec i s = .next (s.refuse c .authentication)) ∧
  (∀ (i : Instr) (c : Cmd) (ok : Bool) (s : State), i ∈ [Instr.authenticationSend c, .authenticationReceive c ok, .propertySet c, .propertyGet c, .disconnect c] →
    s.onFabric c = false → s.accepts c = true → exec i s = .next (s.refuse c .invalidOpcode)) ∧
  (∀ (c : Cmd) (s : State), s.onFabric c = true → s.pwr.sleep = .active → (s.ctrl c.id.ctrl).ps = 0 → (s.ctrl c.id.ctrl).authReq = false ∨ (s.ctrl c.id.ctrl).authed = true →
    exec (.propertySet c) s = .next (if dw11 c = 0x14 then (s.post c.id .success).writeCc c.id.ctrl (dw12 c) else s.refuse c .invalidField)) ∧
  (∀ (c : Cmd) (s : State), s.onFabric c = true → s.pwr.sleep = .active → (s.ctrl c.id.ctrl).ps = 0 → (s.ctrl c.id.ctrl).authReq = false ∨ (s.ctrl c.id.ctrl).authed = true →
    dw11 c ∉ [0x00, 0x08, 0x14, 0x1C] → exec (.propertyGet c) s = .next (s.refuse c .invalidField)) ∧
  (∀ (c : Cmd) (s : State), s.onFabric c = true → s.pwr.sleep = .active → (s.ctrl c.id.ctrl).ps = 0 → (s.ctrl c.id.ctrl).authReq = false ∨ (s.ctrl c.id.ctrl).authed = true → c.id.sq ≠ 0 →
    exec (.disconnect c) s = .next (if s.io.paused then s.putOff (.sqDel c) else s.deleteSq c c.id.sq)) ∧
  (∀ (c : Cmd) (r : ConnectReq) (s : State), s.pwr.phase = .run → s.host.conns.any (fun x => x.id = r.conn ∧ x.ctrl.isNone) = true →
    exec (.connect c r) s = .next (s.serveConnect c r)) ∧
  (∀ (c : Cmd) (r : ConnectReq) (s u : State), s.pwr.phase = .run → r.rdma = true → s.serves r.port r.entry 1 = true → (∀ x ∈ s.host.conns, x.id ≠ r.conn) →
    u = { s with host.conns := s.host.conns ++ [{ id := r.conn, port := r.port, entry := r.entry, rdma := true }] } →
    exec (.connect c r) s = .next (u.serveConnect c r)) ∧
  (∀ (c : Cmd) (r : ConnectReq) (s : State), (s.subsystem r.subNqn = none → s.serveConnect c r = s.dropConn r.conn) ∧
    (∀ t, s.subsystem r.subNqn = some t → s.connectHeld t r.hostNqn = true → s.serveConnect c r = { s with io.heldConnects := s.io.heldConnects ++ [(c, r)] }) ∧
    (∀ t, s.subsystem r.subNqn = some (some t) → s.connectHeld (some t) r.hostNqn = false → s.listed t r.hostNqn = false → s.serveConnect c r = s.dropConn r.conn) ∧
    (∀ t, s.subsystem r.subNqn = some (some t) → s.connectHeld (some t) r.hostNqn = false → s.listed t r.hostNqn = true → 1 ≤ r.depth → r.depth ≤ 4096 → s.contextFree t = false →
      s.serveConnect c r = s.refuse c (.vendor 0x83))) ∧
  (∀ (c : Cmd) (r : ConnectReq) (t : Nat) (s : State), s.pwr.phase = .run → s.host.conns.any (fun x => x.id = r.conn ∧ x.ctrl.isNone) = true →
    s.subsystem r.subNqn = some (some t) → s.connectHeld (some t) r.hostNqn = false → s.listed t r.hostNqn = true → 1 ≤ r.depth → r.depth ≤ 4096 → s.contextFree t = true → r.qid ≠ 0 →
    (s.ctrl r.cntlid).exist = true → (s.ctrl r.cntlid).hostNqn = r.hostNqn → (s.ctrl r.cntlid).kind = .fabric → (s.ctrl r.cntlid).tenant = t → (s.ctrl r.cntlid).rdy = true →
    (s.ctrl r.cntlid).resetting = false → (∀ q ∈ (s.ctrl r.cntlid).sqs, q.1 ≠ r.qid) →
    ∃ v, exec (.connect c r) s = .next v ∧ (v.ctrl r.cntlid).sqs = (s.ctrl r.cntlid).sqs ++ [(r.qid, r.qid)] ∧ v.lastAnswer = some (c.id, .success) ∧
      (∀ x ∈ v.host.conns, x.id = r.conn → x.ctrl = some r.cntlid ∧ x.qid = r.qid) ∧ (∀ k, k ≠ r.cntlid → v.ctrl k = s.ctrl k) ∧ v = { s with io := v.io, host := v.host })

/-- A doorbell notes the tail of its queue. Enabling makes a controller ready, but not before its reset is done; a reset, a function level reset, a shutdown notification and a lost association begin the drain of that controller with their cause, or are put off during a pause; when its started commands have ended, a reset controller has no queue and is not ready, a fabric controller that lost its association is gone, and one shut down reports it. An initialization request opens a connection, or is ended where it asks for TLS or another format. A lost connection goes, with its association. The PCIe link going down resets every PCIe controller, and its coming up notes what was trained. (derived: R259, R261, R263, R265, R266, R268, R286, R297, R299, R300, R301) -/
def Obligations.ControllersEnableResetAndDrain : Prop :=
  (∀ (k sq tail : Nat) (s : State), s.pwr.phase = .run → (s.ctrl k).exist = true → (s.ctrl k).pcie = true → (s.ctrl k).rdy = true → (s.ctrl k).shst = 0 →
    sq = 0 ∨ (s.ctrl k).sqs.any (fun q => q.1 = sq) = true →
    ∃ t, exec (.doorbellWrite k sq tail) s = .next t ∧ look (t.ctrl k).tails sq = some tail ∧ (∀ j, j ≠ k → t.ctrl j = s.ctrl j) ∧ t = { s with io := { s.io with ctrls := t.io.ctrls } }) ∧
  (∀ (k : Nat) (s : State), s.pwr.phase = .run → (s.ctrl k).exist = true → (s.ctrl k).en = false → (s.ctrl k).rdy = false → (s.ctrl k).resetting = false → (s.ctrl k).pcie = false ∨ s.host.pcieUp = true →
    ∃ t, exec (.ccEnable k) s = .next t ∧ (t.ctrl k).en = true ∧ (t.ctrl k).rdy = true ∧ (∀ j, j ≠ k → t.ctrl j = s.ctrl j) ∧ t = { s with io := { s.io with ctrls := t.io.ctrls } }) ∧
  (∀ (k : Nat) (s : State), s.pwr.phase = .run → (s.ctrl k).en = true → exec (.controllerReset k) s = .next (s.resetCtrl k 0)) ∧
  (∀ (k cause : Nat) (s : State), (s.ctrl k).exist = true → (s.ctrl k).resetting = false → s.io.paused = false →
    ∃ u : State, s.resetCtrl k cause = u.beginDrain k cause ∧ (u.ctrl k).en = false ∧ (u.ctrl k).resetting = true ∧ (∀ j, j ≠ k → u.ctrl j = s.ctrl j) ∧
      u = { s with io := { s.io with ctrls := u.io.ctrls } }) ∧
  (∀ (k cause : Nat) (s : State), (s.ctrl k).exist = true → (s.ctrl k).resetting = false → s.io.paused = true →
    ∃ u : State, s.resetCtrl k cause = u.putOff (.reset k cause) ∧ (u.ctrl k).en = false ∧ (∀ j, j ≠ k → u.ctrl j = s.ctrl j) ∧
      u = { s with io := { s.io with ctrls := u.io.ctrls } }) ∧
  (∀ (k : Nat) (s u : State), s.pwr.phase = .run → (s.ctrl k).exist = true → (s.ctrl k).pcie = true → s.pwr.mode ≠ 1 ∨ k = 0 →
    u = (if k = 0 ∧ s.host.pcieUp = true then s.dmaBusLost else s) →
    exec (.flr k) s = .next (u.resetCtrl k 1)) ∧
  (∀ (k : Nat) (shn : BitVec 2) (s : State), s.pwr.phase = .run → (s.ctrl k).exist = true → (s.ctrl k).shst = 0 → (s.ctrl k).draining = false → shn = 1 ∨ shn = 2 →
    ∃ u : State, exec (.shutdownNotification k shn) s = .next (u.beginDrain k 30) ∧ (u.ctrl k).shn = shn.toNat ∧ (u.ctrl k).shst = 1 ∧ (∀ j, j ≠ k → u.ctrl j = s.ctrl j) ∧
      u = { s with io := { s.io with ctrls := u.io.ctrls } }) ∧
  (∀ (k : Nat) (s u : State), (s.ctrl k).draining = true → u = s.settleSqDels k → (∀ f ∈ u.io.flights, f.c.id.ctrl ≠ k) → (s.ctrl k).resetCause = 30 →
    ∃ t, exec (.drainComplete k) s = .next t ∧ (t.ctrl k).shst = 2 ∧ (t.ctrl k).draining = false ∧ (t.ctrl k).sqs = (u.ctrl k).sqs ∧ (∀ j, j ≠ k → t.ctrl j = u.ctrl j) ∧
      t = { u with io := { u.io with ctrls := t.io.ctrls } }) ∧
  (∀ (k : Nat) (s u : State), (s.ctrl k).draining = true → u = s.settleSqDels k → (∀ f ∈ u.io.flights, f.c.id.ctrl ≠ k) → (s.ctrl k).resetCause = 20 →
    exec (.drainComplete k) s = .next ((if (s.ctrl k).pcie then u.ctrlClear k else u.ctrlGone k).tenantDone (s.ctrl k).tenant)) ∧
  (∀ (k : Nat) (s u : State), (s.ctrl k).draining = true → u = s.settleSqDels k → (∀ f ∈ u.io.flights, f.c.id.ctrl ≠ k) → (s.ctrl k).resetCause = 40 →
    exec (.drainComplete k) s = .next (u.ctrlGone k)) ∧
  (∀ (k : Nat) (s u : State), (s.ctrl k).draining = true → u = s.settleSqDels k → (∀ f ∈ u.io.flights, f.c.id.ctrl ≠ k) → 10 ≤ (s.ctrl k).resetCause → (s.ctrl k).resetCause ≠ 20 →
    (s.ctrl k).resetCause ≠ 30 → (s.ctrl k).resetCause ≠ 40 →
    exec (.drainComplete k) s = .next ((u.ctrlGone k).log 0x060A [k, (s.ctrl k).resetCause - 10, (s.ctrl k).drainCount]).serveHeld) ∧
  (∀ (k : Nat) (s u : State), (s.ctrl k).draining = true → u = s.settleSqDels k → (∀ f ∈ u.io.flights, f.c.id.ctrl ≠ k) → (s.ctrl k).resetCause < 10 →
    (s.ctrl k).pcie = true ∨ (s.ctrl k).resetCause ≠ 3 →
    exec (.drainComplete k) s = .next ((u.log 0x0609 [k, (s.ctrl k).resetCause, (s.ctrl k).drainCount]).ctrlClear k)) ∧
  (∀ (k : Nat) (s u : State), (s.ctrl k).draining = true → u = s.settleSqDels k → (∀ f ∈ u.io.flights, f.c.id.ctrl ≠ k) → (s.ctrl k).resetCause = 3 → (s.ctrl k).pcie = false →
    exec (.drainComplete k) s = .next ((u.log 0x0609 [k, 3, (s.ctrl k).drainCount]).ctrlGone k).serveHeld) ∧
  (∀ (k : Nat) (s : State), ((s.ctrlClear k).ctrl k).sqs = [] ∧ ((s.ctrlClear k).ctrl k).cqs = [] ∧ ((s.ctrlClear k).ctrl k).rdy = false ∧ ((s.ctrlClear k).ctrl k).resetting = false ∧
    ((s.ctrlGone k).ctrl k).exist = false ∧ (∀ x ∈ (s.ctrlGone k).host.conns, x.ctrl ≠ some k) ∧
    (∀ j, j ≠ k → (s.ctrlClear k).ctrl j = s.ctrl j ∧ (s.ctrlGone k).ctrl j = s.ctrl j)) ∧
  (∀ (conn port entry pfv maxr2t hpda : Nat) (hdgst ddgst noSuccess : Bool) (s : State), s.pwr.phase = .run → s.portExists port = true → (s.port port).linkUp = true →
    (s.reg (dwPORT port)).testBit 2 = true → entry < 16 → (s.reg (dwPORT port + 0x100 + 32 * entry + 16)).testBit 8 = true → (∀ x ∈ s.host.conns, x.id ≠ conn) → pfv = 0 →
    ∃ t x, exec (.icreq conn port entry pfv maxr2t hpda false hdgst ddgst noSuccess) s = .next t ∧ t.host.conns = s.host.conns ++ [x] ∧ x.id = conn ∧ x.rdma = false ∧
      x.maxR2t = min (maxr2t + 1) 8 ∧ t = { s with host := { s.host with conns := t.host.conns } }) ∧
  (∀ (conn port entry pfv maxr2t hpda : Nat) (tls hdgst ddgst noSuccess : Bool) (s : State), s.pwr.phase = .run → s.serves port entry 2 = true →
    (∀ x ∈ s.host.conns, x.id ≠ conn) → tls = true ∨ pfv ≠ 0 →
    exec (.icreq conn port entry pfv maxr2t hpda tls hdgst ddgst noSuccess) s = .next { s with host.terms := s.host.terms ++ [(conn, .invalidParameter)] }) ∧
  (∀ (conn : Nat) (s : State), exec (.tcpTimeout conn) s = .next (s.loseConn conn 0) ∧ exec (.rdmaRetryExhausted conn) s = .next (s.loseConn conn 1) ∧
    exec (.connectionLoss conn) s = .next (s.took.loseConn conn s.freeVal)) ∧
  (∀ (conn cause : Nat) (x : Conn) (s : State), s.host.conns.find? (fun x => x.id = conn) = some x →
    ∃ u : State, s.loseConn conn cause = (match x.ctrl with | some k => u.loseAssoc k cause | none => u) ∧ u.host.conns = s.host.conns.filter (fun y => y.id ≠ conn) ∧
      u = { s with host := { s.host with conns := u.host.conns } }) ∧
  (∀ (k cause : Nat) (s : State), (s.ctrl k).exist = true → (s.ctrl k).resetting = false → s.io.paused = false →
    ∃ u : State, s.loseAssoc k cause = u.beginDrain k (10 + cause) ∧ (u.ctrl k).en = false ∧ (u.ctrl k).resetting = true ∧ (∀ x ∈ u.host.conns, x.ctrl ≠ some k) ∧
      (∀ j, j ≠ k → u.ctrl j = s.ctrl j) ∧ u = { s with io := { s.io with ctrls := u.io.ctrls }, host := { s.host with conns := u.host.conns } }) ∧
  (∀ (k : Nat) (s : State), (s.ctrl k).pcie = false → s.io.paused = false → exec (.keepAliveTimeout k) s = .next (s.loseAssoc k 6)) ∧
  (∀ (k : Nat) (s : State), (s.ctrl k).pcie = true ∨ s.io.paused = true → exec (.keepAliveTimeout k) s = .next s) ∧
  (∀ s : State, s.host.pcieUp = true →
    ∃ u : State, exec .pcieLink s = .next ((u.each u.pcieCtrls (fun s i => s.resetCtrl i 2)).log 0x0606 [0xFF, 0, 0]) ∧ u.host.pcieUp = false ∧
      (∀ ch < 32, (s.chan ch).st = 1 → s.mgrChan ch = true → s.usesHost ch = true → (u.chan ch).st = 2 ∧ (u.chan ch).cause = 8) ∧
      u = { s with host := u.host, dma := u.dma, dw := u.dw }) ∧
  (∀ (speed width : Nat) (flit sris : Bool) (s : State), s.pwr.phase ≠ .held → s.pwr.perst = false → (∀ i < 16, s.lanePattern (192 + i) = false) →
    ∃ t, exec (.pcieLinkUp speed width flit sris) s = .next t ∧ t.host.pcieUp = true ∧ t.host.flit = flit ∧ t.host.sris = sris ∧ t.host.speed = speed ∧ t.host.width = width ∧ t.host.busMaster = true ∧
      t = { s with host := t.host, gbk := t.gbk, dw := t.dw }) ∧
  (∀ (k : Nat) (s : State), s.pwr.phase ≠ .run → exec (.controllerReset k) s = .next s ∧ exec (.ccEnable k) s = .next s ∧
    (∀ shn, exec (.shutdownNotification k shn) s = .next s) ∧ (∀ sq tail, exec (.doorbellWrite k sq tail) s = .next s)) ∧
  (∀ (k : Nat) (s : State), s.pwr.phase = .run → (s.ctrl k).rdy = true ∨ (s.ctrl k).resetting = true → exec (.ccEnable k) s = .next s) ∧
  (∀ s : State, s.host.pcieUp = false → exec .pcieLink s = .next s)

/-- A mode that may be taken replaces the group's mode, logged; one that may not raises the mode error and changes nothing else. A port that is enabled comes up with code 0x0601, and goes down with its cause. A frame with a bad check is counted; a good one is counted received, and dropped by MACsec, discarded, or placed where an address entry takes it. A PFC frame pauses or resumes an enabled priority, an expiry resumes it, a storm of a paused priority is marked and logged once, and cleared. A pause refresh below the low threshold resumes the partner. A rate increase keeps a queue pair within line rate. A TLP with a PASID outside 1 to 16 in service mode is counted. (derived: R249, R250, R252, R255, R256, R257, R267, R276) -/
def Obligations.PortsCarryFramesAndPauses : Prop :=
  (∀ (p : Path) (g : Nat) (mode : BitVec 3) (s : State), g < 4 → s.reach p (dwGROUP g) = .ok → mode.toNat ≠ s.grpMode g → s.modeOk g mode.toNat = true →
    exec (.portMode p g mode) s = .next (s.setMode g mode.toNat)) ∧
  (∀ (p : Path) (g : Nat) (mode : BitVec 3) (s : State), g < 4 → s.reach p (dwGROUP g) = .ok → mode.toNat ≠ s.grpMode g → s.modeOk g mode.toNat = true → s.portsOf g = [] →
    s.io.ctrls = [] →
    ∃ t, exec (.portMode p g mode) s = .next t ∧ t.grpMode g = mode.toNat ∧ (∀ k, k ≠ g → t.grpMode k = s.grpMode k) ∧ t = { s with dw := t.dw, gbk := t.gbk }) ∧
  (∀ (p : Path) (g : Nat) (mode : BitVec 3) (s : State), g < 4 → s.reach p (dwGROUP g) = .ok → mode.toNat ≠ s.grpMode g → s.modeOk g mode.toNat = false →
    ∃ t, exec (.portMode p g mode) s = .next t ∧ (t.w1c (dwGROUP g + 4)).testBit 1 = true ∧ t.dw.regs = s.dw.regs ∧ t = { s with dw := t.dw }) ∧
  (∀ (p : Nat) (s : State), p < 64 → s.pwr.phase = .run → s.portExists p = true → (s.port p).linkUp = false → (s.reg (dwPORT p)).testBit 0 = true →
    (∀ l ∈ s.portLanes p, s.lanePattern l = false) →
    ∃ t, exec (.portLinkUp p) s = .next t ∧ (t.port p).linkUp = true ∧ (t.port p).fecLock = true ∧ (∀ k, k ≠ p → t.port k = s.port k) ∧
      t = { s with host := { s.host with ports := t.host.ports }, gbk := t.gbk, dw := t.dw }) ∧
  (∀ (p cause : Nat) (s : State), p < 64 → s.pwr.phase = .run → s.portExists p = true → (s.port p).linkUp = true →
    ∃ t, exec (.portLinkDown p cause) s = .next t ∧ (t.port p).linkUp = false ∧ (t.port p).fecLock = false ∧ (∀ k, k ≠ p → t.port k = s.port k) ∧ t.host.conns = s.host.conns ∧
      t = { s with host := t.host, gbk := t.gbk, dw := t.dw }) ∧
  (∀ (p : Nat) (f : Frame) (s : State), p < 64 → s.pwr.phase = .run → s.portExists p = true → (s.port p).linkUp = true → f.fcsOk = false →
    exec (.frameReceive p f) s = .next (s.bump (dwPORT p + 0x30C) 1)) ∧
  (∀ (p : Nat) (f : Frame) (s : State), p < 64 → s.pwr.phase = .run → s.portExists p = true → (s.port p).linkUp = true → f.fcsOk = true → f.protectedFrame = false →
    s.macPolicy p ≠ 2 → f.addrEntry = none → f.eapol = false →
    exec (.frameReceive p f) s = .next ((s.bump (dwPORT p + 0x300) 1).bump (dwPORT p + 0x308) 1)) ∧
  (∀ (p : Nat) (f : Frame) (s : State), p < 64 → s.pwr.phase = .run → s.portExists p = true → (s.port p).linkUp = true → f.fcsOk = true → f.protectedFrame = false →
    s.macPolicy p ≠ 2 → f.eapol = true → f.known = true → f.len ≤ 9216 → f.len + (s.port p).heldAll ≤ s.reservation p → f.ce = false → f.headerDigestBad = false →
    ∃ t, exec (.frameReceive p f) s = .next t ∧ (t.port p).paused = (s.port p).paused ∧ (∀ k, k ≠ p → t.port k = s.port k) ∧
      t = { s with host := { s.host with ports := t.host.ports }, dw := t.dw, free := t.free }) ∧
  (∀ (p prio quanta : Nat) (s : State), p < 64 → s.pwr.phase = .run → s.portExists p = true → (s.port p).linkUp = true → prio < 8 → s.pfcEn p prio = true →
    ∃ t, exec (.pfcFrame p prio quanta) s = .next t ∧ (t.port p).paused.testBit prio = decide (quanta ≠ 0) ∧
      (∀ k, k ≠ prio → (t.port p).paused.testBit k = (s.port p).paused.testBit k) ∧ (∀ k, k ≠ p → t.port k = s.port k) ∧
      t = { s with host := { s.host with ports := t.host.ports }, dw := t.dw }) ∧
  (∀ (p prio : Nat) (s : State), p < 64 → s.pwr.phase = .run → s.portExists p = true →
    ∃ t, exec (.pfcPauseExpiry p prio) s = .next t ∧ (t.port p).paused.testBit prio = false ∧ (∀ k, k ≠ p → t.port k = s.port k) ∧
      t = { s with host := { s.host with ports := t.host.ports } }) ∧
  (∀ (p prio : Nat) (s : State), p < 64 → s.pwr.phase = .run → s.portExists p = true → (s.port p).xoff.testBit prio = true → s.reg (dwPORT p + 0x0C) / 65536 = 0 →
    ∃ t, exec (.pfcPauseRefresh p prio) s = .next t ∧ (t.port p).xoff = (s.port p).xoff ∧ (∀ k, k ≠ p → t.port k = s.port k) ∧
      t = { s with host := { s.host with ports := t.host.ports }, dw := t.dw, free := t.free }) ∧
  (∀ (p prio : Nat) (s : State), p < 64 → s.pwr.phase = .run → s.portExists p = true → s.reg (dwPORT p + 0x10) % 65536 ≠ 0 → (s.port p).paused.testBit prio = true →
    (s.port p).storm.testBit prio = false →
    ∃ t, exec (.pfcStorm p prio) s = .next t ∧ (t.port p).storm.testBit prio = true ∧ (∀ k, k ≠ p → t.port k = s.port k) ∧
      t = { s with host := { s.host with ports := t.host.ports }, gbk := t.gbk, dw := t.dw }) ∧
  (∀ (p prio : Nat) (s : State), p < 64 → s.pwr.phase = .run → s.portExists p = true →
    ∃ t, exec (.pfcStormClear p prio) s = .next t ∧ (t.port p).storm.testBit prio = false ∧ (∀ k, k ≠ p → t.port k = s.port k) ∧
      t = { s with host := { s.host with ports := t.host.ports } }) ∧
  (∀ (qp : Nat) (x : Conn) (s : State), s.host.conns.find? (fun x => x.id = qp ∧ x.rdma) = some x →
    ∃ t, exec (.dcqcnRateIncrease qp) s = .next t ∧ (t.host.qps.get (fun _ => {}) qp).rate ≤ 10 * modeRate (s.grpMode (x.port / 16)) ∧
      (∀ k, k ≠ qp → t.host.qps.get (fun _ => {}) k = s.host.qps.get (fun _ => {}) k) ∧ t = { s with host := { s.host with qps := t.host.qps } }) ∧
  (∀ (pasid : Nat) (s : State), s.pwr.phase = .run → s.host.pcieUp = true → s.pwr.mode = 1 → pasid = 0 ∨ 16 < pasid →
    exec (.pasidTlp pasid) s = .next (s.bump (dwSLICE + 0x20) 1)) ∧
  (∀ (i : Instr) (p prio quanta cause ch : Nat) (f : Frame) (tx lim : Bool) (s : State), p < 64 → s.pwr.phase ≠ .run ∨ s.portExists p = false →
    i ∈ [Instr.portLinkUp p, .portLinkDown p cause, .frameReceive p f, .pfcFrame p prio quanta, .pfcPauseExpiry p prio, .pfcPauseRefresh p prio, .pfcStorm p prio, .pfcStormClear p prio,
      .sakDistribution p, .pnExhausted p tx lim ch, .mkaPeerTimeout p] → exec i s = .next s) ∧
  (∀ (p : Path) (g : Nat) (mode : BitVec 3) (s : State), g < 4 → s.reach p (dwGROUP g) = .ok → mode.toNat = s.grpMode g → exec (.portMode p g mode) s = .next s) ∧
  (∀ (p : Nat) (s : State), p < 64 → s.pwr.phase = .run → s.portExists p = true →
    (s.port p).linkUp = true ∨ (s.reg (dwPORT p)).testBit 0 = false ∨ (s.portLanes p).any s.lanePattern = true → exec (.portLinkUp p) s = .next s) ∧
  (∀ (p cause : Nat) (s : State), p < 64 → s.pwr.phase = .run → s.portExists p = true → (s.port p).linkUp = false → exec (.portLinkDown p cause) s = .next s) ∧
  (∀ (p : Nat) (f : Frame) (s : State), p < 64 → s.pwr.phase = .run → s.portExists p = true → (s.port p).linkUp = true → f.fcsOk = true →
    (s.bump (dwPORT p + 0x300) 1).macsecIn p f = none →
    exec (.frameReceive p f) s = .next ((s.bump (dwPORT p + 0x300) 1).bump (dwPORT p + 0x328) 1)) ∧
  (∀ (p : Nat) (f : Frame) (s u : State), p < 64 → s.pwr.phase = .run → s.portExists p = true → (s.port p).linkUp = true → f.fcsOk = true →
    (s.bump (dwPORT p + 0x300) 1).macsecIn p f = some u →
    exec (.frameReceive p f) s = .next (if f.len ≤ 9216 ∧ f.known = true ∧
      (f.eapol = true ∨ f.addrEntry.any (fun e => decide (e < 16) && (u.reg (dwPORT p + 0x100 + 32 * e + 16)).testBit 8) = true) then u.placeFrame p f else u.bump (dwPORT p + 0x308) 1)) ∧
  (∀ (p prio quanta : Nat) (s : State), p < 64 → s.pwr.phase = .run → s.portExists p = true → (s.port p).linkUp = true → prio < 8 → s.pfcEn p prio = false →
    exec (.pfcFrame p prio quanta) s = .next ((s.bump (dwPORT p + 0x318) 1).bump (dwPORT p + 0x300) 1)) ∧
  (∀ (p prio : Nat) (s : State), p < 64 → s.pwr.phase = .run → s.portExists p = true → (s.port p).xoff.testBit prio = false → exec (.pfcPauseRefresh p prio) s = .next s) ∧
  (∀ (p prio : Nat) (s u : State), p < 64 → s.pwr.phase = .run → s.portExists p = true → (s.port p).xoff.testBit prio = true → u = s.drainHeld p prio →
    exec (.pfcPauseRefresh p prio) s = .next (if 1024 * (u.reg (dwPORT p + 0x0C) / 65536) ≤ (u.port p).held.get zeroCell prio then u.sendPfc p
      else (u.modPort p (fun x => { x with xoff := clearBit x.xoff prio })).sendPfc p)) ∧
  (∀ (p prio : Nat) (s : State), p < 64 → s.pwr.phase = .run → s.portExists p = true →
    s.reg (dwPORT p + 0x10) % 65536 = 0 ∨ (s.port p).paused.testBit prio = false ∨ (s.port p).storm.testBit prio = true → exec (.pfcStorm p prio) s = .next s) ∧
  (∀ (qp : Nat) (s : State), (∀ x ∈ s.host.conns, x.id = qp → x.rdma = false) → exec (.dcqcnRateIncrease qp) s = .next s) ∧
  (∀ (pasid : Nat) (s : State), s.pwr.phase = .held ∨ s.host.pcieUp = false ∨ s.pwr.mode ≠ 1 ∨ (1 ≤ pasid ∧ pasid ≤ 16) → exec (.pasidTlp pasid) s = .next s)

/-- An address dword takes its writable bits; where the entry is valid neither before nor after, nothing else changes; an entry made invalid loses its connections, and a valid one is announced to discovery. Loading a key takes the staged key and starts MACsec afresh. A distributed SAK installs the first association, or readies the next one. At the packet-number limit the transmitter stops with code 0x0A21, and a receiving association stops. A peer time-out under the must-secure policy takes MACsec down. Where there is no association, no limit or no such policy, nothing changes. HOST_SAVE keeps the registers and staged fields of the block and the staged keys. (derived: R252, R271, R272, R274, R275) -/
def Obligations.PortAddressesKeysAndSavedSettings : Prop :=
  (∀ (p : Path) (port e d : Nat) (v : Word) (s : State), port < 64 → e < 16 → d < 8 → d ≠ 4 → s.reach p (dwPORT port + 0x100 + 32 * e + 4 * d) = .ok →
    (s.reg (dwPORT port + 0x100 + 32 * e + 16)).testBit 8 = false →
    ∃ t, exec (.addressEntryWrite p port e d v) s = .next t ∧ t.reg (dwPORT port + 0x100 + 32 * e + 4 * d) = v.toNat &&& rwMask (dwPORT port + 0x100 + 32 * e + 4 * d) ∧
      (∀ o, o ≠ dwPORT port + 0x100 + 32 * e + 4 * d → t.reg o = s.reg o) ∧ t = { s with dw := t.dw }) ∧
  (∀ (p : Path) (port : Nat) (s : State), port < 64 → s.reach p (dwPORT port + 0x80) = .ok →
    ∃ t, exec (.mkaLoad p port) s = .next t ∧ (t.port port).cak = wide (s.port port).stCak 0 8 ∧ (t.port port).ckn = wide (s.port port).stCak 8 8 ∧
      (t.port port).sakOn = false ∧ (t.port port).macsecUp = false ∧ (∀ k, k ≠ port → t.port k = s.port k) ∧ t = { s with host := { s.host with ports := t.host.ports } }) ∧
  (∀ (p : Nat) (s : State), p < 64 → s.pwr.phase = .run → s.portExists p = true → s.macPolicy p ≠ 0 → (s.port p).linkUp = true → (s.port p).sakOn = false →
    ∃ t, exec (.sakDistribution p) s = .next t ∧ (t.port p).sakOn = true ∧ (t.port p).macsecUp = true ∧ (t.port p).newSa = false ∧ (t.port p).txPn = 1 ∧
      (∀ k, k ≠ p → t.port k = s.port k) ∧ t = { s with host := { s.host with ports := t.host.ports } }) ∧
  (∀ (p : Nat) (s : State), p < 64 → s.pwr.phase = .run → s.portExists p = true → s.macPolicy p ≠ 0 → (s.port p).linkUp = true → (s.port p).sakOn = true →
    ∃ t, exec (.sakDistribution p) s = .next t ∧ (t.port p).newSa = true ∧ (t.port p).txSa = (s.port p).txSa ∧ (t.port p).txPn = (s.port p).txPn ∧
      t = { s with host := { s.host with ports := t.host.ports } }) ∧
  (∀ (p : Nat) (s : State), p < 64 → s.pwr.phase = .run → s.portExists p = true → (s.port p).sakOn = true → (s.port p).newSa = false →
    ∃ t, exec (.pnExhausted p true true 0) s = .next t ∧ (t.port p).stopTx = true ∧ (∀ k, k ≠ p → t.port k = s.port k) ∧
      t = { s with host := { s.host with ports := t.host.ports }, gbk := t.gbk, dw := t.dw }) ∧
  (∀ (p ch : Nat) (s : State), p < 64 → s.pwr.phase = .run → s.portExists p = true → (s.port p).sakOn = true → ch < 8 →
    ∃ t, exec (.pnExhausted p false true ch) s = .next t ∧ (t.port p).rxStop.testBit (2 * ch + (s.port p).txSa) = true ∧ (∀ k, k ≠ p → t.port k = s.port k) ∧
      t = { s with host := { s.host with ports := t.host.ports } }) ∧
  (∀ (p : Nat) (s : State), p < 64 → s.pwr.phase = .run → s.portExists p = true → s.macPolicy p = 2 →
    ∃ t, exec (.mkaPeerTimeout p) s = .next t ∧ (t.port p).macsecUp = false ∧ (∀ k, k ≠ p → t.port k = s.port k) ∧
      t = { s with host := { s.host with ports := t.host.ports }, gbk := t.gbk, dw := t.dw }) ∧
  (∀ (p : Path) (s : State), s.reach p (dwXPORT + 0x10) = .ok →
    ∃ t r m, exec (.hostSave p) s = .next t ∧ t.host.savedRegs = some (r, m) ∧ (∀ o, isHostOff o = true → rwMask o ≠ 0 → r.get rwReset o = s.reg o) ∧
      (∀ k, isHostOff k = true → m.get stReset k = s.inf k) ∧ t = { s with host := { s.host with savedRegs := t.host.savedRegs, savedKeys := t.host.savedKeys } }) ∧
  (∀ (p : Path) (port e d : Nat) (v : Word) (s u : State), port < 64 → e < 16 → d < 8 → s.reach p (dwPORT port + 0x100 + 32 * e + 4 * d) = .ok →
    u = s.setReg (dwPORT port + 0x100 + 32 * e + 4 * d) (v.toNat &&& rwMask (dwPORT port + 0x100 + 32 * e + 4 * d)) → (u.reg (dwPORT port + 0x100 + 32 * e + 16)).testBit 8 = true →
    exec (.addressEntryWrite p port e d v) s = .next (u.discNotice u.allHosts)) ∧
  (∀ (p : Path) (port e d : Nat) (v : Word) (s u w : State), port < 64 → e < 16 → d < 8 → s.reach p (dwPORT port + 0x100 + 32 * e + 4 * d) = .ok →
    u = s.setReg (dwPORT port + 0x100 + 32 * e + 4 * d) (v.toNat &&& rwMask (dwPORT port + 0x100 + 32 * e + 4 * d)) → (u.reg (dwPORT port + 0x100 + 32 * e + 16)).testBit 8 = false →
    (s.reg (dwPORT port + 0x100 + 32 * e + 16)).testBit 8 = true → w = u.each ((u.host.conns.filter (fun x => x.port = port ∧ x.entry = e)).map (fun x => x.id)) (fun s i => s.loseConn i 5) →
    exec (.addressEntryWrite p port e d v) s = .next (w.discNotice w.allHosts)) ∧
  (∀ (p : Nat) (s : State), p < 64 → s.macPolicy p = 0 ∨ (s.port p).linkUp = false → exec (.sakDistribution p) s = .next s) ∧
  (∀ (p ch : Nat) (tx lim : Bool) (s : State), p < 64 → (s.port p).sakOn = false ∨ lim = false ∨ (tx = true ∧ (s.port p).newSa = true) ∨ (tx = false ∧ 8 ≤ ch) →
    exec (.pnExhausted p tx lim ch) s = .next s) ∧
  (∀ (p : Nat) (s : State), p < 64 → s.macPolicy p ≠ 2 → exec (.mkaPeerTimeout p) s = .next s)

/-- Get Log Page with a vendor page's identifier is that page's command, with another one the standard page; an unknown page, and one for the Manager alone asked by another, is refused with Invalid Log Page. From a ready controller with the privilege a page needs, the Cartridge Health page, the Lost LBA List, the Rebuild Progress page, the Search Statistics and the Start-Up Report are answered with success and the asked part of the page; nothing else changes but this: Cartridge Health arms each slot's event again, and the Lost LBA List arms the controller's event. Firmware Slot Information returns the slots' revisions; the Changed Namespace List is empty again once it is read. (derived: R106, R135, R206, R242, R247, R269, R280, R376, R444) -/
def Obligations.LogPagesAreAnswered : Prop :=
  (∀ (c : Cmd) (s : State), (dw10 c % 256 = 0xC0 → exec (.getLogPage c) s = exec (.cartridgeHealth c) s) ∧ (dw10 c % 256 = 0xC1 → exec (.getLogPage c) s = exec (.lostLbaList c) s) ∧
    (dw10 c % 256 = 0xC2 → exec (.getLogPage c) s = exec (.rebuildProgress c) s) ∧ (dw10 c % 256 = 0xC3 → exec (.getLogPage c) s = exec (.guestbookLog c) s) ∧
    (dw10 c % 256 = 0xC4 → exec (.getLogPage c) s = exec (.throttleAndDisturbance c) s) ∧ (dw10 c % 256 = 0xC5 → exec (.getLogPage c) s = exec (.searchStatistics c) s) ∧
    (dw10 c % 256 = 0xC6 → exec (.getLogPage c) s = exec (.startUpReport c) s)) ∧
  (∀ (c : Cmd) (s : State), s.readyFor false c = true → dw10 c % 256 = 0x03 → (s.ctrl c.id.ctrl).kind ≠ .discovery →
    ∃ t, exec (.getLogPage c) s = .next t ∧ t = s.fwPage c ∧ t.lastAnswer = some (c.id, .success) ∧ t = { s with io := t.io }) ∧
  (∀ (c : Cmd) (s : State), s.readyFor false c = true → dw10 c % 256 = 0x04 → (s.ctrl c.id.ctrl).kind ≠ .discovery →
    ∃ t, exec (.getLogPage c) s = .next t ∧ t.lastAnswer = some (c.id, .success) ∧ (t.ctrl c.id.ctrl).chg = [] ∧
      (∀ k, k ≠ c.id.ctrl → t.ctrl k = s.ctrl k) ∧ t = { s with io := t.io }) ∧
  (∀ (c : Cmd) (s : State), s.readyFor true c = true →
    ∃ u : State, exec (.cartridgeHealth c) s = .next u.rearmCart ∧ u.io.posted.getLast?.map (fun e => (e.id, e.st, e.data)) = some (c.id, .success, logSlice c s.healthPage) ∧
      u = { s with io := u.io }) ∧
  (∀ (n : Nat) (s : State), n < s.part.slots → (s.rearmCart.slot n).aenOpen = (s.slot n).aenLate ∧ (s.rearmCart.slot n).aenLate = false) ∧
  (∀ (c : Cmd) (s : State), s.readyFor false c = true →
    ∃ t, exec (.lostLbaList c) s = .next t ∧ t.io.posted.getLast?.map (fun e => (e.id, e.st, e.data)) =
        some (c.id, .success, logSlice c (pageOf 64 [(0, 8, s.media.lostGen), (8, 4, (s.lostSeen c.id.ctrl).length), (12, 1, flag s.media.overflow 0)] ++ (s.lostSeen c.id.ctrl).flatMap Lost.bytes)) ∧
      c.id.ctrl ∉ t.media.lostAen ∧ t = { s with io := t.io, media := { s.media with lostAen := t.media.lostAen } }) ∧
  (∀ (c : Cmd) (s : State), s.readyFor true c = true →
    ∃ t, exec (.rebuildProgress c) s = .next t ∧ t.io.posted.getLast?.map (fun e => (e.id, e.st, e.data)) = some (c.id, .success, logSlice c (s.took.rebuildPage s.freeVal)) ∧ t = { s with io := t.io, free := t.free }) ∧
  (∀ (c : Cmd) (s : State), s.readyFor false c = true →
    ∃ t, exec (.searchStatistics c) s = .next t ∧ t.io.posted.getLast?.map (fun e => (e.id, e.st, e.data)) = some (c.id, .success, logSlice c (s.searchPage c.id.ctrl)) ∧ t = { s with io := t.io }) ∧
  (∀ (c : Cmd) (s : State), s.readyFor true c = true →
    ∃ t, exec (.startUpReport c) s = .next t ∧ t.io.posted.getLast?.map (fun e => (e.id, e.st, e.data)) = some (c.id, .success, logSlice c s.startPage) ∧ t = { s with io := t.io }) ∧
  (∀ (c : Cmd) (s : State), s.readyFor false c = true → dw10 c % 256 < 0xC0 ∨ 0xC6 < dw10 c % 256 →
    exec (.getLogPage c) s = .next (s.standardPage c (dw10 c % 256))) ∧
  (∀ (c : Cmd) (i : Instr) (s : State), s.readyFor false c = true → s.isManager c.id.ctrl = false →
    i ∈ [Instr.cartridgeHealth c, .rebuildProgress c, .startUpReport c, .guestbookLog c, .throttleAndDisturbance c] → exec i s = .next (s.refuse c .invalidLog)) ∧
  (∀ (c : Cmd) (lid : Nat) (s : State), (s.ctrl c.id.ctrl).kind ≠ .discovery → lid ∉ [1, 2, 3, 4, 0x20, 0x21, 0x22, 0x23, 0x81] → s.standardPage c lid = s.refuse c .invalidLog)

/-- Set Features with the identifier of a feature that has its own command is that command; a standard feature takes Dword 11 and is answered. Get Features returns the value a feature holds, its default, its saved value or its capabilities, as SEL asks. Identify of a controller is answered; the list of active namespaces is their NSIDs above the one given. Member timers within their ranges hold from now on, are saved where asked, and restart the slow-ratio windows. A write path policy within its ranges is the attached namespace's policy, or that of all of them. An admission policy that is well formed, signed and newer is the policy in force, and slots rejected for class or issuer ask for power again; one that is not signed or not newer is refused with status 87h. Fields out of range are refused with Invalid Field, as is a Manager's feature set by another controller. (derived: R12, R39, R55, R56, R57, R155, R204, R226, R277, R280, R281, R448) -/
def Obligations.FeaturesAndIdentifyAnswer : Prop :=
  (∀ (c : Cmd) (s : State), (dw10 c % 256 = 0x02 → exec (.setFeatures c) s = exec (.powerManagement c) s) ∧ (dw10 c % 256 = 0x0E → exec (.setFeatures c) s = exec (.timestamp c) s) ∧
    (dw10 c % 256 = 0xC0 → exec (.setFeatures c) s = exec (.tenantQos c) s) ∧ (dw10 c % 256 = 0xC1 → exec (.setFeatures c) s = exec (.roomKey c) s) ∧ (dw10 c % 256 = 0xC2 → exec (.setFeatures c) s = exec (.firmwareConfirm c) s) ∧
    (dw10 c % 256 = 0xC3 → exec (.setFeatures c) s = exec (.epochLength c) s) ∧ (dw10 c % 256 = 0xC4 → exec (.setFeatures c) s = exec (.rebuildShare c) s) ∧
    (dw10 c % 256 = 0xC5 → exec (.setFeatures c) s = exec (.memberTimers c) s) ∧ (dw10 c % 256 = 0xC6 → exec (.setFeatures c) s = exec (.writePathPolicy c) s) ∧
    (dw10 c % 256 = 0xC7 → exec (.setFeatures c) s = exec (.cartridgeAdmissionPolicy c []) s)) ∧
  (∀ (c : Cmd) (s : State), s.readyFor false c = true → dw10 c % 256 ∈ [0x01, 0x05, 0x08, 0x09, 0x0A, 0x0B, 0x0F] →
    ∃ t, exec (.setFeatures c) s = .next t ∧ (t.ctrl c.id.ctrl).feat (dw10 c % 256) 0 = dw11 c ∧ (∀ k, k ≠ c.id.ctrl → t.ctrl k = s.ctrl k) ∧
      t.lastAnswer = some (c.id, .success) ∧ t = { s with io := t.io }) ∧
  (∀ (c : Cmd) (s : State), s.readyFor true c = true → dw10 c % 256 = 0xC3 → field (dw10 c) 10 8 ≤ 3 →
    ∃ t e, exec (.getFeatures c) s = .next t ∧ t.io.posted.getLast? = some e ∧ e.id = c.id ∧ e.st = .success ∧
      e.dw0 = (if field (dw10 c) 10 8 = 0 then s.inf stEpochLen else if field (dw10 c) 10 8 = 3 then 4 else 100) ∧ t = { s with io := t.io }) ∧
  (∀ (c : Cmd) (s : State), s.readyFor false c = true → dw10 c % 256 = 0x01 →
    ∃ t, exec (.identify c) s = .next t ∧ t.lastAnswer = some (c.id, .success) ∧ t = { s with io := t.io, free := t.free }) ∧
  (∀ (c : Cmd) (s : State), s.readyFor false c = true → dw10 c % 256 = 0x02 → (s.ctrl c.id.ctrl).kind ≠ .discovery →
    ∃ t, exec (.identify c) s = .next t ∧ t.io.posted.getLast?.map (fun e => (e.id, e.st, e.data)) =
        some (c.id, .success, listPage 4 (((s.activeNs c.id.ctrl).filter (fun n => n > c.nsid)).take 1024)) ∧ t = { s with io := t.io }) ∧
  (∀ (c : Cmd) (s : State), s.readyFor true c = true → dw12 c / 256 = 0 → 2 ≤ dw11 c % 65536 → dw11 c % 65536 ≤ 1000 → 5 ≤ field (dw11 c) 31 16 → field (dw11 c) 31 16 ≤ 600 →
    1 ≤ dw12 c % 256 → dw12 c % 256 ≤ 50 → dw11 c % 65536 ≤ 10 * field (dw11 c) 31 16 →
    ∃ t, exec (.memberTimers c) s = .next t ∧ t.media.tSlow = dw11 c % 65536 ∧ t.media.tFail = field (dw11 c) 31 16 ∧ t.media.slowPct = dw12 c % 256 ∧
      t.fw.sets.timers = (if saveBit c then some (dw11 c % 65536, field (dw11 c) 31 16, dw12 c % 256) else s.fw.sets.timers) ∧
      (∀ n, (t.slot n).win = [] ∧ (t.slot n).fastCount = 0 ∧ (t.slot n).slowCount = 0) ∧ t.lastAnswer = some (c.id, .success) ∧
      t = { s with media := { s.media with tSlow := t.media.tSlow, tFail := t.media.tFail, slowPct := t.media.slowPct }, fw := t.fw, slots := t.slots, io := t.io }) ∧
  (∀ (c : Cmd) (x : Ns) (s : State), s.readyFor false c = true → policyOk (dw11 c) = true → c.nsid ≠ 0xFFFFFFFF → s.policyNs c = .ok x →
    ∃ t, exec (.writePathPolicy c) s = .next t ∧ (∀ y ∈ t.media.nss, y.nsx = x.nsx → y.policy = dw11 c) ∧ t.media.nss.length = s.media.nss.length ∧
      t.lastAnswer = some (c.id, .success) ∧ t = { s with media := { s.media with nss := t.media.nss }, io := t.io }) ∧
  (∀ (c : Cmd) (sig : List Byte) (s : State), s.readyFor true c = true → admissionOk (dw11 c % 65536) (c.buf ++ sig) = false ∨ field (dw11 c) 31 16 ≠ 0 ∨ field (dw10 c) 31 8 ≠ 0 →
    exec (.cartridgeAdmissionPolicy c sig) s = .next (s.refuse c .invalidField)) ∧
  (∀ (c : Cmd) (sig : List Byte) (s : State), s.readyFor true c = true → admissionOk (dw11 c % 65536) (c.buf ++ sig) = true → field (dw11 c) 31 16 = 0 → field (dw10 c) 31 8 = 0 →
    exec (.cartridgeAdmissionPolicy c sig) s = .next (if s.policySigned (dw11 c % 65536) (c.buf ++ sig) = true ∧ s.gbk.polSerial < leAt (c.buf ++ sig) 0 8 then (s.takePolicy (c.buf ++ sig)).post c.id .success
      else s.refuse c (.vendor 0x87))) ∧
  (∀ (b : List Byte) (s : State), (s.takePolicy b).gbk.polSerial = leAt b 0 8 ∧ (s.takePolicy b).gbk.polClass = leAt b 8 1 ∧ (s.takePolicy b).gbk.polFlags = leAt b 9 1 ∧
    (s.takePolicy b).gbk.polIssuers.length = leAt b 10 2 ∧ (s.takePolicy b).gbk.polDeny.length = leAt b 12 2 ∧
    s.takePolicy b = { s with gbk := (s.takePolicy b).gbk, slots := (s.takePolicy b).slots, dw := { s.dw with cnt := (s.takePolicy b).dw.cnt } }) ∧
  (∀ (c : Cmd) (sig : List Byte) (s : State), s.readyFor true c = true → admissionOk (dw11 c % 65536) (c.buf ++ sig) = true → field (dw11 c) 31 16 = 0 → field (dw10 c) 31 8 = 0 → leAt (c.buf ++ sig) 0 8 ≤ s.gbk.polSerial →
    ∃ t, exec (.cartridgeAdmissionPolicy c sig) s = .next t ∧ t.lastAnswer = some (c.id, .vendor 0x87) ∧ t = { s with io := t.io }) ∧
  (∀ (c : Cmd) (s : State), s.readyFor false c = true → dw10 c % 256 ≠ 2 → dw10 c % 256 ≠ 0x0E → dw10 c % 256 < 0xC0 ∨ 0xC7 < dw10 c % 256 →
    exec (.setFeatures c) s = .next (s.setStd c (dw10 c % 256))) ∧
  (∀ (c : Cmd) (v : FeatVal) (s : State), s.readyFor false c = true → s.featVal c (dw10 c % 256) = .ok v → field (dw10 c) 10 8 ≤ 3 →
    ∃ t e, exec (.getFeatures c) s = .next t ∧ t.io.posted.getLast? = some e ∧ e.id = c.id ∧ e.st = .success ∧ e.data = v.data ∧
      (e.dw0, e.dw1) = (match field (dw10 c) 10 8 with | 0 => v.cur | 1 => v.dflt | 2 => v.saved.getD v.dflt | _ => (v.caps, 0)) ∧ t = { s with io := t.io }) ∧
  (∀ (c : Cmd) (st : Status) (s : State), s.readyFor false c = true → s.featVal c (dw10 c % 256) = .error st → exec (.getFeatures c) s = .next (s.refuse c st)) ∧
  (∀ (c : Cmd) (s : State), s.readyFor false c = true → exec (.identify c) s = .next (s.identify' c (dw10 c % 256))) ∧
  (∀ (c : Cmd) (sig : List Byte) (i : Instr) (s : State), s.readyFor false c = true → s.isManager c.id.ctrl = false →
    i ∈ [Instr.tenantQos c, .roomKey c, .firmwareConfirm c, .epochLength c, .rebuildShare c, .memberTimers c, .cartridgeAdmissionPolicy c sig] →
    exec i s = .next (s.refuse c .invalidField)) ∧
  (∀ (c : Cmd) (s : State), s.readyFor true c = true → ¬(dw12 c / 256 = 0 ∧ 2 ≤ dw11 c % 65536 ∧ dw11 c % 65536 ≤ 1000 ∧ 5 ≤ field (dw11 c) 31 16 ∧ field (dw11 c) 31 16 ≤ 600 ∧
    1 ≤ dw12 c % 256 ∧ dw12 c % 256 ≤ 50 ∧ dw11 c % 65536 ≤ 10 * field (dw11 c) 31 16) → exec (.memberTimers c) s = .next (s.refuse c .invalidField)) ∧
  (∀ (c : Cmd) (s : State), s.readyFor false c = true → policyOk (dw11 c) = false → exec (.writePathPolicy c) s = .next (s.refuse c .invalidField)) ∧
  (∀ (c : Cmd) (st : Status) (s : State), s.readyFor false c = true → policyOk (dw11 c) = true → c.nsid ≠ 0xFFFFFFFF → s.policyNs c = .error st →
    exec (.writePathPolicy c) s = .next (s.refuse c st)) ∧
  (∀ (c : Cmd) (s : State), s.readyFor false c = true → policyOk (dw11 c) = true → c.nsid = 0xFFFFFFFF →
    ∃ t, exec (.writePathPolicy c) s = .next t ∧ t.media.nss = s.media.nss.map (fun x => if s.attachedTo x c.id.ctrl then { x with policy := dw11 c } else x) ∧
      t.lastAnswer = some (c.id, .success) ∧ t = { s with media := { s.media with nss := t.media.nss }, io := t.io })

/-- From a ready Manager controller, Epoch Length, Rebuild Share, Tenant QoS, Tenant Modify RESOURCES, Media Pool Configure CREATE, and SET with a new N, with fields in order, put their fields into the shadow (every other shadow as it was), arm a commit, and wait for the boundary it targets; nothing is in force yet and nothing else changes. Epoch Length cannot be saved; fields out of range are refused. (derived: R38, R39, R142, R143, R234, R321, R322) -/
def Obligations.SettingsOfR38AreStagedForABoundary : Prop :=
  (∀ (c : Cmd) (s : State), s.readyFor true c = true → saveBit c = false → dw11 c < 2 ^ 14 →
    ∃ t, exec (.epochLength c) s = .next t ∧ t.sh stEpochLen = dw11 c ∧ (∀ k, k ≠ stEpochLen → t.sh k = s.sh k) ∧ t.stage.armed = true ∧
      t.stage.waiting = s.stage.waiting ++ [⟨c.id, [stEpochLen], s.stage.target, .plain⟩] ∧ t = { s with dw := { s.dw with shadow := t.dw.shadow }, stage := t.stage }) ∧
  (∀ (c : Cmd) (s : State), s.readyFor true c = true → dw11 c < 2 ^ 7 →
    ∃ t, exec (.rebuildShare c) s = .next t ∧ t.sh stRebuildShare = dw11 c ∧ (∀ k, k ≠ stRebuildShare → t.sh k = s.sh k) ∧ t.stage.armed = true ∧
      t.stage.waiting = s.stage.waiting ++ [⟨c.id, [stRebuildShare], s.stage.target, .plain⟩] ∧ t = { s with dw := { s.dw with shadow := t.dw.shadow }, stage := t.stage }) ∧
  (∀ (c : Cmd) (n : Nat) (s : State), s.readyFor true c = true → dw11 c = n → 1 ≤ n → n < 65536 → (s.tenant n).occupied = true →
    ∃ t, exec (.tenantQos c) s = .next t ∧ t.sh (stTenant n 288) = dw12 c ∧ t.sh (stTenant n 292) = dw13 c ∧ (∀ k, k ≠ stTenant n 288 → k ≠ stTenant n 292 → t.sh k = s.sh k) ∧
      t.stage.armed = true ∧ t.stage.waiting = s.stage.waiting ++ [⟨c.id, [stTenant n 288, stTenant n 292], s.stage.target, .plain⟩] ∧
      t = { s with dw := { s.dw with shadow := t.dw.shadow }, stage := t.stage }) ∧
  (∀ (c : Cmd) (n : Nat) (s : State), s.readyFor true c = true → dw10 c = n → n < 65536 → c.cdw11 = 0 → zero12 c = true → (s.tenant n).occupied = true → s.pwr.mode ≠ 1 →
    (tenParams c.buf).ok c.buf = true → zeroBytes c.buf 0 2 = true → zeroBytes c.buf 8 263 = true → s.sharesOk n (tenParams c.buf) = true →
    ∃ t w, exec (.resources c) s = .next t ∧ (∀ e ∈ tenFields.zip (tenParams c.buf).fields, t.sh (stTenant n e.1) = e.2) ∧
      (∀ b < 16, (tenParams c.buf).banks.testBit b = true → t.sh (stBankOwner b) = n) ∧ (∀ l < 64, (tenParams c.buf).lanes.testBit l = true → t.sh (stLaneOwner l) = n) ∧
      t.stage.armed = true ∧ t.stage.waiting = s.stage.waiting ++ [w] ∧ w.id = c.id ∧ w.boundary = s.stage.target ∧
      w.kind = .resources n (tenParams c.buf).flags (tenParams c.buf).maxScans ∧ t = { s with dw := { s.dw with shadow := t.dw.shadow }, stage := t.stage }) ∧
  (∀ (c : Cmd) (p : Nat) (s : State), s.readyFor true c = true → s.poolRefusal 0 c = none → p = dw10 c / 16 % 4 →
    ∃ t w, exec (.poolCreate c) s = .next t ∧ t.sh (stBandWidth p) = (poolArgs c.buf).n ∧ (∀ k, k ≠ stBandWidth p → t.sh k = s.sh k) ∧ t.stage.armed = true ∧
      t.stage.waiting = s.stage.waiting ++ [w] ∧ w.id = c.id ∧ w.keys = [stBandWidth p] ∧ w.boundary = s.stage.target ∧
      t = { s with dw := { s.dw with shadow := t.dw.shadow }, stage := t.stage }) ∧
  (∀ (c : Cmd) (p : Nat) (s : State), s.readyFor true c = true → s.poolRefusal 3 c = none → p = dw10 c / 16 % 4 → (poolArgs c.buf).n ≠ 0 → (poolArgs c.buf).n ≠ s.nOf p →
    ∃ t w, exec (.poolSet c) s = .next t ∧ t.sh (stBandWidth p) = (poolArgs c.buf).n ∧ (∀ k, k ≠ stBandWidth p → t.sh k = s.sh k) ∧ t.stage.armed = true ∧
      t.stage.waiting = s.stage.waiting ++ [w] ∧ w.id = c.id ∧ w.keys = [stBandWidth p] ∧ w.boundary = s.stage.target ∧
      t = { s with dw := { s.dw with shadow := t.dw.shadow }, stage := t.stage }) ∧
  (∀ (c : Cmd) (s : State), s.readyFor true c = true → saveBit c = true → exec (.epochLength c) s = .next (s.refuse c .notSaveable)) ∧
  (∀ (c : Cmd) (s : State), s.readyFor true c = true → saveBit c = false → 2 ^ 14 ≤ dw11 c → exec (.epochLength c) s = .next (s.refuse c .invalidField)) ∧
  (∀ (c : Cmd) (s : State), s.readyFor true c = true → 2 ^ 7 ≤ dw11 c → exec (.rebuildShare c) s = .next (s.refuse c .invalidField)) ∧
  (∀ (c : Cmd) (s : State), s.readyFor true c = true → field (dw11 c) 31 16 ≠ 0 ∨ dw11 c % 65536 = 0 ∨ (s.tenant (dw11 c % 65536)).occupied = false →
    exec (.tenantQos c) s = .next (s.refuse c .invalidField)) ∧
  (∀ (c : Cmd) (st : Status) (s : State), s.readyFor true c = true → s.poolRefusal 0 c = some st → exec (.poolCreate c) s = .next (s.refuse c st))

/-- From a ready Manager controller, an action refused by R142's table is answered with its status and does nothing else; one on a pool whose census has not ended waits for it (the model's choice, assumption log 61). Otherwise ADD puts each named cartridge into service in the pool and leaves every other slot as it was; REMOVE makes each named member draining; SET without a new N takes its settings at once; each then writes a root generation, whose durability completes the command. DELETE writes a generation that lists nothing; when it is durable, no such pool and no band of it is left, its members are ADMITTED in no pool, and the command is answered with success. CREATE, and SET with a new N, stage N for a boundary check. REPORT returns the pool's page and changes nothing. (derived: R141, R142, R143, R173, R174, R175, R176, R193) -/
def Obligations.PoolsAreChangedDeletedAndReported : Prop :=
  (∀ (act : Nat) (i : Instr) (c : Cmd) (st : Status) (s : State), (act, i) ∈ [(0, Instr.poolCreate c), (1, .poolAdd c), (2, .poolRemove c), (3, .poolSet c), (4, .poolDelete c), (5, .poolReport c)] →
    s.readyFor true c = true → s.poolWaits act c = false → s.poolRefusal act c = some st → exec i s = .next (s.refuse c st)) ∧
  (∀ (act : Nat) (i : Instr) (c : Cmd) (s : State), (act, i) ∈ [(0, Instr.poolCreate c), (1, .poolAdd c), (2, .poolRemove c), (3, .poolSet c), (4, .poolDelete c), (5, .poolReport c)] →
    s.readyFor true c = true → s.poolWaits act c = true → exec i s = .next { s with media.late := s.media.late ++ [c] }) ∧
  (∀ (c : Cmd) (p : Nat) (s : State), s.readyFor true c = true → s.poolRefusal 0 c = none → p = dw10 c / 16 % 4 →
    exec (.poolCreate c) s =
      .next (s.stageFor c.id [(stBandWidth p, (poolArgs c.buf).n)] (.poolCreate p (poolArgs c.buf).slots ((poolArgs c.buf).logOr 2) (poolArgs c.buf).spare (poolArgs c.buf).flags))) ∧
  (∀ (c : Cmd) (p : Nat) (s : State), s.readyFor true c = true → s.poolRefusal 3 c = none → p = dw10 c / 16 % 4 → (poolArgs c.buf).n ≠ 0 → (poolArgs c.buf).n ≠ s.nOf p →
    exec (.poolSet c) s = .next (s.stageFor c.id [(stBandWidth p, (poolArgs c.buf).n)]
      (.poolSet p ((poolArgs c.buf).logOr (s.pool p).logPm) ((poolArgs c.buf).spareOr (s.pool p).spare) (poolArgs c.buf).flags))) ∧
  (∀ (c : Cmd) (p : Nat) (s : State), s.readyFor true c = true → s.poolRefusal 1 c = none → p = dw10 c / 16 % 4 →
    ∃ u : State, exec (.poolAdd c) s = .next ((u.log 0x0414 [p, 1, (poolArgs c.buf).slots]).writeRoot p (.rootGen p (some c.id) 0)).settle ∧
      (∀ n < 64, (poolArgs c.buf).slots.testBit n = true → (u.slot n).st = .inService ∧ (u.slot n).pool = some p) ∧
      (∀ n < 64, (poolArgs c.buf).slots.testBit n = false → u.slot n = s.slot n) ∧ u.io = s.io) ∧
  (∀ (c : Cmd) (p : Nat) (s : State), s.readyFor true c = true → s.poolRefusal 2 c = none → p = dw10 c / 16 % 4 →
    ∃ u : State, exec (.poolRemove c) s = .next ((u.log 0x0414 [p, 2, (poolArgs c.buf).slots]).writeRoot p (.rootGen p (some c.id) 0)).settle ∧
      u = s.each (bitsOf (poolArgs c.buf).slots 64) (fun s n => s.startDrain n .remove)) ∧
  (∀ (c : Cmd) (p : Nat) (s : State), s.readyFor true c = true → s.poolRefusal 3 c = none → p = dw10 c / 16 % 4 → (poolArgs c.buf).n = 0 ∨ (poolArgs c.buf).n = s.nOf p →
    ∃ u : State, exec (.poolSet c) s = .next ((u.log 0x0414 [p, 3, 0]).writeRoot p (.rootGen p (some c.id) 0)).settle ∧
      (u.pool p).logPm = (poolArgs c.buf).logOr (s.pool p).logPm ∧ (u.pool p).spare = (poolArgs c.buf).spareOr (s.pool p).spare ∧ (u.pool p).flags = (poolArgs c.buf).flags ∧
      (∀ k, k ≠ p → u.pool k = s.pool k) ∧ u = { s with media := { s.media with pools := u.media.pools } }) ∧
  (∀ (c : Cmd) (p : Nat) (s : State), s.readyFor true c = true → s.poolRefusal 4 c = none → p = dw10 c / 16 % 4 →
    ∃ u : State, exec (.poolDelete c) s =
        .next (u.putRoot p { u.rootNow p with members := [], nss := [], regs := [], jblocks := [], openBands := 0 } (.poolGone p c.id)).settle ∧
      (u.pool p).deleting = true ∧ u = (s.log 0x0414 [p, 4, 0]).modPool p (fun q => { q with deleting := true })) ∧
  (∀ (r : DurRec) (p : Nat) (id : CmdId) (s : State), r.k = .poolGone p id →
    s.runThen r = (s.dropPool p).complete id .success 0 ∧ ((s.dropPool p).pool p).exist = false ∧ (∀ e ∈ (s.dropPool p).media.bands, e.2.pool ≠ p) ∧
      (∀ n, n ∈ s.poolSlots p → ((s.dropPool p).slot n).st = .admitted ∧ ((s.dropPool p).slot n).pool = none) ∧ (∀ k, k ≠ p → (s.dropPool p).pool k = s.pool k) ∧
      s.dropPool p = { s with media := (s.dropPool p).media, slots := (s.dropPool p).slots }) ∧
  (∀ (c : Cmd) (p : Nat) (s : State), s.readyFor true c = true → s.poolRefusal 5 c = none → p = dw10 c / 16 % 4 →
    ∃ t, exec (.poolReport c) s = .next t ∧ t.io.posted.getLast?.map (fun e => (e.id, e.st, e.data)) = some (c.id, .success, (s.log 0x0414 [p, 5, 0]).poolReport p) ∧
      t = { s with gbk := t.gbk, dw := { s.dw with cnt := t.dw.cnt }, io := t.io })

/-- From a ready Manager controller, each action on a slot in a state that R246 allows: DRAIN starts the drain; UNDRAIN returns the slot to service; SEQ_UPDATE of a QUARANTINED or ADMITTED cartridge starts the download to it and waits for its end, of an IN_SERVICE one it takes its turn; POWER_OFF acts as the register bit, and of a slot whose link trains turns it off; POWER_ON asks for power; RELEASE drops the claim. Every action but SEQ_UPDATE is answered with success. Fields out of range, a slot that is QUARANTINED or in another state, and a drain that the pool cannot bear are refused with their status. ROLLING_SEQ_UPDATE starts the update of one in-service cartridge while no band of its pool is degraded and no other update rolls. (derived: R63, R74, R200, R244, R245, R246) -/
def Obligations.CartridgeServiceActsOnItsSlot : Prop :=
  (∀ (c : Cmd) (n p : Nat) (s : State), s.readyFor true c = true → dw10 c = n → n < s.part.slots → zero11 c = true → (s.slot n).st = .inService → (s.slot n).pool = some p → s.cannotLose p 1 = false →
    exec (.drain c) s = .next ((s.startDrain n .service).served c 0 n).settle) ∧
  (∀ (n p : Nat) (s : State), (s.slot n).pool = some p →
    ∃ u : State, s.startDrain n .service = (((u.writeRoot p .nothing).log 0x0415 [p, n, 2]).journalLost n).checkNarrow p ∧ (u.slot n).st = .draining ∧
      (u.slot n).drain = some .service ∧ (∀ m, m ≠ n → u.slot m = s.slot m) ∧ u = { s with slots := u.slots, media := { s.media with pools := u.media.pools } }) ∧
  (∀ (c : Cmd) (n p : Nat) (s : State), s.readyFor true c = true → dw10 c = 0x100 + n → n < s.part.slots → zero11 c = true → (s.slot n).st = .draining → (s.slot n).drain = some .service →
    (s.slot n).retireBits = 0 → (s.slot n).pool = some p →
    ∃ u : State, exec (.undrain c) s = .next ((((u.writeRoot p .nothing).checkNarrow p).served c 1 n).settle) ∧ (u.slot n).st = .inService ∧ (u.slot n).drain = none ∧
      (∀ m, m ≠ n → (u.slot m).st = (s.slot m).st ∧ (u.slot m).pool = (s.slot m).pool) ∧ u = { s with slots := u.slots, media := u.media }) ∧
  (∀ (c : Cmd) (n : Nat) (s : State), s.readyFor true c = true → dw10 c = 0x200 + n → n < s.part.slots → zero11 c = true → (s.slot n).st = .quarantined ∨ (s.slot n).st = .admitted →
    (s.slot n).updating = false → s.bundled (s.slot n).model = true →
    ∃ t, exec (.seqUpdate c) s = .next t ∧ t = (s.modSlot n (fun x => { x with updCmd := some c.id })).startUpdate n ∧ (t.slot n).updating = true ∧ (t.slot n).updCmd = some c.id ∧
      (∀ m, m ≠ n → t.slot m = s.slot m) ∧ t = { s with slots := t.slots }) ∧
  (∀ (c : Cmd) (n : Nat) (s u : State), s.readyFor true c = true → dw10 c = 0x200 + n → n < s.part.slots → zero11 c = true → (s.slot n).st = .inService →
    (s.slot n).updating = false → s.bundled (s.slot n).model = true → u = s.modSlot n (fun x => { x with updCmd := some c.id }) →
    exec (.seqUpdate c) s = .next (if u.poolWhole ((s.slot n).pool.getD 0) = true ∧ u.slots.any (fun e => e.2.rolling) = false
      then (u.startUpdate n).modSlot n (fun x => { x with rolling := true }) else u)) ∧
  (∀ (c : Cmd) (n : Nat) (s : State), s.readyFor true c = true → dw10 c = 0x300 + n → n < s.part.slots → zero11 c = true → (s.slot n).st = .powering ∨ (s.slot n).st = .training →
    ∃ t, exec (.powerOff c) s = .next t ∧ (t.slot n).st = .off ∧ (t.slot n).pwren = false ∧ (∀ m, m ≠ n → t.slot m = s.slot m) ∧ t.lastAnswer = some (c.id, .success) ∧
      t.media = s.media ∧ t.stage = s.stage ∧ t.efl = s.efl) ∧
  (∀ (c : Cmd) (n : Nat) (s : State), s.readyFor true c = true → dw10 c = 0x400 + n → n < s.part.slots → zero11 c = true →
    (s.slot n).st = .off ∨ (s.slot n).st = .rejected ∨ (s.slot n).st = .failed →
    ∃ t, exec (.powerOn c) s = .next t ∧ (t.slot n).st = .powering ∧ (t.slot n).waitPower = true ∧ (∀ m, m ≠ n → t.slot m = s.slot m) ∧ t.lastAnswer = some (c.id, .success) ∧
      t = { s with slots := t.slots, gbk := t.gbk, dw := { s.dw with cnt := t.dw.cnt }, io := t.io }) ∧
  (∀ (c : Cmd) (n : Nat) (s : State), s.readyFor true c = true → dw10 c = 0x500 + n → n < s.part.slots → zero11 c = true → (s.slot n).st = .admitted → (s.slot n).held.isSome = true →
    ∃ t, exec (.release c) s = .next t ∧ (t.slot n).held = none ∧ (∀ m, m ≠ n → t.slot m = s.slot m) ∧ t.lastAnswer = some (c.id, .success) ∧
      t = { s with slots := t.slots, gbk := t.gbk, dw := { s.dw with cnt := t.dw.cnt }, io := t.io }) ∧
  (∀ (n : Nat) (s : State), n < s.part.slots → s.pwr.phase = .run → (s.slot n).st = .inService → (s.slot n).updating = false → (s.slot n).phase = 5 → s.bundled (s.slot n).model = true →
    s.compatSeq (s.slot n).model (s.slot n).fwVer = false → s.slots.any (fun e => e.2.rolling) = false → s.poolWhole ((s.slot n).pool.getD 0) = true → (s.slot n).updTried = false →
    ∃ t, exec (.rollingSeqUpdate n) s = .next t ∧ (t.slot n).updating = true ∧ (t.slot n).rolling = true ∧ (∀ m, m ≠ n → t.slot m = s.slot m) ∧ t = { s with slots := t.slots }) ∧
  (∀ (c : Cmd) (n : Nat) (s : State), s.readyFor true c = true → dw10 c = 0x300 + n → n < s.part.slots → zero11 c = true → (s.slot n).st ≠ .quarantined → (s.slot n).st ∉ [.inService, .draining, .empty, .off] →
    exec (.powerOff c) s = .next ((s.pwrOff n).served c 3 n)) ∧
  (∀ (c : Cmd) (n : Nat) (s : State), s.readyFor true c = true → dw10 c = 0x300 + n → n < s.part.slots → zero11 c = true → (s.slot n).st = .quarantined →
    exec (.powerOff c) s = .next ((s.pwrOff n).served c 3 n)) ∧
  (∀ (act : Nat) (i : Instr) (c : Cmd) (s : State), (act, i) ∈ [(0, Instr.drain c), (1, .undrain c), (2, .seqUpdate c), (3, .powerOff c), (4, .powerOn c), (5, .release c)] → s.readyFor true c = true →
    4096 ≤ dw10 c ∨ dw10 c / 256 % 16 ≠ act ∨ zero11 c = false ∨ s.part.slots ≤ dw10 c % 256 → exec i s = .next (s.refuse c .invalidField)) ∧
  (∀ (act n : Nat) (i : Instr) (c : Cmd) (s : State), (act, i) ∈ [(0, Instr.drain c), (1, .undrain c), (2, .seqUpdate c), (3, .powerOff c), (4, .powerOn c), (5, .release c)] → act ≠ 2 → act ≠ 3 → s.readyFor true c = true →
    dw10 c = 256 * act + n → n < s.part.slots → zero11 c = true → (s.slot n).st = .quarantined → exec i s = .next (s.refuse c (.vendor 0x88))) ∧
  (∀ (c : Cmd) (n : Nat) (s : State), s.readyFor true c = true → dw10 c = 0 + n → n < s.part.slots → zero11 c = true → (s.slot n).st ≠ .quarantined → (s.slot n).st ≠ .inService ∨ (s.slot n).pool = none →
    exec (.drain c) s = .next (s.refuse c .invalidField)) ∧
  (∀ (c : Cmd) (n p : Nat) (s : State), s.readyFor true c = true → dw10 c = 0 + n → n < s.part.slots → zero11 c = true → (s.slot n).st = .inService → (s.slot n).pool = some p →
    s.cannotLose p 1 = true → exec (.drain c) s = .next (s.refuse c (.vendor 0x84))) ∧
  (∀ (c : Cmd) (n : Nat) (s : State), s.readyFor true c = true → dw10 c = 0x400 + n → n < s.part.slots → zero11 c = true → (s.slot n).st ∉ [.off, .rejected, .failed, .quarantined] → exec (.powerOn c) s = .next (s.refuse c .invalidField)) ∧
  (∀ (n : Nat) (s : State), n < s.part.slots → s.pwr.phase ≠ .run ∨ (s.slot n).st ≠ .inService ∨ (s.slot n).updating = true ∨ (s.slot n).phase ≠ 5 ∨ s.bundled (s.slot n).model = false ∨
    s.slots.any (fun e => e.2.rolling) = true ∨ s.poolWhole ((s.slot n).pool.getD 0) = false → exec (.rollingSeqUpdate n) s = .next s)

/-- From a ready controller with the privilege the command needs: CREATE within its fields and capacity adds one namespace of that size, format, handles and pool with an NSID no other has, and its root generation's durability completes it. ATTACHMENT attaches or detaches existing controllers. DELETE and FORMAT give the namespace its change to make. A sanitize by crypto or block erase is answered at once and is in progress for every namespace that has no other change; OVERWRITE is refused. NS_ASSIGN gives a free, unattached namespace within the capacity share to its tenant; NS_RELEASE begins the return of one. WIPE in service mode gives every slice namespace its wipe; SLICE_RESET resets the named slice controllers; outside service mode neither does anything. Each command refuses fields, objects and changes in progress with its status. (derived: R139, R243, R277, R316, R331, R332, R334, R338) -/
def Obligations.NamespacesAreCreatedDeletedAttachedAndErased : Prop :=
  (∀ (c : Cmd) (p : Nat) (d : NsCreate) (s : State), s.readyFor true c = true → dw10 c % 16 = 0 → d = nsCreateOf c.buf → d.lbaf ≤ 3 → s.createPool d = some p → d.ok = true →
    s.nsFits p (s.newNs p d) = true →
    exec (.namespaceCreate c) s = .next ((s.addNs (s.newNs p d)).writeRoot p (.rootGen p (some c.id) (s.newNs p d).nsid)).settle) ∧
  (∀ (p : Nat) (d : NsCreate) (s : State), ∃ x : Ns, (s.addNs (s.newNs p d)).media.nss = s.media.nss ++ [x] ∧ x.nsid = (s.newNs p d).nsid ∧ x.nsid ≠ 0 ∧
    (∀ y ∈ s.media.nss, y.nsid ≠ x.nsid ∧ y.nsx ≠ x.nsx) ∧ x.pool = p ∧ x.nsze = d.nsze ∧ x.lbaf = d.lbaf ∧ x.dps = d.dps ∧ x.ext = d.ext ∧ x.handles = d.handles ∧ x.nNs = s.nOf p ∧
    x.attached = [] ∧ x.tenant = 0 ∧
    s.addNs (s.newNs p d) = { s with media := { s.media with nss := s.media.nss ++ [x] }, fw := { s.fw with salts := (s.addNs (s.newNs p d)).fw.salts }, free := (s.addNs (s.newNs p d)).free }) ∧
  (∀ (c : Cmd) (d : NsCreate) (s : State), s.readyFor true c = true → d = nsCreateOf c.buf →
    (dw10 c % 16 ≠ 0 → exec (.namespaceCreate c) s = .next (s.refuse c .invalidField)) ∧
    (dw10 c % 16 = 0 → 3 < d.lbaf → exec (.namespaceCreate c) s = .next (s.refuse c .invalidNs)) ∧
    (dw10 c % 16 = 0 → d.lbaf ≤ 3 → s.createPool d = none ∨ d.ok = false → exec (.namespaceCreate c) s = .next (s.refuse c .invalidField)) ∧
    (∀ p, dw10 c % 16 = 0 → d.lbaf ≤ 3 → s.createPool d = some p → d.ok = true → s.nsFits p (s.newNs p d) = false → exec (.namespaceCreate c) s = .next (s.refuse c .nsCapacity))) ∧
  (∀ (x : Ns) (job : Nat) (id : Option CmdId) (s : State), (∀ y ∈ (s.setJob x job id).media.nss, y.nsx = x.nsx → y.job = job ∧ y.jobId = id ∧ y.jobOn = false) ∧
    (s.srch.scans = [] → s.setJob x job id = { s with media := { s.media with nss := (s.setJob x job id).media.nss } })) ∧
  (∀ (c : Cmd) (x : Ns) (s : State), s.readyFor true c = true → dw10 c % 16 = 1 → s.ns? c.nsid = some x → x.job = 0 →
    exec (.namespaceDelete c) s = .next ((s.setJob x 3 (some c.id)).nsChanged (s.attachedCtrls x) x).settle) ∧
  (∀ (c : Cmd) (s : State), s.readyFor true c = true →
    (dw10 c % 16 ≠ 1 → exec (.namespaceDelete c) s = .next (s.refuse c .invalidField)) ∧
    (dw10 c % 16 = 1 → s.ns? c.nsid = none → exec (.namespaceDelete c) s = .next (s.refuse c .invalidNs)) ∧
    (∀ x, dw10 c % 16 = 1 → s.ns? c.nsid = some x → x.job ≠ 0 → exec (.namespaceDelete c) s = .next (s.refuse c .nsNotReady))) ∧
  (∀ (c : Cmd) (x : Ns) (ids : List Nat) (s : State), s.readyFor true c = true → ids = ctrlList c.buf → leAt c.buf 0 2 ≤ 2047 → dw10 c % 16 ≤ 1 → s.ns? c.nsid = some x → x.tenant = 0 →
    (∀ k ∈ ids, (s.ctrl k).exist = true ∧ (s.ctrl k).tenant = 0 ∧ x.attached.contains k = decide (dw10 c % 16 = 1)) →
    ∃ t, exec (.namespaceAttachment c) s = .next t ∧ t.media.nss = s.media.nss.map (fun y => if y.nsx = x.nsx then
        { y with attached := if dw10 c % 16 = 0 then y.attached ++ ids else y.attached.filter (fun i => !ids.contains i) } else y) ∧
      t.lastAnswer = some (c.id, .success) ∧ (∀ j, j ∉ ids → t.ctrl j = s.ctrl j) ∧ t = { s with media := { s.media with nss := t.media.nss }, io := t.io }) ∧
  (∀ (c : Cmd) (x : Ns) (s : State), s.readyFor true c = true → s.ns? c.nsid = some x →
    1 < dw10 c % 16 ∨ x.tenant ≠ 0 ∨ 2047 < leAt c.buf 0 2 ∨ (∃ k ∈ ctrlList c.buf, (s.ctrl k).exist = false ∨ (s.ctrl k).tenant ≠ 0 ∨ x.attached.contains k = decide (dw10 c % 16 = 0)) →
    exec (.namespaceAttachment c) s = .next (s.refuse c .invalidField)) ∧
  (∀ (c : Cmd) (x : Ns) (s : State), s.readyFor false c = true → s.ns? (s.localNs c).nsid = some x →
    s.isManager c.id.ctrl = true ∨ (x.tenant = (s.ctrl c.id.ctrl).tenant ∧ x.tenant ≠ 0) → x.job = 0 → dw10 c % 16 ≤ 3 → (dw10 c % 16 = 0 ↔ x.lbaf = 0) →
    field (dw10 c) 11 9 ≤ 2 → field (dw10 c) 7 5 ≤ 3 → dw10 c % 16 ≠ 0 ∨ field (dw10 c) 7 5 = 0 →
    exec (.formatNvm c) s = .next (s.startFormat x c).settle ∧
      (∀ y ∈ (s.startFormat x c).media.nss, y.nsx = x.nsx → y.job = (if field (dw10 c) 11 9 = 0 then 1 else 2) ∧ y.jobId = some c.id ∧
        y.newFmt = some (dw10 c % 16, field (dw10 c) 7 5 + 8 * field (dw10 c) 8 8, (dw10 c).testBit 4))) ∧
  (∀ (c : Cmd) (x : Ns) (s : State), s.readyFor false c = true → s.ns? (s.localNs c).nsid = some x →
    (s.isManager c.id.ctrl = false → x.tenant ≠ (s.ctrl c.id.ctrl).tenant ∨ (s.ctrl c.id.ctrl).tenant = 0 → exec (.formatNvm c) s = .next (s.refuse c .invalidOpcode)) ∧
    (s.isManager c.id.ctrl = true → x.job ≠ 0 → exec (.formatNvm c) s = .next (s.refuse c .nsNotReady)) ∧
    (s.isManager c.id.ctrl = true → x.job = 0 → 3 < dw10 c % 16 ∨ ¬(dw10 c % 16 = 0 ↔ x.lbaf = 0) → exec (.formatNvm c) s = .next (s.refuse c .invalidNs))) ∧
  (∀ (act : Nat) (i : Instr) (c : Cmd) (s : State), (act, i) ∈ [(4, Instr.cryptoErase c), (2, .blockErase c)] → s.readyFor true c = true → dw10 c % 8 = act → s.media.sanitize = none →
    ∃ u : State, exec i s = .next (u.post c.id .success).settle ∧
      u = ({ s with media := { s.media with sanitize := some (c.id, act), sanitizeStat := 2 } } : State).each (s.media.nss.filter (fun x => x.job = 0)) (fun s x => s.setJob x 6 none) ∧
      u.media.sanitize = some (c.id, act) ∧ u.media.sanitizeStat = 2 ∧ (∀ x ∈ u.media.nss, x.job ≠ 0)) ∧
  (∀ (act : Nat) (i : Instr) (c : Cmd) (s : State), (act, i) ∈ [(4, Instr.cryptoErase c), (2, .blockErase c)] → s.readyFor true c = true → dw10 c % 8 ≠ act ∨ s.media.sanitize.isSome = true →
    exec i s = .next (s.refuse c .invalidField)) ∧
  (∀ (c : Cmd) (s : State), s.readyFor true c = true →
    ∃ t, exec (.overwrite c) s = .next t ∧ t.lastAnswer = some (c.id, .invalidField) ∧ t = { s with io := t.io }) ∧
  (∀ (c : Cmd) (n : Nat) (x : Ns) (s : State), s.readyFor true c = true → s.pwr.mode ≠ 1 → dw10 c = 0x30000 + n → n < 65536 → zero12 c = true → (s.tenant n).occupied = true → s.ns? (dw11 c) = some x →
    x.tenant = 0 → x.attached = [] → x.job = 0 → s.tenSegs n x.pool + s.segCount x ≤ s.guar n 284 (s.segTotal x.pool) →
    ∃ u : State, exec (.nsAssign c) s = .next ((((u.nsChanged (s.ctrlsOf n) x).modified n 3 x.nsid).writeRoot x.pool (.rootGen x.pool (some c.id) 0)).settle) ∧
      (∀ y ∈ u.media.nss, y.nsx = x.nsx → y.tenant = n) ∧ u = { s with media := { s.media with nss := u.media.nss } }) ∧
  (∀ (c : Cmd) (n : Nat) (x : Ns) (s : State), s.readyFor true c = true → s.pwr.mode ≠ 1 → dw10 c = 0x40000 + n → n < 65536 → zero12 c = true → (s.tenant n).occupied = true → s.ns? (dw11 c) = some x →
    x.tenant = n → x.flags.testBit 1 = false → x.job = 0 →
    exec (.nsRelease c) s = .next ((((s.nsChanged (s.ctrlsOf n) x).modified n 4 x.nsid).setJob x 4 (some c.id)).settle)) ∧
  (∀ (c : Cmd) (n : Nat) (s : State), s.readyFor true c = true → n < 65536 → zero12 c = true → (s.tenant n).occupied = true → s.ns? (dw11 c) = none ∨ s.pwr.mode = 1 →
    (dw10 c = 0x30000 + n → exec (.nsAssign c) s = .next (s.refuse c .invalidField)) ∧ (dw10 c = 0x40000 + n → exec (.nsRelease c) s = .next (s.refuse c .invalidField))) ∧
  (∀ (p : Path) (s : State), s.reach p (dwSLICE + 4) = .ok → s.pwr.mode = 1 →
    ∃ u : State, exec (.wipe p) s = .next ((u.each (u.media.nss.filter (fun x => x.flags.testBit 1 && x.job = 0)) (fun s x => s.setJob x 7 none)).settle) ∧ u = s.resetSlices 0xFFFF) ∧
  (∀ (p : Path) (v : Word) (s : State), s.reach p (dwSLICE + 4) = .ok → s.pwr.mode = 1 → exec (.sliceReset p v) s = .next (s.resetSlices (v.toNat % 65536))) ∧
  (∀ (k : Nat) (s : State), 1 ≤ k → k ≤ 16 → (s.ctrl k).exist = true → (s.ctrl k).resetting = false → s.io.paused = false →
    ((s.resetSlices (2 ^ (k - 1))).ctrl k).resetting = true ∧ ((s.resetSlices (2 ^ (k - 1))).ctrl k).en = false) ∧
  (∀ (p : Path) (v : Word) (s : State), s.reach p (dwSLICE + 4) = .silent ∨ s.reach p (dwSLICE + 4) = .dead → exec (.wipe p) s = .next s ∧ exec (.sliceReset p v) s = .next s)

/-- From a ready Manager controller in normal operation: a Tenant Create that passes every check is taken up for the next boundary in the slot it names, or the lowest free one, and is not answered before; HOSTS replaces a tenant's host list and is answered; BIND_VF gives a tenant a free function, whose controller then belongs to the tenant, or none; GLOBAL that fits the tenants holds T_MAX and the floor for the next start and the PF0 setting from now on. A reset or deletion of a tenant that no reset or deletion holds begins the tenant's drain, and is noted in its slot; with activation paused it is put off; another reset waits for the one in progress. In service mode, and with fields or objects that its checks refuse, each command is refused with Invalid Field. (derived: R311, R312, R319, R320, R321, R323, R327, R328, R329) -/
def Obligations.TenantsAreCreatedChangedResetAndDeleted : Prop :=
  (∀ (c : Cmd) (n : Nat) (s : State), s.readyFor true c = true → s.pwr.mode ≠ 1 → dw10 c = 0 → zero11 c = true → (tenParams c.buf).ok c.buf = true → leAt c.buf 0 2 ≤ s.ten.tMax →
    n = (if leAt c.buf 0 2 = 0 then s.freeSlots.headD 0 else leAt c.buf 0 2) → s.freeSlots ≠ [] → s.createOk n c.buf = true →
    ∃ t i, exec (.tenantCreate c) s = .next t ∧ t.stage.installs = s.stage.installs ++ [i] ∧ i.id = c.id ∧ i.tid = n ∧ i.vf = leAt c.buf 2 1 ∧ i.nqn = leAt c.buf 8 256 ∧
      i.flags = leAt c.buf 3 1 ∧ i.maxScans = leAt c.buf 4 1 ∧ i.allocs = (tenParams c.buf).fields ∧ i.banks = leAt c.buf 296 2 ∧ i.lanes = leAt c.buf 300 8 ∧
      t = { s with stage := { s.stage with installs := t.stage.installs } }) ∧
  (∀ (c : Cmd) (s : State), s.readyFor true c = true →
    (s.pwr.mode = 1 ∨ dw10 c ≠ 0 ∨ zero11 c = false ∨ (tenParams c.buf).ok c.buf = false ∨ s.ten.tMax < leAt c.buf 0 2 → exec (.tenantCreate c) s = .next (s.refuse c .invalidField)) ∧
    (s.pwr.mode ≠ 1 → dw10 c = 0 → zero11 c = true → (tenParams c.buf).ok c.buf = true → leAt c.buf 0 2 ≤ s.ten.tMax → s.freeSlots = [] →
      exec (.tenantCreate c) s = .next (s.refuse c (.vendor 0x83)))) ∧
  (∀ (i : Install) (s : State), i.tid ≠ 0 → ((s.install i).tenant i.tid).occupied = true ∧ ((s.install i).tenant i.tid).vf = i.vf ∧ ((s.install i).tenant i.tid).nqn = i.nqn ∧
    (s.install i).lastAnswer = some (i.id, .success)) ∧
  (∀ (c : Cmd) (n : Nat) (s : State), s.readyFor true c = true → s.pwr.mode ≠ 1 → dw10 c = 0x10000 + n → n < 65536 → c.cdw11 = 0 → zero12 c = true → n = 0 ∨ (s.tenant n).occupied = true →
    s.hostsOk n (leAt c.buf 0 2) c.buf = true →
    exec (.hosts c) s = .next ((((s.setHosts n ((List.range (leAt c.buf 0 2)).map (hostAt c.buf))).discNotice
      ((s.hostsOf n ++ (List.range (leAt c.buf 0 2)).map (hostAt c.buf)).map (fun h => h.nqn)).dedup).modified n 1 0).post c.id .success)) ∧
  (∀ (n : Nat) (l : List HostEnt) (s : State), (s.setHosts n l).hostsOf n = l ∧ (∀ k, k ≠ n → (s.setHosts n l).hostsOf k = s.hostsOf k) ∧
    ((s.setHosts n l).tenant n).nqn = (s.tenant n).nqn ∧ s.setHosts n l = { s with ten := (s.setHosts n l).ten }) ∧
  (∀ (c : Cmd) (n v : Nat) (s : State), s.readyFor true c = true → s.pwr.mode ≠ 1 → dw10 c = 0x20000 + n → n < 65536 → dw11 c = v → v < 256 → zero12 c = true →
    (s.tenant n).occupied = true → v = 0 ∨ s.vfTaken n v = false →
    exec (.bindVf c) s = .next (((s.bind n v).modified n 2 v).post c.id .success)) ∧
  (∀ (n v : Nat) (s : State), ((s.bind n v).tenant n).vf = v ∧ (v ≠ 0 → (s.tenant n).vf ≠ v → (s.bind n v).ctrl v = { exist := true, kind := .vf v, tenant := n }) ∧
    ((s.tenant n).vf = 0 → (∀ k, k ≠ v → (s.bind n v).ctrl k = s.ctrl k) ∧ (∀ k, k ≠ n → (s.bind n v).tenant k = s.tenant k))) ∧
  (∀ (c : Cmd) (s : State), s.readyFor true c = true → s.pwr.mode ≠ 1 → dw10 c = 0x50000 → zero12 c = true → field (dw11 c) 31 25 = 0 →
    s.globalOk (dw11 c % 65536) (field (dw11 c) 23 16) ((dw11 c).testBit 24) = true →
    ∃ t, exec (.global c) s = .next t ∧ t.ten.nextTMax = dw11 c % 65536 ∧ t.ten.nextFloor = field (dw11 c) 23 16 ∧ t.ten.pf0Mgr = (dw11 c).testBit 24 ∧ t.ten.tMax = s.ten.tMax ∧
      t.ten.floorPct = s.ten.floorPct ∧ t.lastAnswer = some (c.id, .success) ∧
      t = { s with ten := { s.ten with pf0Mgr := t.ten.pf0Mgr, nextTMax := t.ten.nextTMax, nextFloor := t.ten.nextFloor }, gbk := t.gbk, dw := { s.dw with cnt := t.dw.cnt }, io := t.io }) ∧
  (∀ (i : Instr) (c : Cmd) (s : State), s.readyFor true c = true → s.pwr.mode = 1 →
    i ∈ [Instr.hosts c, .bindVf c, .nsAssign c, .nsRelease c, .global c, .resources c, .tenantReset c, .tenantDelete c, .tenantCreate c] → exec i s = .next (s.refuse c .invalidField)) ∧
  (∀ (c : Cmd) (n : Nat) (s : State), s.readyFor true c = true → s.pwr.mode ≠ 1 → dw10 c = n → 1 ≤ n → n < 65536 → zero11 c = true → (s.tenant n).occupied = true →
    (s.tenant n).resetting = [] → (s.tenant n).deleting = none → s.io.paused = false →
    ∃ u : State, exec (.tenantReset c) s = .next ((u.drainTenant n).tenantDone n) ∧ (u.tenant n).resetting = [c.id] ∧ (∀ k, k ≠ n → u.tenant k = s.tenant k) ∧
      u = { s with ten := { s.ten with tbl := u.ten.tbl } }) ∧
  (∀ (c : Cmd) (n : Nat) (s : State), s.readyFor true c = true → s.pwr.mode ≠ 1 → dw10 c = 65536 + n → 1 ≤ n → n < 65536 → zero11 c = true → (s.tenant n).occupied = true →
    (s.tenant n).resetting = [] → (s.tenant n).deleting = none → s.io.paused = false →
    ∃ u : State, exec (.tenantDelete c) s = .next ((u.drainTenant n).tenantDone n) ∧ (u.tenant n).deleting = some [c.id] ∧ (u.tenant n).destroy = true ∧
      (∀ k, k ≠ n → u.tenant k = s.tenant k) ∧ u = { s with ten := { s.ten with tbl := u.ten.tbl } }) ∧
  (∀ (c : Cmd) (s : State), s.readyFor true c = true →
    (s.tenArgsOk c false = false → exec (.tenantReset c) s = .next (s.refuse c .invalidField)) ∧ (s.tenArgsOk c true = false → exec (.tenantDelete c) s = .next (s.refuse c .invalidField)) ∧
    (s.tenArgsOk c false = true → exec (.tenantReset c) s = .next (if s.io.paused then s.putOff (.tenReset c) else s.tenantReset c)) ∧
    (s.tenArgsOk c true = true → exec (.tenantDelete c) s = .next (if s.io.paused then s.putOff (.tenDelete c) else s.tenantDelete c))) ∧
  (∀ (c : Cmd) (n : Nat) (s : State), dw10 c % 65536 = n → (s.tenant n).resetting ≠ [] ∨ (s.tenant n).deleting.isSome = true →
    s.tenantReset c = s.modTenant n (fun x => { x with resetting := x.resetting ++ [c.id] })) ∧
  (∀ (n : Nat) (id : CmdId) (s : State), s.tenDraining n = false → (s.tenant n).resetting = [id] → (s.tenant n).deleting = none → s.io.heldConnects = [] →
    (s.tenantDone n).lastAnswer = some (id, .success) ∧ ((s.tenantDone n).tenant n).resetting = [])

/-- A key-search command that passes intake at once, on banks its tenant owns: INSERT (of an invalid entry, or with REPLACE) holds the entry in the row and in its copy, DELETE leaves neither valid; both end long cursors over the bank and change no other entry. With rows and copies alike, a short or long lookup that hits answers with the winner's result, a long one with several matches also takes a cursor; one that matches nothing answers 80h. A batch with a free cursor answers with its token; without one it waits, and a freed cursor lets the tenant's batch that waited longest do so. KEY NEXT of a batch returns its records and frees the cursor; of a long lookup, the next match and moves the cursor, 80h at the end; of an unknown token or another tenant's, status 81h; into too small a buffer, Invalid Field. A bank of another tenant answers 82h. Every other case of the six commands is what intake of their opcode and vendorIntake and runVendor make of it; a command no controller takes changes nothing. An expired cursor is gone. (derived: R346, R347, R348, R349, R350, R351, R352, R353, R354, R356) -/
def Obligations.KeySearchWritesLooksUpAndExpires : Prop :=
  (∀ (c : Cmd) (s : State), s.accepts c = true →
    exec (.keyNext c) s = .next (((s.cmdArrives c).vendorIntake 0x91 c).runVendor c.id) ∧ exec (.keyInsert c) s = .next (((s.cmdArrives c).vendorIntake 0x92 c).runVendor c.id) ∧
    exec (.keyDelete c) s = .next (((s.cmdArrives c).vendorIntake 0x93 c).runVendor c.id) ∧
    exec (.keyLookupShort c) s = .next (if lookForm c = 0 ∨ lookForm c = 3 then ((s.cmdArrives c).vendorIntake 0x90 c).runVendor c.id else s.refuse c .invalidField) ∧
    exec (.keyLookupLong c) s = .next (if lookForm c = 1 ∨ lookForm c = 3 then ((s.cmdArrives c).vendorIntake 0x90 c).runVendor c.id else s.refuse c .invalidField) ∧
    exec (.keyLookupBatch c) s = .next (if lookForm c = 2 ∨ lookForm c = 3 then ((s.cmdArrives c).vendorIntake 0x90 c).runVendor c.id else s.refuse c .invalidField)) ∧
  (∀ (c : Cmd) (i : Instr) (s : State), s.accepts c = false → i ∈ [Instr.keyNext c, .keyInsert c, .keyDelete c, .keyLookupShort c, .keyLookupLong c, .keyLookupBatch c] → exec i s = .next s) ∧
  (∀ (c : Cmd) (k : Nat) (s : State), s.vendorFree 0x92 c = true → k = entNo (dw10 c % 16) (dw11 c) → s.ownsBank (s.ctrl c.id.ctrl).tenant (dw10 c % 16) = true →
    (s.srch.row k).valid = false ∨ (dw10 c).testBit 4 = true →
    ∃ t, exec (.keyInsert c) s = .next t ∧ t.srch.row k = entOf c ∧ t.srch.copy k = entOf c ∧ (∀ j, j ≠ k → t.srch.row j = s.srch.row j) ∧ (∀ j, j ≠ k → t.srch.copy j = s.srch.copy j) ∧
      (∀ x ∈ t.srch.cursors, x.batch.isSome = true ∨ x.banks.testBit (dw10 c % 16) = false) ∧
      t.io.posted.getLast?.map (fun e => (e.id, e.st, e.dw0)) = some (c.id, .success, flag (s.srch.row k).valid 0) ∧
      t = { s with srch := { s.srch with tcam := t.srch.tcam, copies := t.srch.copies, bad := t.srch.bad, cursors := t.srch.cursors }, io := t.io, media := { s.media with reqs := t.media.reqs } }) ∧
  (∀ (c : Cmd) (s : State), s.vendorFree 0x92 c = true → s.ownsBank (s.ctrl c.id.ctrl).tenant (dw10 c % 16) = true → (s.srch.row (entNo (dw10 c % 16) (dw11 c))).valid = true → (dw10 c).testBit 4 = false →
    ∃ t, exec (.keyInsert c) s = .next t ∧ t.lastAnswer = some (c.id, .invalidField) ∧ t = { s with io := t.io, media := { s.media with reqs := t.media.reqs } }) ∧
  (∀ (c : Cmd) (k : Nat) (s : State), s.vendorFree 0x93 c = true → k = entNo (dw10 c % 16) (dw11 c) → s.ownsBank (s.ctrl c.id.ctrl).tenant (dw10 c % 16) = true →
    ∃ t, exec (.keyDelete c) s = .next t ∧ (t.srch.row k).valid = false ∧ (t.srch.copy k).valid = false ∧ (∀ j, j ≠ k → t.srch.row j = s.srch.row j) ∧ (∀ j, j ≠ k → t.srch.copy j = s.srch.copy j) ∧
      t.io.posted.getLast?.map (fun e => (e.id, e.st, e.dw0)) = some (c.id, .success, flag (s.srch.row k).valid 0) ∧
      t = { s with srch := { s.srch with tcam := t.srch.tcam, copies := t.srch.copies, bad := t.srch.bad, cursors := t.srch.cursors }, io := t.io, media := { s.media with reqs := t.media.reqs } }) ∧
  (∀ (c : Cmd) (s : State),
    (s.vendorFree 0x92 c = true → s.ownsBank (s.ctrl c.id.ctrl).tenant (dw10 c % 16) = false →
      ∃ t, exec (.keyInsert c) s = .next t ∧ t.lastAnswer = some (c.id, .vendor 0x82) ∧ t = { s with io := t.io, media := { s.media with reqs := t.media.reqs } }) ∧
    (s.vendorFree 0x93 c = true → s.ownsBank (s.ctrl c.id.ctrl).tenant (dw10 c % 16) = false →
      ∃ t, exec (.keyDelete c) s = .next t ∧ t.lastAnswer = some (c.id, .vendor 0x82) ∧ t = { s with io := t.io, media := { s.media with reqs := t.media.reqs } }) ∧
    (∀ i, s.vendorFree 0x90 c = true → s.ownsBanks (s.ctrl c.id.ctrl).tenant (lookBanks c) = false →
      i = (if lookForm c = 0 then Instr.keyLookupShort c else if lookForm c = 1 then .keyLookupLong c else .keyLookupBatch c) →
      ∃ t, exec i s = .next t ∧ t.lastAnswer = some (c.id, .vendor 0x82) ∧ t = { s with io := t.io, media := { s.media with reqs := t.media.reqs } })) ∧
  (∀ (n banks : Nat) (key : BitVec 192) (hs : List (Nat × TEnt)) (fh : Bool) (u s : State), s.sound = true → s.search n banks key = (hs, fh, u) →
    hs = u.srch.rawHits banks key ∧ (∀ h ∈ hs, (h.1, h.2) ∈ s.srch.tcam ∧ h.1 ∉ s.srch.bad ∧ (s.srch.copy h.1).hits key = true) ∧
    (fh = true ↔ ∃ h ∈ s.srch.rawHits banks key, h.1 ∉ s.srch.bad ∧ (s.srch.copy h.1).hits key = false) ∧
    (∀ k, k ∉ s.srch.bad → u.srch.copy k = s.srch.copy k) ∧ u.srch.cursors = s.srch.cursors ∧ u.io.posted = s.io.posted ∧ u.media = s.media) ∧
  (∀ (c : Cmd) (hs : List (Nat × TEnt)) (fh : Bool) (u s : State), s.vendorFree 0x90 c = true → lookForm c = 0 → s.ownsBanks (s.ctrl c.id.ctrl).tenant (lookBanks c) = true →
    s.search (s.ctrl c.id.ctrl).tenant (lookBanks c) (lookKey c) = (hs, fh, u) →
    ∃ t, exec (.keyLookupShort c) s = .next t ∧ t.srch = u.srch ∧ t.gbk = u.gbk ∧ t.io.posted.getLast?.map (fun e => (e.id, e.st, e.dw0 + 2 ^ 32 * e.dw1, e.data)) =
        some (match hs with | [] => (c.id, .vendor 0x80, 0, []) | h :: _ => (c.id, .success, h.2.result, respShort hs false fh)) ∧
      t = { s with srch := t.srch, gbk := t.gbk, dw := { s.dw with cnt := t.dw.cnt }, io := t.io, media := { s.media with reqs := t.media.reqs } }) ∧
  (∀ (c : Cmd) (h : Nat × TEnt) (l : List (Nat × TEnt)) (s : State), s.vendorFree 0x90 c = true → lookForm c = 0 → s.ownsBanks (s.ctrl c.id.ctrl).tenant (lookBanks c) = true → s.sound = true →
    s.srch.tcam = s.srch.copies → s.srch.bad = [] → s.srch.rawHits (lookBanks c) (lookKey c) = h :: l →
    ∃ t, exec (.keyLookupShort c) s = .next t ∧ t.io.posted.getLast?.map (fun e => (e.id, e.st, e.dw0 + 2 ^ 32 * e.dw1, e.data)) = some (c.id, .success, h.2.result, respShort (h :: l) false false) ∧
      t = { s with srch := { s.srch with stats := t.srch.stats }, io := t.io }) ∧
  (∀ (c : Cmd) (h g : Nat × TEnt) (l : List (Nat × TEnt)) (k : Nat) (s : State), s.vendorFree 0x90 c = true → lookForm c = 1 → s.ownsBanks (s.ctrl c.id.ctrl).tenant (lookBanks c) = true → s.sound = true →
    s.srch.tcam = s.srch.copies → s.srch.bad = [] → s.srch.rawHits (lookBanks c) (lookKey c) = h :: g :: l → s.freeCursor (s.ctrl c.id.ctrl).tenant = some k →
    ∃ t, exec (.keyLookupLong c) s = .next t ∧ t.io.posted.getLast?.map (fun e => (e.id, e.st, e.data)) =
        some (c.id, .success, respShort (h :: g :: l) false false ++ respLong (l.length + 2) (tokenOf k false s.srch.gen)) ∧
      t.srch.cursors = s.srch.cursors ++ [{ token := tokenOf k false s.srch.gen, ctrl := c.id.ctrl, tenant := (s.ctrl c.id.ctrl).tenant, banks := lookBanks c, key := lookKey c, last := (h.2.prio, h.1 / 16384, h.1 % 16384) }] ∧
      t = { s with srch := { s.srch with stats := t.srch.stats, cursors := t.srch.cursors, gen := t.srch.gen }, io := t.io }) ∧
  (∀ (c : Cmd) (h g : Nat × TEnt) (l : List (Nat × TEnt)) (s : State), s.vendorFree 0x90 c = true → lookForm c = 1 → s.ownsBanks (s.ctrl c.id.ctrl).tenant (lookBanks c) = true → s.sound = true →
    s.srch.tcam = s.srch.copies → s.srch.bad = [] → s.srch.rawHits (lookBanks c) (lookKey c) = h :: g :: l → s.freeCursor (s.ctrl c.id.ctrl).tenant = none →
    ∃ t, exec (.keyLookupLong c) s = .next t ∧ t.io.posted.getLast?.map (fun e => (e.id, e.st, e.data)) = some (c.id, .success, respShort (h :: g :: l) true false ++ respLong (l.length + 2) 0) ∧
      t = { s with srch := { s.srch with stats := t.srch.stats }, io := t.io }) ∧
  (∀ (c : Cmd) (h : Nat × TEnt) (s : State), s.vendorFree 0x90 c = true → lookForm c = 1 → s.ownsBanks (s.ctrl c.id.ctrl).tenant (lookBanks c) = true → s.sound = true →
    s.srch.tcam = s.srch.copies → s.srch.bad = [] → s.srch.rawHits (lookBanks c) (lookKey c) = [h] →
    ∃ t, exec (.keyLookupLong c) s = .next t ∧ t.io.posted.getLast?.map (fun e => (e.id, e.st, e.data)) = some (c.id, .success, respShort [h] false false ++ respLong 1 0) ∧
      t = { s with srch := { s.srch with stats := t.srch.stats }, io := t.io }) ∧
  (∀ (c : Cmd) (s : State), s.vendorFree 0x90 c = true → lookForm c = 0 ∨ lookForm c = 1 → s.ownsBanks (s.ctrl c.id.ctrl).tenant (lookBanks c) = true →
    s.srch.rawHits (lookBanks c) (lookKey c) = [] →
    ∃ t, exec (if lookForm c = 0 then .keyLookupShort c else .keyLookupLong c) s = .next t ∧ t.lastAnswer = some (c.id, .vendor 0x80) ∧
      t = { s with srch := { s.srch with stats := t.srch.stats }, io := t.io, media := { s.media with reqs := t.media.reqs } }) ∧
  (∀ (c : Cmd) (k : Nat) (s : State), s.vendorFree 0x90 c = true → lookForm c = 2 → s.ownsBanks (s.ctrl c.id.ctrl).tenant (lookBanks c) = true → s.freeCursor (s.ctrl c.id.ctrl).tenant = some k →
    ∃ t x, exec (.keyLookupBatch c) s = .next t ∧ t.io.posted.getLast?.map (fun e => (e.id, e.st, e.dw0 + 2 ^ 32 * e.dw1)) = some (c.id, .success, x.token) ∧
      t.srch.cursors = s.srch.cursors ++ [x] ∧ x.token = tokenOf k true s.srch.gen ∧ x.ctrl = c.id.ctrl ∧ x.tenant = (s.ctrl c.id.ctrl).tenant ∧ x.batch.map List.length = some (dw10 c) ∧
      (s.sound = true → s.srch.tcam = s.srch.copies → s.srch.bad = [] → x.batch = some ((batchKeys c).map (fun key => respShort (s.srch.rawHits (lookBanks c) key) false false))) ∧
      t = { s with srch := t.srch, gbk := t.gbk, dw := { s.dw with cnt := t.dw.cnt }, io := t.io }) ∧
  (∀ (c : Cmd) (s : State), s.vendorFree 0x90 c = true → lookForm c = 2 → s.ownsBanks (s.ctrl c.id.ctrl).tenant (lookBanks c) = true → s.freeCursor (s.ctrl c.id.ctrl).tenant = none →
    ∃ t, exec (.keyLookupBatch c) s = .next t ∧ t.srch = { s.srch with waitBatch := s.srch.waitBatch ++ [s.localNs c] } ∧ t.io.posted = s.io.posted ∧ t.io.flights.map (fun f => (f.c.id, f.stage)) = [(c.id, .started)] ∧
      t = { s with srch := t.srch, io := t.io }) ∧
  (∀ (n k : Nat) (c : Cmd) (f : Flight) (s : State), s.srch.waitBatch.find? (fun c => (s.flight? c.id).any (fun f => f.tenant = n)) = some c → s.flight? c.id = some f → s.freeCursor n = some k →
    exec (.cursorFreed n) s = .next (({ s with srch := { s.srch with waitBatch := s.srch.waitBatch.filter (fun d => d.id ≠ c.id) } } : State).batchOn f k)) ∧
  (∀ (n k : Nat) (c : Cmd) (f : Flight) (s : State), s.srch.waitBatch = [c] → s.flight? c.id = some f → f.tenant = n → f.c = c → s.freeCursor n = some k →
    ∃ t x, exec (.cursorFreed n) s = .next t ∧ t.srch.waitBatch = [] ∧ t.io.posted.getLast?.map (fun e => (e.id, e.st, e.dw0 + 2 ^ 32 * e.dw1)) = some (c.id, .success, x.token) ∧
      t.srch.cursors = s.srch.cursors ++ [x] ∧ x.tenant = n ∧ x.batch.map List.length = some (dw10 c)) ∧
  (∀ (n : Nat) (s : State), s.freeCursor n = none ∨ (∀ c ∈ s.srch.waitBatch, ∀ f, s.flight? c.id = some f → f.tenant ≠ n) → exec (.cursorFreed n) s = .next s) ∧
  (∀ (c : Cmd) (x : Cursor) (rs : List (List Byte)) (s : State), s.vendorFree 0x91 c = true → s.srch.cursors.find? (fun k => k.token = dw10 c + 2 ^ 32 * dw11 c ∧ k.tenant = (s.ctrl c.id.ctrl).tenant) = some x →
    x.batch = some rs → 16 * rs.length ≤ c.bufLen →
    ∃ t, exec (.keyNext c) s = .next t ∧ t.io.posted.getLast?.map (fun e => (e.id, e.st, e.data)) = some (c.id, .success, rs.flatten) ∧
      (∀ y ∈ t.srch.cursors, y.token ≠ dw10 c + 2 ^ 32 * dw11 c) ∧ t = { s with srch := { s.srch with cursors := t.srch.cursors }, io := t.io }) ∧
  (∀ (c : Cmd) (x : Cursor) (hs : List (Nat × TEnt)) (fh : Bool) (u s : State), s.vendorFree 0x91 c = true → s.srch.cursors.find? (fun k => k.token = dw10 c + 2 ^ 32 * dw11 c ∧ k.tenant = (s.ctrl c.id.ctrl).tenant) = some x →
    x.batch = none → 32 ≤ c.bufLen → s.search (s.ctrl c.id.ctrl).tenant x.banks x.key = (hs, fh, u) →
    (∀ h l, hs.filter (afterPos x.last) = h :: l → ∃ t, exec (.keyNext c) s = .next t ∧
      t.io.posted.getLast?.map (fun e => (e.id, e.st, e.dw0 + 2 ^ 32 * e.dw1, e.data)) = some (c.id, .success, h.2.result, respShort (h :: l) false fh ++ respLong l.length (dw10 c + 2 ^ 32 * dw11 c)) ∧
      t.srch = { u.srch with cursors := s.srch.cursors.map (fun y => if y.token = dw10 c + 2 ^ 32 * dw11 c then { y with last := (h.2.prio, h.1 / 16384, h.1 % 16384) } else y) } ∧
      t = { s with srch := t.srch, gbk := u.gbk, dw := { s.dw with cnt := t.dw.cnt }, io := t.io }) ∧
    (hs.filter (afterPos x.last) = [] → ∃ t, exec (.keyNext c) s = .next t ∧ t.lastAnswer = some (c.id, .vendor 0x80) ∧
      t.srch = { u.srch with cursors := s.srch.cursors.filter (fun y => y.token ≠ dw10 c + 2 ^ 32 * dw11 c) } ∧
      t = { s with srch := t.srch, gbk := u.gbk, dw := { s.dw with cnt := t.dw.cnt }, io := t.io, media := { s.media with reqs := t.media.reqs } })) ∧
  (∀ (c : Cmd) (x : Cursor) (s : State), s.vendorFree 0x91 c = true → s.srch.cursors.find? (fun k => k.token = dw10 c + 2 ^ 32 * dw11 c ∧ k.tenant = (s.ctrl c.id.ctrl).tenant) = some x →
    (match x.batch with | some rs => c.bufLen < 16 * rs.length | none => c.bufLen < 32) →
    ∃ t, exec (.keyNext c) s = .next t ∧ t.lastAnswer = some (c.id, .invalidField) ∧ t = { s with io := t.io, media := { s.media with reqs := t.media.reqs } }) ∧
  (∀ (c : Cmd) (s : State), s.vendorFree 0x91 c = true → (∀ x ∈ s.srch.cursors, x.token ≠ dw10 c + 2 ^ 32 * dw11 c ∨ x.tenant ≠ (s.ctrl c.id.ctrl).tenant) →
    ∃ t, exec (.keyNext c) s = .next t ∧ t.lastAnswer = some (c.id, .vendor 0x81) ∧ t = { s with io := t.io, media := { s.media with reqs := t.media.reqs } }) ∧
  (∀ (token : Nat) (s : State), ∃ t, exec (.cursorExpiry token) s = .next t ∧ (∀ x ∈ t.srch.cursors, x.token ≠ token) ∧ (∀ x ∈ s.srch.cursors, x.token ≠ token → x ∈ t.srch.cursors) ∧
    t = { s with srch := { s.srch with cursors := t.srch.cursors } })

/-- After TCAM_SCRUB of a bank, each row of the bank is what its copy is, and no copy of the bank is bad; rows and copies of other banks are as before. In service mode a write of TCAM_INJ with ARM flips the named key bit of the row and leaves its copy and every other row; without ARM it only takes the register's bits, and outside service mode nothing changes. On a part without key search, or while the unit does not run, a scrub does nothing. (derived: R355, R357, R377) -/
def Obligations.RowsAreScrubbedAndInjected : Prop :=
  (∀ (b : Nat) (s : State), b < 16 → s.part.keySearch = true → s.pwr.phase = .run →
    ∃ t, exec (.tcamScrub b) s = .next t ∧ (∀ k, k / 16384 = b → t.srch.row k = t.srch.copy k) ∧ (∀ k, k / 16384 = b → k ∉ s.srch.bad → t.srch.copy k = s.srch.copy k) ∧
      (∀ k, k / 16384 ≠ b → t.srch.row k = s.srch.row k) ∧ (∀ k, k / 16384 ≠ b → t.srch.copy k = s.srch.copy k) ∧
      t = { s with srch := { s.srch with tcam := t.srch.tcam, copies := t.srch.copies, bad := t.srch.bad, stats := t.srch.stats }, gbk := t.gbk, dw := { s.dw with cnt := t.dw.cnt } }) ∧
  (∀ (b : Nat) (s : State), b < 16 → s.part.keySearch = false ∨ s.pwr.phase ≠ .run → exec (.tcamScrub b) s = .next s) ∧
  (∀ (k : Nat) (s : State),
    (k ∈ s.srch.bad → s.scrubRow k = (s.setEnt k {}).log 0x0803 [k / 16384, k % 16384, s.inf (stBankOwner (k / 16384))]) ∧
    (k ∉ s.srch.bad → s.srch.row k = s.srch.copy k → s.scrubRow k = s) ∧
    (k ∉ s.srch.bad → s.srch.row k ≠ s.srch.copy k → s.scrubRow k = (((s.setRow k (s.srch.copy k)).bump (dwSRCH + 0xC) 1).bankStat (k / 16384) 40 1).log 0x0802 [k / 16384, k % 16384])) ∧
  (∀ (p : Path) (v : Word) (k : Nat) (s : State), s.reach p (dwSRCH + 0x18) = .ok → s.pwr.mode = 1 → v.toNat.testBit 31 = true → v.toNat % 256 < 192 →
    k = entNo (v.toNat / 2 ^ 26 % 16) (v.toNat / 2 ^ 12 % 16384) →
    ∃ t, exec (.tcamInj p v) s = .next t ∧ (t.srch.row k).key = (s.srch.row k).key ^^^ BitVec.ofNat 192 (2 ^ (v.toNat % 256)) ∧ (t.srch.row k).mask = (s.srch.row k).mask ∧
      (t.srch.row k).valid = (s.srch.row k).valid ∧ (∀ j, j ≠ k → t.srch.row j = s.srch.row j) ∧ (t.reg (dwSRCH + 0x18)).testBit 31 = false ∧
      t = { s with srch := { s.srch with tcam := t.srch.tcam }, dw := { s.dw with regs := t.dw.regs } }) ∧
  (∀ (p : Path) (v : Word) (s : State), s.reach p (dwSRCH + 0x18) = .ok → s.pwr.mode = 1 → v.toNat.testBit 31 = true → 192 ≤ v.toNat % 256 →
    exec (.tcamInj p v) s = .next (s.setReg (dwSRCH + 0x18) (clearBit (v.toNat &&& rwMask (dwSRCH + 0x18)) 31))) ∧
  (∀ (p : Path) (v : Word) (s : State), s.reach p (dwSRCH + 0x18) = .ok → s.pwr.mode = 1 → v.toNat.testBit 31 = false →
    ∃ t, exec (.tcamInj p v) s = .next t ∧ t.reg (dwSRCH + 0x18) = v.toNat &&& rwMask (dwSRCH + 0x18) ∧ t.srch = s.srch ∧ t = { s with dw := { s.dw with regs := t.dw.regs } }) ∧
  (∀ (p : Path) (v : Word) (s : State), s.reach p (dwSRCH + 0x18) = .ok → s.pwr.mode ≠ 1 → exec (.tcamInj p v) s = .next s) ∧
  (∀ (p : Path) (v : Word) (s : State), (s.reach p (dwSRCH + 0x18) = .denied → exec (.tcamInj p v) s = .next (s.log 0x0A10 [0, dwSRCH + 0x18, 1])) ∧
    (s.reach p (dwSRCH + 0x18) = .silent ∨ s.reach p (dwSRCH + 0x18) = .dead → exec (.tcamInj p v) s = .next s))

/-- From a controller whose tenant owns the banks and lanes: a load piece is kept; a final piece whose image is whole and right fills the banks with its sections; an unload of banks no scan uses empties them. A piece, final piece or unload whose fields are not in order is refused; so are banks not owned, of another image or in use, and an image that fails its checks. A Scan Start over loaded banks and free lanes adds a running scan and answers with its number, else 82h, 89h or 8Ah in that order. A free lane takes the next chunk of its scan, and a release moves what it holds into the scan's buffer. A Fetch answers with the records there are, or waits where it may; a Fetch whose wait expires is answered; a Cancel frees the scan and answers with how many records were discarded; a scan of another controller is Invalid Field; an ended scan that no Fetch asks for expires. (derived: R362, R363, R364, R365, R366, R370, R373, R374) -/
def Obligations.ScansStartReleaseFetchAndEnd : Prop :=
  (∀ (c : Cmd) (s : State), s.accepts c = true →
    exec (.scanStart c) s = .next (((s.cmdArrives c).vendorIntake 0x98 c).runVendor c.id) ∧ exec (.scanFetch c) s = .next (((s.cmdArrives c).vendorIntake 0x99 c).runVendor c.id) ∧
    exec (.scanCancel c) s = .next (((s.cmdArrives c).vendorIntake 0x9A c).runVendor c.id)) ∧
  (∀ (c : Cmd) (ok : Bool) (i : Instr) (s : State), s.accepts c = false → i ∈ [Instr.scanStart c, .scanFetch c, .scanCancel c, .patternImageLoad c, .patternImageLoadFinal c ok, .patternImageUnload c] → exec i s = .next s) ∧
  (∀ (c : Cmd) (s : State), s.readyFor false c = true → s.part.scan = true → c.nsid = 0 → loadFields c = true → (dw12 c).testBit 16 = false → dw12 c % 65536 = 0 →
    ∃ t, exec (.patternImageLoad c) s = .next t ∧ t.load (s.ctrl c.id.ctrl).tenant =
        { image := dw13 c, ctrl := c.id.ctrl, pieces := (dw11 c, c.buf.take (4 * dw10 c)) :: (if (s.load (s.ctrl c.id.ctrl).tenant).image = dw13 c then (s.load (s.ctrl c.id.ctrl).tenant).pieces else []) } ∧
      (∀ k, k ≠ (s.ctrl c.id.ctrl).tenant → t.load k = s.load k) ∧ t.lastAnswer = some (c.id, .success) ∧ t = { s with srch := { s.srch with loads := t.srch.loads }, io := t.io }) ∧
  (∀ (c : Cmd) (ok : Bool) (s : State), s.readyFor false c = true → s.part.scan = true →
    (c.nsid ≠ 0 ∨ loadFields c = false ∨ (dw12 c).testBit 16 = true ∨ dw12 c % 65536 ≠ 0 → exec (.patternImageLoad c) s = .next (s.refuse c .invalidField)) ∧
    (c.nsid ≠ 0 ∨ loadFields c = false ∨ (dw12 c).testBit 16 = false → exec (.patternImageLoadFinal c ok) s = .next (s.refuse c .invalidField)) ∧
    (c.nsid ≠ 0 ∨ 65536 ≤ dw10 c ∨ dw10 c % 65536 = 0 ∨ zero11 c = false → exec (.patternImageUnload c) s = .next (s.refuse c .invalidField))) ∧
  (∀ (c : Cmd) (ok : Bool) (n : Nat) (bs : List ABank) (h : List Byte) (s : State), s.readyFor false c = true → s.part.scan = true → c.nsid = 0 → loadFields c = true → (dw12 c).testBit 16 = true →
    n = (s.ctrl c.id.ctrl).tenant → s.ownsBanks n (dw12 c % 65536) = true → ((s.storePiece n c).load n).bytes 0 512 = some h → (bitsOf (dw12 c % 65536) 16).length = leAt h 6 1 →
    (∀ b ∈ bitsOf (dw12 c % 65536) 16, ((s.abank b).image = 0 ∨ (s.abank b).image = dw13 c) ∧ s.bankRuns b = false) → ((s.storePiece n c).load n).checked (dw13 c) ok = some bs →
    ∃ t, exec (.patternImageLoadFinal c ok) s = .next t ∧ (∀ e ∈ (bitsOf (dw12 c % 65536) 16).zip bs, t.abank e.1 = e.2) ∧ t.load n = {} ∧ t.lastAnswer = some (c.id, .success) ∧
      (∀ b, (dw12 c).testBit b = false → t.abank b = s.abank b) ∧
      t = { s with srch := { s.srch with loads := t.srch.loads, abanks := t.srch.abanks }, gbk := t.gbk, dw := { s.dw with cnt := t.dw.cnt }, io := t.io }) ∧
  (∀ (c : Cmd) (ok : Bool) (n : Nat) (u s : State), s.readyFor false c = true → s.part.scan = true → c.nsid = 0 → loadFields c = true → (dw12 c).testBit 16 = true → n = (s.ctrl c.id.ctrl).tenant → u = s.storePiece n c →
    (s.ownsBanks n (dw12 c % 65536) = false → exec (.patternImageLoadFinal c ok) s = .next (u.refuse c (.vendor 0x82))) ∧
    (s.ownsBanks n (dw12 c % 65536) = true →
      ((bitsOf (dw12 c % 65536) 16).length ≠ (((u.load n).bytes 0 512).map (fun h => leAt h 6 1)).getD (bitsOf (dw12 c % 65536) 16).length ∨
        ∃ b ∈ bitsOf (dw12 c % 65536) 16, ((s.abank b).image ≠ 0 ∧ (s.abank b).image ≠ dw13 c) ∨ s.bankRuns b = true) → exec (.patternImageLoadFinal c ok) s = .next (u.refuse c .invalidField)) ∧
    (s.ownsBanks n (dw12 c % 65536) = true →
      (bitsOf (dw12 c % 65536) 16).length = (((u.load n).bytes 0 512).map (fun h => leAt h 6 1)).getD (bitsOf (dw12 c % 65536) 16).length →
        (∀ b ∈ bitsOf (dw12 c % 65536) 16, ((s.abank b).image = 0 ∨ (s.abank b).image = dw13 c) ∧ s.bankRuns b = false) →
        (u.load n).checked (dw13 c) ok = none → exec (.patternImageLoadFinal c ok) s = .next (u.refuse c (.vendor 0x89)))) ∧
  (∀ (c : Cmd) (s : State), s.readyFor false c = true → s.part.scan = true → c.nsid = 0 → dw10 c < 65536 → dw10 c ≠ 0 → zero11 c = true → s.ownsBanks (s.ctrl c.id.ctrl).tenant (dw10 c) = true →
    (∀ b ∈ bitsOf (dw10 c) 16, s.bankRuns b = false) →
    ∃ t, exec (.patternImageUnload c) s = .next t ∧ (∀ b < 16, (dw10 c).testBit b = true → t.abank b = {}) ∧ (∀ b, (dw10 c).testBit b = false → t.abank b = s.abank b) ∧
      t.lastAnswer = some (c.id, .success) ∧ t = { s with srch := { s.srch with abanks := t.srch.abanks }, gbk := t.gbk, dw := { s.dw with cnt := t.dw.cnt }, io := t.io }) ∧
  (∀ (c : Cmd) (s : State), s.readyFor false c = true → s.part.scan = true → c.nsid = 0 → dw10 c < 65536 → dw10 c ≠ 0 → zero11 c = true →
    (s.ownsBanks (s.ctrl c.id.ctrl).tenant (dw10 c) = false → exec (.patternImageUnload c) s = .next (s.refuse c (.vendor 0x82))) ∧
    (∀ b ∈ bitsOf (dw10 c) 16, s.ownsBanks (s.ctrl c.id.ctrl).tenant (dw10 c) = true → s.bankRuns b = true → exec (.patternImageUnload c) s = .next (s.refuse c .invalidField))) ∧
  (∀ (c : Cmd) (s : State), s.vendorFree 0x98 c = true → s.ownsBanks (s.ctrl c.id.ctrl).tenant (dw13 c % 65536) = true → s.ownsLanes (s.ctrl c.id.ctrl).tenant (scanLanes c) = true →
    (∀ b ∈ bitsOf (dw13 c % 65536) 16, (s.abank b).image ≠ 0 ∧ (s.abank b).image = c.cdw2.toNat) → s.srch.scans.length < 64 → (∀ x ∈ s.srch.scans, x.st = 0 → x.lanes &&& scanLanes c = 0) →
    (s.srch.scans.filter (fun x => x.tenant = (s.ctrl c.id.ctrl).tenant ∧ x.st = 0)).length < (if (s.ctrl c.id.ctrl).tenant = 0 then 64 else (s.tenant (s.ctrl c.id.ctrl).tenant).maxScans) →
    ∃ t x, exec (.scanStart c) s = .next t ∧ t.srch = { s.srch with scans := s.srch.scans ++ [x], nextScan := (x.sid + 1) % 65536 } ∧ x.sid < 65536 ∧ s.scan? x.sid = none ∧
      x = { sid := x.sid, ctrl := c.id.ctrl, tenant := (s.ctrl c.id.ctrl).tenant, nsid := (s.localNs c).nsid, image := c.cdw2.toNat, slba := slba c, nlb := dw12 c + 1, all := (dw13 c).testBit 17,
             banks := dw13 c % 65536, lanes := scanLanes c } ∧
      t.io.posted.getLast?.map (fun e => (e.id, e.st, e.dw0)) = some (c.id, .success, x.sid) ∧ t = { s with srch := t.srch, io := t.io, media := { s.media with reqs := t.media.reqs } }) ∧
  (∀ (c : Cmd) (s : State), s.vendorFree 0x98 c = true →
    ∃ t, exec (.scanStart c) s = .next t ∧
      ((s.ownsBanks (s.ctrl c.id.ctrl).tenant (dw13 c % 65536) && s.ownsLanes (s.ctrl c.id.ctrl).tenant (scanLanes c)) = false →
        t.lastAnswer = some (c.id, .vendor 0x82) ∧ t = { s with io := t.io, media := { s.media with reqs := t.media.reqs } }) ∧
      (s.ownsBanks (s.ctrl c.id.ctrl).tenant (dw13 c % 65536) = true → s.ownsLanes (s.ctrl c.id.ctrl).tenant (scanLanes c) = true →
        ((∃ b ∈ bitsOf (dw13 c % 65536) 16, (s.abank b).image = 0 ∨ (s.abank b).image ≠ c.cdw2.toNat) → t.lastAnswer = some (c.id, .vendor 0x89) ∧ t = { s with io := t.io, media := { s.media with reqs := t.media.reqs } }) ∧
        ((∀ b ∈ bitsOf (dw13 c % 65536) 16, (s.abank b).image ≠ 0 ∧ (s.abank b).image = c.cdw2.toNat) →
          (64 ≤ s.srch.scans.length ∨ (∃ x ∈ s.srch.scans, x.st = 0 ∧ x.lanes &&& scanLanes c ≠ 0) ∨
            (if (s.ctrl c.id.ctrl).tenant = 0 then 64 else (s.tenant (s.ctrl c.id.ctrl).tenant).maxScans) ≤ (s.srch.scans.filter (fun x => x.tenant = (s.ctrl c.id.ctrl).tenant ∧ x.st = 0)).length) →
          t.lastAnswer = some (c.id, .vendor 0x8A) ∧ t = { s with io := t.io, media := { s.media with reqs := t.media.reqs } }))) ∧
  (∀ (l : Nat) (x : Scan) (cands : List Candidate) (un guardBad : List Nat) (ecc : List (Nat × Bool)) (s : State), l < 64 → s.coreOn = true → (s.sl l).scan = none → s.laneScan l = some x →
    s.chunkFree x (x.slba + 256 * x.nextChunk - (if x.nextChunk = 0 then 0 else 1)) (x.slba + 256 * x.nextChunk + x.chunkLen x.nextChunk) = true →
    ∃ t, exec (.scanChunk l cands un guardBad ecc) s = .next t ∧ (t.sl l).scan = some x.sid ∧ (t.sl l).chunk = x.nextChunk ∧
      (t.sl l).held = chunkRecs x.all (x.slba + 256 * x.nextChunk) (x.chunkLen x.nextChunk) cands un guardBad ∧ (∀ y ∈ t.srch.scans, y.sid = x.sid → y.nextChunk = x.nextChunk + 1) ∧
      (∀ k, k ≠ l → t.sl k = s.sl k) ∧ (guardBad = [] → ecc = [] → t.gbk = s.gbk ∧ t.dw = s.dw ∧ t.srch.stats = s.srch.stats) ∧
      t = { s with srch := { s.srch with lanes := t.srch.lanes, scans := t.srch.scans, stats := t.srch.stats }, gbk := t.gbk, dw := { s.dw with cnt := t.dw.cnt } }) ∧
  (∀ (l : Nat) (cands : List Candidate) (un guardBad : List Nat) (ecc : List (Nat × Bool)) (s : State), l < 64 →
    (s.coreOn = false ∨ (s.sl l).scan ≠ none ∨ s.laneScan l = none ∨ (∃ x, s.laneScan l = some x ∧
      s.chunkFree x (x.slba + 256 * x.nextChunk - (if x.nextChunk = 0 then 0 else 1)) (x.slba + 256 * x.nextChunk + x.chunkLen x.nextChunk) = false)) →
    exec (.scanChunk l cands un guardBad ecc) s = .next s) ∧
  (∀ (l sid : Nat) (x : Scan) (s : State), l < 64 → (s.sl l).scan = some sid → s.scan? sid = some x → s.lanePaused l = false →
    ∃ u : State, exec (.scanRelease l) s = .next ((u.checkScan sid).serveFetch sid) ∧ (u.scan? sid).map (fun y => (y.buf, y.produced)) = some (x.buf ++ (s.sl l).held.take 4096, x.produced + ((s.sl l).held.take 4096).length) ∧
      (∀ k, k ≠ l → u.sl k = s.sl k) ∧ u = { s with srch := { s.srch with lanes := u.srch.lanes, scans := u.srch.scans } }) ∧
  (∀ (l : Nat) (s : State), l < 64 → ((s.sl l).scan = none ∨ s.lanePaused l = true ∨ (∃ k, (s.sl l).scan = some k ∧ s.scan? k = none)) → exec (.scanRelease l) s = .next s) ∧
  (∀ (c : Cmd) (x : Scan) (s : State), s.vendorFree 0x99 c = true → s.scan? (dw10 c % 65536) = some x → x.ctrl = c.id.ctrl → x.buf ≠ [] ∨ x.st ≠ 0 ∨ (dw11 c).testBit 16 = false →
    ∃ t, exec (.scanFetch c) s = .next t ∧ t.io.posted.getLast?.map (fun e => (e.id, e.st, e.dw0)) = some (c.id, .success, (x.buf.take (dw11 c % 65536)).length) ∧
      t = { s with srch := { s.srch with scans := t.srch.scans }, io := t.io, media := { s.media with reqs := t.media.reqs } }) ∧
  (∀ (c : Cmd) (x : Scan) (s : State), s.vendorFree 0x99 c = true → s.scan? (dw10 c % 65536) = some x → x.ctrl = c.id.ctrl → x.buf = [] → x.st = 0 → (dw11 c).testBit 16 = true →
    ∃ t, exec (.scanFetch c) s = .next t ∧ (t.scan? (dw10 c % 65536)).map (fun y => y.fetch) = some (x.fetch ++ [c]) ∧ t.io.posted = s.io.posted) ∧
  (∀ (c : Cmd) (s : State), (s.scan? (dw10 c % 65536)).all (fun x => x.ctrl ≠ c.id.ctrl) = true →
    (s.vendorFree 0x99 c = true → ∃ t, exec (.scanFetch c) s = .next t ∧ t.lastAnswer = some (c.id, .invalidField) ∧ t = { s with io := t.io, media := { s.media with reqs := t.media.reqs } }) ∧
    (s.vendorFree 0x9A c = true → ∃ t, exec (.scanCancel c) s = .next t ∧ t.lastAnswer = some (c.id, .invalidField) ∧ t = { s with io := t.io, media := { s.media with reqs := t.media.reqs } })) ∧
  (∀ (id : CmdId) (c : Cmd) (x : Scan) (s : State), s.srch.scans.find? (fun x => x.fetch.any (fun d => d.id = id)) = some x → x.fetch.find? (fun d => d.id = id) = some c →
    exec (.scanFetchWaitExpiry id) s = .next (s.answerFetch x.sid c)) ∧
  (∀ (c : Cmd) (x : Scan) (s : State), s.srch.scans.find? (fun x => x.fetch.any (fun d => d.id = c.id)) = some x → x.fetch.find? (fun d => d.id = c.id) = some c → s.scan? x.sid = some x →
    (s.flight? c.id).any (fun f => f.stage = .started && f.refs.isEmpty) = true →
    ∃ t, exec (.scanFetchWaitExpiry c.id) s = .next t ∧ t.lastAnswer = some (c.id, .success) ∧ t = { s with srch := { s.srch with scans := t.srch.scans }, io := t.io, media := { s.media with reqs := t.media.reqs } }) ∧
  (∀ (id : CmdId) (s : State), (∀ x ∈ s.srch.scans, ∀ d ∈ x.fetch, d.id ≠ id) → exec (.scanFetchWaitExpiry id) s = .next s) ∧
  (∀ (c : Cmd) (x : Scan) (s : State), s.vendorFree 0x9A c = true → s.scan? (dw10 c % 65536) = some x → x.ctrl = c.id.ctrl → x.fetch = [] →
    ∃ t, exec (.scanCancel c) s = .next t ∧ t.scan? (dw10 c % 65536) = none ∧ (∀ l, (t.sl l).scan ≠ some (dw10 c % 65536)) ∧ t.io.posted.getLast?.map (fun e => (e.id, e.st, e.dw0)) = some (c.id, .success, x.buf.length + ((s.lanesOf (dw10 c % 65536)).map (fun l => (s.sl l).held.length)).sum) ∧
      t = { s with srch := { s.srch with scans := t.srch.scans, lanes := t.srch.lanes }, gbk := t.gbk, dw := { s.dw with cnt := t.dw.cnt }, io := t.io, media := { s.media with reqs := t.media.reqs } }) ∧
  (∀ (k : Nat) (x : Scan) (s : State), s.scan? k = some x → x.st ≠ 0 →
    ∃ t, exec (.scanExpiry k) s = .next t ∧ t.scan? k = none ∧ (∀ j, j ≠ k → t.scan? j = s.scan? j) ∧ t = { s with srch := { s.srch with scans := t.srch.scans } }) ∧
  (∀ (k : Nat) (s : State), (s.scan? k).all (fun x => x.st = 0) = true → exec (.scanExpiry k) s = .next s)

/-- From a ready Manager controller, with no trial and no activation: a download of blocks with good trailers programs each at its place in the inactive slot; one at offset 0 first erases the rest of that bank and opens the download. A commit that no check of R432 refuses is answered, and with activation at the next start notes the slot as PENDING; activation now begins its staging and is answered when the pause ends. The pause makes the new slot the running one, on trial, its boot record durable; its end answers the command, does what the pause put off and lets commands run. FIRMWARE_CONFIRM ends the trial. A download or commit that fails a check is refused by the first that fails; without an activation the pause and its end do nothing. Whether an image's hashes and signature hold is left open (log entry 2), so the clauses on a new image say what follows when they do. (derived: R304, R429, R430, R431, R432, R434, R436, R441) -/
def Obligations.FirmwareIsDownloadedCommittedAndActivated : Prop :=
  (∀ (c : Cmd) (first n : Nat) (s : State), s.readyFor true c = true → s.fw.trial = false → s.fw.activating = none → 4 * (dw10 c + 1) = 65536 * n → 4 * dw11 c = 65536 * first → 1 ≤ first → first + n ≤ 192 →
    s.fw.download = true → (∀ e ∈ s.efl.words, e.2.written = true → e.1 < slotBase s.fw.inactive / 32 + 2048 * first ∨ slotBase s.fw.inactive / 32 + 2048 * (first + n) ≤ e.1) →
    (∀ k < n, leAt c.buf (65536 * k + 65504) 4 = first + k ∧ leAt c.buf (65536 * k + 65532) 4 = crc32c ((c.buf.drop (65536 * k)).take 65532)) →
    ∃ t, exec (.firmwareImageDownload c) s = .next t ∧ t.lastAnswer = some (c.id, .success) ∧
      (∀ k < n, ∀ i < 2048, t.fword (slotBase s.fw.inactive / 32 + 2048 * (first + k) + i) = { written := true, data := BitVec.ofNat 256 (leAt c.buf (65536 * k + 32 * i) 32) }) ∧
      (∀ w, w < slotBase s.fw.inactive / 32 + 2048 * first ∨ slotBase s.fw.inactive / 32 + 2048 * (first + n) ≤ w → t.fword w = s.fword w) ∧ t = { s with efl := { s.efl with words := t.efl.words }, io := t.io }) ∧
  (∀ (c : Cmd) (n : Nat) (s : State), s.readyFor true c = true → s.fw.trial = false → s.fw.activating = none → 4 * (dw10 c + 1) = 65536 * n → dw11 c = 0 → n ≤ 192 →
    (∀ k < n, leAt c.buf (65536 * k + 65504) 4 = k ∧ leAt c.buf (65536 * k + 65532) 4 = crc32c ((c.buf.drop (65536 * k)).take 65532)) →
    ∃ t, exec (.firmwareImageDownload c) s = .next t ∧ t.lastAnswer = some (c.id, .success) ∧ t.fw.download = true ∧
      (∀ k < n, ∀ i < 2048, t.fword (slotBase s.fw.inactive / 32 + 2048 * k + i) = { written := true, data := BitVec.ofNat 256 (leAt c.buf (65536 * k + 32 * i) 32) }) ∧
      (∀ w, slotBase s.fw.inactive / 32 + 2048 * n ≤ w → w < slotBase s.fw.inactive / 32 + 393216 → t.fword w = {}) ∧
      (∀ w, w < slotBase s.fw.inactive / 32 ∨ slotBase s.fw.inactive / 32 + 393216 ≤ w → t.fword w = s.fword w) ∧
      t = { s with efl := t.efl, fw := { s.fw with download := true, bootRec := t.fw.bootRec }, gbk := t.gbk, dw := { s.dw with cnt := t.dw.cnt }, io := t.io }) ∧
  (∀ (c : Cmd) (s : State), s.readyFor true c = true →
    (s.fw.trial = true ∨ s.fw.activating ≠ none → exec (.firmwareImageDownload c) s = .next (s.refuse c .seqError)) ∧
    (s.fw.trial = false → s.fw.activating = none → 4 * (dw10 c + 1) % 65536 ≠ 0 ∨ 4 * dw11 c % 65536 ≠ 0 ∨ 192 < 4 * dw11 c / 65536 + 4 * (dw10 c + 1) / 65536 →
      exec (.firmwareImageDownload c) s = .next (s.refuse c .invalidField))) ∧
  (∀ (c : Cmd) (first n : Nat) (s : State), s.readyFor true c = true → s.fw.trial = false → s.fw.activating = none → 4 * (dw10 c + 1) = 65536 * n → 4 * dw11 c = 65536 * first → 1 ≤ first → first + n ≤ 192 →
    (s.fw.download = false → exec (.firmwareImageDownload c) s = .next (s.refuse c .seqError)) ∧
    (s.fw.download = true → (∃ e ∈ s.efl.words, e.2.written = true ∧ slotBase s.fw.inactive / 32 + 2048 * first ≤ e.1 ∧ e.1 < slotBase s.fw.inactive / 32 + 2048 * (first + n)) →
      exec (.firmwareImageDownload c) s = .next (s.refuse c .overlap)) ∧
    (s.fw.download = true → (∀ e ∈ s.efl.words, e.2.written = true → e.1 < slotBase s.fw.inactive / 32 + 2048 * first ∨ slotBase s.fw.inactive / 32 + 2048 * (first + n) ≤ e.1) →
      exec (.firmwareImageDownload c) s = .next (s.downloadBlocks { c with bufLen := 65536 * n } (slotBase s.fw.inactive) first n))) ∧
  (∀ (c : Cmd) (base first n : Nat) (s : State), c.bufLen = 65536 * (n + 1) →
    (leAt c.buf 65504 4 ≠ first ∨ leAt (c.buf.take 65536) 65532 4 ≠ crc32c ((c.buf.take 65536).take 65532) → s.downloadBlocks c base first (n + 1) = s.refuse c .invalidField)) ∧
  (∀ (c : Cmd) (s : State), s.readyFor true c = true → dw10 c = 0x10 + s.fw.running → 1 ≤ s.fw.running → s.fw.running ≤ 2 → s.fw.activating = none →
    ∃ t, exec (.activateNext c) s = .next t ∧ t.fw.bootRec.map BootRec.pending = some 0 ∧ t.fw.bootRec.map BootRec.active = some s.fw.running ∧ t.lastAnswer = some (c.id, .success) ∧
      t = { s with fw := { s.fw with download := false, bootRec := t.fw.bootRec }, gbk := t.gbk, dw := { s.dw with cnt := t.dw.cnt }, io := t.io }) ∧
  (∀ (c : Cmd) (k : Nat) (s : State), s.readyFor true c = true → k = s.fw.inactive → s.fw.running = 1 ∨ s.fw.running = 2 → s.fw.activating = none → s.fw.trial = false → s.media.sanitize = none →
    (s.slotReason k = 0 → s.imgSetFmtMin k ≤ s.fw.setFmt → s.incompatible k = none →
      (dw10 c = k → ∃ t, exec (.replace c) s = .next t ∧ t.lastAnswer = some (c.id, .success) ∧ t.fw.bootRec = s.fw.bootRec ∧ t.fw.download = false) ∧
      (dw10 c = 8 + k → ∃ t, exec (.replaceActivateNext c) s = .next t ∧ t.lastAnswer = some (c.id, .success) ∧ t.fw.bootRec.map BootRec.pending = some k ∧
        t.fw.bootRec.map BootRec.active = some s.fw.running) ∧
      (dw10 c = 24 + k → ∃ t, exec (.replaceActivateNow c) s = .next t ∧ t.fw.activating = some c.id ∧ t.fw.running = s.fw.running ∧ t.io = s.io)) ∧
    (s.slotReason k ≠ 0 → dw10 c = k → ∃ t, exec (.replace c) s = .next t ∧ t.lastAnswer = some (c.id, .fwImage) ∧ t = { s with io := t.io })) ∧
  (∀ (c : Cmd) (ca : Nat) (i : Instr) (s : State), s.readyFor true c = true → (ca, i) ∈ [(0, Instr.replace c), (1, .replaceActivateNext c), (2, .activateNext c), (3, .replaceActivateNow c)] →
    (field (dw10 c) 5 3 ≠ ca ∨ 2 < fsOf s c ∨ 64 ≤ dw10 c → exec i s = .next (s.refuse c .invalidField)) ∧
    (field (dw10 c) 5 3 = ca → fsOf s c ≤ 2 → dw10 c < 64 → ∀ st, (s.commitRefusal ca (fsOf s c) = some (st, none) → exec i s = .next (s.refuse c st)) ∧
      (∀ a b, s.commitRefusal ca (fsOf s c) = some (st, some (a, b)) → exec i s = .next ((if a = 3 then s.log 0x0217 [fsOf s c, a, b] else s).refuse c st)))) ∧
  (∀ (c : Cmd) (u s : State), s.readyFor true c = true → fsOf s c ≤ 2 → dw10 c < 64 → s.commitRefusal (field (dw10 c) 5 3) (fsOf s c) = none →
    u = ({ s with fw := { s.fw with download := false } } : State).log 0x0211 [fsOf s c, field (dw10 c) 5 3, if fsOf s c = s.fw.running then s.fw.version else s.imgVersion (fsOf s c)] →
    (field (dw10 c) 5 3 = 0 → exec (.replace c) s = .next (u.post c.id .success)) ∧
    (field (dw10 c) 5 3 = 1 → exec (.replaceActivateNext c) s = .next ((u.writeBoot (fun b => { b with active := s.fw.running, pending := fsOf s c })).post c.id .success)) ∧
    (field (dw10 c) 5 3 = 2 → exec (.activateNext c) s = .next ((u.writeBoot (fun b => { b with active := s.fw.running, pending := if fsOf s c = s.fw.running then 0 else fsOf s c })).post c.id .success)) ∧
    (field (dw10 c) 5 3 = 3 → exec (.replaceActivateNow c) s = .next { u with fw := { u.fw with activating := some c.id, oldVer := s.fw.version } })) ∧
  (∀ (id : CmdId) (s : State), s.pwr.phase = .run → s.fw.activating = some id → s.io.paused = false →
    ∃ t, exec .activationPause s = .next t ∧ t.io.paused = true ∧ t.fw.running = s.fw.inactive ∧ t.fw.trial = true ∧ t.fw.version = s.imgVersion s.fw.inactive ∧
      t.fw.bootRec.map (fun b => (b.active, b.previous, b.pending, b.trial, b.fails)) = some (s.fw.inactive, s.fw.running, 0, true, 1) ∧
      t = { s with fw := t.fw, io := { s.io with paused := true } }) ∧
  (∀ s : State, (s.pwr.phase ≠ .run ∨ s.fw.activating = none ∨ s.io.paused = true → exec .activationPause s = .next s) ∧ (s.fw.activating = none ∨ s.io.paused = false → exec .pauseEnd s = .next s)) ∧
  (∀ (id : CmdId) (s : State), s.fw.activating = some id → s.io.paused = true → s.io.deferred = [] → s.io.heldConnects = [] → s.io.flights = [] →
    ∃ u : State, exec .pauseEnd s = .next u.newTable ∧ u.io.paused = false ∧ u.fw.activating = none ∧ u.lastAnswer = some (id, .success) ∧
      u = { s with fw := { s.fw with activating := none }, io := u.io, gbk := u.gbk, dw := { s.dw with cnt := u.dw.cnt }, free := u.free }) ∧
  (∀ (id : CmdId) (u s : State), s.fw.activating = some id → s.io.paused = true →
    u = ((({ s with io := { s.io with paused := false, deferred := [] }, fw := { s.fw with activating := none } } : State).log 0x0213 [s.fw.running, s.fw.oldVer, s.fw.version, s.freeVal]).took).post id .success →
    ∃ v : State, v = (u.each s.io.deferred State.doLater).serveHeld ∧ exec .pauseEnd s = .next (v.each v.waitingIds State.resume).newTable) ∧
  (∀ (c : Cmd) (s : State), s.readyFor true c = true → dw11 c = 1 → s.fw.trial = true →
    ∃ t, exec (.firmwareConfirm c) s = .next t ∧ t.fw.trial = false ∧ t.fw.fails = 0 ∧ t.fw.bootRec.map (fun b => (b.active, b.previous, b.trial, b.fails)) = some (s.fw.running, 0, false, 0) ∧
      t.lastAnswer = some (c.id, .success) ∧ t = { s with fw := t.fw, gbk := t.gbk, dw := { s.dw with cnt := t.dw.cnt }, io := t.io }) ∧
  (∀ (c : Cmd) (s : State), s.readyFor true c = true → dw11 c = 1 → s.fw.trial = false →
    ∃ t, exec (.firmwareConfirm c) s = .next t ∧ t.lastAnswer = some (c.id, .seqError) ∧ t = { s with io := t.io }) ∧
  (∀ (c : Cmd) (s : State), s.readyFor false c = true → s.isManager c.id.ctrl = false ∨ dw11 c ≠ 1 → exec (.firmwareConfirm c) s = .next (s.refuse c .invalidField))

/-- While firmware serves it, a request on the SMBus port, or on the in-band port with the link up, is answered: the controller list names the controllers that exist; data structures and health polls are answered with success; the configuration reads return the frequency and the transmission unit, and a write sets one of the values R273 names. A tunnelled command to an existing controller is that command with the tunnel's mark; an opcode that the tunnel does not carry is refused. Message layouts and status numbers are NVMe-MI's (the model's choice, log entry 15). A request with other values is answered Invalid Parameter, and on a port that is not heard nothing happens. (derived: R273, R439, R476) -/
def Obligations.ManagementEndpointAnswers : Prop :=
  (∀ (port ident : Nat) (s : State), s.miHears port = true →
    ∃ t, exec (.readNvmeMiDataStructure port 2 ident) s = .next t ∧ t.host.miOut = (0, toLe 2 (s.miCtrls ident).length ++ ((s.miCtrls ident).take 2047).flatMap (toLe 2)) ∧
      t = { s with host := { s.host with miOut := t.host.miOut } }) ∧
  (∀ (port ident dtype : Nat) (s : State), s.miHears port = true → dtype = 0 ∨ (dtype = 1 ∧ ident < 2) ∨ (dtype = 3 ∧ (s.ctrl ident).exist = true) ∨ dtype = 4 →
    ∃ t, exec (.readNvmeMiDataStructure port dtype ident) s = .next t ∧ t.host.miOut.1 = 0 ∧ t.host.miOut.2.length = (if dtype = 4 then 4096 else 32) ∧
      t = { s with host := { s.host with miOut := t.host.miOut }, free := t.free }) ∧
  (∀ (port : Nat) (clear : Bool) (s : State), s.miHears port = true →
    ∃ t, exec (.nvmSubsystemHealthStatusPoll port clear) s = .next t ∧ t.host.miOut.1 = 0 ∧ t.host.miOut.2.length = 8 ∧ t = { s with host := { s.host with miOut := t.host.miOut }, free := t.free }) ∧
  (∀ (port start : Nat) (s : State), s.miHears port = true →
    ∃ t, exec (.controllerHealthStatusPoll port start) s = .next t ∧ t.host.miOut.1 = 0 ∧ t.host.miOut.2.length = 16 * min 255 (s.miCtrls start).length ∧
      t = { s with host := { s.host with miOut := t.host.miOut }, free := t.free }) ∧
  (∀ (port : Nat) (s : State), s.miHears port = true →
    exec (.configurationGet port 1) s = .next (s.miSay 0 (toLe 3 s.host.smbusHz)) ∧ exec (.configurationGet port 3) s = .next (s.miSay 0 (toLe 3 s.host.mctpMtu))) ∧
  (∀ (port v : Nat) (s : State), s.miHears port = true → v = 1 ∨ v = 2 →
    ∃ t, exec (.configurationSet port 1 v) s = .next t ∧ t.host.smbusHz = v ∧ t.host.miOut = (0, []) ∧ t = { s with host := { s.host with smbusHz := v, miOut := (0, []) } }) ∧
  (∀ (port v : Nat) (s : State), s.miHears port = true →
    exec (.configurationSet port 3 64) s = .next (({ s with host := { s.host with mctpMtu := 64 } } : State).miSay 0 []) ∧
    (v ≠ 1 → v ≠ 2 → exec (.configurationSet port 1 v) s = .next (s.miSay miInvalid [])) ∧ (v ≠ 64 → exec (.configurationSet port 3 v) s = .next (s.miSay miInvalid [])) ∧
    (v ≠ 1 → v ≠ 3 → exec (.configurationGet port v) s = .next (s.miSay miInvalid []) ∧ ∀ w, exec (.configurationSet port v w) s = .next (s.miSay miInvalid []))) ∧
  (∀ (port dtype ident : Nat) (s : State), s.miHears port = true → (dtype = 1 ∧ 2 ≤ ident) ∨ (dtype = 3 ∧ (s.ctrl ident).exist = false) ∨ 4 < dtype →
    exec (.readNvmeMiDataStructure port dtype ident) s = .next (s.miSay miInvalid [])) ∧
  (∀ (port : Nat) (c : Cmd) (s : State), s.miHears port = true → c.buf.length ≤ 4152 → (s.ctrl c.id.ctrl).exist = true →
    exec (.nvmeAdminCommandTunnel port 0x02 c) s = exec (.getLogPage { c with viaMI := true }) s ∧ exec (.nvmeAdminCommandTunnel port 0x06 c) s = exec (.identify { c with viaMI := true }) s ∧
    exec (.nvmeAdminCommandTunnel port 0x09 c) s = exec (.setFeatures { c with viaMI := true }) s ∧ exec (.nvmeAdminCommandTunnel port 0x0A c) s = exec (.getFeatures { c with viaMI := true }) s ∧
    exec (.nvmeAdminCommandTunnel port 0x11 c) s = exec (.firmwareImageDownload { c with viaMI := true }) s ∧
    exec (.nvmeAdminCommandTunnel port 0xC8 c) s = exec (.guestbookRead { c with viaMI := true }) s ∧ exec (.nvmeAdminCommandTunnel port 0xD0 c) s = exec (.deviceWindowAccess { c with viaMI := true }) s ∧
    (∀ ca i, (ca, i) ∈ [(0, Instr.replace { c with viaMI := true }), (1, .replaceActivateNext { c with viaMI := true }), (2, .activateNext { c with viaMI := true }), (3, .replaceActivateNow { c with viaMI := true })] →
      field (dw10 c) 5 3 = ca → exec (.nvmeAdminCommandTunnel port 0x10 c) s = exec i s) ∧
    (∀ a i, (a, i) ∈ [(0, Instr.drain { c with viaMI := true }), (1, .undrain { c with viaMI := true }), (2, .seqUpdate { c with viaMI := true }), (3, .powerOff { c with viaMI := true }), (4, .powerOn { c with viaMI := true }),
      (5, .release { c with viaMI := true })] → field (dw10 c) 11 8 = a → exec (.nvmeAdminCommandTunnel port 0xC4 c) s = exec i s) ∧
    (dw10 c % 16 = 0 → exec (.nvmeAdminCommandTunnel port 0xC9 c) s = exec (.nonce { c with viaMI := true }) s) ∧
    (dw10 c % 16 = 1 → ∃ ok, exec (.nvmeAdminCommandTunnel port 0xC9 c) s = exec (.clear { c with viaMI := true } ok) s.took) ∧
    (dw10 c % 16 = 2 → ∃ ok on, exec (.nvmeAdminCommandTunnel port 0xC9 c) s = exec (.ownerSet { c with viaMI := true } ok on) s.took)) ∧
  (∀ (port : Nat) (c : Cmd) (s : State), s.miHears port = true → c.buf.length ≤ 4152 → s.readyFor false { c with viaMI := true } = true → dw10 c % 256 = 0x03 → (s.ctrl c.id.ctrl).kind ≠ .discovery →
    ∃ t, exec (.nvmeAdminCommandTunnel port 0x02 c) s = .next t ∧ t.lastAnswer = some (c.id, .success) ∧ t = { s with io := t.io }) ∧
  (∀ (port op : Nat) (c : Cmd) (s : State), s.miHears port = true → c.buf.length ≤ 4152 → (s.ctrl c.id.ctrl).exist = true → op ∉ [0x02, 0x06, 0x09, 0x0A, 0x10, 0x11, 0xC4, 0xC8, 0xC9, 0xD0] →
    ∃ t, exec (.nvmeAdminCommandTunnel port op c) s = .next t ∧ t.lastAnswer = some (c.id, .invalidOpcode) ∧ t = { s with io := t.io }) ∧
  (∀ (port op : Nat) (c : Cmd) (s : State), s.miHears port = true → 4152 < c.buf.length ∨ (s.ctrl c.id.ctrl).exist = false → exec (.nvmeAdminCommandTunnel port op c) s = .next (s.miSay miInvalid [])) ∧
  (∀ s : State, s.miHears 0 = true →
    ∃ t, exec (.basicManagementCommand 0) s = .next t ∧ t.host.miOut.1 = 0 ∧ t.host.miOut.2.length = 8 ∧ t = { s with host := { s.host with miOut := t.host.miOut }, free := t.free }) ∧
  (∀ (code : Nat) (s : State), s.miHears 0 = true → code ≠ 0 → ∃ t, exec (.basicManagementCommand code) s = .next t ∧ t.host.miOut.2.length = (if code = 8 then 24 else 0) ∧ t.host.miOut.1 = (if code = 8 then 0 else miInvalid) ∧
    t = { s with host := { s.host with miOut := t.host.miOut }, free := t.free }) ∧
  (∀ (port a b op : Nat) (cl : Bool) (c : Cmd) (i : Instr) (s : State), s.miHears port = false → i ∈ [Instr.readNvmeMiDataStructure port a b, .nvmSubsystemHealthStatusPoll port cl, .controllerHealthStatusPoll port a, .configurationGet port a,
      .configurationSet port a b, .nvmeAdminCommandTunnel port op c] → exec i s = .next s) ∧
  (∀ (code : Nat) (s : State), s.miHears 0 = false → exec (.basicManagementCommand code) s = .next s)

/-- Where an aligned read of the dword of an ST field reaches it through a path (which has latched no high half there), it returns the field's value in force, whatever the shadow holds or whether a set is armed, and changes nothing else. (stated: R19) -/
def Obligations.ReadsOfAnStFieldReturnTheValueInForce : Prop :=
  ∀ (p : Path) (off : Nat) (s : State), s.reach p off = .ok → isStOffset off = true → s.dw.latch.get zeroCell (latchKey p off) = 0 →
    ∃ t, exec (.dwClearingRead p off 4) s = .next t ∧ t.dw.rdata = toLe 4 (s.inf off) ∧ t = { s with dw := { s.dw with rdata := t.dw.rdata } }

/-- A command that a controller takes and that passes authentication: on the UX6416 every form of Key Lookup, Key Next, Key Insert and Key Delete, and on the UX6432 and the UX6416 Scan Start, Scan Fetch, Scan Cancel, Pattern Image Load (any piece) and Pattern Image Unload, are answered with Invalid Command Opcode and change nothing else. (stated: R3) -/
def Obligations.AbsentUnitsRefuseTheirOpcodes : Prop :=
  (∀ (c : Cmd) (i : Instr) (s : State), s.readyFor false c = true → s.part = .ux6416 →
    i ∈ [Instr.keyNext c, .keyInsert c, .keyDelete c] ++ (if lookForm c = 0 then [.keyLookupShort c] else if lookForm c = 1 then [.keyLookupLong c] else if lookForm c = 2 then [.keyLookupBatch c]
      else [.keyLookupShort c, .keyLookupLong c, .keyLookupBatch c]) →
    ∃ t, exec i s = .next t ∧ t.lastAnswer = some (c.id, .invalidOpcode) ∧ t = { s with io := t.io }) ∧
  (∀ (c : Cmd) (ok : Bool) (i : Instr) (s : State), s.readyFor false c = true → s.part = .ux6416 ∨ s.part = .ux6432 →
    i ∈ [Instr.scanStart c, .scanFetch c, .scanCancel c, .patternImageLoad c, .patternImageLoadFinal c ok, .patternImageUnload c] →
    ∃ t, exec i s = .next t ∧ t.lastAnswer = some (c.id, .invalidOpcode) ∧ t = { s with io := t.io })

/-- The locations of the CART blocks of slots the part lacks, of the HOST and GROUP blocks of groups it lacks, and of the search complex and scan lane owners it lacks are absent. Where the device window answers a path, an absent location reads as zeros, and a write there, a shadow write too, changes nothing at all: so a staged field written there is never armed. (stated: R6) -/
def Obligations.AbsentLocationsReadZeroAndIgnoreWrites : Prop :=
  (∀ (p : Path) (off : Nat) (v : Word) (s : State), s.ctlOn = true → (s.pwr.phase = .rescue ∧ p = .bar2) ∨ (s.pwr.phase ≠ .rescue ∧ (p ≠ .bar2 ∨ s.isManager 0 = true)) → off % 4 = 0 → s.locPresent off = false →
    exec (.dwRegisterWrite p off 4 v) s = .next s ∧ exec (.shadowWrite p off v) s = .next s ∧
    ∃ t, exec (.dwClearingRead p off 4) s = .next t ∧ t.dw.rdata = [0, 0, 0, 0] ∧ t = { s with dw := { s.dw with rdata := [0, 0, 0, 0] } }) ∧
  (∀ (n o : Nat) (s : State), s.part.slots ≤ n → n < 64 → o < 0x1000 → s.locPresent (dwCART n + o) = false) ∧
  (∀ (g i o : Nat) (s : State), s.part.groups ≤ g → g < 4 → i < 16 → o < 0x1000 → s.locPresent (dwPORT (16 * g + i) + o) = false ∧ s.locPresent (dwGROUP g + o) = false) ∧
  (∀ (o : Nat) (s : State), s.part = .ux6416 → 4 ≤ o → o < 0x100000 → s.locPresent (dwSRCH + o) = false) ∧
  (∀ (l : Nat) (s : State), s.part = .ux6432 → l < 64 → s.locPresent (stLaneOwner l) = false)

/-- An entry matches a search key exactly when it is valid and the key AND its MASK is its KEY. The entry that Key Insert stores is valid, its MASK and KEY AND MASK come from the buffer (bit i of a key is bit i mod 8 of its byte floor(i / 8)), with a PRIO of 16 bits and a RESULT of 64; it matches a key exactly when they agree in every bit whose MASK bit is 1, so an all-zero MASK matches every key. Bit i of a lookup's key is bit i mod 8 of byte floor(i / 8) of Dwords 10 to 15, and of a batch's key that bit of its record. (stated: R346) -/
def Obligations.KeysMatchUnderTheirMask : Prop :=
  (∀ (e : TEnt) (k : BitVec 192), e.hits k = true ↔ e.valid = true ∧ k &&& e.mask = e.key) ∧
  (∀ (c : Cmd) (i : Nat), i < 192 → (entOf c).mask.getLsbD i = ((c.buf[24 + i / 8]?).getD 0).getLsbD (i % 8) ∧
    (entOf c).key.getLsbD i = (((c.buf[i / 8]?).getD 0).getLsbD (i % 8) && (entOf c).mask.getLsbD i)) ∧
  (∀ c : Cmd, (entOf c).valid = true ∧ (entOf c).prio = leAt c.buf 48 2 ∧ (entOf c).prio < 2 ^ 16 ∧ (entOf c).result = leAt c.buf 56 8 ∧ (entOf c).result < 2 ^ 64) ∧
  (∀ (c : Cmd) (k : BitVec 192), (entOf c).hits k = true ↔ ∀ i < 192, (entOf c).mask.getLsbD i = true → k.getLsbD i = ((c.buf[i / 8]?).getD 0).getLsbD (i % 8)) ∧
  (∀ (c : Cmd) (k : BitVec 192), (entOf c).mask = 0 → (entOf c).hits k = true) ∧
  (∀ (c : Cmd) (i : Nat), i < 192 → (lookKey c).getLsbD i = (((toLe 4 (dw10 c) ++ toLe 4 (dw11 c) ++ toLe 4 (dw12 c) ++ toLe 4 (dw13 c) ++ toLe 4 (dw14 c) ++ toLe 4 (dw15 c))[i / 8]?).getD 0).getLsbD (i % 8)) ∧
  (∀ (c : Cmd) (n i : Nat), n < dw10 c → i < 192 → ((batchKeys c)[n]?).map (fun k => k.getLsbD i) = some (((c.buf[32 * n + i / 8]?).getD 0).getLsbD (i % 8)))

/-- For a table with each row once: the matches of a search are the matching entries of the named banks, each once, in the order PRIO descending, then bank ascending, then index ascending, so that the first, whose RESULT, PRIO, BANK and INDEX the response holds, is the winner. A step of Key Next takes up after the position of a match exactly those that follow it in that order. MULTI is set exactly when there is more than one, TIE exactly when another has the winner's PRIO. (stated: R347) -/
def Obligations.TheWinnerHasTheLargestPriority : Prop :=
  (∀ (x : Srch) (banks : Nat) (k : BitVec 192) (h : Nat × TEnt), x.tcam.wf tent0 = true → (h ∈ x.rawHits banks k ↔ h ∈ x.tcam ∧ banks.testBit (h.1 / 16384) = true ∧ h.2.hits k = true)) ∧
  (∀ (x : Srch) (banks : Nat) (k : BitVec 192), x.tcam.wf tent0 = true → (x.rawHits banks k).Pairwise (fun g h => h.2.prio < g.2.prio ∨
    (h.2.prio = g.2.prio ∧ (g.1 / 16384 < h.1 / 16384 ∨ (g.1 / 16384 = h.1 / 16384 ∧ g.1 % 16384 < h.1 % 16384))))) ∧
  (∀ (x : Srch) (banks : Nat) (k : BitVec 192) (a b : List (Nat × TEnt)) (h : Nat × TEnt), x.tcam.wf tent0 = true → x.rawHits banks k = a ++ h :: b →
    (x.rawHits banks k).filter (afterPos (h.2.prio, h.1 / 16384, h.1 % 16384)) = b) ∧
  (∀ (h : Nat × TEnt) (l : List (Nat × TEnt)) (nc fh : Bool), ((respFlags (h :: l) nc fh).testBit 0 = true ↔ l ≠ []) ∧ ((respFlags (h :: l) nc fh).testBit 1 = true ↔ ∃ g ∈ l, g.2.prio = h.2.prio) ∧
    leAt (respShort (h :: l) nc fh) 0 8 = h.2.result % 2 ^ 64 ∧ leAt (respShort (h :: l) nc fh) 8 2 = h.2.prio % 2 ^ 16 ∧ leAt (respShort (h :: l) nc fh) 10 1 = h.1 / 16384 % 256 ∧
    leAt (respShort (h :: l) nc fh) 11 1 = respFlags (h :: l) nc fh ∧ leAt (respShort (h :: l) nc fh) 12 2 = h.1 % 16384)

/-- Whatever order the matches of one end offset are found in, they stand by PRIO descending and then by pattern id ascending. With ALL = 0 one record names the first, with MULTI exactly when others matched and TIE exactly when one of them has its PRIO. With ALL = 1 there is one record for each match in that order, the first with those flags and bit 2 clear, all others with bit 2 of FLAGS set. (stated: R369) -/
def Obligations.RecordsOfOneEndAreOrdered : Prop :=
  (∀ (e : Nat) (ms : List Match), (∀ m ∈ ms, m.endOff = e) → (ms.map (fun m => m.pattern)).Nodup →
    (ms.foldl (fun l m => insMatch m l) []).Perm ms ∧
    (ms.foldl (fun l m => insMatch m l) []).Pairwise (fun m n => n.prio < m.prio ∨ (n.prio = m.prio ∧ m.pattern < n.pattern))) ∧
  (∀ (m : Match) (l : List Match), ∃ r, recsAt false (m :: l) = [r] ∧ r.pattern = m.pattern ∧ r.prio = m.prio ∧ r.end_ = m.endOff ∧ r.typ = 0 ∧ r.count = l.length + 1 ∧
    (r.flags.testBit 0 = true ↔ l ≠ []) ∧ (r.flags.testBit 1 = true ↔ ∃ n ∈ l, n.prio = m.prio) ∧ r.flags.testBit 2 = false) ∧
  (∀ (m : Match) (l : List Match), ∃ r rs, recsAt true (m :: l) = r :: rs ∧ recsAt false (m :: l) = [r] ∧ rs.map (fun x => (x.pattern, x.prio, x.end_)) = l.map (fun x => (x.pattern, x.prio, x.endOff)) ∧
    ∀ x ∈ rs, x.flags.testBit 2 = true)

/-- A read of a word of a bank that is not busy returns all ones where the word is erased or torn, and the data where it is written, also when ECC corrects it. The end of READ_MARKERS shows for each of its 32 words the marker, set exactly where the word is written, and whether a word with a clear marker is torn; an erased word has both clear. (stated: R407) -/
def Obligations.FlashWordsReadByTheirState : Prop :=
  (∀ (p : Path) (v : Word) (e : EccOutcome) (s : State), s.reach p (dwEFL + 0x40) = .ok → s.efl.busy = none → e ≠ .uncorrectable →
    ∃ t, exec (.flashRead p v e) s = .next t ∧ t.efl.rdValid = true ∧
      ((s.fword (v.toNat % 2 ^ 25 / 32)).written = false → t.efl.rdData = BitVec.allOnes 256) ∧
      ((s.fword (v.toNat % 2 ^ 25 / 32)).written = true → t.efl.rdData = (s.fword (v.toNat % 2 ^ 25 / 32)).data) ∧ t.efl.words = s.efl.words) ∧
  (∀ (p : Path) (v : Word) (s : State), s.reach p (dwEFL + 0x40) = .ok → s.efl.busy = none → (s.fword (v.toNat % 2 ^ 25 / 32)).written = false →
    ∃ t, exec (.flashRead p v .uncorrectable) s = .next t ∧ t.efl.rdData = BitVec.allOnes 256) ∧
  (∀ (o : FlashOp) (i : Nat) (ok : Bool) (s : State), s.efl.busy = some o → o.op = 4 → i < 32 →
    ∃ t, exec (.flashOpDone ok) s = .next t ∧ t.efl.markSet.testBit i = (s.fword (o.addr / 32 + i)).written ∧ t.efl.markTorn.testBit i = (s.fword (o.addr / 32 + i)).torn ∧ t.efl.words = s.efl.words)

/-- When CLEAR_ERASE_FLAG ends over a sector of which every word is erased (none written, none torn), that sector's erase flag is clear and every other as it was. Where some word is not erased, ERR_NOT_ERASED is raised and every flag is as it was, its own too. No word changes. (stated: R418) -/
def Obligations.ClearEraseFlagClearsOnlyABlankSectorsFlag : Prop :=
  (∀ (o : FlashOp) (ok : Bool) (s : State), s.efl.busy = some o → o.op = 5 → s.efl.words.wf fword0 = true → (∀ w, w / 2048 = flSector o.addr → (s.fword w).written = false ∧ (s.fword w).torn = false) →
    ∃ t, exec (.flashOpDone ok) s = .next t ∧ flSector o.addr ∉ t.efl.eflags ∧ (∀ k, k ≠ flSector o.addr → (k ∈ t.efl.eflags ↔ k ∈ s.efl.eflags)) ∧ t.efl.words = s.efl.words) ∧
  (∀ (o : FlashOp) (w : Nat) (ok : Bool) (s : State), s.efl.busy = some o → o.op = 5 → w / 2048 = flSector o.addr → (s.fword w).written = true ∨ (s.fword w).torn = true →
    ∃ t, exec (.flashOpDone ok) s = .next t ∧ t.efl.eflags = s.efl.eflags ∧ (t.w1c (dwEFL + 0x30)).testBit flNOTERASED = true ∧ t.efl.words = s.efl.words)
end

