-- ==== Sys2Proof/Laws/Cells.lean ====
section
/-! SUPPORT. Laws of addressed state: read after write, and the canonical form. -/

namespace Sys2Proof.Machine

variable {α : Type} [DecidableEq α] (d : Nat → α)

omit [DecidableEq α] in
theorem Cells.get_ins_self (m : Cells α) (k : Nat) (v : α) : Cells.get d (m.ins k v) k = v := by
  induction m with
  | nil => simp [Cells.ins, Cells.get]
  | cons e m ih =>
    obtain ⟨k', w⟩ := e
    simp only [Cells.ins]
    split
    · simp [Cells.get]
    · split
      · simp [Cells.get]
      · rename_i h1 h2
        simp [Cells.get, Ne.symm h2, ih]

omit [DecidableEq α] in
theorem Cells.get_ins_other (m : Cells α) {k j : Nat} (v : α) (h : j ≠ k) : Cells.get d (m.ins k v) j = Cells.get d m j := by
  induction m with
  | nil => simp [Cells.ins, Cells.get, Ne.symm h]
  | cons e m ih =>
    obtain ⟨k', w⟩ := e
    simp only [Cells.ins]
    split
    · simp [Cells.get, Ne.symm h]
    · split
      · rename_i h1 h2
        subst h2
        simp [Cells.get, Ne.symm h]
      · simp only [Cells.get]
        split
        · rfl
        · exact ih

omit [DecidableEq α] in
theorem Cells.get_filter (m : Cells α) (p : Nat → Bool) (k : Nat) :
    Cells.get d (m.filter (fun e => p e.1)) k = if p k then Cells.get d m k else d k := by
  induction m with
  | nil => simp [Cells.get]
  | cons e m ih =>
    obtain ⟨k', w⟩ := e
    by_cases hk : k' = k
    · subst hk
      cases hp : p k' <;> simp [List.filter, hp, Cells.get, ih]
    · cases hp : p k' <;> simp [List.filter, hp, Cells.get, hk, ih]

/-- What is written is read. -/
@[simp] theorem Cells.get_put_self (m : Cells α) (k : Nat) (v : α) : Cells.get d (m.put d k v) k = v := by
  unfold Cells.put
  split
  · rename_i h
    have := Cells.get_filter d m (fun j => decide (j ≠ k)) k
    simp at this
    simpa [h] using this
  · exact Cells.get_ins_self d m k v

/-- A write leaves every other address alone. -/
theorem Cells.get_put_other (m : Cells α) {k j : Nat} (v : α) (h : j ≠ k) : Cells.get d (m.put d k v) j = Cells.get d m j := by
  unfold Cells.put
  split
  · have := Cells.get_filter d m (fun i => decide (i ≠ k)) j
    simpa [h] using this
  · exact Cells.get_ins_other d m v h

theorem Cells.get_put (m : Cells α) (k j : Nat) (v : α) :
    Cells.get d (m.put d k v) j = if j = k then v else Cells.get d m j := by
  split
  · rename_i h; subst h; simp
  · rename_i h; exact Cells.get_put_other d m v h

omit [DecidableEq α] in
@[simp] theorem Cells.get_nil (k : Nat) : Cells.get d ([] : Cells α) k = d k := rfl

/-! ## The canonical form -/

@[simp] theorem Cells.wf_nil : Cells.wf d ([] : Cells α) = true := rfl

theorem Cells.wfFrom_mono {lo lo' : Option Nat} {m : Cells α} (h : Cells.wfFrom d lo m = true)
    (hl : ∀ x ∈ lo', ∃ y ∈ lo, x ≤ y) : Cells.wfFrom d lo' m = true := by
  cases m with
  | nil => rfl
  | cons e m =>
    obtain ⟨k, v⟩ := e
    simp only [Cells.wfFrom, Bool.and_eq_true] at h ⊢
    refine ⟨⟨?_, h.1.2⟩, h.2⟩
    cases lo' with
    | none => rfl
    | some x =>
      obtain ⟨y, hy, hxy⟩ := hl x rfl
      have := h.1.1
      cases lo with
      | none => cases hy
      | some z =>
        cases hy
        simp at this ⊢
        omega

theorem Cells.wfFrom_filter {lo : Option Nat} {m : Cells α} (p : Nat × α → Bool) (h : Cells.wfFrom d lo m = true) :
    Cells.wfFrom d lo (m.filter p) = true := by
  induction m generalizing lo with
  | nil => rfl
  | cons e m ih =>
    obtain ⟨k, v⟩ := e
    simp only [Cells.wfFrom, Bool.and_eq_true] at h
    cases hp : p (k, v) with
    | true => simp only [List.filter, hp, Cells.wfFrom, Bool.and_eq_true]; exact ⟨h.1, ih h.2⟩
    | false =>
      simp only [List.filter, hp]
      refine Cells.wfFrom_mono d (ih h.2) ?_
      intro x hx
      refine ⟨k, rfl, ?_⟩
      cases hx
      have := h.1.1
      simp at this
      omega

theorem Cells.wfFrom_ins {lo : Option Nat} {m : Cells α} {k : Nat} {v : α} (h : Cells.wfFrom d lo m = true)
    (hl : lo.all (· < k) = true) (hv : v ≠ d k) : Cells.wfFrom d lo (m.ins k v) = true := by
  induction m generalizing lo with
  | nil => simp [Cells.ins, Cells.wfFrom, hl, hv]
  | cons e m ih =>
    obtain ⟨k', w⟩ := e
    have h0 := h
    simp only [Cells.wfFrom, Bool.and_eq_true] at h
    simp only [Cells.ins]
    split
    · rename_i hk
      simp only [Cells.wfFrom, Bool.and_eq_true]
      exact ⟨⟨hl, by simpa using hv⟩, ⟨by simpa using hk, h.1.2⟩, h.2⟩
    · split
      · rename_i hk
        subst hk
        simp only [Cells.wfFrom, Bool.and_eq_true]
        exact ⟨⟨hl, by simpa using hv⟩, h.2⟩
      · simp only [Cells.wfFrom, Bool.and_eq_true]
        refine ⟨h.1, ih h.2 ?_⟩
        simp
        omega

/-- A write keeps the canonical form. -/
theorem Cells.wf_put {m : Cells α} (k : Nat) (v : α) (h : Cells.wf d m = true) : Cells.wf d (m.put d k v) = true := by
  unfold Cells.put
  split
  · exact Cells.wfFrom_filter d _ h
  · rename_i hv
    exact Cells.wfFrom_ins d h rfl hv

theorem Cells.wf_filter {m : Cells α} (p : Nat × α → Bool) (h : Cells.wf d m = true) : Cells.wf d (m.filter p) = true :=
  Cells.wfFrom_filter d p h

theorem Cells.wfFrom_every {lo : Option Nat} {m : Cells α} (f : Nat → α → α) (h : Cells.wfFrom d lo m = true) :
    Cells.wfFrom d lo (m.every d f) = true := by
  unfold Cells.every
  induction m generalizing lo with
  | nil => rfl
  | cons e m ih =>
    obtain ⟨k, v⟩ := e
    simp only [Cells.wfFrom, Bool.and_eq_true] at h
    simp only [List.map, List.filter]
    split
    · rename_i hp
      simp only [Cells.wfFrom, Bool.and_eq_true]
      exact ⟨⟨h.1.1, hp⟩, ih h.2⟩
    · refine Cells.wfFrom_mono d (ih h.2) ?_
      intro x hx
      refine ⟨k, rfl, ?_⟩
      cases hx
      have := h.1.1
      simp at this
      omega

/-- Changing every entry keeps the canonical form. -/
theorem Cells.wf_every {m : Cells α} (f : Nat → α → α) (h : Cells.wf d m = true) : Cells.wf d (m.every d f) = true :=
  Cells.wfFrom_every d f h

theorem Cells.get_below {lo : Nat} {m : Cells α} (h : Cells.wfFrom d (some lo) m = true) {k : Nat} (hk : k ≤ lo) :
    Cells.get d m k = d k := by
  induction m generalizing lo with
  | nil => rfl
  | cons e m ih =>
    obtain ⟨k', v⟩ := e
    simp only [Cells.wfFrom, Bool.and_eq_true] at h
    have h1 : lo < k' := by simpa using h.1.1
    simp only [Cells.get]
    split
    · omega
    · exact ih h.2 (by omega)

theorem Cells.eq_of_get {lo : Option Nat} {a b : Cells α} (ha : Cells.wfFrom d lo a = true) (hb : Cells.wfFrom d lo b = true)
    (h : ∀ k, Cells.get d a k = Cells.get d b k) : a = b := by
  induction a generalizing lo b with
  | nil =>
    cases b with
    | nil => rfl
    | cons e b =>
      obtain ⟨k, v⟩ := e
      simp only [Cells.wfFrom, Bool.and_eq_true] at hb
      have := h k
      simp [Cells.get] at this
      have hv := hb.1.2
      simp [← this] at hv
  | cons e a ih =>
    obtain ⟨k, v⟩ := e
    have ha' := ha
    simp only [Cells.wfFrom, Bool.and_eq_true] at ha
    have hv : v ≠ d k := by simpa using ha.1.2
    cases b with
    | nil =>
      have := h k
      simp [Cells.get] at this
      exact absurd this hv
    | cons e' b =>
      obtain ⟨j, w⟩ := e'
      have hb' := hb
      simp only [Cells.wfFrom, Bool.and_eq_true] at hb
      have hw : w ≠ d j := by simpa using hb.1.2
      rcases Nat.lt_trichotomy k j with hlt | heq | hgt
      · exfalso
        have h2 := h k
        simp only [Cells.get, if_true] at h2
        rw [if_neg (by omega)] at h2
        rw [Cells.get_below d hb.2 (by omega)] at h2
        exact hv h2
      · subst heq
        have h2 := h k
        simp [Cells.get] at h2
        subst h2
        congr 1
        refine ih ha.2 hb.2 ?_
        intro i
        have h3 := h i
        simp only [Cells.get] at h3
        by_cases hi : k = i
        · subst hi
          rw [Cells.get_below d ha.2 (Nat.le_refl _), Cells.get_below d hb.2 (Nat.le_refl _)]
        · simpa [hi] using h3
      · exfalso
        have h2 := h j
        simp only [Cells.get, if_true] at h2
        rw [if_neg (by omega)] at h2
        rw [Cells.get_below d ha.2 (by omega)] at h2
        exact hw h2.symm

/-- Canonical lists that read the same are the same: equal contents are equal data. -/
theorem Cells.ext_of_wf {a b : Cells α} (ha : Cells.wf d a = true) (hb : Cells.wf d b = true)
    (h : ∀ k, Cells.get d a k = Cells.get d b k) : a = b :=
  Cells.eq_of_get d ha hb h

end Sys2Proof.Machine
end

