-- ==== Sys2Proof/Laws/Keeps.lean ====
section
/-! SUPPORT. What every operation keeps: the part, the queue of commands, and a sound state. -/

namespace Sys2Proof.Machine

/-- `t` follows from `s` by an operation that leaves the part and the queue alone and keeps a sound state sound. -/
structure Keeps (s t : State) : Prop where
  part : t.part = s.part
  pending : t.pending = s.pending
  sound : s.sound = true → t.sound = true

theorem Keeps.refl (s : State) : Keeps s s := ⟨rfl, rfl, id⟩
theorem Keeps.trans {s t u : State} (h : Keeps s t) (k : Keeps t u) : Keeps s u :=
  ⟨k.part.trans h.part, k.pending.trans h.pending, fun x => k.sound (h.sound x)⟩

/-- A fold of an operation that keeps. -/
theorem Keeps.each {α : Type} {s : State} {l : List α} {f : State → α → State} (h : ∀ t a, Keeps t (f t a)) : Keeps s (s.each l f) := by
  unfold State.each
  induction l generalizing s with
  | nil => exact Keeps.refl s
  | cons a l ih => exact (h s a).trans ih

/-- An outcome keeps when its next state does. -/
def KeepsOut (s : State) (o : Out) : Prop := ∀ t, o = .next t → Keeps s t
theorem KeepsOut.next {s t : State} (h : Keeps s t) : KeepsOut s (.next t) := by
  intro u hu
  cases hu
  exact h
theorem KeepsOut.fault {s : State} {f : Fault} : KeepsOut s (.fault f) := by
  intro u hu
  cases hu
theorem KeepsOut.refused {s : State} {r : Refusal} : KeepsOut s (.refused r) := by
  intro u hu
  cases hu

end Sys2Proof.Machine
end

