-- ==== Sys2Proof/Laws/State.lean ====
section
/-! SUPPORT. What each update of the state leaves as it was, and what it makes of the field it writes; simp never unfolds an update. -/

namespace Sys2Proof.Machine

variable (s : State)

/-! ## The fields an update leaves alone -/

@[simp] theorem State.took_frame :
    (s.took).part = s.part ∧ (s.took).pending = s.pending ∧ (s.took).dw = s.dw ∧ (s.took).pwr = s.pwr ∧ (s.took).stage = s.stage ∧ (s.took).slots = s.slots ∧ (s.took).seqs = s.seqs ∧ (s.took).ends = s.ends ∧ (s.took).media = s.media ∧ (s.took).io = s.io ∧ (s.took).ten = s.ten ∧ (s.took).host = s.host ∧ (s.took).srch = s.srch ∧ (s.took).ddr = s.ddr ∧ (s.took).efl = s.efl ∧ (s.took).fw = s.fw ∧ (s.took).gbk = s.gbk ∧ (s.took).dma = s.dma ∧ (s.took).lt = s.lt :=
  ⟨rfl, rfl, rfl, rfl, rfl, rfl, rfl, rfl, rfl, rfl, rfl, rfl, rfl, rfl, rfl, rfl, rfl, rfl, rfl⟩
@[simp] theorem State.setReg_frame (off v : Nat) :
    (s.setReg off v).part = s.part ∧ (s.setReg off v).pending = s.pending ∧ (s.setReg off v).free = s.free ∧ (s.setReg off v).pwr = s.pwr ∧ (s.setReg off v).stage = s.stage ∧ (s.setReg off v).slots = s.slots ∧ (s.setReg off v).seqs = s.seqs ∧ (s.setReg off v).ends = s.ends ∧ (s.setReg off v).media = s.media ∧ (s.setReg off v).io = s.io ∧ (s.setReg off v).ten = s.ten ∧ (s.setReg off v).host = s.host ∧ (s.setReg off v).srch = s.srch ∧ (s.setReg off v).ddr = s.ddr ∧ (s.setReg off v).efl = s.efl ∧ (s.setReg off v).fw = s.fw ∧ (s.setReg off v).gbk = s.gbk ∧ (s.setReg off v).dma = s.dma ∧ (s.setReg off v).lt = s.lt :=
  ⟨rfl, rfl, rfl, rfl, rfl, rfl, rfl, rfl, rfl, rfl, rfl, rfl, rfl, rfl, rfl, rfl, rfl, rfl, rfl⟩
@[simp] theorem State.bump_frame (off n : Nat) :
    (s.bump off n).part = s.part ∧ (s.bump off n).pending = s.pending ∧ (s.bump off n).free = s.free ∧ (s.bump off n).pwr = s.pwr ∧ (s.bump off n).stage = s.stage ∧ (s.bump off n).slots = s.slots ∧ (s.bump off n).seqs = s.seqs ∧ (s.bump off n).ends = s.ends ∧ (s.bump off n).media = s.media ∧ (s.bump off n).io = s.io ∧ (s.bump off n).ten = s.ten ∧ (s.bump off n).host = s.host ∧ (s.bump off n).srch = s.srch ∧ (s.bump off n).ddr = s.ddr ∧ (s.bump off n).efl = s.efl ∧ (s.bump off n).fw = s.fw ∧ (s.bump off n).gbk = s.gbk ∧ (s.bump off n).dma = s.dma ∧ (s.bump off n).lt = s.lt :=
  ⟨rfl, rfl, rfl, rfl, rfl, rfl, rfl, rfl, rfl, rfl, rfl, rfl, rfl, rfl, rfl, rfl, rfl, rfl, rfl⟩
@[simp] theorem State.raise_frame (off b : Nat) :
    (s.raise off b).part = s.part ∧ (s.raise off b).pending = s.pending ∧ (s.raise off b).free = s.free ∧ (s.raise off b).pwr = s.pwr ∧ (s.raise off b).stage = s.stage ∧ (s.raise off b).slots = s.slots ∧ (s.raise off b).seqs = s.seqs ∧ (s.raise off b).ends = s.ends ∧ (s.raise off b).media = s.media ∧ (s.raise off b).io = s.io ∧ (s.raise off b).ten = s.ten ∧ (s.raise off b).host = s.host ∧ (s.raise off b).srch = s.srch ∧ (s.raise off b).ddr = s.ddr ∧ (s.raise off b).efl = s.efl ∧ (s.raise off b).fw = s.fw ∧ (s.raise off b).gbk = s.gbk ∧ (s.raise off b).dma = s.dma ∧ (s.raise off b).lt = s.lt :=
  ⟨rfl, rfl, rfl, rfl, rfl, rfl, rfl, rfl, rfl, rfl, rfl, rfl, rfl, rfl, rfl, rfl, rfl, rfl, rfl⟩
@[simp] theorem State.setSh_frame (k v : Nat) :
    (s.setSh k v).part = s.part ∧ (s.setSh k v).pending = s.pending ∧ (s.setSh k v).free = s.free ∧ (s.setSh k v).pwr = s.pwr ∧ (s.setSh k v).stage = s.stage ∧ (s.setSh k v).slots = s.slots ∧ (s.setSh k v).seqs = s.seqs ∧ (s.setSh k v).ends = s.ends ∧ (s.setSh k v).media = s.media ∧ (s.setSh k v).io = s.io ∧ (s.setSh k v).ten = s.ten ∧ (s.setSh k v).host = s.host ∧ (s.setSh k v).srch = s.srch ∧ (s.setSh k v).ddr = s.ddr ∧ (s.setSh k v).efl = s.efl ∧ (s.setSh k v).fw = s.fw ∧ (s.setSh k v).gbk = s.gbk ∧ (s.setSh k v).dma = s.dma ∧ (s.setSh k v).lt = s.lt :=
  ⟨rfl, rfl, rfl, rfl, rfl, rfl, rfl, rfl, rfl, rfl, rfl, rfl, rfl, rfl, rfl, rfl, rfl, rfl, rfl⟩
@[simp] theorem State.setBoth_frame (k v : Nat) :
    (s.setBoth k v).part = s.part ∧ (s.setBoth k v).pending = s.pending ∧ (s.setBoth k v).free = s.free ∧ (s.setBoth k v).pwr = s.pwr ∧ (s.setBoth k v).stage = s.stage ∧ (s.setBoth k v).slots = s.slots ∧ (s.setBoth k v).seqs = s.seqs ∧ (s.setBoth k v).ends = s.ends ∧ (s.setBoth k v).media = s.media ∧ (s.setBoth k v).io = s.io ∧ (s.setBoth k v).ten = s.ten ∧ (s.setBoth k v).host = s.host ∧ (s.setBoth k v).srch = s.srch ∧ (s.setBoth k v).ddr = s.ddr ∧ (s.setBoth k v).efl = s.efl ∧ (s.setBoth k v).fw = s.fw ∧ (s.setBoth k v).gbk = s.gbk ∧ (s.setBoth k v).dma = s.dma ∧ (s.setBoth k v).lt = s.lt :=
  ⟨rfl, rfl, rfl, rfl, rfl, rfl, rfl, rfl, rfl, rfl, rfl, rfl, rfl, rfl, rfl, rfl, rfl, rfl, rfl⟩
@[simp] theorem State.modSlot_frame (n : Nat) (f : Slot → Slot) :
    (s.modSlot n f).part = s.part ∧ (s.modSlot n f).pending = s.pending ∧ (s.modSlot n f).free = s.free ∧ (s.modSlot n f).dw = s.dw ∧ (s.modSlot n f).pwr = s.pwr ∧ (s.modSlot n f).stage = s.stage ∧ (s.modSlot n f).seqs = s.seqs ∧ (s.modSlot n f).ends = s.ends ∧ (s.modSlot n f).media = s.media ∧ (s.modSlot n f).io = s.io ∧ (s.modSlot n f).ten = s.ten ∧ (s.modSlot n f).host = s.host ∧ (s.modSlot n f).srch = s.srch ∧ (s.modSlot n f).ddr = s.ddr ∧ (s.modSlot n f).efl = s.efl ∧ (s.modSlot n f).fw = s.fw ∧ (s.modSlot n f).gbk = s.gbk ∧ (s.modSlot n f).dma = s.dma ∧ (s.modSlot n f).lt = s.lt :=
  ⟨rfl, rfl, rfl, rfl, rfl, rfl, rfl, rfl, rfl, rfl, rfl, rfl, rfl, rfl, rfl, rfl, rfl, rfl, rfl⟩
@[simp] theorem State.modSeq_frame (n : Nat) (f : Seq → Seq) :
    (s.modSeq n f).part = s.part ∧ (s.modSeq n f).pending = s.pending ∧ (s.modSeq n f).free = s.free ∧ (s.modSeq n f).dw = s.dw ∧ (s.modSeq n f).pwr = s.pwr ∧ (s.modSeq n f).stage = s.stage ∧ (s.modSeq n f).slots = s.slots ∧ (s.modSeq n f).ends = s.ends ∧ (s.modSeq n f).media = s.media ∧ (s.modSeq n f).io = s.io ∧ (s.modSeq n f).ten = s.ten ∧ (s.modSeq n f).host = s.host ∧ (s.modSeq n f).srch = s.srch ∧ (s.modSeq n f).ddr = s.ddr ∧ (s.modSeq n f).efl = s.efl ∧ (s.modSeq n f).fw = s.fw ∧ (s.modSeq n f).gbk = s.gbk ∧ (s.modSeq n f).dma = s.dma ∧ (s.modSeq n f).lt = s.lt :=
  ⟨rfl, rfl, rfl, rfl, rfl, rfl, rfl, rfl, rfl, rfl, rfl, rfl, rfl, rfl, rfl, rfl, rfl, rfl, rfl⟩
@[simp] theorem State.modEnd_frame (n : Nat) (f : LinkEnd → LinkEnd) :
    (s.modEnd n f).part = s.part ∧ (s.modEnd n f).pending = s.pending ∧ (s.modEnd n f).free = s.free ∧ (s.modEnd n f).dw = s.dw ∧ (s.modEnd n f).pwr = s.pwr ∧ (s.modEnd n f).stage = s.stage ∧ (s.modEnd n f).slots = s.slots ∧ (s.modEnd n f).seqs = s.seqs ∧ (s.modEnd n f).media = s.media ∧ (s.modEnd n f).io = s.io ∧ (s.modEnd n f).ten = s.ten ∧ (s.modEnd n f).host = s.host ∧ (s.modEnd n f).srch = s.srch ∧ (s.modEnd n f).ddr = s.ddr ∧ (s.modEnd n f).efl = s.efl ∧ (s.modEnd n f).fw = s.fw ∧ (s.modEnd n f).gbk = s.gbk ∧ (s.modEnd n f).dma = s.dma ∧ (s.modEnd n f).lt = s.lt :=
  ⟨rfl, rfl, rfl, rfl, rfl, rfl, rfl, rfl, rfl, rfl, rfl, rfl, rfl, rfl, rfl, rfl, rfl, rfl, rfl⟩
@[simp] theorem State.modCtrl_frame (n : Nat) (f : Ctrl → Ctrl) :
    (s.modCtrl n f).part = s.part ∧ (s.modCtrl n f).pending = s.pending ∧ (s.modCtrl n f).free = s.free ∧ (s.modCtrl n f).dw = s.dw ∧ (s.modCtrl n f).pwr = s.pwr ∧ (s.modCtrl n f).stage = s.stage ∧ (s.modCtrl n f).slots = s.slots ∧ (s.modCtrl n f).seqs = s.seqs ∧ (s.modCtrl n f).ends = s.ends ∧ (s.modCtrl n f).media = s.media ∧ (s.modCtrl n f).ten = s.ten ∧ (s.modCtrl n f).host = s.host ∧ (s.modCtrl n f).srch = s.srch ∧ (s.modCtrl n f).ddr = s.ddr ∧ (s.modCtrl n f).efl = s.efl ∧ (s.modCtrl n f).fw = s.fw ∧ (s.modCtrl n f).gbk = s.gbk ∧ (s.modCtrl n f).dma = s.dma ∧ (s.modCtrl n f).lt = s.lt :=
  ⟨rfl, rfl, rfl, rfl, rfl, rfl, rfl, rfl, rfl, rfl, rfl, rfl, rfl, rfl, rfl, rfl, rfl, rfl, rfl⟩
@[simp] theorem State.modPort_frame (n : Nat) (f : Port → Port) :
    (s.modPort n f).part = s.part ∧ (s.modPort n f).pending = s.pending ∧ (s.modPort n f).free = s.free ∧ (s.modPort n f).dw = s.dw ∧ (s.modPort n f).pwr = s.pwr ∧ (s.modPort n f).stage = s.stage ∧ (s.modPort n f).slots = s.slots ∧ (s.modPort n f).seqs = s.seqs ∧ (s.modPort n f).ends = s.ends ∧ (s.modPort n f).media = s.media ∧ (s.modPort n f).io = s.io ∧ (s.modPort n f).ten = s.ten ∧ (s.modPort n f).srch = s.srch ∧ (s.modPort n f).ddr = s.ddr ∧ (s.modPort n f).efl = s.efl ∧ (s.modPort n f).fw = s.fw ∧ (s.modPort n f).gbk = s.gbk ∧ (s.modPort n f).dma = s.dma ∧ (s.modPort n f).lt = s.lt :=
  ⟨rfl, rfl, rfl, rfl, rfl, rfl, rfl, rfl, rfl, rfl, rfl, rfl, rfl, rfl, rfl, rfl, rfl, rfl, rfl⟩
@[simp] theorem State.modTenant_frame (n : Nat) (f : Tenant → Tenant) :
    (s.modTenant n f).part = s.part ∧ (s.modTenant n f).pending = s.pending ∧ (s.modTenant n f).free = s.free ∧ (s.modTenant n f).dw = s.dw ∧ (s.modTenant n f).pwr = s.pwr ∧ (s.modTenant n f).stage = s.stage ∧ (s.modTenant n f).slots = s.slots ∧ (s.modTenant n f).seqs = s.seqs ∧ (s.modTenant n f).ends = s.ends ∧ (s.modTenant n f).media = s.media ∧ (s.modTenant n f).io = s.io ∧ (s.modTenant n f).host = s.host ∧ (s.modTenant n f).srch = s.srch ∧ (s.modTenant n f).ddr = s.ddr ∧ (s.modTenant n f).efl = s.efl ∧ (s.modTenant n f).fw = s.fw ∧ (s.modTenant n f).gbk = s.gbk ∧ (s.modTenant n f).dma = s.dma ∧ (s.modTenant n f).lt = s.lt :=
  ⟨rfl, rfl, rfl, rfl, rfl, rfl, rfl, rfl, rfl, rfl, rfl, rfl, rfl, rfl, rfl, rfl, rfl, rfl, rfl⟩
@[simp] theorem State.modPool_frame (n : Nat) (f : Pool → Pool) :
    (s.modPool n f).part = s.part ∧ (s.modPool n f).pending = s.pending ∧ (s.modPool n f).free = s.free ∧ (s.modPool n f).dw = s.dw ∧ (s.modPool n f).pwr = s.pwr ∧ (s.modPool n f).stage = s.stage ∧ (s.modPool n f).slots = s.slots ∧ (s.modPool n f).seqs = s.seqs ∧ (s.modPool n f).ends = s.ends ∧ (s.modPool n f).io = s.io ∧ (s.modPool n f).ten = s.ten ∧ (s.modPool n f).host = s.host ∧ (s.modPool n f).srch = s.srch ∧ (s.modPool n f).ddr = s.ddr ∧ (s.modPool n f).efl = s.efl ∧ (s.modPool n f).fw = s.fw ∧ (s.modPool n f).gbk = s.gbk ∧ (s.modPool n f).dma = s.dma ∧ (s.modPool n f).lt = s.lt :=
  ⟨rfl, rfl, rfl, rfl, rfl, rfl, rfl, rfl, rfl, rfl, rfl, rfl, rfl, rfl, rfl, rfl, rfl, rfl, rfl⟩
@[simp] theorem State.modBand_frame (n : Nat) (f : Band → Band) :
    (s.modBand n f).part = s.part ∧ (s.modBand n f).pending = s.pending ∧ (s.modBand n f).free = s.free ∧ (s.modBand n f).dw = s.dw ∧ (s.modBand n f).pwr = s.pwr ∧ (s.modBand n f).stage = s.stage ∧ (s.modBand n f).slots = s.slots ∧ (s.modBand n f).seqs = s.seqs ∧ (s.modBand n f).ends = s.ends ∧ (s.modBand n f).io = s.io ∧ (s.modBand n f).ten = s.ten ∧ (s.modBand n f).host = s.host ∧ (s.modBand n f).srch = s.srch ∧ (s.modBand n f).ddr = s.ddr ∧ (s.modBand n f).efl = s.efl ∧ (s.modBand n f).fw = s.fw ∧ (s.modBand n f).gbk = s.gbk ∧ (s.modBand n f).dma = s.dma ∧ (s.modBand n f).lt = s.lt :=
  ⟨rfl, rfl, rfl, rfl, rfl, rfl, rfl, rfl, rfl, rfl, rfl, rfl, rfl, rfl, rfl, rfl, rfl, rfl, rfl⟩
@[simp] theorem State.modChan_frame (n : Nat) (f : Chan → Chan) :
    (s.modChan n f).part = s.part ∧ (s.modChan n f).pending = s.pending ∧ (s.modChan n f).free = s.free ∧ (s.modChan n f).dw = s.dw ∧ (s.modChan n f).pwr = s.pwr ∧ (s.modChan n f).stage = s.stage ∧ (s.modChan n f).slots = s.slots ∧ (s.modChan n f).seqs = s.seqs ∧ (s.modChan n f).ends = s.ends ∧ (s.modChan n f).media = s.media ∧ (s.modChan n f).io = s.io ∧ (s.modChan n f).ten = s.ten ∧ (s.modChan n f).host = s.host ∧ (s.modChan n f).srch = s.srch ∧ (s.modChan n f).ddr = s.ddr ∧ (s.modChan n f).efl = s.efl ∧ (s.modChan n f).fw = s.fw ∧ (s.modChan n f).gbk = s.gbk ∧ (s.modChan n f).lt = s.lt :=
  ⟨rfl, rfl, rfl, rfl, rfl, rfl, rfl, rfl, rfl, rfl, rfl, rfl, rfl, rfl, rfl, rfl, rfl, rfl, rfl⟩
@[simp] theorem State.modLane_frame (n : Nat) (f : Lane → Lane) :
    (s.modLane n f).part = s.part ∧ (s.modLane n f).pending = s.pending ∧ (s.modLane n f).free = s.free ∧ (s.modLane n f).dw = s.dw ∧ (s.modLane n f).pwr = s.pwr ∧ (s.modLane n f).stage = s.stage ∧ (s.modLane n f).slots = s.slots ∧ (s.modLane n f).seqs = s.seqs ∧ (s.modLane n f).ends = s.ends ∧ (s.modLane n f).media = s.media ∧ (s.modLane n f).io = s.io ∧ (s.modLane n f).ten = s.ten ∧ (s.modLane n f).host = s.host ∧ (s.modLane n f).srch = s.srch ∧ (s.modLane n f).ddr = s.ddr ∧ (s.modLane n f).efl = s.efl ∧ (s.modLane n f).fw = s.fw ∧ (s.modLane n f).gbk = s.gbk ∧ (s.modLane n f).dma = s.dma :=
  ⟨rfl, rfl, rfl, rfl, rfl, rfl, rfl, rfl, rfl, rfl, rfl, rfl, rfl, rfl, rfl, rfl, rfl, rfl, rfl⟩
@[simp] theorem State.modNs_frame (n : Nat) (f : Ns → Ns) :
    (s.modNs n f).part = s.part ∧ (s.modNs n f).pending = s.pending ∧ (s.modNs n f).free = s.free ∧ (s.modNs n f).dw = s.dw ∧ (s.modNs n f).pwr = s.pwr ∧ (s.modNs n f).stage = s.stage ∧ (s.modNs n f).slots = s.slots ∧ (s.modNs n f).seqs = s.seqs ∧ (s.modNs n f).ends = s.ends ∧ (s.modNs n f).io = s.io ∧ (s.modNs n f).ten = s.ten ∧ (s.modNs n f).host = s.host ∧ (s.modNs n f).srch = s.srch ∧ (s.modNs n f).ddr = s.ddr ∧ (s.modNs n f).efl = s.efl ∧ (s.modNs n f).fw = s.fw ∧ (s.modNs n f).gbk = s.gbk ∧ (s.modNs n f).dma = s.dma ∧ (s.modNs n f).lt = s.lt :=
  ⟨rfl, rfl, rfl, rfl, rfl, rfl, rfl, rfl, rfl, rfl, rfl, rfl, rfl, rfl, rfl, rfl, rfl, rfl, rfl⟩
@[simp] theorem State.send_frame (n op : Nat) (m : CartCmd) (w : Purpose) :
    (s.send n op m w).part = s.part ∧ (s.send n op m w).pending = s.pending ∧ (s.send n op m w).free = s.free ∧ (s.send n op m w).dw = s.dw ∧ (s.send n op m w).pwr = s.pwr ∧ (s.send n op m w).stage = s.stage ∧ (s.send n op m w).seqs = s.seqs ∧ (s.send n op m w).ends = s.ends ∧ (s.send n op m w).media = s.media ∧ (s.send n op m w).io = s.io ∧ (s.send n op m w).ten = s.ten ∧ (s.send n op m w).host = s.host ∧ (s.send n op m w).srch = s.srch ∧ (s.send n op m w).ddr = s.ddr ∧ (s.send n op m w).efl = s.efl ∧ (s.send n op m w).fw = s.fw ∧ (s.send n op m w).gbk = s.gbk ∧ (s.send n op m w).dma = s.dma ∧ (s.send n op m w).lt = s.lt :=
  ⟨rfl, rfl, rfl, rfl, rfl, rfl, rfl, rfl, rfl, rfl, rfl, rfl, rfl, rfl, rfl, rfl, rfl, rfl, rfl⟩
@[simp] theorem State.retireTag_frame (n t : Nat) :
    (s.retireTag n t).part = s.part ∧ (s.retireTag n t).pending = s.pending ∧ (s.retireTag n t).free = s.free ∧ (s.retireTag n t).dw = s.dw ∧ (s.retireTag n t).pwr = s.pwr ∧ (s.retireTag n t).stage = s.stage ∧ (s.retireTag n t).seqs = s.seqs ∧ (s.retireTag n t).ends = s.ends ∧ (s.retireTag n t).media = s.media ∧ (s.retireTag n t).io = s.io ∧ (s.retireTag n t).ten = s.ten ∧ (s.retireTag n t).host = s.host ∧ (s.retireTag n t).srch = s.srch ∧ (s.retireTag n t).ddr = s.ddr ∧ (s.retireTag n t).efl = s.efl ∧ (s.retireTag n t).fw = s.fw ∧ (s.retireTag n t).gbk = s.gbk ∧ (s.retireTag n t).dma = s.dma ∧ (s.retireTag n t).lt = s.lt :=
  ⟨rfl, rfl, rfl, rfl, rfl, rfl, rfl, rfl, rfl, rfl, rfl, rfl, rfl, rfl, rfl, rfl, rfl, rfl, rfl⟩
@[simp] theorem State.media'_frame (n off k : Nat) :
    (s.media' n off k).part = s.part ∧ (s.media' n off k).pending = s.pending ∧ (s.media' n off k).free = s.free ∧ (s.media' n off k).dw = s.dw ∧ (s.media' n off k).pwr = s.pwr ∧ (s.media' n off k).stage = s.stage ∧ (s.media' n off k).seqs = s.seqs ∧ (s.media' n off k).ends = s.ends ∧ (s.media' n off k).media = s.media ∧ (s.media' n off k).io = s.io ∧ (s.media' n off k).ten = s.ten ∧ (s.media' n off k).host = s.host ∧ (s.media' n off k).srch = s.srch ∧ (s.media' n off k).ddr = s.ddr ∧ (s.media' n off k).efl = s.efl ∧ (s.media' n off k).fw = s.fw ∧ (s.media' n off k).gbk = s.gbk ∧ (s.media' n off k).dma = s.dma ∧ (s.media' n off k).lt = s.lt :=
  ⟨rfl, rfl, rfl, rfl, rfl, rfl, rfl, rfl, rfl, rfl, rfl, rfl, rfl, rfl, rfl, rfl, rfl, rfl, rfl⟩
@[simp] theorem State.askPower_frame (n : Nat) :
    (s.askPower n).part = s.part ∧ (s.askPower n).pending = s.pending ∧ (s.askPower n).free = s.free ∧ (s.askPower n).dw = s.dw ∧ (s.askPower n).pwr = s.pwr ∧ (s.askPower n).stage = s.stage ∧ (s.askPower n).seqs = s.seqs ∧ (s.askPower n).ends = s.ends ∧ (s.askPower n).media = s.media ∧ (s.askPower n).io = s.io ∧ (s.askPower n).ten = s.ten ∧ (s.askPower n).host = s.host ∧ (s.askPower n).srch = s.srch ∧ (s.askPower n).ddr = s.ddr ∧ (s.askPower n).efl = s.efl ∧ (s.askPower n).fw = s.fw ∧ (s.askPower n).gbk = s.gbk ∧ (s.askPower n).dma = s.dma ∧ (s.askPower n).lt = s.lt :=
  ⟨rfl, rfl, rfl, rfl, rfl, rfl, rfl, rfl, rfl, rfl, rfl, rfl, rfl, rfl, rfl, rfl, rfl, rfl, rfl⟩
@[simp] theorem State.post_frame (id : CmdId) (st : Status) (a b : Nat) (d : List Byte) :
    (s.post id st a b d).part = s.part ∧ (s.post id st a b d).pending = s.pending ∧ (s.post id st a b d).free = s.free ∧ (s.post id st a b d).dw = s.dw ∧ (s.post id st a b d).pwr = s.pwr ∧ (s.post id st a b d).stage = s.stage ∧ (s.post id st a b d).slots = s.slots ∧ (s.post id st a b d).seqs = s.seqs ∧ (s.post id st a b d).ends = s.ends ∧ (s.post id st a b d).media = s.media ∧ (s.post id st a b d).ten = s.ten ∧ (s.post id st a b d).host = s.host ∧ (s.post id st a b d).srch = s.srch ∧ (s.post id st a b d).ddr = s.ddr ∧ (s.post id st a b d).efl = s.efl ∧ (s.post id st a b d).fw = s.fw ∧ (s.post id st a b d).gbk = s.gbk ∧ (s.post id st a b d).dma = s.dma ∧ (s.post id st a b d).lt = s.lt :=
  ⟨rfl, rfl, rfl, rfl, rfl, rfl, rfl, rfl, rfl, rfl, rfl, rfl, rfl, rfl, rfl, rfl, rfl, rfl, rfl⟩
@[simp] theorem State.refuse_frame (c : Cmd) (st : Status) :
    (s.refuse c st).part = s.part ∧ (s.refuse c st).pending = s.pending ∧ (s.refuse c st).free = s.free ∧ (s.refuse c st).dw = s.dw ∧ (s.refuse c st).pwr = s.pwr ∧ (s.refuse c st).stage = s.stage ∧ (s.refuse c st).slots = s.slots ∧ (s.refuse c st).seqs = s.seqs ∧ (s.refuse c st).ends = s.ends ∧ (s.refuse c st).media = s.media ∧ (s.refuse c st).ten = s.ten ∧ (s.refuse c st).host = s.host ∧ (s.refuse c st).srch = s.srch ∧ (s.refuse c st).ddr = s.ddr ∧ (s.refuse c st).efl = s.efl ∧ (s.refuse c st).fw = s.fw ∧ (s.refuse c st).gbk = s.gbk ∧ (s.refuse c st).dma = s.dma ∧ (s.refuse c st).lt = s.lt :=
  ⟨rfl, rfl, rfl, rfl, rfl, rfl, rfl, rfl, rfl, rfl, rfl, rfl, rfl, rfl, rfl, rfl, rfl, rfl, rfl⟩
@[simp] theorem State.enqueue_frame (r : Rec) :
    (s.enqueue r).part = s.part ∧ (s.enqueue r).pending = s.pending ∧ (s.enqueue r).free = s.free ∧ (s.enqueue r).pwr = s.pwr ∧ (s.enqueue r).stage = s.stage ∧ (s.enqueue r).slots = s.slots ∧ (s.enqueue r).seqs = s.seqs ∧ (s.enqueue r).ends = s.ends ∧ (s.enqueue r).media = s.media ∧ (s.enqueue r).io = s.io ∧ (s.enqueue r).ten = s.ten ∧ (s.enqueue r).host = s.host ∧ (s.enqueue r).srch = s.srch ∧ (s.enqueue r).ddr = s.ddr ∧ (s.enqueue r).efl = s.efl ∧ (s.enqueue r).fw = s.fw ∧ (s.enqueue r).dma = s.dma ∧ (s.enqueue r).lt = s.lt := by
  unfold State.enqueue
  split <;> simp
@[simp] theorem State.log_frame (code : Nat) (ps : List Nat) :
    (s.log code ps).part = s.part ∧ (s.log code ps).pending = s.pending ∧ (s.log code ps).free = s.free ∧ (s.log code ps).pwr = s.pwr ∧ (s.log code ps).stage = s.stage ∧ (s.log code ps).slots = s.slots ∧ (s.log code ps).seqs = s.seqs ∧ (s.log code ps).ends = s.ends ∧ (s.log code ps).media = s.media ∧ (s.log code ps).io = s.io ∧ (s.log code ps).ten = s.ten ∧ (s.log code ps).host = s.host ∧ (s.log code ps).srch = s.srch ∧ (s.log code ps).ddr = s.ddr ∧ (s.log code ps).efl = s.efl ∧ (s.log code ps).fw = s.fw ∧ (s.log code ps).dma = s.dma ∧ (s.log code ps).lt = s.lt := by
  unfold State.log
  dsimp only
  split
  · simp
  · split
    · simp
    · split <;> simp

/-! ## Reading back what an update wrote -/

@[simp] theorem State.modSlot_self (n : Nat) (f : Slot → Slot) : (s.modSlot n f).slot n = f (s.slot n) := by
  simp [State.modSlot, State.slot, Cells.mod]
theorem State.modSlot_other (n m : Nat) (f : Slot → Slot) (h : m ≠ n) : (s.modSlot n f).slot m = s.slot m := by
  simp [State.modSlot, State.slot, Cells.mod, Cells.get_put_other _ _ _ h]
@[simp] theorem State.modSeq_self (n : Nat) (f : Seq → Seq) : (s.modSeq n f).seqOf n = f (s.seqOf n) := by
  simp [State.modSeq, State.seqOf, Cells.mod]
theorem State.modSeq_other (n m : Nat) (f : Seq → Seq) (h : m ≠ n) : (s.modSeq n f).seqOf m = s.seqOf m := by
  simp [State.modSeq, State.seqOf, Cells.mod, Cells.get_put_other _ _ _ h]
@[simp] theorem State.modEnd_self (n : Nat) (f : LinkEnd → LinkEnd) : (s.modEnd n f).endOf n = f (s.endOf n) := by
  simp [State.modEnd, State.endOf, Cells.mod]
theorem State.modEnd_other (n m : Nat) (f : LinkEnd → LinkEnd) (h : m ≠ n) : (s.modEnd n f).endOf m = s.endOf m := by
  simp [State.modEnd, State.endOf, Cells.mod, Cells.get_put_other _ _ _ h]
@[simp] theorem State.modCtrl_self (n : Nat) (f : Ctrl → Ctrl) : (s.modCtrl n f).ctrl n = f (s.ctrl n) := by
  simp [State.modCtrl, State.ctrl, Cells.mod]
theorem State.modCtrl_other (n m : Nat) (f : Ctrl → Ctrl) (h : m ≠ n) : (s.modCtrl n f).ctrl m = s.ctrl m := by
  simp [State.modCtrl, State.ctrl, Cells.mod, Cells.get_put_other _ _ _ h]
@[simp] theorem State.modPort_self (n : Nat) (f : Port → Port) : (s.modPort n f).port n = f (s.port n) := by
  simp [State.modPort, State.port, Cells.mod]
theorem State.modPort_other (n m : Nat) (f : Port → Port) (h : m ≠ n) : (s.modPort n f).port m = s.port m := by
  simp [State.modPort, State.port, Cells.mod, Cells.get_put_other _ _ _ h]
@[simp] theorem State.modTenant_self (n : Nat) (f : Tenant → Tenant) : (s.modTenant n f).tenant n = f (s.tenant n) := by
  simp [State.modTenant, State.tenant, Cells.mod]
theorem State.modTenant_other (n m : Nat) (f : Tenant → Tenant) (h : m ≠ n) : (s.modTenant n f).tenant m = s.tenant m := by
  simp [State.modTenant, State.tenant, Cells.mod, Cells.get_put_other _ _ _ h]
@[simp] theorem State.modPool_self (n : Nat) (f : Pool → Pool) : (s.modPool n f).pool n = f (s.pool n) := by
  simp [State.modPool, State.pool, Cells.mod]
theorem State.modPool_other (n m : Nat) (f : Pool → Pool) (h : m ≠ n) : (s.modPool n f).pool m = s.pool m := by
  simp [State.modPool, State.pool, Cells.mod, Cells.get_put_other _ _ _ h]
@[simp] theorem State.modBand_self (n : Nat) (f : Band → Band) : (s.modBand n f).band n = f (s.band n) := by
  simp [State.modBand, State.band, Cells.mod]
theorem State.modBand_other (n m : Nat) (f : Band → Band) (h : m ≠ n) : (s.modBand n f).band m = s.band m := by
  simp [State.modBand, State.band, Cells.mod, Cells.get_put_other _ _ _ h]
@[simp] theorem State.modChan_self (n : Nat) (f : Chan → Chan) : (s.modChan n f).chan n = f (s.chan n) := by
  simp [State.modChan, State.chan, Cells.mod]
theorem State.modChan_other (n m : Nat) (f : Chan → Chan) (h : m ≠ n) : (s.modChan n f).chan m = s.chan m := by
  simp [State.modChan, State.chan, Cells.mod, Cells.get_put_other _ _ _ h]
@[simp] theorem State.modLane_self (n : Nat) (f : Lane → Lane) : (s.modLane n f).lane n = f (s.lane n) := by
  simp [State.modLane, State.lane, Cells.mod]
theorem State.modLane_other (n m : Nat) (f : Lane → Lane) (h : m ≠ n) : (s.modLane n f).lane m = s.lane m := by
  simp [State.modLane, State.lane, Cells.mod, Cells.get_put_other _ _ _ h]
@[simp] theorem State.setReg_self (off v : Nat) : (s.setReg off v).reg off = v := by simp [State.setReg, State.reg]
theorem State.setReg_other (off o v : Nat) (h : o ≠ off) : (s.setReg off v).reg o = s.reg o := by
  simp [State.setReg, State.reg, Cells.get_put_other _ _ _ h]
@[simp] theorem State.setReg_rest (off v k : Nat) : (s.setReg off v).w1c k = s.w1c k ∧ (s.setReg off v).inf k = s.inf k ∧ (s.setReg off v).sh k = s.sh k := ⟨rfl, rfl, rfl⟩
@[simp] theorem State.raise_self (off b : Nat) : (s.raise off b).w1c off = s.w1c off ||| b := by simp [State.raise, State.w1c, Cells.mod]
@[simp] theorem State.raise_rest (off b k : Nat) : (s.raise off b).reg k = s.reg k ∧ (s.raise off b).inf k = s.inf k ∧ (s.raise off b).sh k = s.sh k := ⟨rfl, rfl, rfl⟩
@[simp] theorem State.bump_rest (off n k : Nat) : (s.bump off n).reg k = s.reg k ∧ (s.bump off n).w1c k = s.w1c k ∧ (s.bump off n).inf k = s.inf k ∧ (s.bump off n).sh k = s.sh k := ⟨rfl, rfl, rfl, rfl⟩
@[simp] theorem State.setSh_self (k v : Nat) : (s.setSh k v).sh k = v := by simp [State.setSh, State.sh]
theorem State.setSh_other (k j v : Nat) (h : j ≠ k) : (s.setSh k v).sh j = s.sh j := by
  simp [State.setSh, State.sh, Cells.get_put_other _ _ _ h]
@[simp] theorem State.setSh_rest (k v j : Nat) : (s.setSh k v).inf j = s.inf j ∧ (s.setSh k v).reg j = s.reg j ∧ (s.setSh k v).w1c j = s.w1c j := ⟨rfl, rfl, rfl⟩
@[simp] theorem State.setBoth_self (k v : Nat) : (s.setBoth k v).inf k = v ∧ (s.setBoth k v).sh k = v := by simp [State.setBoth, State.inf, State.sh]
theorem State.setBoth_other (k j v : Nat) (h : j ≠ k) : (s.setBoth k v).inf j = s.inf j ∧ (s.setBoth k v).sh j = s.sh j := by
  simp [State.setBoth, State.inf, State.sh, Cells.get_put_other _ _ _ h]
@[simp] theorem State.post_last (id : CmdId) (st : Status) (a b : Nat) (d : List Byte) :
    (s.post id st a b d).io.posted.getLast? = some { id := id, st := st, dnr := st.dnr, dw0 := a, dw1 := b, data := d, inPdu := s.inPdu id st d } := by simp [State.post]
@[simp] theorem State.post_ctrls (id : CmdId) (st : Status) (a b : Nat) (d : List Byte) :
    (s.post id st a b d).io.ctrls = s.io.ctrls ∧ (s.post id st a b d).io.paused = s.io.paused := ⟨rfl, rfl⟩

end Sys2Proof.Machine
end

