-- ==== Sys2Proof/Laws/Ops.lean ====
section
/-! SUPPORT. One lemma for each shared operation: when it acts, what it answers, and that it keeps a sound state. -/

namespace Sys2Proof.Machine

/-! ## What the shared intake of commands answers -/

/-- A window write that reaches its register has its effect. -/
theorem winWrite_ok {p : Path} {off : Nat} {s : State} {f : State → State} (h : s.reach p off = .ok) :
    winWrite p off s f = .next (f s) := by simp [winWrite, h]

/-- All a window write can do (R43): its effect, a record of the refused access, or nothing. -/
theorem winWrite_cases (p : Path) (off : Nat) (s : State) (f : State → State) :
    (s.reach p off = .ok ∧ winWrite p off s f = .next (f s)) ∨
    (s.reach p off = .denied ∧ winWrite p off s f = .next (s.log 0x0A10 [0, off, 1])) ∨
    ((s.reach p off = .silent ∨ s.reach p off = .dead) ∧ winWrite p off s f = .next s) := by
  cases h : s.reach p off <;> simp [winWrite, h]

/-- An event on an instance: a number no part has faults, one this part lacks does nothing, one it has acts. -/
theorem onSlot_cases (s : State) (n : Nat) (f : State → State) :
    (64 ≤ n ∧ onSlot s n f = .fault (.noSuchInstance n)) ∨
    (n < 64 ∧ s.part.slots ≤ n ∧ onSlot s n f = .next s) ∨
    (n < 64 ∧ n < s.part.slots ∧ onSlot s n f = .next (f s)) := by
  unfold onSlot
  by_cases h1 : n ≥ 64
  · exact .inl ⟨h1, by simp [h1]⟩
  · by_cases h2 : n ≥ s.part.slots
    · exact .inr (.inl ⟨by omega, h2, by simp [h1, h2]⟩)
    · exact .inr (.inr ⟨by omega, by omega, by simp [h1, h2]⟩)

/-- A slot of the part acts. -/
theorem onSlot_ok {s : State} {n : Nat} {f : State → State} (h : n < s.part.slots) : onSlot s n f = .next (f s) := by
  have : s.part.slots ≤ 64 := by cases s.part <;> decide
  unfold onSlot
  rw [if_neg (by omega), if_neg (by omega)]

/-- An admin command always answers a next state. -/
theorem adminOf_next (present mgr : Bool) (c : Cmd) (s : State) (f : State → State) : ∃ t, adminOf present mgr c s f = .next t := by
  unfold adminOf
  split
  · exact ⟨_, rfl⟩
  · dsimp only
    split
    · exact ⟨_, rfl⟩
    · split
      · exact ⟨_, rfl⟩
      · split <;> exact ⟨_, rfl⟩

theorem adminCmd_next (mgr : Bool) (c : Cmd) (s : State) (f : State → State) : ∃ t, adminCmd mgr c s f = .next t := adminOf_next _ _ _ _ _

/-- A command that finds the unit ready runs. -/
theorem adminCmd_ready {mgr : Bool} {c : Cmd} {s : State} {f : State → State} (h : s.readyFor mgr c = true) :
    adminCmd mgr c s f = .next (f s) := by
  simp only [State.readyFor, Bool.and_eq_true, decide_eq_true_eq] at h
  obtain ⟨⟨⟨⟨⟨h1, h2⟩, h3⟩, h4⟩, h5⟩, h6⟩ := h
  unfold adminCmd adminOf State.cmdArrives
  simp only [h1, h2, h3, h6, Bool.true_eq_false, if_false, and_self, if_true, ne_eq, not_true_eq_false]
  cases ha : (s.ctrl c.id.ctrl).authReq <;> cases hb : (s.ctrl c.id.ctrl).authed <;> cases mgr <;> simp_all

theorem readyFor_manager {c : Cmd} {s : State} (h : s.readyFor true c = true) : s.isManager c.id.ctrl = true := by
  simp [State.readyFor] at h
  simp [h]
theorem readyFor_any {m : Bool} {c : Cmd} {s : State} (h : s.readyFor m c = true) : s.readyFor false c = true := by
  simp [State.readyFor] at h ⊢
  simp [h]

@[simp] theorem State.check_true (s : State) (c : Cmd) (f : State → State) : s.check c true f = f s := rfl
@[simp] theorem State.check_false (s : State) (c : Cmd) (f : State → State) : s.check c false f = s.refuse c .invalidField := rfl

@[simp] theorem State.post_lastAnswer (s : State) (id : CmdId) (st : Status) (a b : Nat) (d : List Byte) :
    (s.post id st a b d).lastAnswer = some (id, st) := by simp [State.lastAnswer]
@[simp] theorem State.page_lastAnswer (s : State) (c : Cmd) (b : List Byte) : (s.page c b).lastAnswer = some (c.id, .success) := by
  simp [State.page]
@[simp] theorem State.refuse_lastAnswer (s : State) (c : Cmd) (st : Status) : (s.refuse c st).lastAnswer = some (c.id, st) := by
  simp [State.refuse]

/-! ## Every shared operation keeps the part, the queue and a sound state -/

/-- An update that leaves every part of the sound form alone. -/
theorem Keeps.of_eq {s t : State} (h : t.part = s.part) (hp : t.pending = s.pending) (hs : t.sound = s.sound) : Keeps s t :=
  ⟨h, hp, fun x => hs.trans x⟩

theorem Keeps.took (s : State) : Keeps s s.took := .of_eq rfl rfl rfl
theorem Keeps.post (s : State) (id : CmdId) (st : Status) (a b : Nat) (d : List Byte) : Keeps s (s.post id st a b d) := .of_eq rfl rfl rfl
theorem Keeps.refuse (s : State) (c : Cmd) (st : Status) : Keeps s (s.refuse c st) := .of_eq rfl rfl rfl
theorem Keeps.page (s : State) (c : Cmd) (b : List Byte) : Keeps s (s.page c b) := .of_eq rfl rfl rfl

theorem Keeps.setReg (s : State) (off v : Nat) : Keeps s (s.setReg off v) :=
  ⟨rfl, rfl, fun h => by simp_all [State.sound, Dw.sound, State.setReg, Cells.wf_put]⟩
theorem Keeps.bump (s : State) (off n : Nat) : Keeps s (s.bump off n) :=
  ⟨rfl, rfl, fun h => by simp_all [State.sound, Dw.sound, State.bump, Cells.mod, Cells.wf_put]⟩
theorem Keeps.raise (s : State) (off b : Nat) : Keeps s (s.raise off b) :=
  ⟨rfl, rfl, fun h => by simp_all [State.sound, Dw.sound, State.raise, Cells.mod, Cells.wf_put]⟩
theorem Keeps.setSh (s : State) (k v : Nat) : Keeps s (s.setSh k v) :=
  ⟨rfl, rfl, fun h => by simp_all [State.sound, Dw.sound, State.setSh, Cells.wf_put]⟩
theorem Keeps.setBoth (s : State) (k v : Nat) : Keeps s (s.setBoth k v) :=
  ⟨rfl, rfl, fun h => by simp_all [State.sound, Dw.sound, State.setBoth, Cells.wf_put]⟩
theorem Keeps.modSlot (s : State) (n : Nat) (f : Slot → Slot) : Keeps s (s.modSlot n f) :=
  ⟨rfl, rfl, fun h => by simp_all [State.sound, Media.sound, Ten.sound, State.modSlot, Cells.mod, Cells.wf_put]⟩
theorem Keeps.modSeq (s : State) (n : Nat) (f : Seq → Seq) : Keeps s (s.modSeq n f) :=
  ⟨rfl, rfl, fun h => by simp_all [State.sound, Media.sound, Ten.sound, State.modSeq, Cells.mod, Cells.wf_put]⟩
theorem Keeps.modEnd (s : State) (n : Nat) (f : LinkEnd → LinkEnd) : Keeps s (s.modEnd n f) :=
  ⟨rfl, rfl, fun h => by simp_all [State.sound, Media.sound, Ten.sound, State.modEnd, Cells.mod, Cells.wf_put]⟩
theorem Keeps.modCtrl (s : State) (n : Nat) (f : Ctrl → Ctrl) : Keeps s (s.modCtrl n f) :=
  ⟨rfl, rfl, fun h => by simp_all [State.sound, Media.sound, Ten.sound, State.modCtrl, Cells.mod, Cells.wf_put]⟩
theorem Keeps.modPort (s : State) (n : Nat) (f : Port → Port) : Keeps s (s.modPort n f) :=
  ⟨rfl, rfl, fun h => by simp_all [State.sound, Media.sound, Ten.sound, State.modPort, Cells.mod, Cells.wf_put]⟩
theorem Keeps.modTenant (s : State) (n : Nat) (f : Tenant → Tenant) : Keeps s (s.modTenant n f) :=
  ⟨rfl, rfl, fun h => by simp_all [State.sound, Media.sound, Ten.sound, State.modTenant, Cells.mod, Cells.wf_put]⟩
theorem Keeps.modPool (s : State) (n : Nat) (f : Pool → Pool) : Keeps s (s.modPool n f) :=
  ⟨rfl, rfl, fun h => by simp_all [State.sound, Media.sound, Ten.sound, State.modPool, Cells.mod, Cells.wf_put]⟩
theorem Keeps.modBand (s : State) (n : Nat) (f : Band → Band) : Keeps s (s.modBand n f) :=
  ⟨rfl, rfl, fun h => by simp_all [State.sound, Media.sound, Ten.sound, State.modBand, Cells.mod, Cells.wf_put]⟩
theorem Keeps.modChan (s : State) (n : Nat) (f : Chan → Chan) : Keeps s (s.modChan n f) :=
  ⟨rfl, rfl, fun h => by simp_all [State.sound, Media.sound, Ten.sound, State.modChan, Cells.mod, Cells.wf_put]⟩
theorem Keeps.modLane (s : State) (n : Nat) (f : Lane → Lane) : Keeps s (s.modLane n f) :=
  ⟨rfl, rfl, fun h => by simp_all [State.sound, Media.sound, Ten.sound, State.modLane, Cells.mod, Cells.wf_put]⟩
theorem Keeps.send (s : State) (n op : Nat) (m : CartCmd) (w : Purpose) : Keeps s (s.send n op m w) := Keeps.modSlot s n _
theorem Keeps.retireTag (s : State) (n t : Nat) : Keeps s (s.retireTag n t) := Keeps.modSlot s n _
theorem Keeps.media' (s : State) (n off k : Nat) : Keeps s (s.media' n off k) := by
  unfold State.media'
  split
  · exact Keeps.modSlot s n _
  · exact ⟨rfl, rfl, fun h => h⟩
theorem Keeps.askPower (s : State) (n : Nat) : Keeps s (s.askPower n) := Keeps.modSlot s n _

/-- The queue of the guestbook never holds more than 1,024 records (R466). -/
theorem Keeps.enqueue (s : State) (r : Rec) : Keeps s (s.enqueue r) := by
  unfold State.enqueue
  split
  · exact ⟨rfl, rfl, fun h => by simp_all [State.sound, Gbk.sound]⟩
  · exact (Keeps.bump s (dwGBK + 0x10) 1).trans (.of_eq rfl rfl rfl)
/-- At most 64 keys are tracked (R465). -/
theorem Keeps.log (s : State) (code : Nat) (ps : List Nat) : Keeps s (s.log code ps) := by
  unfold State.log
  dsimp only
  split
  · exact Keeps.enqueue s _
  · split
    · exact (Keeps.bump s (dwGBK + 0x18) 1).trans ⟨rfl, rfl, fun h => by simp_all [State.sound, Gbk.sound]⟩
    · split
      · exact (Keeps.enqueue s _).trans ⟨rfl, rfl, fun h => by simp_all [State.sound, Gbk.sound]⟩
      · exact Keeps.enqueue s _

theorem Keeps.aen (s : State) (n : Nat) (e : Aen) : Keeps s (s.aen n e) := by
  unfold State.aen
  split
  · exact (Keeps.modCtrl s n _).trans (Keeps.post _ _ _ _ _ _)
  · exact Keeps.modCtrl s n _
theorem Keeps.aenManagers (s : State) (p : Nat) : Keeps s (s.aenManagers p) := Keeps.each (fun t m => Keeps.aen t m _)
theorem Keeps.latch (s : State) (b : Nat) : Keeps s (s.latch b) := by
  unfold State.latch
  dsimp only
  split
  · exact (Keeps.raise s _ _).trans (.of_eq rfl rfl rfl)
  · exact Keeps.raise s _ _
theorem Keeps.cmdArrives (s : State) (c : Cmd) : Keeps s (s.cmdArrives c) := by
  unfold State.cmdArrives
  split
  · exact .refl s
  · dsimp only
    split
    · exact Keeps.modCtrl s _ _
    · exact (Keeps.latch s 8).trans (Keeps.modCtrl _ _ _)
theorem Keeps.check {s : State} {c : Cmd} {ok : Bool} {f : State → State} (h : Keeps s (f s)) : Keeps s (s.check c ok f) := by
  cases ok
  · exact Keeps.refuse s c _
  · exact h
theorem Keeps.slotEvent (s : State) (n b : Nat) : Keeps s (s.slotEvent n b) := by
  unfold State.slotEvent
  dsimp only
  split
  · split
    · exact (Keeps.raise s _ _).trans (Keeps.modSlot _ _ _)
    · exact ((Keeps.raise s _ _).trans (Keeps.modSlot _ _ _)).trans (Keeps.aenManagers _ _)
  · exact Keeps.raise s _ _
theorem Keeps.powerDown (s : State) (n : Nat) : Keeps s (s.powerDown n) := by
  unfold State.powerDown
  dsimp only
  split
  · exact (Keeps.slotEvent s n 5).trans (Keeps.modSlot _ _ _)
  · exact Keeps.modSlot s n _
theorem Keeps.reject (s : State) (n r : Nat) : Keeps s (s.reject n r) := by
  unfold State.reject
  dsimp only
  exact (((Keeps.powerDown s n).trans (Keeps.modSlot _ _ _)).trans (Keeps.slotEvent _ _ _)).trans (Keeps.log _ _ _)

theorem KeepsOut.winWrite {p : Path} {off : Nat} {s : State} {f : State → State} (h : Keeps s (f s)) : KeepsOut s (winWrite p off s f) := by
  rcases winWrite_cases p off s f with ⟨-, e⟩ | ⟨-, e⟩ | ⟨-, e⟩ <;> rw [e]
  · exact .next h
  · exact .next (Keeps.log s _ _)
  · exact .next (.refl s)
theorem KeepsOut.onSlot {s : State} {n : Nat} {f : State → State} (h : Keeps s (f s)) : KeepsOut s (onSlot s n f) := by
  rcases onSlot_cases s n f with ⟨-, e⟩ | ⟨-, -, e⟩ | ⟨-, -, e⟩ <;> rw [e]
  · exact .fault
  · exact .next (.refl s)
  · exact .next h
theorem KeepsOut.adminOf {present mgr : Bool} {c : Cmd} {s : State} {f : State → State} (h : ∀ t, Keeps t (f t)) : KeepsOut s (adminOf present mgr c s f) := by
  unfold Machine.adminOf
  split
  · exact .next (.refl s)
  · dsimp only
    have k := Keeps.cmdArrives s c
    split
    · exact .next (k.trans (Keeps.refuse _ _ _))
    · split
      · exact .next (k.trans (Keeps.refuse _ _ _))
      · split
        · exact .next (k.trans (Keeps.refuse _ _ _))
        · exact .next (k.trans (h _))
theorem KeepsOut.adminCmd {mgr : Bool} {c : Cmd} {s : State} {f : State → State} (h : ∀ t, Keeps t (f t)) : KeepsOut s (adminCmd mgr c s f) := .adminOf h

end Sys2Proof.Machine
end

