-- ==== Sys2Proof/Tests/Slice0.lean ====
section
/-! SUPPORT. The model's own tests: ill-formed operands refused, the spec's worked examples, and for each statement with hypotheses a state and operands that meet them. -/

namespace Sys2Proof.Tests

open Sys2Proof Sys2Proof.Machine

set_option Elab.async false

/-! ## Ill-formed operands: one term for each check -/

theorem test_ill_formed_0 : ([Instr.dwRegisterWrite .bar2 0x400000 4 0,
    Instr.dwRegisterWrite .bar2 0 9 0,
    Instr.dwClearingRead .bar2 0x400000 4,
    Instr.dwClearingRead .bar2 0 9,
    Instr.deviceWindowAccess { id := ⟨0, 0, 0⟩, fuse := 4 },
    Instr.shadowWrite .bar2 0x400000 0,
    Instr.presenceLow 64,
    Instr.cartRemoved 64,
    Instr.cartAlert 64,
    Instr.getHealthTimeout 64,
    Instr.cartPowerTimeout 64,
    Instr.trainingTimeout 64,
    Instr.farEndSignal 64,
    Instr.identifyTimeout 64,
    Instr.descriptorReceived 64 [],
    Instr.authTimeout 64,
    Instr.seqUpdateTimeout 64,
    Instr.pwrOff .bar2 64,
    Instr.pwrOn .bar2 64,
    Instr.linkReset .bar2 64,
    Instr.retrain .bar2 64,
    Instr.fastRetrain 64 0,
    Instr.eventEnWrite .bar2 64 0,
    Instr.migrateDone 64,
    Instr.controlBlock 64 true ⟨[], []⟩] : List Instr).all (fun i => !i.wf) = true := by decide +kernel
theorem test_ill_formed_1 : ([Instr.ack 64 true 0,
    Instr.nak 64 true 0,
    Instr.ackTimer 64 true,
    Instr.replayTimeout 64 true,
    Instr.linkMgmt 64 true 0 0,
    Instr.dataFrame 64 true 0 0 ⟨1, 64⟩ 0 0 [],
    Instr.dataFrame 0 true 4096 0 ⟨1, 64⟩ 0 0 [],
    Instr.xferRdy 64 0 0 0,
    Instr.xferRdy 0 4096 0 0,
    Instr.success 64 0,
    Instr.success 0 4096,
    Instr.dataReceived 64 0,
    Instr.dataReceived 0 4096,
    Instr.programReplaced 64 0 0 0 0,
    Instr.programReplaced 0 4096 0 0 0,
    Instr.programReplaced 0 0 256 0 0,
    Instr.programFail 64 0 true,
    Instr.programFail 0 4096 true,
    Instr.notErased 64 0,
    Instr.notErased 0 4096,
    Instr.retiredBlock 64 0,
    Instr.retiredBlock 0 4096,
    Instr.eraseFail 64 0,
    Instr.eraseFail 0 4096,
    Instr.dieFail 64 0] : List Instr).all (fun i => !i.wf) = true := by decide +kernel
theorem test_ill_formed_2 : ([Instr.dieFail 0 4096,
    Instr.cmdRefused 64 0 0,
    Instr.cmdRefused 0 4096 0,
    Instr.fwInvalid 64 0,
    Instr.fwInvalid 0 4096,
    Instr.fwNotLoaded 64 0,
    Instr.fwNotLoaded 0 4096,
    Instr.shutDown 64 0,
    Instr.shutDown 0 4096,
    Instr.cartIdentify 64 { tag := 0 },
    Instr.cartIdentify 0 { tag := 65536 },
    Instr.getCert 64 { tag := 0 },
    Instr.getCert 0 { tag := 65536 },
    Instr.challenge 64 { tag := 0 } 0 0,
    Instr.challenge 0 { tag := 65536 } 0 0,
    Instr.sync 64 { tag := 0 },
    Instr.sync 0 { tag := 65536 },
    Instr.cartRead 64 ⟨{ tag := 0 }, true⟩,
    Instr.cartProgram 64 { tag := 0 } true,
    Instr.cartProgram 0 { tag := 65536 } true,
    Instr.dieProgramDone 64 0 true true,
    Instr.dieProgramDone 0 4096 true true,
    Instr.erase 64 { tag := 0 },
    Instr.erase 0 { tag := 65536 },
    Instr.bufferRead 64 { tag := 0 }] : List Instr).all (fun i => !i.wf) = true := by decide +kernel
theorem test_ill_formed_3 : ([Instr.bufferRead 0 { tag := 65536 },
    Instr.bufferRelease 64 { tag := 0 },
    Instr.bufferRelease 0 { tag := 65536 },
    Instr.wearRead 64 { tag := 0 },
    Instr.wearRead 0 { tag := 65536 },
    Instr.lifeRead 64 { tag := 0 },
    Instr.lifeRead 0 { tag := 65536 },
    Instr.retireBlock 64 { tag := 0 },
    Instr.retireBlock 0 { tag := 65536 },
    Instr.fwDownload 64 { tag := 0 } [],
    Instr.fwDownload 0 { tag := 65536 } [],
    Instr.fwActivate 64 { tag := 0 } true,
    Instr.fwActivate 0 { tag := 65536 } true,
    Instr.getHealth 64 { tag := 0 },
    Instr.getHealth 0 { tag := 65536 },
    Instr.cartShutdown 64 { tag := 0 },
    Instr.cartShutdown 0 { tag := 65536 },
    Instr.eccInj .bar2 64 0,
    Instr.patrol 4 0 0,
    Instr.slcUnitTimeout 4,
    Instr.journalUnitTimeout 4 0,
    Instr.journalUnitTimeout 0 64,
    Instr.frontierFill 4096 0,
    Instr.fold 4096 0,
    Instr.logGc 4 0] : List Instr).all (fun i => !i.wf) = true := by decide +kernel
theorem test_ill_formed_4 : ([Instr.reserveErase 64 0 0,
    Instr.reserveErase 0 256 0,
    Instr.wearCheck 4,
    Instr.lifeForecast 4,
    Instr.read { id := ⟨0, 0, 0⟩, fuse := 4 },
    Instr.write { id := ⟨0, 0, 0⟩, fuse := 4 },
    Instr.stagingReserved ⟨65536, 0, 0⟩,
    Instr.rangeLockGrant ⟨65536, 0, 0⟩,
    Instr.barrierPass ⟨65536, 0, 0⟩,
    Instr.writeComplete ⟨65536, 0, 0⟩,
    Instr.tSlowExpiry 64 0,
    Instr.tSlowExpiry 0 4096,
    Instr.slowProbe 64,
    Instr.tFailExpiry 64,
    Instr.slowRatioCheck 64,
    Instr.rebuildRow 4 0 0,
    Instr.spareRetry 4,
    Instr.portMode .bar2 4 0,
    Instr.frameReceive 64 { len := 64, fcsOk := true, addrEntry := none, known := true, pcp := 0, dscp := 0, protectedFrame := false, eapol := false },
    Instr.frameReceive 0 { len := 65536, fcsOk := true, addrEntry := none, known := true, pcp := 0, dscp := 0, protectedFrame := false, eapol := false },
    Instr.pfcFrame 64 0 0,
    Instr.pfcFrame 0 8 0,
    Instr.pfcPauseRefresh 64 0,
    Instr.pfcPauseRefresh 0 8,
    Instr.pfcStorm 64 0] : List Instr).all (fun i => !i.wf) = true := by decide +kernel
theorem test_ill_formed_5 : ([Instr.pfcStorm 0 8,
    Instr.pfcStormClear 64 0,
    Instr.pfcStormClear 0 8,
    Instr.portLinkUp 64,
    Instr.portLinkDown 64 0,
    Instr.icreq 0 64 0 0 0 0 true true true true,
    Instr.addressEntryWrite .bar2 64 0 0 0,
    Instr.addressEntryWrite .bar2 0 16 0 0,
    Instr.addressEntryWrite .bar2 0 0 8 0,
    Instr.mkaLoad .bar2 64,
    Instr.sakDistribution 64,
    Instr.pnExhausted 64 true true 0,
    Instr.mkaPeerTimeout 64,
    Instr.flr 256,
    Instr.flush { id := ⟨0, 0, 0⟩, fuse := 4 },
    Instr.compare { id := ⟨0, 0, 0⟩, fuse := 4 },
    Instr.writeZeroes { id := ⟨0, 0, 0⟩, fuse := 4 },
    Instr.datasetManagement { id := ⟨0, 0, 0⟩, fuse := 4 },
    Instr.verify { id := ⟨0, 0, 0⟩, fuse := 4 },
    Instr.ioManagementReceive { id := ⟨0, 0, 0⟩, fuse := 4 },
    Instr.ioManagementSend { id := ⟨0, 0, 0⟩, fuse := 4 },
    Instr.deleteIoSubmissionQueue { id := ⟨0, 0, 0⟩, fuse := 4 },
    Instr.createIoSubmissionQueue { id := ⟨0, 0, 0⟩, fuse := 4 },
    Instr.deleteIoCompletionQueue { id := ⟨0, 0, 0⟩, fuse := 4 },
    Instr.createIoCompletionQueue { id := ⟨0, 0, 0⟩, fuse := 4 }] : List Instr).all (fun i => !i.wf) = true := by decide +kernel
theorem test_ill_formed_6 : ([Instr.getLogPage { id := ⟨0, 0, 0⟩, fuse := 4 },
    Instr.cartridgeHealth { id := ⟨0, 0, 0⟩, fuse := 4 },
    Instr.lostLbaList { id := ⟨0, 0, 0⟩, fuse := 4 },
    Instr.rebuildProgress { id := ⟨0, 0, 0⟩, fuse := 4 },
    Instr.guestbookLog { id := ⟨0, 0, 0⟩, fuse := 4 },
    Instr.throttleAndDisturbance { id := ⟨0, 0, 0⟩, fuse := 4 },
    Instr.searchStatistics { id := ⟨0, 0, 0⟩, fuse := 4 },
    Instr.startUpReport { id := ⟨0, 0, 0⟩, fuse := 4 },
    Instr.identify { id := ⟨0, 0, 0⟩, fuse := 4 },
    Instr.abort { id := ⟨0, 0, 0⟩, fuse := 4 },
    Instr.setFeatures { id := ⟨0, 0, 0⟩, fuse := 4 },
    Instr.getFeatures { id := ⟨0, 0, 0⟩, fuse := 4 },
    Instr.tenantQos { id := ⟨0, 0, 0⟩, fuse := 4 },
    Instr.roomKey { id := ⟨0, 0, 0⟩, fuse := 4 },
    Instr.firmwareConfirm { id := ⟨0, 0, 0⟩, fuse := 4 },
    Instr.epochLength { id := ⟨0, 0, 0⟩, fuse := 4 },
    Instr.rebuildShare { id := ⟨0, 0, 0⟩, fuse := 4 },
    Instr.memberTimers { id := ⟨0, 0, 0⟩, fuse := 4 },
    Instr.writePathPolicy { id := ⟨0, 0, 0⟩, fuse := 4 },
    Instr.cartridgeAdmissionPolicy { id := ⟨0, 0, 0⟩, fuse := 4 } [],
    Instr.timestamp { id := ⟨0, 0, 0⟩, fuse := 4 },
    Instr.powerManagement { id := ⟨0, 0, 0⟩, fuse := 4 },
    Instr.asynchronousEventRequest { id := ⟨0, 0, 0⟩, fuse := 4 },
    Instr.namespaceCreate { id := ⟨0, 0, 0⟩, fuse := 4 },
    Instr.namespaceDelete { id := ⟨0, 0, 0⟩, fuse := 4 }] : List Instr).all (fun i => !i.wf) = true := by decide +kernel
theorem test_ill_formed_7 : ([Instr.namespaceAttachment { id := ⟨0, 0, 0⟩, fuse := 4 },
    Instr.keepAlive { id := ⟨0, 0, 0⟩, fuse := 4 },
    Instr.propertySet { id := ⟨0, 0, 0⟩, fuse := 4 },
    Instr.propertyGet { id := ⟨0, 0, 0⟩, fuse := 4 },
    Instr.authenticationSend { id := ⟨0, 0, 0⟩, fuse := 4 },
    Instr.authenticationReceive { id := ⟨0, 0, 0⟩, fuse := 4 } true,
    Instr.disconnect { id := ⟨0, 0, 0⟩, fuse := 4 },
    Instr.formatNvm { id := ⟨0, 0, 0⟩, fuse := 4 },
    Instr.cryptoErase { id := ⟨0, 0, 0⟩, fuse := 4 },
    Instr.blockErase { id := ⟨0, 0, 0⟩, fuse := 4 },
    Instr.overwrite { id := ⟨0, 0, 0⟩, fuse := 4 },
    Instr.tenantCreate { id := ⟨0, 0, 0⟩, fuse := 4 },
    Instr.tenantDelete { id := ⟨0, 0, 0⟩, fuse := 4 },
    Instr.tenantReset { id := ⟨0, 0, 0⟩, fuse := 4 },
    Instr.resources { id := ⟨0, 0, 0⟩, fuse := 4 },
    Instr.hosts { id := ⟨0, 0, 0⟩, fuse := 4 },
    Instr.bindVf { id := ⟨0, 0, 0⟩, fuse := 4 },
    Instr.nsAssign { id := ⟨0, 0, 0⟩, fuse := 4 },
    Instr.nsRelease { id := ⟨0, 0, 0⟩, fuse := 4 },
    Instr.global { id := ⟨0, 0, 0⟩, fuse := 4 },
    Instr.drain { id := ⟨0, 0, 0⟩, fuse := 4 },
    Instr.undrain { id := ⟨0, 0, 0⟩, fuse := 4 },
    Instr.seqUpdate { id := ⟨0, 0, 0⟩, fuse := 4 },
    Instr.powerOff { id := ⟨0, 0, 0⟩, fuse := 4 },
    Instr.powerOn { id := ⟨0, 0, 0⟩, fuse := 4 }] : List Instr).all (fun i => !i.wf) = true := by decide +kernel
theorem test_ill_formed_8 : ([Instr.release { id := ⟨0, 0, 0⟩, fuse := 4 },
    Instr.poolCreate { id := ⟨0, 0, 0⟩, fuse := 4 },
    Instr.poolAdd { id := ⟨0, 0, 0⟩, fuse := 4 },
    Instr.poolRemove { id := ⟨0, 0, 0⟩, fuse := 4 },
    Instr.poolSet { id := ⟨0, 0, 0⟩, fuse := 4 },
    Instr.poolDelete { id := ⟨0, 0, 0⟩, fuse := 4 },
    Instr.poolReport { id := ⟨0, 0, 0⟩, fuse := 4 },
    Instr.keyLookupShort { id := ⟨0, 0, 0⟩, fuse := 4 },
    Instr.keyLookupLong { id := ⟨0, 0, 0⟩, fuse := 4 },
    Instr.keyLookupBatch { id := ⟨0, 0, 0⟩, fuse := 4 },
    Instr.keyNext { id := ⟨0, 0, 0⟩, fuse := 4 },
    Instr.keyInsert { id := ⟨0, 0, 0⟩, fuse := 4 },
    Instr.keyDelete { id := ⟨0, 0, 0⟩, fuse := 4 },
    Instr.tcamScrub 16,
    Instr.patternImageLoad { id := ⟨0, 0, 0⟩, fuse := 4 },
    Instr.patternImageLoadFinal { id := ⟨0, 0, 0⟩, fuse := 4 } true,
    Instr.patternImageUnload { id := ⟨0, 0, 0⟩, fuse := 4 },
    Instr.scanStart { id := ⟨0, 0, 0⟩, fuse := 4 },
    Instr.scanChunk 64 [] [] [] [],
    Instr.scanRelease 64,
    Instr.scanFetch { id := ⟨0, 0, 0⟩, fuse := 4 },
    Instr.scanFetchWaitExpiry ⟨65536, 0, 0⟩,
    Instr.scanCancel { id := ⟨0, 0, 0⟩, fuse := 4 },
    Instr.dramRecalibration 8 0,
    Instr.dramRefresh 8 0 0 true 0 0] : List Instr).all (fun i => !i.wf) = true := by decide +kernel
theorem test_ill_formed_9 : ([Instr.flSequenceStep (.core 0) 0x400000 0,
    Instr.firmwareImageDownload { id := ⟨0, 0, 0⟩, fuse := 4 },
    Instr.replace { id := ⟨0, 0, 0⟩, fuse := 4 },
    Instr.replaceActivateNext { id := ⟨0, 0, 0⟩, fuse := 4 },
    Instr.activateNext { id := ⟨0, 0, 0⟩, fuse := 4 },
    Instr.replaceActivateNow { id := ⟨0, 0, 0⟩, fuse := 4 },
    Instr.rollingSeqUpdate 64,
    Instr.wakePin 4 true,
    Instr.linkWake 4,
    Instr.cartridgeWake 64 true,
    Instr.guestbookRead { id := ⟨0, 0, 0⟩, fuse := 4 },
    Instr.nonce { id := ⟨0, 0, 0⟩, fuse := 4 },
    Instr.clear { id := ⟨0, 0, 0⟩, fuse := 4 } true,
    Instr.ownerSet { id := ⟨0, 0, 0⟩, fuse := 4 } true true,
    Instr.dmaStart .bar2 32,
    Instr.dmaAbort .bar2 32,
    Instr.dmaResume .bar2 32,
    Instr.patternMode .bar2 208 0,
    Instr.inj .bar2 208 0,
    Instr.readNvmeMiDataStructure 64 0 0,
    Instr.nvmSubsystemHealthStatusPoll 64 true,
    Instr.controllerHealthStatusPoll 64 0,
    Instr.configurationGet 64 0,
    Instr.configurationSet 64 0 0,
    Instr.nvmeAdminCommandTunnel 64 0 { id := ⟨0, 0, 0⟩ }] : List Instr).all (fun i => !i.wf) = true := by decide +kernel
theorem test_ill_formed_10 : ([Instr.nvmeAdminCommandTunnel 0 0 { id := ⟨0, 0, 0⟩, fuse := 4 },
    Instr.dieEraseDone 64 0 .erased,
    Instr.dieEraseDone 0 4096 .erased,
    Instr.checkerLocked 208,
    Instr.checkerLostLock 208,
    Instr.pcieLinkUp 0 9 true true,
    Instr.pfcPauseExpiry 64 0,
    Instr.pfcPauseExpiry 0 8] : List Instr).all (fun i => !i.wf) = true := by decide +kernel
theorem test_ill_formed_rest : ([Instr.linkUp 64 { pver := 1, cmdDepth := 512, lane0 := true, lane1 := true }, Instr.signatureReceived 64 ⟨.root, true, 1, 0, []⟩ ⟨0, 0, 0, 0⟩,
    Instr.retrainDone 64 true true { pver := 1, cmdDepth := 512, lane0 := true, lane1 := true }, Instr.lifePoll 64 ⟨0, 0, 0, 0⟩,
    Instr.census 4 {}, Instr.cartRead 0 ⟨{ tag := 65536 }, true⟩, Instr.cartInserted ⟨64, none⟩, Instr.controlBlock 64 true ⟨[], []⟩, Instr.pwrKeyMgr .bar2 18 0,
    Instr.codewordArrival 64 0 0 ⟨0, true, 0, 0⟩, Instr.codewordArrival 0 4096 0 ⟨0, true, 0, 0⟩,
    Instr.writeDataArrival ⟨65536, 0, 0⟩ 0 [] [] true true, Instr.connect { id := ⟨0, 0, 0⟩, fuse := 4 } ⟨0, 0, 0, 0, 0, 0, 32, 65535, false⟩,
    Instr.dramActivation 8 0 0 [] [] .clean, Instr.dramPatrolScrub 8 .clean, Instr.descriptorFetch 32 ⟨0, 0, 0, 0, 0, 0, 0, 0⟩,
    Instr.dmaRetry 32 (.flashError 0)] : List Instr).all (fun i => !i.wf) = true := by decide +kernel

/-- A UX6464 in normal mode, its firmware running, with the PF0 controller enabled and ready. -/
def live : State :=
  { pwr := { phase := .run, porst := true, perst := false }
    io := { ctrls := [(0, { exist := true, kind := .pf0, en := true, rdy := true })] }
    fw := { version := 7 } }

/-- A descriptor of R46: 3 bits per cell, 64 dies, 1,024 die-blocks offered, 1,024 SLC pages, an authenticating cartridge. -/
def descBody : List Byte :=
  pageOf 508 [(0, 4, 0x4D434453), (4, 2, 1), (6, 2, 512), (8, 16, 0x55), (24, 16, 7), (40, 8, 5), (50, 2, 64), (52, 1, 4), (53, 1, 3), (54, 2, 1024), (56, 2, 32),
    (58, 2, 3072), (60, 2, 1024), (62, 2, 16384), (64, 2, 2048), (66, 2, 256), (68, 4, 3000), (72, 4, 100000), (84, 4, 0x04000000), (92, 1, 1)]
def goodDesc : List Byte := descBody ++ toLe 4 (crc32c descBody)

/-- A control block of superframe 0 with three idle messages. -/
def blockBody : List Byte := pageOf 60 [(0, 2, 0x1000)]
def goodBlock : List Byte := blockBody ++ toLe 4 (crc32 blockBody)

def oddBody : List Byte := pageOf 60 [(0, 2, 0x2000)]
/-- A control block of version 2. -/
def oddBlock : List Byte := oddBody ++ toLe 4 (crc32 oddBody)

def unitCmd (tag uid : Nat) : OutCmd := { op := 0x20, m := { tag := tag, count := 48 }, why := .unit uid, tSlow := 0 }
def eraseCmd (tag block : Nat) : OutCmd := { op := 0x21, m := { tag := tag, block := block }, why := .erase 0 block 1, tSlow := 0 }
def cwOk : CwArrival := { zeros := 0, decoded := true, corrected := 0, word := 0 }
def bandUnit (uid : Nat) : Machine.PUnit := { uid := uid, kind := .band 1 0 0, at_ := ⟨3, 0, 5⟩, pwl := 0, mode := 1 }

/-- A sequencer that has erased die-block 5 of die 0 for SLC and has nothing outstanding. -/
def seqA : Seq :=
  { desc := goodDesc
    blocks := [(5, { mode := 1, slc := 1, fresh := true }), (6, { mode := 1, slc := 2 })] }
def onSeq (q : Seq) : State := { live with slots := [(3, { st := .admitted, pwren := true, phase := 5 })], seqs := [(3, q)] }
def seqLive : State := onSeq seqA
def seqHeld : State := onSeq { seqA with heldData := [(9, [(0, [1, 2])])] }
def seqImage : State := onSeq { seqA with fwBytes := [(0, 2)] }
def seqPC : SeqCmd := { op := 0x20, m := { tag := 4, block := 5, page := 2, mode := 1, count := 2 }, state := 2, frames := [(1, [2]), (0, [1])] }
def seqProg : State := onSeq { seqA with cmds := [(4, seqPC)] }

def nsFill : Ns := { nsid := 1, nsx := 0, pool := 0, lbaf := 0, nsze := 100, nNs := 3, segs := [(0, { a := some 5 })] }
def nsFold : Ns := { nsid := 1, nsx := 0, pool := 0, lbaf := 0, nsze := 100, nNs := 3, segs := [(0, { folding := some 6 })] }
def nsFold0 : Ns := { nsid := 1, nsx := 0, pool := 0, lbaf := 0, nsze := 100, nNs := 1, segs := [(0, { early := true })] }
/-- A pool of five members with a segment that an early closing left to be folded. -/
def foldState : State :=
  { live with
    slots := [0, 1, 2, 3, 4].map (fun n => (n, { st := .inService, pool := some 0, midx := n }))
    media := { nss := [nsFold0], pools := [(0, { exist := true, cls := [0x55, 3, 64, 1024, 3072] })] } }

def nsIo : Ns := { nsid := 1, nsx := 0, pool := 0, lbaf := 0, nsze := 1000, nNs := 1, attached := [0], policy := 1 }
def nsFdp : Ns := { nsid := 2, nsx := 1, pool := 0, lbaf := 0, nsze := 1000, nNs := 1, attached := [0], flags := 1, handles := 2 }
/-- A ready pool of eight members with two namespaces of tenant 0, and nothing at work. -/
def ioState : State :=
  { live with
    dw := { inForce := [(stBandWidth 0, 4)] }
    slots := [0, 1, 2, 3, 4, 5, 6, 7].map (fun n => (n, { st := .inService, pool := some 0, midx := n }))
    media := { nss := [nsIo, nsFdp], pools := [(0, { exist := true, pstate := 2, cls := [0x55, 3, 64, 1024, 6] })] }
    io := { live.io with tok := [((0, 0), 1), ((1, 0), 1), ((2, 0), 1)] } }
def ioShort : State := { ioState with media := { ioState.media with nss := [{ nsIo with nsze := 30 }] } }
def rdCmd : Cmd := { id := ⟨0, 1, 5⟩, nsid := 1, cdw10 := 7, cdw12 := 1 }
def wrCmd : Cmd := { id := ⟨0, 1, 5⟩, nsid := 1, cdw10 := 7, cdw12 := 1 }
def wrLock : Lock := { id := ⟨0, 1, 5⟩, nsid := 1, lo := 7, hi := 9, excl := true, granted := false, ord := 0 }
def wrFlight : Flight := { op := 1, c := wrCmd, tenant := 0, stage := .started, seq := 4, asked := 2, arrived := 1 }
/-- A namespace with 8-byte protection information of Type 1, and a write to it that checks the reference tag. -/
def nsPi : Ns := { nsIo with lbaf := 1, dps := 1 }
def wrFlightP : Flight := { wrFlight with c := { wrCmd with cdw12 := 1 + 2 ^ 26, cdw14 := 5 } }
def ioOff : State := { ioState with pwr := {} }
def tcpConn : Conn := { id := 4, port := 0, entry := 0, rdma := false, maxR2t := 1, ddgst := true, ctrl := some 256, qid := 1 }
/-- The same pool reached over NVMe/TCP with data digests. -/
def ioFabric : State :=
  { ioState with
    io := { ioState.io with ctrls := [(256, { exist := true, kind := .fabric, en := true, rdy := true })] }
    host := { conns := [tcpConn] } }
def wrFlightF : Flight := { wrFlight with c := { wrCmd with id := ⟨256, 1, 5⟩ } }
def liveCq : State := { live with io := { ctrls := [(0, { exist := true, kind := .pf0, en := true, rdy := true, cqs := [1] })] } }
/-- A fabric controller of the Manager's subsystem, not yet enabled. -/
def fabric : State := { live with io := { ctrls := [(256, { exist := true, kind := .fabric })] } }
/-- Group 0 in mode 1 with port 0 up, NVMe/TCP on and address entry 0 valid. -/
def portUp : State :=
  { live with
    dw := { regs := [(dwPORT 0, rwReset (dwPORT 0) ||| 7), (dwPORT 0 + 0x110, 0x100), (dwGROUP 0, 1)] }
    host := { ports := [(0, { linkUp := true })] } }
def frameBad : Frame := { len := 64, fcsOk := false, addrEntry := none, known := true, pcp := 0, dscp := 0, protectedFrame := false, eapol := false }
def pfNone : State := { live with io := {} }
/-- Tenant 1 exists, with virtual function 2. -/
def tenState : State :=
  { live with ten := { tbl := [(1, { occupied := true, vf := 2, maxScans := 4, nqn := 0x312E6E716E })] } }
/-- Eight admitted cartridges of one class, in no pool, with DRAM for their maps. -/
def freshPool : State :=
  { live with
    slots := [0, 1, 2, 3, 4, 5, 6, 7].map (fun n => (n, { st := .admitted, desc := descBody, serial := 100 + n }))
    ddr := { cap := 64 } }
/-- A ready pool with nothing reserved, and DRAM for its maps. -/
def bigPool : State :=
  { live with
    dw := { inForce := [(stBandWidth 0, 4)], shadow := [(stBandWidth 0, 4)] }
    slots := [0, 1, 2, 3, 4, 5, 6, 7, 8].map (fun n => (n, { st := .inService, pool := some 0, midx := n }))
    media := { pools := [(0, { exist := true, pstate := 2, cls := [0x55, 3, 64, 1024, 6] })] }
    ddr := { cap := 64 } }
/-- Nine members of one class, and an admitted cartridge of that class in slot 9. -/
def addPool : State :=
  { bigPool with
    slots := [0, 1, 2, 3, 4, 5, 6, 7, 8].map (fun n => (n, { st := .inService, pool := some 0, midx := n, desc := descBody })) ++ [(9, { st := .admitted, desc := descBody, serial := 109 })]
    media := { pools := [(0, { exist := true, pstate := 2, cls := [0x55, 3, 64, 1024, 3072] })] } }
/-- A quarantined cartridge in slot 63 whose model the firmware bundles an image for. -/
def updState : State :=
  { live with slots := [(63, { st := .quarantined, desc := descBody, fwVer := 1 })], fw := { version := 7, bundle := [(0x55, 2, 0)] } }
def members40 : List Machine.Member := (List.range 40).map (fun n => { serial := 100 + n, idx := n, slot := n, st := 0 })
/-- A pool of 40 members with the whole of every share given to tenant 1. -/
def bigTen : State :=
  { live with
    dw := { inForce := [(stBandWidth 0, 4), (stTenant 1 284, 786432)] }
    slots := (List.range 40).map (fun n => (n, { st := .inService, pool := some 0, midx := n }))
    media := { pools := [(0, { exist := true, pstate := 2, cls := [0x55, 3, 64, 1024, 3072], members := members40 })] }
    ten := { tbl := [(1, { occupied := true })] } }
/-- Service mode, with slice controller 16 at work. -/
def sliceState : State :=
  { live with pwr := { live.pwr with mode := 1 }, io := { ctrls := [(0, { exist := true, kind := .pf0, en := true, rdy := true }), (16, { exist := true, kind := .slice 16, en := true, rdy := true, tenant := 16 })] } }
def tentA : TEnt := { valid := true, key := 0x5A, mask := 0xFF, prio := 3, result := 0x1_0000_0007 }
def tentB : TEnt := { valid := true, key := 0x0A, mask := 0x0F, prio := 9, result := 0x2_0000_0008 }
/-- Two entries of bank 0 that match key 5Ah, the second with the higher priority, and nothing at work. -/
def keyState : State :=
  { live with
    srch := { tcam := [(1, tentA), (2, tentB)], copies := [(1, tentA), (2, tentB)] }
    io := { live.io with tok := [((2, 0), 1)] } }
def batchCmd : Cmd := { id := ⟨0, 1, 6⟩, cdw2 := 0x20001, cdw10 := 1, buf := pageOf 32 [(0, 8, 0x5A)] }
def batchFlight : Flight := { op := 0x90, c := batchCmd, tenant := 0, stage := .started }
def scan1 : Scan := { sid := 1, ctrl := 0, tenant := 0, nsid := 1, image := 7, slba := 0, nlb := 300, all := false, banks := 1, lanes := 1 }
def gap0 : ScanRec := { end_ := 0, len := 0, pattern := 0, prio := 0, flags := 0, typ := 1, count := 0 }
def fetchCmd : Cmd := { id := ⟨0, 1, 9⟩, cdw10 := 1, cdw11 := 0x10001 }
def fetchFlight : Flight := { op := 0x99, c := fetchCmd, tenant := 0, stage := .started }
/-- An image of R361 with one section of one pattern. -/
def imgSec : List Byte := pageOf 12 [(0, 2, 5), (2, 2, 9), (4, 2, 16)]
def imgHeadBody : List Byte :=
  pageOf 508 [(0, 4, 0x4854534F), (4, 2, 1), (6, 1, 1), (7, 1, 1), (8, 4, 7), (12, 4, 1), (16, 2, 16), (32, 4, 4096), (36, 4, 12), (40, 4, 1), (44, 4, crc32c imgSec)]
def imgHead : List Byte := imgHeadBody ++ toLe 4 (crc32c imgHeadBody)
def imgBanks : List ABank := [{ image := 7, pats := [(5, 9, 16)], bytes := imgSec }]
def imgState : State := { live with srch := { loads := [(0, { image := 7, pieces := [(0, imgHead)] })] } }
/-- Slot 1 runs, confirmed. -/
def fwState : State := { live with fw := { version := 7, running := 1, bootRec := some { active := 1 } } }
def dmaDesc : Descriptor := { src := 0, dst := 0x1000, len := 4096, spaces := 5, flags := 1, burst := 4, reserved23 := 0, next := 0 }
/-- A Manager channel that waits for its descriptor. -/
def dmaState (ch : Nat) : State := { live with dma := { chans := [(ch, { st := 1, fetch := true })] }, host := { busMaster := true } }
/-- A Manager channel with a burst to do. -/
def dmaBusy : State := { live with dma := { chans := [(29, { st := 1, desc := some dmaDesc })] }, host := { busMaster := true } }
def rootGen0 : RootGen := { seq := 5, cls := [0x55, 3, 64, 1024, 3072], n := 4, logPm := 2, spare := 0, flags := 0, members := [{ serial := 100, idx := 0, slot := 7, st := 0 }], nss := [], regs := [] }
/-- A pool whose root names one member, its census due. -/
def censusState : State := { live with media := { pools := [(1, { pstate := 1, root := some rootGen0 })] } }
def stowedState : State := { live with pwr := { live.pwr with sleep := .asleep 1 } }
/-- Nothing holds a key on `CORE`. -/
def idleState : State := { live with pwr := { live.pwr with hold := 3 }, io := {} }
def dimms : List Dimm := [0, 1, 2, 3].map (fun c => { channel := c, dense32 := true, x8 := true, twoRanks := true, speed := 6400 })
def passes : List (Nat × ChannelResult) := [0, 1, 2, 3].map (fun c => (c, { failStep := 0, rankFail := 0, rdEye := 16, wrEye := 16, wrVref := 0, rdVref := 0 }))
def trainState : State := { live with pwr := { live.pwr with phase := .boot } }
def bareBody : List Byte := pageOf 508 [(0, 4, 0x4D434453), (4, 2, 1), (6, 2, 512), (24, 16, 7), (50, 2, 64), (52, 1, 4), (53, 1, 3), (54, 2, 1024), (58, 2, 3072), (60, 2, 1024),
    (62, 2, 16384), (64, 2, 2048), (66, 2, 256), (68, 4, 3000), (72, 4, 100000), (84, 4, 0x04000000)]
/-- A descriptor of a cartridge without certificates. -/
def bareDesc : List Byte := bareBody ++ toLe 4 (crc32c bareBody)
def ddrReq : DramReq := { addr := 0, write := false, req := 3, ns := 0 }
def ddrState : State := { live with ddr := { ready := true, chUp := 0xFF, cap := 16 } }
/-- An image of version 7 whose compatibility table lists its microcode version 3, in slot 1 (R424, R425, R427). -/
def tblHead : List Byte := pageOf 60 [(0, 4, 0x4C425443), (4, 2, 1), (8, 4, 1)]
def tblBody : List Byte := pageOf 48 [(0, 1, 1), (8, 8, 7), (16, 8, 3)]
def tblWords : List Byte := tblHead ++ toLe 4 (crc32c (tblHead ++ tblBody)) ++ tblBody
def fwWord (b : List Byte) (i : Nat) : FWord := { written := true, data := BitVec.ofNat 256 (leAt b (32 * i) 32) }
def dirBytes : List Byte := pageOf 128 [(0, 1, 4), (64, 1, 2), (80, 8, 3)]
def bootState : State :=
  { live with
    pwr := { live.pwr with phase := .trained }
    fw := { running := 1 }
    efl := { words := [(1, fwWord (pageOf 32 [(0, 8, 7), (21, 1, 2)]) 0), (16, fwWord dirBytes 0), (17, fwWord dirBytes 1), (18, fwWord dirBytes 2), (19, fwWord dirBytes 3),
      (2048, fwWord tblWords 0), (2049, fwWord tblWords 1), (2050, fwWord tblWords 2), (2051, fwWord tblWords 3)] } }
/-- A pool of eight members where a fold finds its band. -/
def foldWide : State :=
  { foldState with
    slots := [0, 1, 2, 3, 4, 5, 6, 7].map (fun n => (n, { st := .inService, pool := some 0, midx := n, desc := descBody }))
    media := { foldState.media with nss := [{ nsFold0 with nNs := 4 }], pools := [(0, { exist := true, pstate := 2, cls := [0x55, 3, 64, 1024, 3072] })] } }
def reserveState : State := { live with slots := [(3, { st := .inService, desc := descBody })], media := { blocks := [(⟨3, 63, 5⟩, { st := .shavings 9 })] } }
/-- A pool whose one old band lies far under its mean wear. -/
def wearState : State :=
  { live with
    gbk := { live.gbk with uptime := 3000000000 }
    slots := [(1, { st := .inService, pool := some 3, desc := goodDesc })]
    media := { nss := [{ nsFold0 with pool := 3 }], blocks := [(⟨1, 0, 0⟩, { dense := 2 ^ 40 }), (⟨1, 0, 1⟩, {})], bands := [(7, { role := 1, pool := 3, closed := true, closedMs := 5, members := [⟨1, 0, 1⟩] })] } }
def fabricOn : State := { live with io := { ctrls := [(256, { exist := true, kind := .fabric, en := true, rdy := true })] } }
def fabricAuth : State := { live with io := { ctrls := [(256, { exist := true, kind := .fabric, authReq := true, authed := false })] } }
/-- A controller of the Manager with all of tenant 0's queue contexts taken. -/
def manyCq : State := { live with io := { ctrls := [(0, { exist := true, kind := .pf0, en := true, rdy := true, cqs := [1], sqs := (List.range 511).map (fun n => (n + 2, 1)) })] } }
/-- Host 77 is on the list of tenant 1, with an association and a connection that awaits its Connect. -/
def joinState : State :=
  { live with
    dw := { inForce := [(stTenant 1 272, 65024)] }
    ten := { tbl := [(1, { occupied := true, nqn := 9, hosts := [{ nqn := 77, keyLen := 0, ckeyLen := 0, transform := 0, key := 0, ckey := 0 }] })] }
    io := { ctrls := [(256, { exist := true, kind := .fabric, tenant := 1, hostNqn := 77, en := true, rdy := true })] }
    host := { conns := [{ id := 5, port := 0, entry := 0, rdma := false }] } }
/-- A ready controller of tenant 1. -/
def tenCtrl : State := { live with io := { ctrls := [(1, { exist := true, kind := .vf 1, tenant := 1, en := true, rdy := true })] } }
def updIn : State := { updState with slots := [(63, { st := .inService, pool := some 0, phase := 5, desc := descBody, fwVer := 1 })] }
/-- A pool of five members with reserved segments: it can lose none. -/
def drainFull : State := { foldState with slots := [0, 1, 2, 3, 4].map (fun n => (n, { st := .inService, pool := some 0, midx := n })), media := { foldState.media with nss := [{ nsFold0 with nNs := 4 }] } }

/-! ## The spec's worked examples -/

/-- The UX6432 of the example after R21 reports `DEV_CAP` = 0x0134_969F: 32 slots, 2 host groups, key search and no scanning, 512 tenants. -/
theorem test_dev_cap_of_the_ux6432 : Part.cap .ux6432 = 0x0134969F ∧ Part.slots .ux6432 = 32 ∧ Part.groups .ux6432 = 2 ∧ Part.keySearch .ux6432 = true ∧
    Part.scan .ux6432 = false ∧ Part.tenants .ux6432 = 512 := by decide
/-- The parities of the 4 + 2 row of the example after R211, and what its two lost members are recovered as. -/
theorem test_parity_example : [0x12, 0x34, 0x56, 0x78].foldl (· ^^^ ·) 0 = 0x08 ∧
    [gfMul (gfPow 0) 0x12, gfMul (gfPow 1) 0x34, gfMul (gfPow 2) 0x56, gfMul (gfPow 3) 0x78] = [0x12, 0x68, 0x45, 0xE7] ∧
    [0x12, 0x68, 0x45, 0xE7].foldl (· ^^^ ·) 0 = 0xD8 ∧ recoverByte [(0, 0x12), (3, 0x78)] (some 0x08) (some 0xD8) [1, 2] = [(1, 0x34), (2, 0x56)] := by decide +kernel
/-- The pools of the example after R149: 64 MC-32T cartridges hold 1,434,108 segments and 64 MC-128Q cartridges 4,292,379. -/
theorem test_segments_of_a_pool : ({ cls := [0, 3, 128, 3312, 1152] } : Pool).segTotal 64 16 2 2 = 1434108 ∧
    ({ cls := [0, 4, 128, 9936, 1536] } : Pool).segTotal 64 16 2 2 = 4292379 := by decide +kernel
/-- The check value of CRC-32C over the digits 1 to 9 (its definition in R46 names the standard code). -/
theorem test_crc32c_check_value : crc32c [0x31, 0x32, 0x33, 0x34, 0x35, 0x36, 0x37, 0x38, 0x39] = 0xE3069283 := by decide +kernel
/-- The entries of the example after R359. -/
def exEnt (prio result : Nat) : TEnt := { valid := true, key := 0x5A, mask := 0xFF, prio := prio, result := result }
def exKeys : Cells TEnt := [(entNo 2 100, exEnt 500 0x11), (entNo 2 3000, exEnt 200 0x33), (entNo 5 7, exEnt 500 0x22)]
def exState : State := { keyState with srch := { tcam := exKeys, copies := exKeys }, dw := { inForce := [(stBankOwner 2, 0)] } }
def exLookup : Cmd := { id := ⟨0, 1, 5⟩, cdw2 := 0x10024, cdw10 := 0x5A }
/-- Its long lookup: `RESULT` 0x11, bank 2, index 100, `MULTI`, `TIE`, `COUNT` 3, and a cursor. -/
theorem test_long_lookup_example : (match exec (.keyLookupLong exLookup) exState with
    | .next t => t.io.posted.getLast?.map (fun e => (e.dw0, leAt e.data 10 1, leAt e.data 11 1, leAt e.data 12 2, leAt e.data 16 4)) == some (0x11, 2, 3, 100, 3) && t.srch.cursors.length == 1
    | _ => false) = true := by decide +kernel
/-- Its Key Next: bank 5 index 7 with `COUNT` 1. -/
theorem test_key_next_example : (match exec (.keyNext { id := ⟨0, 1, 6⟩, cdw10 := 0x8000, bufLen := 32 }) { exState with srch := { exState.srch with cursors := [{ token := 0x8000, ctrl := 0, tenant := 0, banks := 0x24, key := 0x5A, last := (500, 2, 100) }] } } with
    | .next t => t.io.posted.getLast?.map (fun e => (e.dw0, leAt e.data 10 1, leAt e.data 12 2, leAt e.data 16 4)) == some (0x22, 5, 7, 1)
    | _ => false) = true := by decide +kernel
/-- Codeword 14 of a TLC unit of wordline 88 is codeword 2 of page 0 of plane 1 (R98): page 1,057 of the die-block (R109), position 6 of the unit. -/
theorem test_link_order_of_a_unit : linkPos { op := 0x20, m := { tag := 0, page := 88, count := 48 }, why := .probe, tSlow := 0 } 14 = (6, 1057) := by decide
/-- The seed of that codeword on die 17, die-block 2,045: the CRC-32C of R108, computed by hand. -/
theorem test_scramble_seed : scrambleSeed 17 2045 1057 2 = 0x7DC8E76E := by decide +kernel
/-- The first run of the sequence holds the recurrence of x^31 + x^28 + 1 (R108): from a single one 31 places back, bit 0 is one. -/
theorem test_prbs31_run : prbsRun 1 = (1, 8) ∧ prbsRun 8 = (9, 72) := by decide

/-! ## What meets the hypotheses of each statement -/

theorem wit_StepRunsTheFrontCommand_1 : ∃ (c : Instr) (rest : List Instr) (s : State),
    s.pending = c :: rest :=
  ⟨.firmwareStart, [], { live with pending := [.firmwareStart] }, by decide +kernel⟩
theorem wit_StepRunsTheFrontCommand_2 : ∃ s : State,
    s.pending = [] :=
  ⟨live, by decide +kernel⟩
theorem wit_EveryCommandASenderCanGiveRuns_1 : ∃ (i : Instr) (s : State),
    i.wf = true :=
  ⟨.pwrKeyMgr .bar2 17 0#32, live, by decide +kernel⟩
theorem wit_DirtyShowsADifferingField_1 : ∃ s : State,
    s.sound = true :=
  ⟨live, by decide +kernel⟩
theorem wit_StagingCommandsCompleteAndKeepTheRest_1 : ∃ (p : Path) (off : Nat) (v : Word) (s : State),
    s.reach p off = .ok ∧
    isStOffset off = true :=
  ⟨.bar2, stEpochLen, 0xFFFFFFFF#32, live, by decide +kernel⟩
theorem wit_StagingCommandsCompleteAndKeepTheRest_2 : ∃ (p : Path) (s : State),
    s.reach p (dwSTAGE + 0x0C) = .ok ∧
    s.stage.armed = false :=
  ⟨.bar2, { live with stage := { window := some [] } }, by decide +kernel⟩
theorem wit_StagingCommandsCompleteAndKeepTheRest_3 : ∃ (p : Path) (s : State),
    s.reach p (dwSTAGE + 0x0C) = .ok ∧
    s.stage.armed = true ∧
    s.stage.window = none :=
  ⟨.bar2, { live with stage := { armed := true, commitEpoch := 1 } }, by decide +kernel⟩
theorem wit_StagingCommandsCompleteAndKeepTheRest_4 : ∃ (p : Path) (s : State),
    s.reach p (dwSTAGE + 0x0C) = .ok ∧
    s.stage.armed = true ∧
    s.stage.window ≠ none ∧
    s.stage.commitEpoch = s.stage.epoch + 1 :=
  ⟨.bar2, { live with stage := { armed := true, commitEpoch := 1, window := some [] } }, by decide +kernel⟩
theorem wit_StagingCommandsCompleteAndKeepTheRest_5 : ∃ (p : Path) (s : State),
    s.reach p (dwSTAGE + 0x0C) = .ok ∧
    s.stage.waiting = [] :=
  ⟨.bar2, { live with dw := { shadow := [(stEpochLen, 5)] }, stage := { armed := true, commitEpoch := 1 } }, by decide +kernel⟩
theorem wit_StagingCommandsCompleteAndKeepTheRest_6 : ∃ s : State,
    s.coreOn = true :=
  ⟨{ live with dw := { shadow := [(stEpochLen, 5)] } }, by decide +kernel⟩
theorem wit_EpochBoundaryCountsAndChecksTheArmedSet_1 : ∃ s : State,
    s.coreOn = true :=
  ⟨live, by decide +kernel⟩
theorem wit_EpochBoundaryCountsAndChecksTheArmedSet_2 : ∃ s : State,
    s.coreOn = false :=
  ⟨{ live with pwr := {} }, by decide +kernel⟩
theorem wit_EpochBoundaryCountsAndChecksTheArmedSet_3 : ∃ s : State,
    s.stage.armed = true ∧
    s.stage.commitEpoch ≤ s.stage.epoch ∧
    s.stage.waiting = [] ∧
    s.failing (s.stage.window.getD s.dw.shadow) s.checkIn = none ∧
    ((∀ b < 16, stGet (s.stage.window.getD s.dw.shadow) (stBankOwner b) = s.inf (stBankOwner b))) ∧
    ((∀ l < 64, stGet (s.stage.window.getD s.dw.shadow) (stLaneOwner l) = s.inf (stLaneOwner l))) :=
  ⟨{ live with stage := { epoch := 1, armed := true, commitEpoch := 1 }, dw := { shadow := [(stEpochLen, 200)] } }, by decide +kernel⟩
theorem wit_EpochBoundaryCountsAndChecksTheArmedSet_4 : ∃ (s : State) (r : Nat),
    s.stage.armed = true ∧
    s.stage.commitEpoch ≤ s.stage.epoch ∧
    s.stage.waiting = [] ∧
    s.failing (s.stage.window.getD s.dw.shadow) s.checkIn = some r :=
  ⟨{ live with stage := { epoch := 1, armed := true, commitEpoch := 1 }, dw := { shadow := [(stEpochLen, 1)] } }, 1, by decide +kernel⟩
theorem wit_WindowAccessesCompleteAtTheirRegister_1 : ∃ (p : Path) (off width : Nat) (v : Word) (s : State),
    off < 0x400000 :=
  ⟨.bar2, dwXPORT, 2, 5#32, live, by decide +kernel⟩
theorem wit_WindowAccessesCompleteAtTheirRegister_2 : ∃ (p : Path) (off : Nat) (v : Word) (s : State),
    s.reach p off = .ok ∧
    off % 4 = 0 ∧
    plainDword off = true ∧
    s.rwIgnored off v.toNat = false :=
  ⟨.bar2, dwXPORT, 0xFFFFFFFF#32, live, by decide +kernel⟩
theorem wit_WindowAccessesCompleteAtTheirRegister_3 : ∃ (p : Path) (off : Nat) (v : Word) (s : State),
    s.reach p off = .ok ∧
    off % 4 = 0 ∧
    plainDword off = true ∧
    s.rwIgnored off v.toNat = true :=
  ⟨.bar2, dwSRCH + 4, 9#32, live, by decide +kernel⟩
theorem wit_WindowAccessesCompleteAtTheirRegister_4 : ∃ (p : Path) (off : Nat) (v : Word) (i : Instr) (s : State),
    rowOfWrite p off v i = true :=
  ⟨.bar2, dwSTAGE + 0xC, 1#32, .commit .bar2, live, by decide +kernel⟩
theorem wit_WindowAccessesCompleteAtTheirRegister_5 : ∃ (p : Path) (off width : Nat) (v : Word) (s : State),
    s.reach p (4 * (off / 4)) = .ok ∧
    ((off % 4 ≠ 0 ∨ width ≠ 4)) :=
  ⟨.bar2, dwXPORT, 2, 5#32, live, by decide +kernel⟩
theorem wit_WindowAccessesCompleteAtTheirRegister_6 : ∃ (p : Path) (off : Nat) (s : State),
    s.reach p off = .ok ∧
    off % 4 = 0 ∧
    s.dw.latch.get zeroCell (latchKey p off) = 0 ∧
    s.outsideCount off = false ∧
    (off < dwLTEST ∨ dwLANE 208 ≤ off) :=
  ⟨.bar2, dwXPORT, live, by decide +kernel⟩
theorem wit_WindowAccessesCompleteAtTheirRegister_7 : ∃ (p : Path) (off width : Nat) (s : State),
    (s.reach p (4 * (off / 4)) = .silent ∨ s.reach p (4 * (off / 4)) = .denied) ∧
    off % 4 + width ≤ 4 :=
  ⟨.bar2, 0x9FFFC, 4, live, by decide +kernel⟩
theorem wit_WindowAccessesCompleteAtTheirRegister_8 : ∃ (c : Cmd) (s : State),
    s.accepts c = true ∧
    ((s.ctrl c.id.ctrl).authReq = true → (s.ctrl c.id.ctrl).authed = true) ∧
    s.isManager c.id.ctrl = true ∧
    c.fuse = 0 ∧
    winFieldsOk c = true :=
  ⟨{ id := ⟨0, 0, 5⟩, cdw10 := 0x3FFFFC, cdw11 := 1 }, live, by decide +kernel⟩
theorem wit_WindowAccessesCompleteAtTheirRegister_9 : ∃ (c : Cmd) (s : State),
    s.accepts c = true ∧
    ((s.ctrl c.id.ctrl).authReq = true → (s.ctrl c.id.ctrl).authed = true) ∧
    s.isManager c.id.ctrl = true ∧
    c.fuse = 0 ∧
    winFieldsOk c = false :=
  ⟨{ id := ⟨0, 0, 5⟩, cdw10 := 0x3FFFFD, cdw11 := 1 }, live, by decide +kernel⟩
theorem wit_FlashSequenceAdvancesStepByStep_1 : ∃ (i : Issuer) (s : State),
    s.eflReaches i 0x00 = true ∧
    s.efl.seqStep = 0 ∧
    s.efl.busy = none :=
  ⟨.path .bar2, live, by decide +kernel⟩
theorem wit_FlashSequenceAdvancesStepByStep_2 : ∃ (i : Issuer) (s : State),
    s.eflReaches i 0x00 = true ∧
    s.efl.seqStep = 1 ∧
    s.efl.owner = issCode i ∧
    s.efl.busy = none :=
  ⟨.path .bar2, { live with efl := { seqStep := 1, owner := issCode (.path .bar2) } }, by decide +kernel⟩
theorem wit_FlashSequenceAdvancesStepByStep_3 : ∃ (i : Issuer) (v : Word) (s : State),
    s.eflReaches i 0x00 = true :=
  ⟨.path .bar2, 0x4B1D#32, live, by decide +kernel⟩
theorem wit_FlashSequenceAdvancesStepByStep_4 : ∃ (i : Issuer) (v : Word) (s : State),
    s.eflReaches i 0x04 = true ∧
    s.efl.seqStep = 2 ∧
    s.efl.owner = issCode i ∧
    1 ≤ v.toNat % 256 ∧
    v.toNat % 256 ≤ 5 :=
  ⟨.path .bar2, 0xABCDEF05#32, { live with efl := { seqStep := 2, owner := issCode (.path .bar2) } }, by decide +kernel⟩
theorem wit_FlashSequenceAdvancesStepByStep_5 : ∃ (i : Issuer) (v : Word) (s : State),
    s.eflReaches i 0x04 = true :=
  ⟨.cluster 2, 1#32, live, by decide +kernel⟩
theorem wit_FlashSequenceAdvancesStepByStep_6 : ∃ (i : Issuer) (v : Word) (s : State),
    s.eflReaches i 0x08 = true ∧
    s.efl.seqStep = 3 ∧
    s.efl.owner = issCode i ∧
    s.efl.op = 1 :=
  ⟨.path .bar2, 0xFFFFFFE0#32, { live with efl := { seqStep := 3, op := 1, owner := issCode (.path .bar2) } }, by decide +kernel⟩
theorem wit_FlashSequenceAdvancesStepByStep_7 : ∃ (i : Issuer) (n : Nat) (v : Word) (s : State),
    n < 7 ∧
    s.eflReaches i (0x10 + 4 * n) = true ∧
    s.efl.seqStep = 4 + n ∧
    s.efl.owner = issCode i :=
  ⟨.path .bar2, 6, 7#32, { live with efl := { seqStep := 10, op := 1, owner := issCode (.path .bar2) } }, by decide +kernel⟩
theorem wit_FlashSequenceAdvancesStepByStep_8 : ∃ (i : Issuer) (v : Word) (s : State),
    s.eflReaches i 0x08 = true :=
  ⟨.core 1, 1#32, live, by decide +kernel⟩
theorem wit_FlashSequenceAdvancesStepByStep_9 : ∃ (i : Issuer) (n : Nat) (v : Word) (s : State),
    n < 8 ∧
    s.eflReaches i (0x10 + 4 * n) = true :=
  ⟨.core 1, 7, 1#32, live, by decide +kernel⟩
theorem wit_FlashSequenceAdvancesStepByStep_10 : ∃ (i : Issuer) (off : Nat) (v : Word) (s : State),
    off ≠ 8 ∧
    (off < 0x10 ∨ 0x30 ≤ off ∨ off % 4 ≠ 0) :=
  ⟨.core 1, 0x30, 1#32, live, by decide +kernel⟩
theorem wit_FlashSequenceAdvancesStepByStep_11 : ∃ s : State,
    s.efl.seqStep ≠ 0 :=
  ⟨{ live with efl := { seqStep := 11, owner := 3 } }, by decide +kernel⟩
theorem wit_FlashSequenceAdvancesStepByStep_12 : ∃ s : State,
    s.efl.seqStep = 0 :=
  ⟨live, by decide +kernel⟩
theorem wit_FlashOperationsStartOrAreRefusedByTheFirstCheck_1 : ∃ (i : Issuer) (v : Word) (s : State),
    s.eflReaches i 0x2C = true ∧
    s.efl.seqStep = 11 ∧
    s.efl.owner = issCode i ∧
    (s.fetching i).flCheck 1 s.efl.addr i = none :=
  ⟨.path .bar2, 7#32, { live with efl := { seqStep := 11, op := 1, addr := 32, owner := issCode (.path .bar2), data := [1, 2, 3, 4, 5, 6, 7] } }, by decide +kernel⟩
theorem wit_FlashOperationsStartOrAreRefusedByTheFirstCheck_2 : ∃ (i : Issuer) (v : Word) (s : State) (bit : Nat),
    s.eflReaches i 0x2C = true ∧
    s.efl.seqStep = 11 ∧
    s.efl.owner = issCode i ∧
    (s.fetching i).flCheck 1 s.efl.addr i = some bit :=
  ⟨.path .bar2, 7#32, { live with efl := { seqStep := 11, op := 1, addr := 33, owner := issCode (.path .bar2), data := [1, 2, 3, 4, 5, 6, 7] } }, flADDR, by decide +kernel⟩
theorem wit_FlashOperationsStartOrAreRefusedByTheFirstCheck_3 : ∃ (i : Issuer) (v : Word) (s : State),
    s.eflReaches i 0x2C = true :=
  ⟨.core 0, 7#32, live, by decide +kernel⟩
theorem wit_FlashOperationsStartOrAreRefusedByTheFirstCheck_4 : ∃ (i : Issuer) (v : Word) (s : State),
    s.eflReaches i 0x08 = true ∧
    s.efl.seqStep = 3 ∧
    s.efl.owner = issCode i ∧
    s.efl.op = 2 ∧
    (s.fetching i).flCheck 2 (v.toNat % 2 ^ 25) i = none :=
  ⟨.path .bar2, 0x10000#32, { live with efl := { seqStep := 3, op := 2, owner := issCode (.path .bar2) } }, by decide +kernel⟩
theorem wit_FlashOperationsStartOrAreRefusedByTheFirstCheck_5 : ∃ (i : Issuer) (v : Word) (s : State),
    s.eflReaches i 0x08 = true ∧
    s.efl.seqStep = 3 ∧
    s.efl.owner = issCode i ∧
    s.efl.op = 3 ∧
    (s.fetching i).flCheck 3 (v.toNat % 2 ^ 25) i = none :=
  ⟨.path .bar2, 0xC00000#32, { live with efl := { seqStep := 3, op := 3, owner := issCode (.path .bar2) } }, by decide +kernel⟩
theorem wit_FlashOperationsStartOrAreRefusedByTheFirstCheck_6 : ∃ (i : Issuer) (v : Word) (s : State),
    s.eflReaches i 0x08 = true ∧
    s.efl.seqStep = 3 ∧
    s.efl.owner = issCode i ∧
    s.efl.op = 4 ∧
    (s.fetching i).flCheck 4 (v.toNat % 2 ^ 25) i = none :=
  ⟨.path .bar2, 0x400#32, { live with efl := { seqStep := 3, op := 4, owner := issCode (.path .bar2) } }, by decide +kernel⟩
theorem wit_FlashOperationsStartOrAreRefusedByTheFirstCheck_7 : ∃ (i : Issuer) (v : Word) (s : State),
    s.eflReaches i 0x08 = true ∧
    s.efl.seqStep = 3 ∧
    s.efl.owner = issCode i ∧
    s.efl.op = 5 ∧
    (s.fetching i).flCheck 5 (v.toNat % 2 ^ 25) i = none :=
  ⟨.path .bar2, 0x10000#32, { live with efl := { seqStep := 3, op := 5, owner := issCode (.path .bar2), eflags := [1] } }, by decide +kernel⟩
theorem wit_FlashOperationsStartOrAreRefusedByTheFirstCheck_8 : ∃ (i : Issuer) (v : Word) (x : Instr) (bit : Nat) (s : State),
    x ∈ [Instr.eraseSector i v, .eraseBank i v, .readMarkers i v, .clearEraseFlag i v] ∧
    s.eflReaches i 0x08 = true ∧
    s.efl.seqStep = 3 ∧
    s.efl.owner = issCode i ∧
    s.efl.op ≠ 1 ∧
    (s.fetching i).flCheck s.efl.op (v.toNat % 2 ^ 25) i = some bit :=
  ⟨.path .bar2, 0x10001#32, .eraseSector (.path .bar2) 0x10001#32, flADDR, { live with efl := { seqStep := 3, op := 2, owner := issCode (.path .bar2) } }, by decide +kernel⟩
theorem wit_FlashOperationsStartOrAreRefusedByTheFirstCheck_9 : ∃ (i : Issuer) (v : Word) (x : Instr) (s : State),
    x ∈ [Instr.eraseSector i v, .eraseBank i v, .readMarkers i v, .clearEraseFlag i v] ∧
    s.eflReaches i 0x08 = true :=
  ⟨.core 0, 7#32, .readMarkers (.core 0) 7#32, live, by decide +kernel⟩
theorem wit_FlashEngineEndsAndReadsReturnTheWord_1 : ∃ (s : State) (o : FlashOp),
    s.efl.busy = some o ∧
    s.efl.rdWait = none ∧
    o.op = 1 :=
  ⟨{ live with efl := { busy := some ⟨1, 32, 7, 0⟩ } }, ⟨1, 32, 7, 0⟩, by decide +kernel⟩
theorem wit_FlashEngineEndsAndReadsReturnTheWord_2 : ∃ (s : State) (o : FlashOp),
    s.efl.busy = some o ∧
    s.efl.rdWait = none ∧
    o.op = 1 :=
  ⟨{ live with efl := { busy := some ⟨1, 32, 7, 0⟩ } }, ⟨1, 32, 7, 0⟩, by decide +kernel⟩
theorem wit_FlashEngineEndsAndReadsReturnTheWord_3 : ∃ (s : State) (o : FlashOp),
    s.efl.busy = some o ∧
    s.efl.rdWait = none ∧
    (o.op = 2 ∨ o.op = 3) :=
  ⟨{ live with efl := { busy := some ⟨3, 0xC00000, 0, 0⟩, words := [(0x60000, { written := true, data := 1 })] } }, ⟨3, 0xC00000, 0, 0⟩, by decide +kernel⟩
theorem wit_FlashEngineEndsAndReadsReturnTheWord_5 : ∃ (s : State) (o : FlashOp),
    s.efl.busy = some o ∧
    s.efl.rdWait = none ∧
    o.op = 4 :=
  ⟨{ live with efl := { busy := some ⟨4, 0x400, 0, 0⟩, words := [(33, { written := true, data := 1 })] } }, ⟨4, 0x400, 0, 0⟩, by decide +kernel⟩
theorem wit_FlashEngineEndsAndReadsReturnTheWord_6 : ∃ (s : State) (o : FlashOp),
    s.efl.busy = some o ∧
    s.efl.rdWait = none ∧
    o.op = 5 ∧
    s.blank (flSector o.addr) = true :=
  ⟨{ live with efl := { busy := some ⟨5, 0x10000, 0, 0⟩, eflags := [1, 2] } }, ⟨5, 0x10000, 0, 0⟩, by decide +kernel⟩
theorem wit_FlashEngineEndsAndReadsReturnTheWord_7 : ∃ (p : Path) (v : Word) (s : State),
    s.reach p (dwEFL + 0x40) = .ok ∧
    s.efl.busy = none :=
  ⟨.bar2, 0x1FFFFFF#32, live, by decide +kernel⟩
theorem wit_FlashEngineEndsAndReadsReturnTheWord_8 : ∃ (p : Path) (v : Word) (e : EccOutcome) (s : State),
    s.reach p (dwEFL + 0x40) = .ok :=
  ⟨.bar2, 32#32, .corrected, { live with efl := { busy := some ⟨1, 64, 7, 0⟩ } }, by decide +kernel⟩
theorem wit_FlashEngineEndsAndReadsReturnTheWord_10 : ∃ (ok : Bool) (s : State),
    s.efl.busy = none :=
  ⟨true, live, by decide +kernel⟩
theorem wit_GuestbookRecordsAreWrittenCoalescedAndNumbered_1 : ∃ (s : State) (r : Rec) (rest : List Rec),
    s.pwr.phase = .run ∧
    s.ctlOn = true ∧
    s.efl.busy = none ∧
    s.gbk.cleared = none ∧
    s.gbk.ownerSet = none ∧
    s.gbk.budget ≠ 0 ∧
    s.gbk.droppedSince = 0 ∧
    s.gbk.queue = r :: rest :=
  ⟨{ live with gbk := { queue := [{ code := 0x0101 }] } }, { code := 0x0101 }, [], by decide +kernel⟩
theorem wit_GuestbookRecordsAreWrittenCoalescedAndNumbered_2 : ∃ (s : State) (r : Rec),
    s.pwr.phase = .run ∧
    s.ctlOn = true ∧
    s.efl.busy = none :=
  ⟨{ live with gbk := { cleared := some { code := 0x0A01, ps := [3, 4] } } }, { code := 0x0A01, ps := [3, 4] }, by decide +kernel⟩
theorem wit_GuestbookRecordsAreWrittenCoalescedAndNumbered_3 : ∃ s : State,
    ((s.pwr.phase ≠ .run ∨ s.ctlOn = false ∨ s.efl.busy ≠ none ∨ (s.gbk.cleared = none ∧ s.gbk.ownerSet = none ∧ (s.gbk.budget = 0 ∨ (s.gbk.droppedSince = 0 ∧ s.gbk.queue = []))))) :=
  ⟨live, by decide +kernel⟩
theorem wit_GuestbookRecordsAreWrittenCoalescedAndNumbered_6 : ∃ (code key : Nat) (s : State) (x : Track),
    s.gbk.tracked.find? (fun t => t.code = code ∧ t.key = key) = some x ∧
    x.count = 0 :=
  ⟨0x0304, 5, { live with gbk := { tracked := [{ code := 0x0304, key := 5 }] } }, { code := 0x0304, key := 5 }, by decide +kernel⟩
theorem wit_GuestbookRecordsAreWrittenCoalescedAndNumbered_7 : ∃ (code key : Nat) (s : State) (x : Track),
    s.gbk.tracked.find? (fun t => t.code = code ∧ t.key = key) = some x ∧
    x.count ≠ 0 ∧
    s.gbk.queue.length < 1024 :=
  ⟨0x0304, 5, { live with gbk := { tracked := [{ code := 0x0304, key := 5, count := 3, first := 10, last := 20 }] } }, { code := 0x0304, key := 5, count := 3, first := 10, last := 20 }, by decide +kernel⟩
theorem wit_GuestbookRecordsAreWrittenCoalescedAndNumbered_8 : ∃ (code key : Nat) (s : State),
    s.gbk.tracked.find? (fun t => t.code = code ∧ t.key = key) = none :=
  ⟨0x0304, 5, live, by decide +kernel⟩
theorem wit_GuestbookCommandsAnswer_1 : ∃ (c : Cmd) (s : State),
    s.readyFor true c = true ∧
    field (dw11 c) 31 16 = 0 ∧
    zero13 c = true ∧
    dw12 c = 0 ∧
    1 ≤ field (dw11 c) 15 0 ∧
    field (dw11 c) 15 0 ≤ 32768 :=
  ⟨{ id := ⟨0, 0, 5⟩, cdw11 := 32768 }, live, by decide +kernel⟩
theorem wit_GuestbookCommandsAnswer_2 : ∃ (c : Cmd) (start lo hi : Nat) (cand hit : List Rec) (s : State),
    s.readyFor true c = true ∧
    field (dw11 c) 31 16 = 0 ∧
    zero13 c = true ∧
    1 ≤ field (dw11 c) 15 0 ∧
    field (dw11 c) 15 0 ≤ 32768 ∧
    lo = field (dw12 c) 15 0 ∧
    hi = field (dw12 c) 31 16 ∧
    (lo = 0 ∨ lo ≤ hi) ∧
    start = (if recDist s.gbk.oldest (dw10 c) ≥ 2 ^ 31 then s.gbk.oldest else dw10 c) ∧
    cand = s.gbk.live.filter (fun r => recDist start r.recno < 2 ^ 31) ∧
    (hit = cand.filter (fun r => hi = 0 ∨ (lo ≤ r.code ∧ r.code ≤ hi))) :=
  ⟨{ id := ⟨0, 0, 5⟩, cdw10 := 3, cdw11 := 1, cdw12 := 0x01010101 }, 3, 0x101, 0x101, [{ code := 0x0101, recno := 3 }, { code := 0x0102, recno := 4 }], [{ code := 0x0101, recno := 3 }], { live with gbk := { floor := 3, ring := [{ code := 0x0101, recno := 3 }, { code := 0x0102, recno := 4 }] } }, by decide +kernel⟩
theorem wit_GuestbookCommandsAnswer_3 : ∃ (c : Cmd) (s : State),
    s.readyFor true c = true ∧
    (field (dw11 c) 31 16 ≠ 0 ∨ zero13 c = false ∨ field (dw11 c) 15 0 = 0 ∨ 32768 < field (dw11 c) 15 0 ∨ (field (dw12 c) 15 0 ≠ 0 ∧ field (dw12 c) 31 16 < field (dw12 c) 15 0)) :=
  ⟨{ id := ⟨0, 0, 5⟩ }, live, by decide +kernel⟩
theorem wit_GuestbookCommandsAnswer_4 : ∃ (c : Cmd) (s : State),
    s.readyFor true c = true ∧
    lpo c % 64 = 0 :=
  ⟨{ id := ⟨0, 0, 5⟩, cdw12 := 64 }, live, by decide +kernel⟩
theorem wit_GuestbookCommandsAnswer_5 : ∃ (c : Cmd) (s : State),
    s.readyFor true c = true ∧
    lpo c % 64 = 0 :=
  ⟨{ id := ⟨0, 0, 5⟩, cdw12 := 64 }, live, by decide +kernel⟩
theorem wit_GuestbookCommandsAnswer_7 : ∃ (c : Cmd) (s : State),
    s.readyFor true c = true ∧
    dw10 c = 0 ∧
    zero11 c = true :=
  ⟨{ id := ⟨0, 0, 5⟩ }, live, by decide +kernel⟩
theorem wit_GuestbookCommandsAnswer_8 : ∃ (c : Cmd) (s : State),
    s.readyFor true c = true ∧
    (dw10 c ≠ 0 ∨ zero11 c = false) :=
  ⟨{ id := ⟨0, 0, 5⟩, cdw10 := 9 }, live, by decide +kernel⟩
theorem wit_GuestbookCommandsAnswer_9 : ∃ (c : Cmd) (s : State) (key : Nat),
    s.readyFor true c = true ∧
    dw10 c = 1 ∧
    zero11 c = true ∧
    zeroBytes c.buf 40 95 = true ∧
    s.gbk.ownerKey = some key ∧
    s.nonceOk (leAt c.buf 0 32) = true ∧
    leAt c.buf 32 4 = s.gbk.oldest ∧
    recDist s.gbk.oldest (leAt c.buf 36 4) < 2 ^ 31 ∧
    recDist s.gbk.oldest (leAt c.buf 36 4) ≤ recDist s.gbk.oldest s.gbk.newest ∧
    s.gbk.cleared = none :=
  ⟨{ id := ⟨0, 0, 5⟩, cdw10 := 1, buf := pageOf 96 [(0, 4, 9), (32, 4, 3), (36, 4, 4)] }, { live with gbk := { ownerKey := some 7, nonce := some (9, 0), floor := 3, ring := [{ code := 0x0101, recno := 3 }, { code := 0x0101, recno := 4 }, { code := 0x0101, recno := 5 }] } }, 7, by decide +kernel⟩
theorem wit_GuestbookCommandsAnswer_11 : ∃ (c : Cmd) (s : State),
    s.readyFor true c = true ∧
    dw10 c = 2 ∧
    zero11 c = true ∧
    zeroBytes c.buf 128 159 = true ∧
    s.nonceOk (leAt c.buf 0 32) = true ∧
    (s.gbk.ownerKey = none → zeroBytes c.buf 160 255 = true ∧ (s.ctrl c.id.ctrl).kind = .pf0) ∧
    s.gbk.ownerSet = none :=
  ⟨{ id := ⟨0, 0, 5⟩, cdw10 := 2, buf := pageOf 256 [(0, 4, 9), (32, 4, 3)] }, { live with gbk := { nonce := some (9, 0) } }, by decide +kernel⟩
theorem wit_GuestbookCommandsAnswer_13 : ∃ (c : Cmd) (s : State),
    s.readyFor true c = true :=
  ⟨{ id := ⟨0, 0, 5⟩, buf := pageOf 8 [(0, 6, 77)] }, live, by decide +kernel⟩
theorem wit_GuestbookCommandsAnswer_14 : ∃ (c : Cmd) (s : State),
    s.readyFor false c = true ∧
    s.isManager c.id.ctrl = false :=
  ⟨{ id := ⟨1, 0, 5⟩ }, { live with io := { ctrls := [(1, { exist := true, kind := .vf 1, tenant := 1, en := true, rdy := true })] } }, by decide +kernel⟩
theorem wit_DmaChannelsRunAsTheirRegistersSay_1 : ∃ (p : Path) (ch : Nat) (s : State),
    ch < 32 ∧
    s.reach p (dwCH ch) = .ok ∧
    s.mgrChan ch = true ∧
    (s.chan ch).st = 0 ∧
    (field (s.chCfg ch) 3 2 = 0 ∨ (field (s.chCfg ch) 3 2 = 1 ∧ s.host.busMaster = true)) :=
  ⟨.bar2, 28, live, by decide +kernel⟩
theorem wit_DmaChannelsRunAsTheirRegistersSay_2 : ∃ (p : Path) (ch : Nat) (s : State),
    ch < 32 ∧
    s.reach p (dwCH ch) = .ok ∧
    s.mgrChan ch = true :=
  ⟨.bar2, 28, live, by decide +kernel⟩
theorem wit_DmaChannelsRunAsTheirRegistersSay_3 : ∃ (p : Path) (ch : Nat) (s : State),
    ch < 32 ∧
    s.reach p (dwCH ch) = .ok ∧
    s.mgrChan ch = true ∧
    (s.chan ch).st = 0 ∧
    (2 ≤ field (s.chCfg ch) 3 2 ∨ (field (s.chCfg ch) 3 2 = 1 ∧ s.host.busMaster = false)) :=
  ⟨.bar2, 28, { live with dw := { regs := [(dwCH 28 + 4, 8)] } }, by decide +kernel⟩
theorem wit_DmaChannelsRunAsTheirRegistersSay_4 : ∃ (p : Path) (ch : Nat) (s : State),
    ch < 32 ∧
    (s.reach p (dwCH ch) = .silent ∨ s.reach p (dwCH ch) = .dead ∨ (s.reach p (dwCH ch) = .ok ∧ s.mgrChan ch = false)) :=
  ⟨.bar2, 3, live, by decide +kernel⟩
theorem wit_DmaChannelsRunAsTheirRegistersSay_5 : ∃ (p : Path) (ch : Nat) (s : State),
    ch < 32 ∧
    s.reach p (dwCH ch) = .ok ∧
    s.mgrChan ch = true :=
  ⟨.bar2, 31, { live with dma := { chans := [(31, { st := 1 })] } }, by decide +kernel⟩
theorem wit_DmaChannelsRunAsTheirRegistersSay_6 : ∃ (p : Path) (ch : Nat) (s : State),
    ch < 32 ∧
    s.reach p (dwCH ch) = .ok ∧
    s.mgrChan ch = true ∧
    (s.chan ch).st = 2 ∧
    (s.usesHost ch = false ∨ s.host.busMaster = true) :=
  ⟨.bar2, 30, { live with dma := { chans := [(30, { st := 2, retries := 2 })] } }, by decide +kernel⟩
theorem wit_DmaChannelsRunAsTheirRegistersSay_7 : ∃ (p : Path) (ch : Nat) (s : State),
    ch < 32 ∧
    s.reach p (dwCH ch) = .ok ∧
    s.mgrChan ch = true ∧
    (s.chan ch).st = 2 ∧
    s.usesHost ch = true ∧
    s.host.busMaster = false :=
  ⟨.bar2, 28, { live with dma := { chans := [(28, { st := 2 })] }, dw := { regs := [(dwCH 28 + 4, 4)] }, host := { busMaster := false } }, by decide +kernel⟩
theorem wit_DmaChannelsRunAsTheirRegistersSay_8 : ∃ (ch : Nat) (d : Descriptor) (s : State),
    ch < 32 ∧
    (s.chan ch).st = 1 ∧
    (s.chan ch).fetch = true ∧
    s.descOk d = true ∧
    (s.host.busMaster = true ∨ (d.spaces % 4 ≠ 1 ∧ d.spaces / 4 % 4 ≠ 1 ∧ field (s.chCfg ch) 3 2 ≠ 1)) :=
  ⟨29, dmaDesc, dmaState 29, by decide +kernel⟩
theorem wit_DmaChannelsRunAsTheirRegistersSay_10 : ∃ (ch : Nat) (d : Descriptor) (s : State),
    ch < 32 ∧
    (s.chan ch).st = 1 ∧
    (s.chan ch).fetch = true ∧
    s.descOk d = false :=
  ⟨29, { dmaDesc with len := 3 }, dmaState 29, by decide +kernel⟩
theorem wit_DmaChannelsRunAsTheirRegistersSay_11 : ∃ (ch : Nat) (d : Descriptor) (s : State),
    ch < 32 ∧
    ((s.chan ch).st ≠ 1 ∨ (s.chan ch).fetch = false) :=
  ⟨29, dmaDesc, live, by decide +kernel⟩
theorem wit_DmaChannelsRunAsTheirRegistersSay_16 : ∃ (data : List Byte) (ch : Nat) (d : Descriptor) (s : State),
    s.grantChan = some ch ∧
    (s.chan ch).desc = some d ∧
    d.spaces / 4 % 4 ≠ 2 :=
  ⟨[1, 2, 3, 4], 29, dmaDesc, dmaBusy, by decide +kernel⟩
theorem wit_DmaChannelsRunAsTheirRegistersSay_17 : ∃ (data : List Byte) (ch bit : Nat) (d : Descriptor) (s : State),
    s.grantChan = some ch ∧
    (s.chan ch).desc = some d ∧
    d.spaces / 4 % 4 = 2 ∧
    d.dst % 32 = 0 ∧
    (s.chan ch).done % 32 = 0 ∧
    32 ≤ s.burstLen ch d ∧
    s.flCheck 1 (d.dst + (s.chan ch).done) (.path .bar2) = some bit :=
  ⟨[1, 2, 3, 4], 29, 8, { dmaDesc with spaces := 8, dst := 0x1E00000, len := 64 }, { dmaBusy with dma := { chans := [(29, { st := 1, desc := some { dmaDesc with spaces := 8, dst := 0x1E00000, len := 64 } })] } }, by decide +kernel⟩
theorem wit_DmaChannelsRunAsTheirRegistersSay_18 : ∃ (data : List Byte) (ch : Nat) (d : Descriptor) (s : State),
    s.grantChan = some ch ∧
    (s.chan ch).desc = some d ∧
    d.spaces / 4 % 4 = 2 ∧
    s.burstLen ch d = 32 ∧
    s.flCheck 1 (d.dst + (s.chan ch).done) (.path .bar2) = none :=
  ⟨[1, 2, 3, 4], 29, { dmaDesc with spaces := 8, dst := 32, len := 32 }, { dmaBusy with dma := { chans := [(29, { st := 1, desc := some { dmaDesc with spaces := 8, dst := 32, len := 32 } })] } }, by decide +kernel⟩
theorem wit_DmaChannelsRunAsTheirRegistersSay_21 : ∃ (cause a ch : Nat) (d : Descriptor) (s : State),
    ch < 32 ∧
    (s.chan ch).st = 1 ∧
    (s.chan ch).busy = true ∧
    (s.chan ch).fetch = false ∧
    (s.chan ch).desc = some d ∧
    s.waitsFlash ch d = false ∧
    busCause d cause = true ∧
    (s.chan ch).retries + 1 ≥ s.reg dwDMA % 8 :=
  ⟨1, 64, 29, { dmaDesc with spaces := 1 }, { dmaBusy with dma := { chans := [(29, { st := 1, busy := true, desc := some { dmaDesc with spaces := 1 }, retries := 6 })] } }, by decide +kernel⟩
theorem wit_DmaChannelsRunAsTheirRegistersSay_22 : ∃ (ch : Nat) (e : BurstEnd) (u s : State),
    ch < 32 ∧
    (s.chan ch).st = 1 ∧
    (s.chan ch).busy = true ∧
    u = s.modChan ch (fun c => { c with retries := c.retries + 1, busy := false }) :=
  ⟨29, .busError 1 0, (dmaBusy.modChan 29 (fun c => { c with retries := c.retries + 1, busy := false })), { dmaBusy with dma := { chans := [(29, { st := 1, busy := true, desc := some dmaDesc })] } }, by decide +kernel⟩
theorem wit_DmaChannelsRunAsTheirRegistersSay_23 : ∃ (ch : Nat) (e : BurstEnd) (s : State),
    ch < 32 ∧
    ((s.chan ch).st ≠ 1 ∨ (s.chan ch).busy = false) :=
  ⟨29, .busError 1 0, live, by decide +kernel⟩
theorem wit_LinkTestCommandsActOnTheirLane_1 : ∃ (p : Path) (l : Nat) (v : Word) (s : State),
    l < 192 ∧
    s.reach p (dwLANE l) = .ok ∧
    s.patternOk p l = true :=
  ⟨.bar2, 64, 0x777#32, { live with dw := { regs := [(dwKEY 10, 0x10000)] } }, by decide +kernel⟩
theorem wit_LinkTestCommandsActOnTheirLane_2 : ∃ (p : Path) (l : Nat) (v : Word) (s : State),
    l < 208 ∧
    s.reach p (dwLANE l) = .ok ∧
    s.patternOk p l = true :=
  ⟨.bar2, 64, 0x777#32, { live with dw := { regs := [(dwKEY 10, 0x10000)] } }, by decide +kernel⟩
theorem wit_LinkTestCommandsActOnTheirLane_4 : ∃ (p : Path) (l : Nat) (v : Word) (s : State),
    l < 208 ∧
    s.reach p (dwLANE l) = .ok ∧
    s.patternOk p l = false :=
  ⟨.bar2, 64, 1#32, { live with slots := [(0, { st := .training })] }, by decide +kernel⟩
theorem wit_LinkTestCommandsActOnTheirLane_5 : ∃ (p : Path) (l : Nat) (v : Word) (s : State),
    l < 208 ∧
    s.reach p (dwLANE l + 0x30) = .ok ∧
    v.toNat.testBit 0 = true ∧
    s.reg (dwLANE l) % 8 ≠ 0 :=
  ⟨.bar2, 64, 1#32, { live with dw := { regs := [(dwLANE 64, 1)] } }, by decide +kernel⟩
theorem wit_LinkTestCommandsActOnTheirLane_6 : ∃ (p : Path) (l : Nat) (v : Word) (s : State),
    l < 208 ∧
    s.reach p (dwLANE l + 0x30) = .ok ∧
    (v.toNat.testBit 0 = false ∨ s.reg (dwLANE l) % 8 = 0) :=
  ⟨.bar2, 64, 1#32, live, by decide +kernel⟩
theorem wit_LinkTestCommandsActOnTheirLane_7 : ∃ (p : Path) (v : Word) (s : State),
    s.reach p (dwLTEST + 0x10) = .ok ∧
    s.ddr.ready = false :=
  ⟨.bar2, 0xFF#32, live, by decide +kernel⟩
theorem wit_LinkTestCommandsActOnTheirLane_8 : ∃ (p : Path) (v : Word) (s : State),
    s.reach p (dwLTEST + 0x10) = .ok ∧
    s.ddr.ready = true :=
  ⟨.bar2, 0xFF#32, { live with ddr := { ready := true } }, by decide +kernel⟩
theorem wit_LinkTestCommandsActOnTheirLane_10 : ∃ (l : Nat) (s : State),
    l < 208 ∧
    field (s.reg (dwLANE l)) 6 4 ≠ 0 ∧
    (s.lane l).locked = false :=
  ⟨207, { live with dw := { regs := [(dwLANE 207, 0x10)] } }, by decide +kernel⟩
theorem wit_LinkTestCommandsActOnTheirLane_11 : ∃ (l : Nat) (s : State),
    l < 208 :=
  ⟨207, live, by decide +kernel⟩
theorem wit_LinkTestCommandsActOnTheirLane_12 : ∃ (l : Nat) (s : State),
    l < 208 ∧
    (s.lane l).locked = true :=
  ⟨0, { live with lt := { lanes := [(0, { locked := true })] } }, by decide +kernel⟩
theorem wit_ResetsAndRestartsClearWhatTheyReset_1 : ∃ (mode : BitVec 2) (prsntN : BitVec 64) (moved : List (Nat × Nat)) (s : State),
    s.pwr.porst = false ∧
    s.pwr.refclk = true ∧
    s.pwr.trip = false ∧
    takesPins s.pwr.tap = false :=
  ⟨1#2, 5#64, [], State.reset, by decide +kernel⟩
theorem wit_ResetsAndRestartsClearWhatTheyReset_4 : ∃ s : State,
    s.pwr.phase ≠ .held ∧
    s.pwr.sleep = .active :=
  ⟨live, by decide +kernel⟩
theorem wit_ResetsAndRestartsClearWhatTheyReset_5 : ∃ s : State,
    s.pwr.refclk = true ∧
    s.pwr.porst = true :=
  ⟨live, by decide +kernel⟩
theorem wit_ResetsAndRestartsClearWhatTheyReset_6 : ∃ s : State,
    s.pwr.refclk = false ∧
    s.pwr.porst = true ∧
    s.pwr.trip = false ∧
    s.pwr.tapHold = false :=
  ⟨{ live with pwr := { live.pwr with refclk := false } }, by decide +kernel⟩
theorem wit_ResetsAndRestartsClearWhatTheyReset_7 : ∃ (l : List (BitVec 8)) (s : State),
    s.pwr.porst = true ∧
    s.pwr.refclk = true ∧
    ((∀ i < 16, (l.getD i 0).toInt < 120)) :=
  ⟨[25], live, by decide +kernel⟩
theorem wit_ResetsAndRestartsClearWhatTheyReset_8 : ∃ (l : List (BitVec 8)) (s : State),
    s.pwr.trip = false ∧
    ((∃ i < 16, 120 ≤ (l.getD i 0).toInt)) :=
  ⟨[25, 120], live, by decide +kernel⟩
theorem wit_ResetsAndRestartsClearWhatTheyReset_9 : ∃ (code : BitVec 8) (s : State),
    (s.pwr.tapHold = false ∨ takesPins code = true) :=
  ⟨2#8, live, by decide +kernel⟩
theorem wit_ResetsAndRestartsClearWhatTheyReset_10 : ∃ (code : BitVec 8) (s : State),
    s.pwr.tapHold = true ∧
    takesPins code = false :=
  ⟨2#8, { State.reset with pwr := { State.reset.pwr with porst := true, tapHold := true } }, by decide +kernel⟩
theorem wit_ResetsAndRestartsClearWhatTheyReset_11 : ∃ s : State,
    s.pwr.tapHold = true :=
  ⟨{ State.reset with pwr := { State.reset.pwr with porst := true, tapHold := true } }, by decide +kernel⟩
theorem wit_ResetsAndRestartsClearWhatTheyReset_12 : ∃ s : State,
    s.pwr.tapHold = false :=
  ⟨live, by decide +kernel⟩
theorem wit_StartOfFirmwareAndItsPoints_1 : ∃ s : State,
    s.pwr.phase = .trained ∧
    s.incompatible s.fw.running = none :=
  ⟨bootState, by decide +kernel⟩
theorem wit_StartOfFirmwareAndItsPoints_2 : ∃ (p : Nat) (v : CensusReads) (s : State),
    s.pwr.phase = .run ∧
    p < 4 ∧
    s.coreOn = true ∧
    s.slotsSettled = true ∧
    (((s.pool p).pstate ≠ 1 ∨ (s.pool p).root = none)) :=
  ⟨1, {}, { censusState with media := {} }, by decide +kernel⟩
theorem wit_StartOfFirmwareAndItsPoints_3 : ∃ (p : Nat) (v : CensusReads) (g : RootGen) (s : State),
    s.pwr.phase = .run ∧
    p < 4 ∧
    s.coreOn = true ∧
    s.slotsSettled = true ∧
    (s.pool p).pstate = 1 ∧
    (s.pool p).root = some g ∧
    ((∀ m ∈ g.members, s.foundIn m.serial = none)) :=
  ⟨1, {}, rootGen0, censusState, by decide +kernel⟩
theorem wit_StartOfFirmwareAndItsPoints_4 : ∃ (p n : Nat) (v : CensusReads) (g : RootGen) (s : State),
    s.pwr.phase = .run ∧
    p < 4 ∧
    s.coreOn = true ∧
    s.slotsSettled = true ∧
    (s.pool p).pstate = 1 ∧
    (s.pool p).root = some g ∧
    ((∃ m ∈ g.members, m.st ≠ 2 ∧ s.foundIn m.serial = some n)) ∧
    (s.slot n).st = .admitted ∧
    n ∉ v.roots ∧
    (s.admissionEnds.censusView g).dramFits p { cls := g.cls } (g.members.filter (fun m => m.st ≠ 2)).length g.n g.logPm = true :=
  ⟨1, 7, {}, rootGen0, { censusState with slots := [(7, { st := .admitted, prsnt := true, serial := 100 })], ddr := { cap := 64 } }, by decide +kernel⟩
theorem wit_StartOfFirmwareAndItsPoints_5 : ∃ (p n : Nat) (v : CensusReads) (g : RootGen) (s : State),
    s.pwr.phase = .run ∧
    p < 4 ∧
    s.coreOn = true ∧
    s.slotsSettled = true ∧
    (s.pool p).pstate = 1 ∧
    (s.pool p).root = some g ∧
    ((∃ m ∈ g.members, m.st ≠ 2 ∧ s.foundIn m.serial = some n)) ∧
    (s.slot n).st = .admitted ∧
    n ∉ v.roots ∧
    (s.admissionEnds.censusView g).dramFits p { cls := g.cls } (g.members.filter (fun m => m.st ≠ 2)).length g.n g.logPm = false :=
  ⟨1, 7, {}, rootGen0, { censusState with slots := [(7, { st := .admitted, prsnt := true, serial := 100 })] }, by decide +kernel⟩
theorem wit_StartOfFirmwareAndItsPoints_6 : ∃ (p n : Nat) (v : CensusReads) (g : RootGen) (s : State),
    s.pwr.phase = .run ∧
    p < 4 ∧
    s.coreOn = true ∧
    s.slotsSettled = true ∧
    (s.pool p).pstate = 1 ∧
    (s.pool p).root = some g ∧
    ((∃ m ∈ g.members, m.st ≠ 2 ∧ s.foundIn m.serial = some n)) ∧
    ((∀ m ∈ g.members, ∀ k, s.foundIn m.serial = some k → (s.slot k).st = .admitted → k ∈ v.roots)) :=
  ⟨1, 7, { roots := [7] }, rootGen0, { censusState with slots := [(7, { st := .admitted, prsnt := true, serial := 100 })] }, by decide +kernel⟩
theorem wit_StartOfFirmwareAndItsPoints_7 : ∃ s : State,
    s.pwr.phase = .run ∧
    s.fw.started = false ∧
    s.censusEnded = true ∧
    s.io.paused = false :=
  ⟨fwState, by decide +kernel⟩
theorem wit_WakeSourcesLatch_1 : ∃ (pin : Nat) (level : Bool) (s : State),
    pin < 4 :=
  ⟨3, true, { live with dw := { regs := [(dwPWR + 0x80, 0x3000)] } }, by decide +kernel⟩
theorem wit_WakeSourcesLatch_2 : ∃ (g : Nat) (s : State),
    g < s.part.groups ∧
    s.aonOn = true ∧
    s.wakeCfg.testBit 16 = true ∧
    s.grpMode g ≠ 0 ∧
    ((s.sleepsFrom 2 = true ∨ (s.stowed = true ∧ (s.reg (dwPWR + 0x8C)).testBit (4 + g) = true))) :=
  ⟨0, { stowedState with pwr := { stowedState.pwr with sleep := .asleep 2 }, dw := { regs := [(dwPWR + 0x80, 0x10000), (dwGROUP 0, 1)] } }, by decide +kernel⟩
theorem wit_WakeSourcesLatch_3 : ∃ s : State,
    s.aonOn = true ∧
    s.wakeCfg.testBit 17 = true ∧
    (((s.stowed = true ∧ s.host.pcieUp = true) ∨ (s.sleepsFrom 2 = true ∧ s.pwr.perst = true))) :=
  ⟨{ stowedState with dw := { regs := [(dwPWR + 0x80, 0x20000)] }, host := { pcieUp := true } }, by decide +kernel⟩
theorem wit_WakeSourcesLatch_4 : ∃ s : State,
    s.aonOn = true ∧
    s.wakeCfg.testBit 18 = true ∧
    s.sleepsFrom 1 = true ∧
    s.reg (dwPWR + 0x88) ≠ 0 :=
  ⟨{ stowedState with dw := { regs := [(dwPWR + 0x80, 0x40000), (dwPWR + 0x88, 100)] } }, by decide +kernel⟩
theorem wit_WakeSourcesLatch_5 : ∃ (n : Nat) (level : Bool) (s : State),
    n < 64 ∧
    n < s.part.slots ∧
    s.aonOn = true ∧
    s.wakeCfg.testBit 19 = true :=
  ⟨63, false, { stowedState with dw := { regs := [(dwPWR + 0x80, 0x80000)] } }, by decide +kernel⟩
theorem wit_WakeSourcesLatch_6 : ∃ (cls dom : Nat) (s : State),
    s.aonOn = true ∧
    (((dom = domCORE ∧ (s.stowed = true ∨ s.pwr.sleep = .entering 0 1 ∨ s.pwr.sleep = .entering 1 3)) ∨ (dom = domCTL ∧ s.pwr.sleep = .asleep 2))) :=
  ⟨0, 2, stowedState, by decide +kernel⟩
theorem wit_WakeSourcesLatch_7 : ∃ s : State,
    (s.aonOn = false ∨ s.sleepsFrom 2 = false ∨ s.pwr.perst = false ∨ s.wakeCfg.testBit 17 = false) :=
  ⟨live, by decide +kernel⟩
theorem wit_WakeSourcesLatch_8 : ∃ s : State,
    s.aonOn = true ∧
    s.sleepsFrom 2 = true ∧
    s.pwr.perst = true ∧
    s.wakeCfg.testBit 17 = true :=
  ⟨{ stowedState with pwr := { stowedState.pwr with sleep := .asleep 2, perst := true }, dw := { regs := [(dwPWR + 0x80, 0x20000)] } }, by decide +kernel⟩
theorem wit_WakeSourcesLatch_9 : ∃ s : State,
    s.aonOn = true :=
  ⟨live, by decide +kernel⟩
theorem wit_WakeSourcesLatch_10 : ∃ s : State,
    s.aonOn = false :=
  ⟨State.reset, by decide +kernel⟩
theorem wit_EntryAndExitMovePointByPoint_1 : ∃ s : State,
    s.mayEnter = true ∧
    s.pwr.sleep = .active ∧
    ({ s with pwr := { s.pwr with wakeKey := false } } : State).ownKeys domCORE = [] :=
  ⟨idleState, by decide +kernel⟩
theorem wit_EntryAndExitMovePointByPoint_2 : ∃ s : State,
    s.mayEnter = true ∧
    s.pwr.sleep = .asleep 1 ∧
    2 ≤ ({ s with pwr := { s.pwr with wakeKey := false } } : State).entryTarget :=
  ⟨{ idleState with pwr := { idleState.pwr with sleep := .asleep 1, deepest := 3 } }, by decide +kernel⟩
theorem wit_EntryAndExitMovePointByPoint_3 : ∃ s : State,
    s.pwr.sleep = .entering 0 1 ∧
    s.engineBusy = false ∧
    s.w1c (dwPWR + 0x84) = 0 :=
  ⟨{ live with pwr := { live.pwr with sleep := .entering 0 1 } }, by decide +kernel⟩
theorem wit_EntryAndExitMovePointByPoint_4 : ∃ (g : Nat) (s : State),
    s.pwr.sleep = .entering 0 g ∧
    s.engineBusy = false ∧
    s.w1c (dwPWR + 0x84) = 0 :=
  ⟨2, { live with pwr := { live.pwr with sleep := .entering 0 2 } }, by decide +kernel⟩
theorem wit_EntryAndExitMovePointByPoint_5 : ∃ (n g : Nat) (s : State),
    s.pwr.sleep = .entering n g ∧
    s.w1c (dwPWR + 0x84) ≠ 0 :=
  ⟨1, 2, { live with pwr := { live.pwr with sleep := .entering 1 2 }, dw := { w1c := [(dwPWR + 0x84, 64)] } }, by decide +kernel⟩
theorem wit_EntryAndExitMovePointByPoint_6 : ∃ (t : Nat) (s : State),
    s.pwr.sleep = .entering 1 t ∧
    ((∀ e ∈ s.slots, e.2.out = [])) ∧
    s.w1c (dwPWR + 0x84) = 0 :=
  ⟨2, { live with pwr := { live.pwr with sleep := .entering 1 2 } }, by decide +kernel⟩
theorem wit_EntryAndExitMovePointByPoint_7 : ∃ (g : Nat) (s : State),
    s.pwr.sleep = .entering 2 g ∧
    (s.ddr.selfRef = true ∨ s.ddr.off = true) ∧
    s.w1c (dwPWR + 0x84) = 0 :=
  ⟨3, { live with pwr := { live.pwr with sleep := .entering 2 3 }, ddr := { off := true } }, by decide +kernel⟩
theorem wit_EntryAndExitMovePointByPoint_8 : ∃ (g : Nat) (s : State),
    s.pwr.sleep = .asleep g ∧
    g ≤ 2 ∧
    s.w1c (dwPWR + 0x84) ≠ 0 :=
  ⟨1, { stowedState with dw := { w1c := [(dwPWR + 0x84, 64)] } }, by decide +kernel⟩
theorem wit_EntryAndExitMovePointByPoint_9 : ∃ (g : Nat) (s : State),
    s.pwr.sleep = .asleep g ∧
    3 ≤ g ∧
    s.w1c (dwPWR + 0x84) ≠ 0 :=
  ⟨3, { stowedState with pwr := { stowedState.pwr with sleep := .asleep 3 }, dw := { w1c := [(dwPWR + 0x84, 64)] } }, by decide +kernel⟩
theorem wit_PowerSettingsTakeTheirValues_1 : ∃ (c : Cmd) (s : State),
    s.readyFor true c = true ∧
    s.pwr.mode ≠ 1 ∧
    dw11 c / 65536 = 0 ∧
    field (dw11 c) 7 5 = 0 ∧
    field (dw11 c) 15 8 ≠ 0 :=
  ⟨{ id := ⟨0, 0, 5⟩, cdw11 := 0x0A1F }, live, by decide +kernel⟩
theorem wit_PowerSettingsTakeTheirValues_2 : ∃ (c : Cmd) (s : State),
    s.readyFor false c = true ∧
    dw11 c % 32 ≤ 2 :=
  ⟨{ id := ⟨0, 0, 5⟩, cdw11 := 2 }, live, by decide +kernel⟩
theorem wit_PowerSettingsTakeTheirValues_3 : ∃ (p : Path) (d : Nat) (v : Word) (s : State),
    d < 18 ∧
    s.reach p (dwKEY d) = .ok :=
  ⟨.bar2, 17, 0x10000#32, live, by decide +kernel⟩
theorem wit_PowerSettingsTakeTheirValues_4 : ∃ (p : Path) (v : Word) (s : State),
    s.reach p (dwPWR + 0x8C) = .ok :=
  ⟨.bar2, 0x1FF#32, live, by decide +kernel⟩
theorem wit_PowerSettingsTakeTheirValues_5 : ∃ (p : Path) (v : Word) (s : State),
    s.reach p (dwPWR + 0x90) = .ok ∧
    s.staggerOk (v.toNat % 128) (field v.toNat 15 8) = true :=
  ⟨.bar2, 0xC810#32, live, by decide +kernel⟩
theorem wit_PowerSettingsTakeTheirValues_6 : ∃ (a : List (Nat × RailAnswer)) (s : State),
    s.pwr.porst = true ∧
    s.pwr.refclk = true :=
  ⟨[(7, .nack)], { live with dw := { regs := [(dwPWR + 0x100, 0), (dwPWR + 0x11C, 0x80000000)] } }, by decide +kernel⟩
theorem wit_PowerSettingsTakeTheirValues_7 : ∃ (r w : Nat) (s : State),
    s.pwr.porst = true ∧
    s.pwr.refclk = true ∧
    r < 8 ∧
    (s.reg (dwPWR + 0x100 + 4 * r)).testBit 31 = true ∧
    w ≠ 0 :=
  ⟨7, 1, { live with dw := { regs := [(dwPWR + 0x100, 0), (dwPWR + 0x11C, 0x80000000)] } }, by decide +kernel⟩
theorem wit_PowerSettingsTakeTheirValues_8 : ∃ (r : Nat) (s : State),
    s.pwr.porst = true ∧
    s.pwr.refclk = true ∧
    r < 8 ∧
    (s.reg (dwPWR + 0x100 + 4 * r)).testBit 31 = true :=
  ⟨7, { live with dw := { regs := [(dwPWR + 0x100, 0), (dwPWR + 0x11C, 0x80000000)] } }, by decide +kernel⟩
theorem wit_DramTrainsOrFails_1 : ∃ (l : List Dimm) (res : List (Nat × ChannelResult)) (s : State),
    s.pwr.phase = .boot ∧
    s.ddr.ready = false ∧
    s.ddr.fail = false ∧
    popFault l = none ∧
    ((∀ c ∈ bitsOf (popMask l) 8, chanPass ((look res c).getD noResult) = true)) :=
  ⟨dimms, passes, trainState, by decide +kernel⟩
theorem wit_DramTrainsOrFails_2 : ∃ (l : List Dimm) (res : List (Nat × ChannelResult)) (k : Nat) (s : State),
    s.pwr.phase = .boot ∧
    s.ddr.ready = false ∧
    s.ddr.fail = false ∧
    popFault l = some k :=
  ⟨[], [], 1, trainState, by decide +kernel⟩
theorem wit_DramTrainsOrFails_3 : ∃ (p : Path) (l : List Dimm) (res : List (Nat × ChannelResult)) (s : State),
    s.reach p (dwDDR + 4) = .ok ∧
    s.ddr.fail = true ∧
    popFault l = none ∧
    ((∀ c ∈ bitsOf (popMask l) 8, chanPass ((look res c).getD noResult) = true)) :=
  ⟨.bar2, dimms, passes, { live with ddr := { fail := true } }, by decide +kernel⟩
theorem wit_DramTrainsOrFails_4 : ∃ (l : List Dimm) (res : List (Nat × ChannelResult)) (s : State),
    (s.pwr.phase = .boot ∨ s.pwr.phase = .rescue) ∧
    s.ddr.ready = false ∧
    s.ddr.fail = false :=
  ⟨dimms, [], trainState, by decide +kernel⟩
theorem wit_DramTrainsOrFails_5 : ∃ (p : Path) (l : List Dimm) (res : List (Nat × ChannelResult)) (s : State),
    s.reach p (dwDDR + 4) = .ok ∧
    s.ddr.fail = true :=
  ⟨.bar2, dimms, [], { live with ddr := { fail := true } }, by decide +kernel⟩
theorem wit_DramTrainsOrFails_6 : ∃ (p : Path) (l : List Dimm) (res : List (Nat × ChannelResult)) (s : State),
    s.reach p (dwDDR + 4) = .ok ∧
    s.ddr.fail = false :=
  ⟨.bar2, dimms, [], live, by decide +kernel⟩
theorem wit_DramTrainsOrFails_7 : ∃ (p : Path) (s : State),
    s.reach p (dwDDR + 4) = .ok :=
  ⟨.bar2, live, by decide +kernel⟩
theorem wit_DramRefreshAndDisturbanceAreCounted_1 : ∃ (ch drift : Nat) (s : State),
    s.chanOn ch = true :=
  ⟨7, 40, ddrState, by decide +kernel⟩
theorem wit_DramRefreshAndDisturbanceAreCounted_2 : ∃ (ch rank bank dimm : Nat) (postpone : Bool) (celsius : Int) (s : State),
    s.chanOn ch = true ∧
    (postpone = false ∨ s.dramWaits ch rank bank = false ∨ 4 ≤ (look s.ddr.postponed (ch, rank, s.refBank bank)).getD 0) :=
  ⟨7, 1, 31, 0, false, 30, ddrState, by decide +kernel⟩
theorem wit_DramRefreshAndDisturbanceAreCounted_3 : ∃ (ch rank bank dimm : Nat) (celsius : Int) (s : State),
    s.chanOn ch = true ∧
    (look s.ddr.postponed (ch, rank, s.refBank bank)).getD 0 < 4 ∧
    s.dramWaits ch rank bank = true :=
  ⟨0, 0, 0, 0, 30, { ddrState with ddr := { ddrState.ddr with queue := [ddrReq] } }, by decide +kernel⟩
theorem wit_DramRefreshAndDisturbanceAreCounted_4 : ∃ (ch sub now : Nat) (reads writes : List DramReq) (ecc : DramEcc) (q : DramReq) (u v : State) (s : State),
    s.chanOn ch = true ∧
    u = { s with ddr := { s.ddr with queue := s.ddr.queue ++ (arrivalsOf reads writes).filter (fun a => a.req < 16 && (s.dramAt a.addr).chan = ch && (s.dramAt a.addr).sub = sub) } } ∧
    u.dramServe ch sub now u.ddr.queue.length = (some q, v) :=
  ⟨0, 0, 5, [ddrReq], [], .clean, ddrReq, { ddrState with ddr := { ddrState.ddr with queue := [ddrReq] } }, { ddrState with ddr := { ddrState.ddr with queue := [], openRows := [((0, 0, 0), 0)], lastAct := [((3, (0, 0, 0)), 5)] } }, ddrState, by decide +kernel⟩
theorem wit_DramRefreshAndDisturbanceAreCounted_5 : ∃ (ch sub now : Nat) (reads writes : List DramReq) (ecc : DramEcc) (u v : State) (s : State),
    s.chanOn ch = true ∧
    u = { s with ddr := { s.ddr with queue := s.ddr.queue ++ (arrivalsOf reads writes).filter (fun a => a.req < 16 && (s.dramAt a.addr).chan = ch && (s.dramAt a.addr).sub = sub) } } ∧
    u.dramServe ch sub now u.ddr.queue.length = (none, v) :=
  ⟨0, 0, 5, [], [], .clean, ddrState, ddrState, ddrState, by decide +kernel⟩
theorem wit_DramRefreshAndDisturbanceAreCounted_6 : ∃ (q : DramReq) (now : Nat) (s : State),
    s.chanOn (s.dramAt q.addr).chan = true ∧
    q.req < 16 ∧
    s.ddr.queue = [] ∧
    s.ddr.throttles = [] ∧
    s.rowHit q = false ∧
    look s.ddr.acts (s.bankAt q.addr) = none :=
  ⟨ddrReq, 5, ddrState, by decide +kernel⟩
theorem wit_DramRefreshAndDisturbanceAreCounted_7 : ∃ (ch sub now : Nat) (q e : DramReq) (s : State),
    s.dramNext ch sub now = some q ∧
    q.write = true ∧
    e ∈ olderThan (s.subQueue ch sub) q ∧
    e.write = false :=
  ⟨0, 0, 5, { ddrReq with write := true }, { ddrReq with addr := 2 ^ 20 * 64 }, { ddrState with ddr := { ddrState.ddr with draining := [(0, 0)], queue := [{ ddrReq with addr := 2 ^ 20 * 64 }, { ddrReq with write := true }] } }, by decide +kernel⟩
theorem wit_DramRefreshAndDisturbanceAreCounted_8 : ∃ (ch sub now : Nat) (q e : DramReq) (s : State),
    s.dramNext ch sub now = some q ∧
    e ∈ s.subQueue ch sub ∧
    e.write = false ∧
    s.dramMay now e = true ∧
    e.ns + 2000 ≤ now :=
  ⟨0, 0, 2000, ddrReq, ddrReq, { ddrState with ddr := { ddrState.ddr with queue := [ddrReq] } }, by decide +kernel⟩
theorem wit_DramRefreshAndDisturbanceAreCounted_9 : ∃ (ch sub now : Nat) (q e : DramReq) (s : State),
    s.dramNext ch sub now = some q ∧
    s.ddr.draining.contains (ch, sub) = false ∧
    now < q.ns + 2000 ∧
    e ∈ s.subQueue ch sub ∧
    e.write = false ∧
    s.dramMay now e = true :=
  ⟨0, 0, 5, ddrReq, ddrReq, { ddrState with ddr := { ddrState.ddr with queue := [ddrReq] } }, by decide +kernel⟩
theorem wit_DramRefreshAndDisturbanceAreCounted_10 : ∃ s : State,
    s.ddr.ready = true ∧
    s.ddr.selfRef = false :=
  ⟨ddrState, by decide +kernel⟩
theorem wit_DramRefreshAndDisturbanceAreCounted_11 : ∃ (ch : Nat) (s : State),
    s.chanOn ch = true :=
  ⟨0, ddrState, by decide +kernel⟩
theorem wit_DramRefreshAndDisturbanceAreCounted_12 : ∃ (ch rank addr : Nat) (s : State),
    s.chanOn ch = true :=
  ⟨0, 1, 64, ddrState, by decide +kernel⟩
theorem wit_DramRefreshAndDisturbanceAreCounted_13 : ∃ (ch : Nat) (ecc : DramEcc) (s : State),
    s.chanOn ch = true :=
  ⟨0, .corrected 1 64, ddrState, by decide +kernel⟩
theorem wit_DramRefreshAndDisturbanceAreCounted_14 : ∃ (c : Cmd) (s : State),
    s.readyFor true c = true :=
  ⟨{ id := ⟨0, 0, 5⟩ }, live, by decide +kernel⟩
theorem wit_SlotEventsMoveTheSlot_1 : ∃ (n : Nat) (s : State),
    n < s.part.slots ∧
    s.pinsLive = true :=
  ⟨3, { live with slots := [] }, by decide +kernel⟩
theorem wit_SlotEventsMoveTheSlot_2 : ∃ (n : Nat) (which : Option Nat) (s : State),
    n < s.part.slots ∧
    s.pinsLive = true ∧
    (s.slot n).st = .debounce ∧
    (s.slot n).prsntLow = true :=
  ⟨3, some 5, { live with slots := [(3, { st := .debounce, prsntLow := true })], shelf := { away := [(5, { cart := 5 })], next := 6 } }, by decide +kernel⟩
theorem wit_SlotEventsMoveTheSlot_3 : ∃ (e : Nat × Slot) (s : State),
    (s.slots.filter (fun x => x.2.waitPower)).head? = some e :=
  ⟨(3, { waitPower := true, st := .powering }), { live with slots := [(3, { waitPower := true, st := .powering })] }, by decide +kernel⟩
theorem wit_SlotEventsMoveTheSlot_4 : ∃ (n : Nat) (s : State),
    n < s.part.slots ∧
    s.pinsLive = true ∧
    (s.slot n).st ≠ .empty :=
  ⟨3, { live with slots := [(3, { st := .off, prsnt := true })] }, by decide +kernel⟩
theorem wit_SlotEventsMoveTheSlot_5 : ∃ (n : Nat) (s : State),
    n < s.part.slots ∧
    s.pinsLive = true ∧
    (s.slot n).prsntLow = true :=
  ⟨15, { live with slots := [(15, { st := .admitted, prsntLow := true, phase := 5, pwren := true })] }, by decide +kernel⟩
theorem wit_SlotEventsMoveTheSlot_6 : ∃ (n : Nat) (s : State),
    n < s.part.slots ∧
    (s.slot n).waits (fun p => p = .health) = true :=
  ⟨3, { live with slots := [(3, { st := .admitted, phase := 5, out := [(0, { op := 0x50, m := { tag := 0 }, why := .health, tSlow := 0 })] })] }, by decide +kernel⟩
theorem wit_SlotEventsMoveTheSlot_7 : ∃ (n : Nat) (s : State),
    n < s.part.slots ∧
    (s.slot n).st = .powering ∧
    (s.slot n).pwren = true :=
  ⟨0, { live with slots := [(0, { st := .powering, pwren := true, phase := 1 })] }, by decide +kernel⟩
theorem wit_SlotEventsMoveTheSlot_8 : ∃ (n : Nat) (s : State),
    n < s.part.slots ∧
    (s.slot n).st = .training :=
  ⟨3, { live with slots := [(3, { st := .training, pwren := true, phase := 2 })] }, by decide +kernel⟩
theorem wit_SlotEventsMoveTheSlot_9 : ∃ (n : Nat) (s : State),
    n < s.part.slots ∧
    (s.slot n).pwren = true ∧
    (s.slot n).phase = 1 :=
  ⟨63, { live with slots := [(63, { st := .powering, pwren := true, phase := 1 })] }, by decide +kernel⟩
theorem wit_SlotEventsMoveTheSlot_10 : ∃ (p : Path) (n : Nat) (s : State),
    n < 64 ∧
    s.reach p (dwCART n + 4) = .ok ∧
    (s.slot n).st ∈ [.debounce, .powering, .training] :=
  ⟨.bar2, 3, { live with slots := [(3, { st := .debounce, prsntLow := true })] }, by decide +kernel⟩
theorem wit_SlotEventsMoveTheSlot_11 : ∃ (p : Path) (n : Nat) (s : State),
    n < 64 ∧
    s.reach p (dwCART n + 4) = .ok ∧
    (s.slot n).st ∈ [.admitting, .quarantined, .admitted, .rejected, .readyRemove, .failed] ∧
    (s.slot n).updating = false ∧
    (s.slot n).phase ≠ 5 :=
  ⟨.bar2, 3, { live with slots := [(3, { st := .admitted })] }, by decide +kernel⟩
theorem wit_SlotEventsMoveTheSlot_12 : ∃ (p : Path) (n : Nat) (s : State),
    n < 64 ∧
    s.reach p (dwCART n + 4) = .ok ∧
    (s.slot n).st ∈ [.admitting, .quarantined, .admitted, .rejected, .readyRemove, .failed] ∧
    (s.slot n).phase = 5 :=
  ⟨.bar2, 3, { live with slots := [(3, { st := .quarantined, updating := true, pwren := true, phase := 5 })] }, by decide +kernel⟩
theorem wit_SlotEventsMoveTheSlot_13 : ∃ (p : Path) (n : Nat) (s : State),
    n < 64 ∧
    s.reach p (dwCART n + 4) = .ok ∧
    (s.slot n).st ∈ [.inService, .draining, .empty, .off] :=
  ⟨.bar2, 3, { live with slots := [(3, { st := .inService })] }, by decide +kernel⟩
theorem wit_SlotEventsMoveTheSlot_14 : ∃ (p : Path) (n : Nat) (s : State),
    n < 64 ∧
    s.reach p (dwCART n + 4) = .ok ∧
    (s.slot n).st ∈ [.off, .rejected, .failed] :=
  ⟨.bar2, 63, { live with slots := [(63, { st := .off })] }, by decide +kernel⟩
theorem wit_SlotEventsMoveTheSlot_15 : ∃ (p : Path) (n : Nat) (s : State),
    n < 64 ∧
    s.reach p (dwCART n + 4) = .ok ∧
    (s.slot n).st ∉ [.off, .rejected, .failed] :=
  ⟨.bar2, 63, live, by decide +kernel⟩
theorem wit_SlotEventsMoveTheSlot_16 : ∃ s : State,
    s.pwr.phase ≠ .held ∧
    s.sleepsFrom 2 = false :=
  ⟨{ live with slots := [(3, { st := .failed })] }, by decide +kernel⟩
theorem wit_SlotEventsMoveTheSlot_17 : ∃ (p : Path) (n : Nat) (v : Word) (s : State),
    n < 64 ∧
    s.reach p (dwCART n + 0x44) = .ok :=
  ⟨.bar2, 3, 0xFFFFFFFF, { live with dw := { w1c := [(0x103040, 1)] } }, by decide +kernel⟩
theorem wit_AdmissionGoesStepByStep_1 : ∃ (n : Nat) (lp : LinkParams) (a b : Bool) (s : State),
    n < s.part.slots ∧
    2 ≤ (s.slot n).phase ∧
    (s.slot n).phase ≤ 4 ∧
    (s.slot n).pwren = true ∧
    (s.seqOf n).noTrain = false ∧
    lp.pver = 1 ∧
    (lp.lane0 && !s.lanePattern (64 + 2 * n)) = a ∧
    (lp.lane1 && !s.lanePattern (65 + 2 * n)) = b ∧
    (a || b) = true :=
  ⟨3, { lane0 := true, lane1 := true, pver := 1, cmdDepth := 256 }, true, true, { live with slots := [(3, { st := .training, pwren := true, phase := 4 })] }, by decide +kernel⟩
theorem wit_AdmissionGoesStepByStep_2 : ∃ (n : Nat) (lp : LinkParams) (s : State),
    n < s.part.slots ∧
    2 ≤ (s.slot n).phase ∧
    (s.slot n).phase ≤ 4 ∧
    (s.slot n).pwren = true ∧
    (s.seqOf n).noTrain = false ∧
    lp.pver ≠ 1 :=
  ⟨3, { lane0 := true, lane1 := true, pver := 2, cmdDepth := 256 }, { live with slots := [(3, { st := .training, pwren := true, phase := 4 })] }, by decide +kernel⟩
theorem wit_AdmissionGoesStepByStep_3 : ∃ (n : Nat) (s : State),
    n < s.part.slots ∧
    (s.slot n).waits (fun p => p = .identify) = true ∧
    (s.slot n).st = .admitting ∧
    (s.slot n).reauth = false :=
  ⟨3, { live with slots := [(3, { st := .admitting, pwren := true, phase := 5, out := [(0, { op := 1, m := { tag := 0 }, why := .identify, tSlow := 0 })] })] }, by decide +kernel⟩
theorem wit_AdmissionGoesStepByStep_4 : ∃ (n p : Nat) (s : State),
    n < s.part.slots ∧
    (s.slot n).waits (fun p => p = .identify) = true ∧
    (s.slot n).st.member = true ∧
    (s.slot n).pool = some p :=
  ⟨3, 0, { live with slots := [(3, { st := .inService, pool := some 0, pwren := true, phase := 5, out := [(0, { op := 1, m := { tag := 0 }, why := .identify, tSlow := 0 })] })] }, by decide +kernel⟩
theorem wit_AdmissionGoesStepByStep_5 : ∃ (n : Nat) (s : State),
    n < s.part.slots ∧
    (s.slot n).waits (fun p => p = .identify) = true ∧
    ((s.slot n).st = .admitted ∨ (s.slot n).st = .quarantined) ∧
    (s.slot n).reauth = true :=
  ⟨3, { live with slots := [(3, { st := .admitted, reauth := true, pwren := true, phase := 5, out := [(0, { op := 1, m := { tag := 0 }, why := .identify, tSlow := 0 })] })] }, by decide +kernel⟩
set_option maxRecDepth 1000000 in
theorem wit_AdmissionGoesStepByStep_6 : ∃ (n : Nat) (d : List Byte) (s : State),
    n < s.part.slots ∧
    (s.slot n).waits (fun p => p = .identify) = true ∧
    descOk d = true ∧
    ((s.slot n).reauth = true → (s.slot n).serial = leAt d 24 16) ∧
    s.gbk.polDeny.contains (leAt d 24 16) = false ∧
    leAt d 92 1 ≠ 0 :=
  ⟨3, goodDesc, { live with slots := [(3, { st := .admitting, pwren := true, phase := 5, out := [(0, { op := 1, m := { tag := 0 }, why := .identify, tSlow := 0 })] })] }, by decide +kernel⟩
theorem wit_AdmissionGoesStepByStep_7 : ∃ (n : Nat) (d : List Byte) (s : State),
    n < s.part.slots ∧
    (s.slot n).waits (fun p => p = .identify) = true ∧
    (s.slot n).st = .admitting ∧
    (s.slot n).reauth = false ∧
    (descOk d = false ∨ s.gbk.polDeny.contains (leAt d 24 16) = true ∨ (leAt d 92 1 = 0 ∧ s.gbk.polClass ≠ 3)) :=
  ⟨3, [], { live with slots := [(3, { st := .admitting, pwren := true, phase := 5, out := [(0, { op := 1, m := { tag := 0 }, why := .identify, tSlow := 0 })] })] }, by decide +kernel⟩
theorem wit_AdmissionGoesStepByStep_9 : ∃ (n : Nat) (r : AuthResult) (life : Life) (s : State),
    n < s.part.slots ∧
    (s.slot n).waits (fun p => p = .challenge) = true ∧
    (s.slot n).chainAllowed r = true ∧
    (s.slot n).st = .admitting ∧
    (s.slot n).updating = false ∧
    (s.slot n).reauth = false ∧
    (s.slot n).classChg = false ∧
    (s.slot n).pool = none ∧
    (s.slot n).lastPool = none ∧
    s.compatSeq (s.slot n).model (s.slot n).fwVer = true :=
  ⟨3, { certsOk := true, serial := 7, chainEnd := .root, key := 0, sig := [] }, { dense := 0, slc := 0, retired := 0, failedDies := 0 }, { live with fw := { live.fw with compat := [(2, live.fw.version, 5, 0)] }, slots := [(3, { st := .admitting, pwren := true, phase := 5, serial := 7, fwVer := 5, out := [(0, { op := 3, m := { tag := 0 }, why := .challenge, tSlow := 0 })] })] }, by decide +kernel⟩
theorem wit_AdmissionGoesStepByStep_10 : ∃ (n : Nat) (r : AuthResult) (life : Life) (s : State),
    n < s.part.slots ∧
    (s.slot n).waits (fun p => p = .challenge) = true ∧
    (s.slot n).chainAllowed r = false ∧
    (s.slot n).st = .admitting ∧
    (s.slot n).reauth = false :=
  ⟨3, { certsOk := true, serial := 7, chainEnd := .unknown, key := 0, sig := [] }, { dense := 0, slc := 0, retired := 0, failedDies := 0 }, { live with slots := [(3, { st := .admitting, pwren := true, phase := 5, serial := 7, fwVer := 5, out := [(0, { op := 3, m := { tag := 0 }, why := .challenge, tSlow := 0 })] })] }, by decide +kernel⟩
theorem wit_AdmissionGoesStepByStep_11 : ∃ (n : Nat) (s : State),
    n < s.part.slots ∧
    (s.slot n).waits (fun p => p = .challenge) = true ∧
    (s.slot n).st = .admitting ∧
    (s.slot n).reauth = false :=
  ⟨3, { live with slots := [(3, { st := .admitting, pwren := true, phase := 5, out := [(0, { op := 3, m := { tag := 0 }, why := .challenge, tSlow := 0 })] })] }, by decide +kernel⟩
theorem wit_AdmissionGoesStepByStep_12 : ∃ (n p : Nat) (s : State),
    n < s.part.slots ∧
    (s.slot n).waits (fun p => p = .challenge) = true ∧
    (s.slot n).st.member = true ∧
    (s.slot n).pool = some p :=
  ⟨3, 0, { live with slots := [(3, { st := .inService, pool := some 0, pwren := true, phase := 5, out := [(0, { op := 3, m := { tag := 0 }, why := .challenge, tSlow := 0 })] })] }, by decide +kernel⟩
theorem wit_AdmissionGoesStepByStep_13 : ∃ (n : Nat) (s : State),
    n < s.part.slots ∧
    (s.slot n).updating = true :=
  ⟨3, { live with slots := [(3, { st := .quarantined, pwren := true, phase := 5, updating := true, updCmd := some ⟨0, 0, 5⟩ })] }, by decide +kernel⟩
theorem wit_AdmissionGoesStepByStep_14 : ∃ (n : Nat) (life : Life) (s : State),
    n < s.part.slots ∧
    (s.slot n).st = .admitted :=
  ⟨3, { dense := 0, slc := 0, retired := 2, failedDies := 0 }, { live with slots := [(3, { st := .admitted, pwren := true, phase := 5 })] }, by decide +kernel⟩
theorem wit_AdmissionGoesStepByStep_15 : ∃ (n : Nat) (life : Life) (s : State),
    n < s.part.slots ∧
    (s.slot n).st.member = true :=
  ⟨3, { dense := 0, slc := 0, retired := 2, failedDies := 0 }, { live with slots := [(3, { st := .inService, pool := some 0 })] }, by decide +kernel⟩
theorem wit_AdmissionGoesStepByStep_16 : ∃ (n p : Nat) (s : State),
    n < s.part.slots ∧
    (s.slot n).pool = some p ∧
    (s.slot n).st = .draining ∧
    s.holdsData n = false ∧
    s.media.jrecs.any (fun j => j.host = n ∧ s.newestJ j) = false :=
  ⟨3, 1, { live with slots := [(3, { st := .draining, pool := some 1, drain := some .service })] }, by decide +kernel⟩
theorem wit_LinkEndsMoveTheirNumbers_1 : ∃ (n : Nat) (toCtrl : Bool) (b data : List Byte) (s : State),
    n < s.part.slots ∧
    s.linkTalks n = true ∧
    blockBad b = true :=
  ⟨3, false, List.replicate 64 1, [], { live with slots := [(3, { pwren := true, phase := 5 })] }, by decide +kernel⟩
theorem wit_LinkEndsMoveTheirNumbers_2 : ∃ (n : Nat) (toCtrl : Bool) (b data : List Byte) (s : State),
    n < s.part.slots ∧
    s.linkTalks n = true ∧
    blockBad b = false ∧
    ((leAt b 0 2 / 4096 ≠ 1 ∨ leAt b 2 1 ≠ 0)) :=
  ⟨3, true, oddBlock, [], { live with slots := [(3, { pwren := true, phase := 5 })] }, by decide +kernel⟩
theorem wit_LinkEndsMoveTheirNumbers_3 : ∃ (n : Nat) (toCtrl : Bool) (b data : List Byte) (s : State),
    n < s.part.slots ∧
    s.linkTalks n = true ∧
    blockBad b = false ∧
    leAt b 0 2 / 4096 = 1 ∧
    leAt b 2 1 = 0 ∧
    leAt b 0 2 % 4096 ≠ (s.endOf (endKey n toCtrl)).rxNext :=
  ⟨3, true, goodBlock, [], { live with slots := [(3, { pwren := true, phase := 5 })], ends := [(6, { rxNext := 4095 })] }, by decide +kernel⟩
theorem wit_LinkEndsMoveTheirNumbers_4 : ∃ (n : Nat) (toCtrl : Bool) (b data : List Byte) (u : State) (s : State),
    n < s.part.slots ∧
    s.linkTalks n = true ∧
    blockBad b = false ∧
    leAt b 0 2 / 4096 = 1 ∧
    leAt b 2 1 = 0 ∧
    leAt b 0 2 % 4096 = (s.endOf (endKey n toCtrl)).rxNext ∧
    u = ((s.sends n toCtrl b).acceptSf n toCtrl (leAt b 0 2 % 4096)).takeBlockMsgs n toCtrl (leAt b 0 2 % 4096) b :=
  ⟨3, true, goodBlock, [], ((({ live with slots := [(3, { pwren := true, phase := 5 })] } : State).sends 3 true goodBlock).acceptSf 3 true 0).takeBlockMsgs 3 true 0 goodBlock, { live with slots := [(3, { pwren := true, phase := 5 })] }, by decide +kernel⟩
theorem wit_LinkEndsMoveTheirNumbers_5 : ∃ (n : Nat) (toCtrl : Bool) (b data : List Byte) (s : State),
    n < s.part.slots ∧
    s.linkTalks n = true ∧
    blockBad b = false ∧
    leAt b 0 2 / 4096 = 1 ∧
    leAt b 2 1 = 0 ∧
    leAt b 0 2 % 4096 = (s.endOf (endKey n toCtrl)).rxNext ∧
    leAt b 3 1 = 0 ∧
    leAt b 22 1 = 0 ∧
    leAt b 41 1 = 0 :=
  ⟨3, true, goodBlock, [], { live with slots := [(3, { pwren := true, phase := 5 })] }, by decide +kernel⟩
theorem wit_LinkEndsMoveTheirNumbers_6 : ∃ (n : Nat) (toCtrl : Bool) (sf : BitVec 12) (f : Superframe) (older newer : List Superframe) (s : State),
    n < s.part.slots ∧
    s.linkRuns n = true ∧
    (s.endOf (endKey n toCtrl)).replay = older ++ f :: newer ∧
    f.no = sf.toNat ∧
    ((∀ g ∈ older, g.no ≠ sf.toNat)) :=
  ⟨3, true, 7#12, ⟨7, [], []⟩, [⟨5, [], []⟩, ⟨6, [], []⟩], [⟨8, [], []⟩], { live with slots := [(3, { pwren := true, phase := 5 })], ends := [(6, { replay := [⟨5, [], []⟩, ⟨6, [], []⟩, ⟨7, [], []⟩, ⟨8, [], []⟩] })] }, by decide +kernel⟩
theorem wit_LinkEndsMoveTheirNumbers_7 : ∃ (n : Nat) (toCtrl : Bool) (sf : BitVec 12) (s : State),
    n < s.part.slots ∧
    s.linkRuns n = true ∧
    ((∀ g ∈ (s.endOf (endKey n toCtrl)).replay, g.no ≠ sf.toNat)) :=
  ⟨3, true, 7#12, { live with slots := [(3, { pwren := true, phase := 5 })], ends := [(6, { replay := [⟨8, [], []⟩] })] }, by decide +kernel⟩
theorem wit_LinkEndsMoveTheirNumbers_8 : ∃ (n k : Nat) (toCtrl : Bool) (sf : BitVec 12) (s : State),
    n < s.part.slots ∧
    s.linkRuns n = true ∧
    k = (if (s.endOf (endKey n toCtrl)).replays.1 = sf.toNat then (s.endOf (endKey n toCtrl)).replays.2 + 1 else 1) ∧
    k < 4 :=
  ⟨3, 1, true, 4095#12, { live with slots := [(3, { pwren := true, phase := 5 })] }, by decide +kernel⟩
theorem wit_LinkEndsMoveTheirNumbers_9 : ∃ (n : Nat) (toCtrl : Bool) (sf : BitVec 12) (s : State),
    n < s.part.slots ∧
    s.linkRuns n = true ∧
    (s.endOf (endKey n toCtrl)).replays = (sf.toNat, 3) ∧
    (s.slot n).st.member = false :=
  ⟨3, true, 5#12, { live with slots := [(3, { pwren := true, phase := 5 })], ends := [(6, { replays := (5, 3) })] }, by decide +kernel⟩
theorem wit_LinkEndsMoveTheirNumbers_10 : ∃ (n k : Nat) (toCtrl : Bool) (f : Superframe) (rest : List Superframe) (s : State),
    n < s.part.slots ∧
    s.linkRuns n = true ∧
    (s.endOf (endKey n (!toCtrl))).replay = f :: rest ∧
    k = (if (s.endOf (endKey n (!toCtrl))).replays.1 = f.no then (s.endOf (endKey n (!toCtrl))).replays.2 + 1 else 1) ∧
    k < 4 :=
  ⟨3, 1, true, ⟨4, [], []⟩, [⟨5, [], []⟩], { live with slots := [(3, { pwren := true, phase := 5 })], ends := [(7, { replay := [⟨4, [], []⟩, ⟨5, [], []⟩] })] }, by decide +kernel⟩
theorem wit_LinkEndsMoveTheirNumbers_11 : ∃ (n : Nat) (toCtrl : Bool) (f : Superframe) (rest : List Superframe) (s : State),
    n < s.part.slots ∧
    s.linkRuns n = true ∧
    (s.endOf (endKey n (!toCtrl))).replay = f :: rest ∧
    (s.endOf (endKey n (!toCtrl))).replays = (f.no, 3) ∧
    (s.slot n).st.member = false :=
  ⟨3, true, ⟨4, [], []⟩, [⟨5, [], []⟩], { live with slots := [(3, { pwren := true, phase := 5 })], ends := [(7, { replay := [⟨4, [], []⟩, ⟨5, [], []⟩], replays := (4, 3) })] }, by decide +kernel⟩
theorem wit_LinkEndsMoveTheirNumbers_12 : ∃ (n : Nat) (toCtrl : Bool) (s : State),
    n < s.part.slots ∧
    s.linkRuns n = true ∧
    (s.endOf (endKey n toCtrl)).ackDue = true ∧
    (s.endOf (endKey n toCtrl)).resend = [] :=
  ⟨3, false, { live with slots := [(3, { pwren := true, phase := 5 })], ends := [(7, { ackDue := true })] }, by decide +kernel⟩
theorem wit_LinkEndsMoveTheirNumbers_13 : ∃ (n : Nat) (toCtrl : Bool) (f : Superframe) (rest : List Superframe) (s : State),
    n < s.part.slots ∧
    s.linkRuns n = true ∧
    (s.endOf (endKey n toCtrl)).ackDue = true ∧
    (s.endOf (endKey n toCtrl)).resend = f :: rest :=
  ⟨3, false, ⟨4, [], []⟩, [], { live with slots := [(3, { pwren := true, phase := 5 })], ends := [(7, { ackDue := true, resend := [⟨4, [], []⟩] })] }, by decide +kernel⟩
theorem wit_LinkEndsMoveTheirNumbers_14 : ∃ (p : Path) (n : Nat) (s : State),
    n < 64 ∧
    s.reach p (dwCART n + 4) = .ok ∧
    (s.slot n).pwren = true :=
  ⟨.bar2, 63, { live with slots := [(63, { pwren := true, phase := 1 })], ends := [(126, { txSeq := 5 })] }, by decide +kernel⟩
theorem wit_LinkEndsMoveTheirNumbers_15 : ∃ (p : Path) (n : Nat) (s : State),
    n < 64 ∧
    s.reach p (dwCART n + 4) = .ok ∧
    (s.slot n).phase = 5 ∧
    (s.slot n).st.member = false :=
  ⟨.bar2, 3, { live with slots := [(3, { pwren := true, phase := 5, st := .admitted })] }, by decide +kernel⟩
theorem wit_LinkEndsMoveTheirNumbers_16 : ∃ (p : Path) (n : Nat) (s : State),
    n < 64 ∧
    s.reach p (dwCART n + 4) = .ok ∧
    (s.slot n).phase = 5 ∧
    (s.slot n).st.member = true :=
  ⟨.bar2, 3, { live with slots := [(3, { pwren := true, phase := 5, st := .inService, pool := some 0 })] }, by decide +kernel⟩
theorem wit_LinkEndsMoveTheirNumbers_17 : ∃ (n cause : Nat) (s : State),
    n < s.part.slots ∧
    (s.slot n).phase = 5 ∧
    (s.slot n).st.member = false :=
  ⟨3, 1, { live with slots := [(3, { pwren := true, phase := 5, st := .admitted })] }, by decide +kernel⟩
theorem wit_LinkEndsMoveTheirNumbers_18 : ∃ (n cause : Nat) (s : State),
    n < s.part.slots ∧
    (s.slot n).phase = 5 ∧
    (s.slot n).st.member = true :=
  ⟨3, 1, { live with slots := [(3, { pwren := true, phase := 5, st := .inService, pool := some 0 })] }, by decide +kernel⟩
theorem wit_LinkEndsMoveTheirNumbers_19 : ∃ (n : Nat) (lp : LinkParams) (s : State),
    n < s.part.slots ∧
    (s.slot n).phase = 6 :=
  ⟨3, { pver := 1, cmdDepth := 256, lane0 := true, lane1 := true }, { live with slots := [(3, { pwren := true, phase := 6, st := .admitted })] }, by decide +kernel⟩
theorem wit_LinkEndsMoveTheirNumbers_20 : ∃ (n : Nat) (lp : LinkParams) (s : State),
    n < s.part.slots ∧
    (s.slot n).phase = 6 ∧
    (s.slot n).st.member = false :=
  ⟨3, { pver := 1, cmdDepth := 256, lane0 := true, lane1 := true }, { live with slots := [(3, { pwren := true, phase := 6, st := .admitted })] }, by decide +kernel⟩
theorem wit_LinkEndsMoveTheirNumbers_21 : ∃ (n : Nat) (lp : LinkParams) (s : State),
    n < s.part.slots ∧
    1 ≤ (s.slot n).phase ∧
    (s.slot n).phase ≤ 4 ∧
    (s.slot n).st ≠ .powering ∧
    (s.slot n).st ≠ .training ∧
    lp.pver = 1 ∧
    (lp.lane0 || lp.lane1) = true :=
  ⟨3, { pver := 1, cmdDepth := 256, lane0 := true, lane1 := false }, { live with slots := [(3, { pwren := true, phase := 1, st := .admitted })] }, by decide +kernel⟩
theorem wit_LinkEndsMoveTheirNumbers_22 : ∃ (n : Nat) (lp : LinkParams) (s : State),
    n < s.part.slots ∧
    1 ≤ (s.slot n).phase ∧
    (s.slot n).phase ≤ 4 ∧
    (s.slot n).st ≠ .powering ∧
    (s.slot n).st ≠ .training :=
  ⟨3, { pver := 1, cmdDepth := 256, lane0 := true, lane1 := false }, { live with slots := [(3, { pwren := true, phase := 1, st := .admitted })] }, by decide +kernel⟩
theorem wit_LinkEndsMoveTheirNumbers_23 : ∃ (n : Nat) (s : State),
    n < s.part.slots ∧
    2 ≤ (s.slot n).phase ∧
    (s.slot n).phase ≤ 4 :=
  ⟨3, { live with slots := [(3, { pwren := true, phase := 2, st := .training })] }, by decide +kernel⟩
theorem wit_LinkEndsMoveTheirNumbers_24 : ∃ (n : Nat) (s : State),
    n < s.part.slots ∧
    2 ≤ (s.slot n).phase ∧
    (s.slot n).phase ≤ 4 :=
  ⟨3, { live with slots := [(3, { pwren := true, phase := 2, st := .training })] }, by decide +kernel⟩
theorem wit_LinkEndsMoveTheirNumbers_25 : ∃ (n v : Nat) (s : State),
    n < s.part.slots ∧
    2 ≤ (s.slot n).phase ∧
    (s.slot n).phase ≤ 4 ∧
    v ≠ 1 :=
  ⟨3, 2, { live with slots := [(3, { pwren := true, phase := 2, st := .training })] }, by decide +kernel⟩
theorem wit_LinkEndsMoveTheirNumbers_26 : ∃ (n v : Nat) (s : State),
    n < s.part.slots ∧
    2 ≤ (s.slot n).phase ∧
    (s.slot n).phase ≤ 4 ∧
    v ≠ 1 :=
  ⟨3, 2, { live with slots := [(3, { pwren := true, phase := 2, st := .training })] }, by decide +kernel⟩
theorem wit_LinkEndsMoveTheirNumbers_27 : ∃ (n v : Nat) (toCtrl : Bool) (s : State),
    n < s.part.slots ∧
    s.linkRuns n = true :=
  ⟨3, 1, true, { live with slots := [(3, { pwren := true, phase := 5, st := .admitted })] }, by decide +kernel⟩
theorem wit_FramesReachTheirTag_1 : ∃ (n tag idx blocks valid hdrSf : Nat) (payload : List Byte) (s : State),
    n < s.part.slots ∧
    s.linkRuns n = true ∧
    (s.endOf (endKey n false)).nakSent = false ∧
    (s.endOf (endKey n false)).openFrames = [] ∧
    1 ≤ blocks ∧
    blocks ≤ 72 ∧
    payload.length = 64 * blocks :=
  ⟨3, 0, 0, 1, 2, 0, List.replicate 64 1, { live with slots := [(3, { pwren := true, phase := 5 })] }, by decide +kernel⟩
theorem wit_FramesReachTheirTag_2 : ∃ (n tag idx blocks valid hdrSf : Nat) (payload : List Byte) (s : State),
    n < s.part.slots ∧
    s.linkRuns n = true ∧
    (s.endOf (endKey n true)).nakSent = false ∧
    (s.endOf (endKey n true)).openFrames = [] ∧
    1 ≤ blocks ∧
    blocks ≤ 72 ∧
    payload.length = 64 * blocks :=
  ⟨3, 0, 0, 1, 8, 0, List.replicate 64 1, { live with slots := [(3, { pwren := true, phase := 5 })] }, by decide +kernel⟩
theorem wit_FramesReachTheirTag_3 : ∃ (n tag idx blocks valid hdrSf : Nat) (payload : List Byte) (o : OutCmd) (s : State),
    n < s.part.slots ∧
    s.linkRuns n = true ∧
    (s.endOf (endKey n true)).nakSent = false ∧
    (s.endOf (endKey n true)).openFrames = [] ∧
    1 ≤ blocks ∧
    blocks ≤ 72 ∧
    payload.length = 64 * blocks ∧
    (s.slot n).cmdAt tag = some o ∧
    o.why = .sync :=
  ⟨3, 0, 0, 1, 8, 0, List.replicate 64 1, { op := 4, m := { tag := 0 }, why := .sync, tSlow := 0 }, { live with slots := [(3, { pwren := true, phase := 5, out := [(0, { op := 4, m := { tag := 0 }, why := .sync, tSlow := 0 })] })] }, by decide +kernel⟩
theorem wit_FramesReachTheirTag_4 : ∃ (n tag idx blocks valid hdrSf : Nat) (payload : List Byte) (o : OutCmd) (s : State),
    n < s.part.slots ∧
    s.linkRuns n = true ∧
    (s.endOf (endKey n true)).nakSent = false ∧
    (s.endOf (endKey n true)).openFrames = [] ∧
    1 ≤ blocks ∧
    blocks ≤ 72 ∧
    payload.length = 64 * blocks ∧
    (s.slot n).cmdAt tag = some o ∧
    o.why = .life :=
  ⟨3, 0, 0, 1, 24, 0, List.replicate 64 0, { op := 0x31, m := { tag := 0 }, why := .life, tSlow := 0 }, { live with slots := [(3, { pwren := true, phase := 5, st := .admitted, out := [(0, { op := 0x31, m := { tag := 0 }, why := .life, tSlow := 0 })] })] }, by decide +kernel⟩
theorem wit_FramesReachTheirTag_5 : ∃ (n tag idx blocks valid hdrSf crc : Nat) (toCtrl : Bool) (payload : List Byte) (s : State),
    n < s.part.slots ∧
    s.linkRuns n = true ∧
    (s.endOf (endKey n toCtrl)).nakSent = false ∧
    (s.endOf (endKey n toCtrl)).openFrames = [] ∧
    1 ≤ blocks ∧
    blocks ≤ 72 ∧
    ((payload.length ≠ 64 * blocks ∨ crc ≠ crc32 payload)) :=
  ⟨3, 0, 0, 2, 8, 4095, 0, true, List.replicate 64 1, { live with slots := [(3, { pwren := true, phase := 5 })] }, by decide +kernel⟩
theorem wit_FramesReachTheirTag_6 : ∃ (n tag idx blocks valid hdrSf crc : Nat) (payload : List Byte) (s : State),
    n < s.part.slots ∧
    s.linkRuns n = true ∧
    (s.endOf (endKey n false)).nakSent = false ∧
    (blocks = 0 ∨ 72 < blocks ∨ (s.endOf (endKey n false)).openFrames ≠ []) :=
  ⟨3, 0, 0, 73, 0, 0, 0, [], { live with slots := [(3, { pwren := true, phase := 5 })] }, by decide +kernel⟩
theorem wit_FramesReachTheirTag_7 : ∃ (n tag idx blocks valid hdrSf crc : Nat) (payload : List Byte) (s : State),
    n < s.part.slots ∧
    s.linkRuns n = true ∧
    (s.endOf (endKey n true)).nakSent = false ∧
    (blocks = 0 ∨ 72 < blocks ∨ (s.endOf (endKey n true)).openFrames ≠ []) :=
  ⟨3, 0, 0, 0, 0, 0, 0, [], { live with slots := [(3, { pwren := true, phase := 5 })] }, by decide +kernel⟩
theorem wit_FramesReachTheirTag_8 : ∃ (n tag idx blocks valid hdrSf crc : Nat) (toCtrl : Bool) (payload : List Byte) (s : State),
    n < s.part.slots ∧
    (s.endOf (endKey n toCtrl)).nakSent = true :=
  ⟨3, 0, 0, 0, 0, 0, 0, true, [], { live with slots := [(3, { pwren := true, phase := 5 })], ends := [(6, { nakSent := true })] }, by decide +kernel⟩
theorem wit_FinalStatusesEndTheirCommand_1 : ∃ (n tag : Nat) (o : OutCmd) (s : State),
    n < s.part.slots ∧
    (s.slot n).phase = 5 ∧
    (s.slot n).cmdAt tag = some o ∧
    o.why ≠ .identify ∧
    o.why ≠ .challenge :=
  ⟨3, 0, unitCmd 0 9, { live with slots := [(3, { phase := 5, out := [(0, unitCmd 0 9)] })] }, by decide +kernel⟩
theorem wit_FinalStatusesEndTheirCommand_2 : ∃ (n tag : Nat) (o : OutCmd) (s : State),
    n < s.part.slots ∧
    (s.slot n).cmdAt tag = some o ∧
    (o.why = .identify ∨ o.why = .challenge) :=
  ⟨3, 0, { op := 1, m := { tag := 0 }, why := .identify, tSlow := 0 }, { live with slots := [(3, { phase := 5, out := [(0, { op := 1, m := { tag := 0 }, why := .identify, tSlow := 0 })] })] }, by decide +kernel⟩
theorem wit_FinalStatusesEndTheirCommand_3 : ∃ (n tag uid : Nat) (o : OutCmd) (u : Machine.PUnit) (s : State),
    n < s.part.slots ∧
    (s.slot n).phase = 5 ∧
    (s.slot n).cmdAt tag = some o ∧
    o.why = .unit uid ∧
    s.unit? uid = some u ∧
    u.restore = 0 ∧
    u.band ≠ none :=
  ⟨3, 0, 9, unitCmd 0 9, bandUnit 9, { live with slots := [(3, { phase := 5, out := [(0, unitCmd 0 9)] })], media := { units := [bandUnit 9] } }, by decide +kernel⟩
theorem wit_FinalStatusesEndTheirCommand_4 : ∃ (n tag d b m : Nat) (o : OutCmd) (s : State),
    n < s.part.slots ∧
    (s.slot n).phase = 5 ∧
    (s.slot n).cmdAt tag = some o ∧
    o.why = .erase d b m :=
  ⟨3, 0, 0, 5, 1, eraseCmd 0 5, { live with slots := [(3, { phase := 5, out := [(0, eraseCmd 0 5)] })] }, by decide +kernel⟩
theorem wit_FinalStatusesEndTheirCommand_5 : ∃ (n tag die block page : Nat) (o : OutCmd) (s : State),
    n < s.part.slots ∧
    (s.slot n).phase = 5 ∧
    (s.slot n).cmdAt tag = some o :=
  ⟨3, 0, 0, 600, 7, unitCmd 0 9, { live with slots := [(3, { phase := 5, out := [(0, unitCmd 0 9)] })], media := { units := [bandUnit 9] } }, by decide +kernel⟩
theorem wit_FinalStatusesEndTheirCommand_6 : ∃ (n tag uid die block page : Nat) (o : OutCmd) (u : Machine.PUnit) (s : State),
    n < s.part.slots ∧
    (s.slot n).phase = 5 ∧
    (s.slot n).cmdAt tag = some o ∧
    o.why = .unit uid ∧
    s.unit? uid = some u ∧
    u.restore = 0 ∧
    u.band ≠ none :=
  ⟨3, 0, 9, 0, 600, 7, unitCmd 0 9, bandUnit 9, { live with slots := [(3, { phase := 5, out := [(0, unitCmd 0 9)] })], media := { units := [bandUnit 9] } }, by decide +kernel⟩
theorem wit_FinalStatusesEndTheirCommand_7 : ∃ (n tag : Nat) (held : Bool) (o : OutCmd) (s : State),
    n < s.part.slots ∧
    (s.slot n).phase = 5 ∧
    (s.slot n).cmdAt tag = some o :=
  ⟨3, 0, true, unitCmd 0 9, { live with slots := [(3, { phase := 5, out := [(0, unitCmd 0 9)] })], media := { units := [bandUnit 9] } }, by decide +kernel⟩
theorem wit_FinalStatusesEndTheirCommand_8 : ∃ (n tag uid : Nat) (held : Bool) (o : OutCmd) (s : State),
    n < s.part.slots ∧
    (s.slot n).phase = 5 ∧
    (s.slot n).cmdAt tag = some o ∧
    o.why = .unit uid ∧
    s.unit? uid = none :=
  ⟨3, 0, 9, true, unitCmd 0 9, { live with slots := [(3, { phase := 5, out := [(0, unitCmd 0 9)] })] }, by decide +kernel⟩
theorem wit_FinalStatusesEndTheirCommand_9 : ∃ (n tag : Nat) (o : OutCmd) (s : State),
    n < s.part.slots ∧
    (s.slot n).phase = 5 ∧
    (s.slot n).cmdAt tag = some o :=
  ⟨3, 0, unitCmd 0 9, { live with slots := [(3, { phase := 5, out := [(0, unitCmd 0 9)] })], media := { units := [bandUnit 9] } }, by decide +kernel⟩
theorem wit_FinalStatusesEndTheirCommand_10 : ∃ (n tag uid : Nat) (o : OutCmd) (s : State),
    n < s.part.slots ∧
    (s.slot n).phase = 5 ∧
    (s.slot n).cmdAt tag = some o ∧
    o.why = .unit uid ∧
    s.unit? uid = none :=
  ⟨3, 0, 9, unitCmd 0 9, { live with slots := [(3, { phase := 5, out := [(0, unitCmd 0 9)] })] }, by decide +kernel⟩
theorem wit_FinalStatusesEndTheirCommand_11 : ∃ (n tag : Nat) (o : OutCmd) (s : State),
    n < s.part.slots ∧
    (s.slot n).phase = 5 ∧
    (s.slot n).cmdAt tag = some o :=
  ⟨3, 0, unitCmd 0 9, { live with slots := [(3, { phase := 5, out := [(0, unitCmd 0 9)] })], media := { units := [bandUnit 9] } }, by decide +kernel⟩
theorem wit_FinalStatusesEndTheirCommand_12 : ∃ (n tag uid : Nat) (o : OutCmd) (s : State),
    n < s.part.slots ∧
    (s.slot n).phase = 5 ∧
    (s.slot n).cmdAt tag = some o ∧
    o.why = .unit uid ∧
    s.unit? uid = none ∧
    (s.blockEnt ⟨n, o.m.die, o.m.block⟩).st ≠ .journal :=
  ⟨3, 0, 9, unitCmd 0 9, { live with slots := [(3, { phase := 5, out := [(0, unitCmd 0 9)] })] }, by decide +kernel⟩
theorem wit_FinalStatusesEndTheirCommand_13 : ∃ (n tag : Nat) (o : OutCmd) (s : State),
    n < s.part.slots ∧
    (s.slot n).phase = 5 ∧
    (s.slot n).cmdAt tag = some o :=
  ⟨3, 0, eraseCmd 0 5, { live with slots := [(3, { phase := 5, out := [(0, eraseCmd 0 5)] })] }, by decide +kernel⟩
theorem wit_FinalStatusesEndTheirCommand_14 : ∃ (n tag d b m : Nat) (o : OutCmd) (s : State),
    n < s.part.slots ∧
    (s.slot n).phase = 5 ∧
    (s.slot n).cmdAt tag = some o ∧
    o.why = .erase d b m ∧
    (s.blockEnt ⟨n, d, b⟩).st = .erased ∧
    (s.dieBlocks n d).length < 15 ∧
    (s.slot n).st = .admitted :=
  ⟨3, 0, 0, 5, 1, eraseCmd 0 5, { live with slots := [(3, { phase := 5, st := .admitted, out := [(0, eraseCmd 0 5)] })], media := { blocks := [(⟨3, 0, 5⟩, { st := .erased })] } }, by decide +kernel⟩
theorem wit_FinalStatusesEndTheirCommand_15 : ∃ (n tag : Nat) (o : OutCmd) (s : State),
    n < s.part.slots ∧
    (s.slot n).phase = 5 ∧
    (s.slot n).cmdAt tag = some o :=
  ⟨3, 0, unitCmd 0 9, { live with slots := [(3, { phase := 5, out := [(0, unitCmd 0 9)] })], media := { units := [bandUnit 9] } }, by decide +kernel⟩
theorem wit_FinalStatusesEndTheirCommand_16 : ∃ (n tag : Nat) (o : OutCmd) (s : State),
    n < s.part.slots ∧
    (s.slot n).phase = 5 ∧
    (s.slot n).cmdAt tag = some o ∧
    o.why = .probe ∧
    (s.slot n).diesFailed.contains o.m.die = false ∧
    s.media.units = [] ∧
    s.media.bands = [] ∧
    (s.slot n).st = .admitted :=
  ⟨3, 0, { op := 0x10, m := { tag := 0 }, why := .probe, tSlow := 0 }, { live with slots := [(3, { phase := 5, st := .admitted, out := [(0, { op := 0x10, m := { tag := 0 }, why := .probe, tSlow := 0 })] })] }, by decide +kernel⟩
theorem wit_FinalStatusesEndTheirCommand_17 : ∃ (n tag code : Nat) (o : OutCmd) (s : State),
    n < s.part.slots ∧
    (s.slot n).phase = 5 ∧
    (s.slot n).cmdAt tag = some o :=
  ⟨3, 0, 3, unitCmd 0 9, { live with slots := [(3, { phase := 5, out := [(0, unitCmd 0 9)] })], media := { units := [bandUnit 9] } }, by decide +kernel⟩
theorem wit_FinalStatusesEndTheirCommand_18 : ∃ (n tag code d b m : Nat) (o : OutCmd) (s : State),
    n < s.part.slots ∧
    (s.slot n).phase = 5 ∧
    (s.slot n).cmdAt tag = some o ∧
    o.why = .erase d b m ∧
    (s.blockEnt ⟨n, d, b⟩).st = .erased :=
  ⟨3, 0, 3, 0, 5, 1, eraseCmd 0 5, { live with slots := [(3, { phase := 5, st := .admitted, out := [(0, eraseCmd 0 5)] })], media := { blocks := [(⟨3, 0, 5⟩, { st := .erased })] } }, by decide +kernel⟩
theorem wit_FinalStatusesEndTheirCommand_19 : ∃ (n tag : Nat) (o : OutCmd) (s : State),
    n < s.part.slots ∧
    (s.slot n).phase = 5 ∧
    (s.slot n).cmdAt tag = some o :=
  ⟨3, 0, { op := 0x41, m := { tag := 0 }, why := .seqActivate, tSlow := 0 }, { live with slots := [(3, { phase := 5, st := .quarantined, updating := true, out := [(0, { op := 0x41, m := { tag := 0 }, why := .seqActivate, tSlow := 0 })] })] }, by decide +kernel⟩
theorem wit_FinalStatusesEndTheirCommand_20 : ∃ (n tag : Nat) (o : OutCmd) (s : State),
    n < s.part.slots ∧
    (s.slot n).phase = 5 ∧
    (s.slot n).cmdAt tag = some o ∧
    (s.slot n).updating = true ∧
    o.why ≠ .probe :=
  ⟨3, 0, { op := 0x41, m := { tag := 0 }, why := .seqActivate, tSlow := 0 }, { live with slots := [(3, { phase := 5, st := .quarantined, updating := true, out := [(0, { op := 0x41, m := { tag := 0 }, why := .seqActivate, tSlow := 0 })] })] }, by decide +kernel⟩
theorem wit_FinalStatusesEndTheirCommand_21 : ∃ (n tag : Nat) (o : OutCmd) (s : State),
    n < s.part.slots ∧
    (s.slot n).phase = 5 ∧
    (s.slot n).cmdAt tag = some o :=
  ⟨3, 0, { op := 0x41, m := { tag := 0 }, why := .seqActivate, tSlow := 0 }, { live with slots := [(3, { phase := 5, st := .quarantined, updating := true, out := [(0, { op := 0x41, m := { tag := 0 }, why := .seqActivate, tSlow := 0 })] })] }, by decide +kernel⟩
theorem wit_FinalStatusesEndTheirCommand_22 : ∃ (n tag : Nat) (o : OutCmd) (s : State),
    n < s.part.slots ∧
    (s.slot n).phase = 5 ∧
    (s.slot n).cmdAt tag = some o ∧
    (s.slot n).updating = true ∧
    o.why ≠ .probe :=
  ⟨3, 0, { op := 0x41, m := { tag := 0 }, why := .seqActivate, tSlow := 0 }, { live with slots := [(3, { phase := 5, st := .quarantined, updating := true, out := [(0, { op := 0x41, m := { tag := 0 }, why := .seqActivate, tSlow := 0 })] })] }, by decide +kernel⟩
theorem wit_FinalStatusesEndTheirCommand_23 : ∃ (n tag : Nat) (o : OutCmd) (s : State),
    n < s.part.slots ∧
    (s.slot n).phase = 5 ∧
    (s.slot n).cmdAt tag = some o :=
  ⟨3, 0, unitCmd 0 9, { live with slots := [(3, { phase := 5, out := [(0, unitCmd 0 9)] })], media := { units := [bandUnit 9] } }, by decide +kernel⟩
theorem wit_FinalStatusesEndTheirCommand_24 : ∃ (n tag uid : Nat) (o : OutCmd) (u : Machine.PUnit) (s : State),
    n < s.part.slots ∧
    (s.slot n).phase = 5 ∧
    (s.slot n).cmdAt tag = some o ∧
    o.why = .unit uid ∧
    s.unit? uid = some u :=
  ⟨3, 0, 9, unitCmd 0 9, bandUnit 9, { live with slots := [(3, { phase := 5, out := [(0, unitCmd 0 9)] })], media := { units := [bandUnit 9] } }, by decide +kernel⟩
theorem wit_FinalStatusesEndTheirCommand_25 : ∃ (n tag : Nat) (o : OutCmd) (s : State),
    n < s.part.slots ∧
    (s.slot n).phase = 5 ∧
    (s.slot n).cmdAt tag = some o ∧
    (match o.why with | .unit _ => false | _ => true) = true :=
  ⟨3, 0, { op := 0x10, m := { tag := 0 }, why := .probe, tSlow := 0 }, { live with slots := [(3, { phase := 5, out := [(0, { op := 0x10, m := { tag := 0 }, why := .probe, tSlow := 0 })] })] }, by decide +kernel⟩
theorem wit_FinalStatusesEndTheirCommand_26 : ∃ (n tag uid : Nat) (o : OutCmd) (u : Machine.PUnit) (s : State),
    n < s.part.slots ∧
    (s.slot n).phase = 5 ∧
    (s.slot n).cmdAt tag = some o ∧
    o.why = .unit uid ∧
    s.unit? uid = some u ∧
    u.left = false :=
  ⟨3, 0, 9, unitCmd 0 9, bandUnit 9, { live with slots := [(3, { phase := 5, out := [(0, unitCmd 0 9)] })], media := { units := [bandUnit 9] } }, by decide +kernel⟩
theorem wit_FinalStatusesEndTheirCommand_27 : ∃ (n tag first count : Nat) (o : OutCmd) (s : State),
    n < s.part.slots ∧
    (s.slot n).phase = 5 ∧
    (s.slot n).cmdAt tag = some o ∧
    o.op = 0x20 ∧
    first + count ≤ o.m.count :=
  ⟨3, 0, 0, 48, unitCmd 0 9, { live with slots := [(3, { phase := 5, out := [(0, unitCmd 0 9)] })] }, by decide +kernel⟩
theorem wit_FinalStatusesEndTheirCommand_28 : ∃ (n tag first count : Nat) (o : OutCmd) (s : State),
    n < s.part.slots ∧
    (s.slot n).phase = 5 ∧
    (s.slot n).cmdAt tag = some o ∧
    (o.op ≠ 0x20 ∨ o.m.count < first + count) :=
  ⟨3, 0, 1, 48, unitCmd 0 9, { live with slots := [(3, { phase := 5, out := [(0, unitCmd 0 9)] })] }, by decide +kernel⟩
theorem wit_FinalStatusesEndTheirCommand_29 : ∃ (i : Instr) (n tag code die block page : Nat) (held : Bool) (s : State),
    n < s.part.slots ∧
    (s.slot n).phase = 5 ∧
    (s.slot n).cmdAt tag = none ∧
    i ∈ [.success n tag, .dataReceived n tag, .programReplaced n tag die block page, .programFail n tag held, .notErased n tag, .retiredBlock n tag, .eraseFail n tag, .dieFail n tag, .cmdRefused n tag code, .fwInvalid n tag, .fwNotLoaded n tag, .shutDown n tag] :=
  ⟨.notErased 3 5, 3, 5, 0, 0, 0, 0, false, { live with slots := [(3, { phase := 5 })] }, by decide +kernel⟩
theorem wit_FinalStatusesEndTheirCommand_30 : ∃ (n tag first count : Nat) (s : State),
    n < s.part.slots ∧
    (s.slot n).phase = 5 ∧
    (s.slot n).cmdAt tag = none :=
  ⟨3, 5, 0, 0, { live with slots := [(3, { phase := 5 })] }, by decide +kernel⟩
theorem wit_MemberTimersAndCodewordsAct_1 : ∃ (n tag k rid : Nat) (a b : CwArrival) (o : OutCmd) (q : CwReq) (u : State) (s : State),
    n < s.part.slots ∧
    (s.slot n).phase = 5 ∧
    (s.slot n).cmdAt tag = some o ∧
    o.why = .cw rid ∧
    s.req? rid = some q ∧
    q.viaRow = false ∧
    k = q.i % 4 ∧
    s.injected n a = (b, u) :=
  ⟨3, 0, 2, 5, cwOk, cwOk, { op := 0x10, m := { tag := 0 }, why := .cw 5, tSlow := 0 }, { rid := 5, band := 1, wl := 0, mp := 0, i := 6 }, { live with slots := [(3, { phase := 5, out := [(0, { op := 0x10, m := { tag := 0 }, why := .cw 5, tSlow := 0 })] })], media := { reqs := [{ rid := 5, band := 1, wl := 0, mp := 0, i := 6 }] } }, { live with slots := [(3, { phase := 5, out := [(0, { op := 0x10, m := { tag := 0 }, why := .cw 5, tSlow := 0 })] })], media := { reqs := [{ rid := 5, band := 1, wl := 0, mp := 0, i := 6 }] } }, by decide +kernel⟩
theorem wit_MemberTimersAndCodewordsAct_2 : ∃ (n tag k uid : Nat) (a b : CwArrival) (o : OutCmd) (u : State) (s : State),
    n < s.part.slots ∧
    (s.slot n).phase = 5 ∧
    (s.slot n).cmdAt tag = some o ∧
    o.why = .bufferRead uid ∧
    s.injected n a = (b, u) :=
  ⟨3, 0, 2, 9, cwOk, cwOk, { op := 0x23, m := { tag := 0 }, why := .bufferRead 9, tSlow := 0 }, { live with slots := [(3, { phase := 5, out := [(0, { op := 0x23, m := { tag := 0 }, why := .bufferRead 9, tSlow := 0 })] })] }, { live with slots := [(3, { phase := 5, out := [(0, { op := 0x23, m := { tag := 0 }, why := .bufferRead 9, tSlow := 0 })] })] }, by decide +kernel⟩
theorem wit_MemberTimersAndCodewordsAct_3 : ∃ (n tag k : Nat) (a b : CwArrival) (o : OutCmd) (u : State) (s : State),
    n < s.part.slots ∧
    (s.slot n).phase = 5 ∧
    (s.slot n).cmdAt tag = some o ∧
    o.why = .probe ∧
    s.injected n a = (b, u) :=
  ⟨3, 0, 0, cwOk, cwOk, { op := 0x10, m := { tag := 0 }, why := .probe, tSlow := 0 }, { live with slots := [(3, { phase := 5, out := [(0, { op := 0x10, m := { tag := 0 }, why := .probe, tSlow := 0 })] })] }, { live with slots := [(3, { phase := 5, out := [(0, { op := 0x10, m := { tag := 0 }, why := .probe, tSlow := 0 })] })] }, by decide +kernel⟩
theorem wit_MemberTimersAndCodewordsAct_4 : ∃ (n tag : Nat) (o : OutCmd) (s : State),
    n < s.part.slots ∧
    (s.slot n).cmdAt tag = some o ∧
    (o.op = 0x10 ∨ o.op = 0x20) ∧
    o.slowCounted = false :=
  ⟨3, 0, { op := 0x10, m := { tag := 0 }, why := .probe, tSlow := 0 }, { live with slots := [(3, { phase := 5, st := .admitted, out := [(0, { op := 0x10, m := { tag := 0 }, why := .probe, tSlow := 0 })] })] }, by decide +kernel⟩
theorem wit_MemberTimersAndCodewordsAct_5 : ∃ (n tag : Nat) (o : OutCmd) (s : State),
    n < s.part.slots ∧
    (s.slot n).cmdAt tag = some o ∧
    (o.slowCounted = true ∨ (o.op ≠ 0x10 ∧ o.op ≠ 0x20)) :=
  ⟨3, 0, { ({ op := 0x10, m := { tag := 0 }, why := .probe, tSlow := 0 } : OutCmd) with slowCounted := true }, { live with slots := [(3, { phase := 5, st := .admitted, out := [(0, { ({ op := 0x10, m := { tag := 0 }, why := .probe, tSlow := 0 } : OutCmd) with slowCounted := true })] })] }, by decide +kernel⟩
theorem wit_MemberTimersAndCodewordsAct_6 : ∃ (n page mode : Nat) (pl : Place) (s : State),
    n < s.part.slots ∧
    (s.slot n).slow = true ∧
    s.probePlace n = some (pl, page, mode) :=
  ⟨3, 7, 1, ⟨3, 1, 0⟩, { live with slots := [(3, { phase := 5, st := .inService, slow := true, rootAt := some (1, 0, 7) })] }, by decide +kernel⟩
theorem wit_MemberTimersAndCodewordsAct_7 : ∃ (n p : Nat) (s : State),
    n < s.part.slots ∧
    (s.slot n).offAfterShutdown = false ∧
    (s.slot n).st.member = true ∧
    (s.slot n).out ≠ [] ∧
    (s.slot n).rolling = false ∧
    (s.slot n).pool = some p :=
  ⟨3, 1, { live with slots := [(3, { phase := 5, st := .inService, pool := some 1, out := [(0, unitCmd 0 9)] })] }, by decide +kernel⟩
theorem wit_MemberTimersAndCodewordsAct_8 : ∃ (n : Nat) (s : State),
    n < s.part.slots ∧
    (s.slot n).offAfterShutdown = true :=
  ⟨3, { live with slots := [(3, { phase := 5, st := .admitted, offAfterShutdown := true })] }, by decide +kernel⟩
theorem wit_MemberTimersAndCodewordsAct_9 : ∃ (n : Nat) (s : State),
    n < s.part.slots ∧
    (s.slot n).st.member = false :=
  ⟨3, { live with slots := [(3, { phase := 5, st := .admitted, fastCount := 3 })] }, by decide +kernel⟩
theorem wit_MemberTimersAndCodewordsAct_10 : ∃ (n : Nat) (w : List (Nat × Nat)) (s : State),
    n < s.part.slots ∧
    (s.slot n).st.member = true ∧
    w = (((s.slot n).fastCount, (s.slot n).slowCount) :: (s.slot n).win).take 10 :=
  ⟨3, [(3, 0)], { live with slots := [(3, { phase := 5, st := .inService, pool := some 0, fastCount := 3 })] }, by decide +kernel⟩
theorem wit_MemberTimersAndCodewordsAct_11 : ∃ (p : Path) (n : Nat) (v : Word) (s : State),
    n < 64 ∧
    s.reach p (dwCART n + 0x400) = .ok ∧
    s.pwr.mode = 1 :=
  ⟨.bar2, 3, 0xFFFFFFFF, { live with pwr := { live.pwr with mode := 1 } }, by decide +kernel⟩
theorem wit_MemberTimersAndCodewordsAct_12 : ∃ (p : Path) (n : Nat) (v : Word) (s : State),
    n < 64 ∧
    s.reach p (dwCART n + 0x400) = .ok ∧
    s.pwr.mode ≠ 1 :=
  ⟨.bar2, 3, 0xFFFFFFFF, live, by decide +kernel⟩
theorem wit_SequencerAnswersItsCommands_1 : ∃ (n : Nat) (m : CartCmd) (s : State),
    n < s.part.slots ∧
    s.linkRuns n = true ∧
    (s.seqOf n).refuse 0x01 m = none :=
  ⟨3, { tag := 0 }, seqLive, by decide +kernel⟩
theorem wit_SequencerAnswersItsCommands_2 : ∃ (n : Nat) (m : CartCmd) (s : State),
    n < s.part.slots ∧
    s.linkRuns n = true ∧
    (s.seqOf n).refuse 0x02 m = none :=
  ⟨3, { tag := 0, arg := 1 }, seqLive, by decide +kernel⟩
theorem wit_SequencerAnswersItsCommands_3 : ∃ (n : Nat) (m : CartCmd) (nonce uid : Nat) (s : State),
    n < s.part.slots ∧
    s.linkRuns n = true ∧
    (s.seqOf n).refuse 0x03 m = none :=
  ⟨3, { tag := 0 }, 5, 6, seqLive, by decide +kernel⟩
theorem wit_SequencerAnswersItsCommands_4 : ∃ (n : Nat) (m : CartCmd) (s : State),
    n < s.part.slots ∧
    s.linkRuns n = true ∧
    (s.seqOf n).refuse 0x04 m = none :=
  ⟨3, { tag := 0 }, seqLive, by decide +kernel⟩
theorem wit_SequencerAnswersItsCommands_5 : ∃ (n : Nat) (m : CartCmd) (s : State),
    n < s.part.slots ∧
    s.linkRuns n = true ∧
    (s.seqOf n).refuse 0x10 m = none :=
  ⟨3, { tag := 0, die := 31, plane := 3, block := 1023, page := 2, mode := 0, cwMask := 15, soft := 2, readLevel := 31 }, seqLive, by decide +kernel⟩
theorem wit_SequencerAnswersItsCommands_6 : ∃ (n : Nat) (m : CartCmd) (s : State),
    n < s.part.slots ∧
    s.linkRuns n = true ∧
    (s.seqOf n).refuse 0x10 m = none :=
  ⟨3, { tag := 0, die := 31, plane := 3, block := 1023, page := 2, mode := 0, cwMask := 15, soft := 2, readLevel := 31 }, seqLive, by decide +kernel⟩
theorem wit_SequencerAnswersItsCommands_7 : ∃ (n : Nat) (m : CartCmd) (blank : Bool) (s : State),
    n < s.part.slots ∧
    s.linkRuns n = true ∧
    (s.seqOf n).refuse 0x20 m = none ∧
    (blank = true ∨ (s.seqOf n).knownErased m = true) :=
  ⟨3, { tag := 0, die := 0, block := 5, page := 2, mode := 1, count := 16 }, false, seqLive, by decide +kernel⟩
theorem wit_SequencerAnswersItsCommands_8 : ∃ (n : Nat) (m : CartCmd) (s : State),
    n < s.part.slots ∧
    s.linkRuns n = true ∧
    (s.seqOf n).refuse 0x20 m = none ∧
    (s.seqOf n).knownErased m = false :=
  ⟨3, { tag := 0, die := 0, block := 6, page := 2, mode := 1, count := 16 }, seqLive, by decide +kernel⟩
theorem wit_SequencerAnswersItsCommands_9 : ∃ (n : Nat) (m : CartCmd) (s : State),
    n < s.part.slots ∧
    s.linkRuns n = true ∧
    (s.seqOf n).refuse 0x21 m = none :=
  ⟨3, { tag := 0, die := 31, block := 5, mode := 0 }, seqLive, by decide +kernel⟩
theorem wit_SequencerAnswersItsCommands_10 : ∃ (n : Nat) (m : CartCmd) (fr : List (Nat × List Byte)) (s : State),
    n < s.part.slots ∧
    s.linkRuns n = true ∧
    (s.seqOf n).refuse 0x23 m = none ∧
    look (s.seqOf n).heldData m.arg = some fr :=
  ⟨3, { tag := 0, arg := 9 }, [(0, [1, 2])], seqHeld, by decide +kernel⟩
theorem wit_SequencerAnswersItsCommands_11 : ∃ (n : Nat) (m : CartCmd) (fr : List (Nat × List Byte)) (s : State),
    n < s.part.slots ∧
    s.linkRuns n = true ∧
    (s.seqOf n).refuse 0x24 m = none ∧
    look (s.seqOf n).heldData m.arg = some fr :=
  ⟨3, { tag := 0, arg := 9 }, [(0, [1, 2])], seqHeld, by decide +kernel⟩
theorem wit_SequencerAnswersItsCommands_12 : ∃ (i : Instr) (n op : Nat) (m : CartCmd) (s : State),
    n < s.part.slots ∧
    s.linkRuns n = true ∧
    (op, i) ∈ [(0x23, .bufferRead n m), (0x24, .bufferRelease n m)] ∧
    (s.seqOf n).refuse op m = none ∧
    look (s.seqOf n).heldData m.arg = none :=
  ⟨.bufferRelease 3 { tag := 0, arg := 9 }, 3, 0x24, { tag := 0, arg := 9 }, seqLive, by decide +kernel⟩
theorem wit_SequencerAnswersItsCommands_13 : ∃ (n : Nat) (m : CartCmd) (s : State),
    n < s.part.slots ∧
    s.linkRuns n = true ∧
    (s.seqOf n).refuse 0x30 m = none :=
  ⟨3, { tag := 0, die := 31 }, seqLive, by decide +kernel⟩
theorem wit_SequencerAnswersItsCommands_14 : ∃ (n : Nat) (m : CartCmd) (s : State),
    n < s.part.slots ∧
    s.linkRuns n = true ∧
    (s.seqOf n).refuse 0x31 m = none :=
  ⟨3, { tag := 0 }, seqLive, by decide +kernel⟩
theorem wit_SequencerAnswersItsCommands_15 : ∃ (n : Nat) (m : CartCmd) (s : State),
    n < s.part.slots ∧
    s.linkRuns n = true ∧
    (s.seqOf n).refuse 0x33 m = none :=
  ⟨3, { tag := 0, die := 0, block := 5 }, seqLive, by decide +kernel⟩
theorem wit_SequencerAnswersItsCommands_16 : ∃ (n : Nat) (m : CartCmd) (data : List Byte) (s : State),
    n < s.part.slots ∧
    s.linkRuns n = true ∧
    (s.seqOf n).refuse 0x40 m = none :=
  ⟨3, { tag := 0, arg := 64, count := 4096 }, [1, 2, 3], seqLive, by decide +kernel⟩
theorem wit_SequencerAnswersItsCommands_17 : ∃ (n : Nat) (m : CartCmd) (s : State),
    n < s.part.slots ∧
    s.linkRuns n = true ∧
    (s.seqOf n).refuse 0x41 m = none ∧
    (s.seqOf n).hasImage = true ∧
    (s.slot n).rolling = false :=
  ⟨3, { tag := 0 }, seqImage, by decide +kernel⟩
theorem wit_SequencerAnswersItsCommands_18 : ∃ (n : Nat) (m : CartCmd) (s : State),
    n < s.part.slots ∧
    s.linkRuns n = true ∧
    (s.seqOf n).refuse 0x41 m = none ∧
    (s.seqOf n).hasImage = true ∧
    (s.slot n).rolling = true :=
  ⟨3, { tag := 0 }, { seqImage with slots := [(3, { st := .inService, pool := some 0, rolling := true, pwren := true, phase := 5 })] }, by decide +kernel⟩
theorem wit_SequencerAnswersItsCommands_19 : ∃ (n : Nat) (m : CartCmd) (s : State),
    n < s.part.slots ∧
    s.linkRuns n = true ∧
    (s.seqOf n).refuse 0x41 m = none ∧
    (s.seqOf n).hasImage = true :=
  ⟨3, { tag := 0 }, seqImage, by decide +kernel⟩
theorem wit_SequencerAnswersItsCommands_20 : ∃ (n : Nat) (m : CartCmd) (ok : Bool) (s : State),
    n < s.part.slots ∧
    s.linkRuns n = true ∧
    (s.seqOf n).refuse 0x41 m = none ∧
    (s.seqOf n).hasImage = false :=
  ⟨3, { tag := 0 }, false, seqLive, by decide +kernel⟩
theorem wit_SequencerAnswersItsCommands_21 : ∃ (n : Nat) (m : CartCmd) (s : State),
    n < s.part.slots ∧
    s.linkRuns n = true ∧
    (s.seqOf n).refuse 0x50 m = none :=
  ⟨3, { tag := 0 }, seqLive, by decide +kernel⟩
theorem wit_SequencerAnswersItsCommands_22 : ∃ (n : Nat) (m : CartCmd) (s : State),
    n < s.part.slots ∧
    s.linkRuns n = true ∧
    (s.seqOf n).refuse 0x7F m = none ∧
    ((∀ e ∈ (s.seqOf n).cmds, e.2.op ≠ 0x20 ∧ e.2.op ≠ 0x7F)) :=
  ⟨3, { tag := 0 }, seqLive, by decide +kernel⟩
theorem wit_SequencerAnswersItsCommands_23 : ∃ (n : Nat) (m : CartCmd) (s : State),
    n < s.part.slots ∧
    s.linkRuns n = true ∧
    (s.seqOf n).refuse 0x7F m = none ∧
    ((∃ e ∈ (s.seqOf n).cmds, e.2.op = 0x20)) :=
  ⟨3, { tag := 0 }, seqProg, by decide +kernel⟩
theorem wit_SequencerRefusesByTheFirstFailingCheck_1 : ∃ (n code : Nat) (m : CartCmd) (s : State),
    n < s.part.slots ∧
    s.linkRuns n = true ∧
    (∀ e ∈ [(0x01, Instr.cartIdentify n m), (0x02, .getCert n m), (0x04, .sync n m), (0x20, .cartProgram n m true), (0x21, .erase n m), (0x23, .bufferRead n m), (0x24, .bufferRelease n m), (0x30, .wearRead n m), (0x31, .lifeRead n m), (0x33, .retireBlock n m), (0x40, .fwDownload n m []), (0x41, .fwActivate n m true), (0x50, .getHealth n m), (0x7F, .cartShutdown n m)], (s.seqOf n).refuse e.1 m = some code) :=
  ⟨3, 0x3F, { tag := 0 }, onSeq { seqA with shut := true }, by decide +kernel⟩
theorem wit_SequencerRefusesByTheFirstFailingCheck_2 : ∃ (i : Instr) (n op code nonce uid : Nat) (alive : Bool) (m : CartCmd) (s : State),
    n < s.part.slots ∧
    s.linkRuns n = true ∧
    (op, i) ∈ [(0x03, .challenge n m nonce uid), (0x10, .cartRead n ⟨m, alive⟩)] ∧
    (s.seqOf n).refuse op m = some code :=
  ⟨.challenge 3 { tag := 0 } 5 6, 3, 3, 0x3F, 5, 6, true, { tag := 0 }, onSeq { seqA with shut := true }, by decide +kernel⟩
theorem wit_SequencerRefusesByTheFirstFailingCheck_3 : ∃ (q : Seq) (op : Nat) (m : CartCmd),
    q.shut = true :=
  ⟨{ seqA with shut := true }, 0x21, { tag := 0 }, by decide +kernel⟩
theorem wit_SequencerRefusesByTheFirstFailingCheck_4 : ∃ (q : Seq) (op : Nat) (m : CartCmd),
    q.shut = false ∧
    (q.depth ≤ q.cmds.length + q.heldData.length ∨ q.cmds.any (fun e => e.1 = m.tag) = true) :=
  ⟨{ seqA with cmds := [(0, seqPC)] }, 0x21, { tag := 0 }, by decide +kernel⟩
theorem wit_SequencerRefusesByTheFirstFailingCheck_5 : ∃ (q : Seq) (op : Nat) (m : CartCmd),
    q.shut = false ∧
    q.cmds.length + q.heldData.length < q.depth ∧
    q.cmds.any (fun e => e.1 = m.tag) = false ∧
    q.heldData.any (fun e => e.1 = m.tag) = false ∧
    knownOp op = false :=
  ⟨seqA, 0x22, { tag := 0 }, by decide +kernel⟩
theorem wit_SequencerRefusesByTheFirstFailingCheck_6 : ∃ (q : Seq) (op : Nat) (m : CartCmd),
    q.shut = false ∧
    q.cmds.length + q.heldData.length < q.depth ∧
    q.cmds.any (fun e => e.1 = m.tag) = false ∧
    q.heldData.any (fun e => e.1 = m.tag) = false ∧
    knownOp op = true ∧
    q.inRange op m = false :=
  ⟨seqA, 0x30, { tag := 0, die := 64 }, by decide +kernel⟩
theorem wit_SequencerRefusesByTheFirstFailingCheck_7 : ∃ (q : Seq) (m : CartCmd),
    q.shut = false ∧
    q.cmds.length + q.heldData.length < q.depth ∧
    q.cmds.any (fun e => e.1 = m.tag) = false ∧
    q.heldData.any (fun e => e.1 = m.tag) = false ∧
    m.mode = 2 :=
  ⟨seqA, { tag := 0, mode := 2 }, by decide +kernel⟩
theorem wit_SequencerRefusesByTheFirstFailingCheck_8 : ∃ (q : Seq) (m : CartCmd),
    q.shut = false ∧
    q.cmds.length + q.heldData.length < q.depth ∧
    q.cmds.any (fun e => e.1 = m.tag) = false ∧
    q.heldData.any (fun e => e.1 = m.tag) = false ∧
    m.mode ≤ 1 ∧
    m.die < q.dies ∧
    m.block < q.offered ∧
    q.failedDies.contains m.die = true :=
  ⟨{ seqA with failedDies := [31] }, { tag := 0, mode := 1, die := 31, block := 1023 }, by decide +kernel⟩
theorem wit_SequencerRefusesByTheFirstFailingCheck_9 : ∃ (q : Seq) (m : CartCmd),
    q.shut = false ∧
    q.cmds.length + q.heldData.length < q.depth ∧
    q.cmds.any (fun e => e.1 = m.tag) = false ∧
    q.heldData.any (fun e => e.1 = m.tag) = false ∧
    m.mode ≤ 1 ∧
    m.die < q.dies ∧
    m.block < q.offered ∧
    q.failedDies.contains m.die = false ∧
    (q.blk m.die m.block).retired = true :=
  ⟨{ seqA with blocks := [(5, { retired := true })] }, { tag := 0, mode := 0, die := 0, block := 5 }, by decide +kernel⟩
theorem wit_DieEndsSettleTheSequencer_1 : ∃ (n tag : Nat) (c : SeqCmd) (s : State),
    n < s.part.slots ∧
    look (s.seqOf n).cmds tag = some c ∧
    c.op = 0x20 ∧
    c.state = 2 :=
  ⟨3, 4, seqPC, seqProg, by decide +kernel⟩
theorem wit_DieEndsSettleTheSequencer_2 : ∃ (n tag : Nat) (c : SeqCmd) (s : State),
    n < s.part.slots ∧
    look (s.seqOf n).cmds tag = some c ∧
    c.op = 0x20 ∧
    c.state = 2 ∧
    (s.seqOf n).spare ≤ (s.seqOf n).reserve.get zeroCell c.m.die :=
  ⟨3, 4, seqPC, { seqProg with seqs := [(3, { desc := descBody, reserve := [(0, 32)], cmds := [(4, seqPC)] })] }, by decide +kernel⟩
theorem wit_DieEndsSettleTheSequencer_3 : ∃ (n tag : Nat) (c : SeqCmd) (s : State),
    n < s.part.slots ∧
    look (s.seqOf n).cmds tag = some c ∧
    c.op = 0x20 ∧
    c.state = 2 ∧
    (s.seqOf n).reserve.get zeroCell c.m.die < (s.seqOf n).spare :=
  ⟨3, 4, seqPC, seqProg, by decide +kernel⟩
theorem wit_DieEndsSettleTheSequencer_4 : ∃ (n tag : Nat) (v : Bool) (c : SeqCmd) (s : State),
    n < s.part.slots ∧
    look (s.seqOf n).cmds tag = some c ∧
    c.op = 0x20 ∧
    c.state = 2 :=
  ⟨3, 4, true, seqPC, seqProg, by decide +kernel⟩
theorem wit_DieEndsSettleTheSequencer_5 : ∃ (n tag : Nat) (c : SeqCmd) (s : State),
    n < s.part.slots ∧
    look (s.seqOf n).cmds tag = some c ∧
    c.op = 0x21 :=
  ⟨3, 4, { op := 0x21, m := { tag := 4, block := 5 } }, { live with seqs := [(3, { cmds := [(4, { op := 0x21, m := { tag := 4, block := 5 } })] })] }, by decide +kernel⟩
theorem wit_DieEndsSettleTheSequencer_6 : ∃ (n tag : Nat) (c : SeqCmd) (s : State),
    n < s.part.slots ∧
    look (s.seqOf n).cmds tag = some c ∧
    c.op = 0x21 :=
  ⟨3, 4, { op := 0x21, m := { tag := 4, block := 5 } }, { live with seqs := [(3, { cmds := [(4, { op := 0x21, m := { tag := 4, block := 5 } })] })] }, by decide +kernel⟩
theorem wit_DieEndsSettleTheSequencer_7 : ∃ (n tag : Nat) (c : SeqCmd) (s : State),
    n < s.part.slots ∧
    look (s.seqOf n).cmds tag = some c ∧
    c.op = 0x21 :=
  ⟨3, 4, { op := 0x21, m := { tag := 4, block := 5 } }, { live with seqs := [(3, { cmds := [(4, { op := 0x21, m := { tag := 4, block := 5 } })] })] }, by decide +kernel⟩
theorem wit_BackgroundWorkActsOnItsPool_1 : ∃ (pool band row nsx seg n : Nat) (s : State),
    s.coreOn = false :=
  ⟨0, 1, 2, 0, 0, 3, { live with pwr := {} }, by decide +kernel⟩
theorem wit_BackgroundWorkActsOnItsPool_2 : ∃ (pool : Nat) (s u : State),
    s.coreOn = true ∧
    pool < 4 ∧
    u = s.fillOpen (s.pool pool).logBand :=
  ⟨0, live, live, by decide +kernel⟩
theorem wit_BackgroundWorkActsOnItsPool_3 : ∃ (pool n : Nat) (s : State),
    s.coreOn = true ∧
    n < 64 ∧
    (s.slot n).pool = some pool ∧
    (s.ring n).blocks ≠ [] :=
  ⟨1, 3, { live with slots := [(3, { pool := some 1 })], media := { rings := [(3, { blocks := [⟨3, 0, 5⟩] })] } }, by decide +kernel⟩
theorem wit_BackgroundWorkActsOnItsPool_4 : ∃ (pool n : Nat) (s : State),
    s.coreOn = true ∧
    n < 64 ∧
    (s.slot n).pool = some pool ∧
    (s.ring n).blocks = [] :=
  ⟨1, 3, { live with slots := [(3, { pool := some 1 })] }, by decide +kernel⟩
theorem wit_BackgroundWorkActsOnItsPool_5 : ∃ (nsx seg a : Nat) (x : Ns) (s : State),
    s.nsx? nsx = some x ∧
    (x.seg seg).a = some a ∧
    s.coreOn = true ∧
    s.openDirect (x.seg seg) = true ∧
    (s.band a).copying = false ∧
    s.fillBusy x seg a = false :=
  ⟨0, 0, 5, nsFill, { live with media := { nss := [nsFill], bands := [(5, { role := 1, n := 3, rows := 4, c := 48, nsx := 0, handle := some 2 })] } }, by decide +kernel⟩
theorem wit_BackgroundWorkActsOnItsPool_6 : ∃ (nsx seg : Nat) (x : Ns) (s : State),
    s.nsx? nsx = some x ∧
    s.coreOn = true ∧
    seg < s.segCount x ∧
    (x.seg seg).folding = none ∧
    s.openDirect (x.seg seg) = false ∧
    s.narrowFor x = false ∧
    s.segBusy x seg = false ∧
    s.foldDue x seg = true :=
  ⟨0, 0, { nsFold0 with nNs := 4 }, foldWide, by decide +kernel⟩
theorem wit_BackgroundWorkActsOnItsPool_7 : ∃ (band : Nat) (x : Ns) (s : State),
    (s.band band).role = 2 ∧
    (s.band band).sumDurable = true ∧
    (s.band band).shavings = false ∧
    s.nsx? (s.band band).nsx = some x ∧
    (x.seg (s.band band).seg).folding = some band :=
  ⟨6, nsFold, { live with media := { nss := [nsFold], bands := [(6, { role := 2, nsx := 0, sumDurable := true, closed := true })] } }, by decide +kernel⟩
theorem wit_BackgroundWorkActsOnItsPool_8 : ∃ (pool band : Nat) (s : State),
    s.coreOn = true ∧
    (s.band band).role = 3 ∧
    (s.band band).pool = pool ∧
    (s.band band).closed = true ∧
    (s.band band).shavings = false ∧
    ((∀ g ∈ s.media.gcs, g.src ≠ band)) ∧
    s.logBusy pool = false ∧
    (s.gcForced band = true ∨ s.gcVictim pool band = true) :=
  ⟨0, 7, { live with media := { bands := [(7, { role := 3, closed := true, pinned := true })] } }, by decide +kernel⟩
set_option maxRecDepth 1000000 in
theorem wit_BackgroundWorkActsOnItsPool_9 : ∃ (n die mode : Nat) (pl : Place) (s : State),
    n < s.part.slots ∧
    (s.slot n).st = .inService ∧
    (s.slot n).lifeFlags.testBit 2 = false ∧
    mode ≤ 1 ∧
    die < (s.slot n).dieCount ∧
    (s.slot n).diesFailed.contains die = false ∧
    s.mustErase n die = some pl :=
  ⟨3, 63, 1, ⟨3, 63, 5⟩, { live with slots := [(3, { st := .inService, desc := goodDesc })], media := { seq := 2 ^ 47, blocks := [(⟨3, 63, 5⟩, { st := .shavings 9 })] } }, by decide +kernel⟩
theorem wit_BackgroundWorkActsOnItsPool_10 : ∃ (n die mode : Nat) (pl : Place) (s u : State),
    n < s.part.slots ∧
    (s.slot n).st = .inService ∧
    (s.slot n).lifeFlags.testBit 2 = false ∧
    mode ≤ 1 ∧
    die < (s.slot n).dieCount ∧
    (s.slot n).diesFailed.contains die = false ∧
    s.mustErase n die = none ∧
    ((s.dieBlocks n die).filter (fun e => e.2.st = .erased ∧ e.2.mode = mode)).length < (if mode = 0 then 2 else 1) ∧
    s.pickDirty n die = (some pl, u) :=
  ⟨3, 63, 1, ⟨3, 63, 5⟩, reserveState, (reserveState.pickDirty 3 63).2, by decide +kernel⟩
theorem wit_BackgroundWorkActsOnItsPool_11 : ∃ (n die mode : Nat) (s : State),
    n < s.part.slots ∧
    s.mustErase n die = none ∧
    (if mode = 0 then 2 else 1) ≤ ((s.dieBlocks n die).filter (fun e => e.2.st = .erased ∧ e.2.mode = mode)).length :=
  ⟨3, 63, 1, { live with media := { blocks := [(⟨3, 63, 5⟩, { st := .erased, mode := 1 })] } }, by decide +kernel⟩
theorem wit_BackgroundWorkActsOnItsPool_12 : ∃ (pool : Nat) (s : State),
    s.coreOn = true ∧
    pool < 4 :=
  ⟨3, wearState, by decide +kernel⟩
theorem wit_BackgroundWorkActsOnItsPool_13 : ∃ (pool : Nat) (s : State),
    s.coreOn = true ∧
    pool < 4 :=
  ⟨2, { live with slots := [(3, { pool := some 2, st := .inService })] }, by decide +kernel⟩
theorem wit_BackgroundWorkActsOnItsPool_15 : ∃ (pool band row : Nat) (s : State),
    s.coreOn = true ∧
    ((s.band band).role = 1 ∨ (s.band band).role = 2) ∧
    (s.band band).pool = pool ∧
    (s.band band).shavings = false ∧
    s.rebuildTurn pool band = true :=
  ⟨0, 7, 0, { live with media := { bands := [(7, { role := 1, n := 2, closed := true, members := [⟨70, 0, 0⟩, ⟨1, 0, 0⟩, ⟨2, 0, 0⟩, ⟨3, 0, 0⟩] })] } }, by decide +kernel⟩
theorem wit_BackgroundWorkActsOnItsPool_16 : ∃ (pool band row : Nat) (s : State),
    s.coreOn = true ∧
    (s.band band).role = 3 ∧
    (s.band band).pool = pool ∧
    (s.band band).shavings = false ∧
    s.gcForced band = true ∧
    s.rebuildAhead pool 2 = false ∧
    ((∀ g ∈ s.media.gcs, g.src ≠ band)) ∧
    (s.band band).closed = true ∧
    s.logBusy pool = false :=
  ⟨0, 7, 0, { live with media := { bands := [(7, { role := 3, closed := true, pinned := true })] } }, by decide +kernel⟩
theorem wit_BackgroundWorkActsOnItsPool_17 : ∃ (pool band row : Nat) (s : State),
    s.coreOn = true ∧
    (s.band band).role = 3 ∧
    (s.band band).pool = pool ∧
    (s.band band).shavings = false ∧
    s.gcForced band = true ∧
    s.rebuildAhead pool 2 = false ∧
    ((∀ g ∈ s.media.gcs, g.src ≠ band)) ∧
    (s.band band).closed = false :=
  ⟨0, 7, 0, { live with media := { bands := [(7, { role := 3, pinned := true })] } }, by decide +kernel⟩
theorem wit_BackgroundWorkActsOnItsPool_18 : ∃ (pool band row : Nat) (s : State),
    s.coreOn = true ∧
    (s.band band).role = 4 ∧
    (s.band band).pool = pool ∧
    (s.band band).shavings = false ∧
    (s.pool pool).regBand = some band ∧
    s.gcForced band = true :=
  ⟨0, 7, 0, { live with media := { pools := [(0, { regBand := some 7 })], bands := [(7, { role := 4, pinned := true })] } }, by decide +kernel⟩
theorem wit_BackgroundWorkActsOnItsPool_19 : ∃ (pool : Nat) (s u : State),
    s.coreOn = true ∧
    pool < 4 ∧
    u = s.modPool pool (fun q => { q with waitSpare := [] }) :=
  ⟨1, { live with media := { pools := [(1, { waitSpare := [3] })] } }, ({ live with media := { pools := [(1, { waitSpare := [3] })] } } : State).modPool 1 (fun q => { q with waitSpare := [] }), by decide +kernel⟩
theorem wit_BackgroundWorkActsOnItsPool_20 : ∃ (pool band row : Nat) (s : State),
    s.coreOn = true ∧
    (s.band band).role ≠ 0 ∧
    (s.band band).shavings = false ∧
    (s.band band).pool = pool ∧
    row < ceilDiv (s.band band).taken (max 1 (s.band band).rowSize) ∧
    ((∀ mp < (s.band band).n + 2, s.patrols band row mp = false)) :=
  ⟨0, 7, 0, { live with media := { bands := [(7, { role := 1, n := 2, c := 48, rows := 3, taken := 96, torn := [(0, 0), (1, 0), (2, 0), (3, 0)] })] } }, by decide +kernel⟩
theorem wit_BackgroundWorkActsOnItsPool_21 : ∃ (pool band row : Nat) (s : State),
    s.coreOn = true ∧
    (s.band band).role ≠ 0 ∧
    (s.band band).shavings = false ∧
    (s.band band).pool = pool ∧
    row < ceilDiv (s.band band).taken (max 1 (s.band band).rowSize) :=
  ⟨0, 7, 0, { live with media := { bands := [(7, { role := 1, n := 2, c := 48, rows := 3, taken := 96 })] } }, by decide +kernel⟩
theorem wit_BlockCommandsGetTheirLocksAndStaging_1 : ∃ (op : Nat) (i : Instr) (c : Cmd) (s : State),
    (op, i) ∈ [(0, Instr.flush c), (1, .write c), (2, .read c), (5, .compare c), (8, .writeZeroes c), (9, .datasetManagement c), (12, .verify c)] ∧
    s.accepts c = true :=
  ⟨2, .read rdCmd, rdCmd, ioState, by decide +kernel⟩
theorem wit_BlockCommandsGetTheirLocksAndStaging_2 : ∃ (op : Nat) (i : Instr) (c : Cmd) (s : State),
    (op, i) ∈ [(0x12, Instr.ioManagementReceive c), (0x1D, .ioManagementSend c)] ∧
    s.accepts c = true :=
  ⟨0x12, .ioManagementReceive rdCmd, rdCmd, ioState, by decide +kernel⟩
theorem wit_BlockCommandsGetTheirLocksAndStaging_3 : ∃ (i : Instr) (c : Cmd) (s : State),
    i ∈ [Instr.flush c, .write c, .read c, .compare c, .writeZeroes c, .datasetManagement c, .verify c, .ioManagementReceive c, .ioManagementSend c] ∧
    s.accepts c = false :=
  ⟨.write wrCmd, wrCmd, ioOff, by decide +kernel⟩
theorem wit_BlockCommandsGetTheirLocksAndStaging_4 : ∃ (c : Cmd) (s : State),
    s.freeFor 0 c = true ∧
    c.nsid = 0xFFFFFFFF :=
  ⟨{ id := ⟨0, 1, 5⟩, nsid := 0xFFFFFFFF }, ioState, by decide +kernel⟩
theorem wit_BlockCommandsGetTheirLocksAndStaging_5 : ∃ (op : Nat) (i : Instr) (c : Cmd) (s : State),
    (op, i) ∈ [(2, Instr.read c), (5, .compare c), (12, .verify c)] ∧
    s.freeFor op c = true :=
  ⟨2, .read rdCmd, rdCmd, ioState, by decide +kernel⟩
theorem wit_BlockCommandsGetTheirLocksAndStaging_6 : ∃ (c : Cmd) (x : Ns) (s : State),
    s.freeFor 1 c = true ∧
    (s.ctrl c.id.ctrl).tenant = 0 ∧
    s.ns? c.nsid = some x ∧
    x.policy % 4 = 1 ∧
    0 < s.segSize x ∧
    (s.pool x.pool).logState ≠ 2 ∧
    s.seqHeld = false :=
  ⟨wrCmd, nsIo, ioState, by decide +kernel⟩
theorem wit_BlockCommandsGetTheirLocksAndStaging_7 : ∃ (c : Cmd) (x : Ns) (s : State),
    s.freeFor 8 c = true ∧
    (s.ctrl c.id.ctrl).tenant = 0 ∧
    s.ns? c.nsid = some x ∧
    0 < s.segSize x ∧
    (s.pool x.pool).logState ≠ 2 ∧
    s.seqHeld = false ∧
    s.wholeSegs c = true :=
  ⟨{ wrCmd with cdw10 := 0, cdw12 := 29 }, { nsIo with nsze := 30 }, ioShort, by decide +kernel⟩
theorem wit_BlockCommandsGetTheirLocksAndStaging_8 : ∃ (c : Cmd) (s : State),
    s.freeFor 9 c = true ∧
    (dw11 c).testBit 2 = false :=
  ⟨{ id := ⟨0, 1, 5⟩, nsid := 1 }, ioState, by decide +kernel⟩
theorem wit_BlockCommandsGetTheirLocksAndStaging_9 : ∃ (c : Cmd) (x : Ns) (lo n : Nat) (s : State),
    s.freeFor 9 c = true ∧
    (dw11 c).testBit 2 = true ∧
    dsmRanges c = [(lo, n)] ∧
    s.ns? c.nsid = some x ∧
    s.nsx? x.nsx = some x ∧
    0 < n ∧
    0 < lo % s.segSize x ∧
    lo % s.segSize x + n < s.segSize x ∧
    lo + n ≠ x.nsze ∧
    s.media.reqs = [] :=
  ⟨{ id := ⟨0, 1, 5⟩, nsid := 1, cdw11 := 4, buf := toLe 4 0 ++ toLe 4 2 ++ toLe 8 7 }, nsIo, 7, 2, ioState, by decide +kernel⟩
theorem wit_HeldBlockCommandsGoOn_1 : ∃ (id : CmdId) (s : State),
    s.flight? id = none :=
  ⟨⟨0, 1, 5⟩, ioState, by decide +kernel⟩
theorem wit_HeldBlockCommandsGoOn_2 : ∃ (id : CmdId) (f : Flight) (s : State),
    s.flight? id = some f ∧
    f.stage = .held 7 ∧
    s.firstAt f 7 = true :=
  ⟨⟨0, 1, 5⟩, { op := 1, c := wrCmd, tenant := 0, stage := .held 7 }, { ioState with io := { ioState.io with flights := [{ op := 1, c := wrCmd, tenant := 0, stage := .held 7 }] } }, by decide +kernel⟩
theorem wit_HeldBlockCommandsGoOn_3 : ∃ (id : CmdId) (f : Flight) (s : State),
    s.flight? id = some f ∧
    (f.stage ≠ .held 7 ∨ s.firstAt f 7 = false) :=
  ⟨⟨0, 1, 5⟩, wrFlight, { ioState with io := { ioState.io with flights := [wrFlight] } }, by decide +kernel⟩
theorem wit_HeldBlockCommandsGoOn_4 : ∃ (id : CmdId) (f : Flight) (s : State),
    s.flight? id = some f ∧
    f.op = 1 ∧
    f.stage = .held 7 ∧
    s.firstAt f 7 = true ∧
    s.stagingFor f (s.stagingNeed f) = true ∧
    f.asked = 0 :=
  ⟨⟨0, 1, 5⟩, { op := 1, c := wrCmd, tenant := 0, stage := .held 7 }, { ioState with io := { ioState.io with flights := [{ op := 1, c := wrCmd, tenant := 0, stage := .held 7 }] } }, by decide +kernel⟩
theorem wit_HeldBlockCommandsGoOn_5 : ∃ (id : CmdId) (f : Flight) (s : State),
    s.flight? id = some f ∧
    f.op ≠ 9 ∧
    f.stage = .held 6 :=
  ⟨⟨0, 1, 5⟩, { op := 1, c := wrCmd, tenant := 0, stage := .held 6 }, { ioState with io := { ioState.io with flights := [{ op := 1, c := wrCmd, tenant := 0, stage := .held 6 }], locks := [wrLock] } }, by decide +kernel⟩
theorem wit_HeldBlockCommandsGoOn_6 : ∃ (id : CmdId) (f : Flight) (s : State),
    s.flight? id = some f ∧
    f.op = 9 ∧
    f.stage = .started :=
  ⟨⟨0, 1, 5⟩, { wrFlight with op := 9 }, { ioState with io := { ioState.io with flights := [{ wrFlight with op := 9 }] } }, by decide +kernel⟩
theorem wit_HeldBlockCommandsGoOn_7 : ∃ (id : CmdId) (f : Flight) (l : Lock) (s : State),
    s.flight? id = some f ∧
    f.op = 1 ∧
    f.stage = .held 6 ∧
    f.asked = 0 ∧
    s.io.locks = [l] ∧
    l.id = id ∧
    l.granted = false ∧
    s.stagingFor f (s.stagingNeed f) = true ∧
    ((∀ g ∈ s.io.flights, g.stage ≠ .held 7)) :=
  ⟨⟨0, 1, 5⟩, { op := 1, c := wrCmd, tenant := 0, stage := .held 6 }, wrLock, { ioState with io := { ioState.io with flights := [{ op := 1, c := wrCmd, tenant := 0, stage := .held 6 }], locks := [wrLock] } }, by decide +kernel⟩
theorem wit_HeldBlockCommandsGoOn_8 : ∃ (id : CmdId) (f : Flight) (s : State),
    s.flight? id = some f ∧
    f.stage = .held 5 :=
  ⟨⟨0, 1, 5⟩, { op := 1, c := wrCmd, tenant := 0, stage := .held 5 }, { ioState with io := { ioState.io with flights := [{ op := 1, c := wrCmd, tenant := 0, stage := .held 5 }] } }, by decide +kernel⟩
theorem wit_HeldBlockCommandsGoOn_9 : ∃ (id : CmdId) (f : Flight) (s : State),
    s.flight? id = some f ∧
    f.stage = .held 5 ∧
    f.op = 0 ∧
    s.barrierOk f = true ∧
    f.refs = [] ∧
    s.media.reqs = [] :=
  ⟨⟨0, 1, 5⟩, { op := 0, c := wrCmd, tenant := 0, stage := .held 5 }, { ioState with io := { ioState.io with flights := [{ op := 0, c := wrCmd, tenant := 0, stage := .held 5 }] } }, by decide +kernel⟩
theorem wit_HeldBlockCommandsGoOn_10 : ∃ (id : CmdId) (f : Flight) (x : Ns) (data : List Block) (pi : List (BitVec 512)) (s : State),
    s.flight? id = some f ∧
    s.ns? f.c.nsid = some x ∧
    f.op = 1 ∧
    f.stage = .started ∧
    f.bad = none ∧
    f.voiding = false ∧
    f.arrived + data.length ≤ f.asked ∧
    (pract f.c = true ∨ firstBad x f f.arrived ((List.range data.length).map (fun k => (data.getD k 0, pi.getD k 0))) = none) :=
  ⟨⟨0, 1, 5⟩, wrFlight, nsIo, [7], [0], { ioState with io := { ioState.io with flights := [wrFlight] } }, by decide +kernel⟩
theorem wit_HeldBlockCommandsGoOn_11 : ∃ (id : CmdId) (f : Flight) (x : Ns) (data : List Block) (pi : List (BitVec 512)) (st : Status) (s : State),
    s.flight? id = some f ∧
    s.ns? f.c.nsid = some x ∧
    f.op = 1 ∧
    f.stage = .started ∧
    f.bad = none ∧
    f.voiding = false ∧
    f.arrived + data.length ≤ f.asked ∧
    pract f.c = false ∧
    firstBad x f f.arrived ((List.range data.length).map (fun k => (data.getD k 0, pi.getD k 0))) = some st :=
  ⟨⟨0, 1, 5⟩, wrFlightP, nsPi, [7], [0], .refTagErr, { ioState with media := { ioState.media with nss := [nsPi] }, io := { ioState.io with flights := [wrFlightP] } }, by decide +kernel⟩
theorem wit_HeldBlockCommandsGoOn_12 : ∃ (id : CmdId) (f : Flight) (x : Ns) (data : List Block) (pi : List (BitVec 512)) (bus : Bool) (k : Conn) (s : State),
    s.flight? id = some f ∧
    s.ns? f.c.nsid = some x ∧
    f.op = 1 ∧
    f.stage = .started ∧
    f.bad = none ∧
    f.voiding = false ∧
    f.arrived + data.length ≤ f.asked ∧
    s.digestConn id = some k :=
  ⟨⟨256, 1, 5⟩, wrFlightF, nsIo, [7], [0], true, tcpConn, { ioFabric with io := { ioFabric.io with flights := [wrFlightF] } }, by decide +kernel⟩
theorem wit_HeldBlockCommandsGoOn_13 : ∃ (id : CmdId) (f : Flight) (x : Ns) (data : List Block) (pi : List (BitVec 512)) (ok : Bool) (s : State),
    s.flight? id = some f ∧
    s.ns? f.c.nsid = some x ∧
    f.op = 1 ∧
    f.stage = .started ∧
    f.bad = none ∧
    f.voiding = false ∧
    f.arrived + data.length ≤ f.asked ∧
    (ok = true ∨ s.digestConn id = none) :=
  ⟨⟨0, 1, 5⟩, wrFlight, nsIo, [7], [0], true, { ioState with io := { ioState.io with flights := [wrFlight] } }, by decide +kernel⟩
theorem wit_HeldBlockCommandsGoOn_14 : ∃ (id : CmdId) (f : Flight) (first : Nat) (data : List Block) (pi : List (BitVec 512)) (ok bus : Bool) (s : State),
    s.flight? id = some f ∧
    (f.op ≠ 1 ∨ f.stage ≠ .started ∨ f.bad ≠ none ∨ f.voiding = true ∨ first ≠ f.arrived ∨ f.asked < f.arrived + data.length) :=
  ⟨⟨0, 1, 5⟩, wrFlight, 9, [7], [0], true, true, { ioState with io := { ioState.io with flights := [wrFlight] } }, by decide +kernel⟩
theorem wit_HeldBlockCommandsGoOn_15 : ∃ (id : CmdId) (f : Flight) (s : State),
    s.flight? id = some f ∧
    (f.op = 1 ∨ (f.op = 8 ∧ f.stage ≠ .held 6)) ∧
    s.writeReady f = true :=
  ⟨⟨0, 1, 5⟩, { wrFlight with arrived := 2, locs := [(7, 9, 0), (8, 9, 1)] }, { ioState with io := { ioState.io with flights := [{ wrFlight with arrived := 2, locs := [(7, 9, 0), (8, 9, 1)] }] }, media := { ioState.media with bands := [(9, { role := 3, n := 4, taken := 64, rows := 4 })] } }, by decide +kernel⟩
theorem wit_HeldBlockCommandsGoOn_16 : ∃ (id : CmdId) (f : Flight) (s : State),
    s.flight? id = some f ∧
    (f.op = 1 ∨ (f.op = 8 ∧ f.stage ≠ .held 6)) ∧
    s.writeReady f = false :=
  ⟨⟨0, 1, 5⟩, wrFlight, { ioState with io := { ioState.io with flights := [wrFlight] } }, by decide +kernel⟩
theorem wit_HeldBlockCommandsGoOn_17 : ∃ (c : Cmd) (x : Ns) (s : State),
    s.freeFor 0x12 c = true ∧
    s.ns? c.nsid = some x ∧
    x.flags.testBit 0 = true ∧
    dw10 c % 256 = 1 ∧
    s.media.reqs = [] :=
  ⟨{ id := ⟨0, 1, 5⟩, nsid := 2, cdw10 := 1, cdw11 := 15 }, nsFdp, ioState, by decide +kernel⟩
theorem wit_HeldBlockCommandsGoOn_18 : ∃ (c : Cmd) (x : Ns) (s : State),
    s.freeFor 0x1D c = true ∧
    s.ns? c.nsid = some x ∧
    x.flags.testBit 0 = true ∧
    dw10 c % 256 = 1 ∧
    ((∀ i ≤ dw10 c / 65536, leAt c.buf (2 * i) 2 < x.handles)) :=
  ⟨{ id := ⟨0, 1, 5⟩, nsid := 2, cdw10 := 1 }, nsFdp, ioState, by decide +kernel⟩
theorem wit_QueueAndFabricsCommandsAnswer_1 : ∃ (c : Cmd) (s : State),
    s.readyFor false c = true ∧
    (s.ctrl c.id.ctrl).pcie = true ∧
    dw10 c % 65536 ≠ 0 ∧
    (s.ctrl c.id.ctrl).cqs.contains (dw10 c % 65536) = false ∧
    1 ≤ dw10 c / 65536 ∧
    dw10 c / 65536 ≤ 4095 ∧
    (dw11 c).testBit 0 = true :=
  ⟨{ id := ⟨0, 0, 5⟩, cdw10 := 0x0FFF0001, cdw11 := 1 }, live, by decide +kernel⟩
theorem wit_QueueAndFabricsCommandsAnswer_2 : ∃ (c : Cmd) (s : State),
    s.readyFor false c = true ∧
    (s.ctrl c.id.ctrl).pcie = true ∧
    dw10 c % 65536 ≠ 0 ∧
    (s.ctrl c.id.ctrl).sqs.all (fun q => q.1 ≠ dw10 c % 65536) = true ∧
    (s.ctrl c.id.ctrl).cqs.contains (dw11 c / 65536) = true ∧
    1 ≤ dw10 c / 65536 ∧
    dw10 c / 65536 ≤ 4095 ∧
    (dw11 c).testBit 0 = true ∧
    s.contextFree (s.ctrl c.id.ctrl).tenant = true :=
  ⟨{ id := ⟨0, 0, 5⟩, cdw10 := 0x00010001, cdw11 := 0x00010001 }, liveCq, by decide +kernel⟩
theorem wit_QueueAndFabricsCommandsAnswer_3 : ∃ (c : Cmd) (s : State),
    s.readyFor false c = true ∧
    (s.ctrl c.id.ctrl).pcie = true ∧
    dw10 c % 65536 ≠ 0 ∧
    (s.ctrl c.id.ctrl).cqs.contains (dw10 c % 65536) = true ∧
    (s.ctrl c.id.ctrl).sqs.all (fun q => q.2 ≠ dw10 c % 65536) = true :=
  ⟨{ id := ⟨0, 0, 5⟩, cdw10 := 1 }, liveCq, by decide +kernel⟩
theorem wit_QueueAndFabricsCommandsAnswer_4 : ∃ (c : Cmd) (s : State),
    s.readyFor false c = true ∧
    (s.ctrl c.id.ctrl).pcie = true ∧
    dw10 c % 65536 ≠ 0 ∧
    (s.ctrl c.id.ctrl).sqs.any (fun q => q.1 = dw10 c % 65536) = true ∧
    s.io.paused = false ∧
    s.io.flights = [] :=
  ⟨{ id := ⟨0, 0, 5⟩, cdw10 := 2 }, { live with io := { ctrls := [(0, { exist := true, kind := .pf0, en := true, rdy := true, sqs := [(2, 1)] })] } }, by decide +kernel⟩
theorem wit_QueueAndFabricsCommandsAnswer_5 : ∃ (k qid : Nat) (id : CmdId) (s : State),
    (s.ctrl k).sqDels = [(qid, id)] ∧
    ((∀ f ∈ s.io.flights, f.c.id.ctrl ≠ k ∨ f.c.id.sq ≠ qid)) :=
  ⟨0, 2, ⟨0, 0, 5⟩, { live with io := { ctrls := [(0, { exist := true, kind := .pf0, en := true, rdy := true, sqs := [(2, 1)], sqDels := [(2, ⟨0, 0, 5⟩)] })] } }, by decide +kernel⟩
theorem wit_QueueAndFabricsCommandsAnswer_6 : ∃ (c : Cmd) (s : State),
    s.readyFor false c = true ∧
    s.io.paused = false :=
  ⟨{ id := ⟨0, 0, 5⟩ }, live, by decide +kernel⟩
theorem wit_QueueAndFabricsCommandsAnswer_7 : ∃ (c : Cmd) (s : State),
    s.readyFor false c = true :=
  ⟨{ id := ⟨0, 0, 5⟩ }, live, by decide +kernel⟩
theorem wit_QueueAndFabricsCommandsAnswer_8 : ∃ (c : Cmd) (s : State),
    s.readyFor false c = true ∧
    (s.ctrl c.id.ctrl).aers.length < 16 ∧
    (s.ctrl c.id.ctrl).aens = [] :=
  ⟨{ id := ⟨0, 0, 5⟩ }, live, by decide +kernel⟩
theorem wit_QueueAndFabricsCommandsAnswer_9 : ∃ (c : Cmd) (e : Aen) (rest : List Aen) (s : State),
    s.readyFor false c = true ∧
    (s.ctrl c.id.ctrl).aers.length < 16 ∧
    (s.ctrl c.id.ctrl).aens = e :: rest :=
  ⟨{ id := ⟨0, 0, 5⟩ }, ⟨7, 0, 0xC0⟩, [], { live with io := { ctrls := [(0, { exist := true, kind := .pf0, en := true, rdy := true, aens := [⟨7, 0, 0xC0⟩] })] } }, by decide +kernel⟩
theorem wit_QueueAndFabricsCommandsAnswer_10 : ∃ (c : Cmd) (s : State),
    s.onFabric c = true ∧
    s.pwr.sleep = .active ∧
    (s.ctrl c.id.ctrl).ps = 0 :=
  ⟨{ id := ⟨256, 0, 5⟩ }, fabric, by decide +kernel⟩
theorem wit_QueueAndFabricsCommandsAnswer_11 : ∃ (c : Cmd) (s : State),
    s.onFabric c = true ∧
    s.pwr.sleep = .active ∧
    (s.ctrl c.id.ctrl).ps = 0 :=
  ⟨{ id := ⟨256, 0, 5⟩ }, fabric, by decide +kernel⟩
theorem wit_QueueAndFabricsCommandsAnswer_12 : ∃ (c : Cmd) (s : State),
    s.onFabric c = true ∧
    s.pwr.sleep = .active ∧
    (s.ctrl c.id.ctrl).ps = 0 ∧
    (s.ctrl c.id.ctrl).authed = true ∧
    dw11 c = 0x14 ∧
    (dw12 c).testBit 0 = true ∧
    field (dw12 c) 15 14 = 0 ∧
    (s.ctrl c.id.ctrl).en = false ∧
    (s.ctrl c.id.ctrl).rdy = false :=
  ⟨{ id := ⟨256, 0, 5⟩, cdw11 := 0x14, cdw12 := 1 }, fabric, by decide +kernel⟩
theorem wit_QueueAndFabricsCommandsAnswer_13 : ∃ (c : Cmd) (s : State),
    s.onFabric c = true ∧
    s.pwr.sleep = .active ∧
    (s.ctrl c.id.ctrl).ps = 0 ∧
    (s.ctrl c.id.ctrl).authed = true ∧
    dw11 c ∈ [0x00, 0x08, 0x14, 0x1C] :=
  ⟨{ id := ⟨256, 0, 5⟩, cdw11 := 0 }, fabric, by decide +kernel⟩
theorem wit_QueueAndFabricsCommandsAnswer_14 : ∃ (c : Cmd) (s : State),
    s.onFabric c = true ∧
    s.pwr.sleep = .active ∧
    (s.ctrl c.id.ctrl).ps = 0 ∧
    ((s.ctrl c.id.ctrl).authReq = false ∨ (s.ctrl c.id.ctrl).authed = true) ∧
    c.id.sq = 0 :=
  ⟨{ id := ⟨256, 0, 5⟩ }, fabric, by decide +kernel⟩
theorem wit_QueueAndFabricsCommandsAnswer_15 : ∃ (c : Cmd) (r : ConnectReq) (t : Option Nat) (s : State),
    s.pwr.phase = .run ∧
    r.rdma = false ∧
    s.host.conns.any (fun x => x.id = r.conn ∧ x.ctrl.isNone) = true ∧
    s.subsystem r.subNqn = some t ∧
    s.connectHeld t r.hostNqn = false ∧
    t.all (fun t => s.listed t r.hostNqn) = true ∧
    1 ≤ r.depth ∧
    r.depth ≤ 4096 ∧
    t.all (fun t => s.contextFree t) = true ∧
    r.qid = 0 :=
  ⟨{ id := ⟨0, 0, 5⟩ }, { conn := 4, port := 0, entry := 0, hostNqn := 77, subNqn := discNqn, qid := 0, depth := 4096, cntlid := 0xFFFF, rdma := false }, none, { live with host := { conns := [{ id := 4, port := 0, entry := 0, rdma := false }] } }, by decide +kernel⟩
theorem wit_QueueAndFabricsCommandsAnswer_16 : ∃ (i : Instr) (c : Cmd) (s : State),
    i ∈ [Instr.createIoCompletionQueue c, .createIoSubmissionQueue c, .deleteIoCompletionQueue c, .deleteIoSubmissionQueue c] ∧
    s.readyFor false c = true ∧
    (s.ctrl c.id.ctrl).pcie = false :=
  ⟨.createIoCompletionQueue { id := ⟨256, 0, 5⟩ }, { id := ⟨256, 0, 5⟩ }, fabricOn, by decide +kernel⟩
theorem wit_QueueAndFabricsCommandsAnswer_17 : ∃ (c : Cmd) (s : State),
    s.readyFor false c = true ∧
    (s.ctrl c.id.ctrl).pcie = true ∧
    (dw10 c % 65536 = 0 ∨ (s.ctrl c.id.ctrl).cqs.contains (dw10 c % 65536) = true) :=
  ⟨{ id := ⟨0, 0, 5⟩, cdw10 := 1 }, liveCq, by decide +kernel⟩
theorem wit_QueueAndFabricsCommandsAnswer_18 : ∃ (c : Cmd) (s : State),
    s.readyFor false c = true ∧
    (s.ctrl c.id.ctrl).pcie = true ∧
    dw10 c % 65536 ≠ 0 ∧
    (s.ctrl c.id.ctrl).cqs.contains (dw10 c % 65536) = false ∧
    (dw10 c / 65536 = 0 ∨ 4095 < dw10 c / 65536) :=
  ⟨{ id := ⟨0, 0, 5⟩, cdw10 := 0x10000001 }, live, by decide +kernel⟩
theorem wit_QueueAndFabricsCommandsAnswer_19 : ∃ (c : Cmd) (s : State),
    s.readyFor false c = true ∧
    (s.ctrl c.id.ctrl).pcie = true ∧
    (dw10 c % 65536 = 0 ∨ (s.ctrl c.id.ctrl).sqs.any (fun q => q.1 = dw10 c % 65536) = true ∨ (s.ctrl c.id.ctrl).cqs.contains (dw11 c / 65536) = false) :=
  ⟨{ id := ⟨0, 0, 5⟩, cdw10 := 1 }, live, by decide +kernel⟩
theorem wit_QueueAndFabricsCommandsAnswer_20 : ∃ (c : Cmd) (s : State),
    s.readyFor false c = true ∧
    (s.ctrl c.id.ctrl).pcie = true ∧
    dw10 c % 65536 ≠ 0 ∧
    (s.ctrl c.id.ctrl).sqs.all (fun q => q.1 ≠ dw10 c % 65536) = true ∧
    (s.ctrl c.id.ctrl).cqs.contains (dw11 c / 65536) = true ∧
    1 ≤ dw10 c / 65536 ∧
    dw10 c / 65536 ≤ 4095 ∧
    (dw11 c).testBit 0 = true ∧
    s.contextFree (s.ctrl c.id.ctrl).tenant = false :=
  ⟨{ id := ⟨0, 0, 5⟩, cdw10 := 0x00010001, cdw11 := 0x00010001 }, manyCq, by decide +kernel⟩
theorem wit_QueueAndFabricsCommandsAnswer_21 : ∃ (c : Cmd) (s : State),
    s.readyFor false c = true ∧
    (s.ctrl c.id.ctrl).pcie = true ∧
    dw10 c % 65536 ≠ 0 ∧
    (s.ctrl c.id.ctrl).cqs.contains (dw10 c % 65536) = true ∧
    (s.ctrl c.id.ctrl).sqs.any (fun q => q.2 = dw10 c % 65536) = true :=
  ⟨{ id := ⟨0, 0, 5⟩, cdw10 := 1 }, { live with io := { ctrls := [(0, { exist := true, kind := .pf0, en := true, rdy := true, cqs := [1], sqs := [(2, 1)] })] } }, by decide +kernel⟩
theorem wit_QueueAndFabricsCommandsAnswer_22 : ∃ (c : Cmd) (s : State),
    s.readyFor false c = true ∧
    (s.ctrl c.id.ctrl).pcie = true ∧
    dw10 c % 65536 ≠ 0 ∧
    (s.ctrl c.id.ctrl).sqs.any (fun q => q.1 = dw10 c % 65536) = true :=
  ⟨{ id := ⟨0, 0, 5⟩, cdw10 := 2 }, { live with io := { ctrls := [(0, { exist := true, kind := .pf0, en := true, rdy := true, sqs := [(2, 1)] })] } }, by decide +kernel⟩
theorem wit_QueueAndFabricsCommandsAnswer_23 : ∃ (c : Cmd) (s : State),
    s.readyFor false c = true ∧
    s.io.paused = true :=
  ⟨{ id := ⟨0, 0, 5⟩ }, { live with io := { live.io with paused := true } }, by decide +kernel⟩
theorem wit_QueueAndFabricsCommandsAnswer_24 : ∃ (c : Cmd) (s : State),
    s.readyFor false c = true ∧
    16 ≤ (s.ctrl c.id.ctrl).aers.length :=
  ⟨{ id := ⟨0, 0, 5⟩ }, { live with io := { ctrls := [(0, { exist := true, kind := .pf0, en := true, rdy := true, aers := (List.range 16).map (fun n => ⟨0, 0, n⟩) })] } }, by decide +kernel⟩
theorem wit_QueueAndFabricsCommandsAnswer_26 : ∃ (i : Instr) (c : Cmd) (s : State),
    i ∈ [Instr.propertySet c, .propertyGet c, .disconnect c] ∧
    s.onFabric c = true ∧
    s.pwr.sleep = .active ∧
    (s.ctrl c.id.ctrl).ps = 0 ∧
    (s.ctrl c.id.ctrl).authReq = true ∧
    (s.ctrl c.id.ctrl).authed = false :=
  ⟨.propertyGet { id := ⟨256, 0, 5⟩ }, { id := ⟨256, 0, 5⟩ }, fabricAuth, by decide +kernel⟩
theorem wit_QueueAndFabricsCommandsAnswer_27 : ∃ (i : Instr) (c : Cmd) (ok : Bool) (s : State),
    i ∈ [Instr.authenticationSend c, .authenticationReceive c ok, .propertySet c, .propertyGet c, .disconnect c] ∧
    s.onFabric c = false ∧
    s.accepts c = true :=
  ⟨.propertyGet { id := ⟨0, 0, 5⟩ }, { id := ⟨0, 0, 5⟩ }, true, live, by decide +kernel⟩
theorem wit_QueueAndFabricsCommandsAnswer_28 : ∃ (c : Cmd) (s : State),
    s.onFabric c = true ∧
    s.pwr.sleep = .active ∧
    (s.ctrl c.id.ctrl).ps = 0 ∧
    ((s.ctrl c.id.ctrl).authReq = false ∨ (s.ctrl c.id.ctrl).authed = true) :=
  ⟨{ id := ⟨256, 0, 5⟩, cdw11 := 0x14 }, fabric, by decide +kernel⟩
theorem wit_QueueAndFabricsCommandsAnswer_29 : ∃ (c : Cmd) (s : State),
    s.onFabric c = true ∧
    s.pwr.sleep = .active ∧
    (s.ctrl c.id.ctrl).ps = 0 ∧
    ((s.ctrl c.id.ctrl).authReq = false ∨ (s.ctrl c.id.ctrl).authed = true) ∧
    dw11 c ∉ [0x00, 0x08, 0x14, 0x1C] :=
  ⟨{ id := ⟨256, 0, 5⟩, cdw11 := 4 }, fabric, by decide +kernel⟩
theorem wit_QueueAndFabricsCommandsAnswer_30 : ∃ (c : Cmd) (s : State),
    s.onFabric c = true ∧
    s.pwr.sleep = .active ∧
    (s.ctrl c.id.ctrl).ps = 0 ∧
    ((s.ctrl c.id.ctrl).authReq = false ∨ (s.ctrl c.id.ctrl).authed = true) ∧
    c.id.sq ≠ 0 :=
  ⟨{ id := ⟨256, 1, 5⟩ }, fabric, by decide +kernel⟩
theorem wit_QueueAndFabricsCommandsAnswer_31 : ∃ (c : Cmd) (r : ConnectReq) (s : State),
    s.pwr.phase = .run ∧
    s.host.conns.any (fun x => x.id = r.conn ∧ x.ctrl.isNone) = true :=
  ⟨{ id := ⟨0, 0, 5⟩ }, { conn := 4, port := 0, entry := 0, hostNqn := 77, subNqn := discNqn, qid := 0, depth := 4096, cntlid := 0xFFFF, rdma := true }, { live with host := { conns := [{ id := 4, port := 0, entry := 0, rdma := false }] } }, by decide +kernel⟩
theorem wit_QueueAndFabricsCommandsAnswer_32 : ∃ (c : Cmd) (r : ConnectReq) (s u : State),
    s.pwr.phase = .run ∧
    r.rdma = true ∧
    s.serves r.port r.entry 1 = true ∧
    ((∀ x ∈ s.host.conns, x.id ≠ r.conn)) ∧
    u = { s with host.conns := s.host.conns ++ [{ id := r.conn, port := r.port, entry := r.entry, rdma := true }] } :=
  ⟨{ id := ⟨0, 0, 5⟩ }, { conn := 4, port := 0, entry := 0, hostNqn := 77, subNqn := discNqn, qid := 0, depth := 4096, cntlid := 0xFFFF, rdma := true }, portUp, { portUp with host.conns := [{ id := 4, port := 0, entry := 0, rdma := true }] }, by decide +kernel⟩
theorem wit_ControllersEnableResetAndDrain_1 : ∃ (k sq tail : Nat) (s : State),
    s.pwr.phase = .run ∧
    (s.ctrl k).exist = true ∧
    (s.ctrl k).pcie = true ∧
    (s.ctrl k).rdy = true ∧
    (s.ctrl k).shst = 0 ∧
    (sq = 0 ∨ (s.ctrl k).sqs.any (fun q => q.1 = sq) = true) :=
  ⟨0, 0, 4095, live, by decide +kernel⟩
theorem wit_ControllersEnableResetAndDrain_2 : ∃ (k : Nat) (s : State),
    s.pwr.phase = .run ∧
    (s.ctrl k).exist = true ∧
    (s.ctrl k).en = false ∧
    (s.ctrl k).rdy = false ∧
    (s.ctrl k).resetting = false ∧
    ((s.ctrl k).pcie = false ∨ s.host.pcieUp = true) :=
  ⟨0, { live with io := { ctrls := [(0, { exist := true, kind := .pf0 })] }, host := { pcieUp := true } }, by decide +kernel⟩
theorem wit_ControllersEnableResetAndDrain_3 : ∃ (k : Nat) (s : State),
    s.pwr.phase = .run ∧
    (s.ctrl k).en = true :=
  ⟨0, live, by decide +kernel⟩
theorem wit_ControllersEnableResetAndDrain_4 : ∃ (k cause : Nat) (s : State),
    (s.ctrl k).exist = true ∧
    (s.ctrl k).resetting = false ∧
    s.io.paused = false :=
  ⟨0, 0, live, by decide +kernel⟩
theorem wit_ControllersEnableResetAndDrain_5 : ∃ (k cause : Nat) (s : State),
    (s.ctrl k).exist = true ∧
    (s.ctrl k).resetting = false ∧
    s.io.paused = true :=
  ⟨0, 0, { live with io := { live.io with paused := true } }, by decide +kernel⟩
theorem wit_ControllersEnableResetAndDrain_6 : ∃ (k : Nat) (s u : State),
    s.pwr.phase = .run ∧
    (s.ctrl k).exist = true ∧
    (s.ctrl k).pcie = true ∧
    (s.pwr.mode ≠ 1 ∨ k = 0) ∧
    u = (if k = 0 ∧ s.host.pcieUp = true then s.dmaBusLost else s) :=
  ⟨0, live, live, by decide +kernel⟩
theorem wit_ControllersEnableResetAndDrain_7 : ∃ (k : Nat) (shn : BitVec 2) (s : State),
    s.pwr.phase = .run ∧
    (s.ctrl k).exist = true ∧
    (s.ctrl k).shst = 0 ∧
    (s.ctrl k).draining = false ∧
    (shn = 1 ∨ shn = 2) :=
  ⟨0, 2#2, live, by decide +kernel⟩
theorem wit_ControllersEnableResetAndDrain_8 : ∃ (k : Nat) (s u : State),
    (s.ctrl k).draining = true ∧
    u = s.settleSqDels k ∧
    ((∀ f ∈ u.io.flights, f.c.id.ctrl ≠ k)) ∧
    (s.ctrl k).resetCause = 30 :=
  ⟨0, { live with io := { ctrls := [(0, { exist := true, kind := .pf0, en := true, rdy := true, draining := true, resetCause := 30, shst := 1, sqs := [(1, 1)] })] } }, (({ live with io := { ctrls := [(0, { exist := true, kind := .pf0, en := true, rdy := true, draining := true, resetCause := 30, shst := 1, sqs := [(1, 1)] })] } } : State).settleSqDels 0), by decide +kernel⟩
theorem wit_ControllersEnableResetAndDrain_9 : ∃ (k : Nat) (s u : State),
    (s.ctrl k).draining = true ∧
    u = s.settleSqDels k ∧
    ((∀ f ∈ u.io.flights, f.c.id.ctrl ≠ k)) ∧
    (s.ctrl k).resetCause = 20 :=
  ⟨0, { live with io := { ctrls := [(0, { exist := true, kind := .pf0, rdy := true, resetting := true, draining := true, resetCause := 20, sqs := [(1, 1)], cqs := [1] })] } }, (({ live with io := { ctrls := [(0, { exist := true, kind := .pf0, rdy := true, resetting := true, draining := true, resetCause := 20, sqs := [(1, 1)], cqs := [1] })] } } : State).settleSqDels 0), by decide +kernel⟩
theorem wit_ControllersEnableResetAndDrain_10 : ∃ (k : Nat) (s u : State),
    (s.ctrl k).draining = true ∧
    u = s.settleSqDels k ∧
    ((∀ f ∈ u.io.flights, f.c.id.ctrl ≠ k)) ∧
    (s.ctrl k).resetCause = 40 :=
  ⟨256, { live with io := { ctrls := [(256, { exist := true, kind := .fabric, rdy := true, resetting := true, draining := true, resetCause := 40, sqs := [(1, 1)], cqs := [1] })] } }, (({ live with io := { ctrls := [(256, { exist := true, kind := .fabric, rdy := true, resetting := true, draining := true, resetCause := 40, sqs := [(1, 1)], cqs := [1] })] } } : State).settleSqDels 256), by decide +kernel⟩
theorem wit_ControllersEnableResetAndDrain_11 : ∃ (k : Nat) (s u : State),
    (s.ctrl k).draining = true ∧
    u = s.settleSqDels k ∧
    ((∀ f ∈ u.io.flights, f.c.id.ctrl ≠ k)) ∧
    10 ≤ (s.ctrl k).resetCause ∧
    (s.ctrl k).resetCause ≠ 20 ∧
    (s.ctrl k).resetCause ≠ 30 ∧
    (s.ctrl k).resetCause ≠ 40 :=
  ⟨256, { live with io := { ctrls := [(256, { exist := true, kind := .fabric, rdy := true, resetting := true, draining := true, resetCause := 16, sqs := [(1, 1)], cqs := [1] })] } }, (({ live with io := { ctrls := [(256, { exist := true, kind := .fabric, rdy := true, resetting := true, draining := true, resetCause := 16, sqs := [(1, 1)], cqs := [1] })] } } : State).settleSqDels 256), by decide +kernel⟩
theorem wit_ControllersEnableResetAndDrain_12 : ∃ (k : Nat) (s u : State),
    (s.ctrl k).draining = true ∧
    u = s.settleSqDels k ∧
    ((∀ f ∈ u.io.flights, f.c.id.ctrl ≠ k)) ∧
    (s.ctrl k).resetCause < 10 ∧
    ((s.ctrl k).pcie = true ∨ (s.ctrl k).resetCause ≠ 3) :=
  ⟨0, { live with io := { ctrls := [(0, { exist := true, kind := .pf0, rdy := true, resetting := true, draining := true, resetCause := 2, sqs := [(1, 1)], cqs := [1] })] } }, (({ live with io := { ctrls := [(0, { exist := true, kind := .pf0, rdy := true, resetting := true, draining := true, resetCause := 2, sqs := [(1, 1)], cqs := [1] })] } } : State).settleSqDels 0), by decide +kernel⟩
theorem wit_ControllersEnableResetAndDrain_13 : ∃ (k : Nat) (s u : State),
    (s.ctrl k).draining = true ∧
    u = s.settleSqDels k ∧
    ((∀ f ∈ u.io.flights, f.c.id.ctrl ≠ k)) ∧
    (s.ctrl k).resetCause = 3 ∧
    (s.ctrl k).pcie = false :=
  ⟨256, { live with io := { ctrls := [(256, { exist := true, kind := .fabric, rdy := true, resetting := true, draining := true, resetCause := 3, sqs := [(1, 1)], cqs := [1] })] } }, (({ live with io := { ctrls := [(256, { exist := true, kind := .fabric, rdy := true, resetting := true, draining := true, resetCause := 3, sqs := [(1, 1)], cqs := [1] })] } } : State).settleSqDels 256), by decide +kernel⟩
theorem wit_ControllersEnableResetAndDrain_15 : ∃ (conn port entry pfv maxr2t hpda : Nat) (hdgst ddgst noSuccess : Bool) (s : State),
    s.pwr.phase = .run ∧
    s.portExists port = true ∧
    (s.port port).linkUp = true ∧
    (s.reg (dwPORT port)).testBit 2 = true ∧
    entry < 16 ∧
    (s.reg (dwPORT port + 0x100 + 32 * entry + 16)).testBit 8 = true ∧
    ((∀ x ∈ s.host.conns, x.id ≠ conn)) ∧
    pfv = 0 :=
  ⟨9, 0, 0, 0, 20, 0, true, true, true, portUp, by decide +kernel⟩
theorem wit_ControllersEnableResetAndDrain_16 : ∃ (conn port entry pfv maxr2t hpda : Nat) (tls hdgst ddgst noSuccess : Bool) (s : State),
    s.pwr.phase = .run ∧
    s.serves port entry 2 = true ∧
    ((∀ x ∈ s.host.conns, x.id ≠ conn)) ∧
    (tls = true ∨ pfv ≠ 0) :=
  ⟨9, 0, 0, 0, 20, 0, true, true, true, true, portUp, by decide +kernel⟩
theorem wit_ControllersEnableResetAndDrain_18 : ∃ (conn cause : Nat) (x : Conn) (s : State),
    s.host.conns.find? (fun x => x.id = conn) = some x :=
  ⟨4, 1, { id := 4, port := 0, entry := 0, rdma := true, ctrl := some 256 }, { live with host := { conns := [{ id := 4, port := 0, entry := 0, rdma := true, ctrl := some 256 }] } }, by decide +kernel⟩
theorem wit_ControllersEnableResetAndDrain_19 : ∃ (k cause : Nat) (s : State),
    (s.ctrl k).exist = true ∧
    (s.ctrl k).resetting = false ∧
    s.io.paused = false :=
  ⟨256, 6, fabric, by decide +kernel⟩
theorem wit_ControllersEnableResetAndDrain_20 : ∃ (k : Nat) (s : State),
    (s.ctrl k).pcie = false ∧
    s.io.paused = false :=
  ⟨256, fabric, by decide +kernel⟩
theorem wit_ControllersEnableResetAndDrain_21 : ∃ (k : Nat) (s : State),
    ((s.ctrl k).pcie = true ∨ s.io.paused = true) :=
  ⟨0, live, by decide +kernel⟩
theorem wit_ControllersEnableResetAndDrain_22 : ∃ s : State,
    s.host.pcieUp = true :=
  ⟨{ live with host := { pcieUp := true, speed := 6, width := 16 } }, by decide +kernel⟩
theorem wit_ControllersEnableResetAndDrain_23 : ∃ (speed width : Nat) (flit sris : Bool) (s : State),
    s.pwr.phase ≠ .held ∧
    s.pwr.perst = false ∧
    ((∀ i < 16, s.lanePattern (192 + i) = false)) :=
  ⟨6, 16, true, false, live, by decide +kernel⟩
theorem wit_ControllersEnableResetAndDrain_24 : ∃ (k : Nat) (s : State),
    s.pwr.phase ≠ .run :=
  ⟨0, { live with pwr := {} }, by decide +kernel⟩
theorem wit_ControllersEnableResetAndDrain_25 : ∃ (k : Nat) (s : State),
    s.pwr.phase = .run ∧
    ((s.ctrl k).rdy = true ∨ (s.ctrl k).resetting = true) :=
  ⟨0, live, by decide +kernel⟩
theorem wit_ControllersEnableResetAndDrain_26 : ∃ s : State,
    s.host.pcieUp = false :=
  ⟨live, by decide +kernel⟩
theorem wit_PortsCarryFramesAndPauses_1 : ∃ (p : Path) (g : Nat) (mode : BitVec 3) (s : State),
    g < 4 ∧
    s.reach p (dwGROUP g) = .ok ∧
    mode.toNat ≠ s.grpMode g ∧
    s.modeOk g mode.toNat = true :=
  ⟨.bar2, 0, 1#3, live, by decide +kernel⟩
theorem wit_PortsCarryFramesAndPauses_2 : ∃ (p : Path) (g : Nat) (mode : BitVec 3) (s : State),
    g < 4 ∧
    s.reach p (dwGROUP g) = .ok ∧
    mode.toNat ≠ s.grpMode g ∧
    s.modeOk g mode.toNat = true ∧
    s.portsOf g = [] ∧
    s.io.ctrls = [] :=
  ⟨.d0h, 0, 1#3, { live with io := {}, dw := { regs := [(dwGROUP 0, 0)] } }, by decide +kernel⟩
theorem wit_PortsCarryFramesAndPauses_3 : ∃ (p : Path) (g : Nat) (mode : BitVec 3) (s : State),
    g < 4 ∧
    s.reach p (dwGROUP g) = .ok ∧
    mode.toNat ≠ s.grpMode g ∧
    s.modeOk g mode.toNat = false :=
  ⟨.bar2, 3, 5#3, live, by decide +kernel⟩
theorem wit_PortsCarryFramesAndPauses_4 : ∃ (p : Nat) (s : State),
    p < 64 ∧
    s.pwr.phase = .run ∧
    s.portExists p = true ∧
    (s.port p).linkUp = false ∧
    (s.reg (dwPORT p)).testBit 0 = true ∧
    ((∀ l ∈ s.portLanes p, s.lanePattern l = false)) :=
  ⟨0, { portUp with host := {} }, by decide +kernel⟩
theorem wit_PortsCarryFramesAndPauses_5 : ∃ (p cause : Nat) (s : State),
    p < 64 ∧
    s.pwr.phase = .run ∧
    s.portExists p = true ∧
    (s.port p).linkUp = true :=
  ⟨0, 1, portUp, by decide +kernel⟩
theorem wit_PortsCarryFramesAndPauses_6 : ∃ (p : Nat) (f : Frame) (s : State),
    p < 64 ∧
    s.pwr.phase = .run ∧
    s.portExists p = true ∧
    (s.port p).linkUp = true ∧
    f.fcsOk = false :=
  ⟨0, frameBad, portUp, by decide +kernel⟩
theorem wit_PortsCarryFramesAndPauses_7 : ∃ (p : Nat) (f : Frame) (s : State),
    p < 64 ∧
    s.pwr.phase = .run ∧
    s.portExists p = true ∧
    (s.port p).linkUp = true ∧
    f.fcsOk = true ∧
    f.protectedFrame = false ∧
    s.macPolicy p ≠ 2 ∧
    f.addrEntry = none ∧
    f.eapol = false :=
  ⟨0, { frameBad with fcsOk := true }, portUp, by decide +kernel⟩
theorem wit_PortsCarryFramesAndPauses_8 : ∃ (p : Nat) (f : Frame) (s : State),
    p < 64 ∧
    s.pwr.phase = .run ∧
    s.portExists p = true ∧
    (s.port p).linkUp = true ∧
    f.fcsOk = true ∧
    f.protectedFrame = false ∧
    s.macPolicy p ≠ 2 ∧
    f.eapol = true ∧
    f.known = true ∧
    f.len ≤ 9216 ∧
    f.len + (s.port p).heldAll ≤ s.reservation p ∧
    f.ce = false ∧
    f.headerDigestBad = false :=
  ⟨0, { frameBad with fcsOk := true, eapol := true }, portUp, by decide +kernel⟩
theorem wit_PortsCarryFramesAndPauses_9 : ∃ (p prio quanta : Nat) (s : State),
    p < 64 ∧
    s.pwr.phase = .run ∧
    s.portExists p = true ∧
    (s.port p).linkUp = true ∧
    prio < 8 ∧
    s.pfcEn p prio = true :=
  ⟨0, 7, 65535, { portUp with dw := { regs := [(dwPORT 0, 0xFFFF), (dwGROUP 0, 1)] } }, by decide +kernel⟩
theorem wit_PortsCarryFramesAndPauses_10 : ∃ (p prio : Nat) (s : State),
    p < 64 ∧
    s.pwr.phase = .run ∧
    s.portExists p = true :=
  ⟨63, 7, { portUp with dw := { regs := [(dwGROUP 3, 1)] } }, by decide +kernel⟩
theorem wit_PortsCarryFramesAndPauses_11 : ∃ (p prio : Nat) (s : State),
    p < 64 ∧
    s.pwr.phase = .run ∧
    s.portExists p = true ∧
    (s.port p).xoff.testBit prio = true ∧
    s.reg (dwPORT p + 0x0C) / 65536 = 0 :=
  ⟨0, 3, { portUp with dw := { regs := [(dwPORT 0 + 0x0C, 0), (dwGROUP 0, 1)] }, host := { ports := [(0, { linkUp := true, xoff := 8 })] } }, by decide +kernel⟩
theorem wit_PortsCarryFramesAndPauses_12 : ∃ (p prio : Nat) (s : State),
    p < 64 ∧
    s.pwr.phase = .run ∧
    s.portExists p = true ∧
    s.reg (dwPORT p + 0x10) % 65536 ≠ 0 ∧
    (s.port p).paused.testBit prio = true ∧
    (s.port p).storm.testBit prio = false :=
  ⟨0, 3, { portUp with dw := { regs := [(dwPORT 0 + 0x10, 100), (dwGROUP 0, 1)] }, host := { ports := [(0, { linkUp := true, paused := 8 })] } }, by decide +kernel⟩
theorem wit_PortsCarryFramesAndPauses_13 : ∃ (p prio : Nat) (s : State),
    p < 64 ∧
    s.pwr.phase = .run ∧
    s.portExists p = true :=
  ⟨0, 3, portUp, by decide +kernel⟩
theorem wit_PortsCarryFramesAndPauses_14 : ∃ (qp : Nat) (x : Conn) (s : State),
    s.host.conns.find? (fun x => x.id = qp ∧ x.rdma) = some x :=
  ⟨4, { id := 4, port := 0, entry := 0, rdma := true }, { portUp with host := { conns := [{ id := 4, port := 0, entry := 0, rdma := true }] } }, by decide +kernel⟩
theorem wit_PortsCarryFramesAndPauses_15 : ∃ (pasid : Nat) (s : State),
    s.pwr.phase = .run ∧
    s.host.pcieUp = true ∧
    s.pwr.mode = 1 ∧
    (pasid = 0 ∨ 16 < pasid) :=
  ⟨17, { live with pwr := { live.pwr with mode := 1 }, host := { pcieUp := true } }, by decide +kernel⟩
theorem wit_PortsCarryFramesAndPauses_16 : ∃ (i : Instr) (p prio quanta cause ch : Nat) (f : Frame) (tx lim : Bool) (s : State),
    p < 64 ∧
    (s.pwr.phase ≠ .run ∨ s.portExists p = false) ∧
    i ∈ [Instr.portLinkUp p, .portLinkDown p cause, .frameReceive p f, .pfcFrame p prio quanta, .pfcPauseExpiry p prio, .pfcPauseRefresh p prio, .pfcStorm p prio, .pfcStormClear p prio, .sakDistribution p, .pnExhausted p tx lim ch, .mkaPeerTimeout p] :=
  ⟨.portLinkUp 0, 0, 0, 0, 0, 0, frameBad, true, true, { live with dw := { regs := [(dwGROUP 0, 0)] } }, by decide +kernel⟩
theorem wit_PortsCarryFramesAndPauses_17 : ∃ (p : Path) (g : Nat) (mode : BitVec 3) (s : State),
    g < 4 ∧
    s.reach p (dwGROUP g) = .ok ∧
    mode.toNat = s.grpMode g :=
  ⟨.bar2, 0, BitVec.ofNat 3 (live.grpMode 0), live, by decide +kernel⟩
theorem wit_PortsCarryFramesAndPauses_18 : ∃ (p : Nat) (s : State),
    p < 64 ∧
    s.pwr.phase = .run ∧
    s.portExists p = true ∧
    ((s.port p).linkUp = true ∨ (s.reg (dwPORT p)).testBit 0 = false ∨ (s.portLanes p).any s.lanePattern = true) :=
  ⟨0, portUp, by decide +kernel⟩
theorem wit_PortsCarryFramesAndPauses_19 : ∃ (p cause : Nat) (s : State),
    p < 64 ∧
    s.pwr.phase = .run ∧
    s.portExists p = true ∧
    (s.port p).linkUp = false :=
  ⟨0, 1, { portUp with host := {} }, by decide +kernel⟩
theorem wit_PortsCarryFramesAndPauses_20 : ∃ (p : Nat) (f : Frame) (s : State),
    p < 64 ∧
    s.pwr.phase = .run ∧
    s.portExists p = true ∧
    (s.port p).linkUp = true ∧
    f.fcsOk = true ∧
    (s.bump (dwPORT p + 0x300) 1).macsecIn p f = none :=
  ⟨0, { frameBad with fcsOk := true, protectedFrame := true }, portUp, by decide +kernel⟩
theorem wit_PortsCarryFramesAndPauses_21 : ∃ (p : Nat) (f : Frame) (s u : State),
    p < 64 ∧
    s.pwr.phase = .run ∧
    s.portExists p = true ∧
    (s.port p).linkUp = true ∧
    f.fcsOk = true ∧
    (s.bump (dwPORT p + 0x300) 1).macsecIn p f = some u :=
  ⟨0, { frameBad with fcsOk := true, addrEntry := some 0 }, portUp, (portUp.bump (dwPORT 0 + 0x300) 1), by decide +kernel⟩
theorem wit_PortsCarryFramesAndPauses_22 : ∃ (p prio quanta : Nat) (s : State),
    p < 64 ∧
    s.pwr.phase = .run ∧
    s.portExists p = true ∧
    (s.port p).linkUp = true ∧
    prio < 8 ∧
    s.pfcEn p prio = false :=
  ⟨0, 7, 9, portUp, by decide +kernel⟩
theorem wit_PortsCarryFramesAndPauses_23 : ∃ (p prio : Nat) (s : State),
    p < 64 ∧
    s.pwr.phase = .run ∧
    s.portExists p = true ∧
    (s.port p).xoff.testBit prio = false :=
  ⟨0, 3, portUp, by decide +kernel⟩
theorem wit_PortsCarryFramesAndPauses_25 : ∃ (p prio : Nat) (s : State),
    p < 64 ∧
    s.pwr.phase = .run ∧
    s.portExists p = true ∧
    (s.reg (dwPORT p + 0x10) % 65536 = 0 ∨ (s.port p).paused.testBit prio = false ∨ (s.port p).storm.testBit prio = true) :=
  ⟨0, 3, portUp, by decide +kernel⟩
theorem wit_PortsCarryFramesAndPauses_26 : ∃ (qp : Nat) (s : State),
    ((∀ x ∈ s.host.conns, x.id = qp → x.rdma = false)) :=
  ⟨4, portUp, by decide +kernel⟩
theorem wit_PortsCarryFramesAndPauses_27 : ∃ (pasid : Nat) (s : State),
    (s.pwr.phase = .held ∨ s.host.pcieUp = false ∨ s.pwr.mode ≠ 1 ∨ (1 ≤ pasid ∧ pasid ≤ 16)) :=
  ⟨16, live, by decide +kernel⟩
theorem wit_PortAddressesKeysAndSavedSettings_1 : ∃ (p : Path) (port e d : Nat) (v : Word) (s : State),
    port < 64 ∧
    e < 16 ∧
    d < 8 ∧
    d ≠ 4 ∧
    s.reach p (dwPORT port + 0x100 + 32 * e + 4 * d) = .ok ∧
    (s.reg (dwPORT port + 0x100 + 32 * e + 16)).testBit 8 = false :=
  ⟨.bar2, 0, 15, 7, 0xFFFFFFFF, portUp, by decide +kernel⟩
theorem wit_PortAddressesKeysAndSavedSettings_2 : ∃ (p : Path) (port : Nat) (s : State),
    port < 64 ∧
    s.reach p (dwPORT port + 0x80) = .ok :=
  ⟨.bar2, 0, portUp, by decide +kernel⟩
theorem wit_PortAddressesKeysAndSavedSettings_3 : ∃ (p : Nat) (s : State),
    p < 64 ∧
    s.pwr.phase = .run ∧
    s.portExists p = true ∧
    s.macPolicy p ≠ 0 ∧
    (s.port p).linkUp = true ∧
    (s.port p).sakOn = false :=
  ⟨0, { portUp with dw := { regs := [(dwPORT 0 + 0x14, 1), (dwGROUP 0, 1)] } }, by decide +kernel⟩
theorem wit_PortAddressesKeysAndSavedSettings_4 : ∃ (p : Nat) (s : State),
    p < 64 ∧
    s.pwr.phase = .run ∧
    s.portExists p = true ∧
    s.macPolicy p ≠ 0 ∧
    (s.port p).linkUp = true ∧
    (s.port p).sakOn = true :=
  ⟨0, { portUp with dw := { regs := [(dwPORT 0 + 0x14, 1), (dwGROUP 0, 1)] }, host := { ports := [(0, { linkUp := true, sakOn := true })] } }, by decide +kernel⟩
theorem wit_PortAddressesKeysAndSavedSettings_5 : ∃ (p : Nat) (s : State),
    p < 64 ∧
    s.pwr.phase = .run ∧
    s.portExists p = true ∧
    (s.port p).sakOn = true ∧
    (s.port p).newSa = false :=
  ⟨0, { portUp with host := { ports := [(0, { linkUp := true, sakOn := true })] } }, by decide +kernel⟩
theorem wit_PortAddressesKeysAndSavedSettings_6 : ∃ (p ch : Nat) (s : State),
    p < 64 ∧
    s.pwr.phase = .run ∧
    s.portExists p = true ∧
    (s.port p).sakOn = true ∧
    ch < 8 :=
  ⟨0, 7, { portUp with host := { ports := [(0, { linkUp := true, sakOn := true })] } }, by decide +kernel⟩
theorem wit_PortAddressesKeysAndSavedSettings_7 : ∃ (p : Nat) (s : State),
    p < 64 ∧
    s.pwr.phase = .run ∧
    s.portExists p = true ∧
    s.macPolicy p = 2 :=
  ⟨0, { portUp with dw := { regs := [(dwPORT 0 + 0x14, 2), (dwGROUP 0, 1)] } }, by decide +kernel⟩
theorem wit_PortAddressesKeysAndSavedSettings_8 : ∃ (p : Path) (s : State),
    s.reach p (dwXPORT + 0x10) = .ok :=
  ⟨.bar2, portUp, by decide +kernel⟩
theorem wit_PortAddressesKeysAndSavedSettings_9 : ∃ (p : Path) (port e d : Nat) (v : Word) (s u : State),
    port < 64 ∧
    e < 16 ∧
    d < 8 ∧
    s.reach p (dwPORT port + 0x100 + 32 * e + 4 * d) = .ok ∧
    u = s.setReg (dwPORT port + 0x100 + 32 * e + 4 * d) (v.toNat &&& rwMask (dwPORT port + 0x100 + 32 * e + 4 * d)) ∧
    (u.reg (dwPORT port + 0x100 + 32 * e + 16)).testBit 8 = true :=
  ⟨.bar2, 0, 0, 4, 0x100, portUp, portUp.setReg (dwPORT 0 + 0x110) 0x100, by decide +kernel⟩
theorem wit_PortAddressesKeysAndSavedSettings_10 : ∃ (p : Path) (port e d : Nat) (v : Word) (s u w : State),
    port < 64 ∧
    e < 16 ∧
    d < 8 ∧
    s.reach p (dwPORT port + 0x100 + 32 * e + 4 * d) = .ok ∧
    u = s.setReg (dwPORT port + 0x100 + 32 * e + 4 * d) (v.toNat &&& rwMask (dwPORT port + 0x100 + 32 * e + 4 * d)) ∧
    (u.reg (dwPORT port + 0x100 + 32 * e + 16)).testBit 8 = false ∧
    (s.reg (dwPORT port + 0x100 + 32 * e + 16)).testBit 8 = true ∧
    w = u.each ((u.host.conns.filter (fun x => x.port = port ∧ x.entry = e)).map (fun x => x.id)) (fun s i => s.loseConn i 5) :=
  ⟨.bar2, 0, 0, 4, 0, portUp, portUp.setReg (dwPORT 0 + 0x110) 0, portUp.setReg (dwPORT 0 + 0x110) 0, by decide +kernel⟩
theorem wit_PortAddressesKeysAndSavedSettings_11 : ∃ (p : Nat) (s : State),
    p < 64 ∧
    (s.macPolicy p = 0 ∨ (s.port p).linkUp = false) :=
  ⟨0, portUp, by decide +kernel⟩
theorem wit_PortAddressesKeysAndSavedSettings_12 : ∃ (p ch : Nat) (tx lim : Bool) (s : State),
    p < 64 ∧
    ((s.port p).sakOn = false ∨ lim = false ∨ (tx = true ∧ (s.port p).newSa = true) ∨ (tx = false ∧ 8 ≤ ch)) :=
  ⟨0, 0, true, true, portUp, by decide +kernel⟩
theorem wit_PortAddressesKeysAndSavedSettings_13 : ∃ (p : Nat) (s : State),
    p < 64 ∧
    s.macPolicy p ≠ 2 :=
  ⟨0, portUp, by decide +kernel⟩
theorem wit_LogPagesAreAnswered_2 : ∃ (c : Cmd) (s : State),
    s.readyFor false c = true ∧
    dw10 c % 256 = 0x03 ∧
    (s.ctrl c.id.ctrl).kind ≠ .discovery :=
  ⟨{ id := ⟨0, 0, 5⟩, cdw10 := 0x7F0003 }, live, by decide +kernel⟩
theorem wit_LogPagesAreAnswered_3 : ∃ (c : Cmd) (s : State),
    s.readyFor false c = true ∧
    dw10 c % 256 = 0x04 ∧
    (s.ctrl c.id.ctrl).kind ≠ .discovery :=
  ⟨{ id := ⟨0, 0, 5⟩, cdw10 := 0x7F0004 }, live, by decide +kernel⟩
theorem wit_LogPagesAreAnswered_4 : ∃ (c : Cmd) (s : State),
    s.readyFor true c = true :=
  ⟨{ id := ⟨0, 0, 5⟩, cdw10 := 0xF00C0 }, live, by decide +kernel⟩
theorem wit_LogPagesAreAnswered_5 : ∃ (n : Nat) (s : State),
    n < s.part.slots :=
  ⟨63, live, by decide +kernel⟩
theorem wit_LogPagesAreAnswered_6 : ∃ (c : Cmd) (s : State),
    s.readyFor false c = true :=
  ⟨{ id := ⟨0, 0, 5⟩, cdw10 := 0xF00C1 }, live, by decide +kernel⟩
theorem wit_LogPagesAreAnswered_7 : ∃ (c : Cmd) (s : State),
    s.readyFor true c = true :=
  ⟨{ id := ⟨0, 0, 5⟩, cdw10 := 0xF00C2 }, live, by decide +kernel⟩
theorem wit_LogPagesAreAnswered_8 : ∃ (c : Cmd) (s : State),
    s.readyFor false c = true :=
  ⟨{ id := ⟨0, 0, 5⟩, cdw10 := 0xF00C5 }, live, by decide +kernel⟩
theorem wit_LogPagesAreAnswered_9 : ∃ (c : Cmd) (s : State),
    s.readyFor true c = true :=
  ⟨{ id := ⟨0, 0, 5⟩, cdw10 := 0xF00C6 }, live, by decide +kernel⟩
theorem wit_LogPagesAreAnswered_10 : ∃ (c : Cmd) (s : State),
    s.readyFor false c = true ∧
    (dw10 c % 256 < 0xC0 ∨ 0xC6 < dw10 c % 256) :=
  ⟨{ id := ⟨0, 0, 5⟩, cdw10 := 0x7F0001 }, live, by decide +kernel⟩
theorem wit_LogPagesAreAnswered_11 : ∃ (c : Cmd) (i : Instr) (s : State),
    s.readyFor false c = true ∧
    s.isManager c.id.ctrl = false ∧
    i ∈ [Instr.cartridgeHealth c, .rebuildProgress c, .startUpReport c, .guestbookLog c, .throttleAndDisturbance c] :=
  ⟨{ id := ⟨1, 0, 5⟩ }, .startUpReport { id := ⟨1, 0, 5⟩ }, tenCtrl, by decide +kernel⟩
theorem wit_LogPagesAreAnswered_12 : ∃ (c : Cmd) (lid : Nat) (s : State),
    (s.ctrl c.id.ctrl).kind ≠ .discovery ∧
    lid ∉ [1, 2, 3, 4, 0x20, 0x21, 0x22, 0x23, 0x81] :=
  ⟨{ id := ⟨0, 0, 5⟩ }, 0x70, live, by decide +kernel⟩
theorem wit_FeaturesAndIdentifyAnswer_2 : ∃ (c : Cmd) (s : State),
    s.readyFor false c = true ∧
    dw10 c % 256 ∈ [0x01, 0x05, 0x08, 0x09, 0x0A, 0x0B, 0x0F] :=
  ⟨{ id := ⟨0, 0, 5⟩, cdw10 := 0x0F, cdw11 := 0xFFFFFFFF }, live, by decide +kernel⟩
theorem wit_FeaturesAndIdentifyAnswer_3 : ∃ (c : Cmd) (s : State),
    s.readyFor true c = true ∧
    dw10 c % 256 = 0xC3 ∧
    field (dw10 c) 10 8 ≤ 3 :=
  ⟨{ id := ⟨0, 0, 5⟩, cdw10 := 0x3C3 }, live, by decide +kernel⟩
theorem wit_FeaturesAndIdentifyAnswer_4 : ∃ (c : Cmd) (s : State),
    s.readyFor false c = true ∧
    dw10 c % 256 = 0x01 :=
  ⟨{ id := ⟨0, 0, 5⟩, cdw10 := 1 }, live, by decide +kernel⟩
theorem wit_FeaturesAndIdentifyAnswer_5 : ∃ (c : Cmd) (s : State),
    s.readyFor false c = true ∧
    dw10 c % 256 = 0x02 ∧
    (s.ctrl c.id.ctrl).kind ≠ .discovery :=
  ⟨{ id := ⟨0, 0, 5⟩, cdw10 := 2 }, ioState, by decide +kernel⟩
theorem wit_FeaturesAndIdentifyAnswer_6 : ∃ (c : Cmd) (s : State),
    s.readyFor true c = true ∧
    dw12 c / 256 = 0 ∧
    2 ≤ dw11 c % 65536 ∧
    dw11 c % 65536 ≤ 1000 ∧
    5 ≤ field (dw11 c) 31 16 ∧
    field (dw11 c) 31 16 ≤ 600 ∧
    1 ≤ dw12 c % 256 ∧
    dw12 c % 256 ≤ 50 ∧
    dw11 c % 65536 ≤ 10 * field (dw11 c) 31 16 :=
  ⟨{ id := ⟨0, 0, 5⟩, cdw11 := 0x006403E8, cdw12 := 50, cdw10 := 0x800000C5 }, foldState, by decide +kernel⟩
theorem wit_FeaturesAndIdentifyAnswer_7 : ∃ (c : Cmd) (x : Ns) (s : State),
    s.readyFor false c = true ∧
    policyOk (dw11 c) = true ∧
    c.nsid ≠ 0xFFFFFFFF ∧
    s.policyNs c = .ok x :=
  ⟨{ id := ⟨0, 0, 5⟩, nsid := 2, cdw11 := 0x00642002 }, nsFdp, ioState, by decide +kernel⟩
theorem wit_FeaturesAndIdentifyAnswer_8 : ∃ (c : Cmd) (sig : List Byte) (s : State),
    s.readyFor true c = true ∧
    (admissionOk (dw11 c % 65536) (c.buf ++ sig) = false ∨ field (dw11 c) 31 16 ≠ 0 ∨ field (dw10 c) 31 8 ≠ 0) :=
  ⟨{ id := ⟨0, 0, 5⟩, cdw10 := 0x100, cdw11 := 112, buf := pageOf 112 [(0, 8, 1)] }, [], live, by decide +kernel⟩
theorem wit_FeaturesAndIdentifyAnswer_11 : ∃ (c : Cmd) (sig : List Byte) (s : State),
    s.readyFor true c = true ∧
    admissionOk (dw11 c % 65536) (c.buf ++ sig) = true ∧
    field (dw11 c) 31 16 = 0 ∧
    field (dw10 c) 31 8 = 0 ∧
    leAt (c.buf ++ sig) 0 8 ≤ s.gbk.polSerial :=
  ⟨{ id := ⟨0, 0, 5⟩, cdw11 := 112, buf := pageOf 16 [] }, pageOf 96 [], live, by decide +kernel⟩
theorem wit_FeaturesAndIdentifyAnswer_12 : ∃ (c : Cmd) (s : State),
    s.readyFor false c = true ∧
    dw10 c % 256 ≠ 2 ∧
    dw10 c % 256 ≠ 0x0E ∧
    (dw10 c % 256 < 0xC0 ∨ 0xC7 < dw10 c % 256) :=
  ⟨{ id := ⟨0, 0, 5⟩, cdw10 := 7 }, live, by decide +kernel⟩
theorem wit_FeaturesAndIdentifyAnswer_13 : ∃ (c : Cmd) (v : FeatVal) (s : State),
    s.readyFor false c = true ∧
    s.featVal c (dw10 c % 256) = .ok v ∧
    field (dw10 c) 10 8 ≤ 3 :=
  ⟨{ id := ⟨0, 0, 5⟩, cdw10 := 0x1C5 }, { cur := (at' live.media.tFail 16 + live.media.tSlow, live.media.slowPct), dflt := (at' 40 16 + 15, 5), caps := 5 }, live, by decide +kernel⟩
theorem wit_FeaturesAndIdentifyAnswer_14 : ∃ (c : Cmd) (st : Status) (s : State),
    s.readyFor false c = true ∧
    s.featVal c (dw10 c % 256) = .error st :=
  ⟨{ id := ⟨0, 0, 5⟩, cdw10 := 0x99 }, .invalidField, live, by decide +kernel⟩
theorem wit_FeaturesAndIdentifyAnswer_15 : ∃ (c : Cmd) (s : State),
    s.readyFor false c = true :=
  ⟨{ id := ⟨0, 0, 5⟩, cdw10 := 6 }, live, by decide +kernel⟩
theorem wit_FeaturesAndIdentifyAnswer_16 : ∃ (c : Cmd) (sig : List Byte) (i : Instr) (s : State),
    s.readyFor false c = true ∧
    s.isManager c.id.ctrl = false ∧
    i ∈ [Instr.tenantQos c, .roomKey c, .firmwareConfirm c, .epochLength c, .rebuildShare c, .memberTimers c, .cartridgeAdmissionPolicy c sig] :=
  ⟨{ id := ⟨1, 0, 5⟩ }, [], .epochLength { id := ⟨1, 0, 5⟩ }, tenCtrl, by decide +kernel⟩
theorem wit_FeaturesAndIdentifyAnswer_17 : ∃ (c : Cmd) (s : State),
    s.readyFor true c = true ∧
    ¬(dw12 c / 256 = 0 ∧ 2 ≤ dw11 c % 65536 ∧ dw11 c % 65536 ≤ 1000 ∧ 5 ≤ field (dw11 c) 31 16 ∧ field (dw11 c) 31 16 ≤ 600 ∧ 1 ≤ dw12 c % 256 ∧ dw12 c % 256 ≤ 50 ∧ dw11 c % 65536 ≤ 10 * field (dw11 c) 31 16) :=
  ⟨{ id := ⟨0, 0, 5⟩ }, live, by decide +kernel⟩
theorem wit_FeaturesAndIdentifyAnswer_18 : ∃ (c : Cmd) (s : State),
    s.readyFor false c = true ∧
    policyOk (dw11 c) = false :=
  ⟨{ id := ⟨0, 0, 5⟩, nsid := 1 }, live, by decide +kernel⟩
theorem wit_FeaturesAndIdentifyAnswer_19 : ∃ (c : Cmd) (st : Status) (s : State),
    s.readyFor false c = true ∧
    policyOk (dw11 c) = true ∧
    c.nsid ≠ 0xFFFFFFFF ∧
    s.policyNs c = .error st :=
  ⟨{ id := ⟨0, 0, 5⟩, nsid := 9, cdw11 := 0x00642002 }, .invalidNs, live, by decide +kernel⟩
theorem wit_FeaturesAndIdentifyAnswer_20 : ∃ (c : Cmd) (s : State),
    s.readyFor false c = true ∧
    policyOk (dw11 c) = true ∧
    c.nsid = 0xFFFFFFFF :=
  ⟨{ id := ⟨0, 0, 5⟩, nsid := 0xFFFFFFFF, cdw11 := 0x00642002 }, ioState, by decide +kernel⟩
theorem wit_SettingsOfR38AreStagedForABoundary_1 : ∃ (c : Cmd) (s : State),
    s.readyFor true c = true ∧
    saveBit c = false ∧
    dw11 c < 2 ^ 14 :=
  ⟨{ id := ⟨0, 0, 5⟩, cdw11 := 0x3FFF }, live, by decide +kernel⟩
theorem wit_SettingsOfR38AreStagedForABoundary_2 : ∃ (c : Cmd) (s : State),
    s.readyFor true c = true ∧
    dw11 c < 2 ^ 7 :=
  ⟨{ id := ⟨0, 0, 5⟩, cdw11 := 127 }, live, by decide +kernel⟩
theorem wit_SettingsOfR38AreStagedForABoundary_3 : ∃ (c : Cmd) (n : Nat) (s : State),
    s.readyFor true c = true ∧
    dw11 c = n ∧
    1 ≤ n ∧
    n < 65536 ∧
    (s.tenant n).occupied = true :=
  ⟨{ id := ⟨0, 0, 5⟩, cdw11 := 1, cdw12 := 0xFFFFFFFF }, 1, tenState, by decide +kernel⟩
theorem wit_SettingsOfR38AreStagedForABoundary_4 : ∃ (c : Cmd) (n : Nat) (s : State),
    s.readyFor true c = true ∧
    dw10 c = n ∧
    n < 65536 ∧
    c.cdw11 = 0 ∧
    zero12 c = true ∧
    (s.tenant n).occupied = true ∧
    s.pwr.mode ≠ 1 ∧
    (tenParams c.buf).ok c.buf = true ∧
    zeroBytes c.buf 0 2 = true ∧
    zeroBytes c.buf 8 263 = true ∧
    s.sharesOk n (tenParams c.buf) = true :=
  ⟨{ id := ⟨0, 0, 5⟩, cdw10 := 1, buf := pageOf 512 [(4, 1, 16), (264, 4, 1000), (296, 2, 0x8001)] }, 1, tenState, by decide +kernel⟩
theorem wit_SettingsOfR38AreStagedForABoundary_5 : ∃ (c : Cmd) (p : Nat) (s : State),
    s.readyFor true c = true ∧
    s.poolRefusal 0 c = none ∧
    p = dw10 c / 16 % 4 :=
  ⟨{ id := ⟨0, 0, 5⟩, cdw10 := 0, buf := pageOf 64 [(0, 8, 0xFF), (8, 1, 4)] }, 0, freshPool, by decide +kernel⟩
theorem wit_SettingsOfR38AreStagedForABoundary_6 : ∃ (c : Cmd) (p : Nat) (s : State),
    s.readyFor true c = true ∧
    s.poolRefusal 3 c = none ∧
    p = dw10 c / 16 % 4 ∧
    (poolArgs c.buf).n ≠ 0 ∧
    (poolArgs c.buf).n ≠ s.nOf p :=
  ⟨{ id := ⟨0, 0, 5⟩, cdw10 := 3, buf := pageOf 64 [(8, 1, 5)] }, 0, { bigPool with slots := [0, 1, 2, 3, 4, 5, 6, 7, 8, 9, 10, 11].map (fun n => (n, { st := .inService, pool := some 0, midx := n })) }, by decide +kernel⟩
theorem wit_SettingsOfR38AreStagedForABoundary_7 : ∃ (c : Cmd) (s : State),
    s.readyFor true c = true ∧
    saveBit c = true :=
  ⟨{ id := ⟨0, 0, 5⟩, cdw10 := 0x80000000 }, live, by decide +kernel⟩
theorem wit_SettingsOfR38AreStagedForABoundary_8 : ∃ (c : Cmd) (s : State),
    s.readyFor true c = true ∧
    saveBit c = false ∧
    2 ^ 14 ≤ dw11 c :=
  ⟨{ id := ⟨0, 0, 5⟩, cdw11 := 0x4000 }, live, by decide +kernel⟩
theorem wit_SettingsOfR38AreStagedForABoundary_9 : ∃ (c : Cmd) (s : State),
    s.readyFor true c = true ∧
    2 ^ 7 ≤ dw11 c :=
  ⟨{ id := ⟨0, 0, 5⟩, cdw11 := 128 }, live, by decide +kernel⟩
theorem wit_SettingsOfR38AreStagedForABoundary_10 : ∃ (c : Cmd) (s : State),
    s.readyFor true c = true ∧
    (field (dw11 c) 31 16 ≠ 0 ∨ dw11 c % 65536 = 0 ∨ (s.tenant (dw11 c % 65536)).occupied = false) :=
  ⟨{ id := ⟨0, 0, 5⟩, cdw11 := 1 }, live, by decide +kernel⟩
theorem wit_SettingsOfR38AreStagedForABoundary_11 : ∃ (c : Cmd) (st : Status) (s : State),
    s.readyFor true c = true ∧
    s.poolRefusal 0 c = some st :=
  ⟨{ id := ⟨0, 0, 5⟩, cdw10 := 0, buf := pageOf 64 [] }, ((live.poolRefusal 0 { id := ⟨0, 0, 5⟩, cdw10 := 0, buf := pageOf 64 [] }).getD .success), live, by decide +kernel⟩
theorem wit_PoolsAreChangedDeletedAndReported_1 : ∃ (act : Nat) (i : Instr) (c : Cmd) (st : Status) (s : State),
    (act, i) ∈ [(0, Instr.poolCreate c), (1, .poolAdd c), (2, .poolRemove c), (3, .poolSet c), (4, .poolDelete c), (5, .poolReport c)] ∧
    s.readyFor true c = true ∧
    s.poolWaits act c = false ∧
    s.poolRefusal act c = some st :=
  ⟨5, .poolReport { id := ⟨0, 0, 5⟩ }, { id := ⟨0, 0, 5⟩ }, .invalidField, bigPool, by decide +kernel⟩
theorem wit_PoolsAreChangedDeletedAndReported_2 : ∃ (act : Nat) (i : Instr) (c : Cmd) (s : State),
    (act, i) ∈ [(0, Instr.poolCreate c), (1, .poolAdd c), (2, .poolRemove c), (3, .poolSet c), (4, .poolDelete c), (5, .poolReport c)] ∧
    s.readyFor true c = true ∧
    s.poolWaits act c = true :=
  ⟨5, .poolReport { id := ⟨0, 0, 5⟩, cdw10 := 5 }, { id := ⟨0, 0, 5⟩, cdw10 := 5 }, { live with media := { pools := [(0, { exist := true, pstate := 1 })] } }, by decide +kernel⟩
theorem wit_PoolsAreChangedDeletedAndReported_3 : ∃ (c : Cmd) (p : Nat) (s : State),
    s.readyFor true c = true ∧
    s.poolRefusal 0 c = none ∧
    p = dw10 c / 16 % 4 :=
  ⟨{ id := ⟨0, 0, 5⟩, cdw10 := 0, buf := pageOf 64 [(0, 8, 0xFF), (8, 1, 4)] }, 0, freshPool, by decide +kernel⟩
theorem wit_PoolsAreChangedDeletedAndReported_4 : ∃ (c : Cmd) (p : Nat) (s : State),
    s.readyFor true c = true ∧
    s.poolRefusal 3 c = none ∧
    p = dw10 c / 16 % 4 ∧
    (poolArgs c.buf).n ≠ 0 ∧
    (poolArgs c.buf).n ≠ s.nOf p :=
  ⟨{ id := ⟨0, 0, 5⟩, cdw10 := 3, buf := pageOf 64 [(8, 1, 5)] }, 0, { bigPool with slots := [0, 1, 2, 3, 4, 5, 6, 7, 8, 9, 10, 11].map (fun n => (n, { st := .inService, pool := some 0, midx := n })) }, by decide +kernel⟩
theorem wit_PoolsAreChangedDeletedAndReported_5 : ∃ (c : Cmd) (p : Nat) (s : State),
    s.readyFor true c = true ∧
    s.poolRefusal 1 c = none ∧
    p = dw10 c / 16 % 4 :=
  ⟨{ id := ⟨0, 0, 5⟩, cdw10 := 1, buf := pageOf 64 [(0, 8, 0x200)] }, 0, addPool, by decide +kernel⟩
theorem wit_PoolsAreChangedDeletedAndReported_6 : ∃ (c : Cmd) (p : Nat) (s : State),
    s.readyFor true c = true ∧
    s.poolRefusal 2 c = none ∧
    p = dw10 c / 16 % 4 :=
  ⟨{ id := ⟨0, 0, 5⟩, cdw10 := 2, buf := pageOf 64 [(0, 8, 0x100)] }, 0, bigPool, by decide +kernel⟩
theorem wit_PoolsAreChangedDeletedAndReported_7 : ∃ (c : Cmd) (p : Nat) (s : State),
    s.readyFor true c = true ∧
    s.poolRefusal 3 c = none ∧
    p = dw10 c / 16 % 4 ∧
    ((poolArgs c.buf).n = 0 ∨ (poolArgs c.buf).n = s.nOf p) :=
  ⟨{ id := ⟨0, 0, 5⟩, cdw10 := 3, buf := pageOf 64 [(9, 1, 20), (10, 1, 1)] }, 0, bigPool, by decide +kernel⟩
theorem wit_PoolsAreChangedDeletedAndReported_8 : ∃ (c : Cmd) (p : Nat) (s : State),
    s.readyFor true c = true ∧
    s.poolRefusal 4 c = none ∧
    p = dw10 c / 16 % 4 :=
  ⟨{ id := ⟨0, 0, 5⟩, cdw10 := 4 }, 0, bigPool, by decide +kernel⟩
theorem wit_PoolsAreChangedDeletedAndReported_9 : ∃ (r : DurRec) (p : Nat) (id : CmdId) (s : State),
    r.k = .poolGone p id :=
  ⟨{ rid := 1, typ := 16, seq := 2, pool := 0, first := 2, lba := 0, body := [], at_ := (0, 0), k := .poolGone 0 ⟨0, 0, 5⟩ }, 0, ⟨0, 0, 5⟩, bigPool, by decide +kernel⟩
theorem wit_PoolsAreChangedDeletedAndReported_10 : ∃ (c : Cmd) (p : Nat) (s : State),
    s.readyFor true c = true ∧
    s.poolRefusal 5 c = none ∧
    p = dw10 c / 16 % 4 :=
  ⟨{ id := ⟨0, 0, 5⟩, cdw10 := 5 }, 0, bigPool, by decide +kernel⟩
theorem wit_CartridgeServiceActsOnItsSlot_1 : ∃ (c : Cmd) (n p : Nat) (s : State),
    s.readyFor true c = true ∧
    dw10 c = n ∧
    n < s.part.slots ∧
    zero11 c = true ∧
    (s.slot n).st = .inService ∧
    (s.slot n).pool = some p ∧
    s.cannotLose p 1 = false :=
  ⟨{ id := ⟨0, 0, 5⟩, cdw10 := 8 }, 8, 0, bigPool, by decide +kernel⟩
theorem wit_CartridgeServiceActsOnItsSlot_2 : ∃ (n p : Nat) (s : State),
    (s.slot n).pool = some p :=
  ⟨8, 0, bigPool, by decide +kernel⟩
theorem wit_CartridgeServiceActsOnItsSlot_3 : ∃ (c : Cmd) (n p : Nat) (s : State),
    s.readyFor true c = true ∧
    dw10 c = 0x100 + n ∧
    n < s.part.slots ∧
    zero11 c = true ∧
    (s.slot n).st = .draining ∧
    (s.slot n).drain = some .service ∧
    (s.slot n).retireBits = 0 ∧
    (s.slot n).pool = some p :=
  ⟨{ id := ⟨0, 0, 5⟩, cdw10 := 0x108 }, 8, 0, { bigPool with slots := [(8, { st := .draining, drain := some .service, pool := some 0, desc := descBody })] }, by decide +kernel⟩
theorem wit_CartridgeServiceActsOnItsSlot_4 : ∃ (c : Cmd) (n : Nat) (s : State),
    s.readyFor true c = true ∧
    dw10 c = 0x200 + n ∧
    n < s.part.slots ∧
    zero11 c = true ∧
    ((s.slot n).st = .quarantined ∨ (s.slot n).st = .admitted) ∧
    (s.slot n).updating = false ∧
    s.bundled (s.slot n).model = true :=
  ⟨{ id := ⟨0, 0, 5⟩, cdw10 := 0x23F }, 63, updState, by decide +kernel⟩
theorem wit_CartridgeServiceActsOnItsSlot_5 : ∃ (c : Cmd) (n : Nat) (s u : State),
    s.readyFor true c = true ∧
    dw10 c = 0x200 + n ∧
    n < s.part.slots ∧
    zero11 c = true ∧
    (s.slot n).st = .inService ∧
    (s.slot n).updating = false ∧
    s.bundled (s.slot n).model = true ∧
    u = s.modSlot n (fun x => { x with updCmd := some c.id }) :=
  ⟨{ id := ⟨0, 0, 5⟩, cdw10 := 0x23F }, 63, updIn, updIn.modSlot 63 (fun x => { x with updCmd := some ⟨0, 0, 5⟩ }), by decide +kernel⟩
theorem wit_CartridgeServiceActsOnItsSlot_6 : ∃ (c : Cmd) (n : Nat) (s : State),
    s.readyFor true c = true ∧
    dw10 c = 0x300 + n ∧
    n < s.part.slots ∧
    zero11 c = true ∧
    ((s.slot n).st = .powering ∨ (s.slot n).st = .training) :=
  ⟨{ id := ⟨0, 0, 5⟩, cdw10 := 0x304 }, 4, { live with slots := [(4, { st := .training, pwren := true })] }, by decide +kernel⟩
theorem wit_CartridgeServiceActsOnItsSlot_7 : ∃ (c : Cmd) (n : Nat) (s : State),
    s.readyFor true c = true ∧
    dw10 c = 0x400 + n ∧
    n < s.part.slots ∧
    zero11 c = true ∧
    ((s.slot n).st = .off ∨ (s.slot n).st = .rejected ∨ (s.slot n).st = .failed) :=
  ⟨{ id := ⟨0, 0, 5⟩, cdw10 := 0x404 }, 4, { live with slots := [(4, { st := .off })] }, by decide +kernel⟩
theorem wit_CartridgeServiceActsOnItsSlot_8 : ∃ (c : Cmd) (n : Nat) (s : State),
    s.readyFor true c = true ∧
    dw10 c = 0x500 + n ∧
    n < s.part.slots ∧
    zero11 c = true ∧
    (s.slot n).st = .admitted ∧
    (s.slot n).held.isSome = true :=
  ⟨{ id := ⟨0, 0, 5⟩, cdw10 := 0x504 }, 4, { live with slots := [(4, { st := .admitted, held := some 7 })] }, by decide +kernel⟩
theorem wit_CartridgeServiceActsOnItsSlot_9 : ∃ (n : Nat) (s : State),
    n < s.part.slots ∧
    s.pwr.phase = .run ∧
    (s.slot n).st = .inService ∧
    (s.slot n).updating = false ∧
    (s.slot n).phase = 5 ∧
    s.bundled (s.slot n).model = true ∧
    s.compatSeq (s.slot n).model (s.slot n).fwVer = false ∧
    s.slots.any (fun e => e.2.rolling) = false ∧
    s.poolWhole ((s.slot n).pool.getD 0) = true ∧
    (s.slot n).updTried = false :=
  ⟨63, { updState with slots := [(63, { st := .inService, pool := some 0, phase := 5, desc := descBody, fwVer := 1 })] }, by decide +kernel⟩
theorem wit_CartridgeServiceActsOnItsSlot_10 : ∃ (c : Cmd) (n : Nat) (s : State),
    s.readyFor true c = true ∧
    dw10 c = 0x300 + n ∧
    n < s.part.slots ∧
    zero11 c = true ∧
    (s.slot n).st ≠ .quarantined ∧
    (s.slot n).st ∉ [.inService, .draining, .empty, .off] :=
  ⟨{ id := ⟨0, 0, 5⟩, cdw10 := 0x304 }, 4, { live with slots := [(4, { st := .admitted, pwren := true, phase := 5 })] }, by decide +kernel⟩
theorem wit_CartridgeServiceActsOnItsSlot_11 : ∃ (c : Cmd) (n : Nat) (s : State),
    s.readyFor true c = true ∧
    dw10 c = 0x300 + n ∧
    n < s.part.slots ∧
    zero11 c = true ∧
    (s.slot n).st = .quarantined :=
  ⟨{ id := ⟨0, 0, 5⟩, cdw10 := 0x304 }, 4, { live with slots := [(4, { st := .quarantined, pwren := true, phase := 5 })] }, by decide +kernel⟩
theorem wit_CartridgeServiceActsOnItsSlot_12 : ∃ (act : Nat) (i : Instr) (c : Cmd) (s : State),
    (act, i) ∈ [(0, Instr.drain c), (1, .undrain c), (2, .seqUpdate c), (3, .powerOff c), (4, .powerOn c), (5, .release c)] ∧
    s.readyFor true c = true ∧
    (4096 ≤ dw10 c ∨ dw10 c / 256 % 16 ≠ act ∨ zero11 c = false ∨ s.part.slots ≤ dw10 c % 256) :=
  ⟨5, .release { id := ⟨0, 0, 5⟩, cdw10 := 0x540 }, { id := ⟨0, 0, 5⟩, cdw10 := 0x540 }, live, by decide +kernel⟩
theorem wit_CartridgeServiceActsOnItsSlot_13 : ∃ (act n : Nat) (i : Instr) (c : Cmd) (s : State),
    (act, i) ∈ [(0, Instr.drain c), (1, .undrain c), (2, .seqUpdate c), (3, .powerOff c), (4, .powerOn c), (5, .release c)] ∧
    act ≠ 2 ∧
    act ≠ 3 ∧
    s.readyFor true c = true ∧
    dw10 c = 256 * act + n ∧
    n < s.part.slots ∧
    zero11 c = true ∧
    (s.slot n).st = .quarantined :=
  ⟨5, 63, .release { id := ⟨0, 0, 5⟩, cdw10 := 0x53F }, { id := ⟨0, 0, 5⟩, cdw10 := 0x53F }, updState, by decide +kernel⟩
theorem wit_CartridgeServiceActsOnItsSlot_14 : ∃ (c : Cmd) (n : Nat) (s : State),
    s.readyFor true c = true ∧
    dw10 c = 0 + n ∧
    n < s.part.slots ∧
    zero11 c = true ∧
    (s.slot n).st ≠ .quarantined ∧
    ((s.slot n).st ≠ .inService ∨ (s.slot n).pool = none) :=
  ⟨{ id := ⟨0, 0, 5⟩, cdw10 := 4 }, 4, live, by decide +kernel⟩
theorem wit_CartridgeServiceActsOnItsSlot_15 : ∃ (c : Cmd) (n p : Nat) (s : State),
    s.readyFor true c = true ∧
    dw10 c = 0 + n ∧
    n < s.part.slots ∧
    zero11 c = true ∧
    (s.slot n).st = .inService ∧
    (s.slot n).pool = some p ∧
    s.cannotLose p 1 = true :=
  ⟨{ id := ⟨0, 0, 5⟩, cdw10 := 0 }, 0, 0, drainFull, by decide +kernel⟩
theorem wit_CartridgeServiceActsOnItsSlot_16 : ∃ (c : Cmd) (n : Nat) (s : State),
    s.readyFor true c = true ∧
    dw10 c = 0x400 + n ∧
    n < s.part.slots ∧
    zero11 c = true ∧
    (s.slot n).st ∉ [.off, .rejected, .failed, .quarantined] :=
  ⟨{ id := ⟨0, 0, 5⟩, cdw10 := 0x404 }, 4, live, by decide +kernel⟩
theorem wit_CartridgeServiceActsOnItsSlot_17 : ∃ (n : Nat) (s : State),
    n < s.part.slots ∧
    (s.pwr.phase ≠ .run ∨ (s.slot n).st ≠ .inService ∨ (s.slot n).updating = true ∨ (s.slot n).phase ≠ 5 ∨ s.bundled (s.slot n).model = false ∨ s.slots.any (fun e => e.2.rolling) = true ∨ s.poolWhole ((s.slot n).pool.getD 0) = false) :=
  ⟨63, updState, by decide +kernel⟩
theorem wit_NamespacesAreCreatedDeletedAttachedAndErased_1 : ∃ (c : Cmd) (p : Nat) (d : NsCreate) (s : State),
    s.readyFor true c = true ∧
    dw10 c % 16 = 0 ∧
    d = nsCreateOf c.buf ∧
    d.lbaf ≤ 3 ∧
    s.createPool d = some p ∧
    d.ok = true ∧
    s.nsFits p (s.newNs p d) = true :=
  ⟨{ id := ⟨0, 0, 5⟩, buf := pageOf 512 [(0, 8, 1000), (8, 8, 1000), (102, 2, 1)] }, 0, nsCreateOf (pageOf 512 [(0, 8, 1000), (8, 8, 1000), (102, 2, 1)]), bigTen, by decide +kernel⟩
theorem wit_NamespacesAreCreatedDeletedAttachedAndErased_3 : ∃ (c : Cmd) (d : NsCreate) (s : State),
    s.readyFor true c = true ∧
    d = nsCreateOf c.buf :=
  ⟨{ id := ⟨0, 0, 5⟩ }, nsCreateOf [], bigTen, by decide +kernel⟩
theorem wit_NamespacesAreCreatedDeletedAttachedAndErased_5 : ∃ (c : Cmd) (x : Ns) (s : State),
    s.readyFor true c = true ∧
    dw10 c % 16 = 1 ∧
    s.ns? c.nsid = some x ∧
    x.job = 0 :=
  ⟨{ id := ⟨0, 0, 5⟩, nsid := 2, cdw10 := 1 }, nsFdp, ioState, by decide +kernel⟩
theorem wit_NamespacesAreCreatedDeletedAttachedAndErased_6 : ∃ (c : Cmd) (s : State),
    s.readyFor true c = true :=
  ⟨{ id := ⟨0, 0, 5⟩, nsid := 9, cdw10 := 1 }, ioState, by decide +kernel⟩
theorem wit_NamespacesAreCreatedDeletedAttachedAndErased_7 : ∃ (c : Cmd) (x : Ns) (ids : List Nat) (s : State),
    s.readyFor true c = true ∧
    ids = ctrlList c.buf ∧
    leAt c.buf 0 2 ≤ 2047 ∧
    dw10 c % 16 ≤ 1 ∧
    s.ns? c.nsid = some x ∧
    x.tenant = 0 ∧
    ((∀ k ∈ ids, (s.ctrl k).exist = true ∧ (s.ctrl k).tenant = 0 ∧ x.attached.contains k = decide (dw10 c % 16 = 1))) :=
  ⟨{ id := ⟨0, 0, 5⟩, nsid := 1, buf := pageOf 16 [(0, 2, 1)] }, { nsIo with attached := [] }, [0], { ioState with media := { ioState.media with nss := [{ nsIo with attached := [] }] } }, by decide +kernel⟩
theorem wit_NamespacesAreCreatedDeletedAttachedAndErased_8 : ∃ (c : Cmd) (x : Ns) (s : State),
    s.readyFor true c = true ∧
    s.ns? c.nsid = some x ∧
    (1 < dw10 c % 16 ∨ x.tenant ≠ 0 ∨ 2047 < leAt c.buf 0 2 ∨ (∃ k ∈ ctrlList c.buf, (s.ctrl k).exist = false ∨ (s.ctrl k).tenant ≠ 0 ∨ x.attached.contains k = decide (dw10 c % 16 = 0))) :=
  ⟨{ id := ⟨0, 0, 5⟩, nsid := 1, cdw10 := 2 }, nsIo, ioState, by decide +kernel⟩
theorem wit_NamespacesAreCreatedDeletedAttachedAndErased_9 : ∃ (c : Cmd) (x : Ns) (s : State),
    s.readyFor false c = true ∧
    s.ns? (s.localNs c).nsid = some x ∧
    (s.isManager c.id.ctrl = true ∨ (x.tenant = (s.ctrl c.id.ctrl).tenant ∧ x.tenant ≠ 0)) ∧
    x.job = 0 ∧
    dw10 c % 16 ≤ 3 ∧
    (dw10 c % 16 = 0 ↔ x.lbaf = 0) ∧
    field (dw10 c) 11 9 ≤ 2 ∧
    field (dw10 c) 7 5 ≤ 3 ∧
    (dw10 c % 16 ≠ 0 ∨ field (dw10 c) 7 5 = 0) :=
  ⟨{ id := ⟨0, 0, 5⟩, nsid := 1, cdw10 := 0x403 }, { nsIo with lbaf := 1 }, { ioState with media := { ioState.media with nss := [{ nsIo with lbaf := 1 }] } }, by decide +kernel⟩
theorem wit_NamespacesAreCreatedDeletedAttachedAndErased_10 : ∃ (c : Cmd) (x : Ns) (s : State),
    s.readyFor false c = true ∧
    s.ns? (s.localNs c).nsid = some x :=
  ⟨{ id := ⟨0, 0, 5⟩, nsid := 1, cdw10 := 4 }, nsIo, ioState, by decide +kernel⟩
theorem wit_NamespacesAreCreatedDeletedAttachedAndErased_11 : ∃ (act : Nat) (i : Instr) (c : Cmd) (s : State),
    (act, i) ∈ [(4, Instr.cryptoErase c), (2, .blockErase c)] ∧
    s.readyFor true c = true ∧
    dw10 c % 8 = act ∧
    s.media.sanitize = none :=
  ⟨4, .cryptoErase { id := ⟨0, 0, 5⟩, cdw10 := 4 }, { id := ⟨0, 0, 5⟩, cdw10 := 4 }, ioState, by decide +kernel⟩
theorem wit_NamespacesAreCreatedDeletedAttachedAndErased_12 : ∃ (act : Nat) (i : Instr) (c : Cmd) (s : State),
    (act, i) ∈ [(4, Instr.cryptoErase c), (2, .blockErase c)] ∧
    s.readyFor true c = true ∧
    (dw10 c % 8 ≠ act ∨ s.media.sanitize.isSome = true) :=
  ⟨2, .blockErase { id := ⟨0, 0, 5⟩, cdw10 := 4 }, { id := ⟨0, 0, 5⟩, cdw10 := 4 }, ioState, by decide +kernel⟩
theorem wit_NamespacesAreCreatedDeletedAttachedAndErased_13 : ∃ (c : Cmd) (s : State),
    s.readyFor true c = true :=
  ⟨{ id := ⟨0, 0, 5⟩, cdw10 := 3 }, ioState, by decide +kernel⟩
theorem wit_NamespacesAreCreatedDeletedAttachedAndErased_14 : ∃ (c : Cmd) (n : Nat) (x : Ns) (s : State),
    s.readyFor true c = true ∧
    s.pwr.mode ≠ 1 ∧
    dw10 c = 0x30000 + n ∧
    n < 65536 ∧
    zero12 c = true ∧
    (s.tenant n).occupied = true ∧
    s.ns? (dw11 c) = some x ∧
    x.tenant = 0 ∧
    x.attached = [] ∧
    x.job = 0 ∧
    s.tenSegs n x.pool + s.segCount x ≤ s.guar n 284 (s.segTotal x.pool) :=
  ⟨{ id := ⟨0, 0, 5⟩, cdw10 := 0x30001, cdw11 := 1 }, 1, { nsIo with attached := [], nsze := 1 }, { bigTen with media := { bigTen.media with nss := [{ nsIo with attached := [], nsze := 1 }] } }, by decide +kernel⟩
theorem wit_NamespacesAreCreatedDeletedAttachedAndErased_15 : ∃ (c : Cmd) (n : Nat) (x : Ns) (s : State),
    s.readyFor true c = true ∧
    s.pwr.mode ≠ 1 ∧
    dw10 c = 0x40000 + n ∧
    n < 65536 ∧
    zero12 c = true ∧
    (s.tenant n).occupied = true ∧
    s.ns? (dw11 c) = some x ∧
    x.tenant = n ∧
    x.flags.testBit 1 = false ∧
    x.job = 0 :=
  ⟨{ id := ⟨0, 0, 5⟩, cdw10 := 0x40001, cdw11 := 1 }, 1, { nsIo with attached := [], tenant := 1 }, { bigTen with media := { bigTen.media with nss := [{ nsIo with attached := [], tenant := 1 }] } }, by decide +kernel⟩
theorem wit_NamespacesAreCreatedDeletedAttachedAndErased_16 : ∃ (c : Cmd) (n : Nat) (s : State),
    s.readyFor true c = true ∧
    n < 65536 ∧
    zero12 c = true ∧
    (s.tenant n).occupied = true ∧
    (s.ns? (dw11 c) = none ∨ s.pwr.mode = 1) :=
  ⟨{ id := ⟨0, 0, 5⟩, cdw10 := 0x30001, cdw11 := 9 }, 1, bigTen, by decide +kernel⟩
theorem wit_NamespacesAreCreatedDeletedAttachedAndErased_17 : ∃ (p : Path) (s : State),
    s.reach p (dwSLICE + 4) = .ok ∧
    s.pwr.mode = 1 :=
  ⟨.bar2, sliceState, by decide +kernel⟩
theorem wit_NamespacesAreCreatedDeletedAttachedAndErased_18 : ∃ (p : Path) (v : Word) (s : State),
    s.reach p (dwSLICE + 4) = .ok ∧
    s.pwr.mode = 1 :=
  ⟨.bar2, 0x8000#32, sliceState, by decide +kernel⟩
theorem wit_NamespacesAreCreatedDeletedAttachedAndErased_19 : ∃ (k : Nat) (s : State),
    1 ≤ k ∧
    k ≤ 16 ∧
    (s.ctrl k).exist = true ∧
    (s.ctrl k).resetting = false ∧
    s.io.paused = false :=
  ⟨16, sliceState, by decide +kernel⟩
theorem wit_NamespacesAreCreatedDeletedAttachedAndErased_20 : ∃ (p : Path) (v : Word) (s : State),
    (s.reach p (dwSLICE + 4) = .silent ∨ s.reach p (dwSLICE + 4) = .dead) :=
  ⟨.bar2, 0x8000#32, live, by decide +kernel⟩
theorem wit_TenantsAreCreatedChangedResetAndDeleted_2 : ∃ (c : Cmd) (s : State),
    s.readyFor true c = true :=
  ⟨{ id := ⟨0, 0, 5⟩, cdw10 := 1 }, live, by decide +kernel⟩
theorem wit_TenantsAreCreatedChangedResetAndDeleted_3 : ∃ (i : Install) (s : State),
    i.tid ≠ 0 :=
  ⟨{ id := ⟨0, 0, 5⟩, tid := 64, vf := 255, flags := 1, maxScans := 16, nqn := 7, allocs := [1], banks := 1, lanes := 1 }, live, by decide +kernel⟩
theorem wit_TenantsAreCreatedChangedResetAndDeleted_4 : ∃ (c : Cmd) (n : Nat) (s : State),
    s.readyFor true c = true ∧
    s.pwr.mode ≠ 1 ∧
    dw10 c = 0x10000 + n ∧
    n < 65536 ∧
    c.cdw11 = 0 ∧
    zero12 c = true ∧
    (n = 0 ∨ (s.tenant n).occupied = true) ∧
    s.hostsOk n (leAt c.buf 0 2) c.buf = true :=
  ⟨{ id := ⟨0, 0, 5⟩, cdw10 := 0x10001, buf := pageOf 16 [] }, 1, tenState, by decide +kernel⟩
theorem wit_TenantsAreCreatedChangedResetAndDeleted_6 : ∃ (c : Cmd) (n v : Nat) (s : State),
    s.readyFor true c = true ∧
    s.pwr.mode ≠ 1 ∧
    dw10 c = 0x20000 + n ∧
    n < 65536 ∧
    dw11 c = v ∧
    v < 256 ∧
    zero12 c = true ∧
    (s.tenant n).occupied = true ∧
    (v = 0 ∨ s.vfTaken n v = false) :=
  ⟨{ id := ⟨0, 0, 5⟩, cdw10 := 0x20001, cdw11 := 255 }, 1, 255, { tenState with ten := { tbl := [(1, { occupied := true })] } }, by decide +kernel⟩
theorem wit_TenantsAreCreatedChangedResetAndDeleted_8 : ∃ (c : Cmd) (s : State),
    s.readyFor true c = true ∧
    s.pwr.mode ≠ 1 ∧
    dw10 c = 0x50000 ∧
    zero12 c = true ∧
    field (dw11 c) 31 25 = 0 ∧
    s.globalOk (dw11 c % 65536) (field (dw11 c) 23 16) ((dw11 c).testBit 24) = true :=
  ⟨{ id := ⟨0, 0, 5⟩, cdw10 := 0x50000, cdw11 := 0x01320400 }, live, by decide +kernel⟩
theorem wit_TenantsAreCreatedChangedResetAndDeleted_9 : ∃ (i : Instr) (c : Cmd) (s : State),
    s.readyFor true c = true ∧
    s.pwr.mode = 1 ∧
    i ∈ [Instr.hosts c, .bindVf c, .nsAssign c, .nsRelease c, .global c, .resources c, .tenantReset c, .tenantDelete c, .tenantCreate c] :=
  ⟨.hosts { id := ⟨0, 0, 5⟩ }, { id := ⟨0, 0, 5⟩ }, sliceState, by decide +kernel⟩
theorem wit_TenantsAreCreatedChangedResetAndDeleted_10 : ∃ (c : Cmd) (n : Nat) (s : State),
    s.readyFor true c = true ∧
    s.pwr.mode ≠ 1 ∧
    dw10 c = n ∧
    1 ≤ n ∧
    n < 65536 ∧
    zero11 c = true ∧
    (s.tenant n).occupied = true ∧
    (s.tenant n).resetting = [] ∧
    (s.tenant n).deleting = none ∧
    s.io.paused = false :=
  ⟨{ id := ⟨0, 0, 5⟩, cdw10 := 1 }, 1, tenState, by decide +kernel⟩
theorem wit_TenantsAreCreatedChangedResetAndDeleted_11 : ∃ (c : Cmd) (n : Nat) (s : State),
    s.readyFor true c = true ∧
    s.pwr.mode ≠ 1 ∧
    dw10 c = 65536 + n ∧
    1 ≤ n ∧
    n < 65536 ∧
    zero11 c = true ∧
    (s.tenant n).occupied = true ∧
    (s.tenant n).resetting = [] ∧
    (s.tenant n).deleting = none ∧
    s.io.paused = false :=
  ⟨{ id := ⟨0, 0, 5⟩, cdw10 := 0x10001 }, 1, tenState, by decide +kernel⟩
theorem wit_TenantsAreCreatedChangedResetAndDeleted_12 : ∃ (c : Cmd) (s : State),
    s.readyFor true c = true :=
  ⟨{ id := ⟨0, 0, 5⟩, cdw10 := 1 }, tenState, by decide +kernel⟩
theorem wit_TenantsAreCreatedChangedResetAndDeleted_14 : ∃ (n : Nat) (id : CmdId) (s : State),
    s.tenDraining n = false ∧
    (s.tenant n).resetting = [id] ∧
    (s.tenant n).deleting = none ∧
    s.io.heldConnects = [] :=
  ⟨1, ⟨0, 0, 5⟩, { live with ten := { tbl := [(1, { occupied := true, resetting := [⟨0, 0, 5⟩] })] } }, by decide +kernel⟩
theorem wit_KeySearchWritesLooksUpAndExpires_1 : ∃ (c : Cmd) (s : State),
    s.accepts c = true :=
  ⟨{ id := ⟨0, 1, 5⟩, cdw2 := 1, cdw10 := 0x5A }, keyState, by decide +kernel⟩
theorem wit_KeySearchWritesLooksUpAndExpires_2 : ∃ (c : Cmd) (i : Instr) (s : State),
    s.accepts c = false ∧
    i ∈ [Instr.keyNext c, .keyInsert c, .keyDelete c, .keyLookupShort c, .keyLookupLong c, .keyLookupBatch c] :=
  ⟨{ id := ⟨9, 1, 5⟩ }, .keyNext { id := ⟨9, 1, 5⟩ }, keyState, by decide +kernel⟩
theorem wit_KeySearchWritesLooksUpAndExpires_3 : ∃ (c : Cmd) (k : Nat) (s : State),
    s.vendorFree 0x92 c = true ∧
    k = entNo (dw10 c % 16) (dw11 c) ∧
    s.ownsBank (s.ctrl c.id.ctrl).tenant (dw10 c % 16) = true ∧
    ((s.srch.row k).valid = false ∨ (dw10 c).testBit 4 = true) :=
  ⟨{ id := ⟨0, 1, 5⟩, cdw10 := 0x1F, cdw11 := 0x3FFF, buf := pageOf 64 [(0, 8, 0x5A), (24, 8, 0xFF), (48, 2, 3), (56, 8, 77)] }, entNo 15 16383, keyState, by decide +kernel⟩
theorem wit_KeySearchWritesLooksUpAndExpires_4 : ∃ (c : Cmd) (s : State),
    s.vendorFree 0x92 c = true ∧
    s.ownsBank (s.ctrl c.id.ctrl).tenant (dw10 c % 16) = true ∧
    (s.srch.row (entNo (dw10 c % 16) (dw11 c))).valid = true ∧
    (dw10 c).testBit 4 = false :=
  ⟨{ id := ⟨0, 1, 5⟩, cdw10 := 0, cdw11 := 1, buf := pageOf 64 [] }, keyState, by decide +kernel⟩
theorem wit_KeySearchWritesLooksUpAndExpires_5 : ∃ (c : Cmd) (k : Nat) (s : State),
    s.vendorFree 0x93 c = true ∧
    k = entNo (dw10 c % 16) (dw11 c) ∧
    s.ownsBank (s.ctrl c.id.ctrl).tenant (dw10 c % 16) = true :=
  ⟨{ id := ⟨0, 1, 5⟩, cdw10 := 0, cdw11 := 1 }, 1, keyState, by decide +kernel⟩
theorem wit_KeySearchWritesLooksUpAndExpires_8 : ∃ (c : Cmd) (hs : List (Nat × TEnt)) (fh : Bool) (u s : State),
    s.vendorFree 0x90 c = true ∧
    lookForm c = 0 ∧
    s.ownsBanks (s.ctrl c.id.ctrl).tenant (lookBanks c) = true ∧
    s.search (s.ctrl c.id.ctrl).tenant (lookBanks c) (lookKey c) = (hs, fh, u) :=
  ⟨{ id := ⟨0, 1, 5⟩, cdw2 := 1, cdw10 := 0x5A }, [(2, tentB), (1, tentA)], false, (keyState.search 0 1 0x5A).2.2, keyState, by decide +kernel⟩
theorem wit_KeySearchWritesLooksUpAndExpires_9 : ∃ (c : Cmd) (h : Nat × TEnt) (l : List (Nat × TEnt)) (s : State),
    s.vendorFree 0x90 c = true ∧
    lookForm c = 0 ∧
    s.ownsBanks (s.ctrl c.id.ctrl).tenant (lookBanks c) = true ∧
    s.sound = true ∧
    s.srch.tcam = s.srch.copies ∧
    s.srch.bad = [] ∧
    s.srch.rawHits (lookBanks c) (lookKey c) = h :: l :=
  ⟨{ id := ⟨0, 1, 5⟩, cdw2 := 1, cdw10 := 0x5A }, (2, tentB), [(1, tentA)], keyState, by decide +kernel⟩
theorem wit_KeySearchWritesLooksUpAndExpires_10 : ∃ (c : Cmd) (h g : Nat × TEnt) (l : List (Nat × TEnt)) (k : Nat) (s : State),
    s.vendorFree 0x90 c = true ∧
    lookForm c = 1 ∧
    s.ownsBanks (s.ctrl c.id.ctrl).tenant (lookBanks c) = true ∧
    s.sound = true ∧
    s.srch.tcam = s.srch.copies ∧
    s.srch.bad = [] ∧
    s.srch.rawHits (lookBanks c) (lookKey c) = h :: g :: l ∧
    s.freeCursor (s.ctrl c.id.ctrl).tenant = some k :=
  ⟨{ id := ⟨0, 1, 5⟩, cdw2 := 0x10001, cdw10 := 0x5A }, (2, tentB), (1, tentA), [], 0, keyState, by decide +kernel⟩
theorem wit_KeySearchWritesLooksUpAndExpires_12 : ∃ (c : Cmd) (h : Nat × TEnt) (s : State),
    s.vendorFree 0x90 c = true ∧
    lookForm c = 1 ∧
    s.ownsBanks (s.ctrl c.id.ctrl).tenant (lookBanks c) = true ∧
    s.sound = true ∧
    s.srch.tcam = s.srch.copies ∧
    s.srch.bad = [] ∧
    s.srch.rawHits (lookBanks c) (lookKey c) = [h] :=
  ⟨{ id := ⟨0, 1, 5⟩, cdw2 := 0x10001, cdw10 := 0x5A }, (1, tentA), { keyState with srch := { tcam := [(1, tentA)], copies := [(1, tentA)] } }, by decide +kernel⟩
theorem wit_KeySearchWritesLooksUpAndExpires_13 : ∃ (c : Cmd) (s : State),
    s.vendorFree 0x90 c = true ∧
    (lookForm c = 0 ∨ lookForm c = 1) ∧
    s.ownsBanks (s.ctrl c.id.ctrl).tenant (lookBanks c) = true ∧
    s.srch.rawHits (lookBanks c) (lookKey c) = [] :=
  ⟨{ id := ⟨0, 1, 5⟩, cdw2 := 0x2, cdw10 := 0x5A }, keyState, by decide +kernel⟩
theorem wit_KeySearchWritesLooksUpAndExpires_14 : ∃ (c : Cmd) (k : Nat) (s : State),
    s.vendorFree 0x90 c = true ∧
    lookForm c = 2 ∧
    s.ownsBanks (s.ctrl c.id.ctrl).tenant (lookBanks c) = true ∧
    s.freeCursor (s.ctrl c.id.ctrl).tenant = some k :=
  ⟨{ id := ⟨0, 1, 5⟩, cdw2 := 0x20001, cdw10 := 1, buf := pageOf 32 [(0, 8, 0x5A)] }, 0, keyState, by decide +kernel⟩
theorem wit_KeySearchWritesLooksUpAndExpires_16 : ∃ (n k : Nat) (c : Cmd) (f : Flight) (s : State),
    s.srch.waitBatch.find? (fun c => (s.flight? c.id).any (fun f => f.tenant = n)) = some c ∧
    s.flight? c.id = some f ∧
    s.freeCursor n = some k :=
  ⟨0, 0, batchCmd, batchFlight, { keyState with srch := { keyState.srch with waitBatch := [batchCmd] }, io := { keyState.io with flights := [batchFlight] } }, by decide +kernel⟩
theorem wit_KeySearchWritesLooksUpAndExpires_17 : ∃ (n k : Nat) (c : Cmd) (f : Flight) (s : State),
    s.srch.waitBatch = [c] ∧
    s.flight? c.id = some f ∧
    f.tenant = n ∧
    f.c = c ∧
    s.freeCursor n = some k :=
  ⟨0, 0, batchCmd, batchFlight, { keyState with srch := { keyState.srch with waitBatch := [batchCmd] }, io := { keyState.io with flights := [batchFlight] } }, by decide +kernel⟩
theorem wit_KeySearchWritesLooksUpAndExpires_18 : ∃ (n : Nat) (s : State),
    (s.freeCursor n = none ∨ (∀ c ∈ s.srch.waitBatch, ∀ f, s.flight? c.id = some f → f.tenant ≠ n)) :=
  ⟨0, keyState, by decide +kernel⟩
theorem wit_KeySearchWritesLooksUpAndExpires_19 : ∃ (c : Cmd) (x : Cursor) (rs : List (List Byte)) (s : State),
    s.vendorFree 0x91 c = true ∧
    s.srch.cursors.find? (fun k => k.token = dw10 c + 2 ^ 32 * dw11 c ∧ k.tenant = (s.ctrl c.id.ctrl).tenant) = some x ∧
    x.batch = some rs ∧
    16 * rs.length ≤ c.bufLen :=
  ⟨{ id := ⟨0, 1, 5⟩, cdw10 := 0xC000, bufLen := 16 }, { token := 0xC000, ctrl := 0, tenant := 0, batch := some [pageOf 16 []] }, [pageOf 16 []], { keyState with srch := { cursors := [{ token := 0xC000, ctrl := 0, tenant := 0, batch := some [pageOf 16 []] }] } }, by decide +kernel⟩
theorem wit_KeySearchWritesLooksUpAndExpires_20 : ∃ (c : Cmd) (x : Cursor) (hs : List (Nat × TEnt)) (fh : Bool) (u s : State),
    s.vendorFree 0x91 c = true ∧
    s.srch.cursors.find? (fun k => k.token = dw10 c + 2 ^ 32 * dw11 c ∧ k.tenant = (s.ctrl c.id.ctrl).tenant) = some x ∧
    x.batch = none ∧
    32 ≤ c.bufLen ∧
    s.search (s.ctrl c.id.ctrl).tenant x.banks x.key = (hs, fh, u) :=
  ⟨{ id := ⟨0, 1, 5⟩, cdw10 := 0x8000, bufLen := 32 }, { token := 0x8000, ctrl := 0, tenant := 0, banks := 1, key := 0x5A, last := (9, 0, 2) }, [(2, tentB), (1, tentA)], false, (({ keyState with srch := { keyState.srch with cursors := [{ token := 0x8000, ctrl := 0, tenant := 0, banks := 1, key := 0x5A, last := (9, 0, 2) }] } } : State).search 0 1 0x5A).2.2, { keyState with srch := { keyState.srch with cursors := [{ token := 0x8000, ctrl := 0, tenant := 0, banks := 1, key := 0x5A, last := (9, 0, 2) }] } }, by decide +kernel⟩
theorem wit_KeySearchWritesLooksUpAndExpires_21 : ∃ (c : Cmd) (x : Cursor) (s : State),
    s.vendorFree 0x91 c = true ∧
    s.srch.cursors.find? (fun k => k.token = dw10 c + 2 ^ 32 * dw11 c ∧ k.tenant = (s.ctrl c.id.ctrl).tenant) = some x ∧
    (match x.batch with | some rs => c.bufLen < 16 * rs.length | none => c.bufLen < 32) :=
  ⟨{ id := ⟨0, 1, 5⟩, cdw10 := 0xC000, bufLen := 15 }, { token := 0xC000, ctrl := 0, tenant := 0, batch := some [pageOf 16 []] }, { keyState with srch := { cursors := [{ token := 0xC000, ctrl := 0, tenant := 0, batch := some [pageOf 16 []] }] } }, by decide +kernel⟩
theorem wit_KeySearchWritesLooksUpAndExpires_22 : ∃ (c : Cmd) (s : State),
    s.vendorFree 0x91 c = true ∧
    ((∀ x ∈ s.srch.cursors, x.token ≠ dw10 c + 2 ^ 32 * dw11 c ∨ x.tenant ≠ (s.ctrl c.id.ctrl).tenant)) :=
  ⟨{ id := ⟨0, 1, 5⟩, cdw10 := 0xC000 }, keyState, by decide +kernel⟩
theorem wit_RowsAreScrubbedAndInjected_1 : ∃ (b : Nat) (s : State),
    b < 16 ∧
    s.part.keySearch = true ∧
    s.pwr.phase = .run :=
  ⟨15, keyState, by decide +kernel⟩
theorem wit_RowsAreScrubbedAndInjected_2 : ∃ (b : Nat) (s : State),
    b < 16 ∧
    (s.part.keySearch = false ∨ s.pwr.phase ≠ .run) :=
  ⟨15, { keyState with part := .ux6416 }, by decide +kernel⟩
theorem wit_RowsAreScrubbedAndInjected_4 : ∃ (p : Path) (v : Word) (k : Nat) (s : State),
    s.reach p (dwSRCH + 0x18) = .ok ∧
    s.pwr.mode = 1 ∧
    v.toNat.testBit 31 = true ∧
    v.toNat % 256 < 192 ∧
    k = entNo (v.toNat / 2 ^ 26 % 16) (v.toNat / 2 ^ 12 % 16384) :=
  ⟨.bar2, 0x80001000#32, 1, { keyState with pwr := { keyState.pwr with mode := 1 } }, by decide +kernel⟩
theorem wit_RowsAreScrubbedAndInjected_5 : ∃ (p : Path) (v : Word) (s : State),
    s.reach p (dwSRCH + 0x18) = .ok ∧
    s.pwr.mode = 1 ∧
    v.toNat.testBit 31 = true ∧
    192 ≤ v.toNat % 256 :=
  ⟨.bar2, 0x800010C0#32, { keyState with pwr := { keyState.pwr with mode := 1 } }, by decide +kernel⟩
theorem wit_RowsAreScrubbedAndInjected_6 : ∃ (p : Path) (v : Word) (s : State),
    s.reach p (dwSRCH + 0x18) = .ok ∧
    s.pwr.mode = 1 ∧
    v.toNat.testBit 31 = false :=
  ⟨.bar2, 0x00001000#32, { keyState with pwr := { keyState.pwr with mode := 1 } }, by decide +kernel⟩
theorem wit_RowsAreScrubbedAndInjected_7 : ∃ (p : Path) (v : Word) (s : State),
    s.reach p (dwSRCH + 0x18) = .ok ∧
    s.pwr.mode ≠ 1 :=
  ⟨.bar2, 0x80001000#32, keyState, by decide +kernel⟩
theorem wit_ScansStartReleaseFetchAndEnd_1 : ∃ (c : Cmd) (s : State),
    s.accepts c = true :=
  ⟨{ id := ⟨0, 1, 5⟩, cdw10 := 1 }, keyState, by decide +kernel⟩
theorem wit_ScansStartReleaseFetchAndEnd_2 : ∃ (c : Cmd) (ok : Bool) (i : Instr) (s : State),
    s.accepts c = false ∧
    i ∈ [Instr.scanStart c, .scanFetch c, .scanCancel c, .patternImageLoad c, .patternImageLoadFinal c ok, .patternImageUnload c] :=
  ⟨{ id := ⟨9, 1, 5⟩ }, true, .scanFetch { id := ⟨9, 1, 5⟩ }, keyState, by decide +kernel⟩
theorem wit_ScansStartReleaseFetchAndEnd_3 : ∃ (c : Cmd) (s : State),
    s.readyFor false c = true ∧
    s.part.scan = true ∧
    c.nsid = 0 ∧
    loadFields c = true ∧
    (dw12 c).testBit 16 = false ∧
    dw12 c % 65536 = 0 :=
  ⟨{ id := ⟨0, 0, 5⟩, cdw10 := 1, cdw11 := 0, cdw13 := 7, buf := [1, 2, 3, 4] }, live, by decide +kernel⟩
theorem wit_ScansStartReleaseFetchAndEnd_4 : ∃ (c : Cmd) (ok : Bool) (s : State),
    s.readyFor false c = true ∧
    s.part.scan = true :=
  ⟨{ id := ⟨0, 0, 5⟩ }, true, live, by decide +kernel⟩
set_option maxRecDepth 1000000 in
theorem wit_ScansStartReleaseFetchAndEnd_5 : ∃ (c : Cmd) (ok : Bool) (n : Nat) (bs : List ABank) (h : List Byte) (s : State),
    s.readyFor false c = true ∧
    s.part.scan = true ∧
    c.nsid = 0 ∧
    loadFields c = true ∧
    (dw12 c).testBit 16 = true ∧
    n = (s.ctrl c.id.ctrl).tenant ∧
    s.ownsBanks n (dw12 c % 65536) = true ∧
    ((s.storePiece n c).load n).bytes 0 512 = some h ∧
    (bitsOf (dw12 c % 65536) 16).length = leAt h 6 1 ∧
    ((∀ b ∈ bitsOf (dw12 c % 65536) 16, ((s.abank b).image = 0 ∨ (s.abank b).image = dw13 c) ∧ s.bankRuns b = false)) ∧
    ((s.storePiece n c).load n).checked (dw13 c) ok = some bs :=
  ⟨{ id := ⟨0, 0, 5⟩, cdw10 := 3, cdw11 := 0x1000, cdw12 := 0x18000, cdw13 := 7, buf := imgSec }, true, 0, imgBanks, imgHead, imgState, by decide +kernel⟩
theorem wit_ScansStartReleaseFetchAndEnd_7 : ∃ (c : Cmd) (s : State),
    s.readyFor false c = true ∧
    s.part.scan = true ∧
    c.nsid = 0 ∧
    dw10 c < 65536 ∧
    dw10 c ≠ 0 ∧
    zero11 c = true ∧
    s.ownsBanks (s.ctrl c.id.ctrl).tenant (dw10 c) = true ∧
    ((∀ b ∈ bitsOf (dw10 c) 16, s.bankRuns b = false)) :=
  ⟨{ id := ⟨0, 0, 5⟩, cdw10 := 0x8001 }, live, by decide +kernel⟩
theorem wit_ScansStartReleaseFetchAndEnd_9 : ∃ (c : Cmd) (s : State),
    s.vendorFree 0x98 c = true ∧
    s.ownsBanks (s.ctrl c.id.ctrl).tenant (dw13 c % 65536) = true ∧
    s.ownsLanes (s.ctrl c.id.ctrl).tenant (scanLanes c) = true ∧
    ((∀ b ∈ bitsOf (dw13 c % 65536) 16, (s.abank b).image ≠ 0 ∧ (s.abank b).image = c.cdw2.toNat)) ∧
    s.srch.scans.length < 64 ∧
    ((∀ x ∈ s.srch.scans, x.st = 0 → x.lanes &&& scanLanes c = 0)) ∧
    (s.srch.scans.filter (fun x => x.tenant = (s.ctrl c.id.ctrl).tenant ∧ x.st = 0)).length < (if (s.ctrl c.id.ctrl).tenant = 0 then 64 else (s.tenant (s.ctrl c.id.ctrl).tenant).maxScans) :=
  ⟨{ id := ⟨0, 1, 5⟩, nsid := 1, cdw2 := 7, cdw12 := 511, cdw13 := 0x8000, cdw14 := 0x80000000 }, { ioState with srch := { abanks := [(15, { image := 7 })] } }, by decide +kernel⟩
theorem wit_ScansStartReleaseFetchAndEnd_10 : ∃ (c : Cmd) (s : State),
    s.vendorFree 0x98 c = true :=
  ⟨{ id := ⟨0, 1, 5⟩, nsid := 1, cdw2 := 7, cdw12 := 511, cdw13 := 0x8000, cdw14 := 0x80000000 }, ioState, by decide +kernel⟩
theorem wit_ScansStartReleaseFetchAndEnd_11 : ∃ (l : Nat) (x : Scan) (cands : List Candidate) (un guardBad : List Nat) (ecc : List (Nat × Bool)) (s : State),
    l < 64 ∧
    s.coreOn = true ∧
    (s.sl l).scan = none ∧
    s.laneScan l = some x ∧
    s.chunkFree x (x.slba + 256 * x.nextChunk - (if x.nextChunk = 0 then 0 else 1)) (x.slba + 256 * x.nextChunk + x.chunkLen x.nextChunk) = true :=
  ⟨63, { scan1 with lanes := 2 ^ 63 }, [], [5], [5, 6], [(0, true)], { live with srch := { scans := [{ scan1 with lanes := 2 ^ 63 }] } }, by decide +kernel⟩
theorem wit_ScansStartReleaseFetchAndEnd_12 : ∃ (l : Nat) (cands : List Candidate) (un guardBad : List Nat) (ecc : List (Nat × Bool)) (s : State),
    l < 64 ∧
    ((s.coreOn = false ∨ (s.sl l).scan ≠ none ∨ s.laneScan l = none ∨ (∃ x, s.laneScan l = some x ∧ s.chunkFree x (x.slba + 256 * x.nextChunk - (if x.nextChunk = 0 then 0 else 1)) (x.slba + 256 * x.nextChunk + x.chunkLen x.nextChunk) = false))) :=
  ⟨63, [], [], [], [], live, by decide +kernel⟩
theorem wit_ScansStartReleaseFetchAndEnd_13 : ∃ (l sid : Nat) (x : Scan) (s : State),
    l < 64 ∧
    (s.sl l).scan = some sid ∧
    s.scan? sid = some x ∧
    s.lanePaused l = false :=
  ⟨0, 1, { scan1 with nextChunk := 1 }, { live with srch := { scans := [{ scan1 with nextChunk := 1 }], lanes := [(0, { scan := some 1, held := [gap0] })] } }, by decide +kernel⟩
theorem wit_ScansStartReleaseFetchAndEnd_14 : ∃ (l : Nat) (s : State),
    l < 64 ∧
    (((s.sl l).scan = none ∨ s.lanePaused l = true ∨ (∃ k, (s.sl l).scan = some k ∧ s.scan? k = none))) :=
  ⟨63, live, by decide +kernel⟩
theorem wit_ScansStartReleaseFetchAndEnd_15 : ∃ (c : Cmd) (x : Scan) (s : State),
    s.vendorFree 0x99 c = true ∧
    s.scan? (dw10 c % 65536) = some x ∧
    x.ctrl = c.id.ctrl ∧
    (x.buf ≠ [] ∨ x.st ≠ 0 ∨ (dw11 c).testBit 16 = false) :=
  ⟨{ id := ⟨0, 1, 5⟩, cdw10 := 1, cdw11 := 65535 }, { scan1 with buf := [gap0] }, { keyState with srch := { scans := [{ scan1 with buf := [gap0] }] } }, by decide +kernel⟩
theorem wit_ScansStartReleaseFetchAndEnd_16 : ∃ (c : Cmd) (x : Scan) (s : State),
    s.vendorFree 0x99 c = true ∧
    s.scan? (dw10 c % 65536) = some x ∧
    x.ctrl = c.id.ctrl ∧
    x.buf = [] ∧
    x.st = 0 ∧
    (dw11 c).testBit 16 = true :=
  ⟨{ id := ⟨0, 1, 5⟩, cdw10 := 1, cdw11 := 0x10001 }, scan1, { keyState with srch := { scans := [scan1] } }, by decide +kernel⟩
theorem wit_ScansStartReleaseFetchAndEnd_17 : ∃ (c : Cmd) (s : State),
    (s.scan? (dw10 c % 65536)).all (fun x => x.ctrl ≠ c.id.ctrl) = true :=
  ⟨{ id := ⟨0, 1, 5⟩, cdw10 := 1 }, keyState, by decide +kernel⟩
theorem wit_ScansStartReleaseFetchAndEnd_18 : ∃ (id : CmdId) (c : Cmd) (x : Scan) (s : State),
    s.srch.scans.find? (fun x => x.fetch.any (fun d => d.id = id)) = some x ∧
    x.fetch.find? (fun d => d.id = id) = some c :=
  ⟨fetchCmd.id, fetchCmd, { scan1 with fetch := [fetchCmd] }, { keyState with srch := { scans := [{ scan1 with fetch := [fetchCmd] }] }, io := { keyState.io with flights := [fetchFlight] } }, by decide +kernel⟩
theorem wit_ScansStartReleaseFetchAndEnd_19 : ∃ (c : Cmd) (x : Scan) (s : State),
    s.srch.scans.find? (fun x => x.fetch.any (fun d => d.id = c.id)) = some x ∧
    x.fetch.find? (fun d => d.id = c.id) = some c ∧
    s.scan? x.sid = some x ∧
    (s.flight? c.id).any (fun f => f.stage = .started && f.refs.isEmpty) = true :=
  ⟨fetchCmd, { scan1 with fetch := [fetchCmd] }, { keyState with srch := { scans := [{ scan1 with fetch := [fetchCmd] }] }, io := { keyState.io with flights := [fetchFlight] } }, by decide +kernel⟩
theorem wit_ScansStartReleaseFetchAndEnd_20 : ∃ (id : CmdId) (s : State),
    ((∀ x ∈ s.srch.scans, ∀ d ∈ x.fetch, d.id ≠ id)) :=
  ⟨⟨0, 1, 5⟩, keyState, by decide +kernel⟩
theorem wit_ScansStartReleaseFetchAndEnd_21 : ∃ (c : Cmd) (x : Scan) (s : State),
    s.vendorFree 0x9A c = true ∧
    s.scan? (dw10 c % 65536) = some x ∧
    x.ctrl = c.id.ctrl ∧
    x.fetch = [] :=
  ⟨{ id := ⟨0, 1, 5⟩, cdw10 := 1 }, { scan1 with buf := [gap0] }, { keyState with srch := { scans := [{ scan1 with buf := [gap0] }] } }, by decide +kernel⟩
theorem wit_ScansStartReleaseFetchAndEnd_22 : ∃ (k : Nat) (x : Scan) (s : State),
    s.scan? k = some x ∧
    x.st ≠ 0 :=
  ⟨1, { scan1 with st := 1 }, { live with srch := { scans := [{ scan1 with st := 1 }] } }, by decide +kernel⟩
theorem wit_ScansStartReleaseFetchAndEnd_23 : ∃ (k : Nat) (s : State),
    (s.scan? k).all (fun x => x.st = 0) = true :=
  ⟨1, { live with srch := { scans := [scan1] } }, by decide +kernel⟩
theorem wit_FirmwareIsDownloadedCommittedAndActivated_3 : ∃ (c : Cmd) (s : State),
    s.readyFor true c = true :=
  ⟨{ id := ⟨0, 0, 5⟩ }, fwState, by decide +kernel⟩
theorem wit_FirmwareIsDownloadedCommittedAndActivated_6 : ∃ (c : Cmd) (s : State),
    s.readyFor true c = true ∧
    dw10 c = 0x10 + s.fw.running ∧
    1 ≤ s.fw.running ∧
    s.fw.running ≤ 2 ∧
    s.fw.activating = none :=
  ⟨{ id := ⟨0, 0, 5⟩, cdw10 := 0x11 }, fwState, by decide +kernel⟩
theorem wit_FirmwareIsDownloadedCommittedAndActivated_7 : ∃ (c : Cmd) (k : Nat) (s : State),
    s.readyFor true c = true ∧
    k = s.fw.inactive ∧
    (s.fw.running = 1 ∨ s.fw.running = 2) ∧
    s.fw.activating = none ∧
    s.fw.trial = false ∧
    s.media.sanitize = none :=
  ⟨{ id := ⟨0, 0, 5⟩, cdw10 := 2 }, 2, fwState, by decide +kernel⟩
theorem wit_FirmwareIsDownloadedCommittedAndActivated_8 : ∃ (c : Cmd) (ca : Nat) (i : Instr) (s : State),
    s.readyFor true c = true ∧
    (ca, i) ∈ [(0, Instr.replace c), (1, .replaceActivateNext c), (2, .activateNext c), (3, .replaceActivateNow c)] :=
  ⟨{ id := ⟨0, 0, 5⟩, cdw10 := 0x12 }, 0, .replace { id := ⟨0, 0, 5⟩, cdw10 := 0x12 }, fwState, by decide +kernel⟩
theorem wit_FirmwareIsDownloadedCommittedAndActivated_10 : ∃ (id : CmdId) (s : State),
    s.pwr.phase = .run ∧
    s.fw.activating = some id ∧
    s.io.paused = false :=
  ⟨⟨0, 0, 5⟩, { fwState with fw := { fwState.fw with activating := some ⟨0, 0, 5⟩ } }, by decide +kernel⟩
theorem wit_FirmwareIsDownloadedCommittedAndActivated_12 : ∃ (id : CmdId) (s : State),
    s.fw.activating = some id ∧
    s.io.paused = true ∧
    s.io.deferred = [] ∧
    s.io.heldConnects = [] ∧
    s.io.flights = [] :=
  ⟨⟨0, 0, 5⟩, { fwState with fw := { fwState.fw with activating := some ⟨0, 0, 5⟩ }, io := { live.io with paused := true } }, by decide +kernel⟩
theorem wit_FirmwareIsDownloadedCommittedAndActivated_14 : ∃ (c : Cmd) (s : State),
    s.readyFor true c = true ∧
    dw11 c = 1 ∧
    s.fw.trial = true :=
  ⟨{ id := ⟨0, 0, 5⟩, cdw11 := 1 }, { fwState with fw := { fwState.fw with trial := true, fails := 1 } }, by decide +kernel⟩
theorem wit_FirmwareIsDownloadedCommittedAndActivated_15 : ∃ (c : Cmd) (s : State),
    s.readyFor true c = true ∧
    dw11 c = 1 ∧
    s.fw.trial = false :=
  ⟨{ id := ⟨0, 0, 5⟩, cdw11 := 1 }, fwState, by decide +kernel⟩
theorem wit_FirmwareIsDownloadedCommittedAndActivated_16 : ∃ (c : Cmd) (s : State),
    s.readyFor false c = true ∧
    (s.isManager c.id.ctrl = false ∨ dw11 c ≠ 1) :=
  ⟨{ id := ⟨0, 0, 5⟩ }, fwState, by decide +kernel⟩
theorem wit_ManagementEndpointAnswers_1 : ∃ (port ident : Nat) (s : State),
    s.miHears port = true :=
  ⟨0, 0, live, by decide +kernel⟩
theorem wit_ManagementEndpointAnswers_2 : ∃ (port ident dtype : Nat) (s : State),
    s.miHears port = true ∧
    (dtype = 0 ∨ (dtype = 1 ∧ ident < 2) ∨ (dtype = 3 ∧ (s.ctrl ident).exist = true) ∨ dtype = 4) :=
  ⟨1, 1, 1, { live with host := { pcieUp := true } }, by decide +kernel⟩
theorem wit_ManagementEndpointAnswers_3 : ∃ (port : Nat) (clear : Bool) (s : State),
    s.miHears port = true :=
  ⟨0, true, live, by decide +kernel⟩
theorem wit_ManagementEndpointAnswers_4 : ∃ (port start : Nat) (s : State),
    s.miHears port = true :=
  ⟨0, 0, live, by decide +kernel⟩
theorem wit_ManagementEndpointAnswers_5 : ∃ (port : Nat) (s : State),
    s.miHears port = true :=
  ⟨0, live, by decide +kernel⟩
theorem wit_ManagementEndpointAnswers_6 : ∃ (port v : Nat) (s : State),
    s.miHears port = true ∧
    (v = 1 ∨ v = 2) :=
  ⟨0, 2, live, by decide +kernel⟩
theorem wit_ManagementEndpointAnswers_7 : ∃ (port v : Nat) (s : State),
    s.miHears port = true :=
  ⟨0, 0, live, by decide +kernel⟩
theorem wit_ManagementEndpointAnswers_8 : ∃ (port dtype ident : Nat) (s : State),
    s.miHears port = true ∧
    ((dtype = 1 ∧ 2 ≤ ident) ∨ (dtype = 3 ∧ (s.ctrl ident).exist = false) ∨ 4 < dtype) :=
  ⟨0, 9, 0, live, by decide +kernel⟩
theorem wit_ManagementEndpointAnswers_9 : ∃ (port : Nat) (c : Cmd) (s : State),
    s.miHears port = true ∧
    c.buf.length ≤ 4152 ∧
    (s.ctrl c.id.ctrl).exist = true :=
  ⟨0, { id := ⟨0, 0, 5⟩ }, live, by decide +kernel⟩
theorem wit_ManagementEndpointAnswers_10 : ∃ (port : Nat) (c : Cmd) (s : State),
    s.miHears port = true ∧
    c.buf.length ≤ 4152 ∧
    s.readyFor false { c with viaMI := true } = true ∧
    dw10 c % 256 = 0x03 ∧
    (s.ctrl c.id.ctrl).kind ≠ .discovery :=
  ⟨0, { id := ⟨0, 0, 5⟩, cdw10 := 3 }, live, by decide +kernel⟩
theorem wit_ManagementEndpointAnswers_11 : ∃ (port op : Nat) (c : Cmd) (s : State),
    s.miHears port = true ∧
    c.buf.length ≤ 4152 ∧
    (s.ctrl c.id.ctrl).exist = true ∧
    op ∉ [0x02, 0x06, 0x09, 0x0A, 0x10, 0x11, 0xC4, 0xC8, 0xC9, 0xD0] :=
  ⟨0, 0x0C, { id := ⟨0, 0, 5⟩ }, live, by decide +kernel⟩
theorem wit_ManagementEndpointAnswers_12 : ∃ (port op : Nat) (c : Cmd) (s : State),
    s.miHears port = true ∧
    (4152 < c.buf.length ∨ (s.ctrl c.id.ctrl).exist = false) :=
  ⟨0, 2, { id := ⟨9, 0, 5⟩ }, live, by decide +kernel⟩
theorem wit_ManagementEndpointAnswers_13 : ∃ s : State,
    s.miHears 0 = true :=
  ⟨live, by decide +kernel⟩
theorem wit_ManagementEndpointAnswers_14 : ∃ (code : Nat) (s : State),
    s.miHears 0 = true ∧
    code ≠ 0 :=
  ⟨8, live, by decide +kernel⟩
theorem wit_ManagementEndpointAnswers_15 : ∃ (port a b op : Nat) (cl : Bool) (c : Cmd) (i : Instr) (s : State),
    s.miHears port = false ∧
    i ∈ [Instr.readNvmeMiDataStructure port a b, .nvmSubsystemHealthStatusPoll port cl, .controllerHealthStatusPoll port a, .configurationGet port a, .configurationSet port a b, .nvmeAdminCommandTunnel port op c] :=
  ⟨2, 0, 0, 2, true, { id := ⟨0, 0, 5⟩ }, .nvmeAdminCommandTunnel 2 2 { id := ⟨0, 0, 5⟩ }, live, by decide +kernel⟩
theorem wit_ManagementEndpointAnswers_16 : ∃ (code : Nat) (s : State),
    s.miHears 0 = false :=
  ⟨0, {}, by decide +kernel⟩
theorem wit_ReadsOfAnStFieldReturnTheValueInForce_1 : ∃ (p : Path) (off : Nat) (s : State),
    s.reach p off = .ok ∧
    isStOffset off = true ∧
    s.dw.latch.get zeroCell (latchKey p off) = 0 :=
  ⟨.bar2, stEpochLen, { live with dw := { shadow := [(stEpochLen, 7)] }, stage := { armed := true, commitEpoch := 1 } }, by decide +kernel⟩
theorem wit_AbsentUnitsRefuseTheirOpcodes_1 : ∃ (c : Cmd) (i : Instr) (s : State),
    s.readyFor false c = true ∧
    s.part = .ux6416 ∧
    i ∈ [Instr.keyNext c, .keyInsert c, .keyDelete c] ++ (if lookForm c = 0 then [.keyLookupShort c] else if lookForm c = 1 then [.keyLookupLong c] else if lookForm c = 2 then [.keyLookupBatch c] else [.keyLookupShort c, .keyLookupLong c, .keyLookupBatch c]) :=
  ⟨{ id := ⟨0, 1, 5⟩, cdw2 := 0x20001 }, .keyLookupBatch { id := ⟨0, 1, 5⟩, cdw2 := 0x20001 }, { live with part := .ux6416 }, by decide +kernel⟩
theorem wit_AbsentUnitsRefuseTheirOpcodes_2 : ∃ (c : Cmd) (ok : Bool) (i : Instr) (s : State),
    s.readyFor false c = true ∧
    (s.part = .ux6416 ∨ s.part = .ux6432) ∧
    i ∈ [Instr.scanStart c, .scanFetch c, .scanCancel c, .patternImageLoad c, .patternImageLoadFinal c ok, .patternImageUnload c] :=
  ⟨{ id := ⟨0, 1, 5⟩ }, true, .patternImageLoadFinal { id := ⟨0, 1, 5⟩ } true, { live with part := .ux6432 }, by decide +kernel⟩
theorem wit_AbsentLocationsReadZeroAndIgnoreWrites_1 : ∃ (p : Path) (off : Nat) (v : Word) (s : State),
    s.ctlOn = true ∧
    ((s.pwr.phase = .rescue ∧ p = .bar2) ∨ (s.pwr.phase ≠ .rescue ∧ (p ≠ .bar2 ∨ s.isManager 0 = true))) ∧
    off % 4 = 0 ∧
    s.locPresent off = false :=
  ⟨.bar2, dwCART 63, 1#32, { live with part := .ux6432 }, by decide +kernel⟩
theorem wit_AbsentLocationsReadZeroAndIgnoreWrites_2 : ∃ (n o : Nat) (s : State),
    s.part.slots ≤ n ∧
    n < 64 ∧
    o < 0x1000 :=
  ⟨16, 0xFFF, { live with part := .ux6416 }, by decide +kernel⟩
theorem wit_AbsentLocationsReadZeroAndIgnoreWrites_3 : ∃ (g i o : Nat) (s : State),
    s.part.groups ≤ g ∧
    g < 4 ∧
    i < 16 ∧
    o < 0x1000 :=
  ⟨1, 15, 0xFFF, { live with part := .ux6416 }, by decide +kernel⟩
theorem wit_AbsentLocationsReadZeroAndIgnoreWrites_4 : ∃ (o : Nat) (s : State),
    s.part = .ux6416 ∧
    4 ≤ o ∧
    o < 0x100000 :=
  ⟨0xFFFFF, { live with part := .ux6416 }, by decide +kernel⟩
theorem wit_AbsentLocationsReadZeroAndIgnoreWrites_5 : ∃ (l : Nat) (s : State),
    s.part = .ux6432 ∧
    l < 64 :=
  ⟨63, { live with part := .ux6432 }, by decide +kernel⟩
theorem wit_KeysMatchUnderTheirMask_2 : ∃ (c : Cmd) (i : Nat),
    i < 192 :=
  ⟨{ id := ⟨0, 1, 5⟩ }, 191, by decide +kernel⟩
theorem wit_KeysMatchUnderTheirMask_5 : ∃ (c : Cmd) (k : BitVec 192),
    (entOf c).mask = 0 :=
  ⟨{ id := ⟨0, 1, 5⟩, buf := pageOf 64 [(0, 8, 0x5A)] }, 0, by decide +kernel⟩
theorem wit_KeysMatchUnderTheirMask_6 : ∃ (c : Cmd) (i : Nat),
    i < 192 :=
  ⟨{ id := ⟨0, 1, 5⟩ }, 191, by decide +kernel⟩
theorem wit_KeysMatchUnderTheirMask_7 : ∃ (c : Cmd) (n i : Nat),
    n < dw10 c ∧
    i < 192 :=
  ⟨{ id := ⟨0, 1, 5⟩, cdw10 := 64 }, 63, 191, by decide +kernel⟩
theorem wit_TheWinnerHasTheLargestPriority_1 : ∃ (x : Srch) (banks : Nat) (k : BitVec 192) (h : Nat × TEnt),
    x.tcam.wf tent0 = true :=
  ⟨keyState.srch, 1, 0x5A, (2, tentB), by decide +kernel⟩
theorem wit_TheWinnerHasTheLargestPriority_2 : ∃ (x : Srch) (banks : Nat) (k : BitVec 192),
    x.tcam.wf tent0 = true :=
  ⟨keyState.srch, 1, 0x5A, by decide +kernel⟩
theorem wit_TheWinnerHasTheLargestPriority_3 : ∃ (x : Srch) (banks : Nat) (k : BitVec 192) (a b : List (Nat × TEnt)) (h : Nat × TEnt),
    x.tcam.wf tent0 = true ∧
    x.rawHits banks k = a ++ h :: b :=
  ⟨keyState.srch, 1, 0x5A, [(2, tentB)], [], (1, tentA), by decide +kernel⟩
theorem wit_RecordsOfOneEndAreOrdered_1 : ∃ (e : Nat) (ms : List Match),
    ((∀ m ∈ ms, m.endOff = e)) ∧
    (ms.map (fun m => m.pattern)).Nodup :=
  ⟨9, [⟨3, 1, 9, 2⟩, ⟨2, 7, 9, 4⟩, ⟨1, 1, 9, 2⟩], by decide +kernel⟩
theorem wit_FlashWordsReadByTheirState_1 : ∃ (p : Path) (v : Word) (e : EccOutcome) (s : State),
    s.reach p (dwEFL + 0x40) = .ok ∧
    s.efl.busy = none ∧
    e ≠ .uncorrectable :=
  ⟨.bar2, 0x1FFFFFF#32, .corrected, { live with efl := { words := [(0xFFFFF, { written := true, data := 9 })] } }, by decide +kernel⟩
theorem wit_FlashWordsReadByTheirState_2 : ∃ (p : Path) (v : Word) (s : State),
    s.reach p (dwEFL + 0x40) = .ok ∧
    s.efl.busy = none ∧
    (s.fword (v.toNat % 2 ^ 25 / 32)).written = false :=
  ⟨.bar2, 32#32, { live with efl := { words := [(1, { torn := true, data := 9 })] } }, by decide +kernel⟩
theorem wit_FlashWordsReadByTheirState_3 : ∃ (o : FlashOp) (i : Nat) (ok : Bool) (s : State),
    s.efl.busy = some o ∧
    o.op = 4 ∧
    i < 32 :=
  ⟨⟨4, 0x400, 0, 0⟩, 31, false, { live with efl := { busy := some ⟨4, 0x400, 0, 0⟩, words := [(63, { torn := true, data := 9 })] } }, by decide +kernel⟩
theorem wit_ClearEraseFlagClearsOnlyABlankSectorsFlag_2 : ∃ (o : FlashOp) (w : Nat) (ok : Bool) (s : State),
    s.efl.busy = some o ∧
    o.op = 5 ∧
    w / 2048 = flSector o.addr ∧
    ((s.fword w).written = true ∨ (s.fword w).torn = true) :=
  ⟨⟨5, 0x10000, 0, 0⟩, 4095, true, { live with efl := { busy := some ⟨5, 0x10000, 0, 0⟩, eflags := [1], words := [(4095, { torn := true, data := 9 })] } }, by decide +kernel⟩
/-- The Manager's NQN begins `nqn.2`, whatever the unit's identity. -/
theorem mgrNqn_head : ∃ k, mgrNqn = 110 + 256 * (113 + 256 * (110 + 256 * (46 + 256 * (50 + 256 * k)))) := by
  have hp : "nqn.2031-05.com.tazivis:ux6400:".toUTF8.toList.map (fun b => b.toNat) = 110 :: 113 :: 110 :: 46 :: 50 :: ("031-05.com.tazivis:ux6400:".toUTF8.toList.map (fun b => b.toNat)) := by decide +kernel
  unfold mgrNqn
  simp only [hp, List.cons_append, List.foldr_cons]
  exact ⟨_, rfl⟩
def tenBuf : List Byte := pageOf 512 [(8, 5, 0x782E6E716E)]
theorem tenBuf_nqn : leAt tenBuf 8 256 = 0x782E6E716E := by decide +kernel
theorem wit_TenantsAreCreatedChangedResetAndDeleted_1 : ∃ (c : Cmd) (n : Nat) (s : State),
    s.readyFor true c = true ∧ s.pwr.mode ≠ 1 ∧ dw10 c = 0 ∧ zero11 c = true ∧ (tenParams c.buf).ok c.buf = true ∧ leAt c.buf 0 2 ≤ s.ten.tMax ∧
    n = (if leAt c.buf 0 2 = 0 then s.freeSlots.headD 0 else leAt c.buf 0 2) ∧ s.freeSlots.contains n = true ∧ (leAt c.buf 2 1 = 0 ∨ s.vfTaken n (leAt c.buf 2 1) = false) ∧
    nqnOk ((c.buf.drop 8).take 256) = true ∧ (∀ e ∈ s.ten.tbl, e.2.nqn ≠ leAt c.buf 8 256) ∧ (∀ i ∈ s.stage.installs, i.nqn ≠ leAt c.buf 8 256) ∧ s.sharesOk n (tenParams c.buf) = true ∧
    s.limitOk (((tenParams c.buf).fields[3]?).getD 0) (((tenParams c.buf).fields[6]?).getD 0) s.part.nomBw = true ∧
    s.limitOk (((tenParams c.buf).fields[4]?).getD 0) (((tenParams c.buf).fields[7]?).getD 0) s.part.nomIops = true ∧ leAt c.buf 8 256 ≠ mgrNqn := by
  have h : leAt tenBuf 8 256 ≠ mgrNqn := by
    obtain ⟨k, hk⟩ := mgrNqn_head
    rw [tenBuf_nqn, hk]; omega
  refine ⟨{ id := ⟨0, 0, 5⟩, buf := tenBuf }, 1, live, ?_⟩
  have g : live.readyFor true { id := ⟨0, 0, 5⟩, buf := tenBuf } = true ∧ live.pwr.mode ≠ 1 ∧ zero11 { id := ⟨0, 0, 5⟩, buf := tenBuf } = true ∧ (tenParams tenBuf).ok tenBuf = true ∧
    leAt tenBuf 0 2 = 0 ∧ live.freeSlots.headD 0 = 1 ∧ live.freeSlots.contains 1 = true ∧ leAt tenBuf 2 1 = 0 ∧ nqnOk ((tenBuf.drop 8).take 256) = true ∧ live.ten.tbl = [] ∧ live.stage.installs = [] ∧
    live.sharesOk 1 (tenParams tenBuf) = true ∧ live.limitOk (((tenParams tenBuf).fields[3]?).getD 0) (((tenParams tenBuf).fields[6]?).getD 0) live.part.nomBw = true ∧
    live.limitOk (((tenParams tenBuf).fields[4]?).getD 0) (((tenParams tenBuf).fields[7]?).getD 0) live.part.nomIops = true := by decide +kernel
  obtain ⟨g1, g2, g3, g4, g5, g6, g7, g8, g9, g10, g11, g12, g13, g14⟩ := g
  exact ⟨g1, g2, rfl, g3, g4, by show leAt tenBuf 0 2 ≤ _; omega, by show 1 = if leAt tenBuf 0 2 = 0 then _ else _; rw [if_pos g5, g6], g7, Or.inl g8, g9, by simp [g10], by simp [g11], g12, g13, g14, h⟩
theorem leAt_append_right (a b : List Byte) (o n : Nat) : leAt (a ++ b) (a.length + o) n = leAt b o n := by
  induction n generalizing o with
  | zero => rfl
  | succ n ih => simp only [leAt]; rw [List.getElem?_append_right (by omega), show a.length + o - a.length = o by omega, show a.length + o + 1 = a.length + (o + 1) by omega, ih]
theorem leAt_append_left (a b : List Byte) (o n : Nat) (h : o + n ≤ a.length) : leAt (a ++ b) o n = leAt a o n := by
  induction n generalizing o with
  | zero => rfl
  | succ n ih => simp only [leAt]; rw [List.getElem?_append_left (by omega), ih (o + 1) (by omega)]
theorem leAt_toLe (n v o : Nat) (l : List Byte) (hl : l.length = o) : leAt (l ++ toLe n v) o n = v % 256 ^ n := by
  induction n generalizing v l o with
  | zero => simp [leAt, Nat.mod_one]
  | succ n ih =>
    have e : l ++ toLe (n + 1) v = (l ++ [BitVec.ofNat 8 v]) ++ toLe n (v / 256) := by simp [toLe]
    rw [leAt, e, ih (v / 256) (o + 1) (l ++ [BitVec.ofNat 8 v]) (by simp [hl])]
    have : ((l ++ [BitVec.ofNat 8 v]) ++ toLe n (v / 256))[o]? = some (BitVec.ofNat 8 v) := by
      rw [List.getElem?_append_left (by simp [hl]), List.getElem?_append_right (by omega)]; simp [hl]
    rw [this]
    simp only [Option.getD_some, BitVec.toNat_ofNat]
    rw [show (256 : Nat) ^ (n + 1) = 256 * 256 ^ n by rw [pow_succ, Nat.mul_comm], Nat.mod_mul]
theorem toLe_length (n v : Nat) : (toLe n v).length = n := by
  induction n generalizing v with
  | zero => rfl
  | succ n ih => simp [toLe, ih]

theorem crcBit_lt (v : Nat) (h : v < 2 ^ 32) : crcBit 0x82F63B78 v < 2 ^ 32 := by
  unfold crcBit; split
  · exact Nat.xor_lt_two_pow (by omega) (by omega)
  · omega
theorem crcByte_lt (v : Nat) (b : Byte) (h : v < 2 ^ 32) : crcByte 0x82F63B78 v b < 2 ^ 32 := by
  have h0 : v ^^^ b.toNat < 2 ^ 32 := Nat.xor_lt_two_pow h (by have := b.isLt; omega)
  unfold crcByte
  generalize v ^^^ b.toNat = x at h0
  generalize List.range 8 = l
  induction l generalizing x with
  | nil => exact h0
  | cons a l ih => exact ih _ (crcBit_lt x h0)
theorem crc32c_lt (l : List Byte) : crc32c l < 2 ^ 32 := by
  unfold crc32c crcRefl
  refine Nat.xor_lt_two_pow ?_ (by omega)
  have h0 : (2 ^ 32 - 1 : Nat) < 2 ^ 32 := by omega
  generalize (2 ^ 32 - 1 : Nat) = x at h0
  induction l generalizing x with
  | nil => exact h0
  | cons a l ih => exact ih _ (crcByte_lt x a h0)
/-- Block `i` of an image: payload of zeros, and its trailer (R426). -/
def zeros (n : Nat) : List Byte := List.replicate n 0
theorem zeros_length (n : Nat) : (zeros n).length = n := List.length_replicate
def blkBody (i : Nat) : List Byte := (zeros 65504 ++ toLe 4 i) ++ zeros 24
def blk (i : Nat) : List Byte := blkBody i ++ toLe 4 (crc32c (blkBody i))
theorem blkBody_length (i : Nat) : (blkBody i).length = 65532 := by
  unfold blkBody; rw [List.length_append, List.length_append, zeros_length, zeros_length, toLe_length]
theorem blk_good (i : Nat) (h : i < 256) : leAt (blk i) 65504 4 = i ∧ leAt (blk i) 65532 4 = crc32c ((blk i).take 65532) := by
  constructor
  · rw [blk, leAt_append_left _ _ _ _ (by rw [blkBody_length]; omega), blkBody, leAt_append_left _ _ _ _ (by rw [List.length_append, zeros_length, toLe_length]), leAt_toLe _ _ _ _ (zeros_length _)]
    omega
  · rw [blk, leAt_toLe _ _ _ _ (blkBody_length i), List.take_left' (blkBody_length i)]
    exact Nat.mod_eq_of_lt (crc32c_lt _)
def dlState : State := { fwState with fw := { fwState.fw with download := true } }
theorem wit_FirmwareIsDownloadedCommittedAndActivated_1 : ∃ (c : Cmd) (first n : Nat) (s : State), s.readyFor true c = true ∧ s.fw.trial = false ∧ s.fw.activating = none ∧ 4 * (dw10 c + 1) = 65536 * n ∧
    4 * dw11 c = 65536 * first ∧ 1 ≤ first ∧ first + n ≤ 192 ∧ s.fw.download = true ∧
    (∀ e ∈ s.efl.words, e.2.written = true → e.1 < slotBase s.fw.inactive / 32 + 2048 * first ∨ slotBase s.fw.inactive / 32 + 2048 * (first + n) ≤ e.1) ∧
    (∀ k < n, leAt c.buf (65536 * k + 65504) 4 = first + k ∧ leAt c.buf (65536 * k + 65532) 4 = crc32c ((c.buf.drop (65536 * k)).take 65532)) := by
  refine ⟨{ id := ⟨0, 0, 5⟩, cdw10 := 16383, cdw11 := 16384 * 191, buf := blk 191 }, 191, 1, dlState, rfl, rfl, rfl, rfl, rfl, by omega, by omega, rfl, by simp [dlState, fwState, live], ?_⟩
  intro k hk
  obtain rfl : k = 0 := by omega
  simpa using blk_good 191 (by omega)
theorem wit_FirmwareIsDownloadedCommittedAndActivated_2 : ∃ (c : Cmd) (n : Nat) (s : State), s.readyFor true c = true ∧ s.fw.trial = false ∧ s.fw.activating = none ∧ 4 * (dw10 c + 1) = 65536 * n ∧
    dw11 c = 0 ∧ n ≤ 192 ∧ (∀ k < n, leAt c.buf (65536 * k + 65504) 4 = k ∧ leAt c.buf (65536 * k + 65532) 4 = crc32c ((c.buf.drop (65536 * k)).take 65532)) := by
  refine ⟨{ id := ⟨0, 0, 5⟩, cdw10 := 16383, cdw11 := 0, buf := blk 0 }, 1, fwState, rfl, rfl, rfl, rfl, rfl, by omega, ?_⟩
  intro k hk
  obtain rfl : k = 0 := by omega
  simpa using blk_good 0 (by omega)
theorem wit_StepKeepsPartAndTakesOneCommand : ∃ s t : State, step s = .next t := ⟨{ live with pending := [.busMasterClear] }, _, rfl⟩
theorem wit_StepKeepsStateSound : ∃ s t : State, s.sound = true ∧ step s = .next t := ⟨{ live with pending := [.busMasterClear] }, _, by decide +kernel, rfl⟩
theorem wit_ClearEraseFlagClearsOnlyABlankSectorsFlag_1 : ∃ (o : FlashOp) (s : State), s.efl.busy = some o ∧ o.op = 5 ∧ s.efl.words.wf fword0 = true ∧
    (∀ w, w / 2048 = flSector o.addr → (s.fword w).written = false ∧ (s.fword w).torn = false) :=
  ⟨⟨5, 0x10000, 0, 0⟩, { live with efl := { busy := some ⟨5, 0x10000, 0, 0⟩, eflags := [1, 2] } }, rfl, rfl, rfl, fun _ _ => ⟨rfl, rfl⟩⟩

theorem bareBody_len : bareBody.length = 508 := by decide +kernel
theorem bare_ok : descOk bareDesc = true := by
  have len : bareDesc.length = 512 := by rw [bareDesc, List.length_append, bareBody_len, toLe_length]
  have tk : bareDesc.take 508 = bareBody := by rw [bareDesc, List.take_append_of_le_length (by rw [bareBody_len]), List.take_of_length_le (by rw [bareBody_len])]
  have hi : leAt bareDesc 508 4 = crc32c bareBody := by
    rw [bareDesc, leAt_toLe 4 _ 508 _ bareBody_len]; exact Nat.mod_eq_of_lt (crc32c_lt _)
  have lo : ∀ o n, o + n ≤ 508 → leAt bareDesc o n = leAt bareBody o n := fun o n h => leAt_append_left _ _ _ _ (by rw [bareBody_len]; exact h)
  have b : leAt bareBody 0 4 = 0x4D434453 ∧ leAt bareBody 4 2 = 1 ∧ leAt bareBody 6 2 = 512 ∧ leAt bareBody 52 1 = 4 ∧ leAt bareBody 62 2 = 16384 ∧ leAt bareBody 64 2 = 2048 ∧
    leAt bareBody 50 2 = 64 ∧ leAt bareBody 66 2 = 256 ∧ leAt bareBody 53 1 = 3 ∧ leAt bareBody 58 2 = 3072 ∧ leAt bareBody 60 2 = 1024 ∧ leAt bareBody 84 4 = 0x04000000 ∧
    leAt bareBody 54 2 = 1024 ∧ leAt bareBody 68 4 = 3000 ∧ leAt bareBody 72 4 = 100000 := by decide +kernel
  obtain ⟨b0, b1, b2, b3, b4, b5, b6, b7, b8, b9, b10, b11, b12, b13, b14⟩ := b
  simp only [descOk, len, tk, hi, lo 0 4 (by omega), lo 4 2 (by omega), lo 6 2 (by omega), lo 52 1 (by omega), lo 62 2 (by omega), lo 64 2 (by omega), lo 50 2 (by omega), lo 66 2 (by omega), lo 53 1 (by omega),
    lo 58 2 (by omega), lo 60 2 (by omega), lo 84 4 (by omega), lo 54 2 (by omega), lo 68 4 (by omega), lo 72 4 (by omega), b0, b1, b2, b3, b4, b5, b6, b7, b8, b9, b10, b11, b12, b13, b14]
  decide
theorem wit_AdmissionGoesStepByStep_8 : ∃ (n : Nat) (d : List Byte) (s : State), n < s.part.slots ∧ (s.slot n).waits (fun p => p = .identify) = true ∧ descOk d = true ∧ (s.slot n).reauth = false ∧
    s.gbk.polDeny.contains (leAt d 24 16) = false ∧ leAt d 92 1 = 0 ∧ s.gbk.polClass = 3 :=
  ⟨3, bareDesc, { live with gbk := { live.gbk with polClass := 3 }, slots := [(3, { st := .admitting, pwren := true, phase := 5, out := [(0, { op := 1, m := { tag := 0 }, why := .identify, tSlow := 0 })] })] },
    by decide, by decide, bare_ok, by decide, by rfl, by decide +kernel, rfl⟩
theorem wit_FlashSequenceAdvancesStepByStep_13 : ∃ (i : Issuer) (off : Nat) (v : Word) (x : Instr) (s : State), (off, x) ∈ [(0x00, Instr.flKey i v), (0x04, .flCmd i v), (0x08, .flSequenceStep i 0x08 v), (0x2C, .program i v),
    (0x08, .eraseSector i v), (0x08, .eraseBank i v), (0x08, .readMarkers i v), (0x08, .clearEraseFlag i v)] ∧ s.eflReaches i off = false ∧ (∀ p, i = .path p → s.reach p (dwEFL + off) ≠ .denied) :=
  ⟨.core 1, 4, 1#32, .flCmd (.core 1) 1#32, {}, by simp, by decide, by intro p h; cases h⟩
theorem discNqn_head : ∃ k, discNqn = 110 + 256 * k := by
  refine ⟨discNqn / 256, ?_⟩
  have h : discNqn % 256 = 110 := by decide +kernel
  omega
theorem wit_QueueAndFabricsCommandsAnswer_34 : ∃ (r : ConnectReq) (t : Nat) (s : State), s.pwr.phase = .run ∧ s.host.conns.any (fun x => x.id = r.conn ∧ x.ctrl.isNone) = true ∧ s.subsystem r.subNqn = some (some t) ∧
    s.connectHeld (some t) r.hostNqn = false ∧ s.listed t r.hostNqn = true ∧ 1 ≤ r.depth ∧ r.depth ≤ 4096 ∧ s.contextFree t = true ∧ r.qid ≠ 0 ∧ (s.ctrl r.cntlid).exist = true ∧
    (s.ctrl r.cntlid).hostNqn = r.hostNqn ∧ (s.ctrl r.cntlid).kind = .fabric ∧ (s.ctrl r.cntlid).tenant = t ∧ (s.ctrl r.cntlid).rdy = true ∧ (s.ctrl r.cntlid).resetting = false ∧ (∀ q ∈ (s.ctrl r.cntlid).sqs, q.1 ≠ r.qid) := by
  refine ⟨{ conn := 5, port := 0, entry := 0, hostNqn := 77, subNqn := 9, qid := 1, depth := 64, cntlid := 256, rdma := false }, 1, joinState, rfl, by decide +kernel, ?_, by decide +kernel, by decide +kernel, by decide, by decide,
    by decide +kernel, by decide, by decide +kernel, by decide +kernel, by decide +kernel, by decide +kernel, by decide +kernel, by decide +kernel, by decide +kernel⟩
  obtain ⟨k, hk⟩ := discNqn_head
  obtain ⟨j, hj⟩ := mgrNqn_head
  show joinState.subsystem 9 = _
  have h1 : ¬ (9 : Nat) = discNqn := by omega
  have h2 : ¬ (9 : Nat) = mgrNqn := by omega
  have h3 : joinState.pwr.mode = 0 := rfl
  have h4 : ((joinState.ten.tbl.find? (fun e => e.2.occupied && e.2.nqn = 9 && e.2.deleting.isNone)).map (fun e => some e.1)) = some (some 1) := by decide +kernel
  unfold State.subsystem
  rw [if_neg h1, if_neg h2, if_neg (by rw [h3]; decide)]
  exact h4

end Sys2Proof.Tests
end

namespace Sys2Proof.Machine

/-! ## Rules for `Keeps` -/

/-- Composition, the later operation first. -/
theorem Keeps.comp {s t u : State} (k : Keeps t u) (h : Keeps s t) : Keeps s u := h.trans k
theorem Keeps.ite {s t u : State} {c : Prop} [Decidable c] (h : Keeps s t) (k : Keeps s u) : Keeps s (if c then t else u) := by
  split
  · exact h
  · exact k
theorem Keeps.iteSnd {α : Type} {s : State} {p q : α × State} {c : Prop} [Decidable c] (h : Keeps s p.2) (k : Keeps s q.2) :
    Keeps s (if c then p else q).2 := by
  split
  · exact h
  · exact k
/-- The state of a pair that an operation answers. -/
theorem Keeps.ofSnd {α : Type} {s t : State} {p : α × State} {a : α} (e : p = (a, t)) (h : Keeps s p.2) : Keeps s t := by
  subst e
  exact h
/-- The state of a triple that an operation answers. -/
theorem Keeps.ofSndSnd {α β : Type} {s t : State} {p : α × β × State} {a : α} {b : β} (e : p = (a, b, t)) (h : Keeps s p.2.2) : Keeps s t := by
  subst e
  exact h
/-- A fold over a pair whose state each step keeps. -/
theorem Keeps.foldSnd {α β : Type} {s : State} {f : β × State → α → β × State} {l : List α} {b : β} (h : ∀ x a, Keeps x.2 (f x a).2) :
    Keeps s (l.foldl f (b, s)).2 := by
  have key (x : β × State) : Keeps x.2 (l.foldl f x).2 := by
    induction l generalizing x with
    | nil => exact .refl _
    | cons a l ih => exact (h x a).trans (ih _)
  exact key (b, s)
theorem Keeps.foldFst {α β : Type} {s : State} {f : State × β → α → State × β} {l : List α} {b : β} (h : ∀ x a, Keeps x.1 (f x a).1) :
    Keeps s (l.foldl f (s, b)).1 := by
  have key (x : State × β) : Keeps x.1 (l.foldl f x).1 := by
    induction l generalizing x with
    | nil => exact .refl _
    | cons a l ih => exact (h x a).trans (ih _)
  exact key (s, b)
/-- An update that leaves alone the part, the queue and every component a sound state speaks of. -/
theorem Keeps.upd {s : State} {free dw pwr stage slots seqs shelf ends media io ten host srch ddr efl fw gbk dma lt}
    (h : ((dw.regs, dw.cnt, dw.w1c, dw.inForce, dw.shadow, dw.latch), (stage.window, pwr.kept), (slots, seqs, ends, media.pools, media.bands),
        (io.ctrls, ten.tbl, ten.stored, host.ports), (srch.tcam, srch.copies, srch.abanks, efl.words), (gbk.queue, gbk.tracked, dma.chans, lt.lanes))
      = ((s.dw.regs, s.dw.cnt, s.dw.w1c, s.dw.inForce, s.dw.shadow, s.dw.latch), (s.stage.window, s.pwr.kept), (s.slots, s.seqs, s.ends, s.media.pools, s.media.bands),
        (s.io.ctrls, s.ten.tbl, s.ten.stored, s.host.ports), (s.srch.tcam, s.srch.copies, s.srch.abanks, s.efl.words), (s.gbk.queue, s.gbk.tracked, s.dma.chans, s.lt.lanes))) :
    Keeps s (State.mk s.part s.pending free dw pwr stage slots seqs shelf ends media io ten host srch ddr efl fw gbk dma lt) := by
  simp only [Prod.mk.injEq] at h
  refine .of_eq rfl rfl ?_
  simp only [State.sound, Dw.sound, Media.sound, Ten.sound, Srch.sound, Gbk.sound, h]

/-- An update that leaves the part and the queue alone and keeps a sound state sound. -/
theorem Keeps.updSound {s : State} {free dw pwr stage slots seqs shelf ends media io ten host srch ddr efl fw gbk dma lt}
    (h : s.sound = true → (State.mk s.part s.pending free dw pwr stage slots seqs shelf ends media io ten host srch ddr efl fw gbk dma lt).sound = true) :
    Keeps s (State.mk s.part s.pending free dw pwr stage slots seqs shelf ends media io ten host srch ddr efl fw gbk dma lt) :=
  ⟨rfl, rfl, h⟩
/-- Slots whose list stays canonical. -/
theorem Keeps.slots {s : State} {l : Cells Slot} (h : s.slots.wf slot0 = true → l.wf slot0 = true) : Keeps s { s with slots := l } :=
  ⟨rfl, rfl, fun hs => by simp_all [State.sound]⟩
theorem Keeps.bands {s : State} {l : Cells Band} (h : s.media.bands.wf band0 = true → l.wf band0 = true) :
    Keeps s { s with media.bands := l } :=
  ⟨rfl, rfl, fun hs => by simp_all [State.sound, Media.sound]⟩
theorem Keeps.words {s : State} {l : Cells FWord} (h : s.efl.words.wf fword0 = true → l.wf fword0 = true) : Keeps s { s with efl.words := l } :=
  ⟨rfl, rfl, fun hs => by simp_all [State.sound]⟩

/-- A queue of records within its bound (R466). -/
theorem Keeps.queue {s t : State} {q : List Rec} (h : Keeps s t) (hq : s.sound = true → q.length ≤ 1024) : Keeps s { t with gbk.queue := q } :=
  ⟨h.part, h.pending, fun hs => by have := h.sound hs; simp_all [State.sound, Gbk.sound]⟩

/-! ## Answers -/

/-- The outcome is a next state that keeps, or the operands are not `valid` and it is a fault. -/
def Answers (valid : Prop) (s : State) (o : Out) : Prop :=
  (∃ t, o = .next t ∧ Keeps s t) ∨ (¬ valid ∧ ∃ r, o = .fault r)

section
variable {valid : Prop} {s t : State} {o p : Out}

theorem Answers.next (h : Keeps s t) : Answers valid s (.next t) := .inl ⟨t, rfl, h⟩
/-- An outcome reached from a state that already follows from `s`. -/
theorem Answers.from (h : Keeps s t) (k : Answers valid t o) : Answers valid s o :=
  k.imp (fun ⟨u, e, hu⟩ => ⟨u, e, h.trans hu⟩) id
theorem Answers.ite {c : Prop} [Decidable c] (h : Answers valid s o) (k : Answers valid s p) : Answers valid s (if c then o else p) := by
  split
  · exact h
  · exact k
/-- As `Answers.ite`, where the branches need their condition. -/
theorem Answers.dite {c : Prop} [Decidable c] (h : c → Answers valid s o) (k : ¬c → Answers valid s p) : Answers valid s (if c then o else p) := by
  split
  next hc => exact h hc
  next hc => exact k hc
/-- An operand that no part of the series has faults (R8). -/
theorem Answers.guard {n m : Nat} {r : Fault} (hn : valid → n < m) (h : Answers valid s o) :
    Answers valid s (if n ≥ m then .fault r else o) := by
  split
  · exact .inr ⟨fun x => absurd (hn x) (by omega), r, rfl⟩
  · exact h
theorem Answers.onSlot {n : Nat} {f : State → State} (hn : valid → n < 64) (h : ∀ t, Keeps t (f t)) : Answers valid s (onSlot s n f) := by
  unfold Machine.onSlot
  exact .guard hn (.ite (.next (.refl s)) (.next (h s)))
theorem Answers.winWrite {p : Path} {off : Nat} {f : State → State} (h : ∀ t, Keeps t (f t)) : Answers valid s (winWrite p off s f) := by
  rcases winWrite_cases p off s f with ⟨-, e⟩ | ⟨-, e⟩ | ⟨-, e⟩ <;> rw [e]
  · exact .next (h s)
  · exact .next (.log ..)
  · exact .next (.refl s)
theorem Answers.adminOf {present mgr : Bool} {c : Cmd} {f : State → State} (h : ∀ t, Keeps t (f t)) :
    Answers valid s (adminOf present mgr c s f) := by
  obtain ⟨t, e⟩ := adminOf_next present mgr c s f
  exact .inl ⟨t, e, KeepsOut.adminOf h t e⟩
theorem Answers.adminCmd {mgr : Bool} {c : Cmd} {f : State → State} (h : ∀ t, Keeps t (f t)) : Answers valid s (adminCmd mgr c s f) :=
  .adminOf h

end
/-! ## What the operations of `Ops` keep -/

theorem Keeps.sendFrames (s : State) (n op : Nat) (m : CartCmd) (why : Purpose) (fr : List (Nat × BitVec 36864)) :
    Keeps s (s.send n op m why fr) := by
  unfold State.send
  exact .modSlot ..

theorem Keeps.retireTagKept (s : State) (n t : Nat) (keep : Bool) : Keeps s (s.retireTag n t keep) := by
  unfold State.retireTag
  exact .modSlot ..

/-! ## What the operations of `Sequencer` keep -/

theorem Answers.seqCmd {valid : Prop} (n op : Nat) (m : CartCmd) (s : State) (f : Seq → Seq) (hn : valid → n < 64) :
    Answers valid s (seqCmd n op m s f) := by
  unfold Machine.seqCmd
  exact .onSlot hn fun _ => .ite (.refl _) (.modSeq ..)

theorem Answers.seqUnknown {valid : Prop} (n op : Nat) (m : CartCmd) (s : State) (hn : valid → n < 64) : Answers valid s (seqUnknown n op m s) := by
  unfold Machine.seqUnknown
  exact .seqCmd (hn := hn) ..

theorem Answers.execCartIdentify {valid : Prop} (n : Nat) (m : CartCmd) (s : State) (hn : valid → n < 64) :
    Answers valid s (execCartIdentify n m s) := by
  unfold Machine.execCartIdentify
  exact .seqCmd (hn := hn) ..

theorem Answers.execGetCert {valid : Prop} (n : Nat) (m : CartCmd) (s : State) (hn : valid → n < 64) : Answers valid s (execGetCert n m s) := by
  unfold Machine.execGetCert
  exact .seqCmd (hn := hn) ..

theorem Answers.execChallenge {valid : Prop} (n : Nat) (m : CartCmd) (nonce unitId : Nat) (s : State) (hn : valid → n < 64) :
    Answers valid s (execChallenge n m nonce unitId s) :=
  .from (.took s) (.seqCmd (hn := hn) ..)

theorem Answers.execSync {valid : Prop} (n : Nat) (m : CartCmd) (s : State) (hn : valid → n < 64) : Answers valid s (execSync n m s) := by
  unfold Machine.execSync
  exact .seqCmd (hn := hn) ..

theorem Answers.execCartRead {valid : Prop} (n : Nat) (r : ReadRun) (s : State) (hn : valid → n < 64) : Answers valid s (execCartRead n r s) :=
  .from (.upd (by rfl)) (.seqCmd (hn := hn) ..)

theorem Answers.execCartProgram {valid : Prop} (n : Nat) (m : CartCmd) (blank : Bool) (s : State) (hn : valid → n < 64) :
    Answers valid s (execCartProgram n m blank s) := by
  unfold Machine.execCartProgram
  exact .seqCmd (hn := hn) ..

theorem Answers.execErase {valid : Prop} (n : Nat) (m : CartCmd) (s : State) (hn : valid → n < 64) : Answers valid s (execErase n m s) := by
  unfold Machine.execErase
  exact .seqCmd (hn := hn) ..

theorem Answers.execBufferRead {valid : Prop} (n : Nat) (m : CartCmd) (s : State) (hn : valid → n < 64) : Answers valid s (execBufferRead n m s) := by
  unfold Machine.execBufferRead
  exact .seqCmd (hn := hn) ..

theorem Answers.execBufferRelease {valid : Prop} (n : Nat) (m : CartCmd) (s : State) (hn : valid → n < 64) :
    Answers valid s (execBufferRelease n m s) := by
  unfold Machine.execBufferRelease
  exact .seqCmd (hn := hn) ..

theorem Answers.execWearRead {valid : Prop} (n : Nat) (m : CartCmd) (s : State) (hn : valid → n < 64) : Answers valid s (execWearRead n m s) := by
  unfold Machine.execWearRead
  exact .seqCmd (hn := hn) ..

theorem Answers.execLifeRead {valid : Prop} (n : Nat) (m : CartCmd) (s : State) (hn : valid → n < 64) : Answers valid s (execLifeRead n m s) := by
  unfold Machine.execLifeRead
  exact .seqCmd (hn := hn) ..

theorem Answers.execRetireBlock {valid : Prop} (n : Nat) (m : CartCmd) (s : State) (hn : valid → n < 64) :
    Answers valid s (execRetireBlock n m s) := by
  unfold Machine.execRetireBlock
  exact .seqCmd (hn := hn) ..

theorem Answers.execFwDownload {valid : Prop} (n : Nat) (m : CartCmd) (data : List Byte) (s : State) (hn : valid → n < 64) :
    Answers valid s (execFwDownload n m data s) := by
  unfold Machine.execFwDownload
  exact .seqCmd (hn := hn) ..

theorem Answers.execGetHealth {valid : Prop} (n : Nat) (m : CartCmd) (s : State) (hn : valid → n < 64) : Answers valid s (execGetHealth n m s) :=
  .from (.upd (by rfl)) (.seqCmd (hn := hn) ..)

theorem Answers.execCartShutdown {valid : Prop} (n : Nat) (m : CartCmd) (s : State) (hn : valid → n < 64) :
    Answers valid s (execCartShutdown n m s) := by
  unfold Machine.execCartShutdown
  exact .seqCmd (hn := hn) ..

theorem Answers.execDieProgramDone {valid : Prop} (n tag : Nat) (verified dieAlive : Bool) (s : State) (hn : valid → n < 64) :
    Answers valid s (execDieProgramDone n tag verified dieAlive s) := by
  unfold Machine.execDieProgramDone
  refine .onSlot hn (fun _ => ?_)
  dsimp only
  split
  · exact .refl _
  · exact .ite (.refl _) (.ite (.modSeq ..) (.ite (.modSeq ..) (.ite (.comp (.modSeq ..) <| .upd (by rfl)) (.modSeq ..))))

theorem Answers.execDieEraseDone {valid : Prop} (n tag : Nat) (res : DieEnd) (s : State) (hn : valid → n < 64) :
    Answers valid s (execDieEraseDone n tag res s) := by
  unfold Machine.execDieEraseDone
  exact .onSlot hn (fun _ => .modSeq ..)

/-! ## What the operations of `Stage` keep -/

theorem Keeps.commit (s : State) : Keeps s s.commit := by
  unfold State.commit Stage.commit
  split
  · exact .upd (by rfl)
  · split
    · exact .upd (by rfl)
    · exact .refl _

theorem Keeps.stageFor (s : State) (id : CmdId) (fields : List (Nat × Nat)) (kind : StageKind) : Keeps s (s.stageFor id fields kind) := by
  unfold State.stageFor
  exact .comp (.upd (by rfl)) <| .comp (.commit ..) <| .each (fun _ _ => .setSh ..)

theorem Keeps.discardShadow (s : State) (l : List Nat) :
    Keeps s { s with dw.shadow := l.foldl (fun m k => m.put stReset k (s.sh k)) s.dw.inForce } := by
  have key (l : List Nat) (m : Cells Nat) (hm : m.wf stReset = true) : (l.foldl (fun m k => m.put stReset k (s.sh k)) m).wf stReset = true := by
    induction l generalizing m with
    | nil => exact hm
    | cons k l ih => exact ih _ (Cells.wf_put _ _ _ hm)
  exact ⟨rfl, rfl, fun h => by simp_all [State.sound, Dw.sound]⟩

theorem Keeps.discard (s : State) : Keeps s s.discard := by
  unfold State.discard
  exact .comp (.ite (.refl _) (.ite (.upd (by rfl)) (.upd (by rfl)))) <| .discardShadow ..

theorem Answers.execShadowWrite {valid : Prop} (p : Path) (off : Nat) (v : Word) (s : State) : Answers valid s (execShadowWrite p off v s) := by
  unfold Machine.execShadowWrite
  exact .winWrite (fun _ => .ite (.setSh ..) (.refl _))

theorem Answers.execCommit {valid : Prop} (p : Path) (s : State) : Answers valid s (execCommit p s) := by
  unfold Machine.execCommit
  exact .winWrite (fun _ => .commit ..)

theorem Answers.execDiscard {valid : Prop} (p : Path) (s : State) : Answers valid s (execDiscard p s) := by
  unfold Machine.execDiscard
  exact .winWrite (fun _ => .discard ..)

theorem Answers.execCheckWindowOpen {valid : Prop} (s : State) : Answers valid s (execCheckWindowOpen s) := by
  unfold Machine.execCheckWindowOpen
  split
  · exact .next (.refl _)
  · exact .next ⟨rfl, rfl, fun h => by simp_all [State.sound, Dw.sound]⟩

/-! ## What the operations of `Geometry` keep -/

theorem Keeps.choose {α : Type} (s : State) (l : List α) : Keeps s (s.choose l).2 := by
  unfold State.choose
  split
  · exact .refl _
  · exact .refl _
  · exact .took _

theorem Keeps.modNs (s : State) (nsx : Nat) (f : Ns → Ns) : Keeps s (s.modNs nsx f) := by
  unfold State.modNs
  exact .upd (by rfl)

theorem Keeps.modSeg (s : State) (nsx k : Nat) (f : Seg → Seg) : Keeps s (s.modSeg nsx k f) := by
  unfold State.modSeg
  exact .modNs ..

theorem Keeps.poolCount (s : State) (p off k : Nat) : Keeps s (s.poolCount p off k) := by
  unfold State.poolCount
  exact .modPool ..

theorem Keeps.modBlock (s : State) (p : Place) (f : BlockEnt → BlockEnt) : Keeps s (s.modBlock p f) := by
  unfold State.modBlock
  exact .upd (by rfl)

theorem Keeps.pickDie (s : State) (n : Nat) : Keeps s (s.pickDie n).2 := by
  unfold State.pickDie
  exact .choose ..

theorem Keeps.pickDirty (s : State) (n d : Nat) : Keeps s (s.pickDirty n d).2 := by
  unfold State.pickDirty
  dsimp only
  split
  · exact .refl _
  · exact .choose ..

theorem Keeps.eraseFor (s : State) (pl : Place) (mode : Nat) (use : BlockSt) : Keeps s (s.eraseFor pl mode use) := by
  unfold State.eraseFor
  exact .comp (.ite (.refl _) (.send ..)) <| .comp (.ite (.modSlot ..) (.refl _)) <| .modBlock ..

theorem Keeps.takeOn (s : State) (n d mode : Nat) (use : BlockSt) : Keeps s (s.takeOn n d mode use).2 := by
  unfold State.takeOn
  dsimp only
  split
  · dsimp only
    exact .comp (.modBlock ..) <| .choose ..
  · split
    next t e =>
      dsimp only
      exact .comp (.eraseFor ..) <| .ofSnd e <| .comp (.pickDirty ..) <| .choose ..
    next t1 e1 =>
      dsimp only
      exact .ofSnd e1 <| .comp (.pickDirty ..) <| .choose ..

theorem Keeps.takeBlock (s : State) (n mode : Nat) (use : BlockSt) : Keeps s (s.takeBlock n mode use).2 := by
  unfold State.takeBlock
  split
  next t e => exact .comp (.takeOn ..) <| .ofSnd e <| .pickDie ..
  next t1 e1 =>
    dsimp only
    exact .ofSnd e1 <| .pickDie ..

theorem Keeps.pickCarts (s : State) (p : Nat) (l : List Nat) (k : Nat) : Keeps s (s.pickCarts p l k).2 := by
  induction k generalizing s l with
  | zero => exact .refl _
  | succ k ih =>
    unfold State.pickCarts
    dsimp only
    split
    · exact .refl _
    · exact .comp (ih ..) <| .took ..

theorem Keeps.takeEach (s : State) (mode : Nat) (use : BlockSt) (l : List Nat) : Keeps s (s.takeEach mode use l).2 := by
  induction l generalizing s with
  | nil => exact .refl _
  | cons n l ih =>
    unfold State.takeEach
    split
    next t e => exact .comp (ih ..) <| .ofSnd e (.takeBlock ..)
    next t e => exact .comp (ih ..) <| .ofSnd e (.takeBlock ..)

theorem Keeps.takeSeq (s : State) : Keeps s s.takeSeq.2 := by
  unfold State.takeSeq
  dsimp only
  exact .upd (by rfl)

theorem Keeps.freshId (s : State) : Keeps s s.freshId.2 := by
  unfold State.freshId
  dsimp only
  exact .upd (by rfl)

/-! ## What the operations of `Media` keep -/

theorem Keeps.modUnit (s : State) (uid : Nat) (f : PUnit → PUnit) : Keeps s (s.modUnit uid f) := by
  unfold State.modUnit
  exact .upd (by rfl)

theorem Keeps.countRestore (s : State) (u : PUnit) : Keeps s (s.countRestore u) := by
  unfold State.countRestore
  split
  · exact .refl _
  · exact .ite (.refl _) (.ite (.poolCount ..) (.comp (.ite (.refl _) (.comp (.modPool ..) <| .poolCount ..)) <| .comp (.modPool ..) <|
      .poolCount ..))

theorem Keeps.sendUnit (s : State) (u : PUnit) : Keeps s (s.sendUnit u) := by
  unfold State.sendUnit
  exact .comp (.modUnit ..) <| .comp (.send ..) <| .countRestore ..

theorem Keeps.pump (s : State) : Keeps s s.pump := by
  unfold State.pump
  refine .each (fun _ _ => ?_)
  split
  · exact .ite (.sendUnit ..) (.refl _)
  · exact .refl _

theorem Keeps.addUnit (s : State) (kind : UnitKind) (pl : Place) (pwl mode : Nat) (cws : List (Nat × BitVec 32896)) :
    Keeps s (s.addUnit kind pl pwl mode cws).2 := by
  unfold State.addUnit
  exact .comp (.upd (by rfl)) <| .freshId ..

theorem Keeps.setRing (s : State) (n : Nat) (r : JRing) : Keeps s (s.setRing n r) := by
  unfold State.setRing
  exact .upd (by rfl)

theorem Keeps.modJ (s : State) (jid : Nat) (f : JRec → JRec) : Keeps s (s.modJ jid f) := by
  unfold State.modJ
  exact .upd (by rfl)

theorem Keeps.issueJournal (s : State) (n : Nat) : Keeps s (s.issueJournal n) := by
  unfold State.issueJournal
  dsimp only
  split
  · exact .refl _
  · refine .ite (.refl _) ?_
    refine .comp (.ite (.setRing ..) (.comp (.setRing ..) <| .modBlock ..)) ?_
    split
    · exact .comp (.poolCount ..) <| .addUnit ..
    · exact .addUnit ..

theorem Keeps.packJournal (s : State) (n jid fuel k : Nat) : Keeps s (s.packJournal n jid fuel k) := by
  induction fuel generalizing s k with
  | zero => exact .refl _
  | succ fuel ih =>
    cases k with
    | zero => exact .refl _
    | succ k =>
      unfold State.packJournal
      exact .comp (ih ..) <| .comp (.ite (.issueJournal ..) (.refl _)) <| .comp (.modJ ..) <| .setRing ..

theorem Keeps.newJ (s : State) (b wl pq mask host : Nat) (parity : List (BitVec 32896)) (subst : Bool) :
    Keeps s (s.newJ b wl pq mask host parity subst).2 := by
  unfold State.newJ
  exact .comp (.freshId ..) <| .takeSeq ..

theorem Keeps.writeJ (s : State) (b wl pq mask host : Nat) (parity : List (BitVec 32896)) (subst : Bool) :
    Keeps s (s.writeJ b wl pq mask host parity subst) := by
  unfold State.writeJ
  dsimp only
  exact .comp (.packJournal ..) <| .comp (.upd (by rfl)) <| .newJ s b wl pq mask host parity subst

theorem Keeps.rewriteJ (s : State) (j : JRec) (host : Nat) (subst : Bool) : Keeps s (s.rewriteJ j host subst) := by
  unfold State.rewriteJ
  split
  · exact .writeJ ..
  · exact .ite (.writeJ ..) (.refl _)

theorem Keeps.ringRoom (s : State) (n : Nat) : Keeps s (s.ringRoom n) := by
  unfold State.ringRoom
  dsimp only
  split
  · exact .comp (.each (fun _ _ => .rewriteJ ..)) <| .comp (.modBlock ..) <| .upd (by rfl)
  · exact .refl _

theorem Keeps.journalRow (s : State) (b wl : Nat) : Keeps s (s.journalRow b wl) := by
  unfold State.journalRow
  exact .comp (.writeJ ..) <| .comp (.ringRoom ..) <| .comp (.writeJ ..) <| .ringRoom ..

theorem Keeps.takeUnit (s : State) (bno : Nat) (l : List (Codeword × BitVec 512)) (m : Bool) (k : Nat) : Keeps s (s.takeUnit bno l m k) := by
  unfold State.takeUnit
  exact .comp (.ite (.poolCount ..) (.ite (.poolCount ..) (.comp (.ite (.refl _) (.poolCount ..)) <| .poolCount ..))) <|
      .comp (.ite (.modPool ..) (.refl _)) <| .comp (.upd (by rfl)) <| .comp (.modBand ..) <| .addUnit ..

theorem Keeps.finishRow (s : State) (bno wl : Nat) : Keeps s (s.finishRow bno wl) := by
  unfold State.finishRow
  exact .comp (.modBand ..) <| .comp (.poolCount ..) <| .comp (.addUnit ..) <| .addUnit ..

theorem Keeps.takeUnits (s : State) (bno fuel : Nat) (due : Bool) : Keeps s (s.takeUnits bno fuel due) := by
  induction fuel generalizing s due with
  | zero => exact .ite (.journalRow ..) (.refl _)
  | succ fuel ih =>
    unfold State.takeUnits
    split
    · exact .ite (.journalRow ..) (.refl _)
    · exact .ite (.comp (ih ..) <| .comp (.finishRow ..) <| .takeUnit ..) (.comp (ih ..) <| .takeUnit ..)

theorem Keeps.advance (s : State) (bno : Nat) : Keeps s (s.advance bno) := by
  unfold State.advance
  exact .comp (.pump ..) <| .takeUnits ..

theorem Keeps.putAt (s : State) (bno pos : Nat) (cw : Codeword) (slot : BitVec 512) : Keeps s (s.putAt bno pos cw slot) := by
  unfold State.putAt
  exact .modBand ..

theorem Keeps.fillUnit (s : State) (bno : Nat) : Keeps s (s.fillUnit bno) := by
  unfold State.fillUnit
  exact .ite (.refl _) (.comp (.advance ..) <| .each (fun _ _ => .ite (.refl _) (.putAt ..)))

theorem Keeps.append (s : State) (bno : Nat) (cw : Codeword) (slot : BitVec 512) : Keeps s (s.append bno cw slot).2 := by
  unfold State.append
  exact .comp (.advance ..) <| .comp (.putAt ..) <| .ite (.fillUnit ..) (.refl _)

theorem Keeps.putRoot (s : State) (p : Nat) (g : RootGen) (k : Then) : Keeps s (s.putRoot p g k) := by
  unfold State.putRoot
  exact .comp (.pump ..) <| .comp (.upd (by rfl)) <| .comp (.modPool ..) <| .comp (.each (fun _ _ => .each (fun _ _ => .addUnit ..))) <|
      .comp (.each (fun _ _ => .ite (.eraseFor ..) (.refl _))) <| .comp (.each (fun _ _ => .comp (.send ..) <| .modBlock ..)) <|
      .comp (.ite (.refl _) (.modPool ..)) <| .comp (.freshId ..) <| .takeSeq ..

theorem Keeps.writeRoot (s : State) (p : Nat) (k : Then) : Keeps s (s.writeRoot p k) := by
  unfold State.writeRoot
  exact .putRoot ..

theorem Keeps.record (s : State) (p typ lba : Nat) (body : List (Nat × Nat × Nat)) (k : Then) : Keeps s (s.record p typ lba body k) := by
  unfold State.record
  dsimp only
  split
  · exact .comp (.upd (by rfl)) <| .comp (.freshId ..) <| .takeSeq ..
  · exact .comp (.upd (by rfl)) <| .comp (.append ..) <| .comp (.freshId ..) <| .takeSeq ..

theorem Keeps.placeRecs (s : State) (p : Nat) : Keeps s (s.placeRecs p) := by
  unfold State.placeRecs
  split
  · exact .refl _
  · exact .each (fun _ _ => .comp (.upd (by rfl)) <| .append ..)

theorem Keeps.headerRec (s : State) (bno : Nat) : Keeps s (s.headerRec bno) := by
  unfold State.headerRec
  exact .record ..

theorem Keeps.openBand (s : State) (p role n nsx seg : Nat) (withMeta : Bool) (prevA prevB : Option Nat) :
    Keeps s (s.openBand p role n nsx seg withMeta prevA prevB).2 := by
  unfold State.openBand
  dsimp only
  refine .iteSnd (.refl _) ?_
  split
  · exact .iteSnd (.refl _) (.comp (.iteSnd (.modPool ..) (.headerRec ..)) <| .comp (.upd (by rfl)) <| .comp (.modBand ..) <| .comp (.takeSeq ..) <|
      .comp (.takeEach ..) <| .comp (.pickCarts ..) <| .pickCarts ..)
  · exact .refl _

theorem Keeps.needReg (s : State) (p : Nat) : Keeps s (s.needReg p) := by
  unfold State.needReg
  dsimp only
  refine .ite ?_ (.refl _)
  split
  next t e =>
    refine .comp (.writeRoot ..) <| .comp (.placeRecs ..) ?_
    split
    · exact .comp (.fillUnit ..) <| .ofSnd e <| .openBand ..
    · exact .ofSnd e <| .openBand ..
  next t1 e1 => exact .ofSnd e1 <| .openBand ..

theorem Keeps.needLog (s : State) (p : Nat) : Keeps s (s.needLog p).2 := by
  unfold State.needLog
  split
  · exact .refl _
  · dsimp only
    split
    next t e =>
      dsimp only
      exact .comp (.modPool ..) <| .ofSnd e <| .comp (.openBand ..) <| .needReg ..
    next t1 e1 =>
      dsimp only
      exact .ofSnd e1 <| .comp (.openBand ..) <| .needReg ..

theorem Keeps.toLog (s : State) (p : Nat) (cw : Codeword) (slot : BitVec 512) : Keeps s (s.toLog p cw slot).2 := by
  unfold State.toLog
  dsimp only
  split
  next t e => exact .ofSnd e <| .needLog ..
  next t e =>
    refine .trans (.ofSnd e <| .needLog ..) ?_
    dsimp only
    exact .comp (.ite (.comp (.modPool ..) <| .modBand ..) (.refl _)) <| .append ..

theorem Keeps.lostEvent (s : State) (nsid : Nat) : Keeps s (s.lostEvent nsid) := by
  unfold State.lostEvent
  exact .each (fun _ _ => .comp (.aen ..) <| .upd (by rfl))

theorem Keeps.addLost (s : State) (nsx lba cause band : Nat) : Keeps s (s.addLost nsx lba cause band) := by
  unfold State.addLost
  exact .ite (.refl _) (.ite (.comp (.log ..) <| .upd (by rfl)) (.comp (.lostEvent ..) <| .upd (by rfl)))

theorem Keeps.dropLost (s : State) (nsid lo hi : Nat) : Keeps s (s.dropLost nsid lo hi) := by
  unfold State.dropLost
  exact .ite (.refl _) (.upd (by rfl))

theorem Keeps.shaveBlock (s : State) (b : Nat) (pl : Place) : Keeps s (s.shaveBlock b pl) := by
  unfold State.shaveBlock
  exact .ite (.upd (by rfl)) (.ite (.comp (.send ..) <| .comp (.modBlock ..) <| .media' ..) (.ite (.refl _) (.comp (.modBlock ..) <| .freshId ..)))

theorem Keeps.shave (s : State) (b : Nat) : Keeps s (s.shave b) := by
  unfold State.shave
  exact .ite (.refl _) (.comp (.each (fun _ _ => .shaveBlock ..)) <| .comp (.upd (by rfl)) <| .modBand ..)

theorem Keeps.freeBands (s : State) : Keeps s s.freeBands := by
  unfold State.freeBands
  exact .each fun _ _ => .ite (.refl _) (.bands fun h => Cells.wf_put _ _ _ h)

/-! ## What the operations of `Reads` keep -/

theorem Keeps.modReq (s : State) (rid : Nat) (f : CwReq → CwReq) : Keeps s (s.modReq rid f) := by
  unfold State.modReq
  exact .upd (by rfl)

theorem Keeps.dropReq (s : State) (rid : Nat) : Keeps s (s.dropReq rid) := by
  unfold State.dropReq
  exact .upd (by rfl)

theorem Keeps.reserve (s : State) (q : CwReq) {t : State} (h : s.reserve q = some t) : Keeps s t := by
  unfold State.reserve at h
  dsimp only at h
  split at h
  · cases h
    exact .refl _
  · split at h
    · split at h
      · cases h
        exact .comp (.upd (by rfl)) <| .modReq ..
      · cases h
    · split at h
      · cases h
        exact .modReq ..
      · cases h

theorem Keeps.sendReq (s : State) (q : CwReq) : Keeps s (s.sendReq q) := by
  unfold State.sendReq
  split
  · exact .modReq ..
  next t e => exact .comp (.send ..) <| .comp (.ite (.took ..) (.refl _)) <| .comp (.modReq ..) <| .reserve s q e

theorem Keeps.sendWaiting (s : State) : Keeps s s.sendWaiting := by
  unfold State.sendWaiting
  exact .each (fun _ _ => .sendReq ..)

theorem Keeps.modRecon (s : State) (rid : Nat) (f : Recon → Recon) : Keeps s (s.modRecon rid f) := by
  unfold State.modRecon
  exact .upd (by rfl)

theorem Keeps.newReq (s : State) (b wl mp i cap check : Nat) (expect : Option (Nat × Nat)) (w : Want) :
    Keeps s (s.newReq b wl mp i cap check expect w).2 := by
  unfold State.newReq
  exact .comp (.upd (by rfl)) <| .freshId ..

theorem Keeps.askMember (s : State) (b wl m i recon : Nat) : Keeps s (s.askMember b wl m i recon) := by
  unfold State.askMember
  split
  · exact .modReq ..
  · dsimp only
    split
    · exact .comp (.sendReq ..) <| .newReq ..
    · exact .newReq ..

theorem Keeps.startRecon (s : State) (q : CwReq) (cause : Nat) : Keeps s (s.startRecon q cause) := by
  unfold State.startRecon
  exact .comp (.each (fun _ _ => .askMember ..)) <| .comp (.modReq ..) <| .comp (.upd (by rfl)) <| .freshId ..

theorem Keeps.askCw (s : State) (bno wl mp i check : Nat) (expect : Option (Nat × Nat)) (w : Want) :
    Keeps s (s.askCw bno wl mp i check expect w) := by
  unfold State.askCw
  split
  · exact .modReq ..
  · dsimp only
    split
    · exact .newReq ..
    · exact .comp (.ite (.sendReq ..) (.startRecon ..)) <| .newReq ..

theorem Keeps.askAs (s : State) (bno pos i check : Nat) (expect : Option (Nat × Nat)) (w : Want) : Keeps s (s.askAs bno pos i check expect w) := by
  unfold State.askAs
  exact .askCw ..

theorem Keeps.askAt (s : State) (bno wl mp i : Nat) (w : Want) : Keeps s (s.askAt bno wl mp i w) := by
  unfold State.askAt
  exact .askCw ..

theorem Keeps.ask (s : State) (bno pos i nsx lba : Nat) (w : Want) : Keeps s (s.ask bno pos i nsx lba w) := by
  unfold State.ask
  exact .askAs ..

theorem Keeps.askMeta (s : State) (bno pos : Nat) (w : Want) : Keeps s (s.askMeta bno pos w) := by
  unfold State.askMeta
  exact .askAs ..

theorem Keeps.modFlight (s : State) (id : CmdId) (f : Flight → Flight) : Keeps s (s.modFlight id f) := by
  unfold State.modFlight
  exact .upd (by rfl)

theorem Keeps.dropRefs (s : State) (id : CmdId) : Keeps s (s.dropRefs id) := by
  unfold State.dropRefs
  split
  · exact .refl _
  · exact .comp (.modFlight ..) <| .each (fun _ _ => .modBand ..)

theorem Keeps.dropWants (s : State) (id : CmdId) : Keeps s (s.dropWants id) := by
  unfold State.dropWants
  exact .upd (by rfl)

theorem Keeps.finish (s : State) (id : CmdId) (st : Status) (dw0 : Nat) (data : List Byte) : Keeps s (s.finish id st dw0 data) := by
  unfold State.finish
  split
  · exact .refl _
  · exact .comp (.ite (.ite (.post ..) (.upd (by rfl))) (.post ..)) <| .comp (.dropWants ..) <| .dropRefs ..

theorem Keeps.tryRead (s : State) (id : CmdId) : Keeps s (s.tryRead id) := by
  unfold State.tryRead
  split
  · exact .refl _
  · refine .ite (.refl _) ?_
    split
    · exact .refl _
    · exact .ite (.ite (.comp (.modFlight ..) <| .dropWants ..) (.comp (.upd (by rfl)) <| .comp (.modFlight ..) <| .comp (.dropWants ..) <|
        .dropRefs ..)) (.ite (.finish ..) (.ite (.finish ..) (.finish ..)))

theorem Keeps.hostBlock (s : State) (id : CmdId) (lba : Nat) (data : Block) (slot : BitVec 512) (bandNo : Nat) :
    Keeps s (s.hostBlock id lba data slot bandNo) := by
  unfold State.hostBlock
  split
  · exact .refl _
  · split
    · exact .refl _
    · refine .comp (.tryRead ..) ?_
      split
      · exact .comp (.modFlight ..) <| .ite (.log ..) (.refl _)
      · exact .modFlight ..

theorem Keeps.meet (s : State) (id : CmdId) (lba bandNo : Nat) : Keeps s (s.meet id lba bandNo) := by
  unfold State.meet
  split
  · exact .refl _
  · split
    · exact .hostBlock ..
    · exact .refl _

theorem Keeps.modGc (s : State) (src : Nat) (f : Gc → Gc) : Keeps s (s.modGc src f) := by
  unfold State.modGc
  exact .upd (by rfl)

theorem Keeps.gcPut (s : State) (src pos : Nat) (cw : Codeword) (slot : BitVec 512) : Keeps s (s.gcPut src pos cw slot) := by
  unfold State.gcPut
  split
  · exact .refl _
  · dsimp only
    split
    next t e => exact .ofSnd e <| .toLog ..
    next t1 e1 => exact .comp (.modGc ..) <| .comp (.poolCount ..) <| .ofSnd e1 <| .toLog ..

theorem Keeps.give (s : State) (q : CwReq) (cw : Codeword) (info : BitVec 32896) (w : Want) : Keeps s (s.give q cw info w) := by
  unfold State.give
  dsimp only
  split
  · split
    · exact .refl _
    · split
      · exact .refl _
      · exact .ite (.comp (.tryRead ..) <| .modFlight ..) (.ite (.comp (.meet ..) <| .modFlight ..) (.hostBlock ..))
  · split
    · exact .refl _
    · split
      · exact .refl _
      · exact .comp (.meet ..) <| .modFlight ..
  · exact .comp (.ite (.poolCount ..) (.refl _)) <| .comp (.putAt ..) <| .ite (.addLost ..) (.refl _)
  · split
    · exact .refl _
    · exact .comp (.ask ..) <| .modBand ..
  · split
    · exact .refl _
    · exact .gcPut ..
  · split
    · exact .refl _
    · split
      · exact .refl _
      · exact .comp (.ask ..) <| .modGc ..
  · exact .modUnit ..
  · exact .ite (.addLost ..) (.refl _)
  · exact .refl _
  · split
    · exact .refl _
    · exact .comp (.ite (.comp (.packJournal ..) <| .ringRoom ..) (.refl _)) <| .modJ ..

theorem Keeps.rowLost (s : State) (bno wl i : Nat) : Keeps s (s.rowLost bno wl i) := by
  unfold State.rowLost
  exact .ite (.refl _) (.comp (.log ..) <| .comp (.ite (.modSeg ..) (.refl _)) <| .comp (.modPool ..) <| .comp (.upd (by rfl)) <| .modBand ..)

theorem Keeps.giveLost (s : State) (q : CwReq) (cause : Nat) (also : List Nat) : Keeps s (s.giveLost q cause also) := by
  unfold State.giveLost
  refine .comp (.each (fun _ _ => ?_)) <| .comp (.dropReq ..) <| .comp (.each (fun _ _ => .addLost ..)) <|
      .comp (.each (fun _ _ => .comp (.ite (.refl _) (.log ..)) <| .addLost ..)) <| .comp (.ite (.rowLost ..) (.refl _)) <| .media' ..
  split
  · exact .comp (.tryRead ..) <| .modFlight ..
  · exact .comp (.tryRead ..) <| .modFlight ..
  · exact .putAt ..
  · exact .putAt ..
  · split
    · exact .gcPut ..
    · exact .refl _
  · split
    · exact .gcPut ..
    · exact .refl _
  · exact .modUnit ..
  · exact .refl _
  · exact .upd (by rfl)
  · exact .refl _

theorem Keeps.giveAll (s : State) (q : CwReq) (cw : Codeword) (info : BitVec 32896) : Keeps s (s.giveAll q cw info) := by
  unfold State.giveAll
  exact .comp (.each (fun _ _ => .give ..)) <| .dropReq ..

theorem Keeps.dropRecon (s : State) (rid : Nat) : Keeps s (s.dropRecon rid) := by
  unfold State.dropRecon
  exact .upd (by rfl)

theorem Keeps.reconStep (s : State) (rid : Nat) : Keeps s (s.reconStep rid) := by
  unfold State.reconStep
  split
  · exact .refl _
  · dsimp only
    split
    · exact .dropRecon ..
    · split
      · exact .comp (.ite (.comp (.giveAll ..) <| .ite (.media' ..) (.refl _)) (.giveLost ..)) <| .dropRecon ..
      · refine .ite (.refl _) ?_
        refine .ite (.comp (.each (fun _ _ => .askMember ..)) <| .modRecon ..) ?_
        split
        · split
          · exact .comp (.sendReq ..) <| .comp (.modReq ..) <| .comp (.newReq ..) <| .modRecon ..
          · exact .comp (.modReq ..) <| .comp (.newReq ..) <| .modRecon ..
        · exact .comp (.giveLost ..) <| .dropRecon ..

theorem Keeps.giveMembers (s : State) (q : CwReq) (v : Option (BitVec 32896)) : Keeps s (s.giveMembers q v) := by
  unfold State.giveMembers
  refine .each (fun _ _ => ?_)
  refine .comp (.reconStep ..) ?_
  split
  · exact .modRecon ..
  · exact .modRecon ..

theorem Keeps.wantRefresh (s : State) (n bno : Nat) : Keeps s (s.wantRefresh n bno) := by
  unfold State.wantRefresh
  exact .ite (.refl _) (.comp (.ite (.modSeg ..) (.refl _)) <| .comp (.media' ..) <| .modBand ..)

theorem Keeps.countDecoded (s : State) (q : CwReq) (n : Nat) (pl : Place) (corrected : Nat) : Keeps s (s.countDecoded q n pl corrected) := by
  unfold State.countDecoded
  exact .comp (.ite (.log ..) (.refl _)) <| .comp (.ite (.modBlock ..) (.refl _)) <| .comp (.ite (.modBlock ..) (.refl _)) <|
      .comp (.ite (.wantRefresh ..) (.refl _)) <| .comp (.ite (.comp (.modSlot ..) <| .media' ..) (.media' ..)) <| .comp (.bump ..) <| .media' ..

theorem Keeps.toRow (s : State) (q : CwReq) (n : Nat) (pl : Place) : Keeps s (s.toRow q n pl) := by
  unfold State.toRow
  exact .comp (.startRecon ..) <| .comp (.wantRefresh ..) <| .comp (.log ..) <| .ite (.refl _) (.modBlock ..)

theorem Keeps.ladderEnd (s : State) (q : CwReq) (n : Nat) (pl : Place) : Keeps s (s.ladderEnd q n pl) := by
  unfold State.ladderEnd
  exact .comp (.ite (.comp (.giveMembers ..) <| .comp (.dropReq ..) <| .ite (.refl _) (.comp (.log ..) <|
      .modBlock ..)) (.ite (.giveLost ..) (.toRow ..))) <| .comp (.ite (.wantRefresh ..) (.refl _)) <| .ite (.bump ..) (.refl _)

theorem Keeps.climb (s : State) (q : CwReq) (n : Nat) (pl : Place) : Keeps s (s.climb q n pl) := by
  unfold State.climb
  dsimp only
  split
  · exact .ite (.comp (.ite (.comp (.giveMembers ..) <| .dropReq ..) (.giveLost ..)) <|
      .ite (.wantRefresh ..) (.refl _)) (.ite (.toRow ..) (.comp (.sendReq ..) <| .modReq ..))
  · exact .ladderEnd ..

theorem Keeps.arrive (s : State) (n : Nat) (q : CwReq) (a : CwArrival) : Keeps s (s.arrive n q a) := by
  unfold State.arrive
  exact .ite (.comp (.ite (.comp (.giveMembers ..) <| .dropReq ..) (.ladderEnd ..)) <|
      .media' ..) (.comp (.ite (.climb ..) (.comp (.ite (.comp (.giveMembers ..) <| .dropReq ..) (.ite (.giveAll ..) (.ite (.comp (.sendReq ..) <|
      .modReq ..) (.comp (.startRecon ..) <| .comp (.log ..) <| .media' ..)))) <| .countDecoded ..)) <| .ite (.bump ..) (.refl _))

theorem Keeps.useMap (s : State) (id : CmdId) (x : Ns) : Keeps s (s.useMap id x) := by
  unfold State.useMap
  split
  · exact .refl _
  · exact .comp (.modFlight ..) <| .upd (by rfl)

theorem Keeps.readBlock (s : State) (id : CmdId) (x : Ns) (lba : Nat) : Keeps s (s.readBlock id x lba) := by
  unfold State.readBlock
  split
  · exact .hostBlock ..
  · exact .comp (.ite (.askMeta ..) (.refl _)) <| .comp (.ask ..) <| .comp (.modFlight ..) <| .modBand ..

theorem Keeps.issueRead (s : State) (id : CmdId) : Keeps s (s.issueRead id) := by
  unfold State.issueRead
  split
  · exact .refl _
  · split
    · exact .refl _
    · exact .comp (.tryRead ..) <| .comp (.each (fun _ _ => .readBlock ..)) <| .comp (.useMap ..) <| .modFlight ..

/-! ## What the operations of `Health` keep -/

theorem Keeps.moveToLog (s : State) (p : Nat) (l : List (Codeword × BitVec 512)) : Keeps s (s.moveToLog p l) := by
  unfold State.moveToLog
  exact .each (fun _ _ => .ite (.toLog ..) (.refl _))

theorem Keeps.dropFold (s : State) (bno : Nat) : Keeps s (s.dropFold bno) := by
  unfold State.dropFold
  exact .comp (.shave ..) <| .modSeg ..

theorem Keeps.closeEarly (s : State) (bno : Nat) : Keeps s (s.closeEarly bno) := by
  unfold State.closeEarly
  exact .ite (.refl _) (.comp (.ite (.needReg ..) (.refl _)) <| .comp (.ite (.refl _) (.moveToLog ..)) <| .comp (.upd (by rfl)) <|
      .comp (.ite (.modSeg ..) (.refl _)) <| .comp (.modPool ..) <| .comp (.modBand ..) <| .comp (.takeUnits ..) <|
      .comp (.each (fun _ _ => .putAt ..)) <| .comp (.upd (by rfl)) <| .modBand ..)

theorem Keeps.takeAmong (s : State) (n mode : Nat) (use : BlockSt) (ds : List Nat) : Keeps s (s.takeAmong n mode use ds).2 := by
  unfold State.takeAmong
  dsimp only
  split
  next t e => exact .comp (.takeOn ..) <| .ofSnd e <| .choose ..
  next t1 e1 =>
    dsimp only
    exact .ofSnd e1 <| .choose ..

theorem Keeps.takeNear (s : State) (old : Place) (mode : Nat) (use : BlockSt) : Keeps s (s.takeNear old mode use).2 := by
  unfold State.takeNear
  exact .takeAmong ..

theorem Keeps.takeFar (s : State) (bno : Nat) : Keeps s (s.takeFar bno).2 := by
  unfold State.takeFar
  dsimp only
  split
  next t e => exact .comp (.iteSnd (.takeBlock ..) (.takeAmong ..)) <| .ofSnd e <| .pickCarts ..
  next t1 e1 =>
    dsimp only
    exact .ofSnd e1 <| .pickCarts ..

theorem Keeps.splitPlace (s : State) (bno : Nat) (old : Place) (away : Bool) : Keeps s (s.splitPlace bno old away).2 := by
  unfold State.splitPlace
  dsimp only
  split
  next t e =>
    dsimp only
    exact .ofSnd e <| .iteSnd (.takeNear ..) (.refl _)
  next t1 e1 => exact .comp (.takeFar ..) <| .ofSnd e1 <| .iteSnd (.takeNear ..) (.refl _)

theorem Keeps.forget (s : State) (uid : Nat) : Keeps s (s.forget uid) := by
  unfold State.forget
  exact .slots fun h => Cells.wf_every _ _ h

theorem Keeps.replaceUnit (s : State) (uid : Nat) (pl : Place) (pwl : Nat) : Keeps s (s.replaceUnit uid pl pwl) := by
  unfold State.replaceUnit
  exact .comp (.modUnit ..) <| .forget ..

theorem Keeps.splitFull (s : State) (bno wl mp : Nat) : Keeps s (s.splitFull bno wl mp) := by
  unfold State.splitFull
  exact .comp (.ite (.moveToLog ..) (.refl _)) <| .comp (.upd (by rfl)) <| .comp (.modBand ..) <| .comp (.closeEarly ..) <| .comp (.upd (by rfl)) <|
      .each (fun _ _ => .forget ..)

theorem Keeps.splitMember (s : State) (bno wl mp : Nat) (away : Bool) : Keeps s (s.splitMember bno wl mp away) := by
  unfold State.splitMember
  dsimp only
  refine .ite (.splitFull ..) ?_
  refine .ite (.comp (.each (fun _ _ => .replaceUnit ..)) <| .comp (.modBand ..) <| .splitPlace ..) ?_
  split
  · exact .comp (.log ..) <| .comp (.ite (.media' ..) (.refl _)) <| .comp (.each (fun _ _ => .replaceUnit ..)) <| .comp (.modBand ..) <|
      .splitPlace ..
  · exact .comp (.log ..) <| .comp (.ite (.media' ..) (.refl _)) <| .comp (.each (fun _ _ => .replaceUnit ..)) <| .comp (.modBand ..) <|
      .splitPlace ..

theorem Keeps.splitTarget (s : State) (u : PUnit) : Keeps s (s.splitTarget u) := by
  unfold State.splitTarget
  split
  · exact .refl _
  · refine .comp (.each (fun _ _ => .replaceUnit ..)) ?_
    split
    · dsimp only
      exact .comp (.iteSnd (.takeNear ..) (.refl _)) <| .comp (.modBlock ..) <| .log ..
    · exact .comp (.takeFar ..) <| .comp (.iteSnd (.takeNear ..) (.refl _)) <| .comp (.modBlock ..) <| .log ..

theorem Keeps.abandon (s : State) (p : PUnit → Bool) : Keeps s (s.abandon p) := by
  unfold State.abandon
  exact .comp (.each (fun _ _ => .modBlock ..)) <| .comp (.upd (by rfl)) <| .each (fun _ _ => .forget ..)

theorem Keeps.replaceStuck (s : State) : Keeps s s.replaceStuck := by
  unfold State.replaceStuck
  refine .each (fun _ _ => ?_)
  split
  · exact .refl _
  · split
    · exact .refl _
    · exact .ite (.splitMember ..) (.ite (.abandon ..) (.refl _))

theorem Keeps.recompute (s : State) (j : JRec) (sub : Nat) : Keeps s (s.recompute j sub) := by
  unfold State.recompute
  dsimp only
  exact .comp (.each fun _ _ => .askAt ..) <| .comp (.upd (by rfl)) <| .newJ s ..

theorem Keeps.rejournal (s : State) (bno pq sub : Nat) (old : List JRec) : Keeps s (s.rejournal bno pq sub old).2 := by
  unfold State.rejournal
  refine .each (fun _ _ => ?_)
  split
  · exact .comp (.writeJ ..) <| .ringRoom ..
  · refine .ite ?_ (.refl _)
    split
    · exact .recompute ..
    · exact .refl _

theorem Keeps.dropJournal (s : State) (n : Nat) : Keeps s (s.dropJournal n) := by
  unfold State.dropJournal
  exact .upd (by rfl)

theorem Keeps.journalLost (s : State) (n : Nat) (gone : Bool) : Keeps s (s.journalLost n gone) := by
  unfold State.journalLost
  refine .comp (.ite (.refl _) (.comp (.each (fun _ _ => ?_)) <| .log ..)) <| .ite (.dropJournal ..) (.refl _)
  dsimp only
  split
  · exact .comp (.modPool ..) <| .comp (.rejournal ..) <| .modBand ..
  · exact .ite (.refl _) (.comp (.log ..) <| .closeEarly ..)

theorem Keeps.replaceJournal (s : State) (n : Nat) (old : Place) : Keeps s (s.replaceJournal n old) := by
  unfold State.replaceJournal
  dsimp only
  split
  · exact .refl _
  · refine .comp (.ite (.journalLost ..) (.refl _)) ?_
    split
    · refine .comp (.writeRoot ..) ?_
      split
      · refine .comp (.setRing ..) <| .comp (.eraseFor ..) ?_
        split
        · exact .comp (.pickDirty ..) <| .iteSnd (.pickDie ..) (.refl _)
        · dsimp only
          exact .iteSnd (.pickDie ..) (.refl _)
      · refine .comp (.setRing ..) ?_
        split
        · exact .comp (.pickDirty ..) <| .iteSnd (.pickDie ..) (.refl _)
        · dsimp only
          exact .iteSnd (.pickDie ..) (.refl _)
    · split
      · refine .comp (.setRing ..) <| .comp (.eraseFor ..) ?_
        split
        · exact .comp (.pickDirty ..) <| .iteSnd (.pickDie ..) (.refl _)
        · dsimp only
          exact .iteSnd (.pickDie ..) (.refl _)
      · refine .comp (.setRing ..) ?_
        split
        · exact .comp (.pickDirty ..) <| .iteSnd (.pickDie ..) (.refl _)
        · dsimp only
          exact .iteSnd (.pickDie ..) (.refl _)

theorem Keeps.journalFailed (s : State) (host : Nat) (at_ : Place) (uid : Option Nat) : Keeps s (s.journalFailed host at_ uid) := by
  unfold State.journalFailed
  exact .comp (.ite (.refl _) (.each (fun _ _ => .comp (.rewriteJ ..) <| .ringRoom ..))) <| .comp (.upd (by rfl)) <| .comp (.replaceJournal ..) <|
      .ite (.setRing ..) (.refl _)

theorem Keeps.degrade (s : State) (n tag rid : Nat) : Keeps s (s.degrade n tag rid) := by
  unfold State.degrade
  dsimp only
  split
  · exact .comp (.ite (.refl _) (.ite (.startRecon ..) (.toRow ..))) <| .modSlot ..
  · exact .modSlot ..

theorem Keeps.setSlow (s : State) (n cause : Nat) : Keeps s (s.setSlow n cause) := by
  unfold State.setSlow
  exact .ite (.refl _) (.comp (.pump ..) <| .comp (.replaceStuck ..) <| .comp (.journalLost ..) <| .comp (.each (fun _ _ => .degrade ..)) <|
      .comp (.log ..) <| .modSlot ..)

theorem Keeps.tryClearSlow (s : State) (n : Nat) : Keeps s (s.tryClearSlow n) := by
  unfold State.tryClearSlow
  exact .ite (.comp (.pump ..) <| .comp (.log ..) <| .modSlot ..) (.refl _)

theorem Keeps.checkNarrow (s : State) (p : Nat) : Keeps s (s.checkNarrow p) := by
  unfold State.checkNarrow
  dsimp only
  split
  · exact .comp (.ite (.refl _) (.log ..)) <| .modPool ..
  · exact .modPool ..

theorem Keeps.rename (s : State) (n key : Nat) : Keeps s (s.rename n key) := by
  unfold State.rename
  exact ⟨rfl, rfl, fun h => by simp_all [State.sound, Media.sound, Cells.wf_every]⟩

theorem Keeps.endUpdCmd (s : State) (n status : Nat) : Keeps s (s.endUpdCmd n status) := by
  unfold State.endUpdCmd
  split
  · exact .refl _
  · exact .comp (.post ..) <| .comp (.log ..) <| .modSlot ..

theorem Keeps.updateFails (s : State) (n status : Nat) : Keeps s (s.updateFails n status) := by
  unfold State.updateFails
  exact .ite (.comp (.log ..) <| .modSlot ..) (.refl _)

theorem Keeps.failMember (s : State) (n reason : Nat) : Keeps s (s.failMember n reason) := by
  unfold State.failMember
  extract_lets x s₁ reqs key s₂ blocks roots s₃ s₄ lost _ s₅ s₆
  split
  · exact .refl _
  extract_lets bytes s₇ s₈ s₉ s₁₀ g running _ s₁₁ s₁₂ s₁₃ s₁₄ s₁₅ s₁₆
  have h₃ : Keeps s s₃ := .comp (.rename ..) <| .comp (.freshId ..) <| .updateFails ..
  have h₄ : Keeps s₃ s₄ := .each fun _ _ => by
    split
    · exact .upd (by rfl)
    · exact .refl _
  have h₅ : Keeps s₄ s₅ := .upd (by rfl)
  have h₇ : Keeps s₅ s₇ := .comp (.modSlot ..) <| .comp (.powerDown ..) <| .abandon ..
  have h₁₀ : Keeps s₇ s₁₀ := .comp (.writeRoot ..) <| .comp (.modPool ..) <| .slotEvent ..
  have h₁₁ : Keeps s₁₀ s₁₁ := .upd (by rfl)
  have h₁₃ : Keeps s₁₁ s₁₃ := .comp (.log ..) <| .comp (.log ..) <| .ite (.refl _) (.modPool ..)
  have h₁₄ : Keeps s₁₃ s₁₄ := .each fun _ _ => .comp (.log ..) <| .modBand ..
  have h₁₅ : Keeps s₁₄ s₁₅ := .journalLost ..
  have h₁₆ : Keeps s₁₅ s₁₆ := .each fun _ _ => by
    split
    · exact .ite (.comp (.giveMembers ..) <| .dropReq ..) (.startRecon ..)
    · exact .refl _
  refine .comp (.endUpdCmd ..) <| .comp (.pump ..) <| .comp (.checkNarrow ..) <| .comp (.replaceStuck ..) ?_
  exact .comp h₁₆ <| .comp h₁₅ <| .comp h₁₄ <| .comp h₁₃ <| .comp h₁₁ <| .comp h₁₀ <| .comp h₇ <| .comp h₅ <| .comp h₄ h₃

theorem Keeps.dropRootUnits (s : State) (bad : Place → Bool) : Keeps s (s.dropRootUnits bad) := by
  unfold State.dropRootUnits
  refine .each (fun _ _ => ?_)
  split
  · exact .upd (by rfl)
  · exact .refl _

theorem Keeps.startDrain (s : State) (n : Nat) (c : DrainCause) : Keeps s (s.startDrain n c) := by
  unfold State.startDrain
  split
  · exact .refl _
  · exact .comp (.checkNarrow ..) <| .comp (.journalLost ..) <| .comp (.log ..) <| .comp (.writeRoot ..) <| .comp (.modPool ..) <| .modSlot ..

theorem Keeps.lifeCheck (s : State) (n : Nat) : Keeps s (s.lifeCheck n) := by
  unfold State.lifeCheck
  exact .comp (.ite (.comp (.dropRootUnits ..) <| .comp (.log ..) <| .modSlot ..) (.refl _)) <|
      .comp (.ite (.comp (.ite (.startDrain ..) (.modSlot ..)) <| .comp (.log ..) <| .modSlot ..) (.refl _)) <| .ite (.comp (.log ..) <|
      .comp (.slotEvent ..) <| .modSlot ..) (.refl _)

theorem Keeps.leaveLadder (s : State) (n d : Nat) : Keeps s (s.leaveLadder n d) := by
  unfold State.leaveLadder
  refine .each (fun _ _ => ?_)
  split
  · exact .ite (.comp (.giveMembers ..) <| .dropReq ..) (.degrade ..)
  · exact .refl _

theorem Keeps.ringLeaves (s : State) (n d : Nat) : Keeps s (s.ringLeaves n d) := by
  unfold State.ringLeaves
  exact .each (fun _ _ => .journalFailed ..)

theorem Keeps.dieFailed (s : State) (n d cause : Nat) : Keeps s (s.dieFailed n d cause) := by
  unfold State.dieFailed
  refine .ite (.refl _) (.comp (.lifeCheck ..) <| .comp (.replaceStuck ..) <| .comp (.dropRootUnits ..) <| .comp (.ringLeaves ..) <|
      .comp (.each (fun _ _ => .each (fun _ _ => .ite (.splitMember ..) (.refl _)))) <| .comp (.each (fun _ _ => ?_)) <| .comp (.leaveLadder ..) <|
      .comp (.upd (by rfl)) <| .comp (.log ..) <| .modSlot ..)
  split
  · split
    · exact .ite (.refl _) (.ite (.splitMember ..) (.splitTarget ..))
    · exact .refl _
  · exact .refl _

theorem Keeps.noteRetired (s : State) (n d : Nat) : Keeps s (s.noteRetired n d) := by
  unfold State.noteRetired
  exact .comp (.lifeCheck ..) <| .comp (.ite (.dieFailed ..) (.refl _)) <| .modSlot ..

/-! ## What the operations of `Settle` keep -/

theorem Keeps.copyPos (s : State) (dst : Nat) (x : Ns) (pos : Nat) : Keeps s (s.copyPos dst x pos) := by
  unfold State.copyPos
  dsimp only
  refine .ite (.refl _) ?_
  refine .ite (.comp (.modBand ..) <| .putAt ..) ?_
  split
  · refine .comp (.putAt ..) ?_
    split
    · exact .modBand ..
    · exact .refl _
  · refine .comp (.ite (.askMeta ..) (.ask ..)) ?_
    split
    · exact .modBand ..
    · exact .refl _

theorem Keeps.copyRowOf (s : State) (dst : Nat) : Keeps s (s.copyRowOf dst) := by
  unfold State.copyRowOf
  dsimp only
  split
  · exact .refl _
  · exact .each (fun _ _ => .copyPos ..)

theorem Keeps.copyOn (s : State) (dst : Nat) : Keeps s (s.copyOn dst) := by
  unfold State.copyOn
  exact .ite (.refl _) (.comp (.ite (.refl _) (.ite (.modBand ..) (.comp (.copyRowOf ..) <| .modBand ..))) <| .takeUnits ..)

theorem Keeps.dropCopied (s : State) (dst : Nat) : Keeps s (s.dropCopied dst) := by
  unfold State.dropCopied
  exact .comp (.each (fun _ _ => .comp (.dropLost ..) <| .modNs ..)) <| .upd (by rfl)

theorem Keeps.complete (s : State) (id : CmdId) (st : Status) (dw0 : Nat) : Keeps s (s.complete id st dw0) := by
  unfold State.complete
  exact .ite (.finish ..) (.post ..)

theorem Keeps.summaryDone (s : State) (bno : Nat) : Keeps s (s.summaryDone bno) := by
  unfold State.summaryDone
  dsimp only
  refine .ite (.comp (.dropFold ..) <| .modBand ..) ?_
  refine .ite ?_ (.modBand ..)
  split
  · exact .modBand ..
  · refine .ite ?_ (.modBand ..)
    split
    · exact .comp (.shave ..) <| .comp (.dropCopied ..) <| .comp (.modSeg ..) <| .modBand ..
    · exact .comp (.dropCopied ..) <| .comp (.modSeg ..) <| .modBand ..

theorem Keeps.memberDone (s : State) (bno pos : Nat) (pl : Place) (cause : Nat) : Keeps s (s.memberDone bno pos pl cause) := by
  unfold State.memberDone
  exact .comp (.ite (.comp (.upd (by rfl)) <| .modPool ..) (.refl _)) <| .comp (.each (fun _ _ => .shaveBlock ..)) <| .comp (.upd (by rfl)) <|
      .modBand ..

theorem Keeps.releaseSegs (s : State) (nsx seg cnt seq : Nat) : Keeps s (s.releaseSegs nsx seg cnt seq) := by
  unfold State.releaseSegs
  split
  · exact .refl _
  · exact .comp (.dropLost ..) <| .comp (.modNs ..) <| .comp (.upd (by rfl)) <| .comp (.each (fun _ _ => .modSeg ..)) <| .each (fun _ _ => .shave ..)

theorem Keeps.rangeDone (s : State) (id : CmdId) (lo hi : Nat) : Keeps s (s.rangeDone id lo hi) := by
  unfold State.rangeDone
  dsimp only
  split
  · exact .comp (.ite (.finish ..) (.refl _)) <| .comp (.upd (by rfl)) <| .modFlight ..
  · exact .comp (.upd (by rfl)) <| .modFlight ..

theorem Keeps.jobDone (s : State) (x : Ns) : Keeps s (s.jobDone x) := by
  unfold State.jobDone
  exact .ite (.comp (.writeRoot ..) <| .upd (by rfl)) (.comp (.writeRoot ..) <| .modNs ..)

theorem Keeps.releaseDone (s : State) (r : DurRec) (nsx seg cnt : Nat) (id : Option CmdId) : Keeps s (s.releaseDone r nsx seg cnt id) := by
  unfold State.releaseDone
  dsimp only
  split
  · exact .releaseSegs ..
  · split
    · exact .comp (.ite (.rangeDone ..) (.complete ..)) <| .releaseSegs ..
    · exact .comp (.ite (.jobDone ..) (.refl _)) <| .releaseSegs ..

theorem Keeps.takeCopy (s : State) (r : DurRec) (rid : Nat) : Keeps s (s.takeCopy r rid) := by
  unfold State.takeCopy
  split
  · exact .upd (by rfl)
  · exact .upd (by rfl)

theorem Keeps.settleRegs (s : State) (p : Nat) : Keeps s (s.settleRegs p) := by
  unfold State.settleRegs
  dsimp only
  split
  · exact .ite (.comp (.placeRecs ..) <| .needReg ..) (.refl _)
  · exact .comp (.ite (.refl _) (.ite (.comp (.needReg ..) <| .modPool ..) (.comp (.ite (.refl _) (.comp (.writeRoot ..) <|
      .each (fun _ _ => .shave ..))) <| .each (fun _ _ => .record ..)))) <| .ite (.comp (.placeRecs ..) <| .needReg ..) (.refl _)

theorem Keeps.dropPool (s : State) (p : Nat) : Keeps s (s.dropPool p) := by
  unfold State.dropPool
  refine .comp (.slots fun h => Cells.wf_every _ _ h) <| .comp (.each fun _ _ => .modSlot ..) ?_
  exact ⟨rfl, rfl, fun h => by simp_all [State.sound, Media.sound, Cells.wf_filter, Cells.wf_put]⟩

theorem Keeps.runThen (s : State) (r : DurRec) : Keeps s (s.runThen r) := by
  unfold State.runThen
  split
  · exact .refl _
  · exact .complete ..
  · split
    · exact .finish ..
    · exact .refl _
  · exact .modBand ..
  · exact .summaryDone ..
  · exact .memberDone ..
  · exact .releaseDone ..
  · split
    · exact .complete ..
    · exact .refl _
  · exact .comp (.complete ..) <| .dropPool ..
  · exact .takeCopy ..

theorem Keeps.settleRecs (s : State) : Keeps s s.settleRecs := by
  unfold State.settleRecs
  exact .each (fun _ _ => .ite (.comp (.runThen ..) <| .comp (.ite (.modPool ..) (.refl _)) <| .upd (by rfl)) (.refl _))

theorem Keeps.settleRows (s : State) : Keeps s s.settleRows := by
  unfold State.settleRows
  exact .each (fun _ _ => .ite (.upd (by rfl)) (.refl _))

theorem Keeps.closeBand (s : State) (bno : Nat) : Keeps s (s.closeBand bno) := by
  unfold State.closeBand
  exact .comp (.ite (.refl _) (.ite (.each (fun _ _ => .record ..)) (.comp (.each (fun _ _ => .record ..)) <| .record ..))) <| .modBand ..

theorem Keeps.settleBands (s : State) : Keeps s s.settleBands := by
  unfold State.settleBands
  exact .each (fun _ _ => .ite (.refl _) (.ite (.copyOn ..) (.ite (.ite (.refl _) (.closeBand ..)) (.ite (.closeEarly ..) (.ite (.shave ..)
      (.refl _))))))

theorem Keeps.settleGcs (s : State) : Keeps s s.settleGcs := by
  unfold State.settleGcs
  refine .each (fun _ _ => ?_)
  refine .comp (.shave ..) <| .comp (.each (fun _ _ => ?_)) <| .upd (by rfl)
  split
  · exact .ite (.upd (by rfl)) (.refl _)
  · exact .refl _

theorem Keeps.settleRing (s : State) (n : Nat) : Keeps s (s.settleRing n) := by
  unfold State.settleRing
  exact .comp (.ite (.journalLost ..) (.refl _)) <| .each (fun _ _ => .ite (.comp (.modBlock ..) <| .comp (.eraseFor ..) <| .upd (by rfl)) (.refl _))

theorem Keeps.settleOldJournal (s : State) : Keeps s s.settleOldJournal := by
  unfold State.settleOldJournal
  exact .each (fun _ _ => .ite (.shaveBlock ..) (.modBlock ..))

theorem Keeps.settleRings (s : State) : Keeps s s.settleRings := by
  unfold State.settleRings
  exact .comp (.settleOldJournal ..) <| .each (fun _ _ => .settleRing ..)

theorem Keeps.settleGone (s : State) : Keeps s s.settleGone := by
  unfold State.settleGone
  exact .each (fun _ _ => .comp (.log ..) <| .comp (.modSlot ..) <| .upd (by rfl))

theorem Keeps.settleReads (s : State) : Keeps s s.settleReads := by
  unfold State.settleReads
  exact .each (fun _ _ => .issueRead ..)

theorem Keeps.releaseRec (s : State) (x : Ns) (seg cnt : Nat) (id : Option CmdId) : Keeps s (s.releaseRec x seg cnt id) := by
  unfold State.releaseRec
  exact .comp (.record ..) <| .needReg ..

theorem Keeps.cryptoErase (s : State) (x : Ns) : Keeps s (s.cryptoErase x) := by
  unfold State.cryptoErase
  exact .comp (.releaseRec ..) <| .comp (.writeRoot ..) <| .comp (.log ..) <| .comp (.upd (by rfl)) <| .comp (.modNs ..) <| .took ..

theorem Keeps.startJob (s : State) (x : Ns) : Keeps s (s.startJob x) := by
  unfold State.startJob
  refine .ite (.refl _) ?_
  dsimp only
  split
  · exact .comp (.releaseRec ..) <| .modNs ..
  · exact .comp (.releaseRec ..) <| .modNs ..
  · exact .comp (.writeRoot ..) <| .comp (.modNs ..) <| .modNs ..
  · exact .comp (.cryptoErase ..) <| .modNs ..

theorem Keeps.sanitizeStep (s : State) : Keeps s s.sanitizeStep := by
  unfold State.sanitizeStep
  split
  · exact .refl _
  · exact .ite (.refl _) (.ite (.comp (.log ..) <| .upd (by rfl)) (.comp (.ite (.refl _) (.comp (.log ..) <| .upd (by rfl))) <|
      .comp (.freeBands ..) <| .comp (.each (fun _ _ => .eraseFor ..)) <| .each (fun _ _ => .comp (.modPool ..) <| .shave ..)))

theorem Keeps.settleJobs (s : State) : Keeps s s.settleJobs := by
  unfold State.settleJobs
  exact .comp (.sanitizeStep ..) <| .each (fun _ _ => .startJob ..)

theorem Keeps.lapse (s : State) : Keeps s s.lapse := by
  unfold State.lapse
  exact .upd (by rfl)

theorem Keeps.settle (s : State) : Keeps s s.settle := by
  unfold State.settle
  exact .comp (.pump ..) <| .comp (.lapse ..) <| .comp (.each (fun _ _ => .settleRegs ..)) <| .comp (.settleJobs ..) <| .comp (.freeBands ..) <|
      .comp (.replaceStuck ..) <| .comp (.sendWaiting ..) <| .comp (.settleReads ..) <| .comp (.settleGone ..) <| .comp (.settleRings ..) <|
      .comp (.settleBands ..) <| .comp (.settleGcs ..) <| .comp (.settleRecs ..) <| .settleRows ..

/-! ## What the operations of `Slots` keep -/

theorem Keeps.layOut (s : State) (n : Nat) : Keeps s (s.layOut n) := by
  unfold State.layOut
  dsimp only
  refine .comp (.setRing ..) <| .comp (.foldSnd fun _ _ => ?_) <| .each fun _ _ => .eraseFor ..
  split
  next t e => exact .comp (.eraseFor ..) <| .ofSnd e (.pickDirty ..)
  next t e => exact .ofSnd e (.pickDirty ..)

theorem Keeps.wearData (s : State) (n die idx : Nat) (d : List Byte) : Keeps s (s.wearData n die idx d) := by
  unfold State.wearData
  exact .each (fun _ _ => .ite (.refl _) (.modBlock ..))

theorem Keeps.joinPool (s : State) (p n : Nat) : Keeps s (s.joinPool p n) := by
  unfold State.joinPool
  exact .comp (.each (fun _ _ => .send ..)) <| .comp (.checkNarrow ..) <| .comp (.layOut ..) <| .comp (.modPool ..) <| .comp (.modSlot ..) <|
      .upd (by rfl)

theorem Keeps.autoAdd (s : State) (n : Nat) : Keeps s (s.autoAdd n) := by
  unfold State.autoAdd
  dsimp only
  split
  · exact .refl _
  · exact .ite (.comp (.writeRoot ..) <| .comp (.log ..) <| .joinPool ..) (.refl _)

theorem Keeps.sendImage (s : State) (n off : Nat) : Keeps s (s.sendImage n off) := by
  unfold State.sendImage
  exact .ite (.sendFrames ..) (.send ..)

theorem Keeps.startUpdate (s : State) (n : Nat) : Keeps s (s.startUpdate n) := by
  unfold State.startUpdate
  exact .comp (.sendImage ..) <| .modSlot ..

theorem Keeps.failUpdate (s : State) (n status : Nat) : Keeps s (s.failUpdate n status) := by
  unfold State.failUpdate
  exact .ite (.comp (.endUpdCmd ..) <| .updateFails ..) (.refl _)

theorem Keeps.powerOffDone (s : State) (n : Nat) : Keeps s (s.powerOffDone n) := by
  unfold State.powerOffDone
  exact .comp (.ite (.slotEvent ..) (.refl _)) <| .comp (.modSlot ..) <| .powerDown ..

theorem Keeps.shutAndOff (s : State) (n : Nat) : Keeps s (s.shutAndOff n) := by
  unfold State.shutAndOff
  exact .ite (.comp (.send ..) <| .modSlot ..) (.powerOffDone ..)

theorem Keeps.pwrOff (s : State) (n : Nat) : Keeps s (s.pwrOff n) := by
  unfold State.pwrOff
  dsimp only
  split
  · exact .log ..
  · exact .log ..
  · exact .log ..
  · exact .log ..
  · exact .powerOffDone ..
  · exact .powerOffDone ..
  · exact .powerOffDone ..
  · exact .comp (.shutAndOff ..) <| .modSlot ..
  · exact .comp (.shutAndOff ..) <| .failUpdate ..

theorem Keeps.pwrOn (s : State) (n : Nat) : Keeps s (s.pwrOn n) := by
  unfold State.pwrOn
  dsimp only
  split
  · exact .askPower ..
  · exact .askPower ..
  · exact .askPower ..
  · exact .log ..

theorem Keeps.linkLeaves (s : State) (n phase : Nat) : Keeps s (s.linkLeaves n phase) := by
  unfold State.linkLeaves
  exact .comp (.ite (.setSlow ..) (.refl _)) <| .comp (.ite (.slotEvent ..) (.refl _)) <| .modSlot ..

theorem Keeps.identify (s : State) (n : Nat) : Keeps s (s.identify n) := by
  unfold State.identify
  exact .comp (.send ..) <| .modSlot ..

theorem Keeps.linkReset (s : State) (n : Nat) : Keeps s (s.linkReset n) := by
  unfold State.linkReset
  exact .comp (.ite (.comp (.identify ..) <| .modSlot ..) (.ite (.modSlot ..) (.refl _))) <| .comp (.log ..) <| .comp (.modEnd ..) <|
      .comp (.modEnd ..) <| .took ..

theorem Keeps.fastRetrain (s : State) (n cause : Nat) : Keeps s (s.fastRetrain n cause) := by
  unfold State.fastRetrain
  exact .ite (.refl _) (.comp (.log ..) <| .comp (.bump ..) <| .linkLeaves ..)

theorem Keeps.fullRetrain (s : State) (n cause : Nat) : Keeps s (s.fullRetrain n cause) := by
  unfold State.fullRetrain
  exact .comp (.log ..) <| .comp (.bump ..) <| .linkLeaves ..

theorem Keeps.linkIsUp (s : State) (n : Nat) (lp : LinkParams) : Keeps s (s.linkIsUp n lp) := by
  unfold State.linkIsUp
  exact .ite (.comp (.reject ..) <| .comp (.log ..) <| .comp (.log ..) <| .took ..) (.ite (.refl _) (.comp (.identify ..) <|
      .comp (.ite (.slotEvent ..) (.refl _)) <| .comp (.ite (.log ..) (.refl _)) <| .modSlot ..))

theorem Keeps.authFail (s : State) (n reason : Nat) : Keeps s (s.authFail n reason) := by
  unfold State.authFail
  exact .ite (.failMember ..) (.ite (.reject ..) (.ite (.comp (.endUpdCmd ..) <| .comp (.reject ..) <| .updateFails ..) (.refl _)))

theorem Keeps.admitSlot (s : State) (n : Nat) : Keeps s (s.admitSlot n) := by
  unfold State.admitSlot
  exact .ite (.comp (.tryClearSlow ..) <| .comp (.log ..) <| .comp (.slotEvent ..) <| .modSlot ..) (.comp (.autoAdd ..) <| .comp (.log ..) <|
      .comp (.slotEvent ..) <| .modSlot ..)

theorem Keeps.quarantine (s : State) (n : Nat) : Keeps s (s.quarantine n) := by
  unfold State.quarantine
  exact .comp (.ite (.startUpdate ..) (.refl _)) <| .comp (.log ..) <| .comp (.slotEvent ..) <| .modSlot ..

theorem Keeps.sendSync (s : State) (n : Nat) : Keeps s (s.sendSync n) := by
  unfold State.sendSync
  exact .comp (.send ..) <| .modSlot ..

theorem Keeps.compatStep (s : State) (n : Nat) : Keeps s (s.compatStep n) := by
  unfold State.compatStep
  exact .ite (.ite (.comp (.endUpdCmd ..) <| .comp (.ite (.refl _) (.admitSlot ..)) <| .comp (.log ..) <|
      .modSlot ..) (.ite (.sendSync ..) (.failUpdate ..))) (.ite (.ite (.admitSlot ..) (.refl _)) (.ite (.quarantine ..) (.refl _)))

theorem Keeps.syncAfter (s : State) (n : Nat) : Keeps s (s.syncAfter n) := by
  unfold State.syncAfter
  exact .ite (.comp (.sendSync ..) <| .modSlot ..) (.refl _)

theorem Keeps.setLife (s : State) (n : Nat) (l : Life) : Keeps s (s.setLife n l) := by
  unfold State.setLife
  exact .modSlot ..

theorem Keeps.authPass (s : State) (n : Nat) (auth : Bool) : Keeps s (s.authPass n auth) := by
  unfold State.authPass
  exact .comp (.ite (.comp (.ite (.refl _) (.comp (.syncAfter ..) <| .compatStep ..)) <| .ite (.comp (.askPower ..) <|
      .failMember ..) (.modSlot ..)) (.ite (.comp (.pump ..) <| .comp (.syncAfter ..) <| .ite (.compatStep ..) (.refl _)) (.comp (.syncAfter ..) <|
      .compatStep ..))) <| .modSlot ..

theorem Answers.execPresenceLow {valid : Prop} (n : Nat) (s : State) (hn : valid → n < 64) : Answers valid s (execPresenceLow n s) := by
  unfold Machine.execPresenceLow
  exact .onSlot hn (fun _ => .ite (.refl _) (.ite (.modSlot ..) (.modSlot ..)))

theorem Keeps.seatCart (s : State) (n : Nat) (which : Option Nat) : Keeps s (s.seatCart n which) := by
  unfold State.seatCart
  split
  · exact .refl _
  · exact .comp (.upd (by rfl)) <| .modSeq ..

theorem Keeps.shelve (s : State) (n : Nat) : Keeps s (s.shelve n) := by
  unfold State.shelve
  exact .comp (.modSeq ..) <| .ite (.refl _) (.upd (by rfl))

theorem Answers.execCartInserted {valid : Prop} (x : Insertion) (s : State) (hn : valid → x.slot < 64) : Answers valid s (execCartInserted x s) := by
  unfold Machine.execCartInserted
  exact .onSlot hn (fun _ => .ite (.refl _) (.comp (.seatCart ..) <| .comp (.askPower ..) <| .comp (.log ..) <| .comp (.slotEvent ..) <| .modSlot ..))

theorem Answers.execPwrenRise {valid : Prop} (s : State) : Answers valid s (execPwrenRise s) := by
  unfold Machine.execPwrenRise
  split
  · exact .next (.refl _)
  · exact .next (.comp (.upd (by rfl)) <| .comp (.modSeq ..) <| .modSlot ..)

theorem Keeps.cartGone (s : State) (n : Nat) : Keeps s (s.cartGone n) := by
  unfold State.cartGone
  exact .ite (.refl _) (.comp (.endUpdCmd ..) <| .comp (.log ..) <| .comp (.slotEvent ..) <| .comp (.shelve ..) <| .comp (.upd (by rfl)) <|
      .comp (.modSlot ..) <| .comp (.ite (.failMember ..) (.powerDown ..)) <| .updateFails ..)

theorem Answers.execCartRemoved {valid : Prop} (n : Nat) (s : State) (hn : valid → n < 64) : Answers valid s (execCartRemoved n s) := by
  unfold Machine.execCartRemoved
  exact .onSlot hn (fun _ => .ite (.refl _) (.ite (.modSlot ..) (.cartGone ..)))

theorem Answers.execCartAlert {valid : Prop} (n : Nat) (s : State) (hn : valid → n < 64) : Answers valid s (execCartAlert n s) := by
  unfold Machine.execCartAlert
  exact .onSlot hn (fun _ => .ite (.refl _) (.comp (.ite (.send ..) (.refl _)) <| .comp (.slotEvent ..) <| .modSlot ..))

theorem Keeps.healthLost (s : State) (n : Nat) : Keeps s (s.healthLost n) := by
  unfold State.healthLost
  exact .comp (.log ..) <| .modSlot ..

theorem Answers.execGetHealthTimeout {valid : Prop} (n : Nat) (s : State) (hn : valid → n < 64) : Answers valid s (execGetHealthTimeout n s) := by
  unfold Machine.execGetHealthTimeout
  exact .onSlot hn (fun _ => .ite (.healthLost ..) (.refl _))

theorem Keeps.healthData (s : State) (n : Nat) (d : List Byte) : Keeps s (s.healthData n d) := by
  unfold State.healthData
  exact .comp (.ite (.ite (.failMember ..) (.ite (.reject ..) (.refl _))) (.refl _)) <| .log ..

theorem Answers.execCartPowerTimeout {valid : Prop} (n : Nat) (s : State) (hn : valid → n < 64) : Answers valid s (execCartPowerTimeout n s) := by
  unfold Machine.execCartPowerTimeout
  exact .onSlot hn (fun _ => .ite (.comp (.reject ..) <| .log ..) (.refl _))

theorem Answers.execTrainingTimeout {valid : Prop} (n : Nat) (s : State) (hn : valid → n < 64) : Answers valid s (execTrainingTimeout n s) := by
  unfold Machine.execTrainingTimeout
  exact .onSlot hn (fun _ => .ite (.comp (.reject ..) <| .log ..) (.refl _))

theorem Answers.execFarEndSignal {valid : Prop} (n : Nat) (s : State) (hn : valid → n < 64) : Answers valid s (execFarEndSignal n s) := by
  unfold Machine.execFarEndSignal
  exact .onSlot hn (fun _ => .ite (.refl _) (.modSlot ..))

theorem Answers.execLinkUp {valid : Prop} (n : Nat) (lp : LinkParams) (s : State) (hn : valid → n < 64) : Answers valid s (execLinkUp n lp s) := by
  unfold Machine.execLinkUp
  exact .onSlot hn (fun _ => .ite (.linkIsUp ..) (.refl _))

theorem Answers.execIdentifyTimeout {valid : Prop} (n : Nat) (s : State) (hn : valid → n < 64) : Answers valid s (execIdentifyTimeout n s) := by
  unfold Machine.execIdentifyTimeout
  exact .onSlot hn (fun _ => .ite (.authFail ..) (.refl _))

theorem Answers.execDescriptorReceived {valid : Prop} (n : Nat) (d : List Byte) (s : State) (hn : valid → n < 64) :
    Answers valid s (execDescriptorReceived n d s) := by
  unfold Machine.execDescriptorReceived
  exact .onSlot hn (fun _ => .ite (.refl _) (.comp (.ite (.authFail ..) (.ite (.authFail ..) (.comp (.ite (.authFail ..) (.ite (.ite (.authFail ..)
      (.ite (.authPass ..) (.send ..))) (.comp (.send ..) <| .send ..))) <| .comp (.modSeq ..) <| .modSlot ..))) <| .modSlot ..))

theorem Answers.execSignatureReceived {valid : Prop} (n : Nat) (r : AuthResult) (life : Life) (s : State) (hn : valid → n < 64) :
    Answers valid s (execSignatureReceived n r life s) := by
  unfold Machine.execSignatureReceived
  exact .onSlot hn (fun _ => .ite (.refl _) (.comp (.ite (.authFail ..) (.ite (.authFail ..) (.comp (.lifeCheck ..) <| .comp (.authPass ..) <|
      .setLife ..))) <| .modSlot ..))

theorem Answers.execAuthTimeout {valid : Prop} (n : Nat) (s : State) (hn : valid → n < 64) : Answers valid s (execAuthTimeout n s) := by
  unfold Machine.execAuthTimeout
  exact .onSlot hn (fun _ => .ite (.authFail ..) (.refl _))

theorem Answers.execSeqUpdateTimeout {valid : Prop} (n : Nat) (s : State) (hn : valid → n < 64) : Answers valid s (execSeqUpdateTimeout n s) := by
  unfold Machine.execSeqUpdateTimeout
  exact .onSlot hn (fun _ => .failUpdate ..)

theorem Answers.execPwrOff {valid : Prop} (p : Path) (n : Nat) (s : State) (hn : valid → n < 64) : Answers valid s (execPwrOff p n s) := by
  unfold Machine.execPwrOff
  exact .guard hn (.winWrite (fun _ => .pwrOff ..))

theorem Answers.execPwrOn {valid : Prop} (p : Path) (n : Nat) (s : State) (hn : valid → n < 64) : Answers valid s (execPwrOn p n s) := by
  unfold Machine.execPwrOn
  exact .guard hn (.winWrite (fun _ => .pwrOn ..))

theorem Answers.execLinkReset {valid : Prop} (p : Path) (n : Nat) (s : State) (hn : valid → n < 64) : Answers valid s (execLinkReset p n s) := by
  unfold Machine.execLinkReset
  exact .guard hn (.winWrite (fun _ => .ite (.linkReset ..) (.refl _)))

theorem Answers.execRetrain {valid : Prop} (p : Path) (n : Nat) (s : State) (hn : valid → n < 64) : Answers valid s (execRetrain p n s) := by
  unfold Machine.execRetrain
  exact .guard hn (.winWrite (fun _ => .comp (.fastRetrain ..) <| .took ..))

theorem Answers.execFastRetrain {valid : Prop} (n cause : Nat) (s : State) (hn : valid → n < 64) : Answers valid s (execFastRetrain n cause s) := by
  unfold Machine.execFastRetrain
  exact .onSlot hn (fun _ => .fastRetrain ..)

theorem Keeps.nakBoth (s : State) (n : Nat) : Keeps s (s.nakBoth n) := by
  unfold State.nakBoth
  exact .comp (.modEnd ..) <| .modEnd ..

theorem Keeps.retrainFailed (s : State) (n : Nat) : Keeps s (s.retrainFailed n) := by
  unfold State.retrainFailed
  exact .comp (.ite (.linkReset ..) (.refl _)) <| .comp (.fullRetrain ..) <| .comp (.modSlot ..) <| .took ..

theorem Answers.execRetrainDone {valid : Prop} (n : Nat) (ok full : Bool) (lp : LinkParams) (s : State) (hn : valid → n < 64) :
    Answers valid s (execRetrainDone n ok full lp s) := by
  unfold Machine.execRetrainDone
  exact .onSlot hn (fun _ => .ite (.ite (.comp (.ite (.identify ..) (.refl _)) <| .comp (.nakBoth ..) <|
      .modSlot ..) (.retrainFailed ..)) (.ite (.ite (.comp (.linkIsUp ..) <| .comp (.modSlot ..) <| .comp (.log ..) <| .comp (.modEnd ..) <|
      .comp (.modEnd ..) <| .took ..) (.retrainFailed ..)) (.refl _)))

theorem Answers.execLanternFrame {valid : Prop} (s : State) : Answers valid s (execLanternFrame s) := by
  unfold Machine.execLanternFrame
  exact .ite (.next (.refl _)) (.next (.upd (by rfl)))

theorem Answers.execEventEnWrite {valid : Prop} (p : Path) (n : Nat) (v : Word) (s : State) (hn : valid → n < 64) :
    Answers valid s (execEventEnWrite p n v s) := by
  unfold Machine.execEventEnWrite
  exact .guard hn (.winWrite (fun _ => .comp (.ite (.ite (.modSlot ..) (.comp (.aenManagers ..) <| .modSlot ..)) (.refl _)) <| .setReg ..))

theorem Answers.execLifePoll {valid : Prop} (n : Nat) (life : Life) (s : State) (hn : valid → n < 64) : Answers valid s (execLifePoll n life s) := by
  unfold Machine.execLifePoll
  exact .onSlot hn (fun _ => .ite (.comp (.lifeCheck ..) <| .setLife ..) (.refl _))

theorem Answers.execMigrateDone {valid : Prop} (n : Nat) (s : State) (hn : valid → n < 64) : Answers valid s (execMigrateDone n s) := by
  unfold Machine.execMigrateDone
  refine .onSlot hn (fun _ => ?_)
  dsimp only
  split
  · exact .refl _
  · exact .ite (.refl _) (.comp (.ite (.comp (.slotEvent ..) <| .modSlot ..) (.shutAndOff ..)) <| .comp (.writeRoot ..) <| .comp (.modSlot ..) <|
      .comp (.dropJournal ..) <| .comp (.upd (by rfl)) <| .comp (.modPool ..) <| .log ..)

/-! ## What the operations of `Status` keep -/

theorem Keeps.protoReset (s : State) (n typ tag : Nat) : Keeps s (s.protoReset n typ tag) := by
  unfold State.protoReset
  exact .comp (.linkReset ..) <| .log ..

theorem Keeps.noteTags (s : State) (u : PUnit) : Keeps s (s.noteTags u) := by
  unfold State.noteTags
  split
  · exact .ite (.refl _) (.modBand ..)
  · exact .refl _

theorem Keeps.journalVerified (s : State) (host : Nat) (recs : List Nat) : Keeps s (s.journalVerified host recs) := by
  unfold State.journalVerified
  exact .comp (.ite (.comp (.log ..) <| .comp (.upd (by rfl)) <| .took ..) (.refl _)) <| .upd (by rfl)

theorem Keeps.restoreDone (s : State) (u : PUnit) : Keeps s (s.restoreDone u) := by
  unfold State.restoreDone
  split
  · exact .ite (.refl _) (.comp (.record ..) <| .needReg ..)
  · exact .refl _

theorem Keeps.unitVerified (s : State) (uid : Nat) : Keeps s (s.unitVerified uid) := by
  unfold State.unitVerified
  split
  · exact .refl _
  · dsimp only
    split
    · refine .comp (.ite (.noteTags ..) (.restoreDone ..)) <| .comp (.modUnit ..) ?_
      split
      · exact .send ..
      · exact .refl _
    · refine .comp (.journalVerified ..) <| .comp (.upd (by rfl)) ?_
      split
      · exact .send ..
      · exact .refl _
    · refine .comp (.upd (by rfl)) <| .comp (.modSlot ..) <| .comp (.upd (by rfl)) ?_
      split
      · exact .send ..
      · exact .refl _

theorem Keeps.chargeUnit (s : State) (u : PUnit) (take : Bool) : Keeps s (s.chargeUnit u take) := by
  unfold State.chargeUnit
  exact .upd (by rfl)

theorem Keeps.unitFailed (s : State) (n tag uid : Nat) (held retire : Bool) (ask : Bool) : Keeps s (s.unitFailed n tag uid held retire ask) := by
  unfold State.unitFailed
  split
  · exact .ite (.send ..) (.refl _)
  · dsimp only
    split
    · exact .comp (.journalFailed ..) <| .comp (.ite (.send ..) (.refl _)) <| .ite (.modBlock ..) (.refl _)
    · exact .comp (.upd (by rfl)) <| .comp (.ite (.send ..) (.refl _)) <| .ite (.modBlock ..) (.refl _)
    · refine .comp (.ite (.comp (.send ..) <| .comp (.modUnit ..) <| .ite (.chargeUnit ..) (.refl _)) (.refl _)) ?_
      split
      · exact .comp (.modUnit ..) <| .comp (.send ..) <| .comp (.ite (.splitMember ..) (.splitTarget ..)) <| .ite (.modBlock ..) (.refl _)
      · exact .comp (.ite (.splitMember ..) (.splitTarget ..)) <| .ite (.modBlock ..) (.refl _)

theorem Keeps.replaceBlock (s : State) (old : Place) (use : BlockSt) (mode : Nat) : Keeps s (s.replaceBlock old use mode) := by
  unfold State.replaceBlock
  split
  · refine .comp (.upd (by rfl)) <| .comp (.modBand ..) ?_
    split
    · dsimp only
      exact .takeNear ..
    · exact .comp (.takeFar ..) <| .takeNear ..
  · exact .replaceJournal ..
  · exact .refl _

theorem Keeps.endCmd (s : State) (n tag : Nat) (o : OutCmd) (keep : Bool) : Keeps s (s.endCmd n tag o keep) := by
  unfold State.endCmd
  exact .comp (.ite (.comp (.modSlot ..) <| .took ..) (.refl _)) <| .comp (.modSeq ..) <| .comp (.modSlot ..) <| .retireTagKept ..

theorem Answers.onStatus {valid : Prop} {n tag : Nat} {s : State} {f : State → OutCmd → State} {keep : Bool} (hn : valid → n < 64) (h : ∀ t o, Keeps t (f t o)) :
    Answers valid s (onStatus n tag s f keep) := by
  unfold Machine.onStatus
  refine .onSlot hn fun t => ?_
  dsimp only
  split
  · exact .refl _
  · split
    · exact .protoReset ..
    · exact .comp (.settle ..) <| .comp (.tryClearSlow ..) <| .comp (h ..) <| .endCmd ..

theorem Keeps.identityFailed (s : State) (n : Nat) (p : Purpose) : Keeps s (s.identityFailed n p) := by
  unfold State.identityFailed
  split
  · exact .authFail ..
  · exact .refl _
  · exact .authFail ..

theorem Keeps.afterSync (s : State) (n : Nat) : Keeps s (s.afterSync n) := by
  unfold State.afterSync
  exact .comp (.send ..) <| .comp (.modSlot ..) <| .ite (.each (fun _ _ => .comp (.unitFailed ..) <| .comp (.modUnit ..) <| .retireTag ..)) (.refl _)

theorem Keeps.readFailed (s : State) (rid : Nat) : Keeps s (s.readFailed rid) := by
  unfold State.readFailed
  split
  · exact .refl _
  · exact .ite (.comp (.giveMembers ..) <| .dropReq ..) (.ite (.refl _) (.ite (.startRecon ..) (.toRow ..)))

theorem Keeps.gotSuccess (s : State) (n : Nat) (o : OutCmd) : Keeps s (s.gotSuccess n o) := by
  unfold State.gotSuccess
  split
  · exact .ite (.refl _) (.comp (.sendFrames ..) <| .comp (.modSlot ..) <| .took ..)
  · exact .afterSync ..
  · exact .ite (.powerOffDone ..) (.refl _)
  · exact .ite (.sendImage ..) (.refl _)
  · exact .modSlot ..
  · exact .unitVerified ..
  · exact .modUnit ..
  · exact .modBlock ..
  · exact .comp (.noteRetired ..) <| .comp (.log ..) <| .modBlock ..
  · exact .refl _

theorem Answers.execSuccess {valid : Prop} (n tag : Nat) (s : State) (hn : valid → n < 64) : Answers valid s (execSuccess n tag s) := by
  unfold Machine.execSuccess
  exact .ite (.next (.refl _)) (.onStatus hn (fun _ _ => .gotSuccess ..))

theorem Answers.execDataReceived {valid : Prop} (n tag : Nat) (s : State) (hn : valid → n < 64) : Answers valid s (execDataReceived n tag s) := by
  unfold Machine.execDataReceived
  refine .onSlot hn (fun _ => ?_)
  dsimp only
  refine .ite (.refl _) ?_
  split
  · exact .protoReset ..
  · split
    · split
      · exact .comp (.ite (.refl _) (.comp (.modUnit ..) <| .chargeUnit ..)) <| .modSlot ..
      · exact .modSlot ..
    · exact .modSlot ..

theorem Keeps.gotProgramReplaced (s : State) (n die block page : Nat) (o : OutCmd) : Keeps s (s.gotProgramReplaced n die block page o) := by
  unfold State.gotProgramReplaced
  split
  · split
    · exact .refl _
    · refine .comp (.unitVerified ..) ?_
      split
      · exact .comp (.ite (.modBand ..) (.modUnit ..)) <| .comp (.modBlock ..) <| .comp (.log ..) <| .media' ..
      · exact .comp (.modBlock ..) <| .comp (.log ..) <| .media' ..
  · exact .refl _

theorem Answers.execProgramReplaced {valid : Prop} (n tag die block page : Nat) (s : State) (hn : valid → n < 64) :
    Answers valid s (execProgramReplaced n tag die block page s) := by
  unfold Machine.execProgramReplaced
  exact .onStatus hn (fun _ _ => .gotProgramReplaced ..)

theorem Keeps.gotProgramFail (s : State) (n tag : Nat) (held : Bool) (o : OutCmd) : Keeps s (s.gotProgramFail n tag held o) := by
  unfold State.gotProgramFail
  split
  · exact .comp (.unitFailed ..) <| .comp (.log ..) <| .media' ..
  · exact .refl _

theorem Answers.execProgramFail {valid : Prop} (n tag : Nat) (held : Bool) (s : State) (hn : valid → n < 64) :
    Answers valid s (execProgramFail n tag held s) := by
  unfold Machine.execProgramFail
  exact .onStatus hn (fun _ _ => .gotProgramFail ..)

theorem Keeps.gotNotErased (s : State) (n tag : Nat) (o : OutCmd) : Keeps s (s.gotNotErased n tag o) := by
  unfold State.gotNotErased
  split
  · exact .comp (.unitFailed ..) <| .comp (.log ..) <| .media' ..
  · exact .refl _

theorem Answers.execNotErased {valid : Prop} (n tag : Nat) (s : State) (hn : valid → n < 64) : Answers valid s (execNotErased n tag s) := by
  unfold Machine.execNotErased
  exact .onStatus hn (fun _ _ => .gotNotErased ..)

theorem Keeps.gotRetiredBlock (s : State) (n tag : Nat) (o : OutCmd) : Keeps s (s.gotRetiredBlock n tag o) := by
  unfold State.gotRetiredBlock
  dsimp only
  split
  · exact .comp (.ite (.refl _) (.modBlock ..)) <| .comp (.unitFailed ..) <| .comp (.log ..) <| .media' ..
  · exact .comp (.replaceBlock ..) <| .modBlock ..
  · exact .refl _

theorem Answers.execRetiredBlock {valid : Prop} (n tag : Nat) (s : State) (hn : valid → n < 64) : Answers valid s (execRetiredBlock n tag s) := by
  unfold Machine.execRetiredBlock
  exact .onStatus hn (fun _ _ => .gotRetiredBlock ..)

theorem Keeps.gotEraseFail (s : State) (n : Nat) (o : OutCmd) : Keeps s (s.gotEraseFail n o) := by
  unfold State.gotEraseFail
  split
  · exact .comp (.noteRetired ..) <| .comp (.replaceBlock ..) <| .comp (.log ..) <| .comp (.modBlock ..) <| .comp (.log ..) <| .media' ..
  · exact .refl _

theorem Answers.execEraseFail {valid : Prop} (n tag : Nat) (s : State) (hn : valid → n < 64) : Answers valid s (execEraseFail n tag s) := by
  unfold Machine.execEraseFail
  exact .onStatus hn (fun _ _ => .gotEraseFail ..)

theorem Keeps.gotDieFail (s : State) (n tag : Nat) (o : OutCmd) : Keeps s (s.gotDieFail n tag o) := by
  unfold State.gotDieFail
  dsimp only
  split
  · split
    · exact .comp (.ite (.unitFailed ..) (.refl _)) <| .dieFailed ..
    · exact .dieFailed ..
  · exact .comp (.replaceBlock ..) <| .dieFailed ..
  · exact .comp (.readFailed ..) <| .dieFailed ..
  · exact .comp (.modUnit ..) <| .dieFailed ..
  · exact .comp (.healthLost ..) <| .dieFailed ..
  · exact .dieFailed ..

theorem Answers.execDieFail {valid : Prop} (n tag : Nat) (s : State) (hn : valid → n < 64) : Answers valid s (execDieFail n tag s) := by
  unfold Machine.execDieFail
  exact .onStatus hn (fun _ _ => .gotDieFail ..)

theorem Keeps.gotCmdRefused (s : State) (n tag code : Nat) (o : OutCmd) : Keeps s (s.gotCmdRefused n tag code o) := by
  unfold State.gotCmdRefused
  dsimp only
  split
  · exact .comp (.unitFailed ..) <| .log ..
  · exact .comp (.replaceBlock ..) <| .comp (.modBlock ..) <| .log ..
  · exact .readFailed ..
  · exact .modUnit ..
  · exact .healthLost ..
  · exact .failUpdate ..
  · exact .failUpdate ..
  · exact .ite (.powerOffDone ..) (.refl _)
  · exact .ite (.identityFailed ..) (.refl _)

theorem Answers.execCmdRefused {valid : Prop} (n tag code : Nat) (s : State) (hn : valid → n < 64) :
    Answers valid s (execCmdRefused n tag code s) := by
  unfold Machine.execCmdRefused
  exact .onStatus hn (fun _ _ => .gotCmdRefused ..)

theorem Answers.execFwInvalid {valid : Prop} (n tag : Nat) (s : State) (hn : valid → n < 64) : Answers valid s (execFwInvalid n tag s) := by
  unfold Machine.execFwInvalid
  exact .onStatus hn (fun _ _ => .failUpdate ..)

theorem Answers.execFwNotLoaded {valid : Prop} (n tag : Nat) (s : State) (hn : valid → n < 64) : Answers valid s (execFwNotLoaded n tag s) := by
  unfold Machine.execFwNotLoaded
  exact .onStatus hn (fun _ _ => .failUpdate ..)

theorem Keeps.gotShutDown (s : State) (n : Nat) (o : OutCmd) : Keeps s (s.gotShutDown n o) := by
  unfold State.gotShutDown
  split
  · exact .modUnit ..
  · exact .readFailed ..
  · exact .failUpdate ..
  · exact .failUpdate ..
  · exact .healthLost ..
  · exact .ite (.powerOffDone ..) (.refl _)
  · exact .ite (.identityFailed ..) (.refl _)

theorem Answers.execShutDown {valid : Prop} (n tag : Nat) (s : State) (hn : valid → n < 64) : Answers valid s (execShutDown n tag s) := by
  unfold Machine.execShutDown
  exact .onStatus hn (fun _ _ => .gotShutDown ..)

theorem Answers.execXferRdy {valid : Prop} (n tag first count : Nat) (s : State) (hn : valid → n < 64) :
    Answers valid s (execXferRdy n tag first count s) := by
  unfold Machine.execXferRdy
  refine .onSlot hn (fun _ => ?_)
  dsimp only
  refine .ite (.refl _) ?_
  split
  · exact .protoReset ..
  · exact .ite (.protoReset ..) (.modSlot ..)

theorem Answers.execEccInj {valid : Prop} (p : Path) (n : Nat) (v : Word) (s : State) (hn : valid → n < 64) :
    Answers valid s (execEccInj p n v s) := by
  unfold Machine.execEccInj
  exact .guard hn (.winWrite (fun _ => .ite (.setReg ..) (.refl _)))

theorem Keeps.injected (s : State) (n : Nat) (a : CwArrival) : Keeps s (s.injected n a).2 := by
  unfold State.injected
  exact .iteSnd (.refl _) (.comp (.ite (.refl _) (.setReg ..)) <| .comp (.modSlot ..) <| .took ..)

theorem Keeps.bufferWord (s : State) (uid k : Nat) (a : CwArrival) : Keeps s (s.bufferWord uid k a) := by
  unfold State.bufferWord
  split
  · exact .refl _
  · split
    · exact .refl _
    · exact .ite (.refl _) (.modUnit ..)

theorem Answers.execCodewordArrival {valid : Prop} (n tag k : Nat) (a : CwArrival) (s : State) (hn : valid → n < 64) :
    Answers valid s (execCodewordArrival n tag k a s) := by
  unfold Machine.execCodewordArrival
  refine .onSlot hn (fun _ => ?_)
  dsimp only
  refine .ite (.refl _) ?_
  split
  · exact .refl _
  · split
    · split
      · exact .injected ..
      · exact .comp (.ite (.refl _) (.comp (.settle ..) <| .arrive ..)) <| .injected ..
    · exact .comp (.bufferWord ..) <| .injected ..
    · exact .injected ..

theorem Keeps.slowFollows (s : State) (n tag : Nat) (o : OutCmd) : Keeps s (s.slowFollows n tag o) := by
  unfold State.slowFollows
  split
  · exact .ite (.comp (.settle ..) <| .degrade ..) (.settle ..)
  · split
    · split
      · exact .ite (.refl _) (.ite (.comp (.settle ..) <| .splitMember ..) (.comp (.settle ..) <| .comp (.splitTarget ..) <| .forget ..))
      · exact .refl _
    · exact .refl _
  · exact .refl _

theorem Answers.execTSlowExpiry {valid : Prop} (n tag : Nat) (s : State) (hn : valid → n < 64) : Answers valid s (execTSlowExpiry n tag s) := by
  unfold Machine.execTSlowExpiry
  refine .onSlot hn (fun _ => ?_)
  split
  · exact .refl _
  · exact .ite (.refl _) (.comp (.slowFollows ..) <| .comp (.setSlow ..) <| .modSlot ..)

theorem Answers.execSlowProbe {valid : Prop} (n : Nat) (s : State) (hn : valid → n < 64) : Answers valid s (execSlowProbe n s) := by
  unfold Machine.execSlowProbe
  refine .onSlot hn (fun _ => ?_)
  refine .ite (.refl _) ?_
  split
  · exact .send ..
  · exact .refl _

theorem Answers.execTFailExpiry {valid : Prop} (n : Nat) (s : State) (hn : valid → n < 64) : Answers valid s (execTFailExpiry n s) := by
  unfold Machine.execTFailExpiry
  exact .onSlot hn (fun _ => .ite (.powerOffDone ..) (.ite (.comp (.settle ..) <| .failMember ..) (.refl _)))

theorem Answers.execSlowRatioCheck {valid : Prop} (n : Nat) (s : State) (hn : valid → n < 64) : Answers valid s (execSlowRatioCheck n s) := by
  unfold Machine.execSlowRatioCheck
  refine .onSlot hn (fun _ => ?_)
  dsimp only
  refine .ite ?_ (.modSlot ..)
  split
  · exact .comp (.log ..) <| .modSlot ..
  · exact .comp (.settle ..) <| .comp (.failMember ..) <| .modSlot ..

/-! ## What the operations of `Background` keep -/

theorem Keeps.patrolWord (s : State) (b : Band) (band row mp : Nat) : Keeps s (s.patrolWord b band row mp) := by
  unfold State.patrolWord
  exact .comp (.each (fun _ _ => .askAt ..)) <| .ite (.media' ..) (.refl _)

theorem Answers.execPatrol {valid : Prop} (pool band row : Nat) (s : State) : Answers valid s (execPatrol pool band row s) := by
  unfold Machine.execPatrol
  exact .ite (.next (.refl _)) (.next (.comp (.settle ..) <| .each (fun _ _ => .patrolWord ..)))

theorem Keeps.fillOpen (s : State) (b : Option Nat) : Keeps s (s.fillOpen b) := by
  unfold State.fillOpen
  split
  · exact .fillUnit ..
  · exact .refl _

theorem Answers.execSlcUnitTimeout {valid : Prop} (pool : Nat) (s : State) : Answers valid s (execSlcUnitTimeout pool s) := by
  unfold Machine.execSlcUnitTimeout
  exact .ite (.next (.refl _)) (.next (.comp (.settle ..) <| .comp (.fillOpen ..) <| .fillOpen ..))

theorem Answers.execJournalUnitTimeout {valid : Prop} (pool n : Nat) (s : State) : Answers valid s (execJournalUnitTimeout pool n s) := by
  unfold Machine.execJournalUnitTimeout
  exact .ite (.next (.refl _)) (.ite (.next (.comp (.settle ..) <| .journalLost ..)) (.next (.comp (.settle ..) <| .issueJournal ..)))

theorem Keeps.beginFill (s : State) (p a : Nat) : Keeps s (s.beginFill p a) := by
  unfold State.beginFill
  refine .comp (.modBand ..) ?_
  split
  · exact .comp (.modPool ..) <| .takeSeq ..
  · exact .takeSeq ..

theorem Answers.execFrontierFill {valid : Prop} (nsx seg : Nat) (s : State) : Answers valid s (execFrontierFill nsx seg s) := by
  unfold Machine.execFrontierFill
  split
  · exact .next (.refl _)
  · split
    · exact .next (.refl _)
    · exact .ite (.next (.refl _)) (.next (.comp (.settle ..) <| .comp (.copyRowOf ..) <| .beginFill ..))

theorem Keeps.foldBand (s : State) (x : Ns) (nsx seg : Nat) : Keeps s (s.foldBand x nsx seg).2 := by
  unfold State.foldBand
  exact .comp (.openBand ..) <| .needReg ..

theorem Keeps.beginFold (s : State) (nsx seg b : Nat) (g : Seg) : Keeps s (s.beginFold nsx seg b g) := by
  unfold State.beginFold
  exact .comp (.modBand ..) <| .comp (.modSeg ..) <| .takeSeq ..

theorem Answers.execFold {valid : Prop} (nsx seg : Nat) (s : State) : Answers valid s (execFold nsx seg s) := by
  unfold Machine.execFold
  split
  · exact .next (.refl _)
  · dsimp only
    split
    · exact .next (.refl _)
    · split
      next t e => exact .next (.ofSnd e (.foldBand ..))
      next t e => exact .next <| .comp (.settle ..) <| .comp (.copyRowOf ..) <| .comp (.beginFold ..) <| .ofSnd e (.foldBand ..)

theorem Keeps.switchSeg (s : State) (band : Nat) : Keeps s (s.switchSeg band) := by
  unfold State.switchSeg
  exact .comp (.dropCopied ..) <| .modSeg ..

theorem Answers.execFoldSwitch {valid : Prop} (band : Nat) (s : State) : Answers valid s (execFoldSwitch band s) := by
  unfold Machine.execFoldSwitch
  dsimp only
  split
  · exact .next (.refl _)
  · exact .ite (.next (.refl _)) (.next (.comp (.settle ..) <| .comp (.each (fun _ _ => .shave ..)) <| .switchSeg ..))

theorem Keeps.startGc (s : State) (p bno : Nat) : Keeps s (s.startGc p bno) := by
  unfold State.startGc
  refine .comp (.ite (.settle ..) (.refl _)) <| .comp (.each (fun _ _ => ?_)) <| .comp (.upd (by rfl)) <| .takeSeq ..
  split
  · exact .modGc ..
  · exact .ite (.askMeta ..) (.ask ..)

theorem Answers.execLogGc {valid : Prop} (pool band : Nat) (s : State) : Answers valid s (execLogGc pool band s) := by
  unfold Machine.execLogGc
  exact .ite (.next (.refl _)) (.ite (.next (.startGc ..)) (.next (.refl _)))

theorem Answers.execReserveErase {valid : Prop} (n die mode : Nat) (s : State) (hn : valid → n < 64) :
    Answers valid s (execReserveErase n die mode s) := by
  unfold Machine.execReserveErase
  refine .onSlot hn (fun _ => ?_)
  dsimp only
  refine .ite (.refl _) ?_
  split
  · exact .comp (.freeBands ..) <| .eraseFor ..
  · refine .ite (.refl _) ?_
    split
    next t e => exact .comp (.freeBands ..) <| .comp (.eraseFor ..) <| .ofSnd e <| .pickDirty ..
    next t1 e1 => exact .ofSnd e1 <| .pickDirty ..

theorem Answers.execWearCheck {valid : Prop} (pool : Nat) (s : State) : Answers valid s (execWearCheck pool s) := by
  unfold Machine.execWearCheck
  exact .ite (.next (.refl _)) (.next (.each (fun _ _ => .modSeg ..)))

theorem Answers.execLifeForecast {valid : Prop} (pool : Nat) (s : State) : Answers valid s (execLifeForecast pool s) := by
  unfold Machine.execLifeForecast
  exact .ite (.next (.refl _)) (.next (.each (fun _ _ => .modSlot ..)))

theorem Keeps.pickTarget (s : State) (bno mp : Nat) : Keeps s (s.pickTarget bno mp).2 := by
  unfold State.pickTarget
  dsimp only
  refine .iteSnd (.refl _) ?_
  split
  next t e =>
    dsimp only
    exact .ofSnd e <| .iteSnd (.takeNear ..) (.refl _)
  next t1 e1 =>
    split
    · exact .comp (.takeBlock ..) <| .ofSnd e1 <| .iteSnd (.takeNear ..) (.refl _)
    · dsimp only
      exact .ofSnd e1 <| .iteSnd (.takeNear ..) (.refl _)

theorem Keeps.restoreRow (s : State) (bno wl mp kind : Nat) : Keeps s (s.restoreRow bno wl mp kind) := by
  unfold State.restoreRow
  dsimp only
  refine .ite (.refl _) ?_
  split
  · refine .comp (.log ..) <| .comp (.modPool ..) ?_
    split
    · exact .refl _
    · split
      · exact .comp (.ite (.modPool ..) (.refl _)) <| .pickTarget ..
      · exact .pickTarget ..
  · refine .comp (.each (fun _ _ => .askAt ..)) <| .comp (.modUnit ..) <| .comp (.addUnit ..) ?_
    split
    · exact .refl _
    · split
      · exact .comp (.ite (.modPool ..) (.refl _)) <| .pickTarget ..
      · exact .pickTarget ..

theorem Keeps.rebuildRow (s : State) (p bno wl : Nat) : Keeps s (s.rebuildRow p bno wl) := by
  unfold State.rebuildRow
  exact .comp (.settle ..) <| .comp (.each (fun _ _ => .restoreRow ..)) <| .modPool ..

theorem Answers.execRebuildRow {valid : Prop} (pool band row : Nat) (s : State) : Answers valid s (execRebuildRow pool band row s) := by
  unfold Machine.execRebuildRow
  exact .ite (.next (.refl _)) (.ite (.ite (.next (.refl _)) (.ite (.next (.startGc ..)) (.next (.comp (.settle ..) <|
      .closeEarly ..)))) (.ite (.ite (.next (.comp (.settle ..) <| .comp (.needReg ..) <|
      .modPool ..)) (.next (.refl _))) (.ite (.next (.rebuildRow ..)) (.next (.refl _)))))

theorem Answers.execSpareRetry {valid : Prop} (pool : Nat) (s : State) : Answers valid s (execSpareRetry pool s) := by
  unfold Machine.execSpareRetry
  refine .ite (.next (.refl _)) ?_
  dsimp only
  split
  · exact .next (.comp (.rebuildRow ..) <| .modPool ..)
  · exact .next (.modPool ..)

/-! ## What the operations of `Guestbook` keep -/

theorem Keeps.setFword (s : State) (w : Nat) (v : FWord) : Keeps s (s.setFword w v) := by
  unfold State.setFword
  exact .words fun h => Cells.wf_put _ _ _ h

theorem Keeps.eraseWords (s : State) (lo hi : Nat) : Keeps s (s.eraseWords lo hi) := by
  unfold State.eraseWords
  exact .words fun h => Cells.wf_filter _ _ h

theorem Keeps.writeRec (s : State) (r : Rec) : Keeps s (s.writeRec r) := by
  unfold State.writeRec
  exact .comp (.upd (by rfl)) <| .comp (.setFword ..) <| .comp (.setFword ..) <| .ite (.comp (.upd (by rfl)) <| .eraseWords ..) (.refl _)

theorem Keeps.applyFloor (s : State) (last : Nat) : Keeps s (s.applyFloor last) := by
  unfold State.applyFloor
  exact .comp (.upd (by rfl)) <| .comp (.each (fun _ _ => .eraseWords ..)) <| .upd (by rfl)

theorem Keeps.nextPlace (s : State) (code : Nat) : Keeps s (s.nextPlace code) := by
  unfold State.nextPlace
  split
  · exact .refl _
  · exact .comp (.ite (.upd (by rfl)) (.comp (.post ..) <| .upd (by rfl))) <| .upd (by rfl)

theorem Answers.execGuestbookRecordWrite {valid : Prop} (s : State) : Answers valid s (execGuestbookRecordWrite s) := by
  unfold Machine.execGuestbookRecordWrite
  split
  · exact .next (.refl _)
  · split
    · refine .next <| .comp (.nextPlace ..) ?_
      split
      · exact .comp (.post ..) <| .comp (.applyFloor ..) <| .comp (.writeRec ..) <| .upd (by rfl)
      · exact .comp (.applyFloor ..) <| .comp (.writeRec ..) <| .upd (by rfl)
    · exact .next <| .comp (.nextPlace ..) <| .comp (.writeRec ..) <| .upd (by rfl)
    · split
      · exact .next (.refl _)
      · split
        · exact .next <| .comp (.writeRec ..) <| .upd (by rfl)
        · split
          · exact .next (.refl _)
          next r rest e =>
            refine .next <| .comp (.writeRec ..) ⟨rfl, rfl, fun h => ?_⟩
            simp_all [State.sound, Gbk.sound]
            omega

theorem Answers.execCoalesceWindow {valid : Prop} (code key : Nat) (s : State) : Answers valid s (execCoalesceWindow code key s) := by
  unfold Machine.execCoalesceWindow
  split
  · exact .next (.refl _)
  · split
    · refine .next ⟨rfl, rfl, fun h => ?_⟩
      have := List.length_filter_le (fun x : Track => decide ¬(x.code = code ∧ x.key = key)) s.gbk.tracked
      simp_all [State.sound, Gbk.sound]
      omega
    · exact .next <| .comp (.updSound fun h => by simp_all [State.sound, Gbk.sound]) <| .enqueue ..

theorem Answers.execGuestbookRead {valid : Prop} (c : Cmd) (s : State) : Answers valid s (execGuestbookRead c s) := by
  unfold Machine.execGuestbookRead
  exact .adminCmd (fun _ => .check (.post ..))

theorem Answers.mgrPage {valid : Prop} {c : Cmd} {s : State} {f : State → State} (h : ∀ t, Keeps t (f t)) : Answers valid s (mgrPage c s f) :=
  .adminCmd fun _ => .ite (h _) (.refuse ..)

theorem Answers.execGuestbookLog {valid : Prop} (c : Cmd) (s : State) : Answers valid s (execGuestbookLog c s) := by
  unfold Machine.execGuestbookLog
  exact .mgrPage (fun _ => .check (.page ..))

theorem Answers.execNonce {valid : Prop} (c : Cmd) (s : State) : Answers valid s (execNonce c s) := by
  unfold Machine.execNonce
  exact .adminCmd (fun _ => .check (.comp (.post ..) <| .comp (.upd (by rfl)) <| .took ..))

theorem Keeps.spendNonce (s : State) (n : Nat) : Keeps s (s.spendNonce n) := by
  unfold State.spendNonce
  exact .ite (.upd (by rfl)) (.refl _)

theorem Keeps.denyOwner (s : State) (c : Cmd) (st : Status) (cause action : Nat) : Keeps s (s.denyOwner c st cause action) := by
  unfold State.denyOwner
  exact .comp (.refuse ..) <| .log ..

theorem Answers.execClear {valid : Prop} (c : Cmd) (sigOk : Bool) (s : State) : Answers valid s (execClear c sigOk s) := by
  unfold Machine.execClear
  refine .adminCmd (fun _ => ?_)
  dsimp only
  refine .ite (.comp (.denyOwner ..) <| .spendNonce ..) ?_
  split
  · exact .comp (.denyOwner ..) <| .spendNonce ..
  · exact .comp (.ite (.denyOwner ..) (.ite (.denyOwner ..) (.ite (.denyOwner ..) (.ite (.upd (by rfl)) (.upd (by rfl)))))) <| .spendNonce ..

theorem Answers.execOwnerSet {valid : Prop} (c : Cmd) (sigOk onCurve : Bool) (s : State) : Answers valid s (execOwnerSet c sigOk onCurve s) := by
  unfold Machine.execOwnerSet
  exact .adminCmd (fun _ => .comp (.ite (.denyOwner ..) (.ite (.denyOwner ..) (.ite (.denyOwner ..) (.ite (.denyOwner ..)
      (.comp (.ite (.comp (.post ..) <| .upd (by rfl)) (.upd (by rfl))) <| .upd (by rfl)))))) <| .spendNonce ..)

theorem Answers.execNonceExpiry {valid : Prop} (s : State) : Answers valid s (execNonceExpiry s) := by
  unfold Machine.execNonceExpiry
  exact .next (.upd (by rfl))

theorem Answers.execTimestamp {valid : Prop} (c : Cmd) (s : State) : Answers valid s (execTimestamp c s) := by
  unfold Machine.execTimestamp
  exact .adminCmd (fun _ => .ite (.comp (.post ..) <| .comp (.log ..) <| .upd (by rfl)) (.comp (.post ..) <| .modCtrl ..))

/-! ## What the operations of `Qos` keep -/

theorem Keeps.charge (s : State) (c t k : Nat) : Keeps s (s.charge c t k) := by
  unfold State.charge
  exact .comp (.ite (.upd (by rfl)) (.upd (by rfl))) <| .upd (by rfl)

theorem Keeps.admitTok {s t : State} {f : Flight} (h : s.admitTok f = some t) : Keeps s t := by
  unfold State.admitTok at h
  simp only [Option.ite_none_right_eq_some, Option.some.injEq] at h
  obtain ⟨-, rfl⟩ := h
  split
  · exact .comp (.charge ..) <| .charge ..
  · exact .charge ..

theorem Keeps.intake (s : State) (op : Nat) (c : Cmd) : Keeps s (s.intake op c) := by
  unfold State.intake
  dsimp only
  refine .ite (.refuse ..) ?_
  split
  · exact .refuse ..
  · split
    · exact .refuse ..
    · exact .upd (by rfl)

theorem Keeps.dropHandle (s : State) (p h : Nat) : Keeps s (s.dropHandle p h) := by
  unfold State.dropHandle
  split
  · exact .comp (.modPool ..) <| .modBand ..
  · exact .refl _

theorem Keeps.openSeg (s : State) (x : Ns) (k : Nat) (h : Option Nat) : Keeps s (s.openSeg x k h).2 := by
  unfold State.openSeg
  dsimp only
  split
  next t e =>
    dsimp only
    exact .ofSnd e <| .comp (.openBand ..) <| .needReg ..
  next t1 e1 => exact .comp (.modSeg ..) <| .comp (.modBand ..) <| .ofSnd e1 <| .comp (.openBand ..) <| .needReg ..

theorem Keeps.steer (s : State) (f : Flight) : Keeps s (s.steer f) := by
  unfold State.steer
  split
  · exact .refl _
  · dsimp only
    refine .ite (.comp (.ite (.modFlight ..) (.refl _)) <| .comp (.foldFst fun a e => ?_) ?_) ?_
    · split
      · exact .refl _
      · split
        next t e => exact .ofSnd e <| .openSeg ..
        next t e => exact .ofSnd e <| .openSeg ..
    · split
      · exact .ite (.dropHandle ..) (.refl _)
      · exact .refl _
    · split
      · exact .ite (.dropHandle ..) (.refl _)
      · exact .refl _

theorem Keeps.checkLog (s : State) (p : Nat) : Keeps s (s.checkLog p) := by
  unfold State.checkLog
  exact .comp (.ite (.log ..) (.refl _)) <| .comp (.ite (.log ..) (.refl _)) <| .modPool ..

theorem Keeps.holdAt (s : State) (id : CmdId) (n : Nat) : Keeps s (s.holdAt id n) := by
  unfold State.holdAt
  exact .ite (.refl _) (.comp (.modFlight ..) <| .upd (by rfl))

theorem Keeps.toStage6 (s : State) (id : CmdId) : Keeps s (s.toStage6 id).2 := by
  unfold State.toStage6
  split
  · exact .refl _
  · split
    · exact .iteSnd (.holdAt ..) (.refl _)
    · split
      · exact .refl _
      · refine .iteSnd (.holdAt ..) <| .iteSnd (.holdAt ..) ?_
        dsimp only
        refine .iteSnd (.holdAt ..) ?_
        split
        · exact .holdAt ..
        next t e =>
          refine .iteSnd (.comp (.holdAt ..) <| .comp (.modFlight ..) ?_) (.comp (.holdAt ..) <| .comp (.modFlight ..) ?_)
          · exact .comp (.iteSnd (.takeSeq ..) (.refl _)) <| .comp (.ite (.steer ..) (.refl _)) <| .admitTok e
          · exact .comp (.iteSnd (.takeSeq ..) (.refl _)) <| .comp (.ite (.steer ..) (.refl _)) <| .admitTok e
    · exact .refl _

/-! ## What the operations of `Io` keep -/

theorem Keeps.markHits (s : State) (l : Lock) : Keeps s (s.markHits l) := by
  unfold State.markHits
  exact .ite (.upd (by rfl)) (.refl _)

theorem Keeps.takeLock (s : State) (l : Lock) : Keeps s (s.takeLock l) := by
  unfold State.takeLock
  exact .comp (.markHits ..) <| .upd (by rfl)

theorem Keeps.grantLocks (s : State) (id : CmdId) : Keeps s (s.grantLocks id) := by
  unfold State.grantLocks
  exact .comp (.each (fun _ _ => .markHits ..)) <| .upd (by rfl)

theorem Keeps.putLog (s : State) (nsx lba : Nat) (e : LogEnt) : Keeps s (s.putLog nsx lba e) := by
  unfold State.putLog
  split
  · exact .ite (.refl _) (.upd (by rfl))
  · exact .upd (by rfl)

theorem Keeps.publishPart (s : State) (x : Ns) (e : Nat × Nat × Nat) : Keeps s (s.publishPart x e) := by
  unfold State.publishPart
  exact .comp (.ite (.modBand ..) (.refl _)) <| .comp (.upd (by rfl)) <| .comp (.modSeg ..) <| .modBand ..

theorem Keeps.publish (s : State) (f : Flight) : Keeps s (s.publish f) := by
  unfold State.publish
  split
  · exact .refl _
  · exact .comp (.checkLog ..) <| .comp (.modPool ..) <| .comp (.poolCount ..) <| .comp (.dropLost ..) <| .comp (.modNs ..) <|
      .comp (.each (fun _ _ => .putLog ..)) <| .each (fun _ _ => .publishPart ..)

theorem Keeps.voidWrite (s : State) (id : CmdId) (st : Status) (cause : Nat) : Keeps s (s.voidWrite id st cause) := by
  unfold State.voidWrite
  split
  · exact .refl _
  · refine .ite (.refl _) ?_
    refine .ite (.finish ..) ?_
    split
    · exact .finish ..
    · exact .comp (.record ..) <| .comp (.needReg ..) <| .comp (.each (fun _ _ => .comp (.ite (.closeEarly ..) (.refl _)) <| .modBand ..)) <|
        .comp (.log ..) <| .modFlight ..

theorem Keeps.tryWrite (s : State) (id : CmdId) : Keeps s (s.tryWrite id) := by
  unfold State.tryWrite
  split
  · exact .refl _
  · exact .ite (.comp (.finish ..) <| .publish ..) (.refl _)

theorem Keeps.placeBlock (s : State) (id : CmdId) (x : Ns) (lba : Nat) (data : Block) (slot : BitVec 512) :
    Keeps s (s.placeBlock id x lba data slot) := by
  unfold State.placeBlock
  split
  · exact .refl _
  · dsimp only
    split
    · exact .comp (.ite (.toLog ..) (.refl _)) <| .putAt ..
    · exact .toLog ..

theorem Keeps.resteer (s : State) (id : CmdId) : Keeps s (s.resteer id) := by
  unfold State.resteer
  exact .modFlight ..

theorem Keeps.placeAll (s : State) (id : CmdId) (x : Ns) (l : List (Nat × Block × BitVec 512)) : Keeps s (s.placeAll id x l) := by
  unfold State.placeAll
  dsimp only
  split
  · exact .comp (.modFlight ..) <| .each (fun _ _ => .placeBlock ..)
  · exact .comp (.each (fun _ _ => .advance ..)) <| .comp (.modFlight ..) <| .each (fun _ _ => .placeBlock ..)

theorem Keeps.placeZeros (s : State) (id : CmdId) : Keeps s (s.placeZeros id) := by
  unfold State.placeZeros
  split
  · exact .refl _
  · split
    · exact .refl _
    · exact .comp (.placeAll ..) <| .resteer ..

theorem Keeps.workRange (s : State) (id : CmdId) (x : Ns) (lo n : Nat) : Keeps s (s.workRange id x lo n) := by
  unfold State.workRange
  exact .comp (.ite (.releaseRec ..) (.rangeDone ..)) <| .comp (.modNs ..) <| .comp (.upd (by rfl)) <| .modFlight ..

theorem Keeps.dsmGo (s : State) (id : CmdId) : Keeps s (s.dsmGo id) := by
  unfold State.dsmGo
  split
  · exact .refl _
  · split
    · exact .refl _
    · exact .each (fun _ _ => .workRange ..)

theorem Keeps.dsmLocks (s : State) (id : CmdId) : Keeps s (s.dsmLocks id) := by
  unfold State.dsmLocks
  split
  · exact .refl _
  · exact .each (fun _ _ => .ite (.refl _) (.ite (.takeLock ..) (.refl _)))

theorem Keeps.stage8 (s : State) (id : CmdId) : Keeps s (s.stage8 id) := by
  unfold State.stage8
  split
  · exact .refl _
  · dsimp only
    refine .ite (.comp (.upd (by rfl)) <| .comp (.issueRead ..) <| .modFlight ..) ?_
    refine .ite ?_ ?_
    · refine .ite ?_ ?_
      · split
        · refine .comp (.releaseRec ..) ?_
          split
          · exact .comp (.useMap ..) <| .modFlight ..
          · exact .modFlight ..
        · split
          · exact .comp (.useMap ..) <| .modFlight ..
          · exact .modFlight ..
      · refine .comp (.settle ..) <| .comp (.placeZeros ..) ?_
        split
        · exact .comp (.useMap ..) <| .modFlight ..
        · exact .modFlight ..
    · split
      · exact .comp (.useMap ..) <| .modFlight ..
      · exact .modFlight ..

theorem Keeps.askParts (s : State) (id : CmdId) (fuel : Nat) : Keeps s (s.askParts id fuel) := by
  induction fuel generalizing s with
  | zero => exact .refl _
  | succ fuel ih =>
    unfold State.askParts
    split
    · exact .refl _
    · dsimp only
      refine .ite (.refl _) (.ite (.comp (ih _) <| .modFlight ..) (.ite (.comp (ih _) <| .modFlight ..) (.refl _)))

theorem Keeps.stage7 (s : State) (id : CmdId) : Keeps s (s.stage7 id) := by
  unfold State.stage7
  split
  · exact .refl _
  · exact .ite (.comp (.dsmGo ..) <| .comp (.dsmLocks ..) <| .comp (.dsmGo ..) <| .modFlight ..) (.comp (.ite (.comp (.askParts ..) <|
      .comp (.stage8 ..) <| .modFlight ..) (.refl _)) <| .holdAt ..)

theorem Keeps.stage6 (s : State) (id : CmdId) : Keeps s (s.stage6 id) := by
  unfold State.stage6
  split
  · exact .refl _
  · exact .ite (.comp (.ite (.stage7 ..) (.holdAt ..)) <| .comp (.dsmLocks ..) <| .modFlight ..) (.ite (.comp (.ite (.stage7 ..) (.holdAt ..)) <|
      .grantLocks ..) (.ite (.comp (.ite (.stage7 ..) (.holdAt ..)) <| .takeLock ..) (.ite (.holdAt ..) (.comp (.stage7 ..) <|
      .comp (.modFlight ..) <| .comp (.upd (by rfl)) <| .log ..))))

theorem Keeps.runBlock (s : State) (id : CmdId) : Keeps s (s.runBlock id) := by
  unfold State.runBlock
  split
  next t e => exact .ofSnd e <| .toStage6 ..
  next t1 e1 =>
    split
    · exact .ofSnd e1 <| .toStage6 ..
    · exact .comp (.ite (.finish ..) (.ite (.finish ..) (.stage6 ..))) <| .ofSnd e1 <| .toStage6 ..

theorem Answers.ioCmd {valid : Prop} (op : Nat) (c : Cmd) (s : State) : Answers valid s (ioCmd op c s) := by
  unfold Machine.ioCmd
  exact .ite (.next (.refl _)) (.next (.comp (.settleJobs ..) <| .comp (.runBlock ..) <| .comp (.intake ..) <| .cmdArrives ..))

theorem Answers.execRead {valid : Prop} (c : Cmd) (s : State) : Answers valid s (execRead c s) := by
  unfold Machine.execRead
  exact .ioCmd ..

theorem Answers.execWrite {valid : Prop} (c : Cmd) (s : State) : Answers valid s (execWrite c s) := by
  unfold Machine.execWrite
  exact .ioCmd ..

theorem Answers.execFlush {valid : Prop} (c : Cmd) (s : State) : Answers valid s (execFlush c s) := by
  unfold Machine.execFlush
  exact .ioCmd ..

theorem Answers.execCompare {valid : Prop} (c : Cmd) (s : State) : Answers valid s (execCompare c s) := by
  unfold Machine.execCompare
  exact .ioCmd ..

theorem Answers.execVerify {valid : Prop} (c : Cmd) (s : State) : Answers valid s (execVerify c s) := by
  unfold Machine.execVerify
  exact .ioCmd ..

theorem Answers.execWriteZeroes {valid : Prop} (c : Cmd) (s : State) : Answers valid s (execWriteZeroes c s) := by
  unfold Machine.execWriteZeroes
  exact .ioCmd ..

theorem Answers.execDatasetManagement {valid : Prop} (c : Cmd) (s : State) : Answers valid s (execDatasetManagement c s) := by
  unfold Machine.execDatasetManagement
  exact .ioCmd ..

theorem Answers.execStagingReserved {valid : Prop} (id : CmdId) (s : State) : Answers valid s (execStagingReserved id s) := by
  unfold Machine.execStagingReserved
  split
  · exact .next (.refl _)
  · exact .ite (.next (.stage7 ..)) (.next (.comp (.sendWaiting ..) <| .askParts ..))

theorem Answers.execRangeLockGrant {valid : Prop} (id : CmdId) (s : State) : Answers valid s (execRangeLockGrant id s) := by
  unfold Machine.execRangeLockGrant
  split
  · exact .next (.refl _)
  · exact .ite (.next (.comp (.dsmGo ..) <| .comp (.grantLocks ..) <| .dsmLocks ..)) (.ite (.next (.comp (.stage6 ..) <|
      .grantLocks ..)) (.next (.refl _)))

theorem Answers.execWriteDataArrival {valid : Prop} (id : CmdId) (first : Nat) (data : List Block) (pi : List (BitVec 512)) (digestOk busOk : Bool)
    (s : State) : Answers valid s (execWriteDataArrival id first data pi digestOk busOk s) := by
  unfold Machine.execWriteDataArrival
  split
  · exact .next (.refl _)
  · split
    · exact .next (.refl _)
    · refine .ite (.next (.refl _)) ?_
      split
      · exact .next (.comp (.settle ..) <| .comp (.voidWrite ..) <| .comp (.log ..) <| .bump ..)
      · refine .ite (.next (.comp (.settle ..) <| .voidWrite ..)) ?_
        dsimp only
        split
        · exact .next (.comp (.settle ..) <| .voidWrite ..)
        · exact .next (.comp (.settle ..) <| .comp (.askParts ..) <| .comp (.placeAll ..) <| .ite (.resteer ..) (.refl _))

theorem Answers.execWriteComplete {valid : Prop} (id : CmdId) (s : State) : Answers valid s (execWriteComplete id s) := by
  unfold Machine.execWriteComplete
  split
  · exact .next (.refl _)
  · exact .ite (.next (.comp (.settle ..) <| .tryWrite ..)) (.next (.refl _))

theorem Keeps.ioReceive (s : State) (c : Cmd) (x : Ns) : Keeps s (s.ioReceive c x) := by
  unfold State.ioReceive
  exact .ite (.finish ..) (.finish ..)

theorem Keeps.ioSend (s : State) (c : Cmd) (x : Ns) : Keeps s (s.ioSend c x) := by
  unfold State.ioSend
  exact .ite (.finish ..) (.comp (.finish ..) <| .each (fun _ _ => .dropHandle ..))

theorem Keeps.runPlacement (s : State) (id : CmdId) : Keeps s (s.runPlacement id) := by
  unfold State.runPlacement
  split
  next t e => exact .ofSnd e <| .toStage6 ..
  next t1 e1 =>
    split
    · exact .ofSnd e1 <| .toStage6 ..
    · split
      · exact .ofSnd e1 <| .toStage6 ..
      · exact .comp (.ite (.ioReceive ..) (.ioSend ..)) <| .ofSnd e1 <| .toStage6 ..

theorem Answers.execIoManagementReceive {valid : Prop} (c : Cmd) (s : State) : Answers valid s (execIoManagementReceive c s) := by
  unfold Machine.execIoManagementReceive
  exact .ite (.next (.refl _)) (.next (.comp (.runPlacement ..) <| .comp (.intake ..) <| .cmdArrives ..))

theorem Answers.execIoManagementSend {valid : Prop} (c : Cmd) (s : State) : Answers valid s (execIoManagementSend c s) := by
  unfold Machine.execIoManagementSend
  exact .ite (.next (.refl _)) (.next (.comp (.runPlacement ..) <| .comp (.intake ..) <| .cmdArrives ..))

theorem Keeps.drainOne (s : State) (id : CmdId) (sqDel : Bool) (cause : Nat) : Keeps s (s.drainOne id sqDel cause) := by
  unfold State.drainOne
  dsimp only
  split
  · exact .modFlight ..
  · refine .ite (.comp (.ite (.comp (.finish ..) <| .publish ..) (.voidWrite ..)) <| .modFlight ..) ?_
    refine .ite (.modFlight ..) ?_
    refine .ite ?_ (.comp (.finish ..) <| .comp (.upd (by rfl)) <| .modFlight ..)
    split
    · exact .comp (.ite (.finish ..) (.refl _)) <| .comp (.modFlight ..) <| .modFlight ..
    · exact .comp (.modFlight ..) <| .modFlight ..

theorem Keeps.drainWhere (s : State) (p : CmdId → Bool) (sqDel : Bool) (cause : Nat) : Keeps s (s.drainWhere p sqDel cause).2 := by
  unfold State.drainWhere
  dsimp only
  refine .comp (.settle ..) <| .comp (.each fun _ _ => .drainOne ..) ?_
  split
  · exact .each fun _ _ => .post ..
  · exact .upd (by rfl)

/-! ## What the operations of `Search` keep -/

theorem Keeps.setEnt (s : State) (k : Nat) (e : TEnt) : Keeps s (s.setEnt k e) := by
  unfold State.setEnt
  exact ⟨rfl, rfl, fun h => by simp_all [State.sound, Srch.sound, Cells.wf_put]⟩

theorem Keeps.setRow (s : State) (k : Nat) (e : TEnt) : Keeps s (s.setRow k e) := by
  unfold State.setRow
  exact ⟨rfl, rfl, fun h => by simp_all [State.sound, Srch.sound, Cells.wf_put]⟩

theorem Keeps.bankStat (s : State) (b off k : Nat) : Keeps s (s.bankStat b off k) := by
  unfold State.bankStat
  exact .upd (by rfl)

theorem Keeps.verifyHit (s : State) (t : Nat) (key : BitVec 192) (k : Nat) : Keeps s (s.verifyHit t key k).2.2 := by
  unfold State.verifyHit
  dsimp only
  split
  · exact .comp (u := (s.setEnt k {}).log 0x0803 [k / 16384, k % 16384, t]) (.log ..) <| .setEnt ..
  · split
    · exact .refl _
    · dsimp only
      exact .comp (.log ..) <| .comp (.bankStat ..) <| .comp (.bump ..) <| .setRow ..

theorem Keeps.search (s : State) (t banks : Nat) (key : BitVec 192) : Keeps s (s.search t banks key).2.2 := by
  unfold State.search
  dsimp only
  refine .comp (.each fun _ _ => .comp (.ite (.bankStat ..) (.refl _)) (.ite (.bankStat ..) (.refl _))) <|
    .comp (.foldSnd fun _ _ => ?_) <| .each fun _ _ => .bankStat ..
  exact .verifyHit ..

theorem Keeps.addCursor (s : State) (c : Cursor) : Keeps s (s.addCursor c) := by
  unfold State.addCursor
  exact .upd (by rfl)

theorem Keeps.endCursor (s : State) (token : Nat) : Keeps s (s.endCursor token) := by
  unfold State.endCursor
  exact .upd (by rfl)

theorem Keeps.endBankCursors (s : State) (b : Nat) : Keeps s (s.endBankCursors b) := by
  unfold State.endBankCursors
  exact .upd (by rfl)

theorem Keeps.vendorIntake (s : State) (op : Nat) (c : Cmd) : Keeps s (s.vendorIntake op c) := by
  unfold State.vendorIntake
  dsimp only
  refine .ite (.refuse ..) ?_
  refine .ite (.refuse ..) ?_
  refine .ite (.refuse ..) ?_
  refine .ite ?_ (.upd (by rfl))
  split
  · exact .refuse ..
  · exact .ite (.refuse ..) (.ite (.refuse ..) (.ite (.refuse ..) (.upd (by rfl))))

theorem Keeps.lookup (s : State) (f : Flight) (long : Bool) : Keeps s (s.lookup f long) := by
  unfold State.lookup
  dsimp only
  refine .ite (.finish ..) ?_
  split
  · exact .comp (.finish ..) <| .search ..
  · refine .comp (.post ..) ?_
    split
    · exact .comp (.addCursor ..) <| .search ..
    · dsimp only
      exact .search ..

theorem Keeps.batchOn (s : State) (f : Flight) (slot : Nat) : Keeps s (s.batchOn f slot) := by
  unfold State.batchOn
  dsimp only
  refine .comp (.post ..) <| .comp (.addCursor ..) <| .foldSnd fun _ _ => ?_
  exact .search ..

theorem Keeps.batch (s : State) (f : Flight) : Keeps s (s.batch f) := by
  unfold State.batch
  dsimp only
  refine .ite (.finish ..) ?_
  split
  · exact .batchOn ..
  · exact .comp (.upd (by rfl)) <| .modFlight ..

theorem Keeps.keyNext (s : State) (f : Flight) : Keeps s (s.keyNext f) := by
  unfold State.keyNext
  dsimp only
  split
  · exact .finish ..
  · split
    · exact .ite (.finish ..) (.comp (.post ..) <| .endCursor ..)
    · refine .ite (.finish ..) ?_
      split
      · exact .comp (.finish ..) <| .comp (.endCursor ..) <| .search ..
      · exact .comp (.post ..) <| .comp (.upd (by rfl)) <| .search ..

theorem Keeps.keyInsert (s : State) (f : Flight) : Keeps s (s.keyInsert f) := by
  unfold State.keyInsert
  exact .ite (.finish ..) (.ite (.finish ..) (.comp (.finish ..) <| .comp (.endBankCursors ..) <| .setEnt ..))

theorem Keeps.keyDelete (s : State) (f : Flight) : Keeps s (s.keyDelete f) := by
  unfold State.keyDelete
  exact .ite (.finish ..) (.comp (.finish ..) <| .comp (.endBankCursors ..) <| .setEnt ..)

theorem Keeps.modSl (s : State) (l : Nat) (f : LaneSt → LaneSt) : Keeps s (s.modSl l f) := by
  unfold State.modSl
  exact .upd (by rfl)

theorem Keeps.modScan (s : State) (sid : Nat) (f : Scan → Scan) : Keeps s (s.modScan sid f) := by
  unfold State.modScan
  exact .upd (by rfl)

theorem Keeps.freeLanes (s : State) (sid : Nat) : Keeps s (s.freeLanes sid) := by
  unfold State.freeLanes
  exact .each (fun _ _ => .modSl ..)

theorem Keeps.answerFetch (s : State) (sid : Nat) (c : Cmd) : Keeps s (s.answerFetch sid c) := by
  unfold State.answerFetch
  split
  · exact .finish ..
  · exact .comp (.finish ..) <| .ite (.upd (by rfl)) (.modScan ..)

theorem Keeps.serveFetch (s : State) (sid : Nat) : Keeps s (s.serveFetch sid) := by
  unfold State.serveFetch
  split
  · exact .refl _
  · refine .each (fun _ _ => ?_)
    split
    · exact .finish ..
    · exact .ite (.answerFetch ..) (.refl _)

theorem Keeps.endScan (s : State) (sid st reason : Nat) : Keeps s (s.endScan sid st reason) := by
  unfold State.endScan
  split
  · exact .refl _
  · exact .ite (.refl _) (.comp (.serveFetch ..) <| .comp (.log ..) <| .comp (.modScan ..) <| .freeLanes ..)

theorem Keeps.checkScan (s : State) (sid : Nat) : Keeps s (s.checkScan sid) := by
  unfold State.checkScan
  split
  · exact .refl _
  · exact .ite (.refl _) (.ite (.endScan ..) (.ite (.endScan ..) (.refl _)))

theorem Keeps.endNsScans (s : State) (nsid : Nat) : Keeps s (s.endNsScans nsid) := by
  unfold State.endNsScans
  exact .each (fun _ _ => .endScan ..)

theorem Keeps.cancelScan (s : State) (sid : Nat) : Keeps s (s.cancelScan sid).2 := by
  unfold State.cancelScan
  split
  · exact .refl _
  · exact .comp (.upd (by rfl)) <| .comp (.log ..) <| .freeLanes ..

theorem Keeps.scanStart (s : State) (f : Flight) : Keeps s (s.scanStart f) := by
  unfold State.scanStart
  exact .ite (.finish ..) (.ite (.finish ..) (.ite (.finish ..) (.comp (.finish ..) <| .upd (by rfl))))

theorem Keeps.scanFetch (s : State) (f : Flight) : Keeps s (s.scanFetch f) := by
  unfold State.scanFetch
  dsimp only
  split
  · exact .finish ..
  · exact .ite (.finish ..) (.ite (.comp (.modScan ..) <| .modFlight ..) (.answerFetch ..))

theorem Keeps.scanCancel (s : State) (f : Flight) : Keeps s (s.scanCancel f) := by
  unfold State.scanCancel
  dsimp only
  split
  · exact .finish ..
  · exact .ite (.finish ..) (.comp (.finish ..) <| .comp (.each (fun _ _ => .finish ..)) <| .cancelScan ..)

theorem Keeps.runVendor (s : State) (id : CmdId) : Keeps s (s.runVendor id) := by
  unfold State.runVendor
  split
  next t e => exact .ofSnd e <| .toStage6 ..
  next t1 e1 =>
    split
    · exact .ofSnd e1 <| .toStage6 ..
    · split
      · exact .comp (.ite (.batch ..) (.lookup ..)) <| .ofSnd e1 <| .toStage6 ..
      · exact .comp (.keyNext ..) <| .ofSnd e1 <| .toStage6 ..
      · exact .comp (.keyInsert ..) <| .ofSnd e1 <| .toStage6 ..
      · exact .comp (.keyDelete ..) <| .ofSnd e1 <| .toStage6 ..
      · exact .comp (.scanStart ..) <| .ofSnd e1 <| .toStage6 ..
      · exact .comp (.scanFetch ..) <| .ofSnd e1 <| .toStage6 ..
      · exact .comp (.scanCancel ..) <| .ofSnd e1 <| .toStage6 ..

theorem Answers.vendorCmd {valid : Prop} (op : Nat) (c : Cmd) (s : State) : Answers valid s (vendorCmd op c s) := by
  unfold Machine.vendorCmd
  exact .ite (.next (.refl _)) (.next (.comp (.runVendor ..) <| .comp (.vendorIntake ..) <| .cmdArrives ..))

theorem Answers.lookupCmd {valid : Prop} (form : Nat) (c : Cmd) (s : State) : Answers valid s (lookupCmd form c s) := by
  unfold Machine.lookupCmd
  exact .ite (.next (.ite (.refuse ..) (.refl _))) (.vendorCmd ..)

theorem Answers.execKeyLookupShort {valid : Prop} (c : Cmd) (s : State) : Answers valid s (execKeyLookupShort c s) := by
  unfold Machine.execKeyLookupShort
  exact .lookupCmd ..

theorem Answers.execKeyLookupLong {valid : Prop} (c : Cmd) (s : State) : Answers valid s (execKeyLookupLong c s) := by
  unfold Machine.execKeyLookupLong
  exact .lookupCmd ..

theorem Answers.execKeyLookupBatch {valid : Prop} (c : Cmd) (s : State) : Answers valid s (execKeyLookupBatch c s) := by
  unfold Machine.execKeyLookupBatch
  exact .lookupCmd ..

theorem Answers.execKeyNext {valid : Prop} (c : Cmd) (s : State) : Answers valid s (execKeyNext c s) := by
  unfold Machine.execKeyNext
  exact .vendorCmd ..

theorem Answers.execKeyInsert {valid : Prop} (c : Cmd) (s : State) : Answers valid s (execKeyInsert c s) := by
  unfold Machine.execKeyInsert
  exact .vendorCmd ..

theorem Answers.execKeyDelete {valid : Prop} (c : Cmd) (s : State) : Answers valid s (execKeyDelete c s) := by
  unfold Machine.execKeyDelete
  exact .vendorCmd ..

theorem Answers.execScanStart {valid : Prop} (c : Cmd) (s : State) : Answers valid s (execScanStart c s) := by
  unfold Machine.execScanStart
  exact .vendorCmd ..

theorem Answers.execScanFetch {valid : Prop} (c : Cmd) (s : State) : Answers valid s (execScanFetch c s) := by
  unfold Machine.execScanFetch
  exact .vendorCmd ..

theorem Answers.execScanCancel {valid : Prop} (c : Cmd) (s : State) : Answers valid s (execScanCancel c s) := by
  unfold Machine.execScanCancel
  exact .vendorCmd ..

theorem Answers.execCursorFreed {valid : Prop} (tenant : Nat) (s : State) : Answers valid s (execCursorFreed tenant s) := by
  unfold Machine.execCursorFreed
  dsimp only
  split
  · split
    · exact .next (.comp (.batchOn ..) <| .upd (by rfl))
    · exact .next (.refl _)
  · exact .next (.refl _)

theorem Answers.execCursorExpiry {valid : Prop} (token : Nat) (s : State) : Answers valid s (execCursorExpiry token s) := by
  unfold Machine.execCursorExpiry
  exact .next (.endCursor ..)

theorem Keeps.scrubRow (s : State) (k : Nat) : Keeps s (s.scrubRow k) := by
  unfold State.scrubRow
  exact .ite (.comp (.log ..) <| .setEnt ..) (.ite (.refl _) (.comp (.log ..) <| .comp (.bankStat ..) <| .comp (.bump ..) <| .setRow ..))

theorem Answers.execTcamScrub {valid : Prop} (bank : Nat) (s : State) (hn : valid → bank < 16) : Answers valid s (execTcamScrub bank s) := by
  unfold Machine.execTcamScrub
  exact .guard hn (.ite (.next (.refl _)) (.next (.each (fun _ _ => .scrubRow ..))))

theorem Answers.execTcamInj {valid : Prop} (p : Path) (v : Word) (s : State) : Answers valid s (execTcamInj p v s) := by
  unfold Machine.execTcamInj
  exact .winWrite (fun _ => .ite (.refl _) (.ite (.setReg ..) (.comp (.ite (.setRow ..) (.refl _)) <| .setReg ..)))

theorem Answers.imageCmd {valid : Prop} {c : Cmd} {ok : Bool} {s : State} {f : Nat → State → State} (h : ∀ n t, Keeps t (f n t)) :
    Answers valid s (imageCmd c ok s f) := by
  unfold Machine.imageCmd
  exact .adminOf fun _ => .check (h ..)

theorem Keeps.storePiece (s : State) (t : Nat) (c : Cmd) : Keeps s (s.storePiece t c) := by
  unfold State.storePiece
  exact .upd (by rfl)

theorem Answers.execPatternImageLoad {valid : Prop} (c : Cmd) (s : State) : Answers valid s (execPatternImageLoad c s) := by
  unfold Machine.execPatternImageLoad
  exact .imageCmd (fun _ _ => .comp (.post ..) <| .storePiece ..)

theorem Keeps.setBank (s : State) (b : Nat) (x : ABank) : Keeps s { s with srch.abanks := s.srch.abanks.put abank0 b x } :=
  .updSound fun h => by simp_all [State.sound, Srch.sound, Cells.wf_put]

theorem Answers.execPatternImageLoadFinal {valid : Prop} (c : Cmd) (structOk : Bool) (s : State) :
    Answers valid s (execPatternImageLoadFinal c structOk s) := by
  unfold Machine.execPatternImageLoadFinal
  dsimp only
  refine .imageCmd fun _ _ => ?_
  split
  · exact .comp (.refuse ..) <| .storePiece ..
  · split
    · exact .comp (.refuse ..) <| .storePiece ..
    · split
      · exact .comp (.refuse ..) <| .storePiece ..
      · refine .comp (.post ..) <| .comp (.log ..) <| .comp (.upd (by rfl)) <| .comp (.each fun _ _ => ?_) <| .storePiece ..
        exact .setBank ..

theorem Answers.execPatternImageUnload {valid : Prop} (c : Cmd) (s : State) : Answers valid s (execPatternImageUnload c s) := by
  unfold Machine.execPatternImageUnload
  refine .imageCmd fun _ _ => .ite (.refuse ..) (.ite (.refuse ..) (.comp (.post ..) <| .comp (.log ..) <| .each fun _ _ => ?_))
  exact .setBank ..

theorem Answers.execScanChunk {valid : Prop} (lane : Nat) (cands : List Candidate) (unreadable guardBad : List Nat) (ecc : List (Nat × Bool))
    (s : State) (hn : valid → lane < 64) : Answers valid s (execScanChunk lane cands unreadable guardBad ecc s) := by
  unfold Machine.execScanChunk
  split
  next h => exact .inr ⟨fun x => absurd h (by have := hn x; omega), _, rfl⟩
  · split
    · exact .next (.refl _)
    · split
      · exact .next (.refl _)
      · dsimp only
        refine .ite (.next (.refl _)) <| .next <| .comp (.modScan ..) <| .comp (.modSl ..) <| .comp (.each fun _ _ => .log ..) <| .each fun _ _ => ?_
        exact .ite (.comp (.log ..) <| .comp (.bankStat ..) <| .bump ..) (.comp (.bankStat ..) <| .bump ..)

theorem Answers.execScanRelease {valid : Prop} (lane : Nat) (s : State) (hn : valid → lane < 64) : Answers valid s (execScanRelease lane s) := by
  unfold Machine.execScanRelease
  split
  next h => exact .inr ⟨fun x => absurd h (by have := hn x; omega), _, rfl⟩
  · split
    · exact .next (.refl _)
    · split
      · exact .next (.refl _)
      · exact .ite (.next (.refl _)) <| .next <| .comp (.serveFetch ..) <| .comp (.checkScan ..) <| .comp (.modSl ..) <| .modScan ..

theorem Answers.execScanFetchWaitExpiry {valid : Prop} (id : CmdId) (s : State) : Answers valid s (execScanFetchWaitExpiry id s) := by
  unfold Machine.execScanFetchWaitExpiry
  split
  · exact .next (.refl _)
  · split
    · exact .next (.answerFetch ..)
    · exact .next (.refl _)

theorem Answers.execScanExpiry {valid : Prop} (scan : Nat) (s : State) : Answers valid s (execScanExpiry scan s) := by
  unfold Machine.execScanExpiry
  split
  · exact .next (.refl _)
  · exact .ite (.next (.refl _)) (.next (.upd (by rfl)))

theorem Keeps.drainSearch (s : State) (p : Nat → Bool) : Keeps s (s.drainSearch p) := by
  unfold State.drainSearch
  exact .comp (.each (fun _ _ => .cancelScan ..)) <| .upd (by rfl)

theorem Keeps.clearSrch (s : State) : Keeps s s.clearSrch := by
  unfold State.clearSrch
  exact ⟨rfl, rfl, fun h => by simp_all [State.sound, Srch.sound]⟩

theorem Answers.execSearchStatistics {valid : Prop} (c : Cmd) (s : State) : Answers valid s (execSearchStatistics c s) := by
  unfold Machine.execSearchStatistics
  exact .adminCmd (fun _ => .page ..)

/-! ## What the operations of `Flash` keep -/

theorem Keeps.fetching (s : State) (i : Issuer) : Keeps s (s.fetching i) := by
  unfold State.fetching
  split
  · exact .upd (by rfl)
  · exact .refl _

theorem Answers.eflWrite {valid : Prop} {i : Issuer} {off : Nat} {s : State} {f : State → State} (h : ∀ t, Keeps t (f t)) :
    Answers valid s (eflWrite i off s f) := by
  unfold Machine.eflWrite
  split
  · exact .winWrite h
  · exact .ite (.next <| .comp (h _) <| .fetching ..) (.next (.refl _))
  · exact .ite (.next (h _)) (.next (.refl _))

theorem Keeps.flErr (s : State) (bit : Nat) : Keeps s (s.flErr bit) := by
  unfold State.flErr
  exact .raise ..

theorem Keeps.relock (s : State) : Keeps s s.relock := by
  unfold State.relock
  exact .upd (by rfl)

theorem Keeps.seqErr (s : State) : Keeps s s.seqErr := by
  unfold State.seqErr
  exact .comp (.flErr ..) <| .relock ..

theorem Keeps.fwLog (s : State) (code : Nat) (ps : List Nat) : Keeps s (s.fwLog code ps) := by
  unfold State.fwLog
  exact .ite (.log ..) (.refl _)

theorem Keeps.flStart (s : State) (op a : Nat) (data : BitVec 256) (iss : Issuer) : Keeps s (s.flStart op a data iss) := by
  unfold State.flStart
  split
  · exact .comp (.fwLog ..) <| .comp (.upd (by rfl)) <| .comp (.flErr ..) <| .relock ..
  · exact .comp (.upd (by rfl)) <| .relock ..

theorem Keeps.ownedWrite {s : State} {i : Issuer} {f : State → State} (h : Keeps s (f s)) : Keeps s (s.ownedWrite i f) :=
  .ite (.flErr ..) h

theorem Keeps.flKey (s : State) (i : Issuer) (v : Nat) : Keeps s (s.flKey i v) := by
  unfold State.flKey
  exact .ownedWrite (.ite (.flErr ..) (.ite (.upd (by rfl)) (.ite (.upd (by rfl)) (.seqErr ..))))

theorem Keeps.flCmd (s : State) (i : Issuer) (v : Nat) : Keeps s (s.flCmd i v) := by
  unfold State.flCmd
  exact .ownedWrite (.ite (.upd (by rfl)) (.seqErr ..))

theorem Keeps.flAddr (s : State) (i : Issuer) (v : Nat) : Keeps s (s.flAddr i v) := by
  unfold State.flAddr
  exact .ownedWrite (.ite (.seqErr ..) (.ite (.upd (by rfl)) (.flStart ..)))

theorem Keeps.flData (s : State) (i : Issuer) (n v : Nat) : Keeps s (s.flData i n v) := by
  unfold State.flData
  exact .ownedWrite (.ite (.seqErr ..) (.ite (.upd (by rfl)) (.flStart ..)))

theorem Answers.execFlKey {valid : Prop} (i : Issuer) (v : Word) (s : State) : Answers valid s (execFlKey i v s) := by
  unfold Machine.execFlKey
  exact .eflWrite (fun _ => .flKey ..)

theorem Answers.execFlCmd {valid : Prop} (i : Issuer) (v : Word) (s : State) : Answers valid s (execFlCmd i v s) := by
  unfold Machine.execFlCmd
  exact .eflWrite (fun _ => .flCmd ..)

theorem Answers.execFlSequenceStep {valid : Prop} (i : Issuer) (off : Nat) (v : Word) (s : State) :
    Answers valid s (execFlSequenceStep i off v s) := by
  unfold Machine.execFlSequenceStep
  exact .ite (.eflWrite (fun _ => .flAddr ..)) (.ite (.eflWrite (fun _ => .flData ..)) (.next (.refl _)))

theorem Answers.execFlSequenceLate {valid : Prop} (s : State) : Answers valid s (execFlSequenceLate s) := by
  unfold Machine.execFlSequenceLate
  exact .ite (.next (.refl _)) (.next (.seqErr ..))

theorem Answers.execProgram {valid : Prop} (i : Issuer) (v : Word) (s : State) : Answers valid s (execProgram i v s) := by
  unfold Machine.execProgram
  exact .eflWrite (fun _ => .flData ..)

theorem Answers.execEraseSector {valid : Prop} (i : Issuer) (v : Word) (s : State) : Answers valid s (execEraseSector i v s) := by
  unfold Machine.execEraseSector
  exact .eflWrite (fun _ => .flAddr ..)

theorem Answers.execEraseBank {valid : Prop} (i : Issuer) (v : Word) (s : State) : Answers valid s (execEraseBank i v s) := by
  unfold Machine.execEraseBank
  exact .eflWrite (fun _ => .flAddr ..)

theorem Answers.execReadMarkers {valid : Prop} (i : Issuer) (v : Word) (s : State) : Answers valid s (execReadMarkers i v s) := by
  unfold Machine.execReadMarkers
  exact .eflWrite (fun _ => .flAddr ..)

theorem Answers.execClearEraseFlag {valid : Prop} (i : Issuer) (v : Word) (s : State) : Answers valid s (execClearEraseFlag i v s) := by
  unfold Machine.execClearEraseFlag
  exact .eflWrite (fun _ => .flAddr ..)

theorem Keeps.flLoad (s : State) (e : EccOutcome) : Keeps s (s.flLoad e) := by
  unfold State.flLoad
  dsimp only
  refine .ite (.comp (.upd (by rfl)) <| .upd (by rfl)) ?_
  split
  · exact .comp (.upd (by rfl)) <| .upd (by rfl)
  · exact .comp (.fwLog ..) <| .comp (.upd (by rfl)) <| .comp (.flErr ..) <| .comp (.bump ..) <| .upd (by rfl)
  · exact .comp (.fwLog ..) <| .comp (.upd (by rfl)) <| .comp (.took ..) <| .comp (.flErr ..) <| .comp (.bump ..) <| .upd (by rfl)

theorem Keeps.flRead (s : State) (v : Nat) (e : EccOutcome) : Keeps s (s.flRead v e) := by
  unfold State.flRead
  exact .comp (.ite (.upd (by rfl)) (.flLoad ..)) <| .upd (by rfl)

theorem Answers.execFlashRead {valid : Prop} (p : Path) (v : Word) (ecc : EccOutcome) (s : State) : Answers valid s (execFlashRead p v ecc s) := by
  unfold Machine.execFlashRead
  exact .winWrite (fun _ => .flRead ..)

theorem Keeps.eraseMix (s : State) (lo hi : Nat) : Keeps s (s.eraseMix lo hi) := by
  unfold State.eraseMix
  exact ⟨rfl, rfl, fun h => by simp_all [State.sound, Cells.wf_every]⟩

theorem Keeps.eraseFails (s : State) (secs : List Nat) : Keeps s (s.eraseFails secs) := by
  unfold State.eraseFails
  exact .comp (.each (fun _ _ => .ite (.eraseMix ..) (.comp (.upd (by rfl)) <| .eraseWords ..))) <| .upd (by rfl)

theorem Keeps.clearFlags (s : State) (l : List Nat) : Keeps s (s.clearFlags l) := by
  unfold State.clearFlags
  exact .upd (by rfl)

theorem Keeps.flDone (s : State) (verified : Bool) : Keeps s (s.flDone verified) := by
  unfold State.flDone
  split
  · exact .refl _
  · dsimp only
    split
    · refine .comp (.flLoad ..) ?_
      split
      · exact .comp (.ite (.comp (.flErr ..) <| .setFword ..) (.comp (.fwLog ..) <| .comp (.upd (by rfl)) <| .comp (.flErr ..) <|
          .comp (.flErr ..) <| .setFword ..)) <| .upd (by rfl)
      · exact .comp (.flErr ..) <| .comp (.upd (by rfl)) <| .upd (by rfl)
      · exact .comp (.ite (.comp (.flErr ..) <| .clearFlags ..) (.comp (.fwLog ..) <| .comp (.upd (by rfl)) <| .flErr ..)) <| .upd (by rfl)
      · exact .comp (.ite (.comp (.flErr ..) <| .comp (.clearFlags ..) <| .eraseWords ..) (.comp (.fwLog ..) <| .comp (.upd (by rfl)) <|
          .comp (.flErr ..) <| .comp (.flErr ..) <| .eraseFails ..)) <| .upd (by rfl)
    · split
      · exact .comp (.ite (.comp (.flErr ..) <| .setFword ..) (.comp (.fwLog ..) <| .comp (.upd (by rfl)) <| .comp (.flErr ..) <|
          .comp (.flErr ..) <| .setFword ..)) <| .upd (by rfl)
      · exact .comp (.flErr ..) <| .comp (.upd (by rfl)) <| .upd (by rfl)
      · exact .comp (.ite (.comp (.flErr ..) <| .clearFlags ..) (.comp (.fwLog ..) <| .comp (.upd (by rfl)) <| .flErr ..)) <| .upd (by rfl)
      · exact .comp (.ite (.comp (.flErr ..) <| .comp (.clearFlags ..) <| .eraseWords ..) (.comp (.fwLog ..) <| .comp (.upd (by rfl)) <|
          .comp (.flErr ..) <| .comp (.flErr ..) <| .eraseFails ..)) <| .upd (by rfl)

theorem Answers.execFlashOpDone {valid : Prop} (verified : Bool) (s : State) : Answers valid s (execFlashOpDone verified s) := by
  unfold Machine.execFlashOpDone
  exact .next (.flDone ..)

theorem Keeps.flInterrupt (s : State) : Keeps s s.flInterrupt := by
  unfold State.flInterrupt
  split
  · exact .refl _
  · dsimp only
    split
    · exact .comp (.setFword ..) <| .comp (.took ..) <| .upd (by rfl)
    · exact .comp (.eraseMix ..) <| .upd (by rfl)
    · exact .comp (.eraseMix ..) <| .upd (by rfl)
    · exact .upd (by rfl)

/-! ## What the operations of `Dma` keep -/

theorem Keeps.chEvent (s : State) (ch bit : Nat) : Keeps s (s.chEvent ch bit) := by
  unfold State.chEvent
  exact .comp (.ite (.upd (by rfl)) (.refl _)) <| .raise ..

theorem Keeps.chHalt (s : State) (ch cause : Nat) : Keeps s (s.chHalt ch cause) := by
  unfold State.chHalt
  exact .comp (.chEvent ..) <| .modChan ..

theorem Answers.chanWrite {valid : Prop} {p : Path} {ch : Nat} {s : State} {f : State → State} (hn : valid → ch < 32) (h : ∀ t, Keeps t (f t)) :
    Answers valid s (chanWrite p ch s f) :=
  .guard hn <| .winWrite fun _ => .ite (h _) (.refl _)

theorem Keeps.dmaStart (s : State) (p : Path) (ch : Nat) : Keeps s (s.dmaStart p ch) := by
  unfold State.dmaStart
  exact .ite (.refl _) (.comp (.ite (.chHalt ..) (.comp (.ite (.chHalt ..) (.refl _)) <| .modChan ..)) <| .modChan ..)

theorem Keeps.dmaAbort (s : State) (ch : Nat) : Keeps s (s.dmaAbort ch) := by
  unfold State.dmaAbort
  exact .modChan ..

theorem Keeps.dmaResume (s : State) (ch : Nat) : Keeps s (s.dmaResume ch) := by
  unfold State.dmaResume
  exact .ite (.refl _) (.comp (.ite (.chHalt ..) (.refl _)) <| .modChan ..)

theorem Answers.execDmaStart {valid : Prop} (p : Path) (ch : Nat) (s : State) (hn : valid → ch < 32) : Answers valid s (execDmaStart p ch s) := by
  unfold Machine.execDmaStart
  exact .chanWrite hn (fun _ => .dmaStart ..)

theorem Answers.execDmaAbort {valid : Prop} (p : Path) (ch : Nat) (s : State) (hn : valid → ch < 32) : Answers valid s (execDmaAbort p ch s) := by
  unfold Machine.execDmaAbort
  exact .chanWrite hn (fun _ => .dmaAbort ..)

theorem Answers.execDmaResume {valid : Prop} (p : Path) (ch : Nat) (s : State) (hn : valid → ch < 32) : Answers valid s (execDmaResume p ch s) := by
  unfold Machine.execDmaResume
  exact .chanWrite hn (fun _ => .dmaResume ..)

theorem Answers.execDescriptorFetch {valid : Prop} (ch : Nat) (d : Descriptor) (s : State) (hn : valid → ch < 32) :
    Answers valid s (execDescriptorFetch ch d s) := by
  unfold Machine.execDescriptorFetch
  exact .guard hn (.ite (.next (.refl _)) (.ite (.next (.chHalt ..)) (.ite (.next (.comp (.chHalt ..) <| .modChan ..)) (.next (.modChan ..)))))

theorem Keeps.flashWord (s : State) (iss addr : Nat) (data : BitVec 256) (verified : Bool) : Keeps s (s.flashWord iss addr data verified).1 := by
  unfold State.flashWord
  split
  · dsimp only
    exact .comp (.fwLog ..) <| .comp (.upd (by rfl)) <| .flErr ..
  · dsimp only
    split
    · dsimp only
      exact .comp (.setFword ..) <| .comp (.flErr ..) <| .upd (by rfl)
    · exact .comp (.fwLog ..) <| .comp (.upd (by rfl)) <| .comp (.flErr ..) <| .comp (.setFword ..) <| .comp (.flErr ..) <| .upd (by rfl)

theorem Keeps.flashBurst (s : State) (iss addr : Nat) (data : List Byte) (n : Nat) : Keeps s (s.flashBurst iss addr data n).1 := by
  induction n generalizing s addr data with
  | zero => exact .refl _
  | succ n ih =>
    unfold State.flashBurst
    dsimp only
    split
    · exact .comp (ih ..) <| .flashWord ..
    · exact .flashWord ..

theorem Keeps.flashFails (s : State) (iss start a : Nat) : Keeps s (s.flashFails iss start a).1 := by
  unfold State.flashFails
  dsimp only
  split
  · dsimp only
    exact .comp (.flashBurst ..) <| .upd (by rfl)
  · dsimp only
    exact .comp (.flashWord ..) <| .comp (.flashBurst ..) <| .upd (by rfl)

theorem Keeps.burstMoved (s : State) (ch : Nat) (d : Descriptor) : Keeps s (s.burstMoved ch d) := by
  unfold State.burstMoved
  exact .comp (.ite (.refl _) (.comp (.ite (.modChan ..) (.modChan ..)) <| .ite (.chEvent ..) (.refl _))) <| .comp (.ite (.chEvent ..) (.refl _)) <|
      .modChan ..

theorem Keeps.flashHalt (s : State) (ch a : Nat) : Keeps s (s.flashHalt ch a) := by
  unfold State.flashHalt
  exact .comp (.chHalt ..) <| .modChan ..

theorem Keeps.burstDone (s : State) (ch : Nat) (d : Descriptor) (data : List Byte) : Keeps s (s.burstDone ch d data) := by
  unfold State.burstDone
  refine .ite ?_ (.burstMoved ..)
  dsimp only
  split
  · exact .comp (.flashHalt ..) <| .flashBurst ..
  · exact .comp (.burstMoved ..) <| .flashBurst ..

theorem Keeps.burst (s : State) (ch : Nat) (fin : BurstEnd) : Keeps s (s.burst ch fin) := by
  unfold State.burst
  dsimp only
  split
  · exact .refl _
  · split
    · exact .burstDone ..
    · exact .ite (.comp (.flashHalt ..) <| .flashFails ..) (.refl _)
    · exact .ite (.refl _) (.comp (.ite (.comp (.chHalt ..) <| .modChan ..) (.modChan ..)) <| .ite (.comp (.fwLog ..) <| .comp (.upd (by rfl)) <|
        .comp (.flErr ..) <| .bump ..) (.refl _))

theorem Answers.execDmaBurst {valid : Prop} (fin : BurstEnd) (s : State) : Answers valid s (execDmaBurst fin s) := by
  unfold Machine.execDmaBurst
  split
  · exact .next (.refl _)
  · exact .next (.comp (.burst ..) <| .upd (by rfl))

theorem Answers.execDmaRetry {valid : Prop} (ch : Nat) (fin : BurstEnd) (s : State) (hn : valid → ch < 32) :
    Answers valid s (execDmaRetry ch fin s) := by
  unfold Machine.execDmaRetry
  exact .guard hn (.ite (.next (.refl _)) (.next (.comp (.ite (.burst ..) (.refl _)) <| .modChan ..)))

theorem Keeps.dmaBusLost (s : State) : Keeps s s.dmaBusLost := by
  unfold State.dmaBusLost
  exact .each (fun _ _ => .chHalt ..)

theorem Answers.execBusMasterClear {valid : Prop} (s : State) : Answers valid s (execBusMasterClear s) := by
  unfold Machine.execBusMasterClear
  exact .next (.comp (.dmaBusLost ..) <| .upd (by rfl))

/-! ## What the operations of `Ctrl` keep -/

theorem Keeps.resume (s : State) (id : CmdId) : Keeps s (s.resume id) := by
  unfold State.resume
  split
  · exact .refl _
  · exact .ite (.runPlacement ..) (.ite (.runVendor ..) (.runBlock ..))

theorem Answers.execBarrierPass {valid : Prop} (id : CmdId) (s : State) : Answers valid s (execBarrierPass id s) := by
  unfold Machine.execBarrierPass
  split
  · exact .next (.refl _)
  · exact .ite (.next (.resume ..)) (.next (.refl _))

theorem Answers.execCreateIoCompletionQueue {valid : Prop} (c : Cmd) (s : State) : Answers valid s (execCreateIoCompletionQueue c s) := by
  unfold Machine.execCreateIoCompletionQueue
  exact .adminCmd (fun _ => .ite (.refuse ..) (.ite (.refuse ..) (.ite (.refuse ..) (.check (.comp (.post ..) <| .modCtrl ..)))))

theorem Answers.execCreateIoSubmissionQueue {valid : Prop} (c : Cmd) (s : State) : Answers valid s (execCreateIoSubmissionQueue c s) := by
  unfold Machine.execCreateIoSubmissionQueue
  exact .adminCmd (fun _ => .ite (.refuse ..) (.ite (.refuse ..) (.ite (.refuse ..) (.check (.ite (.refuse ..) (.comp (.post ..) <| .modCtrl ..))))))

theorem Answers.execDeleteIoCompletionQueue {valid : Prop} (c : Cmd) (s : State) : Answers valid s (execDeleteIoCompletionQueue c s) := by
  unfold Machine.execDeleteIoCompletionQueue
  exact .adminCmd (fun _ => .ite (.refuse ..) (.ite (.refuse ..) (.ite (.refuse ..) (.comp (.post ..) <| .modCtrl ..))))

theorem Keeps.settleSqDels (s : State) (ctrl : Nat) : Keeps s (s.settleSqDels ctrl) := by
  unfold State.settleSqDels
  exact .each (fun _ _ => .ite (.refl _) (.comp (.post ..) <| .comp (.upd (by rfl)) <| .modCtrl ..))

theorem Keeps.deleteSq (s : State) (c : Cmd) (qid : Nat) : Keeps s (s.deleteSq c qid) := by
  unfold State.deleteSq
  dsimp only
  exact .comp (.settleSqDels ..) <| .comp (.drainWhere ..) <| .modCtrl ..

theorem Keeps.putOff (s : State) (l : Later) : Keeps s (s.putOff l) := by
  unfold State.putOff
  exact .upd (by rfl)

theorem Answers.execDeleteIoSubmissionQueue {valid : Prop} (c : Cmd) (s : State) : Answers valid s (execDeleteIoSubmissionQueue c s) := by
  unfold Machine.execDeleteIoSubmissionQueue
  exact .adminCmd (fun _ => .ite (.refuse ..) (.ite (.refuse ..) (.ite (.putOff ..) (.deleteSq ..))))

theorem Answers.execDoorbellWrite {valid : Prop} (ctrl sq tail : Nat) (s : State) : Answers valid s (execDoorbellWrite ctrl sq tail s) := by
  unfold Machine.execDoorbellWrite
  exact .ite (.next (.refl _)) (.next (.modCtrl ..))

theorem Keeps.closeConns (s : State) (ctrl : Nat) : Keeps s (s.closeConns ctrl) := by
  unfold State.closeConns
  exact .upd (by rfl)

theorem Keeps.beginDrain (s : State) (ctrl cause : Nat) : Keeps s (s.beginDrain ctrl cause) := by
  unfold State.beginDrain
  dsimp only
  exact .comp (.modCtrl ..) <| .comp (.ite (.modTenant ..) (.refl _)) <| .comp (.drainWhere ..) <| .comp (.drainSearch ..) <| .modCtrl ..

theorem Keeps.resetCtrl (s : State) (ctrl cause : Nat) : Keeps s (s.resetCtrl ctrl cause) := by
  unfold State.resetCtrl
  exact .ite (.refl _) (.comp (.ite (.refl _) (.ite (.putOff ..) (.comp (.beginDrain ..) <| .modCtrl ..))) <| .modCtrl ..)

theorem Keeps.loseAssoc (s : State) (ctrl cause : Nat) : Keeps s (s.loseAssoc ctrl cause) := by
  unfold State.loseAssoc
  exact .ite (.refl _) (.ite (.putOff ..) (.comp (.beginDrain ..) <| .comp (.closeConns ..) <| .modCtrl ..))

theorem Keeps.loseConn (s : State) (conn cause : Nat) : Keeps s (s.loseConn conn cause) := by
  unfold State.loseConn
  split
  · exact .refl _
  · dsimp only
    split
    · exact .comp (.loseAssoc ..) <| .upd (by rfl)
    · exact .upd (by rfl)

theorem Answers.execControllerReset {valid : Prop} (ctrl : Nat) (s : State) : Answers valid s (execControllerReset ctrl s) := by
  unfold Machine.execControllerReset
  exact .ite (.next (.refl _)) (.next (.resetCtrl ..))

theorem Answers.execCcEnable {valid : Prop} (ctrl : Nat) (s : State) : Answers valid s (execCcEnable ctrl s) := by
  unfold Machine.execCcEnable
  exact .ite (.next (.refl _)) (.next (.modCtrl ..))

theorem Keeps.shutdownCtrl (s : State) (ctrl shn : Nat) : Keeps s (s.shutdownCtrl ctrl shn) := by
  unfold State.shutdownCtrl
  exact .ite (.refl _) (.comp (.beginDrain ..) <| .modCtrl ..)

theorem Answers.execShutdownNotification {valid : Prop} (ctrl : Nat) (shn : BitVec 2) (s : State) :
    Answers valid s (execShutdownNotification ctrl shn s) := by
  unfold Machine.execShutdownNotification
  exact .ite (.next (.refl _)) (.next (.shutdownCtrl ..))

theorem Keeps.discNotice (s : State) (hosts : List Nat) : Keeps s (s.discNotice hosts) := by
  unfold State.discNotice
  exact .each (fun _ _ => .aen ..)

theorem Keeps.dropConn (s : State) (conn : Nat) : Keeps s (s.dropConn conn) := by
  unfold State.dropConn
  exact .upd (by rfl)

theorem Keeps.serveConnect (s : State) (c : Cmd) (r : ConnectReq) : Keeps s (s.serveConnect c r) := by
  unfold State.serveConnect
  split
  · exact .dropConn ..
  · exact .ite (.upd (by rfl)) (.ite (.dropConn ..) (.ite (.refuse ..) (.ite (.refuse ..) (.ite (.comp (.post ..) <| .comp (.upd (by rfl)) <|
      .comp (.modCtrl ..) <| .upd (by rfl)) (.ite (.refuse ..) (.comp (.post ..) <| .comp (.upd (by rfl)) <| .modCtrl ..))))))

theorem Answers.execConnect {valid : Prop} (c : Cmd) (r : ConnectReq) (s : State) : Answers valid s (execConnect c r s) := by
  unfold Machine.execConnect
  exact .ite (.next (.refl _)) (.ite (.next (.comp (.serveConnect ..) <| .ite (.upd (by rfl)) (.refl _))) (.next (.ite (.upd (by rfl)) (.refl _))))

theorem Keeps.serveHeld (s : State) : Keeps s s.serveHeld := by
  unfold State.serveHeld
  exact .comp (.each (fun _ _ => .serveConnect ..)) <| .upd (by rfl)

theorem Answers.fabricCmd {valid : Prop} {c : Cmd} {s : State} {f : State → State} (h : ∀ t, Keeps t (f t)) : Answers valid s (fabricCmd c s f) :=
  .ite (.next <| .comp (h _) <| .cmdArrives ..) (.ite (.next (.refuse ..)) (.next (.refl _)))

theorem Answers.execAuthenticationSend {valid : Prop} (c : Cmd) (s : State) : Answers valid s (execAuthenticationSend c s) := by
  unfold Machine.execAuthenticationSend
  exact .fabricCmd (fun _ => .post ..)

theorem Answers.execAuthenticationReceive {valid : Prop} (c : Cmd) (ok : Bool) (s : State) : Answers valid s (execAuthenticationReceive c ok s) := by
  unfold Machine.execAuthenticationReceive
  exact .fabricCmd (fun _ => .ite (.comp (.post ..) <| .modCtrl ..) (.comp (.loseAssoc ..) <| .log ..))

theorem Keeps.authFirst {c : Cmd} {s : State} {f : State → State} (h : Keeps s (f s)) : Keeps s (authFirst c s f) :=
  .ite (.refuse ..) h

theorem Keeps.writeCc (s : State) (ctrl v : Nat) : Keeps s (s.writeCc ctrl v) := by
  unfold State.writeCc
  exact .ite (.ite (.resetCtrl ..) (.refl _)) (.comp (.shutdownCtrl ..) <| .ite (.modCtrl ..) (.refl _))

theorem Answers.execPropertySet {valid : Prop} (c : Cmd) (s : State) : Answers valid s (execPropertySet c s) := by
  unfold Machine.execPropertySet
  exact .fabricCmd (fun _ => .authFirst (.ite (.comp (.writeCc ..) <| .post ..) (.refuse ..)))

theorem Answers.execPropertyGet {valid : Prop} (c : Cmd) (s : State) : Answers valid s (execPropertyGet c s) := by
  unfold Machine.execPropertyGet
  exact .fabricCmd (fun _ => .authFirst (.ite (.post ..) (.refuse ..)))

theorem Answers.execDisconnect {valid : Prop} (c : Cmd) (s : State) : Answers valid s (execDisconnect c s) := by
  unfold Machine.execDisconnect
  exact .fabricCmd (fun _ => .authFirst (.ite (.comp (.resetCtrl ..) <| .comp (.closeConns ..) <| .post ..) (.ite (.putOff ..) (.deleteSq ..))))

theorem Answers.execKeepAlive {valid : Prop} (c : Cmd) (s : State) : Answers valid s (execKeepAlive c s) := by
  unfold Machine.execKeepAlive
  exact .adminCmd (fun _ => .ite (.putOff ..) (.post ..))

theorem Answers.execAbort {valid : Prop} (c : Cmd) (s : State) : Answers valid s (execAbort c s) := by
  unfold Machine.execAbort
  exact .adminCmd (fun _ => .post ..)

theorem Answers.execAsynchronousEventRequest {valid : Prop} (c : Cmd) (s : State) : Answers valid s (execAsynchronousEventRequest c s) := by
  unfold Machine.execAsynchronousEventRequest
  refine .adminCmd (fun _ => ?_)
  dsimp only
  refine .ite (.refuse ..) ?_
  split
  · exact .comp (.post ..) <| .modCtrl ..
  · exact .modCtrl ..

theorem Answers.execIcreq {valid : Prop} (conn port entry pfv maxr2t hpda : Nat) (tls hdgst ddgst noSuccess : Bool) (s : State) :
    Answers valid s (execIcreq conn port entry pfv maxr2t hpda tls hdgst ddgst noSuccess s) := by
  unfold Machine.execIcreq
  exact .ite (.next (.refl _)) (.ite (.next (.upd (by rfl))) (.next (.upd (by rfl))))

theorem Answers.execTcpTimeout {valid : Prop} (conn : Nat) (s : State) : Answers valid s (execTcpTimeout conn s) := by
  unfold Machine.execTcpTimeout
  exact .next (.loseConn ..)

theorem Answers.execKeepAliveTimeout {valid : Prop} (ctrl : Nat) (s : State) : Answers valid s (execKeepAliveTimeout ctrl s) := by
  unfold Machine.execKeepAliveTimeout
  exact .ite (.next (.refl _)) (.next (.loseAssoc ..))

theorem Answers.execRdmaRetryExhausted {valid : Prop} (conn : Nat) (s : State) : Answers valid s (execRdmaRetryExhausted conn s) := by
  unfold Machine.execRdmaRetryExhausted
  exact .next (.loseConn ..)

theorem Answers.execConnectionLoss {valid : Prop} (conn : Nat) (s : State) : Answers valid s (execConnectionLoss conn s) := by
  unfold Machine.execConnectionLoss
  exact .next (.comp (.loseConn ..) <| .took ..)

theorem Keeps.pcieDown (s : State) : Keeps s s.pcieDown := by
  unfold State.pcieDown
  exact .ite (.refl _) (.comp (.log ..) <| .comp (.each (fun _ _ => .resetCtrl ..)) <| .comp (.dmaBusLost ..) <| .upd (by rfl))

theorem Answers.execPcieLink {valid : Prop} (s : State) : Answers valid s (execPcieLink s) := by
  unfold Machine.execPcieLink
  exact .next (.pcieDown ..)

theorem Answers.execPcieLinkUp {valid : Prop} (speed width : Nat) (flit sris : Bool) (s : State) :
    Answers valid s (execPcieLinkUp speed width flit sris s) := by
  unfold Machine.execPcieLinkUp
  exact .ite (.next (.refl _)) (.next (.comp (.log ..) <| .upd (by rfl)))

/-! ## What the operations of `Namespaces` keep -/

theorem Keeps.nsChanged (s : State) (l : List Nat) (x : Ns) : Keeps s (s.nsChanged l x) := by
  unfold State.nsChanged
  exact .each (fun _ _ => .comp (.aen ..) <| .modCtrl ..)

theorem Keeps.addNs (s : State) (x : Ns) : Keeps s (s.addNs x) := by
  unfold State.addNs
  exact .comp (.upd (by rfl)) <| .comp (.took ..) <| .took ..

theorem Answers.execNamespaceCreate {valid : Prop} (c : Cmd) (s : State) : Answers valid s (execNamespaceCreate c s) := by
  unfold Machine.execNamespaceCreate
  refine .adminCmd (fun _ => ?_)
  dsimp only
  refine .ite (.refuse ..) ?_
  refine .ite (.refuse ..) ?_
  split
  · exact .refuse ..
  · exact .check (.ite (.refuse ..) (.comp (.settle ..) <| .comp (.writeRoot ..) <| .addNs ..))

theorem Keeps.setJob (s : State) (x : Ns) (job : Nat) (id : Option CmdId) : Keeps s (s.setJob x job id) := by
  unfold State.setJob
  exact .comp (.modNs ..) <| .endNsScans ..

theorem Answers.execNamespaceDelete {valid : Prop} (c : Cmd) (s : State) : Answers valid s (execNamespaceDelete c s) := by
  unfold Machine.execNamespaceDelete
  refine .adminCmd (fun _ => ?_)
  refine .ite (.refuse ..) ?_
  split
  · exact .refuse ..
  · exact .ite (.refuse ..) (.comp (.settle ..) <| .comp (.nsChanged ..) <| .setJob ..)

theorem Keeps.attach (s : State) (x : Ns) (sel : Nat) (ids : List Nat) : Keeps s (s.attach x sel ids) := by
  unfold State.attach
  exact .modNs ..

theorem Answers.execNamespaceAttachment {valid : Prop} (c : Cmd) (s : State) : Answers valid s (execNamespaceAttachment c s) := by
  unfold Machine.execNamespaceAttachment
  refine .adminCmd (fun _ => ?_)
  split
  · exact .refuse ..
  · exact .check (.comp (.post ..) <| .comp (.nsChanged ..) <| .attach ..)

theorem Keeps.startFormat (s : State) (x : Ns) (c : Cmd) : Keeps s (s.startFormat x c) := by
  unfold State.startFormat
  exact .comp (.modNs ..) <| .setJob ..

theorem Answers.execFormatNvm {valid : Prop} (c : Cmd) (s : State) : Answers valid s (execFormatNvm c s) := by
  unfold Machine.execFormatNvm
  refine .adminCmd (fun _ => ?_)
  dsimp only
  split
  · exact .refuse ..
  · exact .ite (.refuse ..) (.ite (.refuse ..) (.ite (.refuse ..) (.check (.comp (.settle ..) <| .startFormat ..))))

theorem Keeps.sanitizeStart (s : State) (c : Cmd) (act : Nat) : Keeps s (s.sanitizeStart c act) := by
  unfold State.sanitizeStart
  exact .ite (.refuse ..) (.comp (.settle ..) <| .comp (.post ..) <| .comp (.each (fun _ _ => .setJob ..)) <| .upd (by rfl))

theorem Answers.execCryptoErase {valid : Prop} (c : Cmd) (s : State) : Answers valid s (execCryptoErase c s) := by
  unfold Machine.execCryptoErase
  exact .adminCmd (fun _ => .sanitizeStart ..)

theorem Answers.execBlockErase {valid : Prop} (c : Cmd) (s : State) : Answers valid s (execBlockErase c s) := by
  unfold Machine.execBlockErase
  exact .adminCmd (fun _ => .sanitizeStart ..)

theorem Answers.execOverwrite {valid : Prop} (c : Cmd) (s : State) : Answers valid s (execOverwrite c s) := by
  unfold Machine.execOverwrite
  exact .adminCmd (fun _ => .refuse ..)

theorem Keeps.makeSlices (s : State) (p : Nat) : Keeps s (s.makeSlices p) := by
  unfold State.makeSlices
  exact .ite (.refl _) (.comp (.log ..) <| .comp (.writeRoot ..) <| .each (fun _ _ => .addNs ..))

theorem Keeps.dropSlices (s : State) (p : Nat) : Keeps s (s.dropSlices p) := by
  unfold State.dropSlices
  exact .ite (.refl _) (.comp (.settle ..) <| .comp (.log ..) <| .each (fun _ _ => .setJob ..))

/-! ## What the operations of `Tenants` keep -/

theorem Answers.execTenantCreate {valid : Prop} (c : Cmd) (s : State) : Answers valid s (execTenantCreate c s) := by
  unfold Machine.execTenantCreate
  exact .adminCmd (fun _ => .ite (.refuse ..) (.ite (.refuse ..) (.ite (.refuse ..) (.upd (by rfl)))))

theorem Keeps.presentVf (s : State) (t v : Nat) : Keeps s (s.presentVf t v) := by
  unfold State.presentVf
  exact .ite (.refl _) (.modCtrl ..)

theorem Keeps.install (s : State) (i : Install) : Keeps s (s.install i) := by
  unfold State.install
  exact .comp (.post ..) <| .comp (.log ..) <| .comp (.presentVf ..) <| .comp (.modTenant ..) <| .comp (.each (fun _ _ => .setBoth ..)) <|
      .comp (.each (fun _ _ => .comp (.endBankCursors ..) <| .setBoth ..)) <| .each (fun _ _ => .setBoth ..)

theorem Keeps.drainTenant (s : State) (t : Nat) : Keeps s (s.drainTenant t) := by
  unfold State.drainTenant
  exact .comp (.each (fun _ _ => .ite (.modCtrl ..) (.comp (.beginDrain ..) <| .modCtrl ..))) <| .modTenant ..

theorem Keeps.clearBanks (s : State) (t : Nat) : Keeps s (s.clearBanks t) := by
  unfold State.clearBanks
  exact ⟨rfl, rfl, fun h => by simp_all [State.sound, Srch.sound, Cells.wf_filter]⟩

theorem Keeps.tenantDone (s : State) (t : Nat) : Keeps s (s.tenantDone t) := by
  unfold State.tenantDone
  dsimp only
  refine .ite (.refl _) ?_
  split
  · exact .comp (.serveHeld ..) <| .ite (.refl _) (.comp (.modTenant ..) <| .comp (.each (fun _ _ => .post ..)) <| .comp (.log ..) <| .took ..)
  · exact .comp (.ite (.refl _) (.comp (.settle ..) <| .comp (.upd (by rfl)) <| .comp (.each (fun _ _ => .setJob ..)) <| .comp (.clearBanks ..) <|
      .serveHeld ..)) <| .ite (.refl _) (.comp (.modTenant ..) <| .comp (.each (fun _ _ => .post ..)) <| .comp (.log ..) <| .took ..)

theorem Keeps.tenantReset (s : State) (c : Cmd) : Keeps s (s.tenantReset c) := by
  unfold State.tenantReset
  exact .comp (.ite (.refl _) (.comp (.tenantDone ..) <| .drainTenant ..)) <| .modTenant ..

theorem Keeps.tenantDelete (s : State) (c : Cmd) : Keeps s (s.tenantDelete c) := by
  unfold State.tenantDelete
  exact .ite (.comp (.upd (by rfl)) <| .modTenant ..) (.comp (.ite (.refl _) (.comp (.tenantDone ..) <| .drainTenant ..)) <| .modTenant ..)

theorem Answers.execTenantReset {valid : Prop} (c : Cmd) (s : State) : Answers valid s (execTenantReset c s) := by
  unfold Machine.execTenantReset
  exact .adminCmd (fun _ => .check (.ite (.putOff ..) (.tenantReset ..)))

theorem Answers.execTenantDelete {valid : Prop} (c : Cmd) (s : State) : Answers valid s (execTenantDelete c s) := by
  unfold Machine.execTenantDelete
  exact .adminCmd (fun _ => .check (.ite (.putOff ..) (.tenantDelete ..)))

theorem Keeps.freeSlot (s : State) (f : Free) : Keeps s (s.freeSlot f) := by
  unfold State.freeSlot
  extract_lets t s₁ s₂ s₃ v s₄ hosts s₅ _ s₆
  have h₁ : Keeps s s₁ := .each fun _ _ => .setBoth ..
  have h₂ : Keeps s s₂ := .comp (.each fun _ _ => .comp (.endBankCursors ..) <| .setBoth ..) h₁
  have h₃ : Keeps s s₃ := .comp (.each fun _ _ => .setBoth ..) h₂
  have h₄ : Keeps s s₄ := .comp (.ite (.refl _) (.modCtrl ..)) h₃
  have h₅ : Keeps s s₅ := .comp (.modTenant ..) h₄
  clear_value s₅
  exact .comp (.discNotice ..) <| .comp (.upd (by rfl)) h₅

theorem Keeps.settleFrees (s : State) : Keeps s s.settleFrees := by
  unfold State.settleFrees
  exact .each (fun _ _ => .comp (.ite (.upd (by rfl)) (.comp (.each (fun _ _ => .post ..)) <| .comp (.log ..) <| .upd (by rfl))) <|
      .ite (.refl _) (.freeSlot ..))

theorem Keeps.ctrlGone (s : State) (ctrl : Nat) : Keeps s (s.ctrlGone ctrl) := by
  unfold State.ctrlGone
  exact .comp (.modCtrl ..) <| .closeConns ..

theorem Keeps.ctrlClear (s : State) (ctrl : Nat) : Keeps s (s.ctrlClear ctrl) := by
  unfold State.ctrlClear
  exact .modCtrl ..

theorem Answers.execDrainComplete {valid : Prop} (ctrl : Nat) (s : State) : Answers valid s (execDrainComplete ctrl s) := by
  unfold Machine.execDrainComplete
  exact .ite (.next (.settleSqDels ..)) (.ite (.next (.comp (.modCtrl ..) <| .settleSqDels ..)) (.ite (.next (.comp (.tenantDone ..) <|
      .comp (.ite (.ctrlClear ..) (.ctrlGone ..)) <| .settleSqDels ..)) (.ite (.next (.comp (.ctrlGone ..) <|
      .settleSqDels ..)) (.ite (.next (.comp (.serveHeld ..) <| .comp (.log ..) <| .comp (.ctrlGone ..) <|
      .settleSqDels ..)) (.next (.comp (.ite (.comp (.serveHeld ..) <| .ctrlGone ..) (.ctrlClear ..)) <| .comp (.log ..) <| .settleSqDels ..))))))

theorem Answers.execFlr {valid : Prop} (fn : Nat) (s : State) : Answers valid s (execFlr fn s) := by
  unfold Machine.execFlr
  exact .ite (.next (.ite (.dmaBusLost ..) (.refl _))) (.next (.comp (.resetCtrl ..) <| .ite (.dmaBusLost ..) (.refl _)))

theorem Answers.modifyCmd {valid : Prop} {action : Nat} {c : Cmd} {argOk : Bool} {s : State} {f : Nat → State → State} (h : ∀ n t, Keeps t (f n t)) :
    Answers valid s (modifyCmd action c argOk s f) :=
  .adminCmd fun _ => .check (h ..)

theorem Keeps.modified (s : State) (t action arg : Nat) : Keeps s (s.modified t action arg) := by
  unfold State.modified
  exact .log ..

theorem Answers.execResources {valid : Prop} (c : Cmd) (s : State) : Answers valid s (execResources c s) := by
  unfold Machine.execResources
  exact .modifyCmd (fun _ _ => .check (.stageFor ..))

theorem Keeps.setHosts (s : State) (t : Nat) (l : List HostEnt) : Keeps s (s.setHosts t l) := by
  unfold State.setHosts
  exact .ite (.upd (by rfl)) (.modTenant ..)

theorem Answers.execHosts {valid : Prop} (c : Cmd) (s : State) : Answers valid s (execHosts c s) := by
  unfold Machine.execHosts
  exact .modifyCmd (fun _ _ => .check (.comp (.post ..) <| .comp (.modified ..) <| .comp (.discNotice ..) <| .setHosts ..))

theorem Keeps.unbindVf (s : State) (v : Nat) : Keeps s (s.unbindVf v) := by
  unfold State.unbindVf
  exact .ite (.refl _) (.ite (.modCtrl ..) (.comp (.beginDrain ..) <| .modCtrl ..))

theorem Keeps.bind (s : State) (t v : Nat) : Keeps s (s.bind t v) := by
  unfold State.bind
  exact .comp (.ite (.presentVf ..) (.refl _)) <| .comp (.modTenant ..) <| .ite (.unbindVf ..) (.refl _)

theorem Answers.execBindVf {valid : Prop} (c : Cmd) (s : State) : Answers valid s (execBindVf c s) := by
  unfold Machine.execBindVf
  exact .modifyCmd (fun _ _ => .check (.comp (.post ..) <| .comp (.modified ..) <| .bind ..))

theorem Answers.execNsAssign {valid : Prop} (c : Cmd) (s : State) : Answers valid s (execNsAssign c s) := by
  unfold Machine.execNsAssign
  refine .modifyCmd (fun _ _ => ?_)
  split
  · exact .refuse ..
  · exact .check (.comp (.settle ..) <| .comp (.writeRoot ..) <| .comp (.modified ..) <| .comp (.nsChanged ..) <| .modNs ..)

theorem Answers.execNsRelease {valid : Prop} (c : Cmd) (s : State) : Answers valid s (execNsRelease c s) := by
  unfold Machine.execNsRelease
  refine .modifyCmd (fun _ _ => ?_)
  split
  · exact .refuse ..
  · exact .check (.comp (.settle ..) <| .comp (.setJob ..) <| .comp (.modified ..) <| .nsChanged ..)

theorem Answers.execGlobal {valid : Prop} (c : Cmd) (s : State) : Answers valid s (execGlobal c s) := by
  unfold Machine.execGlobal
  exact .modifyCmd (fun _ _ => .check (.comp (.post ..) <| .comp (.modified ..) <| .upd (by rfl)))

theorem Answers.mgrFeature {valid : Prop} {c : Cmd} {s : State} {f : State → State} (h : ∀ t, Keeps t (f t)) : Answers valid s (mgrFeature c s f) :=
  .adminCmd fun _ => .ite (h _) (.refuse ..)

theorem Answers.execTenantQos {valid : Prop} (c : Cmd) (s : State) : Answers valid s (execTenantQos c s) := by
  unfold Machine.execTenantQos
  exact .mgrFeature (fun _ => .check (.stageFor ..))

theorem Keeps.resetSlices (s : State) (mask : Nat) : Keeps s (s.resetSlices mask) := by
  unfold State.resetSlices
  exact .each (fun _ _ => .comp (.resetCtrl ..) <| .took ..)

theorem Answers.execSliceReset {valid : Prop} (p : Path) (v : Word) (s : State) : Answers valid s (execSliceReset p v s) := by
  unfold Machine.execSliceReset
  exact .winWrite (fun _ => .ite (.resetSlices ..) (.refl _))

theorem Answers.execWipe {valid : Prop} (p : Path) (s : State) : Answers valid s (execWipe p s) := by
  unfold Machine.execWipe
  exact .winWrite (fun _ => .ite (.refl _) (.comp (.settle ..) <| .comp (.each (fun _ _ => .setJob ..)) <| .resetSlices ..))

/-! ## What the operations of `Pools` keep -/

theorem Keeps.applySet (s : State) (p logPm spare flags : Nat) (id : CmdId) : Keeps s (s.applySet p logPm spare flags id) := by
  unfold State.applySet
  exact .comp (.settle ..) <| .comp (.writeRoot ..) <| .comp (.log ..) <| .modPool ..

theorem Keeps.makePool (s : State) (p slots logPm spare flags : Nat) (id : CmdId) : Keeps s (s.makePool p slots logPm spare flags id) := by
  unfold State.makePool
  exact .comp (.settle ..) <| .comp (.writeRoot ..) <| .comp (.log ..) <| .comp (.each (fun _ _ => .joinPool ..)) <| .modPool ..

theorem Keeps.poolAct (s : State) (act p : Nat) (a : PoolArgs) (id : CmdId) : Keeps s (s.poolAct act p a id) := by
  unfold State.poolAct
  dsimp only
  split
  · exact .stageFor ..
  · exact .comp (.settle ..) <| .comp (.writeRoot ..) <| .comp (.log ..) <| .each (fun _ _ => .joinPool ..)
  · exact .comp (.settle ..) <| .comp (.writeRoot ..) <| .comp (.log ..) <| .each (fun _ _ => .startDrain ..)
  · exact .ite (.applySet ..) (.stageFor ..)
  · exact .comp (.settle ..) <| .comp (.putRoot ..) <| .comp (.modPool ..) <| .log ..
  · exact .comp (.post ..) <| .log ..

theorem Keeps.poolGo (s : State) (act : Nat) (c : Cmd) : Keeps s (s.poolGo act c) := by
  unfold State.poolGo
  split
  · exact .refuse ..
  · exact .poolAct ..

theorem Answers.poolCmd {valid : Prop} (act : Nat) (c : Cmd) (s : State) : Answers valid s (poolCmd act c s) := by
  unfold Machine.poolCmd
  exact .adminCmd (fun _ => .ite (.upd (by rfl)) (.poolGo ..))

theorem Keeps.runLate (s : State) (p : Nat) : Keeps s (s.runLate p) := by
  unfold State.runLate
  exact .comp (.each (fun _ _ => .poolGo ..)) <| .upd (by rfl)

theorem Answers.execPoolCreate {valid : Prop} (c : Cmd) (s : State) : Answers valid s (execPoolCreate c s) := by
  unfold Machine.execPoolCreate
  exact .poolCmd ..

theorem Answers.execPoolAdd {valid : Prop} (c : Cmd) (s : State) : Answers valid s (execPoolAdd c s) := by
  unfold Machine.execPoolAdd
  exact .poolCmd ..

theorem Answers.execPoolRemove {valid : Prop} (c : Cmd) (s : State) : Answers valid s (execPoolRemove c s) := by
  unfold Machine.execPoolRemove
  exact .poolCmd ..

theorem Answers.execPoolSet {valid : Prop} (c : Cmd) (s : State) : Answers valid s (execPoolSet c s) := by
  unfold Machine.execPoolSet
  exact .poolCmd ..

theorem Answers.execPoolDelete {valid : Prop} (c : Cmd) (s : State) : Answers valid s (execPoolDelete c s) := by
  unfold Machine.execPoolDelete
  exact .poolCmd ..

theorem Answers.execPoolReport {valid : Prop} (c : Cmd) (s : State) : Answers valid s (execPoolReport c s) := by
  unfold Machine.execPoolReport
  exact .poolCmd ..

theorem Answers.cartService {valid : Prop} {act : Nat} {c : Cmd} {s : State} {ok : Nat → State → Option Status} {f : Nat → State → State} (h : ∀ n t, Keeps t (f n t)) :
    Answers valid s (cartService act c s ok f) := by
  refine .adminCmd fun _ => ?_
  dsimp only
  refine .ite (.refuse ..) (.ite (.refuse ..) ?_)
  split
  · exact .refuse ..
  · exact h ..

theorem Keeps.served (s : State) (c : Cmd) (act n : Nat) : Keeps s (s.served c act n) := by
  unfold State.served
  exact .comp (.post ..) <| .log ..

theorem Answers.execDrain {valid : Prop} (c : Cmd) (s : State) : Answers valid s (execDrain c s) := by
  unfold Machine.execDrain
  exact .cartService (fun _ _ => .comp (.settle ..) <| .comp (.served ..) <| .startDrain ..)

theorem Answers.execUndrain {valid : Prop} (c : Cmd) (s : State) : Answers valid s (execUndrain c s) := by
  unfold Machine.execUndrain
  exact .cartService (fun _ _ => .comp (.settle ..) <| .comp (.served ..) <| .comp (.checkNarrow ..) <| .comp (.writeRoot ..) <|
      .comp (.modPool ..) <| .comp (.abandon ..) <| .modSlot ..)

theorem Answers.execSeqUpdate {valid : Prop} (c : Cmd) (s : State) : Answers valid s (execSeqUpdate c s) := by
  unfold Machine.execSeqUpdate
  exact .cartService (fun _ _ => .comp (.ite (.ite (.comp (.modSlot ..) <| .startUpdate ..) (.refl _)) (.startUpdate ..)) <| .modSlot ..)

theorem Answers.execPowerOff {valid : Prop} (c : Cmd) (s : State) : Answers valid s (execPowerOff c s) := by
  unfold Machine.execPowerOff
  exact .cartService (fun _ _ => .comp (.served ..) <| .pwrOff ..)

theorem Answers.execPowerOn {valid : Prop} (c : Cmd) (s : State) : Answers valid s (execPowerOn c s) := by
  unfold Machine.execPowerOn
  exact .cartService (fun _ _ => .comp (.served ..) <| .pwrOn ..)

theorem Answers.execRelease {valid : Prop} (c : Cmd) (s : State) : Answers valid s (execRelease c s) := by
  unfold Machine.execRelease
  exact .cartService (fun _ _ => .comp (.served ..) <| .modSlot ..)

theorem Answers.execRollingSeqUpdate {valid : Prop} (n : Nat) (s : State) (hn : valid → n < 64) : Answers valid s (execRollingSeqUpdate n s) := by
  unfold Machine.execRollingSeqUpdate
  exact .onSlot hn (fun _ => .ite (.refl _) (.comp (.modSlot ..) <| .startUpdate ..))

/-! ## What the operations of `Epoch` keep -/

theorem Keeps.acceptStaged (s : State) (w : StageCmd) : Keeps s (s.acceptStaged w) := by
  unfold State.acceptStaged
  split
  · exact .post ..
  · exact .comp (.post ..) <| .comp (.log ..) <| .modTenant ..
  · exact .makePool ..
  · exact .applySet ..

theorem Keeps.ownersChanged (s : State) (old : Cells Nat) : Keeps s (s.ownersChanged old) := by
  unfold State.ownersChanged
  exact .comp (.ite (.each (fun _ _ => .checkScan ..)) (.refl _)) <| .each (fun _ _ => .endBankCursors ..)

theorem Keeps.applySetR33 (s : State) (m : Cells Nat) (due : List StageCmd) : Keeps { s with dw.inForce := m } (s.applySetR33 m due) := by
  unfold State.applySetR33
  exact .comp (.each fun _ _ => .acceptStaged ..) <| .comp (.ownersChanged ..) <| .raise ..

theorem Keeps.rejectSet (s : State) (m : Cells Nat) (i : CheckIn) (r : Nat) (due : List StageCmd) : Keeps s (s.rejectSet m i r due) := by
  unfold State.rejectSet
  exact .comp (.each (fun _ _ => .post ..)) <| .comp (.each (fun _ _ => .setSh ..)) <| .comp (.log ..) <| .comp (.raise ..) <| .upd (by rfl)

theorem Keeps.boundaryCheck (s : State) : Keeps s s.boundaryCheck := by
  unfold State.boundaryCheck
  split
  · exact ⟨rfl, rfl, fun h => by simp_all [State.sound]⟩
  · dsimp only
    split
    · refine .comp (.applySetR33 ..) ⟨rfl, rfl, fun h => ?_⟩
      cases hw : s.stage.window <;> simp_all [State.sound, Dw.sound]
    · exact .comp (.rejectSet ..) ⟨rfl, rfl, fun h => by simp_all [State.sound]⟩

theorem Keeps.refill (s : State) (c : Nat) : Keeps s (s.refill c) := by
  unfold State.refill
  exact .comp (.upd (by rfl)) <| .each (fun _ _ => .upd (by rfl))

theorem Keeps.passTokens (s : State) (t : Nat) : Keeps s (s.passTokens t) := by
  unfold State.passTokens
  exact .ite (.refl _) (.each (fun _ _ => .upd (by rfl)))

theorem Keeps.refillAll (s : State) : Keeps s s.refillAll := by
  unfold State.refillAll
  exact .comp (.each (fun _ _ => .passTokens ..)) <| .comp (.each (fun _ _ => .resume ..)) <| .each (fun _ _ => .refill ..)

theorem Keeps.afterCheck (s : State) : Keeps s s.afterCheck := by
  unfold State.afterCheck
  exact .comp (.settle ..) <| .comp (.refillAll ..) <| .comp (.each (fun _ _ => .checkLog ..)) <| .comp (.settleFrees ..) <|
      .comp (.each (fun _ _ => .install ..)) <| .upd (by rfl)

theorem Answers.execEpochBoundary {valid : Prop} (s : State) : Answers valid s (execEpochBoundary s) := by
  unfold Machine.execEpochBoundary
  exact .ite (.next (.refl _)) (.next (.comp (.afterCheck ..) <| .comp (.boundaryCheck ..) <| .upd (by rfl)))

/-! ## What the operations of `Firmware` keep -/

theorem Keeps.loadImage (s : State) (slot : Nat) : Keeps s (s.loadImage slot) := by
  unfold State.loadImage
  exact .upd (by rfl)

theorem Keeps.writeBoot (s : State) (f : BootRec → BootRec) : Keeps s (s.writeBoot f) := by
  unfold State.writeBoot
  exact .upd (by rfl)

theorem Keeps.programBlock (s : State) (a : Nat) (b : List Byte) : Keeps s (s.programBlock a b) := by
  unfold State.programBlock
  exact .each (fun _ _ => .setFword ..)

theorem Keeps.downloadBlocks (s : State) (c : Cmd) (base first n : Nat) : Keeps s (s.downloadBlocks c base first n) := by
  induction n generalizing s first with
  | zero => exact .post ..
  | succ n ih =>
    unfold State.downloadBlocks
    exact .ite (.refuse ..) (.comp (ih ..) <| .programBlock ..)

theorem Answers.execFirmwareImageDownload {valid : Prop} (c : Cmd) (s : State) : Answers valid s (execFirmwareImageDownload c s) := by
  unfold Machine.execFirmwareImageDownload
  exact .adminCmd (fun _ => .ite (.refuse ..) (.ite (.refuse ..) (.ite (.comp (.downloadBlocks ..) <| .comp (.log ..) <|
      .comp (.ite (.writeBoot ..) (.refl _)) <| .comp (.upd (by rfl)) <| .comp (.clearFlags ..) <|
      .eraseWords ..) (.ite (.refuse ..) (.ite (.refuse ..) (.downloadBlocks ..))))))

theorem Answers.fwCommit {valid : Prop} {ca : Nat} {c : Cmd} {s : State} {f : Nat → State → State} (h : ∀ n t, Keeps t (f n t)) :
    Answers valid s (fwCommit ca c s f) := by
  refine .adminCmd fun _ => ?_
  dsimp only
  refine .ite (.refuse ..) ?_
  split
  · exact .refuse ..
  · exact .comp (.refuse ..) <| .ite (.log ..) (.refl _)
  · exact .comp (h ..) <| .comp (.log ..) <| .upd (by rfl)

theorem Answers.execReplace {valid : Prop} (c : Cmd) (s : State) : Answers valid s (execReplace c s) := by
  unfold Machine.execReplace
  exact .fwCommit (fun _ _ => .post ..)

theorem Answers.execReplaceActivateNext {valid : Prop} (c : Cmd) (s : State) : Answers valid s (execReplaceActivateNext c s) := by
  unfold Machine.execReplaceActivateNext
  exact .fwCommit (fun _ _ => .comp (.post ..) <| .writeBoot ..)

theorem Answers.execActivateNext {valid : Prop} (c : Cmd) (s : State) : Answers valid s (execActivateNext c s) := by
  unfold Machine.execActivateNext
  exact .fwCommit (fun _ _ => .comp (.post ..) <| .writeBoot ..)

theorem Answers.execReplaceActivateNow {valid : Prop} (c : Cmd) (s : State) : Answers valid s (execReplaceActivateNow c s) := by
  unfold Machine.execReplaceActivateNow
  exact .fwCommit (fun _ _ => .upd (by rfl))

theorem Answers.execActivationPause {valid : Prop} (s : State) : Answers valid s (execActivationPause s) := by
  unfold Machine.execActivationPause
  exact .ite (.next (.refl _)) (.next (.comp (.upd (by rfl)) <| .comp (.loadImage ..) <| .writeBoot ..))

theorem Keeps.doLater (s : State) (l : Later) : Keeps s (s.doLater l) := by
  unfold State.doLater
  split
  · exact .resetCtrl ..
  · exact .loseAssoc ..
  · exact .deleteSq ..
  · exact .tenantReset ..
  · exact .tenantDelete ..
  · exact .post ..

theorem Keeps.newTable (s : State) : Keeps s s.newTable := by
  unfold State.newTable
  exact .comp (.each fun _ _ => .compatStep ..) <| .slots fun h => Cells.wf_every _ _ h

theorem Answers.execPauseEnd {valid : Prop} (s : State) : Answers valid s (execPauseEnd s) := by
  unfold Machine.execPauseEnd
  split
  · exact .next (.refl _)
  · exact .ite (.next (.refl _)) (.next (.comp (.newTable ..) <| .comp (.each (fun _ _ => .resume ..)) <| .comp (.serveHeld ..) <|
      .comp (.each (fun _ _ => .doLater ..)) <| .comp (.post ..) <| .comp (.took ..) <| .comp (.log ..) <| .upd (by rfl)))

theorem Answers.execFirmwareConfirm {valid : Prop} (c : Cmd) (s : State) : Answers valid s (execFirmwareConfirm c s) := by
  unfold Machine.execFirmwareConfirm
  exact .mgrFeature (fun _ => .ite (.refuse ..) (.ite (.refuse ..) (.comp (.post ..) <| .comp (.log ..) <| .comp (.upd (by rfl)) <| .writeBoot ..)))

theorem Answers.execStartedPoint {valid : Prop} (s : State) : Answers valid s (execStartedPoint s) := by
  unfold Machine.execStartedPoint
  exact .ite (.next (.refl _)) (.next (.comp (.upd (by rfl)) <| .writeBoot ..))

theorem Keeps.selectSlot {s t : State} (h : s.selectSlot = some t) : Keeps s t := by
  unfold State.selectSlot at h
  dsimp only at h
  split at h
  · cases h
  · cases h
    exact .comp (.upd (by rfl)) <| .comp (.loadImage ..) <| .comp (.ite (.writeBoot ..) (.refl _)) <| .upd (by rfl)

/-! ## What the operations of `Startup` keep -/

theorem Keeps.endUnits (s : State) (torn : List (Nat × Nat × Nat)) : Keeps s (s.endUnits torn) := by
  unfold State.endUnits
  refine .comp (.upd (by rfl)) <| .each (fun _ _ => ?_)
  dsimp only
  refine .ite ?_ (.took ..)
  split
  · exact .comp (.noteTags ..) <| .comp (.modUnit ..) <| .took ..
  · exact .comp (.upd (by rfl)) <| .took ..
  · exact .comp (.upd (by rfl)) <| .took ..

theorem Keeps.lastRecs (s : State) : Keeps s s.lastRecs := by
  unfold State.lastRecs
  refine .each (fun _ _ => ?_)
  refine .ite (.refl _) ?_
  dsimp only
  split
  · exact .comp (.modBand ..) <| .upd (by rfl)
  · exact .comp (.modBand ..) <| .upd (by rfl)
  · exact .comp (.memberDone ..) <| .upd (by rfl)
  · exact .comp (.takeCopy ..) <| .upd (by rfl)
  · exact .comp (.modPool ..) <| .upd (by rfl)
  · exact .comp (.ite (.modPool ..) (.refl _)) <| .upd (by rfl)

theorem Keeps.renameAll (s : State) (n key : Nat) : Keeps s (s.renameAll n key) := by
  unfold State.renameAll
  dsimp only
  exact .comp (.updSound fun h => by simp_all [State.sound, Media.sound, Cells.wf_every]) <| .rename ..

theorem Keeps.offline (s : State) : Keeps s s.offline := by
  unfold State.offline
  exact .comp (.upd (by rfl)) <| .each (fun _ _ => .renameAll ..)

theorem Keeps.mediaReset (s : State) (torn : List (Nat × Nat × Nat)) : Keeps s (s.mediaReset torn) := by
  unfold State.mediaReset
  dsimp only
  refine .trans (.comp (.offline ..) <| .comp (.lastRecs ..) <| .endUnits s torn) ?_
  exact ⟨rfl, rfl, fun h => by simp_all [State.sound, Media.sound, Cells.wf_every, Cells.wf_filter]⟩

theorem wf_tenantKeys {m : Cells Nat} (h : m.wf stReset = true) : (tenantKeys m).wf stReset = true := Cells.wf_filter _ _ h

theorem Keeps.resetDomains (s : State) (torn : List (Nat × Nat × Nat)) (aon off : Bool) (cause : Nat) :
    Keeps s (s.resetDomains torn aon off cause) := by
  unfold State.resetDomains
  dsimp only
  refine .trans (.comp (.mediaReset ..) <| .flInterrupt s) ⟨rfl, rfl, fun h => ?_⟩
  cases hs : ((s.flInterrupt).mediaReset torn).ten.stored <;>
    simp_all [State.sound, Dw.sound, Ten.sound, Srch.sound, Gbk.sound, Cells.wf_every, Cells.wf_filter, wf_tenantKeys]

theorem Keeps.handleFlag (s : State) (sec : Nat) : Keeps s (s.handleFlag sec).2 := by
  unfold State.handleFlag
  exact .iteSnd (.refl _) (.iteSnd (.clearFlags ..) (.comp (.iteSnd (.comp (.clearFlags ..) <| .eraseWords ..) (.eraseMix ..)) <| .took ..))

theorem Keeps.handleFlags (s : State) : Keeps s s.handleFlags := by
  unfold State.handleFlags
  exact .each (fun _ _ => .comp (.ite (.upd (by rfl)) (.refl _)) <| .comp (.ite (.upd (by rfl)) (.refl _)) <| .handleFlag ..)

theorem Keeps.allOff (s : State) : Keeps s s.allOff := by
  unfold State.allOff
  exact .slots fun h => Cells.wf_every _ _ h

theorem Keeps.enterRescue (s : State) (cause : Nat) : Keeps s (s.enterRescue cause) := by
  unfold State.enterRescue
  exact .comp (.upd (by rfl)) <| .comp (.writeRec ..) <| .comp (.each (fun _ _ => .writeRec ..)) <| .allOff ..

theorem Keeps.powerPresent (s : State) : Keeps s s.powerPresent := by
  unfold State.powerPresent
  exact .each (fun _ _ => .ite (.modSlot ..) (.comp (.askPower ..) <| .modSlot ..))

theorem Keeps.bootRom (s : State) : Keeps s s.bootRom := by
  unfold State.bootRom
  dsimp only
  refine .trans (.handleFlags _) <| .ite (.enterRescue ..) ?_
  split
  next t e => exact .comp (.powerPresent ..) <| .comp (.upd (by rfl)) <| .selectSlot e
  · exact .comp (.enterRescue ..) <| .upd (by rfl)

theorem Keeps.restart (s : State) (cause : Nat) : Keeps s (s.restart cause) := by
  unfold State.restart
  exact .comp (.bootRom ..) <| .resetDomains ..

theorem Keeps.faultRestart (s : State) (code : Nat) (ps : List Nat) : Keeps s (s.faultRestart code ps) := by
  unfold State.faultRestart
  exact .comp (.restart ..) <| .upd (by rfl)

theorem Keeps.releaseStart (s : State) : Keeps s s.releaseStart := by
  unfold State.releaseStart
  exact .ite (.refl _) (.comp (.bootRom ..) <| .upd (by rfl))

theorem Keeps.reseat (s : State) (prsntN : BitVec 64) (moved : List (Nat × Nat)) : Keeps s (s.reseat prsntN moved) := by
  unfold State.reseat
  exact .comp (.each (fun _ _ => .seatCart ..)) <| .each (fun _ _ => .shelve ..)

theorem Answers.execColdStart {valid : Prop} (mode : BitVec 2) (carts : ColdCarts) (s : State) : Answers valid s (execColdStart mode carts s) := by
  unfold Machine.execColdStart
  exact .ite (.next (.refl _)) (.ite (.next (.comp (.upd (by rfl)) <| .comp (.each (fun _ _ => .modSlot ..)) <| .comp (.upd (by rfl)) <|
      .reseat ..)) (.next (.comp (.releaseStart ..) <| .comp (.each (fun _ _ => .modSlot ..)) <| .comp (.upd (by rfl)) <| .reseat ..)))

theorem Answers.execPorstAssert {valid : Prop} (s : State) : Answers valid s (execPorstAssert s) := by
  unfold Machine.execPorstAssert
  exact .next (.comp (.upd (by rfl)) <| .resetDomains ..)

theorem Answers.execPowerLoss {valid : Prop} (torn : List (Nat × Nat × Nat)) (s : State) : Answers valid s (execPowerLoss torn s) := by
  unfold Machine.execPowerLoss
  dsimp only
  refine .next <| .trans (.resetDomains s torn true true 0) ⟨rfl, rfl, fun h => ?_⟩
  simp_all [State.sound, Dw.sound, Cells.wf_every, Cells.wf_filter]

theorem Answers.execClockLoss {valid : Prop} (s : State) : Answers valid s (execClockLoss s) := by
  unfold Machine.execClockLoss
  exact .ite (.next (.refl _)) (.next (.comp (.restart ..) <| .upd (by rfl)))

theorem Answers.execRefclkLoss {valid : Prop} (s : State) : Answers valid s (execRefclkLoss s) := by
  unfold Machine.execRefclkLoss
  exact .ite (.next (.refl _)) (.ite (.next (.upd (by rfl))) (.next (.comp (.upd (by rfl)) <| .resetDomains ..)))

theorem Answers.execRefclkReturn {valid : Prop} (s : State) : Answers valid s (execRefclkReturn s) := by
  unfold Machine.execRefclkReturn
  exact .ite (.next (.refl _)) (.ite (.next (.upd (by rfl))) (.next (.comp (.bootRom ..) <| .comp (.upd (by rfl)) <| .upd (by rfl))))

theorem Keeps.dramTick (s : State) : Keeps s s.dramTick := by
  unfold State.dramTick
  exact .comp (.each (fun _ _ => .upd (by rfl))) <| .each (fun _ _ => .upd (by rfl))

theorem Keeps.gbkTick (s : State) : Keeps s s.gbkTick := by
  unfold State.gbkTick
  exact .upd (by rfl)

theorem Answers.execTempSample {valid : Prop} (readings : List (BitVec 8)) (s : State) : Answers valid s (execTempSample readings s) := by
  unfold Machine.execTempSample
  exact .ite (.next (.comp (.upd (by rfl)) <| .comp (.resetDomains ..) <| .comp (.raise ..) <| .comp (.ite (.gbkTick ..) (.refl _)) <|
      .upd (by rfl))) (.next (.comp (.dramTick ..) <| .comp (.ite (.gbkTick ..) (.refl _)) <| .upd (by rfl)))

theorem Keeps.tapRelease (s : State) : Keeps s s.tapRelease := by
  unfold State.tapRelease
  exact .ite (.comp (.releaseStart ..) <| .upd (by rfl)) (.refl _)

theorem Answers.execTapInstruction {valid : Prop} (code : BitVec 8) (s : State) : Answers valid s (execTapInstruction code s) := by
  unfold Machine.execTapInstruction
  exact .next (.comp (.tapRelease ..) <| .upd (by rfl))

theorem Answers.execTestLogicReset {valid : Prop} (s : State) : Answers valid s (execTestLogicReset s) := by
  unfold Machine.execTestLogicReset
  exact .next (.comp (.tapRelease ..) <| .upd (by rfl))

theorem Keeps.factorySettings (s : State) : Keeps s s.factorySettings := by
  unfold State.factorySettings
  exact .updSound fun h => by simp_all [State.sound, Dw.sound, Ten.sound, Media.sound, Cells.wf_every]

theorem Keeps.loadSettings (s : State) : Keeps s s.loadSettings := by
  unfold State.loadSettings
  dsimp only
  split
  · exact .upd (by rfl)
  · exact .comp (.log ..) <| .comp (.upd (by rfl)) <| .factorySettings ..

theorem Keeps.applySaved (s : State) : Keeps s s.applySaved := by
  unfold State.applySaved
  dsimp only
  split
  · refine .comp (.each (fun _ _ => .modPort ..)) <| .comp (.each (fun _ _ => .setBoth ..)) <| .comp (.each (fun _ _ => .setReg ..)) ?_
    split
    · refine .comp (.ite (.each (fun _ _ => .setReg ..)) (.refl _)) ?_
      split
      · refine .comp (.upd (by rfl)) ?_
        split
        · exact .upd (by rfl)
        · exact .refl _
      · split
        · exact .upd (by rfl)
        · exact .refl _
    · split
      · refine .comp (.upd (by rfl)) ?_
        split
        · exact .upd (by rfl)
        · exact .refl _
      · split
        · exact .upd (by rfl)
        · exact .refl _
  · split
    · refine .comp (.ite (.each (fun _ _ => .setReg ..)) (.refl _)) ?_
      split
      · refine .comp (.upd (by rfl)) ?_
        split
        · exact .upd (by rfl)
        · exact .refl _
      · split
        · exact .upd (by rfl)
        · exact .refl _
    · split
      · refine .comp (.upd (by rfl)) ?_
        split
        · exact .upd (by rfl)
        · exact .refl _
      · split
        · exact .upd (by rfl)
        · exact .refl _

theorem Keeps.orphans (s : State) : Keeps s s.orphans := by
  unfold State.orphans
  exact .upd (by rfl)

theorem Keeps.firstCtrls (s : State) : Keeps s s.firstCtrls := by
  unfold State.firstCtrls
  dsimp only
  refine .comp (.ite (.comp (.each fun _ _ => .comp (.ite (.each fun _ _ => .setBoth ..) (.refl _)) <|
    .comp (.ite (.setBoth ..) (.refl _)) <| .comp (.modCtrl ..) <| .modTenant ..) ?_) (.each fun _ _ => .presentVf ..)) <| .modCtrl ..
  exact .updSound fun h => by simp_all [State.sound, Dw.sound, Ten.sound, Cells.wf_filter, wf_tenantKeys]

theorem Keeps.phaseEnds (s : State) (ph : Nat) : Keeps s (s.phaseEnds ph) := by
  unfold State.phaseEnds
  exact .comp (.upd (by rfl)) <| .took ..

theorem Keeps.firmwareGo (s : State) : Keeps s (execFirmwareStart.go s) := by
  unfold Machine.execFirmwareStart.go
  exact .comp (.phaseEnds ..) <| .comp (.firstCtrls ..) <| .comp (.upd (by rfl)) <| .comp (.orphans ..) <| .comp (.applySaved ..) <|
    .comp (.loadSettings ..) <| .comp (.each fun _ _ => .log ..) <| .comp (.ite (.log ..) (.refl _)) <| .comp (.each fun _ _ => .log ..) <|
        .upd (by rfl)

theorem Answers.execFirmwareStart {valid : Prop} (s : State) : Answers valid s (execFirmwareStart s) := by
  unfold Machine.execFirmwareStart
  refine .ite (.next (.refl _)) ?_
  split
  · exact .ite (.next <| .comp (.restart ..) <| .writeRec ..) (.next (.firmwareGo _))
  · exact .next (.firmwareGo _)

/-! ## What the operations of `Dram` keep -/

theorem Keeps.dramFails (s : State) : Keeps s s.dramFails := by
  unfold State.dramFails
  exact .upd (by rfl)

theorem Keeps.bootLog (s : State) (stays : Bool) (code : Nat) (ps : List Nat) : Keeps s (s.bootLog stays code ps) := by
  unfold State.bootLog
  exact .ite (.writeRec ..) (.upd (by rfl))

theorem Keeps.dramReady (s : State) (chUp cap : Nat) (reduced : Bool) : Keeps s (s.dramReady chUp cap reduced) := by
  unfold State.dramReady
  exact .upd (by rfl)

theorem Keeps.train (s : State) (l : List Dimm) (res : List (Nat × ChannelResult)) : Keeps s (s.train l res) := by
  unfold State.train
  split
  · exact .comp (.dramFails ..) <| .comp (.bootLog ..) <| .upd (by rfl)
  · exact .comp (.ite (.dramFails ..) (.ite (.dramReady ..) (.comp (.dramReady ..) <| .bootLog ..))) <| .comp (.each (fun _ _ => .bootLog ..)) <|
      .upd (by rfl)

theorem Keeps.trained (s : State) : Keeps s s.trained := by
  unfold State.trained
  exact .ite (.comp (.phaseEnds ..) <| .phaseEnds ..) (.refl _)

theorem Answers.execDramTraining {valid : Prop} (dimms : List Dimm) (res : List (Nat × ChannelResult)) (s : State) :
    Answers valid s (execDramTraining dimms res s) := by
  unfold Machine.execDramTraining
  exact .ite (.next (.comp (.trained ..) <| .train ..)) (.next (.refl _))

theorem Answers.execDramRetrain {valid : Prop} (p : Path) (dimms : List Dimm) (res : List (Nat × ChannelResult)) (s : State) :
    Answers valid s (execDramRetrain p dimms res s) := by
  unfold Machine.execDramRetrain
  exact .winWrite (fun _ => .ite (.comp (.trained ..) <| .comp (.train ..) <| .upd (by rfl)) (.refl _))

theorem Answers.execDdrSave {valid : Prop} (p : Path) (s : State) : Answers valid s (execDdrSave p s) := by
  unfold Machine.execDdrSave
  exact .winWrite (fun _ => .upd (by rfl))

theorem Keeps.ddrCount (s : State) (off k : Nat) : Keeps s (s.ddrCount off k) := by
  unfold State.ddrCount
  exact .upd (by rfl)

theorem Answers.execDramRecalibration {valid : Prop} (ch drift : Nat) (s : State) : Answers valid s (execDramRecalibration ch drift s) := by
  unfold Machine.execDramRecalibration
  exact .ite (.next (.refl _)) (.next (.comp (.upd (by rfl)) <| .took ..))

theorem Answers.execDramRefresh {valid : Prop} (ch rank bank : Nat) (postpone : Bool) (dimm : Nat) (celsius : Int) (s : State) :
    Answers valid s (execDramRefresh ch rank bank postpone dimm celsius s) := by
  unfold Machine.execDramRefresh
  exact .ite (.next (.refl _)) (.ite (.next (.comp (.ddrCount ..) <| .comp (.upd (by rfl)) <| .ite (.comp (.log ..) <|
      .upd (by rfl)) (.upd (by rfl)))) (.next (.comp (.upd (by rfl)) <| .ite (.comp (.log ..) <| .upd (by rfl)) (.upd (by rfl)))))

theorem Keeps.countAct (s : State) (key : Nat × Nat × Nat) (row req : Nat) : Keeps s (s.countAct key row req).2 := by
  unfold State.countAct
  dsimp only
  split
  · dsimp only
    exact .upd (by rfl)
  · refine .iteSnd ?_ ?_
    · dsimp only
      exact .upd (by rfl)
    · split
      next t e =>
        dsimp only
        exact .comp (.upd (by rfl)) <| .ofSnd e <| .choose ..
      next t1 e1 =>
        dsimp only
        exact .ofSnd e1 <| .choose ..

theorem Keeps.rfm (s : State) (key : Nat × Nat × Nat) (row before after : Nat) : Keeps s (s.rfm key row before after) := by
  unfold State.rfm
  exact .comp (.ddrCount ..) <| .comp (.ite (.refl _) (.upd (by rfl))) <| .comp (.upd (by rfl)) <| .ite (.refl _) (.upd (by rfl))

theorem Keeps.throttle (s : State) (key : Nat × Nat × Nat) (row req count : Nat) : Keeps s (s.throttle key row req count) := by
  unfold State.throttle
  dsimp only
  refine .ite (.refl _) ?_
  split
  · exact .ite (.comp (.log ..) <| .comp (.ddrCount ..) <| .upd (by rfl)) (.upd (by rfl))
  · refine .ite (.comp (.log ..) <| .comp (.ddrCount ..) <| .upd (by rfl)) ?_
    split
    · exact .comp (.log ..) <| .comp (.ddrCount ..) <| .upd (by rfl)
    · exact .log ..

theorem Keeps.dramEcc (s : State) (ch : Nat) (e : DramEcc) : Keeps s (s.dramEcc ch e) := by
  unfold State.dramEcc
  split
  · exact .refl _
  · exact .comp (.log ..) <| .comp (.ddrCount ..) <| .bump ..
  · dsimp only
    split
    · exact .comp (.upd (by rfl)) <| .comp (.ddrCount ..) <| .bump ..
    · exact .comp (.upd (by rfl)) <| .comp (.ddrCount ..) <| .bump ..
    · exact .comp (.faultRestart ..) <| .comp (.ddrCount ..) <| .bump ..

theorem Keeps.dramMode (s : State) (ch sub : Nat) : Keeps s (s.dramMode ch sub) := by
  unfold State.dramMode
  exact .upd (by rfl)

theorem Keeps.dramServe (s : State) (ch sub now fuel : Nat) : Keeps s (s.dramServe ch sub now fuel).2 := by
  induction fuel generalizing s with
  | zero => exact .refl _
  | succ fuel ih =>
    unfold State.dramServe
    dsimp only
    split
    · exact .dramMode ..
    · refine .iteSnd (.comp (ih ..) <| .comp (.upd (by rfl)) <| .dramMode ..) ?_
      dsimp only
      exact .comp (.upd (by rfl)) <| .dramMode ..

theorem Keeps.activate (s : State) (q : DramReq) : Keeps s (s.activate q) := by
  unfold State.activate
  exact .comp (.throttle ..) <| .comp (.rfm ..) <| .comp (.ddrCount ..) <| .countAct ..

theorem Answers.execDramActivation {valid : Prop} (ch sub now : Nat) (reads writes : List DramReq) (ecc : DramEcc) (s : State) :
    Answers valid s (execDramActivation ch sub now reads writes ecc s) := by
  unfold Machine.execDramActivation
  split
  · exact .next (.refl _)
  · dsimp only
    split
    next t e => exact .next <| .comp (.dramEcc ..) <| .comp (.activate ..) <| .ofSnd e <| .comp (.dramServe ..) <| .upd (by rfl)
    next t e => exact .next <| .ofSnd e <| .comp (.dramServe ..) <| .upd (by rfl)

theorem Answers.execDisturbanceWindow {valid : Prop} (s : State) : Answers valid s (execDisturbanceWindow s) := by
  unfold Machine.execDisturbanceWindow
  exact .ite (.next (.refl _)) (.next (.upd (by rfl)))

theorem Answers.execDramPatrolScrub {valid : Prop} (ch : Nat) (ecc : DramEcc) (s : State) : Answers valid s (execDramPatrolScrub ch ecc s) := by
  unfold Machine.execDramPatrolScrub
  exact .ite (.next (.refl _)) (.next (.comp (.dramEcc ..) <| .ddrCount ..))

theorem Answers.execThrottleAndDisturbance {valid : Prop} (c : Cmd) (s : State) : Answers valid s (execThrottleAndDisturbance c s) := by
  unfold Machine.execThrottleAndDisturbance
  exact .mgrPage (fun _ => .page ..)

/-! ## What the operations of `Census` keep -/

theorem Keeps.seat (s : State) (p : Nat) (m : Member) : Keeps s (s.seat p m).2 := by
  unfold State.seat
  split
  · exact .comp (.ite (.refl _) (.log ..)) <| .upd (by rfl)
  · dsimp only
    split
    · dsimp only
      exact .comp (.ite (.log ..) (.refl _)) <| .comp (.modSlot ..) <| .comp (.each fun _ _ => .renameAll ..) <| .upd (by rfl)
    · dsimp only
      refine .comp (.log ..) <| .comp (.log ..) <| .comp (.ite (.refl _) (.ite (.comp (.slotEvent ..) <|
          .modSlot ..) (.ite (.modSlot ..) (.refl _)))) ?_
      exact .comp (.upd (by rfl)) <| .comp (.each fun _ _ => .comp (.renameAll ..) <| .freshId ..) <| .upd (by rfl)

theorem Keeps.seatAll (s : State) (p : Nat) (l : List Member) : Keeps s (s.seatAll p l).2 := by
  induction l generalizing s with
  | nil => exact .refl _
  | cons m l ih =>
    unfold State.seatAll
    dsimp only
    exact .comp (ih ..) <| .seat ..

theorem Keeps.scanBand (s : State) (v : CensusReads) (p bno : Nat) : Keeps s (s.scanBand v p bno) := by
  unfold State.scanBand
  exact .comp (.modBand ..) <| .comp (.upd (by rfl)) <| .comp (.modPool ..) <| .comp (.each (fun _ _ => .comp (.each (fun _ _ => .addLost ..)) <|
      .each (fun _ _ => .rowLost ..))) <| .comp (.each (fun _ _ => .noteTags ..)) <| .comp (.ite (.comp (.modPool ..) <| .log ..) (.refl _)) <|
      .modBand ..

theorem Keeps.loadClosed (s : State) (bno : Nat) : Keeps s (s.loadClosed bno) := by
  unfold State.loadClosed
  exact .comp (.modBand ..) <| .upd (by rfl)

theorem Keeps.commitAll (s : State) (p : Nat) (open' cand bad : List Nat) (fuel : Nat) : Keeps s (s.commitAll p open' cand bad fuel).2 := by
  induction fuel generalizing s bad with
  | zero => exact .refl _
  | succ fuel ih =>
    unfold State.commitAll
    dsimp only
    split
    · exact .refl _
    · exact .comp (ih ..) <| .each fun _ _ => .ite (.refl _) (.modBand ..)

theorem Keeps.mapSeg (s : State) (p : Nat) (rel : List (Nat × Nat × Nat × Nat)) (x : Ns) (k : Nat) : Keeps s (s.mapSeg p rel x k) := by
  unfold State.mapSeg
  dsimp only
  split
  · exact .refl _
  · exact .ite (.modSeg ..) (.modSeg ..)

theorem Keeps.mapLog (s : State) (rel : List (Nat × Nat × Nat × Nat)) (bad : List Nat) (e : Found) : Keeps s (s.mapLog rel bad e) := by
  unfold State.mapLog
  split
  · exact .refl _
  · exact .ite (.upd (by rfl)) (.refl _)

theorem Keeps.tidyBlocks (s : State) (p : Nat) : Keeps s (s.tidyBlocks p) := by
  unfold State.tidyBlocks
  exact .upd (by rfl)

theorem Keeps.eraseAgain (s : State) (p : Nat) : Keeps s (s.eraseAgain p) := by
  unfold State.eraseAgain
  exact .each (fun _ _ => .eraseFor ..)

theorem Keeps.deepScan (s : State) (p trigger : Nat) : Keeps s (s.deepScan p trigger) := by
  unfold State.deepScan
  dsimp only
  refine .comp (.each fun t b => ?_) <| .comp (.updSound fun h => by simp_all [State.sound, Media.sound, Cells.wf_filter]) <|
    .comp (.log ..) <| .comp (.took ..) <| .modPool ..
  refine .updSound fun h => ?_
  have bands (f : Nat → Band → Band) (k : Nat)
      (x : Band) : Cells.wf band0 (Cells.put band0 (Cells.every band0 (t.media.bands.put band0 b {}) f) k x) = true :=
    Cells.wf_put _ _ _ <| Cells.wf_every _ _ <| Cells.wf_put _ _ _ <| by simp_all [State.sound, Media.sound]
  simp_all [State.sound, Media.sound]

theorem Keeps.rebuildMaps (s : State) (v : CensusReads) (p : Nat) : Keeps s (s.rebuildMaps v p).2.2 := by
  unfold State.rebuildMaps
  exact .comp (.modPool ..) <| .comp (.each (fun _ _ => .mapLog ..)) <| .comp (.each (fun _ _ => .shave ..)) <|
      .comp (.each (fun _ _ => .each (fun _ _ => .mapSeg ..))) <| .comp (.commitAll ..) <| .comp (.each (fun _ _ => .scanBand ..)) <|
      .comp (.each (fun _ _ => .shave ..)) <| .comp (.each (fun _ _ => .loadClosed ..)) <| .modPool ..

theorem Keeps.startWrites (s : State) (p : Nat) (bad open' : List Nat) (changed : Bool) : Keeps s (s.startWrites p bad open' changed) := by
  unfold State.startWrites
  exact .comp (.ite (.refl _) (.log ..)) <| .comp (.each (fun _ _ => .modBand ..)) <| .comp (.each (fun _ _ => .record ..)) <|
      .comp (.each (fun _ _ => .comp (.ite (.comp (.modBand ..) <| .closeBand ..) (.refl _)) <| .headerRec ..)) <|
      .comp (.ite (.needReg ..) (.refl _)) <| .comp (.ite (.writeRoot ..) (.refl _)) <| .eraseAgain ..

theorem Keeps.assemble (s : State) (v : CensusReads) (p : Nat) (g : RootGen) : Keeps s (s.assemble v p g) := by
  unfold State.assemble
  extract_lets s₁ s₂ _ s₃
  split
  next ms s₄ e =>
  extract_lets s₅ absent quar s₆ src s₇ deep s₈
  split
  next bad open' s₉ e' =>
  extract_lets s₁₀ s₁₁ top _ s₁₂ s₁₃ s₁₄ s₁₅ s₁₆ s₁₇ s₁₈
  have h₃ : Keeps s s₃ := .comp (.upd (by rfl)) <| .comp (.setBoth ..) <| .modPool ..
  have h₄ : Keeps s₃ s₄ := .ofSnd e <| .seatAll ..
  have h₆ : Keeps s₄ s₆ := .comp (.modPool ..) <| .modPool ..
  clear_value s₆
  have h₇ : Keeps s₆ s₇ := .updSound fun h => by simp_all [State.sound, Media.sound, Cells.wf_filter, src]
  have h₈ : Keeps s₇ s₈ := by
    clear_value deep
    simp only [s₈]
    split
    · exact .deepScan ..
    · exact .refl _
  have h₉ : Keeps s₈ s₉ := .ofSndSnd e' <| .rebuildMaps ..
  have h₁₁ : Keeps s₉ s₁₁ := .comp (.each fun _ _ => .modSlot ..) <| .tidyBlocks ..
  have h₁₂ : Keeps s₁₁ s₁₂ := .upd (by rfl)
  have h₁₄ : Keeps s₁₂ s₁₄ := .comp (.startWrites ..) <| .ite (.refl _) (.log ..)
  have h₁₆ : Keeps s₁₄ s₁₆ := .comp (.ite (.makeSlices ..) (.dropSlices ..)) <| .modPool ..
  have h₁₇ : Keeps s₁₆ s₁₇ := .comp (.settle ..) <| .checkNarrow ..
  have h₁₈ : Keeps s₁₇ s₁₈ := .each fun _ _ => .nsChanged ..
  refine .comp (.each fun _ _ => .autoAdd ..) <| .comp h₁₈ <| .comp h₁₇ <| .comp h₁₆ <| .comp h₁₄ <| .comp h₁₂ ?_
  exact .comp h₁₁ <| .comp h₉ <| .comp h₈ <| .comp h₇ <| .comp h₆ <| .comp h₄ h₃

theorem Keeps.holdPool (s : State) (p : Nat) (found : List Nat) : Keeps s (s.holdPool p found) := by
  unfold State.holdPool
  exact .comp (.modPool ..) <| .each (fun _ _ => .modSlot ..)

theorem Keeps.admissionEnds (s : State) : Keeps s s.admissionEnds := by
  unfold State.admissionEnds
  exact .ite (.refl _) (.phaseEnds ..)

theorem Keeps.startDone (s : State) : Keeps s s.startDone := by
  unfold State.startDone
  exact .ite (.refl _) (.comp (.log ..) <| .comp (.upd (by rfl)) <| .each (fun _ _ => .comp (.phaseEnds ..) <| .admissionEnds ..))

theorem Keeps.censusEnd (s : State) (p : Nat) : Keeps s (s.censusEnd p) := by
  unfold State.censusEnd
  exact .comp (.startDone ..) <| .runLate ..

theorem Answers.execCensus {valid : Prop} (p : Nat) (v : CensusReads) (s : State) : Answers valid s (execCensus p v s) := by
  unfold Machine.execCensus
  refine .ite (.next (.refl _)) ?_
  dsimp only
  split
  · exact .next (.comp (.startDone ..) <| .admissionEnds ..)
  · exact .ite (.next (.comp (.censusEnd ..) <| .comp (.modPool ..) <| .admissionEnds ..)) (.ite (.next (.comp (.censusEnd ..) <| .comp (.log ..) <|
      .comp (.holdPool ..) <| .admissionEnds ..)) (.ite (.next (.comp (.censusEnd ..) <| .comp (.assemble ..) <|
      .admissionEnds ..)) (.next (.comp (.censusEnd ..) <| .comp (.log ..) <| .comp (.holdPool ..) <| .admissionEnds ..))))

/-! ## What the operations of `Ports` keep -/

theorem Answers.onPort {valid : Prop} {s : State} {p : Nat} {f : State → State} (hn : valid → p < 64) (h : ∀ t, Keeps t (f t)) :
    Answers valid s (onPort s p f) :=
  .guard hn <| .ite (.next (.refl _)) (.next (h _))

theorem Keeps.portDown (s : State) (p cause : Nat) : Keeps s (s.portDown p cause) := by
  unfold State.portDown
  exact .ite (.comp (.log ..) <| .modPort ..) (.refl _)

theorem Keeps.setMode (s : State) (g mode : Nat) : Keeps s (s.setMode g mode) := by
  unfold State.setMode
  exact .comp (.discNotice ..) <| .comp (.log ..) <| .comp (.each (fun _ _ => .setReg ..)) <| .comp (.setReg ..) <|
      .comp (.each (fun _ _ => .loseConn ..)) <| .comp (.each (fun _ _ => .modPort ..)) <| .each (fun _ _ => .portDown ..)

theorem Answers.execPortMode {valid : Prop} (p : Path) (g : Nat) (mode : BitVec 3) (s : State) (hn : valid → g < 4) :
    Answers valid s (execPortMode p g mode s) := by
  unfold Machine.execPortMode
  exact .guard hn (.winWrite (fun _ => .ite (.refl _) (.ite (.setMode ..) (.raise ..))))

theorem Keeps.drainHeld (s : State) (p prio : Nat) : Keeps s (s.drainHeld p prio) := by
  unfold State.drainHeld
  exact .comp (.modPort ..) <| .took ..

theorem Keeps.sendPfc (s : State) (p : Nat) : Keeps s (s.sendPfc p) := by
  unfold State.sendPfc
  exact .comp (.bump ..) <| .bump ..

theorem Keeps.macsecIn {s t : State} {p : Nat} {f : Frame} (h : s.macsecIn p f = some t) : Keeps s t := by
  unfold State.macsecIn at h
  dsimp only at h
  split at h
  · split at h
    · cases h
    · cases h
      exact .refl _
  · split at h
    · cases h
    · cases h
      exact .modPort ..

theorem Keeps.cnp (s : State) (p q : Nat) : Keeps s (s.cnp p q) := by
  unfold State.cnp
  exact .comp (.ite (.comp (.bump ..) <| .comp (.bump ..) <| .upd (by rfl)) (.refl _)) <| .took ..

theorem Keeps.placeFrame (s : State) (p : Nat) (f : Frame) : Keeps s (s.placeFrame p f) := by
  unfold State.placeFrame
  extract_lets prio s₁ s₂ high s₃ s₄ s₅
  have h₁ : Keeps s s₁ := .drainHeld ..
  have h₂ : Keeps s s₂ := .comp (.modPort ..) h₁
  have h₃ : Keeps s s₃ := .comp (.ite (.comp (.sendPfc ..) <| .modPort ..) (.refl _)) h₂
  have h₅ : Keeps s s₅ := by
    refine .trans h₃ <| .ite ?_ (.refl _)
    split
    · exact .comp (.cnp ..) <| .bump ..
    · exact .bump ..
  clear_value s₅
  refine .ite (.comp (.bump ..) h₁) <| .ite ?_ h₅
  split
  · split
    · exact .comp (.loseConn ..) <| .comp (.log ..) <| .comp (.bump ..) <| .comp (.upd (by rfl)) h₅
    · exact h₅
  · exact h₅

theorem Answers.execFrameReceive {valid : Prop} (p : Nat) (f : Frame) (s : State) (hn : valid → p < 64) :
    Answers valid s (execFrameReceive p f s) := by
  unfold Machine.execFrameReceive
  refine .onPort hn fun s => ?_
  dsimp only
  refine .ite (.refl _) (.ite (.bump ..) ?_)
  split
  · exact .comp (.bump ..) <| .bump ..
  next t e => exact .comp (.ite (.bump ..) (.placeFrame ..)) <| .comp (.macsecIn e) <| .bump ..

theorem Answers.execPfcFrame {valid : Prop} (p prio quanta : Nat) (s : State) (hn : valid → p < 64) :
    Answers valid s (execPfcFrame p prio quanta s) := by
  unfold Machine.execPfcFrame
  exact .onPort hn (fun _ => .ite (.refl _) (.comp (.ite (.modPort ..) (.refl _)) <| .comp (.bump ..) <| .bump ..))

theorem Answers.execPfcPauseRefresh {valid : Prop} (p prio : Nat) (s : State) (hn : valid → p < 64) :
    Answers valid s (execPfcPauseRefresh p prio s) := by
  unfold Machine.execPfcPauseRefresh
  exact .onPort hn (fun _ => .ite (.refl _) (.comp (.ite (.sendPfc ..) (.comp (.sendPfc ..) <| .modPort ..)) <| .drainHeld ..))

theorem Answers.execPfcPauseExpiry {valid : Prop} (p prio : Nat) (s : State) (hn : valid → p < 64) :
    Answers valid s (execPfcPauseExpiry p prio s) := by
  unfold Machine.execPfcPauseExpiry
  exact .onPort hn (fun _ => .modPort ..)

theorem Answers.execPfcStorm {valid : Prop} (p prio : Nat) (s : State) (hn : valid → p < 64) : Answers valid s (execPfcStorm p prio s) := by
  unfold Machine.execPfcStorm
  exact .onPort hn (fun _ => .ite (.refl _) (.comp (.log ..) <| .modPort ..))

theorem Answers.execPfcStormClear {valid : Prop} (p prio : Nat) (s : State) (hn : valid → p < 64) : Answers valid s (execPfcStormClear p prio s) := by
  unfold Machine.execPfcStormClear
  exact .onPort hn (fun _ => .modPort ..)

theorem Answers.execDcqcnRateIncrease {valid : Prop} (qp : Nat) (s : State) : Answers valid s (execDcqcnRateIncrease qp s) := by
  unfold Machine.execDcqcnRateIncrease
  split
  · exact .next (.refl _)
  · exact .next (.upd (by rfl))

theorem Answers.execPortLinkUp {valid : Prop} (p : Nat) (s : State) (hn : valid → p < 64) : Answers valid s (execPortLinkUp p s) := by
  unfold Machine.execPortLinkUp
  exact .onPort hn (fun _ => .ite (.refl _) (.comp (.log ..) <| .modPort ..))

theorem Answers.execPortLinkDown {valid : Prop} (p cause : Nat) (s : State) (hn : valid → p < 64) : Answers valid s (execPortLinkDown p cause s) := by
  unfold Machine.execPortLinkDown
  exact .onPort hn (fun _ => .portDown ..)

theorem Answers.execAddressEntryWrite {valid : Prop} (p : Path) (port e dword : Nat) (v : Word) (s : State) (hn : valid → port < 64) :
    Answers valid s (execAddressEntryWrite p port e dword v s) := by
  unfold Machine.execAddressEntryWrite
  exact .guard hn (.ite (.next (.refl _)) (.winWrite (fun _ => .comp (.ite (.discNotice ..) (.refl _)) <|
      .comp (.ite (.each (fun _ _ => .loseConn ..)) (.refl _)) <| .setReg ..)))

theorem Answers.execMkaLoad {valid : Prop} (p : Path) (port : Nat) (s : State) (hn : valid → port < 64) : Answers valid s (execMkaLoad p port s) := by
  unfold Machine.execMkaLoad
  exact .guard hn (.winWrite (fun _ => .modPort ..))

theorem Answers.execSakDistribution {valid : Prop} (p : Nat) (s : State) (hn : valid → p < 64) : Answers valid s (execSakDistribution p s) := by
  unfold Machine.execSakDistribution
  exact .onPort hn (fun _ => .ite (.refl _) (.modPort ..))

theorem Answers.execPnExhausted {valid : Prop} (p : Nat) (transmit atLimit : Bool) (channel : Nat) (s : State) (hn : valid → p < 64) :
    Answers valid s (execPnExhausted p transmit atLimit channel s) := by
  unfold Machine.execPnExhausted
  exact .onPort hn (fun _ => .ite (.refl _) (.ite (.ite (.refl _) (.comp (.log ..) <| .modPort ..)) (.ite (.refl _) (.modPort ..))))

theorem Answers.execMkaPeerTimeout {valid : Prop} (p : Nat) (s : State) (hn : valid → p < 64) : Answers valid s (execMkaPeerTimeout p s) := by
  unfold Machine.execMkaPeerTimeout
  exact .onPort hn (fun _ => .ite (.refl _) (.comp (.log ..) <| .modPort ..))

theorem Answers.execHostSave {valid : Prop} (p : Path) (s : State) : Answers valid s (execHostSave p s) := by
  unfold Machine.execHostSave
  exact .winWrite (fun _ => .upd (by rfl))

theorem Answers.execPasidTlp {valid : Prop} (pasid : Nat) (s : State) : Answers valid s (execPasidTlp pasid s) := by
  unfold Machine.execPasidTlp
  exact .ite (.next (.refl _)) (.ite (.next (.bump ..)) (.next (.refl _)))

/-! ## What the operations of `Power` keep -/

theorem Answers.execRoomKey {valid : Prop} (c : Cmd) (s : State) : Answers valid s (execRoomKey c s) := by
  unfold Machine.execRoomKey
  exact .mgrFeature (fun _ => .ite (.refuse ..) (.ite (.refuse ..) (.comp (.post ..) <| .comp (.ite (.upd (by rfl)) (.refl _)) <| .upd (by rfl))))

theorem Answers.execPowerManagement {valid : Prop} (c : Cmd) (s : State) : Answers valid s (execPowerManagement c s) := by
  unfold Machine.execPowerManagement
  exact .adminCmd (fun _ => .check (.comp (.post ..) <| .modCtrl ..))

theorem Answers.execPwrKeyMgr {valid : Prop} (p : Path) (d : Nat) (v : Word) (s : State) (hn : valid → d < 18) :
    Answers valid s (execPwrKeyMgr p d v s) := by
  unfold Machine.execPwrKeyMgr
  exact .guard hn (.winWrite (fun _ => .comp (.ite (.latch ..) (.refl _)) <| .setReg ..))

theorem Answers.execPwrSave {valid : Prop} (p : Path) (v : Word) (s : State) : Answers valid s (execPwrSave p v s) := by
  unfold Machine.execPwrSave
  exact .winWrite (fun _ => .comp (.ite (.upd (by rfl)) (.refl _)) <| .setReg ..)

theorem Answers.execCartStagger {valid : Prop} (p : Path) (v : Word) (s : State) : Answers valid s (execCartStagger p v s) := by
  unfold Machine.execCartStagger
  exact .winWrite (fun _ => .ite (.setReg ..) (.refl _))

theorem Keeps.railAnswer (s : State) (r : Nat) (a : RailAnswer) : Keeps s (s.railAnswer r a) := by
  unfold State.railAnswer
  split
  · exact .comp (.log ..) <| .comp (.raise ..) <| .upd (by rfl)
  · exact .ite (.refl _) (.comp (.log ..) <| .comp (.raise ..) <| .upd (by rfl))

theorem Answers.execPmbusAlert {valid : Prop} (answers : List (Nat × RailAnswer)) (s : State) : Answers valid s (execPmbusAlert answers s) := by
  unfold Machine.execPmbusAlert
  refine .ite (.next (.refl _)) (.next (.each (fun _ _ => ?_)))
  split
  · exact .railAnswer ..
  · exact .refl _

theorem Answers.execWakePin {valid : Prop} (pin : Nat) (level : Bool) (s : State) (hn : valid → pin < 4) :
    Answers valid s (execWakePin pin level s) := by
  unfold Machine.execWakePin
  exact .guard hn (.next (.comp (.ite (.latch ..) (.refl _)) <| .upd (by rfl)))

theorem Answers.execLinkWake {valid : Prop} (g : Nat) (s : State) (hn : valid → g < 4) : Answers valid s (execLinkWake g s) := by
  unfold Machine.execLinkWake
  exact .guard hn (.next (.ite (.latch ..) (.refl _)))

theorem Answers.execPcieWake {valid : Prop} (s : State) : Answers valid s (execPcieWake s) := by
  unfold Machine.execPcieWake
  exact .next (.comp (.ite (.latch ..) (.refl _)) <| .ite (.upd (by rfl)) (.refl _))

theorem Answers.execPerst {valid : Prop} (level : Bool) (s : State) : Answers valid s (execPerst level s) := by
  unfold Machine.execPerst
  exact .ite (.next (.upd (by rfl))) (.ite (.next (.comp (.latch ..) <| .upd (by rfl))) (.ite (.next (.comp (.pcieDown ..) <|
      .upd (by rfl))) (.next (.upd (by rfl)))))

theorem Answers.execWakeTimer {valid : Prop} (s : State) : Answers valid s (execWakeTimer s) := by
  unfold Machine.execWakeTimer
  exact .next (.ite (.latch ..) (.refl _))

theorem Answers.execCartridgeWake {valid : Prop} (n : Nat) (level : Bool) (s : State) (hn : valid → n < 64) :
    Answers valid s (execCartridgeWake n level s) := by
  unfold Machine.execCartridgeWake
  exact .guard hn (.ite (.next (.refl _)) (.next (.comp (.ite (.latch ..) (.refl _)) <| .ite (.modSlot ..) (.refl _))))

theorem Answers.execKeyWake {valid : Prop} (_cls dom : Nat) (s : State) : Answers valid s (execKeyWake _cls dom s) := by
  unfold Machine.execKeyWake
  exact .next (.ite (.latch ..) (.refl _))

theorem Answers.execEntryRequest {valid : Prop} (s : State) : Answers valid s (execEntryRequest s) := by
  unfold Machine.execEntryRequest
  refine .ite (.next (.refl _)) ?_
  dsimp only
  split
  · exact .ite (.next (.upd (by rfl))) (.next (.comp (.upd (by rfl)) <| .upd (by rfl)))
  · exact .ite (.next (.upd (by rfl))) (.next (.comp (.upd (by rfl)) <| .upd (by rfl)))
  · exact .next (.upd (by rfl))

theorem Keeps.slotSleeps (s : State) (n : Nat) : Keeps s (s.slotSleeps n) := by
  unfold State.slotSleeps
  exact .comp (.ite (.refl _) (.modSlot ..)) <| .comp (.modSlot ..) <| .ite (.slotEvent ..) (.refl _)

theorem Keeps.slotWaits (s : State) (n : Nat) : Keeps s (s.slotWaits n) := by
  unfold State.slotWaits
  exact .modSlot ..

theorem Keeps.goOn (s : State) : Keeps s s.goOn := by
  unfold State.goOn
  exact .each (fun _ _ => .resume ..)

theorem Keeps.abortEntry (s : State) (point : Nat) : Keeps s (s.abortEntry point) := by
  unfold State.abortEntry
  exact .comp (.ite (.refl _) (.goOn ..)) <| .comp (.upd (by rfl)) <| .comp (.each (fun _ _ => .comp (.slotWaits ..) <| .slotSleeps ..)) <| .log ..

theorem Answers.entryPoint {valid : Prop} {point : Nat} {s : State} {ok : Nat → State → Bool} {f : Nat → State → State} (h : ∀ n t, Keeps t (f n t)) :
    Answers valid s (entryPoint point s ok f) := by
  unfold Machine.entryPoint
  split
  · exact .ite (.next (.refl _)) (.ite (.next (.abortEntry ..)) (.next <| .comp (h ..) <| .upd (by rfl)))
  · exact .next (.refl _)

theorem Answers.execEntryE1 {valid : Prop} (s : State) : Answers valid s (execEntryE1 s) := by
  unfold Machine.execEntryE1
  exact .entryPoint (fun _ _ => .comp (.ite (.each (fun _ _ => .comp (.loseAssoc ..) <| .took ..)) (.refl _)) <| .comp (.upd (by rfl)) <|
      .each (fun _ _ => .send ..))

theorem Answers.execEntryE2 {valid : Prop} (s : State) : Answers valid s (execEntryE2 s) := by
  unfold Machine.execEntryE2
  exact .entryPoint (fun _ _ => .upd (by rfl))

theorem Keeps.searchOff (s : State) : Keeps s s.searchOff := by
  unfold State.searchOff
  exact .clearSrch ..

theorem Keeps.linkSleeps (s : State) (n : Nat) : Keeps s (s.linkSleeps n) := by
  unfold State.linkSleeps
  exact .comp (.modSlot ..) <| .ite (.slotEvent ..) (.refl _)

theorem Answers.execEntryE3 {valid : Prop} (s : State) : Answers valid s (execEntryE3 s) := by
  unfold Machine.execEntryE3
  exact .entryPoint fun _ s => .comp (.ite (.refl _) (.updSound fun h => by simp_all [State.sound, Gbk.sound])) <|
    .comp (.ite (.refl _) (.searchOff ..)) <| .comp (.each fun _ _ => .each fun _ _ => .modPort ..) <|
    .comp (.each fun _ _ => .ite (.slotSleeps ..) (.linkSleeps ..)) <| .comp (.updSound fun h => by simp_all [State.sound]) <|
    .comp (.log ..) <| .took ..

theorem Keeps.presence (s : State) : Keeps s s.presence := by
  unfold State.presence
  exact .each (fun _ _ => .ite (.cartGone ..) (.ite (.modSlot ..) (.refl _)))

theorem Keeps.slotsBack (s : State) (dropped : Bool) : Keeps s (s.slotsBack dropped) := by
  unfold State.slotsBack
  exact .each (fun _ _ => .ite (.comp (.modEnd ..) <| .comp (.modEnd ..) <| .comp (.fullRetrain ..) <| .took ..) (.ite (.slotWaits ..) (.refl _)))

theorem Keeps.requeue (s : State) (kept : List Rec) : Keeps { s with gbk.queue := kept } (s.requeue kept) :=
  .each fun _ _ => .enqueue ..

theorem Answers.execPwrExit {valid : Prop} (s : State) : Answers valid s (execPwrExit s) := by
  unfold Machine.execPwrExit
  split
  · refine .ite (.next (.refl _)) ?_
    extract_lets src us dropped kept s₁ _ s₂ last lw _ s₃ s₄ s₅ _ s₆ _ t₃ _ t₄ t₅ t₆
    have short (h : s.sound = true) : kept.length ≤ 1024 := by simp_all [State.sound, kept]
    have h₂ : Keeps s s₂ := .comp (.updSound fun h => by simp_all [State.sound]) <| .took s
    have h₄ : Keeps s s₄ := .comp (.restart ..) <| .comp (.presence ..) <| .comp (.upd (by rfl)) h₂
    have h₅ : Keeps s s₅ := .comp (.requeue ..) <| .queue h₄ short
    clear_value s₅
    have h₆ : Keeps s s₆ := .comp (.upd (by rfl)) h₅
    clear_value s₆
    have k₃ : Keeps s t₃ := .comp (.requeue ..) <| .queue h₂ short
    have k₄ : Keeps s t₄ := .comp (.upd (by rfl)) k₃
    have k₅ : Keeps t₄ t₅ := .ite (.handleFlags ..) (.refl _)
    refine .ite (.next <| .comp (.upd (by rfl)) h₆) ?_
    exact .next <| .comp (.pump ..) <| .comp (.goOn ..) <| .comp (.log ..) <| .comp (.slotsBack ..) <| .comp (.presence ..) <| .comp k₅ k₄
  · exact .next (.refl _)

/-! ## What the operations of `LinkTest` keep -/

theorem Keeps.refuseLane (s : State) (l : Nat) : Keeps s (s.refuseLane l) := by
  unfold State.refuseLane
  exact .comp (.raise ..) <| .upd (by rfl)

theorem Keeps.setPattern (s : State) (l v : Nat) : Keeps s (s.setPattern l v) := by
  unfold State.setPattern
  exact .comp (.ite (.pcieDown ..) (.refl _)) <| .comp (.ite (.refl _) (.modLane ..)) <| .setReg ..

theorem Answers.execPatternMode {valid : Prop} (p : Path) (l : Nat) (v : Word) (s : State) (hn : valid → l < 208) :
    Answers valid s (execPatternMode p l v s) := by
  unfold Machine.execPatternMode
  exact .guard hn (.winWrite (fun _ => .ite (.setPattern ..) (.refuseLane ..)))

theorem Keeps.laneErrors (s : State) (l n : Nat) : Keeps s (s.laneErrors l n) := by
  unfold State.laneErrors
  exact .bump ..

theorem Answers.execInj {valid : Prop} (p : Path) (l : Nat) (v : Word) (s : State) (hn : valid → l < 208) : Answers valid s (execInj p l v s) := by
  unfold Machine.execInj
  exact .guard hn (.winWrite (fun _ => .ite (.refl _) (.comp (.ite (.laneErrors ..) (.refl _)) <| .modLane ..)))

theorem Answers.execDdrLoop {valid : Prop} (p : Path) (v : Word) (s : State) : Answers valid s (execDdrLoop p v s) := by
  unfold Machine.execDdrLoop
  exact .winWrite (fun _ => .ite (.refuseLane ..) (.setReg ..))

theorem Answers.execCheckerLocked {valid : Prop} (l : Nat) (s : State) (hn : valid → l < 208) : Answers valid s (execCheckerLocked l s) := by
  unfold Machine.execCheckerLocked
  exact .guard hn (.ite (.next (.refl _)) (.next (.modLane ..)))

theorem Answers.execCheckerLostLock {valid : Prop} (l : Nat) (s : State) (hn : valid → l < 208) : Answers valid s (execCheckerLostLock l s) := by
  unfold Machine.execCheckerLostLock
  exact .guard hn (.ite (.next (.refl _)) (.next (.comp (.raise ..) <| .modLane ..)))

/-! ## What the operations of `Logs` keep -/

theorem Keeps.openPage (s : State) (c : Cmd) (len : Nat) (fs : List (Nat × Nat × Nat)) : Keeps s (s.openPage c len fs) := by
  unfold State.openPage
  exact .comp (.page ..) <| .took ..

theorem Keeps.rearmCart (s : State) : Keeps s s.rearmCart := by
  unfold State.rearmCart
  exact .each (fun _ _ => .comp (.ite (.aenManagers ..) (.refl _)) <| .modSlot ..)

theorem Answers.execCartridgeHealth {valid : Prop} (c : Cmd) (s : State) : Answers valid s (execCartridgeHealth c s) := by
  unfold Machine.execCartridgeHealth
  exact .mgrPage (fun _ => .comp (.rearmCart ..) <| .page ..)

theorem Answers.execLostLbaList {valid : Prop} (c : Cmd) (s : State) : Answers valid s (execLostLbaList c s) := by
  unfold Machine.execLostLbaList
  exact .adminCmd (fun _ => .comp (.upd (by rfl)) <| .page ..)

theorem Answers.execRebuildProgress {valid : Prop} (c : Cmd) (s : State) : Answers valid s (execRebuildProgress c s) := by
  unfold Machine.execRebuildProgress
  exact .mgrPage (fun _ => .comp (.page ..) <| .took ..)

theorem Answers.execStartUpReport {valid : Prop} (c : Cmd) (s : State) : Answers valid s (execStartUpReport c s) := by
  unfold Machine.execStartUpReport
  exact .mgrPage (fun _ => .page ..)

theorem Keeps.errorPage (s : State) (c : Cmd) : Keeps s (s.errorPage c) := by
  unfold State.errorPage
  exact .openPage ..

theorem Keeps.smartPage (s : State) (c : Cmd) : Keeps s (s.smartPage c) := by
  unfold State.smartPage
  exact .comp (.openPage ..) <| .took ..

theorem Keeps.fwPage (s : State) (c : Cmd) : Keeps s (s.fwPage c) := by
  unfold State.fwPage
  exact .page ..

theorem Keeps.changedPage (s : State) (c : Cmd) : Keeps s (s.changedPage c) := by
  unfold State.changedPage
  exact .comp (.modCtrl ..) <| .page ..

theorem Keeps.sanitizePage (s : State) (c : Cmd) : Keeps s (s.sanitizePage c) := by
  unfold State.sanitizePage
  exact .openPage ..

theorem Keeps.fdpPage (s : State) (c : Cmd) (lid p : Nat) : Keeps s (s.fdpPage c lid p) := by
  unfold State.fdpPage
  exact .ite (.openPage ..) (.ite (.page ..) (.ite (.openPage ..) (.openPage ..)))

theorem Keeps.discPage (s : State) (c : Cmd) : Keeps s (s.discPage c) := by
  unfold State.discPage
  exact .comp (.page ..) <| .took ..

theorem Keeps.standardPage (s : State) (c : Cmd) (lid : Nat) : Keeps s (s.standardPage c lid) := by
  unfold State.standardPage
  exact .ite (.ite (.discPage ..) (.refuse ..)) (.ite (.errorPage ..) (.ite (.smartPage ..) (.ite (.fwPage ..) (.ite (.changedPage ..)
      (.ite (.sanitizePage ..) (.ite (.ite (.fdpPage ..) (.refuse ..)) (.refuse ..)))))))

theorem Answers.execGetLogPage {valid : Prop} (c : Cmd) (s : State) : Answers valid s (execGetLogPage c s) := by
  unfold Machine.execGetLogPage
  split
  · exact .execCartridgeHealth ..
  · exact .execLostLbaList ..
  · exact .execRebuildProgress ..
  · exact .execGuestbookLog ..
  · exact .execThrottleAndDisturbance ..
  · exact .execSearchStatistics ..
  · exact .execStartUpReport ..
  · exact .adminCmd (fun _ => .standardPage ..)

/-! ## What the operations of `Features` keep -/

theorem Answers.execEpochLength {valid : Prop} (c : Cmd) (s : State) : Answers valid s (execEpochLength c s) := by
  unfold Machine.execEpochLength
  exact .mgrFeature (fun _ => .ite (.refuse ..) (.check (.stageFor ..)))

theorem Answers.execRebuildShare {valid : Prop} (c : Cmd) (s : State) : Answers valid s (execRebuildShare c s) := by
  unfold Machine.execRebuildShare
  exact .mgrFeature (fun _ => .check (.stageFor ..))

theorem Answers.execMemberTimers {valid : Prop} (c : Cmd) (s : State) : Answers valid s (execMemberTimers c s) := by
  unfold Machine.execMemberTimers
  exact .mgrFeature (fun _ => .check (.comp (.post ..) <| .comp (.each (fun _ _ => .modSlot ..)) <| .comp (.ite (.upd (by rfl)) (.refl _)) <|
      .upd (by rfl)))

theorem Answers.execWritePathPolicy {valid : Prop} (c : Cmd) (s : State) : Answers valid s (execWritePathPolicy c s) := by
  unfold Machine.execWritePathPolicy
  refine .adminCmd fun s => .check <| .ite (.comp (.post ..) <| .upd (by rfl)) ?_
  split
  · exact .refuse ..
  · exact .comp (.post ..) <| .modNs ..

theorem Keeps.takePolicy (s : State) (b : List Byte) : Keeps s (s.takePolicy b) := by
  unfold State.takePolicy
  exact .comp (.each (fun _ _ => .askPower ..)) <| .comp (.log ..) <| .upd (by rfl)

theorem Answers.execCartridgeAdmissionPolicy {valid : Prop} (c : Cmd) (sig : List Byte) (s : State) :
    Answers valid s (execCartridgeAdmissionPolicy c sig s) := by
  unfold Machine.execCartridgeAdmissionPolicy
  exact .mgrFeature (fun _ => .ite (.refuse ..) (.ite (.refuse ..) (.ite (.refuse ..) (.comp (.post ..) <| .takePolicy ..))))

theorem Keeps.setStd (s : State) (c : Cmd) (fid : Nat) : Keeps s (s.setStd c fid) := by
  unfold State.setStd
  exact .ite (.check (.comp (.post ..) <| .modCtrl ..)) (.ite (.comp (.post ..) <| .comp (.took ..) <| .modCtrl ..) (.ite (.comp (.post ..) <|
      .modCtrl ..) (.refuse ..)))

theorem Answers.execSetFeatures {valid : Prop} (c : Cmd) (s : State) : Answers valid s (execSetFeatures c s) := by
  unfold Machine.execSetFeatures
  split
  · exact .execPowerManagement ..
  · exact .execTimestamp ..
  · exact .execTenantQos ..
  · exact .execRoomKey ..
  · exact .execFirmwareConfirm ..
  · exact .execEpochLength ..
  · exact .execRebuildShare ..
  · exact .execMemberTimers ..
  · exact .execWritePathPolicy ..
  · exact .execCartridgeAdmissionPolicy ..
  · exact .adminCmd (fun _ => .setStd ..)

theorem Answers.execGetFeatures {valid : Prop} (c : Cmd) (s : State) : Answers valid s (execGetFeatures c s) := by
  unfold Machine.execGetFeatures
  refine .adminCmd (fun _ => ?_)
  split
  · exact .refuse ..
  · exact .ite (.refuse ..) (.post ..)

theorem Keeps.idPage (s : State) (c : Cmd) (fs : List (Nat × Nat × Nat)) : Keeps s (s.idPage c fs) := by
  unfold State.idPage
  exact .comp (.post ..) <| .took ..

theorem Keeps.identify' (s : State) (c : Cmd) (cns : Nat) : Keeps s (s.identify' c cns) := by
  unfold State.identify'
  dsimp only
  refine .ite (.idPage ..) ?_
  refine .ite (.refuse ..) ?_
  refine .ite ?_ ?_
  · refine .ite (.refuse ..) ?_
    split
    · exact .idPage ..
    · exact .post ..
  · refine .ite (.post ..) ?_
    refine .ite ?_ ?_
    · refine .ite (.refuse ..) ?_
      split
      · exact .post ..
      · exact .post ..
    · refine .ite (.idPage ..) ?_
      refine .ite ?_ ?_
      · refine .ite (.refuse ..) ?_
        split
        · exact .idPage ..
        · exact .post ..
      · refine .ite (.post ..) ?_
        refine .ite (.refuse ..) ?_
        refine .ite (.post ..) ?_
        refine .ite ?_ ?_
        · refine .ite (.refuse ..) ?_
          split
          · exact .idPage ..
          · exact .post ..
        · refine .ite ?_ (.ite (.post ..) (.refuse ..))
          refine .ite (.refuse ..) ?_
          split
          · exact .post ..
          · exact .post ..

theorem Answers.execIdentify {valid : Prop} (c : Cmd) (s : State) : Answers valid s (execIdentify c s) := by
  unfold Machine.execIdentify
  exact .adminCmd (fun _ => .identify' ..)

/-! ## What the operations of `Link` keep -/

theorem Keeps.popFrame (s : State) (n : Nat) (toCtrl : Bool) : Keeps s (s.popFrame n toCtrl) := by
  unfold State.popFrame
  exact .ite (.modSeq ..) (.modSlot ..)

theorem Keeps.fillBlocks (n : Nat) (toCtrl : Bool) (fuel room k : Nat) (ended : Bool) (s : State) :
    Keeps s (State.fillBlocks n toCtrl fuel room k ended s).2.2 := by
  induction fuel generalizing room k ended s with
  | zero => exact .refl _
  | succ fuel ih =>
    unfold State.fillBlocks
    dsimp only
    split
    · split
      · exact .comp (ih ..) <| .modEnd ..
      · exact .modEnd ..
    · split
      · exact .refl _
      · split
        · exact .refl _
        · exact .comp (ih ..) <| .comp (.modEnd ..) <| .popFrame ..

theorem Keeps.takeMsgs (s : State) (n : Nat) (toCtrl : Bool) (k : Nat) : Keeps s (s.takeMsgs n toCtrl k).2 := by
  unfold State.takeMsgs
  exact .iteSnd (.modSeq ..) (.modSlot ..)

theorem Keeps.sendSf (s : State) (n : Nat) (toCtrl : Bool) : Keeps s (s.sendSf n toCtrl) := by
  unfold State.sendSf
  dsimp only
  split
  · exact .modEnd ..
  · exact .ite (.modEnd ..) (.comp (.modEnd ..) <| .comp (.takeMsgs ..) <| .comp (.fillBlocks ..) <| .modEnd ..)

theorem Keeps.replayFrom (s : State) (n : Nat) (toCtrl : Bool) (sf : Nat) : Keeps s (s.replayFrom n toCtrl sf) := by
  unfold State.replayFrom
  exact .comp (.ite (.comp (.fastRetrain ..) <| .comp (.modEnd ..) <| .took ..) (.refl _)) <| .comp (.ite (.refl _) (.bump ..)) <| .modEnd ..

theorem Keeps.nakFor (s : State) (n : Nat) (toCtrl : Bool) : Keeps s (s.nakFor n toCtrl) := by
  unfold State.nakFor
  exact .comp (.ite (.bump ..) (.refl _)) <| .modEnd ..

theorem Keeps.protoNote (s : State) (n : Nat) (toCtrl : Bool) (typ tag : Nat) : Keeps s (s.protoNote n toCtrl typ tag) := by
  unfold State.protoNote
  exact .ite (.log ..) (.refl _)

theorem Keeps.frameBad (s : State) (n : Nat) (toCtrl : Bool) (sf : Nat) : Keeps s (s.frameBad n toCtrl sf) := by
  unfold State.frameBad
  exact .comp (.modEnd ..) <| .nakFor ..

theorem Answers.execAck {valid : Prop} (n : Nat) (toCtrl : Bool) (sf : BitVec 12) (s : State) (hn : valid → n < 64) :
    Answers valid s (execAck n toCtrl sf s) := by
  unfold Machine.execAck
  exact .onSlot hn (fun _ => .ite (.refl _) (.modEnd ..))

theorem Answers.execNak {valid : Prop} (n : Nat) (toCtrl : Bool) (sf : BitVec 12) (s : State) (hn : valid → n < 64) :
    Answers valid s (execNak n toCtrl sf s) := by
  unfold Machine.execNak
  exact .onSlot hn (fun _ => .ite (.replayFrom ..) (.refl _))

theorem Answers.execAckTimer {valid : Prop} (n : Nat) (toCtrl : Bool) (s : State) (hn : valid → n < 64) :
    Answers valid s (execAckTimer n toCtrl s) := by
  unfold Machine.execAckTimer
  exact .onSlot hn (fun _ => .ite (.sendSf ..) (.refl _))

theorem Answers.execReplayTimeout {valid : Prop} (n : Nat) (toCtrl : Bool) (s : State) (hn : valid → n < 64) :
    Answers valid s (execReplayTimeout n toCtrl s) := by
  unfold Machine.execReplayTimeout
  refine .onSlot hn (fun _ => ?_)
  split
  · exact .ite (.replayFrom ..) (.refl _)
  · exact .refl _

theorem Answers.execLinkMgmt {valid : Prop} (n : Nat) (toCtrl : Bool) (subtype pver : Nat) (s : State) (hn : valid → n < 64) :
    Answers valid s (execLinkMgmt n toCtrl subtype pver s) := by
  unfold Machine.execLinkMgmt
  exact .onSlot hn (fun _ => .ite (.ite (.ite (.modSlot ..) (.modSeq ..)) (.ite (.modSlot ..) (.comp (.reject ..) <| .comp (.log ..) <|
      .comp (.log ..) <| .comp (.modSlot ..) <| .took ..))) (.ite (.comp (.fastRetrain ..) <| .took ..) (.refl _)))

theorem Keeps.ctrlData (s : State) (n tag idx : Nat) (d : List Byte) : Keeps s (s.ctrlData n tag idx d) := by
  unfold State.ctrlData
  split
  · split
    · exact .modSlot ..
    · exact .healthData ..
    · exact .comp (.lifeCheck ..) <| .setLife ..
    · exact .wearData ..
    · exact .comp (.lifeCheck ..) <| .comp (.authPass ..) <| .comp (.setLife ..) <| .modSlot ..
    · exact .refl _
  · exact .refl _

theorem Keeps.frameIn (s : State) (n : Nat) (toCtrl : Bool) (tag idx : Nat) (payload : List Byte) : Keeps s (s.frameIn n toCtrl tag idx payload) := by
  unfold State.frameIn
  exact .ite (.ctrlData ..) (.modSeq ..)

theorem Answers.execDataFrame {valid : Prop} (n : Nat) (toCtrl : Bool) (tag idx : Nat) (len : FrameLen) (hdrSf crc : Nat) (payload : List Byte)
    (s : State) (hn : valid → n < 64) : Answers valid s (execDataFrame n toCtrl tag idx len hdrSf crc payload s) := by
  unfold Machine.execDataFrame
  exact .onSlot hn (fun _ => .ite (.refl _) (.ite (.comp (.linkReset ..) <| .protoNote ..) (.ite (.frameBad ..) (.frameIn ..))))

theorem Answers.execFwActivate {valid : Prop} (n : Nat) (m : CartCmd) (imageOk : Bool) (s : State) (hn : valid → n < 64) :
    Answers valid s (execFwActivate n m imageOk s) := by
  unfold Machine.execFwActivate
  refine .onSlot hn (fun _ => ?_)
  refine .ite (.refl _) ?_
  dsimp only
  split
  · exact .modSeq ..
  · exact .ite (.modSeq ..) (.ite (.modSeq ..) (.comp (.ite (.setSlow ..) (.refl _)) <| .comp (.linkReset ..) <| .modSeq ..))

theorem Keeps.after {valid : Prop} {s : State} {o : Out} (h : Answers valid s o) : Keeps s (s.after o) := by
  obtain ⟨t, rfl, ht⟩ | ⟨-, r, rfl⟩ := h
  · exact ht
  · exact .refl _

theorem Keeps.cmdIn (s : State) (n : Nat) (b : List Byte) : Keeps s (s.cmdIn n b) := by
  unfold State.cmdIn
  dsimp only
  refine .after (valid := n < 64) ?_
  split
  · exact .execCartIdentify (hn := id) ..
  · exact .execGetCert (hn := id) ..
  · exact .seqCmd (hn := id) ..
  · exact .execSync (hn := id) ..
  · exact .from (.took _) (.execCartRead (hn := id) ..)
  · exact .from (.took _) (.execCartProgram (hn := id) ..)
  · exact .execErase (hn := id) ..
  · exact .execBufferRead (hn := id) ..
  · exact .execBufferRelease (hn := id) ..
  · exact .execWearRead (hn := id) ..
  · exact .execLifeRead (hn := id) ..
  · exact .execRetireBlock (hn := id) ..
  · exact .seqCmd (hn := id) ..
  · exact .from (.took _) (.execFwActivate (hn := id) ..)
  · exact .execGetHealth (hn := id) ..
  · exact .execCartShutdown (hn := id) ..
  · exact .seqUnknown (hn := id) ..

theorem Keeps.statusIn (s : State) (n : Nat) (b : List Byte) : Keeps s (s.statusIn n b) := by
  unfold State.statusIn
  dsimp only
  refine .after (valid := n < 64) ?_
  split
  · exact .execSuccess (hn := id) ..
  · exact .execDataReceived (hn := id) ..
  · exact .execCmdRefused (hn := id) ..
  · exact .execCmdRefused (hn := id) ..
  · exact .execCmdRefused (hn := id) ..
  · exact .execProgramReplaced (hn := id) ..
  · exact .execProgramFail (hn := id) ..
  · exact .execNotErased (hn := id) ..
  · exact .execEraseFail (hn := id) ..
  · exact .execDieFail (hn := id) ..
  · exact .execRetiredBlock (hn := id) ..
  · exact .execFwInvalid (hn := id) ..
  · exact .execFwNotLoaded (hn := id) ..
  · exact .execShutDown (hn := id) ..
  · exact .next (.refl _)

theorem Keeps.frameMsg (s : State) (n : Nat) (toCtrl : Bool) (sf : Nat) (m : List Byte) : Keeps s (s.frameMsg n toCtrl sf m) := by
  unfold State.frameMsg
  dsimp only
  refine .ite (.ite (.comp (.linkReset ..) <| .protoNote ..) (.modEnd ..)) ?_
  split
  · exact .ite (.comp (.linkReset ..) <| .protoNote ..) (.ite (.frameBad ..) (.comp (.frameIn ..) <| .modEnd ..))
  · exact .ite (.refl _) (.comp (.linkReset ..) <| .protoNote ..)

theorem Keeps.takeMsg (s : State) (n : Nat) (toCtrl : Bool) (sf : Nat) (m : List Byte) : Keeps s (s.takeMsg n toCtrl sf m) := by
  unfold State.takeMsg
  dsimp only
  refine .ite (.refl _) <| .ite (.frameMsg ..) <| .ite (.refl _) ?_
  split
  · exact .refl _
  · exact .ite (.refl _) (.cmdIn ..)
  · exact .ite (.statusIn ..) (.refl _)
  · exact .ite (.after <| .execXferRdy (valid := n < 64) (hn := id) ..) (.refl _)
  · exact .after <| .execAck (valid := n < 64) (hn := id) ..
  · exact .after <| .execNak (valid := n < 64) (hn := id) ..
  · exact .after <| .execLinkMgmt (valid := n < 64) (hn := id) ..
  · exact .protoNote ..

theorem Keeps.sends (s : State) (n : Nat) (toCtrl : Bool) (b : List Byte) : Keeps s (s.sends n toCtrl b) := by
  unfold State.sends
  exact .ite (.sendSf ..) (.refl _)

theorem Keeps.acceptSf (s : State) (n : Nat) (toCtrl : Bool) (sf : Nat) : Keeps s (s.acceptSf n toCtrl sf) := by
  unfold State.acceptSf
  exact .modEnd ..

theorem Keeps.takeBlockMsgs (s : State) (n : Nat) (toCtrl : Bool) (sf : Nat) (b : List Byte) : Keeps s (s.takeBlockMsgs n toCtrl sf b) := by
  unfold State.takeBlockMsgs
  exact .each (fun _ _ => .takeMsg ..)

theorem Keeps.takeData (s : State) (n : Nat) (toCtrl : Bool) (data : List Byte) : Keeps s (s.takeData n toCtrl data) := by
  unfold State.takeData
  exact .modEnd ..

theorem Answers.execControlBlock {valid : Prop} (n : Nat) (toCtrl : Bool) (x : SfBytes) (s : State) (hn : valid → n < 64) :
    Answers valid s (execControlBlock n toCtrl x s) := by
  unfold Machine.execControlBlock
  exact .onSlot hn (fun _ => .ite (.refl _) (.comp (.ite (.nakFor ..) (.ite (.comp (.nakFor ..) <| .comp (.protoNote ..) <| .comp (.took ..) <|
      .took ..) (.ite (.refl _) (.comp (.ite (.refl _) (.takeData ..)) <| .comp (.takeBlockMsgs ..) <| .acceptSf ..)))) <| .sends ..))

/-! ## What the operations of `Window` keep -/

theorem Keeps.relatchPins (s : State) : Keeps s s.relatchPins := by
  unfold State.relatchPins
  exact .each (fun _ _ => .ite (.latch ..) (.refl _))

theorem Keeps.writePortCfg (s : State) (p v : Nat) : Keeps s (s.writePortCfg p v) := by
  unfold State.writePortCfg
  exact .comp (.ite (.refl _) (.portDown ..)) <| .setReg ..

theorem Keeps.plainWrite (s : State) (off v : Nat) : Keeps s (s.plainWrite off v) := by
  unfold State.plainWrite
  dsimp only
  refine .comp (.ite (.refl _) (.setReg ..)) <| .ite ?_ (.refl _)
  exact ⟨rfl, rfl, fun h => by simp_all [State.sound, Dw.sound, Cells.mod, Cells.wf_put]⟩

theorem Answers.writeStage {valid : Prop} (p : Path) (off : Nat) (v : Word) (s : State) : Answers valid s (writeStage p off v s) := by
  unfold Machine.writeStage
  exact .ite (.execShadowWrite ..) (.ite (.execCommit ..) (.ite (.execDiscard ..) (.winWrite (fun _ => .plainWrite ..))))

theorem Answers.writePwr {valid : Prop} (p : Path) (off : Nat) (v : Word) (s : State) : Answers valid s (writePwr p off v s) := by
  unfold Machine.writePwr
  dsimp only
  exact .dite (fun _ => .execPwrKeyMgr (hn := fun _ => by omega) ..) fun _ => .ite (.execPwrSave ..) <| .ite (.execCartStagger ..) <|
    .ite (.winWrite fun _ => .comp (.relatchPins ..) <| .plainWrite ..) (.winWrite fun _ => .plainWrite ..)

theorem Answers.writeEfl {valid : Prop} (p : Path) (off : Nat) (v : Word) (s : State) : Answers valid s (writeEfl p off v s) := by
  unfold Machine.writeEfl
  dsimp only
  exact .ite (.execFlKey ..) (.ite (.execFlCmd ..) (.ite (.execFlSequenceStep ..) (.ite (.from (.took _) (.execFlashRead ..))
      (.winWrite fun _ => .plainWrite ..))))

theorem Answers.writeDma {valid : Prop} (p : Path) (off : Nat) (v : Word) (s : State) : Answers valid s (writeDma p off v s) := by
  unfold Machine.writeDma
  dsimp only
  refine .dite (fun h => ?_) fun _ => .winWrite fun _ => .plainWrite ..
  have hn : (off - dwCH 0) / 0x40 < 32 := by simp only [dwCH] at h ⊢; omega
  exact .ite (.execDmaAbort (hn := fun _ => hn) ..) <| .ite (.execDmaStart (hn := fun _ => hn) ..) <|
      .ite (.execDmaResume (hn := fun _ => hn) ..) (.winWrite fun _ => .refl _)

theorem Answers.writeDdr {valid : Prop} (p : Path) (off : Nat) (v : Word) (s : State) : Answers valid s (writeDdr p off v s) := by
  unfold Machine.writeDdr
  exact .ite (.ite (.execDdrSave ..) (.winWrite (fun _ => .refl _))) (.winWrite (fun _ => .plainWrite ..))

theorem Answers.writeSlice {valid : Prop} (p : Path) (off : Nat) (v : Word) (s : State) : Answers valid s (writeSlice p off v s) := by
  unfold Machine.writeSlice
  exact .ite (.ite (.execWipe ..) (.execSliceReset ..)) (.winWrite (fun _ => .plainWrite ..))

theorem Answers.writeLtest {valid : Prop} (p : Path) (off : Nat) (v : Word) (s : State) : Answers valid s (writeLtest p off v s) := by
  unfold Machine.writeLtest
  dsimp only
  have lane (h : off < dwLANE 208) : (off - dwLANE 0) / 0x40 < 208 := by simp only [dwLANE] at h ⊢; omega
  exact .ite (.execDdrLoop ..) <| .dite (fun h => .execPatternMode (hn := fun _ => lane h.2.1) ..) fun _ =>
    .dite (fun h => .execInj (hn := fun _ => lane h.2.1) ..) fun _ => .winWrite fun _ => .plainWrite ..

theorem Answers.writeCart {valid : Prop} (p : Path) (off : Nat) (v : Word) (s : State) (ho : off < 0x140000) :
    Answers valid s (writeCart p off v s) := by
  have hn : valid → (off - 0x100000) / 0x1000 < 64 := fun _ => by omega
  unfold Machine.writeCart
  dsimp only
  split
  · exact .ite (.execPwrOff (hn := hn) ..) <| .ite (.execPwrOn (hn := hn) ..) <| .ite (.execLinkReset (hn := hn) ..) <|
      .ite (.execRetrain (hn := hn) ..) (.winWrite fun _ => .refl _)
  · exact .execEventEnWrite (hn := hn) ..
  · exact .execEccInj (hn := hn) ..
  · exact .winWrite fun _ => .plainWrite ..

theorem Answers.writeHost {valid : Prop} (p : Path) (off : Nat) (v : Word) (s : State) : Answers valid s (writeHost p off v s) := by
  unfold Machine.writeHost
  dsimp only
  refine .dite (fun h => ?_) fun _ => .dite (fun h => ?_) fun _ =>
    .ite (.ite (.execHostSave ..) (.winWrite fun _ => .refl _)) (.winWrite fun _ => .plainWrite ..)
  · have hn : (off - dwHOST) / 0x1000 < 64 := by simp only [dwGROUP, dwHOST] at h ⊢; omega
    exact .ite (.winWrite fun _ => .writePortCfg ..) <| .ite (.winWrite fun _ => .modPort ..) <|
      .ite (.ite (.execMkaLoad (hn := fun _ => hn) ..) (.winWrite fun _ => .refl _)) <|
      .ite (.execAddressEntryWrite (hn := fun _ => hn) ..) (.winWrite fun _ => .plainWrite ..)
  · exact .execPortMode (hn := fun _ => by simp only [dwGROUP, dwHOST] at h ⊢; omega) ..

theorem Answers.writeDword {valid : Prop} (p : Path) (off : Nat) (v : Word) (s : State) : Answers valid s (writeDword p off v s) := by
  unfold Machine.writeDword
  exact .ite (.writeStage ..) <| .ite (.writePwr ..) <| .ite (.writeEfl ..) <| .ite (.writeDma ..) <| .ite (.writeDdr ..) <| .ite (.writeSlice ..) <|
    .ite (.writeLtest ..) <| .dite (fun h => .writeCart (ho := h.2) ..) fun _ => .ite (.execTcamInj ..) <|
        .ite (.writeHost ..) (.winWrite fun _ => .plainWrite ..)

theorem Answers.execDwRegisterWrite {valid : Prop} (p : Path) (off width : Nat) (v : Word) (s : State) :
    Answers valid s (execDwRegisterWrite p off width v s) := by
  unfold Machine.execDwRegisterWrite
  exact .ite (.writeDword ..) (.winWrite (fun _ => .refl _))

theorem Keeps.setLatch (s : State) (p : Path) (off v : Nat) : Keeps s (s.setLatch p off v) := by
  unfold State.setLatch
  exact ⟨rfl, rfl, fun h => by simp_all [State.sound, Dw.sound, Cells.wf_put]⟩

theorem Keeps.catchUp (s : State) (off : Nat) : Keeps s (s.catchUp off) := by
  unfold State.catchUp
  exact .comp (.ite (.comp (.modLane ..) <| .took ..) (.refl _)) <| .ite (.comp (.bump ..) <| .took ..) (.refl _)

theorem Keeps.clearRc (s : State) (off : Nat) : Keeps s (s.clearRc off) := by
  unfold State.clearRc
  refine .ite ?_ (.refl _)
  exact ⟨rfl, rfl, fun h => by simp_all [State.sound, Dw.sound, Cells.wf_put]⟩

theorem Keeps.readReg (s : State) (p : Path) (off : Nat) : Keeps s (s.readReg p off).2 := by
  unfold State.readReg
  exact .iteSnd (.setLatch ..) (.comp (.clearRc ..) <| .comp (.ite (.setLatch ..) (.refl _)) <| .catchUp ..)

theorem Keeps.readDword (s : State) (p : Path) (off : Nat) : Keeps s (s.readDword p off).2 := by
  unfold State.readDword
  split
  · exact .readReg ..
  · dsimp only
    exact .log ..
  · exact .refl _
  · exact .refl _

theorem Answers.execDwClearingRead {valid : Prop} (p : Path) (off width : Nat) (s : State) : Answers valid s (execDwClearingRead p off width s) := by
  unfold Machine.execDwClearingRead
  exact .ite (.next (.refl _)) (.next (.comp (.upd (by rfl)) <| .readDword ..))

theorem Keeps.putDword (s : State) (p : Path) (off : Nat) (v : Word) : Keeps s (s.putDword p off v) := by
  unfold State.putDword
  have h := Answers.writeDword (valid := True) p off v s
  obtain ⟨t, e, ht⟩ | ⟨-, r, e⟩ := h
  · simpa only [e] using ht
  · simpa only [e] using Keeps.refl s

theorem Keeps.readDwords (s : State) (p : Path) (off n : Nat) : Keeps s (s.readDwords p off n).2 := by
  unfold State.readDwords
  refine .foldSnd fun _ _ => ?_
  exact .readDword ..

theorem Keeps.writeDwords (s : State) (p : Path) (off n : Nat) (b : List Byte) : Keeps s (s.writeDwords p off n b) := by
  unfold State.writeDwords
  exact .each (fun _ _ => .putDword ..)

theorem Keeps.windowAccess (s : State) (c : Cmd) : Keeps s (s.windowAccess c) := by
  unfold State.windowAccess
  exact .ite (.comp (.post ..) <| .writeDwords ..) (.comp (.post ..) <| .readDwords ..)

theorem Answers.execDeviceWindowAccess {valid : Prop} (c : Cmd) (s : State) : Answers valid s (execDeviceWindowAccess c s) := by
  unfold Machine.execDeviceWindowAccess
  dsimp only
  refine .ite (.next (.refl _)) <| .from (.cmdArrives s c) ?_
  exact .ite (.next (.refuse ..)) (.ite (.next (.refuse ..)) (.ite (.next (.refuse ..)) (.ite (.next (.refuse ..)) (.next <| .check <|
      .windowAccess ..))))

/-! ## What the operations of `Mi` keep -/

theorem Keeps.miSay (s : State) (status : Nat) (b : List Byte) : Keeps s (s.miSay status b) := by
  unfold State.miSay
  exact .upd (by rfl)

theorem Keeps.miOpen (s : State) (n : Nat) (fs : List (Nat × Nat × Nat)) : Keeps s (s.miOpen n fs) := by
  unfold State.miOpen
  exact .comp (.miSay ..) <| .took ..

theorem Answers.miRequest {valid : Prop} {port : Nat} {s : State} {f : State → State} (h : ∀ t, Keeps t (f t)) :
    Answers valid s (miRequest port s f) :=
  .ite (.next (h _)) (.next (.refl _))

theorem Answers.execReadNvmeMiDataStructure {valid : Prop} (port dtype ident : Nat) (s : State) :
    Answers valid s (execReadNvmeMiDataStructure port dtype ident s) := by
  unfold Machine.execReadNvmeMiDataStructure
  exact .miRequest (fun _ => .ite (.miOpen ..) (.ite (.miOpen ..) (.ite (.miOpen ..) (.ite (.miSay ..) (.ite (.miOpen ..) (.ite (.miOpen ..)
      (.miSay ..)))))))

theorem Answers.execNvmSubsystemHealthStatusPoll {valid : Prop} (port : Nat) (_clearStatus : Bool) (s : State) :
    Answers valid s (execNvmSubsystemHealthStatusPoll port _clearStatus s) := by
  unfold Machine.execNvmSubsystemHealthStatusPoll
  exact .miRequest (fun _ => .comp (.miOpen ..) <| .took ..)

theorem Answers.execControllerHealthStatusPoll {valid : Prop} (port start : Nat) (s : State) :
    Answers valid s (execControllerHealthStatusPoll port start s) := by
  unfold Machine.execControllerHealthStatusPoll
  refine .miRequest fun s => ?_
  dsimp only
  exact .trans (.miSay ..) <| .each fun _ _ => .comp (.miSay ..) <| .took ..

theorem Answers.execConfigurationGet {valid : Prop} (port id : Nat) (s : State) : Answers valid s (execConfigurationGet port id s) := by
  unfold Machine.execConfigurationGet
  exact .miRequest (fun _ => .ite (.miSay ..) (.ite (.miSay ..) (.miSay ..)))

theorem Answers.execConfigurationSet {valid : Prop} (port id value : Nat) (s : State) : Answers valid s (execConfigurationSet port id value s) := by
  unfold Machine.execConfigurationSet
  exact .miRequest (fun _ => .ite (.comp (.miSay ..) <| .upd (by rfl)) (.ite (.comp (.miSay ..) <| .upd (by rfl)) (.miSay ..)))

theorem Answers.miCommit {valid : Prop} (c : Cmd) (s : State) : Answers valid s (miCommit c s) := by
  unfold Machine.miCommit
  split
  · exact .execReplace ..
  · exact .execReplaceActivateNext ..
  · exact .execActivateNext ..
  · exact .execReplaceActivateNow ..
  · exact .adminCmd (fun _ => .refuse ..)

theorem Answers.miService {valid : Prop} (c : Cmd) (s : State) : Answers valid s (miService c s) := by
  unfold Machine.miService
  split
  · exact .execDrain ..
  · exact .execUndrain ..
  · exact .execSeqUpdate ..
  · exact .execPowerOff ..
  · exact .execPowerOn ..
  · exact .execRelease ..
  · exact .adminCmd (fun _ => .refuse ..)

theorem Answers.miOwner {valid : Prop} (c : Cmd) (s : State) : Answers valid s (miOwner c s) := by
  unfold Machine.miOwner
  split
  · exact .execNonce ..
  · exact .from (.took _) (.execClear ..)
  · exact .from (.took _) (.execOwnerSet ..)
  · exact .adminCmd fun _ => .refuse ..

theorem Answers.execNvmeAdminCommandTunnel {valid : Prop} (port opcode : Nat) (c : Cmd) (s : State) :
    Answers valid s (execNvmeAdminCommandTunnel port opcode c s) := by
  unfold Machine.execNvmeAdminCommandTunnel
  refine .ite (.next (.refl _)) (.ite (.next (.miSay ..)) ?_)
  split
  · exact .execGetLogPage ..
  · exact .execIdentify ..
  · exact .execSetFeatures ..
  · exact .execGetFeatures ..
  · exact .miCommit ..
  · exact .execFirmwareImageDownload ..
  · exact .miService ..
  · exact .execGuestbookRead ..
  · exact .miOwner ..
  · exact .execDeviceWindowAccess ..
  · exact .next (.refuse ..)

theorem Answers.execBasicManagementCommand {valid : Prop} (code : Nat) (s : State) : Answers valid s (execBasicManagementCommand code s) := by
  unfold Machine.execBasicManagementCommand
  refine .miRequest fun s => .ite ?_ (.ite (.miOpen ..) (.miSay ..))
  exact .comp (.miOpen ..) <| .took ..
/-! ## Every command -/

/-- What each command of the table answers: a next state that keeps, or a fault for a number that its operands cannot hold. -/
theorem exec_answers (i : Instr) (s : State) : Answers (i.wf = true) s (exec i s) := by
  cases i with
  | dwRegisterWrite p off width v => exact .execDwRegisterWrite p off width v s
  | dwClearingRead p off width => exact .execDwClearingRead p off width s
  | deviceWindowAccess c => exact .execDeviceWindowAccess c s
  | shadowWrite p off v => exact .execShadowWrite p off v s
  | commit p => exact .execCommit p s
  | discard p => exact .execDiscard p s
  | checkWindowOpen => exact .execCheckWindowOpen s
  | epochBoundary => exact .execEpochBoundary s
  | clockLoss => exact .execClockLoss s
  | porstAssert => exact .execPorstAssert s
  | coldStart mode carts => exact .execColdStart mode carts s
  | dramTraining dimms res => exact .execDramTraining dimms res s
  | firmwareStart => exact .execFirmwareStart s
  | census pool reads => exact .execCensus pool reads s
  | startedPoint => exact .execStartedPoint s
  | perst level => exact .execPerst level s
  | refclkLoss => exact .execRefclkLoss s
  | tempSample readings => exact .execTempSample readings s
  | tapInstruction code => exact .execTapInstruction code s
  | presenceLow n => exact .execPresenceLow (hn := fun h => by simp_all [Instr.wf]) n s
  | cartInserted x => exact .execCartInserted (hn := fun h => by simp_all [Instr.wf]) x s
  | pwrenRise => exact .execPwrenRise s
  | cartRemoved n => exact .execCartRemoved (hn := fun h => by simp_all [Instr.wf]) n s
  | cartAlert n => exact .execCartAlert (hn := fun h => by simp_all [Instr.wf]) n s
  | getHealthTimeout n => exact .execGetHealthTimeout (hn := fun h => by simp_all [Instr.wf]) n s
  | cartPowerTimeout n => exact .execCartPowerTimeout (hn := fun h => by simp_all [Instr.wf]) n s
  | trainingTimeout n => exact .execTrainingTimeout (hn := fun h => by simp_all [Instr.wf]) n s
  | farEndSignal n => exact .execFarEndSignal (hn := fun h => by simp_all [Instr.wf]) n s
  | linkUp n lp => exact .execLinkUp (hn := fun h => by simp_all [Instr.wf]) n lp s
  | identifyTimeout n => exact .execIdentifyTimeout (hn := fun h => by simp_all [Instr.wf]) n s
  | descriptorReceived n d => exact .execDescriptorReceived (hn := fun h => by simp_all [Instr.wf]) n d s
  | signatureReceived n r life => exact .execSignatureReceived (hn := fun h => by simp_all [Instr.wf]) n r life s
  | authTimeout n => exact .execAuthTimeout (hn := fun h => by simp_all [Instr.wf]) n s
  | seqUpdateTimeout n => exact .execSeqUpdateTimeout (hn := fun h => by simp_all [Instr.wf]) n s
  | pwrOff p n => exact .execPwrOff (hn := fun h => by simp_all [Instr.wf]) p n s
  | pwrOn p n => exact .execPwrOn (hn := fun h => by simp_all [Instr.wf]) p n s
  | linkReset p n => exact .execLinkReset (hn := fun h => by simp_all [Instr.wf]) p n s
  | retrain p n => exact .execRetrain (hn := fun h => by simp_all [Instr.wf]) p n s
  | fastRetrain n cause => exact .execFastRetrain (hn := fun h => by simp_all [Instr.wf]) n cause s
  | retrainDone n ok full lp => exact .execRetrainDone (hn := fun h => by simp_all [Instr.wf]) n ok full lp s
  | lanternFrame => exact .execLanternFrame s
  | eventEnWrite p n v => exact .execEventEnWrite (hn := fun h => by simp_all [Instr.wf]) p n v s
  | lifePoll n life => exact .execLifePoll (hn := fun h => by simp_all [Instr.wf]) n life s
  | migrateDone n => exact .execMigrateDone (hn := fun h => by simp_all [Instr.wf]) n s
  | controlBlock n toCtrl sf => exact .execControlBlock (hn := fun h => by simp_all [Instr.wf]) n toCtrl sf s
  | ack n toCtrl sf => exact .execAck (hn := fun h => by simp_all [Instr.wf]) n toCtrl sf s
  | nak n toCtrl sf => exact .execNak (hn := fun h => by simp_all [Instr.wf]) n toCtrl sf s
  | ackTimer n toCtrl => exact .execAckTimer (hn := fun h => by simp_all [Instr.wf]) n toCtrl s
  | replayTimeout n toCtrl => exact .execReplayTimeout (hn := fun h => by simp_all [Instr.wf]) n toCtrl s
  | linkMgmt n toCtrl subtype pver => exact .execLinkMgmt (hn := fun h => by simp_all [Instr.wf]) n toCtrl subtype pver s
  | dataFrame n toCtrl tag idx len hdrSf crc payload => exact .execDataFrame (hn := fun h => by simp_all [Instr.wf]) n toCtrl tag idx len hdrSf crc payload s
  | xferRdy n tag first count => exact .execXferRdy (hn := fun h => by simp_all [Instr.wf]) n tag first count s
  | codewordArrival n tag k a => exact .execCodewordArrival (hn := fun h => by simp_all [Instr.wf]) n tag k a s
  | success n tag => exact .execSuccess (hn := fun h => by simp_all [Instr.wf]) n tag s
  | dataReceived n tag => exact .execDataReceived (hn := fun h => by simp_all [Instr.wf]) n tag s
  | programReplaced n tag die block page => exact .execProgramReplaced (hn := fun h => by simp_all [Instr.wf]) n tag die block page s
  | programFail n tag held => exact .execProgramFail (hn := fun h => by simp_all [Instr.wf]) n tag held s
  | notErased n tag => exact .execNotErased (hn := fun h => by simp_all [Instr.wf]) n tag s
  | retiredBlock n tag => exact .execRetiredBlock (hn := fun h => by simp_all [Instr.wf]) n tag s
  | eraseFail n tag => exact .execEraseFail (hn := fun h => by simp_all [Instr.wf]) n tag s
  | dieFail n tag => exact .execDieFail (hn := fun h => by simp_all [Instr.wf]) n tag s
  | cmdRefused n tag code => exact .execCmdRefused (hn := fun h => by simp_all [Instr.wf]) n tag code s
  | fwInvalid n tag => exact .execFwInvalid (hn := fun h => by simp_all [Instr.wf]) n tag s
  | fwNotLoaded n tag => exact .execFwNotLoaded (hn := fun h => by simp_all [Instr.wf]) n tag s
  | shutDown n tag => exact .execShutDown (hn := fun h => by simp_all [Instr.wf]) n tag s
  | cartIdentify n m => exact .execCartIdentify (hn := fun h => by simp_all [Instr.wf]) n m s
  | getCert n m => exact .execGetCert (hn := fun h => by simp_all [Instr.wf]) n m s
  | challenge n m nonce unitId => exact .execChallenge (hn := fun h => by simp_all [Instr.wf]) n m nonce unitId s
  | sync n m => exact .execSync (hn := fun h => by simp_all [Instr.wf]) n m s
  | cartRead n r => exact .execCartRead (hn := fun h => by simp_all [Instr.wf]) n r s
  | cartProgram n m blank => exact .execCartProgram (hn := fun h => by simp_all [Instr.wf]) n m blank s
  | dieProgramDone n tag verified dieAlive => exact .execDieProgramDone (hn := fun h => by simp_all [Instr.wf]) n tag verified dieAlive s
  | erase n m => exact .execErase (hn := fun h => by simp_all [Instr.wf]) n m s
  | bufferRead n m => exact .execBufferRead (hn := fun h => by simp_all [Instr.wf]) n m s
  | bufferRelease n m => exact .execBufferRelease (hn := fun h => by simp_all [Instr.wf]) n m s
  | wearRead n m => exact .execWearRead (hn := fun h => by simp_all [Instr.wf]) n m s
  | lifeRead n m => exact .execLifeRead (hn := fun h => by simp_all [Instr.wf]) n m s
  | retireBlock n m => exact .execRetireBlock (hn := fun h => by simp_all [Instr.wf]) n m s
  | fwDownload n m data => exact .execFwDownload (hn := fun h => by simp_all [Instr.wf]) n m data s
  | fwActivate n m imageOk => exact .execFwActivate (hn := fun h => by simp_all [Instr.wf]) n m imageOk s
  | getHealth n m => exact .execGetHealth (hn := fun h => by simp_all [Instr.wf]) n m s
  | cartShutdown n m => exact .execCartShutdown (hn := fun h => by simp_all [Instr.wf]) n m s
  | eccInj p n v => exact .execEccInj (hn := fun h => by simp_all [Instr.wf]) p n v s
  | patrol pool band row => exact .execPatrol pool band row s
  | slcUnitTimeout pool => exact .execSlcUnitTimeout pool s
  | journalUnitTimeout pool n => exact .execJournalUnitTimeout pool n s
  | frontierFill nsx seg => exact .execFrontierFill nsx seg s
  | fold nsx seg => exact .execFold nsx seg s
  | foldSwitch band => exact .execFoldSwitch band s
  | logGc pool band => exact .execLogGc pool band s
  | reserveErase n die mode => exact .execReserveErase (hn := fun h => by simp_all [Instr.wf]) n die mode s
  | wearCheck pool => exact .execWearCheck pool s
  | lifeForecast pool => exact .execLifeForecast pool s
  | read c => exact .execRead c s
  | write c => exact .execWrite c s
  | stagingReserved id => exact .execStagingReserved id s
  | writeDataArrival id first data pi digestOk busOk => exact .execWriteDataArrival id first data pi digestOk busOk s
  | rangeLockGrant id => exact .execRangeLockGrant id s
  | barrierPass id => exact .execBarrierPass id s
  | writeComplete id => exact .execWriteComplete id s
  | tSlowExpiry n tag => exact .execTSlowExpiry (hn := fun h => by simp_all [Instr.wf]) n tag s
  | slowProbe n => exact .execSlowProbe (hn := fun h => by simp_all [Instr.wf]) n s
  | tFailExpiry n => exact .execTFailExpiry (hn := fun h => by simp_all [Instr.wf]) n s
  | slowRatioCheck n => exact .execSlowRatioCheck (hn := fun h => by simp_all [Instr.wf]) n s
  | rebuildRow pool band row => exact .execRebuildRow pool band row s
  | spareRetry pool => exact .execSpareRetry pool s
  | portMode p g mode => exact .execPortMode (hn := fun h => by simp_all [Instr.wf]) p g mode s
  | frameReceive port f => exact .execFrameReceive (hn := fun h => by simp_all [Instr.wf]) port f s
  | pfcFrame port prio quanta => exact .execPfcFrame (hn := fun h => by simp_all [Instr.wf]) port prio quanta s
  | pfcPauseRefresh port prio => exact .execPfcPauseRefresh (hn := fun h => by simp_all [Instr.wf]) port prio s
  | pfcStorm port prio => exact .execPfcStorm (hn := fun h => by simp_all [Instr.wf]) port prio s
  | pfcStormClear port prio => exact .execPfcStormClear (hn := fun h => by simp_all [Instr.wf]) port prio s
  | dcqcnRateIncrease qp => exact .execDcqcnRateIncrease qp s
  | portLinkUp port => exact .execPortLinkUp (hn := fun h => by simp_all [Instr.wf]) port s
  | portLinkDown port cause => exact .execPortLinkDown (hn := fun h => by simp_all [Instr.wf]) port cause s
  | icreq conn port entry pfv maxr2t hpda tls hdgst ddgst noSuccess => exact .execIcreq conn port entry pfv maxr2t hpda tls hdgst ddgst noSuccess s
  | tcpTimeout conn => exact .execTcpTimeout conn s
  | keepAliveTimeout ctrl => exact .execKeepAliveTimeout ctrl s
  | rdmaRetryExhausted conn => exact .execRdmaRetryExhausted conn s
  | addressEntryWrite p port e dword v => exact .execAddressEntryWrite (hn := fun h => by simp_all [Instr.wf]) p port e dword v s
  | hostSave p => exact .execHostSave p s
  | mkaLoad p port => exact .execMkaLoad (hn := fun h => by simp_all [Instr.wf]) p port s
  | sakDistribution port => exact .execSakDistribution (hn := fun h => by simp_all [Instr.wf]) port s
  | pnExhausted port transmit atLimit channel => exact .execPnExhausted (hn := fun h => by simp_all [Instr.wf]) port transmit atLimit channel s
  | mkaPeerTimeout port => exact .execMkaPeerTimeout (hn := fun h => by simp_all [Instr.wf]) port s
  | pcieLink => exact .execPcieLink s
  | flr fn => exact .execFlr fn s
  | busMasterClear => exact .execBusMasterClear s
  | pasidTlp pasid => exact .execPasidTlp pasid s
  | doorbellWrite ctrl sq tail => exact .execDoorbellWrite ctrl sq tail s
  | controllerReset ctrl => exact .execControllerReset ctrl s
  | ccEnable ctrl => exact .execCcEnable ctrl s
  | shutdownNotification ctrl shn => exact .execShutdownNotification ctrl shn s
  | drainComplete ctrl => exact .execDrainComplete ctrl s
  | flush c => exact .execFlush c s
  | compare c => exact .execCompare c s
  | writeZeroes c => exact .execWriteZeroes c s
  | datasetManagement c => exact .execDatasetManagement c s
  | verify c => exact .execVerify c s
  | ioManagementReceive c => exact .execIoManagementReceive c s
  | ioManagementSend c => exact .execIoManagementSend c s
  | deleteIoSubmissionQueue c => exact .execDeleteIoSubmissionQueue c s
  | createIoSubmissionQueue c => exact .execCreateIoSubmissionQueue c s
  | deleteIoCompletionQueue c => exact .execDeleteIoCompletionQueue c s
  | createIoCompletionQueue c => exact .execCreateIoCompletionQueue c s
  | getLogPage c => exact .execGetLogPage c s
  | cartridgeHealth c => exact .execCartridgeHealth c s
  | lostLbaList c => exact .execLostLbaList c s
  | rebuildProgress c => exact .execRebuildProgress c s
  | guestbookLog c => exact .execGuestbookLog c s
  | throttleAndDisturbance c => exact .execThrottleAndDisturbance c s
  | searchStatistics c => exact .execSearchStatistics c s
  | startUpReport c => exact .execStartUpReport c s
  | identify c => exact .execIdentify c s
  | abort c => exact .execAbort c s
  | setFeatures c => exact .execSetFeatures c s
  | getFeatures c => exact .execGetFeatures c s
  | tenantQos c => exact .execTenantQos c s
  | roomKey c => exact .execRoomKey c s
  | firmwareConfirm c => exact .execFirmwareConfirm c s
  | epochLength c => exact .execEpochLength c s
  | rebuildShare c => exact .execRebuildShare c s
  | memberTimers c => exact .execMemberTimers c s
  | writePathPolicy c => exact .execWritePathPolicy c s
  | cartridgeAdmissionPolicy c sig => exact .execCartridgeAdmissionPolicy c sig s
  | timestamp c => exact .execTimestamp c s
  | powerManagement c => exact .execPowerManagement c s
  | asynchronousEventRequest c => exact .execAsynchronousEventRequest c s
  | namespaceCreate c => exact .execNamespaceCreate c s
  | namespaceDelete c => exact .execNamespaceDelete c s
  | namespaceAttachment c => exact .execNamespaceAttachment c s
  | keepAlive c => exact .execKeepAlive c s
  | propertySet c => exact .execPropertySet c s
  | propertyGet c => exact .execPropertyGet c s
  | connect c r => exact .execConnect c r s
  | authenticationSend c => exact .execAuthenticationSend c s
  | authenticationReceive c ok => exact .execAuthenticationReceive c ok s
  | disconnect c => exact .execDisconnect c s
  | formatNvm c => exact .execFormatNvm c s
  | cryptoErase c => exact .execCryptoErase c s
  | blockErase c => exact .execBlockErase c s
  | overwrite c => exact .execOverwrite c s
  | tenantCreate c => exact .execTenantCreate c s
  | tenantDelete c => exact .execTenantDelete c s
  | tenantReset c => exact .execTenantReset c s
  | resources c => exact .execResources c s
  | hosts c => exact .execHosts c s
  | bindVf c => exact .execBindVf c s
  | nsAssign c => exact .execNsAssign c s
  | nsRelease c => exact .execNsRelease c s
  | global c => exact .execGlobal c s
  | sliceReset p v => exact .execSliceReset p v s
  | wipe p => exact .execWipe p s
  | drain c => exact .execDrain c s
  | undrain c => exact .execUndrain c s
  | seqUpdate c => exact .execSeqUpdate c s
  | powerOff c => exact .execPowerOff c s
  | powerOn c => exact .execPowerOn c s
  | release c => exact .execRelease c s
  | poolCreate c => exact .execPoolCreate c s
  | poolAdd c => exact .execPoolAdd c s
  | poolRemove c => exact .execPoolRemove c s
  | poolSet c => exact .execPoolSet c s
  | poolDelete c => exact .execPoolDelete c s
  | poolReport c => exact .execPoolReport c s
  | keyLookupShort c => exact .execKeyLookupShort c s
  | keyLookupLong c => exact .execKeyLookupLong c s
  | keyLookupBatch c => exact .execKeyLookupBatch c s
  | cursorFreed tenant => exact .execCursorFreed tenant s
  | keyNext c => exact .execKeyNext c s
  | cursorExpiry token => exact .execCursorExpiry token s
  | keyInsert c => exact .execKeyInsert c s
  | keyDelete c => exact .execKeyDelete c s
  | tcamScrub bank => exact .execTcamScrub (hn := fun h => by simp_all [Instr.wf]) bank s
  | tcamInj p v => exact .execTcamInj p v s
  | patternImageLoad c => exact .execPatternImageLoad c s
  | patternImageLoadFinal c structOk => exact .execPatternImageLoadFinal c structOk s
  | patternImageUnload c => exact .execPatternImageUnload c s
  | scanStart c => exact .execScanStart c s
  | scanChunk lane cands unreadable guardBad ecc => exact .execScanChunk (hn := fun h => by simp_all [Instr.wf]) lane cands unreadable guardBad ecc s
  | scanRelease lane => exact .execScanRelease (hn := fun h => by simp_all [Instr.wf]) lane s
  | scanFetch c => exact .execScanFetch c s
  | scanFetchWaitExpiry id => exact .execScanFetchWaitExpiry id s
  | scanCancel c => exact .execScanCancel c s
  | scanExpiry scan => exact .execScanExpiry scan s
  | dramRetrain p dimms res => exact .execDramRetrain p dimms res s
  | ddrSave p => exact .execDdrSave p s
  | dramRecalibration ch drift => exact .execDramRecalibration ch drift s
  | dramRefresh ch rank bank postpone dimm celsius => exact .execDramRefresh ch rank bank postpone dimm celsius s
  | dramActivation ch sub now reads writes ecc => exact .execDramActivation ch sub now reads writes ecc s
  | disturbanceWindow => exact .execDisturbanceWindow s
  | dramPatrolScrub ch ecc => exact .execDramPatrolScrub ch ecc s
  | flKey iss v => exact .execFlKey iss v s
  | flCmd iss v => exact .execFlCmd iss v s
  | flSequenceStep iss off v => exact .execFlSequenceStep iss off v s
  | flSequenceLate => exact .execFlSequenceLate s
  | program iss v => exact .execProgram iss v s
  | eraseSector iss v => exact .execEraseSector iss v s
  | eraseBank iss v => exact .execEraseBank iss v s
  | readMarkers iss v => exact .execReadMarkers iss v s
  | clearEraseFlag iss v => exact .execClearEraseFlag iss v s
  | flashOpDone verified => exact .execFlashOpDone verified s
  | flashRead p v ecc => exact .execFlashRead p v ecc s
  | firmwareImageDownload c => exact .execFirmwareImageDownload c s
  | replace c => exact .execReplace c s
  | replaceActivateNext c => exact .execReplaceActivateNext c s
  | activateNext c => exact .execActivateNext c s
  | replaceActivateNow c => exact .execReplaceActivateNow c s
  | activationPause => exact .execActivationPause s
  | pauseEnd => exact .execPauseEnd s
  | rollingSeqUpdate n => exact .execRollingSeqUpdate (hn := fun h => by simp_all [Instr.wf]) n s
  | entryRequest => exact .execEntryRequest s
  | entryE1 => exact .execEntryE1 s
  | entryE2 => exact .execEntryE2 s
  | entryE3 => exact .execEntryE3 s
  | wakePin pin level => exact .execWakePin (hn := fun h => by simp_all [Instr.wf]) pin level s
  | linkWake g => exact .execLinkWake (hn := fun h => by simp_all [Instr.wf]) g s
  | pcieWake => exact .execPcieWake s
  | wakeTimer => exact .execWakeTimer s
  | cartridgeWake n level => exact .execCartridgeWake (hn := fun h => by simp_all [Instr.wf]) n level s
  | keyWake cls dom => exact .execKeyWake cls dom s
  | pwrExit => exact .execPwrExit s
  | pwrKeyMgr p d v => exact .execPwrKeyMgr (hn := fun h => by simp_all [Instr.wf]) p d v s
  | pwrSave p v => exact .execPwrSave p v s
  | cartStagger p v => exact .execCartStagger p v s
  | pmbusAlert answers => exact .execPmbusAlert answers s
  | guestbookRead c => exact .execGuestbookRead c s
  | nonce c => exact .execNonce c s
  | clear c sigOk => exact .execClear c sigOk s
  | ownerSet c sigOk onCurve => exact .execOwnerSet c sigOk onCurve s
  | nonceExpiry => exact .execNonceExpiry s
  | guestbookRecordWrite => exact .execGuestbookRecordWrite s
  | coalesceWindow code key => exact .execCoalesceWindow code key s
  | dmaStart p ch => exact .execDmaStart (hn := fun h => by simp_all [Instr.wf]) p ch s
  | dmaAbort p ch => exact .execDmaAbort (hn := fun h => by simp_all [Instr.wf]) p ch s
  | dmaResume p ch => exact .execDmaResume (hn := fun h => by simp_all [Instr.wf]) p ch s
  | descriptorFetch ch d => exact .execDescriptorFetch (hn := fun h => by simp_all [Instr.wf]) ch d s
  | dmaBurst fin => exact .execDmaBurst fin s
  | dmaRetry ch fin => exact .execDmaRetry (hn := fun h => by simp_all [Instr.wf]) ch fin s
  | patternMode p lane v => exact .execPatternMode (hn := fun h => by simp_all [Instr.wf]) p lane v s
  | inj p lane v => exact .execInj (hn := fun h => by simp_all [Instr.wf]) p lane v s
  | ddrLoop p v => exact .execDdrLoop p v s
  | readNvmeMiDataStructure port dtype ident => exact .execReadNvmeMiDataStructure port dtype ident s
  | nvmSubsystemHealthStatusPoll port clearStatus => exact .execNvmSubsystemHealthStatusPoll port clearStatus s
  | controllerHealthStatusPoll port start => exact .execControllerHealthStatusPoll port start s
  | configurationGet port id => exact .execConfigurationGet port id s
  | configurationSet port id value => exact .execConfigurationSet port id value s
  | nvmeAdminCommandTunnel port opcode c => exact .execNvmeAdminCommandTunnel port opcode c s
  | basicManagementCommand code => exact .execBasicManagementCommand code s
  | dieEraseDone n tag res => exact .execDieEraseDone (hn := fun h => by simp_all [Instr.wf]) n tag res s
  | powerLoss torn => exact .execPowerLoss torn s
  | refclkReturn => exact .execRefclkReturn s
  | checkerLocked lane => exact .execCheckerLocked (hn := fun h => by simp_all [Instr.wf]) lane s
  | checkerLostLock lane => exact .execCheckerLostLock (hn := fun h => by simp_all [Instr.wf]) lane s
  | pcieLinkUp speed width flit sris => exact .execPcieLinkUp speed width flit sris s
  | connectionLoss conn => exact .execConnectionLoss conn s
  | pfcPauseExpiry port prio => exact .execPfcPauseExpiry (hn := fun h => by simp_all [Instr.wf]) port prio s
  | testLogicReset => exact .execTestLogicReset s

theorem step_keeps {s t : State} {c : Instr} {rest : List Instr} (hp : s.pending = c :: rest) (h : step s = .next t) :
    Keeps { s with pending := rest } t := by
  have hs : step s = exec c { s with pending := rest } := by simp only [step, hp]
  obtain ⟨u, e, hu⟩ | ⟨-, r, e⟩ := exec_answers c { s with pending := rest }
  · cases hs.symm.trans h |>.symm.trans e
    exact hu
  · cases hs.symm.trans h |>.symm.trans e

/-- Settles O2: what a command answers keeps the part and the queue it was given (`exec_answers`), and `step` gives it the queue's rest. -/
theorem stepKeepsPartAndTakesOneCommand : Obligations.StepKeepsPartAndTakesOneCommand := by
  intro s t h
  cases hp : s.pending with
  | nil =>
    simp only [step, hp] at h
    cases h
    exact ⟨rfl, hp⟩
  | cons c rest =>
    obtain ⟨part, pending, -⟩ := step_keeps hp h
    exact ⟨part, pending⟩

/-- Settles O3: every outcome of the table is a next state or the fault for a slot, port, lane or channel that no part has (`exec_answers`), and a sender cannot name one. -/
theorem everyCommandASenderCanGiveRuns : Obligations.EveryCommandASenderCanGiveRuns := by
  intro i s hi
  obtain ⟨t, e, part, pending, -⟩ | ⟨hn, -⟩ := exec_answers i s
  · exact ⟨t, e, part, pending⟩
  · exact absurd hi hn
end Sys2Proof.Machine

namespace Sys2Proof.Machine

/-! ## Reads of staged fields -/

/-- The block bases of R42 as numerals, for `omega`. -/
theorem dw_bases : dwSTAGE = 0x10000 ∧ dwPWR = 0x20000 ∧ dwEFL = 0x30000 ∧ dwGBK = 0x40000 ∧ dwDMA = 0x50000 ∧ dwDDR = 0x60000 ∧ dwSLICE = 0x70000 ∧
    dwLTEST = 0x80000 ∧ dwSRCH = 0x200000 ∧ dwHOST = 0x300000 ∧ dwXPORT = 0x360000 ∧ dwKEY 0 = 0x20010 ∧ dwKEY 18 = 0x20058 ∧ dwCH 0 = 0x50100 ∧
    dwCH 32 = 0x50900 ∧ dwLANE 0 = 0x81000 ∧ dwLANE 208 = 0x84400 ∧ dwGROUP 0 = 0x340000 ∧ dwGROUP 4 = 0x344000 := by decide

/-- Where the fields of the staging scheme lie in the window (R30): dwords of `STAGE`, `DDR`, `SRCH` and the port blocks. -/
theorem isStOffset_place {off : Nat} (h : isStOffset off = true) : off % 4 = 0 ∧
    (off = 0x10008 ∨ off = 0x10030 ∨ (0x10040 ≤ off ∧ off < 0x10050) ∨ off = 0x60080 ∨ off = 0x60084 ∨ (0x200100 ≤ off ∧ off < 0x200140) ∨
      (0x200400 ≤ off ∧ off < 0x200500) ∨ (0x300000 ≤ off ∧ off < 0x340000 ∧ off % 0x1000 = 8)) := by
  simp only [isStOffset, Bool.or_eq_true, decide_eq_true_eq, List.any_eq_true, List.mem_range, List.mem_cons, List.not_mem_nil, or_false] at h
  simp only [stEpochLen, stRebuildShare, stBandWidth, stRfmTh, stThrTh, stBankOwner, stLaneOwner, stPortRate, dwPORT, dwSTAGE, dwDDR, dwSRCH, dwHOST] at h
  obtain ((((((h | h) | ⟨p, hp, h⟩) | h) | h) | ⟨b, hb, h⟩) | ⟨l, hl, h⟩) | ⟨p, hp, h⟩ := h <;> omega

theorem isRc_of_isStOffset {off : Nat} (h : isStOffset off = true) : isRc off = false := by
  obtain ⟨-, h⟩ := isStOffset_place h
  have dw := dw_bases
  unfold isRc
  simp only [Bool.or_eq_false_iff, Bool.and_eq_false_iff, decide_eq_false_iff_not]
  omega

theorem isLow64_of_isStOffset {off : Nat} (h : isStOffset off = true) : isLow64 off = false := by
  obtain ⟨-, h⟩ := isStOffset_place h
  have dw := dw_bases
  unfold isLow64
  simp only [Bool.or_eq_false_iff, Bool.and_eq_false_iff, decide_eq_false_iff_not]
  omega

theorem State.outsideCount_of_isStOffset (s : State) {off : Nat} (h : isStOffset off = true) : s.outsideCount off = false := by
  obtain ⟨-, h⟩ := isStOffset_place h
  have dw := dw_bases
  unfold State.outsideCount
  by_cases port : dwHOST ≤ off ∧ off < dwHOST + 0x40000
  · rw [if_pos port]
    simp only [Bool.and_eq_false_iff, Bool.or_eq_false_iff, decide_eq_false_iff_not]
    omega
  · rw [if_neg port, if_neg (by omega), if_neg (by omega), if_neg (by omega)]

/-- Outside the lanes nothing is caught up on but an outside count. -/
theorem State.catchUp_eq (s : State) {off : Nat} (h : s.outsideCount off = false) (hl : off < dwLTEST ∨ dwLANE 208 ≤ off) : s.catchUp off = s := by
  have dw := dw_bases
  have lanes : ¬(dwLANE 0 ≤ off ∧ off < dwLANE 208) := by omega
  simp only [State.catchUp, h]
  rw [if_neg fun x => lanes ⟨x.1, x.2.1⟩]
  rfl

/-- A read without a held high half: the dword as it stands, and what the read clears and holds. -/
theorem State.readReg_eq {s : State} {p : Path} {off : Nat} (hl : s.dw.latch.get zeroCell (latchKey p off) = 0) (hc : s.catchUp off = s) :
    s.readReg p off = (s.dword off, (if isLow64 off then s.setLatch p (off + 4) (s.dword (off + 4) + 1) else s).clearRc off) := by
  simp only [State.readReg, hl, hc, ne_eq, not_true_eq_false, if_false]

theorem length_toLe (n v : Nat) : (toLe n v).length = n := by
  induction n generalizing v with
  | zero => rfl
  | succ n ih => simp [toLe, ih]

/-- An aligned read of four bytes answers the dword that its path reads. -/
theorem execDwClearingRead_aligned {p : Path} {off : Nat} {s : State} (ho : off % 4 = 0) (hr : s.reach p off ≠ .dead) :
    execDwClearingRead p off 4 s = .next { (s.readDword p off).2 with dw.rdata := toLe 4 (s.readDword p off).1 } := by
  have h4 : 4 * (off / 4) = off := by omega
  simp only [execDwClearingRead, h4, hr, ho, if_false, List.drop_zero]
  rw [List.take_append_of_le_length (by rw [length_toLe]), List.take_of_length_le (by rw [length_toLe])]

/-- Settles O53: a dword of the staging scheme is the field's value in force, and a read of it clears, holds and counts nothing. -/
theorem readsOfAnStFieldReturnTheValueInForce : Obligations.ReadsOfAnStFieldReturnTheValueInForce := by
  intro p off s hr hst hl
  have quiet : s.catchUp off = s := s.catchUp_eq (s.outsideCount_of_isStOffset hst) (by
    have dw := dw_bases
    have := isStOffset_place hst
    omega)
  have value : s.readDword p off = (s.inf off, s) := by
    simp [State.readDword, hr, State.readReg_eq hl quiet, isLow64_of_isStOffset hst, State.clearRc, isRc_of_isStOffset hst, State.dword, hst]
  refine ⟨_, execDwClearingRead_aligned (isStOffset_place hst).1 (by simp [hr]), ?_⟩
  rw [value]
  exact ⟨rfl, rfl⟩

/-! ## Commands of units that the part lacks (R3) -/

theorem State.flight?_post (s : State) (id : CmdId) (st : Status) (a b : Nat) (d : List Byte) : (s.post id st a b d).flight? id = none := by
  simp [State.flight?, State.post, List.find?_eq_none]

theorem State.runVendor_of_no_flight {s : State} {id : CmdId} (h : s.flight? id = none) : s.runVendor id = s := by
  simp only [State.runVendor, State.toStage6, h]

@[simp] theorem State.localNs_id (s : State) (c : Cmd) : (s.localNs c).id = c.id := by
  unfold State.localNs
  split
  · split <;> rfl
  · rfl

theorem readyFor_accepts {mgr : Bool} {c : Cmd} {s : State} (h : s.readyFor mgr c = true) : s.accepts c = true := by
  simp only [State.readyFor, Bool.and_eq_true] at h
  exact h.1.1.1.1.1

theorem readyFor_cmdArrives {mgr : Bool} {c : Cmd} {s : State} (h : s.readyFor mgr c = true) : s.cmdArrives c = s := by
  simp only [State.readyFor, Bool.and_eq_true, decide_eq_true_eq] at h
  exact if_pos ⟨h.1.1.1.1.2, h.1.1.1.2⟩

theorem readyFor_authed {mgr : Bool} {c : Cmd} {s : State} (h : s.readyFor mgr c = true) :
    ((s.ctrl c.id.ctrl).authReq && !(s.ctrl c.id.ctrl).authed) = false := by
  simp only [State.readyFor, Bool.and_eq_true] at h
  obtain ⟨⟨⟨-, auth⟩, -⟩, -⟩ := h
  revert auth
  cases (s.ctrl c.id.ctrl).authReq <;> simp

/-- An I/O opcode of a unit that the part lacks (R3). -/
theorem vendorCmd_absent {op : Nat} {c : Cmd} {s : State} (h : s.readyFor false c = true) (hp : s.part.runs op = false) :
    vendorCmd op c s = .next (s.refuse (s.localNs c) .invalidOpcode) := by
  have intake : s.vendorIntake op c = s.refuse (s.localNs c) .invalidOpcode := by
    simp only [State.vendorIntake, State.localNs_id, readyFor_authed h, hp, if_true, Bool.false_eq_true, if_false]
  simp only [vendorCmd, readyFor_accepts h, readyFor_cmdArrives h, intake, Bool.true_eq_false, if_false]
  rw [State.runVendor_of_no_flight]
  simpa [State.refuse] using s.flight?_post (s.localNs c).id .invalidOpcode 0 0 []

/-- The form of a lookup is a field of two bits, and a form that agrees runs the command. -/
theorem lookupCmd_form {form : Nat} {c : Cmd} {s : State} (h : lookForm c = form ∨ lookForm c = 3) : lookupCmd form c s = vendorCmd 0x90 c s := by
  rw [lookupCmd, if_neg (by omega)]

/-- An admin opcode of a unit that the part lacks (R3). -/
theorem adminOf_absent {mgr : Bool} {c : Cmd} {s : State} {f : State → State} (h : s.readyFor false c = true) :
    adminOf false mgr c s f = .next (s.refuse c .invalidOpcode) := by
  simp only [adminOf, readyFor_accepts h, readyFor_cmdArrives h, readyFor_authed h, Bool.not_false, Bool.true_or, Bool.true_eq_false, Bool.false_eq_true,
    if_true, if_false]

theorem refuse_answers (s : State) (c : Cmd) (st : Status) : (s.refuse c st).lastAnswer = some (c.id, st) ∧ s.refuse c st = { s with io := (s.refuse c st).io } :=
  ⟨s.refuse_lastAnswer c st, rfl⟩

theorem vendorCmd_absent_answers {op : Nat} {c : Cmd} {s : State} (h : s.readyFor false c = true) (hp : s.part.runs op = false) :
    ∃ t, vendorCmd op c s = .next t ∧ t.lastAnswer = some (c.id, .invalidOpcode) ∧ t = { s with io := t.io } := by
  obtain ⟨answer, rest⟩ := refuse_answers s (s.localNs c) .invalidOpcode
  exact ⟨_, vendorCmd_absent h hp, by rw [answer, State.localNs_id], rest⟩

/-- Settles O54: the key search opcodes on the UX6416, and the scanning opcodes on the two parts without lanes, stop where the unit is asked for. -/
theorem absentUnitsRefuseTheirOpcodes : Obligations.AbsentUnitsRefuseTheirOpcodes := by
  constructor
  · intro c i s hc hp hi
    have none90 : s.part.runs 0x90 = false := by rw [hp]; rfl
    have look (form : Nat) (hf : lookForm c = form ∨ lookForm c = 3) :
        ∃ t, lookupCmd form c s = .next t ∧ t.lastAnswer = some (c.id, .invalidOpcode) ∧ t = { s with io := t.io } := by
      rw [lookupCmd_form hf]
      exact vendorCmd_absent_answers hc none90
    have two : lookForm c < 4 := Nat.mod_lt _ (by decide)
    rcases List.mem_append.mp hi with hi | hi
    · simp only [List.mem_cons, List.not_mem_nil, or_false] at hi
      obtain rfl | rfl | rfl := hi
      · exact vendorCmd_absent_answers hc (by rw [hp]; rfl)
      · exact vendorCmd_absent_answers hc (by rw [hp]; rfl)
      · exact vendorCmd_absent_answers hc (by rw [hp]; rfl)
    · split at hi
      next h0 =>
        obtain rfl := List.mem_singleton.mp hi
        exact look 0 (.inl h0)
      · split at hi
        next h1 =>
          obtain rfl := List.mem_singleton.mp hi
          exact look 1 (.inl h1)
        · split at hi
          next h2 =>
            obtain rfl := List.mem_singleton.mp hi
            exact look 2 (.inl h2)
          next h0 h1 h2 =>
            have h3 : lookForm c = 3 := by omega
            simp only [List.mem_cons, List.not_mem_nil, or_false] at hi
            obtain rfl | rfl | rfl := hi
            · exact look 0 (.inr h3)
            · exact look 1 (.inr h3)
            · exact look 2 (.inr h3)
  · intro c ok i s hc hp hi
    have none : s.part.scan = false := by rcases hp with hp | hp <;> rw [hp] <;> rfl
    have image (ok : Bool) (f : Nat → State → State) :
        ∃ t, imageCmd c ok s f = .next t ∧ t.lastAnswer = some (c.id, .invalidOpcode) ∧ t = { s with io := t.io } := by
      refine ⟨_, ?_, refuse_answers s c .invalidOpcode⟩
      rw [imageCmd, none, adminOf_absent hc]
    simp only [List.mem_cons, List.not_mem_nil, or_false] at hi
    obtain rfl | rfl | rfl | rfl | rfl | rfl := hi
    · exact vendorCmd_absent_answers hc none
    · exact vendorCmd_absent_answers hc none
    · exact vendorCmd_absent_answers hc none
    · unfold exec execPatternImageLoad
      exact image _ _
    · unfold exec execPatternImageLoadFinal
      exact image _ _
    · unfold exec execPatternImageUnload
      exact image _ _

end Sys2Proof.Machine

namespace Sys2Proof.Machine

/-! ## Absent locations where the Manager is a fabric controller -/

/-- Controller 0 is the Manager by authentication, and PF0 has not been made Manager: so the function at BAR2 is denied the window (R43). -/
def managedByFabric : State :=
  { pwr := { phase := .run }
    ten := { pf0Mgr := false }
    io := { ctrls := [(0, { exist := true, kind := .fabric })] } }

theorem winWrite_denied {p : Path} {off : Nat} {s : State} {f : State → State} (h : s.reach p off = .denied) :
    winWrite p off s f = .next (s.log 0x0A10 [0, off, 1]) := by
  simp only [winWrite, h]

/-- No unit lies at 0x90000, and the write there is recorded as denied. -/
theorem managedByFabric_denies : exec (.shadowWrite .bar2 0x90000 0) managedByFabric = .next (managedByFabric.log 0x0A10 [0, 0x90000, 1]) := by
  unfold exec execShadowWrite
  exact winWrite_denied (by decide)

/-- Refutes O55: `isManager 0` also holds of a controller 0 that is the Manager over a fabric; BAR2 is then denied, not silent, and a write to an absent
location leaves a record with code 0x0A10. -/
theorem not_absentLocationsReadZeroAndIgnoreWrites : ¬ Obligations.AbsentLocationsReadZeroAndIgnoreWrites := by
  rintro ⟨absent, -⟩
  obtain ⟨-, shadow, -⟩ := absent .bar2 0x90000 0 managedByFabric (by decide) (.inr (by decide)) (by decide) (by decide)
  have same : managedByFabric.log 0x0A10 [0, 0x90000, 1] = managedByFabric := Host.Outcome.next.inj (managedByFabric_denies.symm.trans shadow)
  exact absurd (congrArg (fun s => s.gbk.queue.length) same) (by decide)

end Sys2Proof.Machine

namespace Sys2Proof.Machine

/-! ## The staging commands -/

theorem State.commit_first {s : State} (ha : s.stage.armed = false) :
    s.commit = { s with stage := { s.stage with
      armed := true, commitEpoch := if s.stage.window = none then s.stage.epoch + 1 else s.stage.epoch + 2 } } := by
  cases hw : s.stage.window <;> simp [State.commit, Stage.commit, Stage.target, Stage.open', ha, hw]

theorem State.commit_again {s : State} (ha : s.stage.armed = true) (hw : s.stage.window = none) : s.commit = s := by
  simp [State.commit, Stage.commit, Stage.open', ha, hw]

theorem State.commit_later {s : State} (ha : s.stage.armed = true) (hw : s.stage.window ≠ none) (he : s.stage.commitEpoch = s.stage.epoch + 1) :
    s.commit = { s with stage := { s.stage with later := true } } := by
  have hopen : s.stage.window.isSome = true := Option.isSome_iff_ne_none.mpr hw
  simp [State.commit, Stage.commit, Stage.open', ha, he, hopen]

/-- DISCARD with no command of R38 waiting: what it leaves of the set that is armed depends on the window alone (R35). -/
theorem State.discard_idle {s : State} (hw : s.stage.waiting = []) :
    s.discard = { s with dw.shadow := s.dw.inForce, stage := if s.stage.open' ∧ s.stage.commitEpoch = s.stage.epoch + 1
      then { s.stage with later := false } else { s.stage with armed := false, later := false } } := by
  simp only [State.discard, Stage.keptKeys, hw, List.flatMap_nil, List.foldl_nil, List.isEmpty_nil, Bool.true_eq_false, if_false]
  split <;> rfl

theorem execCheckWindowOpen_running {s : State} (hc : s.coreOn = true) :
    execCheckWindowOpen s = .next { s with
      stage.window := some s.dw.shadow, stage.winCarts := [0, 1, 2, 3].map (fun p => (s.inService p).length)
      stage.winAdmitted := s.admittedSlots, stage.winTenants := s.tenants } :=
  if_neg (by simp [hc])

/-- Settles O7: each staging command is a window write of its one effect (`winWrite_ok`), and COMMIT and DISCARD go by the state of the armed set. -/
theorem stagingCommandsCompleteAndKeepTheRest : Obligations.StagingCommandsCompleteAndKeepTheRest := by
  refine ⟨fun p off v s hr hst => ?_, fun p s hr ha => ?_, fun p s hr ha hw => ?_, fun p s hr ha hw he => ?_, fun p s hr hw => ?_, fun s hc => ?_⟩
  · refine ⟨s.setSh off (v.toNat &&& stMask off), ?_, s.setSh_self off _, fun k hk => s.setSh_other off k _ hk, rfl⟩
    exact (winWrite_ok hr).trans (congrArg _ (if_pos hst))
  · rw [← State.commit_first ha]
    exact winWrite_ok hr
  · exact (winWrite_ok hr).trans (congrArg _ (State.commit_again ha hw))
  · rw [← State.commit_later ha hw he]
    exact winWrite_ok hr
  · refine ⟨s.discard, winWrite_ok hr, ?_⟩
    rw [State.discard_idle hw]
    refine ⟨rfl, by simp [State.dirty], fun h => ?_, fun h he => ?_, rfl⟩
    · simp [Stage.open', h]
    · simp [Stage.open', Option.isSome_iff_ne_none, h, he]
  · exact ⟨_, execCheckWindowOpen_running hc, rfl, rfl⟩

end Sys2Proof.Machine

namespace Sys2Proof.Machine

/-! ## Writes of a dword -/

section
variable {off : Nat} (p : Path) (v : Word) (s : State)

theorem writeDword_stage (h : isStOffset off = true ∨ (dwSTAGE ≤ off ∧ off < dwPWR)) : writeDword p off v s = writeStage p off v s :=
  if_pos h

/-- Past the dwords of the staging scheme each block has its own dispatch. -/
theorem writeDword_unstaged (h : isStOffset off = false) (hs : off < dwSTAGE ∨ dwPWR ≤ off) : writeDword p off v s =
    if dwPWR ≤ off ∧ off < dwEFL then writePwr p off v s
    else if dwEFL ≤ off ∧ off < dwGBK then writeEfl p off v s
    else if dwDMA ≤ off ∧ off < dwDDR then writeDma p off v s
    else if dwDDR ≤ off ∧ off < dwSLICE then writeDdr p off v s
    else if dwSLICE ≤ off ∧ off < dwLTEST then writeSlice p off v s
    else if dwLTEST ≤ off ∧ off < 0x90000 then writeLtest p off v s
    else if 0x100000 ≤ off ∧ off < 0x140000 then writeCart p off v s
    else if off = dwSRCH + 0x18 then execTcamInj p v s
    else if dwHOST ≤ off ∧ off < 0x400000 then writeHost p off v s
    else winWrite p off s (fun s => s.plainWrite off v.toNat) := by
  rw [writeDword, if_neg (not_or.mpr ⟨by simp [h], by omega⟩)]

end

/-- A dword whose write does nothing but update its fields. -/
theorem writeDword_plain {off : Nat} (p : Path) (v : Word) (s : State) (ho : off % 4 = 0) (h : plainDword off = true) :
    writeDword p off v s = winWrite p off s (fun s => s.plainWrite off v.toNat) := by
  have dw := dw_bases
  simp only [plainDword, List.any_cons, List.any_nil, Bool.or_false, Bool.and_eq_true, Bool.not_eq_true', Bool.or_eq_false_iff, Bool.and_eq_false_iff,
    decide_eq_false_iff_not, ne_eq, decide_not] at h
  obtain ⟨⟨⟨⟨⟨⟨⟨⟨⟨⟨⟨⟨⟨⟨st, commit⟩, key⟩, pwr⟩, efl⟩, chan⟩, ddr⟩, slice⟩, loop⟩, lane⟩, cart⟩, tcam⟩, port⟩, group⟩, xport⟩ := h
  by_cases hs : dwSTAGE ≤ off ∧ off < dwPWR
  · rw [writeDword_stage p v s (.inr hs), writeStage, if_neg (by simp [st]), if_neg (by omega), if_neg (by omega)]
  rw [writeDword_unstaged p v s st (by omega)]
  split
  · simp only [writePwr]
    rw [if_neg (by omega), if_neg (by omega), if_neg (by omega), if_neg (by omega)]
  split
  · simp only [writeEfl]
    rw [if_neg (by omega), if_neg (by omega), if_neg (by omega), if_neg (by omega)]
  split
  · rw [writeDma, if_neg (by omega)]
  split
  · rw [writeDdr, if_neg ddr]
  split
  · rw [writeSlice, if_neg slice]
  split
  · simp only [writeLtest]
    rw [if_neg (by omega), if_neg (by omega), if_neg (by omega)]
  split
  · simp only [writeCart]
    split
    · omega
    · omega
    · omega
    · rfl
  split
  · simp only [writeHost]
    split
    · rw [if_neg (by omega), if_neg (by omega), if_neg (by omega), if_neg (by omega)]
    · rw [if_neg (by omega)]
  · rfl

/-- Outside the ranges of `isStOffset_place` a dword is not staged. -/
theorem isStOffset_eq_false {off : Nat} (h : ¬((off = 0x10008 ∨ off = 0x10030 ∨ (0x10040 ≤ off ∧ off < 0x10050) ∨ off = 0x60080 ∨ off = 0x60084 ∨
    (0x200100 ≤ off ∧ off < 0x200140) ∨ (0x200400 ≤ off ∧ off < 0x200500) ∨ (0x300000 ≤ off ∧ off < 0x340000 ∧ off % 0x1000 = 8)))) :
    isStOffset off = false :=
  Bool.eq_false_iff.mpr fun st => h (isStOffset_place st).2

/-! ### The dispatch of each block -/

section
variable {off : Nat} (p : Path) (v : Word) (s : State)

theorem writeDword_pwr (h : 0x20000 ≤ off ∧ off < 0x30000) : writeDword p off v s = writePwr p off v s := by
  have dw := dw_bases
  rw [writeDword_unstaged p v s (isStOffset_eq_false (by omega)) (by omega), if_pos (by omega)]

theorem writeDword_efl (h : 0x30000 ≤ off ∧ off < 0x40000) : writeDword p off v s = writeEfl p off v s := by
  have dw := dw_bases
  rw [writeDword_unstaged p v s (isStOffset_eq_false (by omega)) (by omega), if_neg (by omega), if_pos (by omega)]

theorem writeDword_dma (h : 0x50000 ≤ off ∧ off < 0x60000) : writeDword p off v s = writeDma p off v s := by
  have dw := dw_bases
  rw [writeDword_unstaged p v s (isStOffset_eq_false (by omega)) (by omega), if_neg (by omega), if_neg (by omega), if_pos (by omega)]

theorem writeDword_ddr (h : 0x60000 ≤ off ∧ off < 0x60080) : writeDword p off v s = writeDdr p off v s := by
  have dw := dw_bases
  rw [writeDword_unstaged p v s (isStOffset_eq_false (by omega)) (by omega), if_neg (by omega), if_neg (by omega), if_neg (by omega), if_pos (by omega)]

theorem writeDword_slice (h : 0x70000 ≤ off ∧ off < 0x80000) : writeDword p off v s = writeSlice p off v s := by
  have dw := dw_bases
  rw [writeDword_unstaged p v s (isStOffset_eq_false (by omega)) (by omega), if_neg (by omega), if_neg (by omega), if_neg (by omega), if_neg (by omega),
    if_pos (by omega)]

theorem writeDword_ltest (h : 0x80000 ≤ off ∧ off < 0x90000) : writeDword p off v s = writeLtest p off v s := by
  have dw := dw_bases
  rw [writeDword_unstaged p v s (isStOffset_eq_false (by omega)) (by omega), if_neg (by omega), if_neg (by omega), if_neg (by omega), if_neg (by omega),
    if_neg (by omega), if_pos (by omega)]

theorem writeDword_cart (h : 0x100000 ≤ off ∧ off < 0x140000) : writeDword p off v s = writeCart p off v s := by
  have dw := dw_bases
  rw [writeDword_unstaged p v s (isStOffset_eq_false (by omega)) (by omega), if_neg (by omega), if_neg (by omega), if_neg (by omega), if_neg (by omega),
    if_neg (by omega), if_neg (by omega), if_pos h]

theorem writeDword_tcamInj : writeDword p (dwSRCH + 0x18) v s = execTcamInj p v s := by
  have dw := dw_bases
  rw [writeDword_unstaged p v s (isStOffset_eq_false (by omega)) (by omega), if_neg (by omega), if_neg (by omega), if_neg (by omega), if_neg (by omega),
    if_neg (by omega), if_neg (by omega), if_neg (by omega), if_pos rfl]

theorem writeDword_host (h : 0x300000 ≤ off ∧ off < 0x400000) (h8 : off % 0x1000 ≠ 8) : writeDword p off v s = writeHost p off v s := by
  have dw := dw_bases
  rw [writeDword_unstaged p v s (isStOffset_eq_false (by omega)) (by omega), if_neg (by omega), if_neg (by omega), if_neg (by omega), if_neg (by omega),
    if_neg (by omega), if_neg (by omega), if_neg (by omega), if_neg (by omega), if_pos (by omega)]

end

theorem testBit_iff (x n : Nat) : x.testBit n = true ↔ x / 2 ^ n % 2 = 1 := by
  rw [Nat.testBit_eq_decide_div_mod_eq, decide_eq_true_iff]

section
variable {n : Nat} (p : Path) (v : Word) (s : State)

/-- The control dword of a slot: one command, by the lowest of its bits in the order of R74. -/
theorem writeCart_ctl : writeCart p (dwCART n + 4) v s =
    if v.toNat.testBit 0 then execPwrOff p n s
    else if v.toNat.testBit 1 then execPwrOn p n s
    else if v.toNat.testBit 3 then execLinkReset p n s
    else if v.toNat.testBit 2 then execRetrain p n s
    else winWrite p (dwCART n + 4) s (fun s => s) := by
  have row : (dwCART n + 4) % 0x1000 = 4 := by rw [dwCART]; omega
  have slot : (dwCART n + 4 - 0x100000) / 0x1000 = n := by rw [dwCART]; omega
  simp only [writeCart, row, slot]

theorem writeCart_eventEn : writeCart p (dwCART n + 0x44) v s = execEventEnWrite p n v s := by
  have row : (dwCART n + 0x44) % 0x1000 = 0x44 := by rw [dwCART]; omega
  have slot : (dwCART n + 0x44 - 0x100000) / 0x1000 = n := by rw [dwCART]; omega
  simp only [writeCart, row, slot]

theorem writeCart_eccInj : writeCart p (dwCART n + 0x400) v s = execEccInj p n v s := by
  have row : (dwCART n + 0x400) % 0x1000 = 0x400 := by rw [dwCART]; omega
  have slot : (dwCART n + 0x400 - 0x100000) / 0x1000 = n := by rw [dwCART]; omega
  simp only [writeCart, row, slot]

end

/-- A row of its own stands for the write: the dispatch reaches that command. -/
theorem writeDword_of_row {p : Path} {off : Nat} {v : Word} {i : Instr} (s : State) (h : rowOfWrite p off v i = true) :
    off % 4 = 0 ∧ writeDword p off v s = exec i s := by
  have dw := dw_bases
  have key (d : Nat) : dwKEY d = dwPWR + 0x10 + 4 * d := rfl
  have ch (c : Nat) : dwCH c = dwDMA + 0x100 + 0x40 * c := rfl
  have lane (l : Nat) : dwLANE l = dwLTEST + 0x1000 + 0x40 * l := rfl
  have cart (n : Nat) : dwCART n = 0x100000 + n * 0x1000 := rfl
  have port (n : Nat) : dwPORT n = dwHOST + n * 0x1000 := rfl
  have group (g : Nat) : dwGROUP g = dwHOST + 0x40000 + g * 0x1000 := rfl
  unfold rowOfWrite at h
  dsimp only at h
  split at h
  case h_26 => exact absurd h Bool.false_ne_true
  all_goals simp only [Bool.and_eq_true, Bool.or_eq_true, Bool.not_eq_true', decide_eq_true_eq] at h
  case h_1 q => -- COMMIT
    obtain ⟨⟨rfl, rfl⟩, hb⟩ := h
    refine ⟨rfl, ?_⟩
    rw [writeDword_stage _ v s (.inr (by omega)), writeStage, if_neg (by rw [isStOffset_eq_false (by omega)]; decide), if_pos ⟨rfl, hb⟩]
    rfl
  case h_2 q => -- DISCARD
    obtain ⟨⟨rfl, rfl⟩, hb⟩ := h
    refine ⟨rfl, ?_⟩
    rw [writeDword_stage _ v s (.inr (by omega)), writeStage, if_neg (by rw [isStOffset_eq_false (by omega)]; decide), if_neg (by omega), if_pos ⟨rfl, hb⟩]
    rfl
  case h_3 q d w => -- PWR_KEY
    obtain ⟨⟨⟨rfl, rfl⟩, hd⟩, rfl⟩ := h
    have := key d
    refine ⟨by omega, ?_⟩
    rw [writeDword_pwr _ _ s (by omega)]
    simp only [writePwr]
    rw [if_pos (by omega), show (dwKEY d - dwPWR - 0x10) / 4 = d by omega]
    rfl
  case h_4 q w => -- PWR_SAVE
    obtain ⟨⟨rfl, rfl⟩, rfl⟩ := h
    exact ⟨rfl, writeDword_pwr _ _ s (by omega)⟩
  case h_5 q w => -- CART_STAGGER
    obtain ⟨⟨rfl, rfl⟩, rfl⟩ := h
    exact ⟨rfl, writeDword_pwr _ _ s (by omega)⟩
  case h_6 j w => -- FL_KEY
    obtain ⟨⟨rfl, rfl⟩, rfl⟩ := h
    exact ⟨rfl, writeDword_efl _ _ s (by omega)⟩
  case h_7 j w => -- FL_CMD
    obtain ⟨⟨rfl, rfl⟩, rfl⟩ := h
    exact ⟨rfl, writeDword_efl _ _ s (by omega)⟩
  case h_8 j r w => -- FL_ADDR and FL_DATAn
    obtain ⟨⟨⟨⟨rfl, rfl⟩, hr⟩, rfl⟩, ho⟩ := h
    refine ⟨ho, ?_⟩
    rw [writeDword_efl _ _ s (by omega)]
    simp only [writeEfl, Nat.add_sub_cancel_left]
    rw [if_neg (by omega), if_neg (by omega), if_pos hr]
    rfl
  case h_9 q => -- DDR_SAVE
    obtain ⟨⟨rfl, rfl⟩, hb⟩ := h
    refine ⟨rfl, ?_⟩
    rw [writeDword_ddr _ _ s (by omega), writeDdr, if_pos rfl, if_pos hb]
    rfl
  case h_10 q => -- WIPE
    obtain ⟨⟨rfl, rfl⟩, hb⟩ := h
    refine ⟨rfl, ?_⟩
    rw [writeDword_slice _ _ s (by omega), writeSlice, if_pos rfl, if_pos hb]
    rfl
  case h_11 q w => -- SLICE_RESET
    obtain ⟨⟨⟨rfl, rfl⟩, rfl⟩, hb⟩ := h
    refine ⟨rfl, ?_⟩
    rw [writeDword_slice _ _ s (by omega), writeSlice, if_pos rfl, if_neg (by simp [hb])]
    rfl
  case h_12 q w => -- DDR_LOOP
    obtain ⟨⟨rfl, rfl⟩, rfl⟩ := h
    refine ⟨rfl, ?_⟩
    rw [writeDword_ltest _ _ s (by omega), writeLtest]
    exact if_pos rfl
  case h_13 q w => -- TCAM_INJ
    obtain ⟨⟨rfl, rfl⟩, rfl⟩ := h
    exact ⟨rfl, writeDword_tcamInj _ _ s⟩
  case h_14 q => -- HOST_SAVE
    obtain ⟨⟨rfl, rfl⟩, hb⟩ := h
    refine ⟨rfl, ?_⟩
    rw [writeDword_host _ _ s (by omega) (by omega)]
    simp only [writeHost]
    rw [if_neg (by omega), if_neg (by omega), if_pos trivial, if_pos hb]
    rfl
  case h_15 q c => -- DMA_ABORT
    obtain ⟨⟨⟨rfl, hc⟩, rfl⟩, hb⟩ := h
    have := ch c
    refine ⟨by omega, ?_⟩
    rw [writeDword_dma _ _ s (by omega)]
    simp only [writeDma]
    rw [if_pos (by omega), if_pos hb, show (dwCH c - dwCH 0) / 0x40 = c by omega]
    rfl
  case h_16 q l w => -- the pattern mode of a lane
    obtain ⟨⟨⟨rfl, rfl⟩, hl⟩, rfl⟩ := h
    have := lane l
    refine ⟨by omega, ?_⟩
    rw [writeDword_ltest _ _ s (by omega)]
    simp only [writeLtest]
    rw [if_neg (by omega), if_pos (by omega), show (dwLANE l - dwLANE 0) / 0x40 = l by omega]
    rfl
  case h_17 q l w => -- INJ
    obtain ⟨⟨⟨rfl, rfl⟩, hl⟩, rfl⟩ := h
    have := lane l
    refine ⟨by omega, ?_⟩
    rw [writeDword_ltest _ _ s (by omega)]
    simp only [writeLtest]
    rw [if_neg (by omega), if_neg (by omega), if_pos (by omega), show (dwLANE l + 0x30 - dwLANE 0) / 0x40 = l by omega]
    rfl
  case h_18 q n => -- PWR_OFF
    obtain ⟨⟨⟨rfl, hn⟩, rfl⟩, hb⟩ := h
    have := cart n
    refine ⟨by omega, ?_⟩
    rw [writeDword_cart _ _ s (by omega), writeCart_ctl _ _ s, if_pos hb]
    rfl
  case h_19 q n => -- PWR_ON
    obtain ⟨⟨⟨rfl, hn⟩, rfl⟩, hb⟩ := h
    have := cart n
    refine ⟨by omega, ?_⟩
    rw [writeDword_cart _ _ s (by omega), writeCart_ctl _ _ s, if_neg (by rw [testBit_iff]; omega), if_pos (by rw [testBit_iff]; omega)]
    rfl
  case h_20 q n => -- LINK_RESET
    obtain ⟨⟨⟨⟨rfl, hn⟩, rfl⟩, hb⟩, hb3⟩ := h
    have := cart n
    refine ⟨by omega, ?_⟩
    rw [writeDword_cart _ _ s (by omega), writeCart_ctl _ _ s, if_neg (by rw [testBit_iff]; omega), if_neg (by rw [testBit_iff]; omega), if_pos hb3]
    rfl
  case h_21 q n => -- RETRAIN
    obtain ⟨⟨⟨rfl, hn⟩, rfl⟩, hb⟩ := h
    have := cart n
    refine ⟨by omega, ?_⟩
    rw [writeDword_cart _ _ s (by omega), writeCart_ctl _ _ s, if_neg (by rw [testBit_iff]; omega), if_neg (by rw [testBit_iff]; omega),
      if_neg (by rw [testBit_iff]; omega), if_pos (by rw [testBit_iff]; omega)]
    rfl
  case h_22 q n w => -- EVENT_EN
    obtain ⟨⟨⟨rfl, rfl⟩, hn⟩, rfl⟩ := h
    have := cart n
    refine ⟨by omega, ?_⟩
    rw [writeDword_cart _ _ s (by omega), writeCart_eventEn _ _ s]
    rfl
  case h_23 q n w => -- ECC_INJ
    obtain ⟨⟨⟨rfl, rfl⟩, hn⟩, rfl⟩ := h
    have := cart n
    refine ⟨by omega, ?_⟩
    rw [writeDword_cart _ _ s (by omega), writeCart_eccInj _ _ s]
    rfl
  case h_24 q n => -- MKA_LOAD
    obtain ⟨⟨⟨rfl, hn⟩, rfl⟩, hb⟩ := h
    have := port n
    refine ⟨by omega, ?_⟩
    rw [writeDword_host _ _ s (by omega) (by omega)]
    simp only [writeHost]
    rw [if_pos (by omega), if_neg (by omega), if_neg (by omega), if_pos (by omega), if_pos hb, show (dwPORT n + 0x80 - dwHOST) / 0x1000 = n by omega]
    rfl
  case h_25 q g w => -- PORT_MODE
    obtain ⟨⟨⟨rfl, rfl⟩, hg⟩, rfl⟩ := h
    have := group g
    refine ⟨by omega, ?_⟩
    rw [writeDword_host _ _ s (by omega) (by omega)]
    simp only [writeHost]
    rw [if_neg (by omega), if_pos (by omega), show (dwGROUP g - dwGROUP 0) / 0x1000 = g by omega]
    rfl

theorem execDwRegisterWrite_aligned {off : Nat} (p : Path) (v : Word) (s : State) (ho : off % 4 = 0) :
    exec (.dwRegisterWrite p off 4 v) s = writeDword p off v s :=
  if_pos ⟨ho, rfl⟩

/-! ## What a write of plain fields takes -/

section
variable {off v : Nat} {s : State}

/-- Clearing the bits written 1 of a W1C field (R17). -/
def State.clearW1c (s : State) (off v : Nat) : State :=
  { s with dw.w1c := s.dw.w1c.mod zeroCell off (fun w => w ^^^ (w &&& v)) }

theorem State.clearW1c_w1c_self (s : State) (off v : Nat) : (s.clearW1c off v).w1c off = s.w1c off ^^^ (s.w1c off &&& v) := by
  simp [State.clearW1c, State.w1c, Cells.mod]

theorem State.clearW1c_w1c_other (s : State) {off o : Nat} (v : Nat) (h : o ≠ off) : (s.clearW1c off v).w1c o = s.w1c o := by
  simp [State.clearW1c, State.w1c, Cells.mod, Cells.get_put_other _ _ _ h]

/-- A channel's dword that the write may change is the Manager's own channel. -/
theorem mgrChan_of_rwIgnored (h : s.rwIgnored off v = false) (hc : dwCH 0 ≤ off ∧ off < dwCH 32) : s.mgrChan ((off - dwCH 0) / 0x40) = true := by
  have dw := dw_bases
  rw [State.rwIgnored, if_neg (by omega), if_neg (by omega), if_neg (by omega), if_pos hc] at h
  simpa using h

/-- A value that the register takes. -/
theorem State.plainWrite_taken (h : s.rwIgnored off v = false) :
    s.plainWrite off v = if rwMask off = 0 then s.clearW1c off v else (s.clearW1c off v).setReg off (v &&& rwMask off) := by
  have clearable : (if dwCH 0 ≤ off ∧ off < dwCH 32 then s.mgrChan ((off - dwCH 0) / 0x40) else true) = true := by
    split
    · exact mgrChan_of_rwIgnored h ‹_›
    · rfl
  have taken : (s.clearW1c off v).rwIgnored off v = false := h
  simp only [State.plainWrite, clearable, if_true]
  change (if rwMask off = 0 ∨ (s.clearW1c off v).rwIgnored off v = true then s.clearW1c off v else _) = _
  rw [taken]
  simp only [Bool.false_eq_true, or_false]
  rfl

/-- A value that is out of range, or is for another tenant's channel, is left alone. -/
theorem State.plainWrite_ignored (h : s.rwIgnored off v = true) : s.plainWrite off v = s ∨ s.plainWrite off v = s.clearW1c off v := by
  have ignored : (s.clearW1c off v).rwIgnored off v = true := h
  simp only [State.plainWrite]
  generalize (if dwCH 0 ≤ off ∧ off < dwCH 32 then s.mgrChan ((off - dwCH 0) / 0x40) else true) = clearable
  cases clearable
  · exact .inl (if_pos (.inr h))
  · exact .inr (if_pos (.inr ignored))

theorem State.plainWrite_taken_fields (h : s.rwIgnored off v = false) :
    (rwMask off ≠ 0 → (s.plainWrite off v).reg off = v &&& rwMask off) ∧ (s.plainWrite off v).w1c off = s.w1c off ^^^ (s.w1c off &&& v) ∧
    (∀ o, o ≠ off → (s.plainWrite off v).reg o = s.reg o ∧ (s.plainWrite off v).w1c o = s.w1c o) ∧
    (s.plainWrite off v).dw.inForce = s.dw.inForce ∧ (s.plainWrite off v).dw.shadow = s.dw.shadow ∧
    s.plainWrite off v = { s with dw := (s.plainWrite off v).dw } := by
  rw [State.plainWrite_taken h]
  split
  next h0 => exact ⟨fun h => absurd h0 h, s.clearW1c_w1c_self off v, fun o ho => ⟨rfl, s.clearW1c_w1c_other v ho⟩, rfl, rfl, rfl⟩
  next => exact ⟨fun _ => State.setReg_self _ _ _, s.clearW1c_w1c_self off v, fun o ho => ⟨State.setReg_other _ _ _ _ ho, s.clearW1c_w1c_other v ho⟩, rfl, rfl, rfl⟩

end

/-! ## Reads -/

/-- A read that no held half answers takes the dword, clears an RC field, and changes nothing beside the window. -/
theorem State.readReg_fields {s : State} {p : Path} {off : Nat} (hl : s.dw.latch.get zeroCell (latchKey p off) = 0) (hc : s.catchUp off = s) :
    (s.readReg p off).1 = s.dword off ∧ (isRc off = true → (s.readReg p off).2.dw.cnt.get zeroCell off = 0) ∧
      (s.readReg p off).2 = { s with dw := (s.readReg p off).2.dw } := by
  rw [State.readReg_eq hl hc]
  refine ⟨rfl, fun rc => ?_, ?_⟩
  · simp only [State.clearRc, rc, if_true, Cells.get_put_self]
  · unfold State.clearRc
    cases isLow64 off <;> cases isRc off <;> rfl

/-- Where no register answers, the read is all zeros, whatever its width. -/
theorem execDwClearingRead_zeros {p : Path} {off : Nat} (width : Nat) {s : State} (hr : s.reach p (4 * (off / 4)) ≠ .dead)
    (hz : (s.readDword p (4 * (off / 4))).1 = 0) :
    execDwClearingRead p off width s = .next { (s.readDword p (4 * (off / 4))).2 with dw.rdata := List.replicate width 0 } := by
  have zeros : toLe 4 0 = List.replicate 4 0 := rfl
  simp only [execDwClearingRead, hr, hz, zeros, if_false, List.drop_replicate, List.replicate_append_replicate, List.take_replicate]
  rw [Nat.min_eq_left (by omega)]

/-! ## Device Window Access -/

theorem State.latch_rest (s : State) (b : Nat) : (s.latch b).io = s.io ∧ (s.latch b).ten = s.ten ∧ (s.latch b).pwr.mode = s.pwr.mode := by
  unfold State.latch
  dsimp only
  split <;> exact ⟨rfl, rfl, rfl⟩

/-- A command that arrives wakes its controller, and changes nothing else of it. -/
theorem State.cmdArrives_ctrl (s : State) (c : Cmd) : ∃ n, (s.cmdArrives c).ctrl c.id.ctrl = { s.ctrl c.id.ctrl with ps := n } := by
  unfold State.cmdArrives
  split
  · exact ⟨_, rfl⟩
  · refine ⟨0, (State.modCtrl_self _ _ _).trans ?_⟩
    split
    · rfl
    · rw [State.ctrl, (s.latch_rest 8).1]
      rfl

theorem State.cmdArrives_pf0Manager (s : State) (c : Cmd) : (s.cmdArrives c).pf0Manager = s.pf0Manager := by
  unfold State.cmdArrives State.pf0Manager
  split
  · rfl
  · split
    · rfl
    · obtain ⟨-, ten, mode⟩ := s.latch_rest 8
      simp [State.modCtrl, ten, mode]

theorem State.cmdArrives_isManager (s : State) (c : Cmd) : (s.cmdArrives c).isManager c.id.ctrl = s.isManager c.id.ctrl := by
  obtain ⟨n, hk⟩ := s.cmdArrives_ctrl c
  simp only [State.isManager, hk, s.cmdArrives_pf0Manager c]

/-- A fabric controller is the Manager only once it is authenticated. -/
theorem State.authed_of_isManager {s : State} {n : Nat} (h : s.isManager n = true) (hf : (s.ctrl n).kind = .fabric) : (s.ctrl n).authed = true := by
  simp only [State.isManager, hf, Bool.and_eq_true] at h
  exact h.2

section
variable {c : Cmd} {s : State}

/-- D0h of a Manager controller that needs no authentication comes to its fields. -/
theorem execDeviceWindowAccess_manager (ha : s.accepts c = true) (hk : (s.ctrl c.id.ctrl).authReq = true → (s.ctrl c.id.ctrl).authed = true)
    (hm : s.isManager c.id.ctrl = true) (hf : c.fuse = 0) :
    execDeviceWindowAccess c s = .next ((s.cmdArrives c).check c (winFieldsOk c) (fun s => s.windowAccess c)) := by
  obtain ⟨n, hc⟩ := s.cmdArrives_ctrl c
  have fabric : ¬(decide ((s.ctrl c.id.ctrl).kind = .fabric) && decide ((s.ctrl c.id.ctrl).tenant = 0) && !(s.ctrl c.id.ctrl).authed) = true := by
    simp only [Bool.and_eq_true, decide_eq_true_eq, Bool.not_eq_true', not_and]
    rintro ⟨kind, -⟩
    simp [State.authed_of_isManager hm kind]
  have auth : ¬((s.ctrl c.id.ctrl).authReq && !(s.ctrl c.id.ctrl).authed) = true := by
    simpa using hk
  simp only [execDeviceWindowAccess, ha, hc, s.cmdArrives_isManager c, hm, hf]
  rw [if_neg (by decide), if_neg fabric, if_neg auth, if_neg (by decide), if_neg (by decide)]

/-- The access answers with the count of its dwords, and a read with what it read. -/
theorem State.windowAccess_answer (s : State) (c : Cmd) : ∃ e, (s.windowAccess c).io.posted.getLast? = some e ∧ e.id = c.id ∧ e.st = .success ∧
    e.dw0 = dw11 c % 2 ^ 11 ∧
    ((dw11 c).testBit 16 = false → e.data = (s.readDwords (if c.viaMI then .mi else .d0h) (dw10 c % 2 ^ 22) (dw11 c % 2 ^ 11)).1) := by
  simp only [State.windowAccess]
  split
  next write => exact ⟨_, State.post_last .., rfl, rfl, rfl, fun read => by simp [read] at write⟩
  next => exact ⟨_, State.post_last .., rfl, rfl, rfl, fun _ => rfl⟩

end

/-- Settles O9: the dispatch of a write (`writeDword_plain`, `writeDword_of_row`) and what its fields take, the clearing read of one dword, and D0h as a run of them. -/
theorem windowAccessesCompleteAtTheirRegister : Obligations.WindowAccessesCompleteAtTheirRegister := by
  refine ⟨fun p off width v s _ => ?_, fun p off v s hr ho hp hi => ?_, fun p off v s hr ho hp hi => ?_, fun p off v i s hi => ?_, fun p off width v s hr hw => ?_,
    fun p off s hr ho hl hc hp => ?_, fun p off width s hr _ => ?_, fun c s ha hk hm hf hw => ?_, fun c s ha hk hm hf hw => ?_⟩
  · rcases Answers.execDwRegisterWrite (valid := True) p off width v s with ⟨t, ht, -⟩ | ⟨invalid, -⟩
    · exact ⟨t, ht⟩
    · exact absurd trivial invalid
  · refine ⟨s.plainWrite off v.toNat, ?_, State.plainWrite_taken_fields hi⟩
    rw [execDwRegisterWrite_aligned p v s ho, writeDword_plain p v s ho hp]
    exact winWrite_ok hr
  · refine ⟨s.plainWrite off v.toNat, ?_, ?_⟩
    · rw [execDwRegisterWrite_aligned p v s ho, writeDword_plain p v s ho hp]
      exact winWrite_ok hr
    · rcases State.plainWrite_ignored hi with h | h <;> rw [h] <;> exact ⟨fun _ => rfl, rfl⟩
  · obtain ⟨ho, row⟩ := writeDword_of_row s hi
    rw [execDwRegisterWrite_aligned p v s ho, row]
  · exact (if_neg (by omega)).trans (winWrite_ok hr)
  · obtain ⟨value, cleared, rest⟩ := State.readReg_fields hl (s.catchUp_eq hc hp)
    have read : s.readDword p off = s.readReg p off := by rw [State.readDword, hr]
    refine ⟨_, execDwClearingRead_aligned ho (by simp [hr]), ?_, ?_, ?_⟩
    · rw [read, value]
    · rw [read]
      exact cleared
    · rw [read, rest]
  · rcases hr with hr | hr
    · have read : s.readDword p (4 * (off / 4)) = (0, s) := by rw [State.readDword, hr]
      refine ⟨_, execDwClearingRead_zeros width (by simp [hr]) (by rw [read]), rfl, fun _ => by rw [read]⟩
    · have read : s.readDword p (4 * (off / 4)) = (0, s.log 0x0A10 [0, 4 * (off / 4), 0]) := by rw [State.readDword, hr]
      refine ⟨_, execDwClearingRead_zeros width (by simp [hr]) (by rw [read]), rfl, fun silent => by simp [hr] at silent⟩
  · obtain ⟨e, answer⟩ := (s.cmdArrives c).windowAccess_answer c
    refine ⟨_, e, execDeviceWindowAccess_manager ha hk hm hf, ?_⟩
    rw [hw]
    exact answer
  · refine ⟨_, execDeviceWindowAccess_manager ha hk hm hf, ?_⟩
    rw [hw]
    exact ⟨State.refuse_lastAnswer .., rfl⟩

end Sys2Proof.Machine

namespace Sys2Proof.Machine

/-! ## Updates of every slot of a list -/

section
variable {α : Type} {d : Nat → α}

theorem Cells.get_of_not_key {m : Cells α} {n : Nat} (h : n ∉ m.map (fun e => e.1)) : Cells.get d m n = d n := by
  induction m with
  | nil => rfl
  | cons e m ih =>
    simp only [List.map_cons, List.mem_cons, not_or] at h
    rw [Cells.get, if_neg (Ne.symm h.1), ih h.2]

/-- What each update makes of a cell holds of every listed cell, and stays true where it was. -/
theorem Cells.get_foldl_mod [DecidableEq α] {f : α → α} {good : α → Prop} (hf : ∀ x, good (f x)) {n : Nat} {l : List Nat} {m : Cells α} (h : n ∈ l ∨ good (Cells.get d m n)) :
    good (Cells.get d (l.foldl (fun m k => Cells.mod d m k f) m) n) := by
  induction l generalizing m with
  | nil => exact h.resolve_left (List.not_mem_nil)
  | cons k l ih =>
    refine ih ?_
    by_cases hk : n = k
    · right
      simp only [Cells.mod, hk, Cells.get_put_self]
      exact hf _
    · refine h.imp (fun h => (List.mem_cons.mp h).resolve_left hk) fun h => ?_
      simpa only [Cells.mod, Cells.get_put_other _ _ _ hk] using h

end

theorem State.each_modSlot (s : State) (l : List Nat) (f : Slot → Slot) :
    s.each l (fun s n => s.modSlot n f) = { s with slots := l.foldl (fun m n => m.mod slot0 n f) s.slots } := by
  induction l generalizing s with
  | nil => rfl
  | cons n l ih => exact ih (s.modSlot n f)

/-! ## What a record of the Guestbook leaves alone -/

theorem State.enqueue_eq (s : State) (r : Rec) : ∃ cnt q dropped since, s.enqueue r =
    { s with dw.cnt := cnt, gbk.queue := q, gbk.dropped := dropped, gbk.droppedSince := since } := by
  unfold State.enqueue
  split <;> exact ⟨_, _, _, _, rfl⟩

theorem State.log_eq (s : State) (code : Nat) (ps : List Nat) : ∃ cnt q tracked dropped since, s.log code ps =
    { s with dw.cnt := cnt, gbk.queue := q, gbk.tracked := tracked, gbk.dropped := dropped, gbk.droppedSince := since } := by
  obtain ⟨cnt, q, dropped, since, queued⟩ := s.enqueue_eq (s.recOf code ps)
  simp only [State.log, queued]
  split
  · exact ⟨_, _, _, _, _, rfl⟩
  split
  · exact ⟨_, _, _, _, _, rfl⟩
  split <;> exact ⟨_, _, _, _, _, rfl⟩

/-! ## Features -/

section
variable {c : Cmd} {s : State} {f : State → State}

theorem mgrFeature_manager (h : s.readyFor true c = true) : mgrFeature c s f = .next (f s) := by
  rw [mgrFeature, adminCmd_ready (readyFor_any h), if_pos (readyFor_manager h)]

theorem mgrFeature_other (h : s.readyFor false c = true) (hm : s.isManager c.id.ctrl = false) : mgrFeature c s f = .next (s.refuse c .invalidField) := by
  rw [mgrFeature, adminCmd_ready h, if_neg (by simp [hm])]

/-- An identifier without a command of its own is a standard feature. -/
theorem execSetFeatures_std (h2 : dw10 c % 256 ≠ 2) (hE : dw10 c % 256 ≠ 0x0E) (hC : dw10 c % 256 < 0xC0 ∨ 0xC7 < dw10 c % 256) :
    execSetFeatures c s = adminCmd false c s (fun s => s.setStd c (dw10 c % 256)) := by
  unfold execSetFeatures
  split
  case h_11 => rfl
  all_goals omega

theorem State.post_ctrl (s : State) (id : CmdId) (st : Status) (a b : Nat) (d : List Byte) (k : Nat) : (s.post id st a b d).ctrl k = s.ctrl k := rfl

theorem State.setStd_plain {fid : Nat} (h : fid ∈ [0x01, 0x05, 0x08, 0x09, 0x0A, 0x0B, 0x0F]) :
    s.setStd c fid = (s.modCtrl c.id.ctrl (fun x => { x with feats := x.feats.put zeroCell fid (dw11 c + 1) })).post c.id .success := by
  simp only [List.mem_cons, List.not_mem_nil, or_false] at h
  have plain : plainFids.contains fid = true := by
    rcases h with rfl | rfl | rfl | rfl | rfl | rfl | rfl <;> rfl
  simp only [State.setStd]
  rw [if_neg (by omega), if_neg (by omega), if_pos plain]

theorem execGetFeatures_error {st : Status} (h : s.readyFor false c = true) (hv : s.featVal c (dw10 c % 256) = .error st) :
    execGetFeatures c s = .next (s.refuse c st) := by
  rw [execGetFeatures, adminCmd_ready h, hv]

/-- The value that SEL asks for (R12). -/
def FeatVal.sel (v : FeatVal) (sel : Nat) : Nat × Nat :=
  if sel = 0 then v.cur else if sel = 1 then v.dflt else if sel = 2 then v.saved.getD v.dflt else (v.caps, 0)

theorem execGetFeatures_ok {v : FeatVal} (h : s.readyFor false c = true) (hv : s.featVal c (dw10 c % 256) = .ok v) (hs : field (dw10 c) 10 8 ≤ 3) :
    execGetFeatures c s = .next (s.post c.id .success (v.sel (field (dw10 c) 10 8)).1 (v.sel (field (dw10 c) 10 8)).2 v.data) := by
  rw [execGetFeatures, adminCmd_ready h, hv]
  simp only [FeatVal.sel]
  rw [if_neg (by omega)]

theorem State.featVal_epochLen (h : s.isManager c.id.ctrl = true) :
    s.featVal c 0xC3 = .ok { cur := (s.inf stEpochLen, 0), dflt := (100, 0) } := by
  simp [State.featVal, h, plainFids]

/-! ## Member timers -/

/-- The ranges of R226. -/
def timersOk (c : Cmd) : Bool :=
  dw12 c / 256 = 0 && 2 ≤ dw11 c % 65536 && dw11 c % 65536 ≤ 1000 && 5 ≤ field (dw11 c) 31 16 && field (dw11 c) 31 16 ≤ 600 && 1 ≤ dw12 c % 256
    && dw12 c % 256 ≤ 50 && dw11 c % 65536 ≤ 10 * field (dw11 c) 31 16

/-- The windows of the slow ratio begin anew (R222). -/
def Slot.restartWindows (x : Slot) : Slot := { x with win := [], fastCount := 0, slowCount := 0 }

def Slot.restarted (x : Slot) : Prop := x.win = [] ∧ x.fastCount = 0 ∧ x.slowCount = 0

/-- What member timers within their ranges leave (R226). -/
def State.withTimers (s : State) (c : Cmd) : State :=
  { s with
    media.tSlow := dw11 c % 65536
    media.tFail := field (dw11 c) 31 16
    media.slowPct := dw12 c % 256
    fw.sets.timers := if saveBit c then some (dw11 c % 65536, field (dw11 c) 31 16, dw12 c % 256) else s.fw.sets.timers
    slots := (s.slots.map (fun e => e.1)).foldl (fun m n => m.mod slot0 n Slot.restartWindows) s.slots }

theorem execMemberTimers_manager (h : s.readyFor true c = true) :
    execMemberTimers c s = .next (if timersOk c then (s.withTimers c).post c.id .success else s.refuse c .invalidField) := by
  rw [execMemberTimers, mgrFeature_manager h]
  simp only [State.each_modSlot]
  change Host.Outcome.next (s.check c (timersOk c) _) = _
  cases timersOk c
  · rfl
  · simp only [State.check_true, State.withTimers, if_true]
    cases saveBit c <;> rfl

/-- Every slot begins anew: the listed ones by the update, and the others have nothing to forget. -/
theorem State.withTimers_restarted (s : State) (c : Cmd) (n : Nat) : ((s.withTimers c).slot n).restarted := by
  refine Cells.get_foldl_mod (fun x => ⟨rfl, rfl, rfl⟩) (or_iff_not_imp_left.mpr fun hn => ?_)
  rw [Cells.get_of_not_key hn]
  exact ⟨rfl, rfl, rfl⟩

theorem timersOk_iff : timersOk c = true ↔ dw12 c / 256 = 0 ∧ 2 ≤ dw11 c % 65536 ∧ dw11 c % 65536 ≤ 1000 ∧ 5 ≤ field (dw11 c) 31 16 ∧ field (dw11 c) 31 16 ≤ 600 ∧
    1 ≤ dw12 c % 256 ∧ dw12 c % 256 ≤ 50 ∧ dw11 c % 65536 ≤ 10 * field (dw11 c) 31 16 := by
  simp only [timersOk, Bool.and_eq_true, decide_eq_true_eq, and_assoc]

/-! ## Write path and admission policies -/

theorem execWritePathPolicy_ready (h : s.readyFor false c = true) :
    execWritePathPolicy c s = .next (s.check c (policyOk (dw11 c)) (fun s =>
      if c.nsid = 0xFFFFFFFF then
        ({ s with media.nss := s.media.nss.map (fun x => if s.attachedTo x c.id.ctrl then { x with policy := dw11 c } else x) } : State).post c.id .success
      else match s.policyNs c with
        | .error st => s.refuse c st
        | .ok x => (s.modNs x.nsx (fun y => { y with policy := dw11 c })).post c.id .success)) :=
  adminCmd_ready h

theorem execCartridgeAdmissionPolicy_manager (sig : List Byte) (h : s.readyFor true c = true) :
    execCartridgeAdmissionPolicy c sig s = .next (
      if admissionOk (dw11 c % 65536) (c.buf ++ sig) = false ∨ field (dw11 c) 31 16 ≠ 0 ∨ field (dw10 c) 31 8 ≠ 0 then s.refuse c .invalidField
      else if s.policySigned (dw11 c % 65536) (c.buf ++ sig) = true ∧ s.gbk.polSerial < leAt (c.buf ++ sig) 0 8 then
        (s.takePolicy (c.buf ++ sig)).post c.id .success
      else s.refuse c (.vendor 0x87)) := by
  rw [execCartridgeAdmissionPolicy, mgrFeature_manager h]
  congr 1
  split
  · rfl
  · cases s.policySigned (dw11 c % 65536) (c.buf ++ sig)
    · rfl
    · by_cases newer : s.gbk.polSerial < leAt (c.buf ++ sig) 0 8
      · simp [newer, Nat.not_le.mpr newer]
      · simp [newer, Nat.not_lt.mp newer]

end

theorem execIdentify_ready {c : Cmd} {s : State} (h : s.readyFor false c = true) : execIdentify c s = .next (s.identify' c (dw10 c % 256)) :=
  adminCmd_ready h

/-- Neither the record nor the slots asked for power touch the policy in force. -/
theorem State.log_askPower_policy (s : State) (code : Nat) (ps : List Nat) (l : List Nat) :
    ((s.log code ps).each l (fun s n => s.askPower n)).gbk.polSerial = s.gbk.polSerial ∧ ((s.log code ps).each l (fun s n => s.askPower n)).gbk.polClass = s.gbk.polClass ∧
    ((s.log code ps).each l (fun s n => s.askPower n)).gbk.polFlags = s.gbk.polFlags ∧ ((s.log code ps).each l (fun s n => s.askPower n)).gbk.polIssuers = s.gbk.polIssuers ∧
    ((s.log code ps).each l (fun s n => s.askPower n)).gbk.polDeny = s.gbk.polDeny := by
  obtain ⟨cnt, q, tracked, dropped, since, recorded⟩ := s.log_eq code ps
  simp only [State.askPower, State.each_modSlot, recorded, and_self]

theorem State.log_askPower_rest (s : State) (code : Nat) (ps : List Nat) (l : List Nat) : (s.log code ps).each l (fun s n => s.askPower n) =
    { s with
      gbk := ((s.log code ps).each l (fun s n => s.askPower n)).gbk
      slots := ((s.log code ps).each l (fun s n => s.askPower n)).slots
      dw.cnt := ((s.log code ps).each l (fun s n => s.askPower n)).dw.cnt } := by
  obtain ⟨cnt, q, tracked, dropped, since, recorded⟩ := s.log_eq code ps
  simp only [State.askPower, State.each_modSlot, recorded]

/-- An admission policy changes the record of the owner, and asks power for the slots it may let in (R57). -/
theorem State.takePolicy_fields (s : State) (b : List Byte) :
    (s.takePolicy b).gbk.polSerial = leAt b 0 8 ∧ (s.takePolicy b).gbk.polClass = leAt b 8 1 ∧ (s.takePolicy b).gbk.polFlags = leAt b 9 1 ∧
    (s.takePolicy b).gbk.polIssuers.length = leAt b 10 2 ∧ (s.takePolicy b).gbk.polDeny.length = leAt b 12 2 ∧
    s.takePolicy b = { s with gbk := (s.takePolicy b).gbk, slots := (s.takePolicy b).slots, dw := { s.dw with cnt := (s.takePolicy b).dw.cnt } } := by
  simp only [State.takePolicy, State.log_askPower_policy, List.length_map, List.length_range, true_and]
  exact State.log_askPower_rest _ _ _ _

/-- Settles O42: each feature is an admin command whose checks pass or refuse it; the timers restart every slot (`State.withTimers_restarted`), a policy changes its namespaces or the record of the owner. -/
theorem featuresAndIdentifyAnswer : Obligations.FeaturesAndIdentifyAnswer := by
  refine ⟨fun c s => ?_, fun c s h hf => ?_, fun c s h hf hs => ?_, fun c s h hf => ?_, fun c s h hf hk => ?_, fun c s h h1 h2 h3 h4 h5 h6 h7 h8 => ?_,
    fun c x s h hp hn hx => ?_, fun c sig s h hb => ?_, fun c sig s h ha h11 h10 => ?_, fun b s => ?_, fun c sig s h ha h11 h10 hl => ?_,
    fun c s h h2 hE hC => ?_, fun c v s h hv hs => ?_, fun c st s h hv => execGetFeatures_error h hv, fun c s h => execIdentify_ready h,
    fun c sig i s h hm hi => ?_, fun c s h hr => ?_, fun c s h hp => ?_, fun c st s h hp hn hx => ?_, fun c s h hp hn => ?_⟩
  · refine ⟨?_, ?_, ?_, ?_, ?_, ?_, ?_, ?_, ?_, ?_⟩ <;> intro hf <;> change execSetFeatures c s = _ <;> rw [execSetFeatures, hf] <;> rfl
  · have std : dw10 c % 256 ≠ 2 ∧ dw10 c % 256 ≠ 0x0E ∧ dw10 c % 256 < 0xC0 := by
      simp only [List.mem_cons, List.not_mem_nil, or_false] at hf
      omega
    refine ⟨_, (execSetFeatures_std std.1 std.2.1 (.inl std.2.2)).trans (adminCmd_ready h), ?_⟩
    rw [State.setStd_plain hf]
    refine ⟨?_, fun k hk => ?_, State.post_lastAnswer .., rfl⟩
    · rw [State.post_ctrl, State.modCtrl_self]
      simp only [Ctrl.feat, Cells.get_put_self]
    · rw [State.post_ctrl, State.modCtrl_other _ _ _ _ hk]
  · have value : s.featVal c (dw10 c % 256) = .ok { cur := (s.inf stEpochLen, 0), dflt := (100, 0) } := by
      rw [hf, State.featVal_epochLen (readyFor_manager h)]
    refine ⟨_, _, execGetFeatures_ok (readyFor_any h) value hs, State.post_last .., rfl, rfl, ?_, rfl⟩
    simp only [FeatVal.sel]
    split
    · rfl
    · split
      · rw [if_neg (by omega)]
      · split
        · rw [if_neg (by omega)]
          rfl
        · rw [if_pos (by omega)]
  · refine ⟨_, execIdentify_ready h, ?_⟩
    rw [hf]
    exact ⟨State.post_lastAnswer .., rfl⟩
  · refine ⟨_, execIdentify_ready h, ?_⟩
    have page : s.identify' c 2 = s.post c.id .success 0 0 (listPage 4 (((s.activeNs c.id.ctrl).filter (fun n => n > c.nsid)).take 1024)) := by
      simp [State.identify', hk]
    rw [hf, page, State.post_last]
    exact ⟨rfl, rfl⟩
  · have ok : timersOk c = true := timersOk_iff.mpr ⟨h1, h2, h3, h4, h5, h6, h7, h8⟩
    refine ⟨_, execMemberTimers_manager h, ?_⟩
    rw [if_pos ok]
    exact ⟨rfl, rfl, rfl, rfl, s.withTimers_restarted c, State.post_lastAnswer .., rfl⟩
  · refine ⟨_, execWritePathPolicy_ready h, ?_⟩
    rw [hp, State.check_true, if_neg hn, hx]
    refine ⟨fun y hy hxy => ?_, List.length_map _, State.post_lastAnswer .., rfl⟩
    obtain ⟨z, -, rfl⟩ := List.mem_map.mp hy
    by_cases hz : z.nsx = x.nsx
    · rw [if_pos hz]
    · rw [if_neg hz] at hxy
      exact absurd hxy hz
  · exact (execCartridgeAdmissionPolicy_manager sig h).trans (congrArg _ (if_pos hb))
  · exact (execCartridgeAdmissionPolicy_manager sig h).trans (congrArg _ (if_neg (by simp [ha, h11, h10])))
  · exact s.takePolicy_fields b
  · refine ⟨_, execCartridgeAdmissionPolicy_manager sig h, ?_⟩
    rw [if_neg (by simp [ha, h11, h10]), if_neg (by omega)]
    exact ⟨State.refuse_lastAnswer .., rfl⟩
  · exact (execSetFeatures_std h2 hE hC).trans (adminCmd_ready h)
  · refine ⟨_, _, execGetFeatures_ok h hv hs, State.post_last .., rfl, rfl, rfl, ?_, rfl⟩
    change v.sel _ = _
    have sels : field (dw10 c) 10 8 = 0 ∨ field (dw10 c) 10 8 = 1 ∨ field (dw10 c) 10 8 = 2 ∨ field (dw10 c) 10 8 = 3 := by omega
    rcases sels with sel | sel | sel | sel <;> rw [sel] <;> rfl
  · simp only [List.mem_cons, List.not_mem_nil, or_false] at hi
    rcases hi with rfl | rfl | rfl | rfl | rfl | rfl | rfl
    · exact (mgrFeature_other h hm : execTenantQos c s = _)
    · exact (mgrFeature_other h hm : execRoomKey c s = _)
    · exact (mgrFeature_other h hm : execFirmwareConfirm c s = _)
    · exact (mgrFeature_other h hm : execEpochLength c s = _)
    · exact (mgrFeature_other h hm : execRebuildShare c s = _)
    · exact (mgrFeature_other h hm : execMemberTimers c s = _)
    · exact (mgrFeature_other h hm : execCartridgeAdmissionPolicy c sig s = _)
  · exact (execMemberTimers_manager h).trans (congrArg _ (if_neg fun ok => hr (timersOk_iff.mp ok)))
  · refine (execWritePathPolicy_ready h).trans ?_
    rw [hp, State.check_false]
  · refine (execWritePathPolicy_ready h).trans ?_
    rw [hp, State.check_true, if_neg hn, hx]
  · refine ⟨_, execWritePathPolicy_ready h, ?_⟩
    rw [hp, State.check_true, if_pos hn]
    exact ⟨rfl, State.post_lastAnswer .., rfl⟩

end Sys2Proof.Machine

namespace Sys2Proof.Machine

/-! ## Sound states -/

/-- Settles O4: an empty queue leaves the state as it is; a command keeps a sound state sound (`step_keeps`), and soundness does not read the queue. -/
theorem stepKeepsStateSound : Obligations.StepKeepsStateSound := by
  intro s t sound h
  cases hp : s.pending with
  | nil =>
    simp only [step, hp] at h
    cases h
    exact sound
  | cons c rest => exact (step_keeps hp h).sound sound

/-- Settles O5: every addressed map of the state in reset is empty. -/
theorem resetStateIsSound : Obligations.ResetStateIsSound := by
  unfold Obligations.ResetStateIsSound
  rfl

theorem State.sound_dw {s : State} (h : s.sound = true) : s.dw.sound = true := by
  unfold State.sound at h
  simp only [Bool.and_eq_true, and_assoc] at h
  exact h.1

theorem Dw.sound_staged {d : Dw} (h : d.sound = true) : d.inForce.wf stReset = true ∧ d.shadow.wf stReset = true := by
  simp only [Dw.sound, Bool.and_eq_true] at h
  obtain ⟨⟨⟨-, inForce⟩, shadow⟩, -⟩ := h
  exact ⟨inForce, shadow⟩

/-- Canonical maps are equal exactly when every field reads the same (`Cells.ext_of_wf`). -/
theorem State.dirty_eq_false_iff {s : State} (h : s.sound = true) : s.dirty = false ↔ ∀ k, s.sh k = s.inf k := by
  obtain ⟨inForce, shadow⟩ := Dw.sound_staged (State.sound_dw h)
  have same : s.dw.inForce = s.dw.shadow ↔ ∀ k, s.sh k = s.inf k :=
    ⟨fun e k => by rw [State.sh, State.inf, e], fun e => Cells.ext_of_wf stReset inForce shadow fun k => (e k).symm⟩
  simpa [State.dirty] using same

/-- Settles O6. -/
theorem dirtyShowsADifferingField : Obligations.DirtyShowsADifferingField := by
  intro s h
  rw [← Bool.not_eq_false, State.dirty_eq_false_iff h, not_forall]

end Sys2Proof.Machine

namespace Sys2Proof.Machine

/-! ## The boundary check -/

theorem State.each_nil {α : Type} (s : State) (f : State → α → State) : s.each [] f = s := rfl

/-- Owners that stay end no cursor and stop no lane. -/
theorem State.ownersChanged_same {s : State} {old : Cells Nat} (banks : ∀ b < 16, s.inf (stBankOwner b) = stGet old (stBankOwner b))
    (lanes : ∀ l < 64, s.inf (stLaneOwner l) = stGet old (stLaneOwner l)) : s.ownersChanged old = s := by
  have noBank : (List.range 16).filter (fun b => stGet old (stBankOwner b) ≠ s.inf (stBankOwner b)) = [] := by
    simpa [List.filter_eq_nil_iff] using fun b hb => (banks b hb).symm
  have noLane : (List.range 64).any (fun l => stGet old (stLaneOwner l) ≠ s.inf (stLaneOwner l)) = false := by
    simpa using fun l hl => (lanes l hl).symm
  unfold State.ownersChanged
  rw [noBank, State.each_nil]
  dsimp only
  rw [noLane, if_neg Bool.false_ne_true]

/-- What the check leaves of the staging scheme, whatever its verdict. -/
def State.checked (s : State) : State :=
  { s with
    stage.window := none
    stage.armed := s.stage.later
    stage.commitEpoch := if s.stage.later then s.stage.epoch + 1 else s.stage.commitEpoch
    stage.later := false
    stage.waiting := s.stage.waiting.filter (fun w => w.boundary > s.stage.epoch) }

section
variable {s : State} {r : Nat}

/-- A due set that passes, with no command waiting for it. -/
theorem State.boundaryCheck_pass (ha : s.stage.armed = true) (he : s.stage.commitEpoch ≤ s.stage.epoch) (hw : s.stage.waiting = [])
    (hf : s.failing (s.stage.window.getD s.dw.shadow) s.checkIn = none) :
    s.boundaryCheck = s.checked.applySetR33 (s.stage.window.getD s.dw.shadow) [] := by
  unfold State.boundaryCheck
  rw [if_neg (by simp [ha]; omega)]
  simp [hf, hw, State.checked]

theorem State.boundaryCheck_fail (ha : s.stage.armed = true) (he : s.stage.commitEpoch ≤ s.stage.epoch) (hw : s.stage.waiting = [])
    (hf : s.failing (s.stage.window.getD s.dw.shadow) s.checkIn = some r) :
    s.boundaryCheck = s.checked.rejectSet (s.stage.window.getD s.dw.shadow) s.checkIn r [] := by
  unfold State.boundaryCheck
  rw [if_neg (by simp [ha]; omega)]
  simp [hf, hw, State.checked]

end

theorem execEpochBoundary_running {s : State} (h : s.coreOn = true) :
    execEpochBoundary s = .next ({ s with stage := { s.stage with epoch := s.stage.epoch + 1 } } : State).boundaryCheck.afterCheck :=
  if_neg (by simp [h])

/-- A passing set is in force, and `APPLIED` is set. -/
theorem State.applySetR33_same {s : State} {m : Cells Nat} (banks : ∀ b < 16, stGet m (stBankOwner b) = s.inf (stBankOwner b))
    (lanes : ∀ l < 64, stGet m (stLaneOwner l) = s.inf (stLaneOwner l)) :
    s.applySetR33 m [] = ({ s with dw.inForce := m } : State).raise (dwSTAGE + 0x10) 8 :=
  State.ownersChanged_same (s := ({ s with dw.inForce := m } : State).raise (dwSTAGE + 0x10) 8) banks lanes

/-- A failing set with no command waiting leaves its rule, its location, `REJECT` and a record. -/
theorem State.rejectSet_idle (s : State) (m : Cells Nat) (i : CheckIn) (r : Nat) :
    s.rejectSet m i r [] = (({ s with stage.rule := r, stage.rejectAddr := rejectLoc (s.implicated m i r) } : State).raise (dwSTAGE + 0x10) 4).log 0x0105
      [r, s.stage.epoch, rejectLoc (s.implicated m i r)] := rfl

/-- Settles O8: a passing set is taken whole (`State.applySetR33_same`); a failing one leaves its rule and its record (`State.rejectSet_idle`). -/
theorem epochBoundaryCountsAndChecksTheArmedSet : Obligations.EpochBoundaryCountsAndChecksTheArmedSet := by
  refine ⟨fun s h => execEpochBoundary_running h, fun s h => if_pos h, fun s ha he hw hf banks lanes => ?_, fun s r ha he hw hf => ?_⟩
  · rw [State.boundaryCheck_pass ha he hw hf, State.applySetR33_same (s := s.checked) banks lanes]
    refine ⟨rfl, ?_, rfl⟩
    rw [State.raise_self, Nat.testBit_or, show Nat.testBit 8 3 = true by decide, Bool.or_true]
  · rw [State.boundaryCheck_fail ha he hw hf, State.rejectSet_idle]
    obtain ⟨cnt, q, tracked, dropped, since, recorded⟩ := State.log_eq _ 0x0105 _
    rw [recorded]
    refine ⟨rfl, rfl, ?_, rfl⟩
    refine Eq.trans (congrArg (fun v => Nat.testBit v 2) (State.raise_self _ (dwSTAGE + 0x10) 4)) ?_
    rw [Nat.testBit_or, show Nat.testBit 4 2 = true by decide, Bool.or_true]

end Sys2Proof.Machine

namespace Sys2Proof.Machine

/-! ## Folds put the state -/

/-- What every step of a fold leaves alone, the fold leaves alone. -/
theorem State.each_same {α β : Type} {f : State → α → State} {π : State → β} (h : ∀ s a, π (f s a) = π s) (s : State) (l : List α) : π (s.each l f) = π s := by
  unfold State.each
  induction l generalizing s with
  | nil => rfl
  | cons a l ih => exact (ih (f s a)).trans (h s a)

/-- `t` differs from `s` at most where `put` takes what `t` holds. -/
def State.Within (put : State → State → State) (s t : State) : Prop := t = put s t

/-- `put` takes whole parts of the second state and the rest of the first. -/
def Frames (put : State → State → State) : Prop := (∀ s, put s s = s) ∧ ∀ s t u, put (put s t) u = put s u

theorem State.Within.trans {put : State → State → State} (fr : Frames put) {s t u : State} (h : s.Within put t) (k : t.Within put u) : s.Within put u :=
  calc u = put t u := k
    _ = put (put s t) u := congrArg (put · u) h
    _ = put s u := fr.2 s t u

theorem State.Within.each {α : Type} {put : State → State → State} (fr : Frames put) {f : State → α → State} (h : ∀ (s : State) a, s.Within put (f s a)) (s : State) (l : List α) :
    s.Within put (s.each l f) := by
  unfold State.each
  induction l generalizing s with
  | nil => exact (fr.1 s).symm
  | cons a l ih => exact (h s a).trans fr (ih (f s a))

/-- A fold that changes each listed slot once. -/
theorem State.slot_each_modSlot {f : Nat → Slot → Slot} {l : List Nat} {n : Nat} (s : State) (h : n ∈ l) (once : l.Nodup) :
    (s.each l (fun s n => s.modSlot n (f n))).slot n = f n (s.slot n) := by
  unfold State.each
  have absent {l : List Nat} (s : State) (h : n ∉ l) : (l.foldl (fun s n => s.modSlot n (f n)) s).slot n = s.slot n := by
    induction l generalizing s with
    | nil => rfl
    | cons k l ih =>
      rw [List.mem_cons, not_or] at h
      exact (ih _ h.2).trans (s.modSlot_other k n _ h.1)
  induction l generalizing s with
  | nil => exact absurd h List.not_mem_nil
  | cons k l ih =>
    rw [List.nodup_cons] at once
    by_cases hk : n = k
    · subst hk
      exact (absent _ once.1).trans (s.modSlot_self n _)
    · refine (ih _ ((List.mem_cons.mp h).resolve_left hk) once.2).trans (congrArg (f n) (s.modSlot_other k n _ hk))

/-! ## Resets and restarts -/

/-- What a reset of the domains leaves of everything that is not kept over it (R28, R460). -/
theorem State.resetDomains_gone (s : State) (torn : List (Nat × Nat × Nat)) (aon off : Bool) (cause : Nat) :
    (s.resetDomains torn aon off cause).pwr.phase = .held ∧ (s.resetDomains torn aon off cause).pwr.cause = cause ∧ (s.resetDomains torn aon off cause).stage = {} ∧
    (s.resetDomains torn aon off cause).io.flights = [] ∧ (s.resetDomains torn aon off cause).ends = [] ∧ (s.resetDomains torn aon off cause).dw.cnt = [] ∧
    (s.resetDomains torn aon off cause).dma = {} ∧ (s.resetDomains torn aon off cause).lt = {} ∧ (s.resetDomains torn aon off cause).srch.tcam = [] :=
  ⟨rfl, rfl, rfl, rfl, rfl, rfl, rfl, rfl, rfl⟩

/-- With `AON` in reset no register keeps its value. -/
theorem State.resetDomains_regs (s : State) (torn : List (Nat × Nat × Nat)) (off : Bool) (cause : Nat) : (s.resetDomains torn true off cause).dw.regs = [] :=
  List.filter_false _

/-- Cartridges that change their slots change nothing of the unit's power and straps. -/
theorem State.reseat_pwr (s : State) (prsntN : BitVec 64) (moved : List (Nat × Nat)) : (s.reseat prsntN moved).pwr = s.pwr := by
  refine (State.each_same (π := State.pwr) (fun s e => ?_) _ _).trans (State.each_same (π := State.pwr) (fun s n => ?_) _ _)
  · rfl
  · simp only [State.shelve]
    split <;> rfl

/-- The samples of a cold start: the strap and what the presence pins say (R203). -/
def State.sampled (s : State) (mode : BitVec 2) (carts : ColdCarts) : State :=
  ({ s.reseat carts.prsntN carts.moved with pwr.porst := true, pwr.modeLive := mode.toNat } : State).each (List.range s.part.slots) (fun s n => s.modSlot n (fun x =>
    { x with prsntLow := !carts.prsntN.getLsbD n, prsnt := false }))

theorem State.sampled_pwr (s : State) (mode : BitVec 2) (carts : ColdCarts) : (s.sampled mode carts).pwr = { s.pwr with porst := true, modeLive := mode.toNat } := by
  refine (State.each_same (π := State.pwr) (fun s n => ?_) _ _).trans ?_
  · rfl
  · exact congrArg (fun p : Pwr => { p with porst := true, modeLive := mode.toNat }) (s.reseat_pwr carts.prsntN carts.moved)

theorem State.sampled_slot (s : State) (mode : BitVec 2) (carts : ColdCarts) {n : Nat} (h : n < s.part.slots) :
    ((s.sampled mode carts).slot n).prsntLow = !carts.prsntN.getLsbD n := by
  rw [State.sampled, State.slot_each_modSlot (f := fun n x => { x with prsntLow := !carts.prsntN.getLsbD n, prsnt := false }) _ (List.mem_range.mpr h) List.nodup_range]

theorem execColdStart_released {mode : BitVec 2} {carts : ColdCarts} {s : State} (hp : s.pwr.porst = false) (ht : takesPins s.pwr.tap = false) :
    execColdStart mode carts s = .next (s.sampled mode carts).releaseStart := by
  have part : (s.reseat carts.prsntN carts.moved).part = s.part := (Keeps.reseat s _ _).part
  have shape : execColdStart mode carts s = if s.pwr.porst then .next s else
      if takesPins (s.sampled mode carts).pwr.tap then .next { s.sampled mode carts with pwr.tapHold := true } else .next (s.sampled mode carts).releaseStart := by
    simp only [execColdStart, State.sampled, part]
  rw [shape, if_neg (by simp [hp]), if_neg (by simp [State.sampled_pwr, ht])]

/-- A start that nothing holds runs the boot ROM on the straps as they are. -/
theorem State.releaseStart_runs {s : State} (hr : s.pwr.refclk = true) (ht : s.pwr.trip = false) :
    s.releaseStart = ({ s with pwr.mode := s.pwr.modeLive, pwr.trip := false, pwr.tapHold := false, pwr.seen := false, pwr.cause := 0 } : State).bootRom :=
  if_neg (by simp [hr, ht])

/-- A millisecond of DRAM control: only its counters of C4h move. -/
theorem State.dramTick_eq (s : State) : s.dramTick = { s with ddr := s.dramTick.ddr } := by
  have fr : Frames (fun s t => { s with ddr := t.ddr }) := ⟨fun _ => rfl, fun _ _ _ => rfl⟩
  refine (State.Within.each fr (fun _ _ => ?_) s _).trans fr (State.Within.each fr (fun _ _ => ?_) _ _) <;> rfl

theorem State.tapRelease_stays {s : State} (h : s.pwr.tapHold = false ∨ takesPins s.pwr.tap = true) : s.tapRelease = s :=
  if_neg (by rcases h with h | h <;> simp [h])

theorem State.tapRelease_runs {s : State} (h : s.pwr.tapHold = true) (ht : takesPins s.pwr.tap = false) :
    s.tapRelease = ({ s with pwr.tapHold := false } : State).releaseStart :=
  if_pos ⟨h, by simp [ht]⟩

theorem execClockLoss_active {s : State} (hp : s.pwr.phase ≠ .held) (ha : s.pwr.sleep = .active) :
    execClockLoss s = .next (({ s with pwr.latched := s.pwr.latched ++ [(0x0102, [])] } : State).resetDomains [] false false 1).bootRom :=
  if_neg (by simp [hp, ha])

theorem execRefclkLoss_released {s : State} (hr : s.pwr.refclk = true) (hp : s.pwr.porst = true) :
    execRefclkLoss s = .next { (s.resetDomains [] false false 1) with pwr.refclk := false } := by
  rw [execRefclkLoss, if_neg (by simp [hr]), if_neg (by simp [hp])]

theorem execRefclkReturn_restarts {s : State} (hr : s.pwr.refclk = false) (hp : s.pwr.porst = true) (ht : s.pwr.trip = false) (hh : s.pwr.tapHold = false) :
    execRefclkReturn s = .next ({ s with pwr := { s.pwr with refclk := true, latched := s.pwr.latched ++ [(0x0102, [])], cause := 1 } } : State).bootRom := by
  simp only [execRefclkReturn]
  rw [if_neg (by simp [hr]), if_neg (by simp [hp, ht, hh])]

/-- A sample is hot where some sensor reads 120 degrees. -/
theorem any_hot_iff (l : List (BitVec 8)) : ((List.range 16).map (fun i => l.getD i 0)).any (fun t => (120 : Int) ≤ t.toInt) = true ↔ ∃ i < 16, 120 ≤ (l.getD i 0).toInt := by
  simp only [List.any_map, List.any_eq_true, List.mem_range, Function.comp, decide_eq_true_eq]

/-- What a sample leaves of the readings and the time (R463, R507). -/
def State.sampledTemps (s : State) (l : List (BitVec 8)) : State :=
  let ts := (List.range 16).map (fun i => l.getD i 0)
  { s with
    pwr.temps := ts
    pwr.peak := if s.pwr.porst = false then 0 else if s.pwr.seen ∧ (hottest ts).toInt ≤ s.pwr.peak.toInt then s.pwr.peak else hottest ts
    pwr.seen := s.pwr.porst
    gbk.uptime := if s.pwr.porst ∧ s.pwr.refclk then (s.gbk.uptime + 1) % 2 ^ 48 else s.gbk.uptime }

theorem execTempSample_cool {l : List (BitVec 8)} {s : State} (hp : s.pwr.porst = true) (hr : s.pwr.refclk = true) (hl : ∀ i < 16, (l.getD i 0).toInt < 120) :
    execTempSample l s = .next (s.sampledTemps l).gbkTick.dramTick := by
  have cool := mt (any_hot_iff l).mp (by push Not; exact hl)
  simp only [execTempSample]
  rw [if_neg (fun h => cool h.1), if_pos ⟨hp, hr⟩]
  rfl

theorem execTempSample_trips {l : List (BitVec 8)} {s : State} (ht : s.pwr.trip = false) (hl : ∃ i < 16, 120 ≤ (l.getD i 0).toInt) :
    execTempSample l s = .next (
      let u := if s.pwr.porst ∧ s.pwr.refclk then (s.sampledTemps l).gbkTick else s.sampledTemps l
      { (u.raise 0x44 (2 ^ 31)).resetDomains [] false true u.pwr.cause with pwr.trip := true }) := by
  have trip : (if s.pwr.porst ∧ s.pwr.refclk then (s.sampledTemps l).gbkTick else s.sampledTemps l).pwr.trip = false := by split <;> exact ht
  exact if_pos ⟨(any_hot_iff l).mpr hl, trip⟩

/-- Settles O17: a reset leaves nothing but what is kept over it (`State.resetDomains_gone`), and each pin or clock leads to one of the reset, the boot ROM, or nothing. -/
theorem resetsAndRestartsClearWhatTheyReset : Obligations.ResetsAndRestartsClearWhatTheyReset := by
  refine ⟨fun mode prsntN moved s hp hr ht hh => ?_, fun s => ?_, fun torn s => ?_, fun s hp ha => ?_, fun s hr hp => ?_,
    fun s hr hp ht hh => execRefclkReturn_restarts hr hp ht hh, fun l s hp hr hl => ?_, fun l s ht hl => ?_, fun code s h => ?_, fun code s h ht => ?_,
    fun s h => ?_, fun s h => ?_⟩
  · have pwr := s.sampled_pwr mode ⟨prsntN, moved⟩
    refine ⟨_, (execColdStart_released hp hh).trans (congrArg _ (State.releaseStart_runs (by rw [pwr]; exact hr) (by rw [pwr]; exact ht))), ?_⟩
    simp only [pwr, true_and]
    exact fun n hn => s.sampled_slot mode ⟨prsntN, moved⟩ hn
  · exact ⟨_, rfl, rfl, rfl, rfl, rfl, rfl, s.resetDomains_regs [] true 0, rfl, rfl, rfl, rfl⟩
  · exact ⟨_, rfl, rfl, rfl, rfl, rfl, rfl, s.resetDomains_regs torn true 0, rfl, rfl, rfl, rfl⟩
  · obtain ⟨held, cause, staged, flights, -, cnt, -⟩ := State.resetDomains_gone { s with pwr.latched := s.pwr.latched ++ [(0x0102, [])] } [] false false 1
    exact ⟨_, execClockLoss_active hp ha, held, cause, staged, flights, cnt⟩
  · exact ⟨_, execRefclkLoss_released hr hp, rfl, rfl, rfl, rfl, rfl⟩
  · refine ⟨_, execTempSample_cool hp hr hl, ?_⟩
    rw [State.dramTick_eq]
    exact ⟨rfl, if_pos ⟨hp, hr⟩, rfl⟩
  · exact ⟨_, execTempSample_trips ht hl, rfl, rfl, rfl, rfl⟩
  · exact congrArg _ (State.tapRelease_stays (s := { s with pwr.tap := code }) h)
  · exact congrArg _ (State.tapRelease_runs (s := { s with pwr.tap := code }) h ht)
  · exact congrArg _ (State.tapRelease_runs (s := { s with pwr.tap := 2 }) h rfl)
  · exact congrArg _ (State.tapRelease_stays (s := { s with pwr.tap := 2 }) (.inl h))

end Sys2Proof.Machine

namespace Sys2Proof.Machine

/-! ## Commands of R38: staged, armed and waiting -/

theorem Stage.commit_armed (g : Stage) : g.commit.armed = true := by
  unfold Stage.commit
  by_cases ha : g.armed = false
  · rw [if_pos ha]
  · rw [if_neg ha]
    split <;> exact Bool.not_eq_false _ ▸ ha

theorem Stage.commit_waiting (g : Stage) : g.commit.waiting = g.waiting := by
  unfold Stage.commit
  split
  · rfl
  · split <;> rfl

/-- Only shadows change where fields are staged. -/
theorem State.each_setSh (s : State) (fields : List (Nat × Nat)) :
    s.each fields (fun s f => s.setSh f.1 f.2) = { s with dw.shadow := (s.each fields (fun s f => s.setSh f.1 f.2)).dw.shadow } := by
  refine State.Within.each (put := fun s t => { s with dw.shadow := t.dw.shadow }) ⟨fun _ => rfl, fun _ _ _ => rfl⟩ (fun _ _ => ?_) s fields
  rfl

theorem State.sh_each_other {k : Nat} {fields : List (Nat × Nat)} (s : State) (h : k ∉ fields.map (·.1)) :
    (s.each fields (fun s f => s.setSh f.1 f.2)).sh k = s.sh k := by
  unfold State.each
  induction fields generalizing s with
  | nil => rfl
  | cons f l ih =>
    rw [List.map_cons, List.mem_cons, not_or] at h
    exact (ih _ h.2).trans (s.setSh_other _ _ _ h.1)

/-- Of fields that are listed once each, every one takes its value. -/
theorem State.sh_each_listed {e : Nat × Nat} {fields : List (Nat × Nat)} (s : State) (once : (fields.map (·.1)).Nodup) (h : e ∈ fields) :
    (s.each fields (fun s f => s.setSh f.1 f.2)).sh e.1 = e.2 := by
  unfold State.each
  induction fields generalizing s with
  | nil => exact absurd h List.not_mem_nil
  | cons f l ih =>
    rw [List.map_cons, List.nodup_cons] at once
    rcases List.mem_cons.mp h with rfl | h
    · exact (State.sh_each_other _ once.1).trans (s.setSh_self _ _)
    · exact ih _ once.2 h

section
variable (s : State) (id : CmdId) (fields : List (Nat × Nat)) (kind : StageKind)

theorem State.stageFor_stage : (s.stageFor id fields kind).stage =
    { s.stage.commit with waiting := s.stage.waiting ++ [⟨id, fields.map (·.1), s.stage.target, kind⟩] } := by
  have staged : (s.each fields (fun s f => s.setSh f.1 f.2)).stage = s.stage := by rw [State.each_setSh]
  simp only [State.stageFor, State.commit, staged, Stage.commit_waiting]

theorem State.stageFor_armed : (s.stageFor id fields kind).stage.armed = true := by
  rw [State.stageFor_stage]
  exact s.stage.commit_armed

theorem State.stageFor_waiting : (s.stageFor id fields kind).stage.waiting = s.stage.waiting ++ [⟨id, fields.map (·.1), s.stage.target, kind⟩] := by
  rw [State.stageFor_stage]

theorem State.stageFor_sh (k : Nat) : (s.stageFor id fields kind).sh k = (s.each fields (fun s f => s.setSh f.1 f.2)).sh k := rfl

theorem State.stageFor_rest : s.stageFor id fields kind =
    { s with dw := { s.dw with shadow := (s.stageFor id fields kind).dw.shadow }, stage := (s.stageFor id fields kind).stage } := by
  have frame := s.each_setSh fields
  simp only [State.stageFor, State.commit]
  generalize s.each fields (fun s f => s.setSh f.1 f.2) = t at frame ⊢
  rw [frame]

/-- A command of R38 with one field. -/
theorem State.stageFor_one (k v : Nat) : (s.stageFor id [(k, v)] kind).sh k = v ∧ (∀ j, j ≠ k → (s.stageFor id [(k, v)] kind).sh j = s.sh j) :=
  ⟨s.setSh_self k v, fun j hj => s.setSh_other k j v hj⟩

theorem State.stageFor_two {k j v w : Nat} (h : k ≠ j) : (s.stageFor id [(k, v), (j, w)] kind).sh k = v ∧ (s.stageFor id [(k, v), (j, w)] kind).sh j = w ∧
    (∀ i, i ≠ k → i ≠ j → (s.stageFor id [(k, v), (j, w)] kind).sh i = s.sh i) :=
  ⟨((s.setSh k v).setSh_other j k w h).trans (s.setSh_self k v), (s.setSh k v).setSh_self j w,
    fun i hk hj => ((s.setSh k v).setSh_other j i w hj).trans (s.setSh_other k i v hk)⟩
end

/-! ### The commands -/

section
variable {c : Cmd} {s : State}

theorem execEpochLength_manager (h : s.readyFor true c = true) : execEpochLength c s = .next (
    if saveBit c then s.refuse c .notSaveable else s.check c (dw11 c / 2 ^ 14 = 0) (fun s => s.stageFor c.id [(stEpochLen, dw11 c)] .plain)) :=
  mgrFeature_manager h

theorem execRebuildShare_manager (h : s.readyFor true c = true) : execRebuildShare c s = .next (
    s.check c (dw11 c / 2 ^ 7 = 0) (fun s => s.stageFor c.id [(stRebuildShare, dw11 c)] .plain)) :=
  mgrFeature_manager h

theorem execTenantQos_manager (h : s.readyFor true c = true) : execTenantQos c s = .next (
    s.check c (field (dw11 c) 31 16 = 0 && dw11 c % 65536 ≠ 0 && (s.tenant (dw11 c % 65536)).occupied) (fun s =>
      s.stageFor c.id [(stTenant (dw11 c % 65536) 288, dw12 c), (stTenant (dw11 c % 65536) 292, dw13 c)] .plain)) :=
  mgrFeature_manager h

theorem State.check_of {ok : Bool} {f : State → State} (h : ok = true) : s.check c ok f = f s := by rw [h, State.check_true]

theorem State.check_not {ok : Bool} {f : State → State} (h : ok = false) : s.check c ok f = s.refuse c .invalidField := by rw [h, State.check_false]

/-- Beyond CREATE, a pool that its command may change exists, and its census has ended. -/
theorem State.poolReady_of_none {act : Nat} (h : s.poolRefusal act c = none) (ha : act ≠ 0) : s.poolReady (dw10 c / 16 % 4) = true := by
  by_contra absent
  have refused : s.poolRefusal act c = some .invalidField := by
    unfold State.poolRefusal
    by_cases fields : s.poolFields act c = false
    · exact if_pos fields
    · exact (if_neg fields).trans (if_pos (by simpa [ha] using absent))
  exact Option.some_ne_none _ (refused.symm.trans h)

theorem State.not_poolWaits {act : Nat} (h : s.poolRefusal act c = none) : s.poolWaits act c = false := by
  by_cases ha : act = 0
  · subst ha
    rfl
  · have ready := State.poolReady_of_none h ha
    simp only [State.poolReady, Bool.and_eq_true, decide_eq_true_eq] at ready
    simp [State.poolWaits, ready.1.2]

theorem poolCmd_accepted {act : Nat} (hc : s.readyFor true c = true) (h : s.poolRefusal act c = none) :
    poolCmd act c s = .next (s.poolAct act (dw10 c / 16 % 4) (poolArgs c.buf) c.id) := by
  rw [poolCmd, adminCmd_ready hc]
  simp [State.not_poolWaits h, State.poolGo, h]

theorem poolCreate_refused {st : Status} (hc : s.readyFor true c = true) (h : s.poolRefusal 0 c = some st) : execPoolCreate c s = .next (s.refuse c st) := by
  have now : s.poolWaits 0 c = false := rfl
  rw [execPoolCreate, poolCmd, adminCmd_ready hc]
  simp [now, State.poolGo, h]

/-- The shares of a parameter block as they are staged: each unit of the mask to the tenant, and what it held of the others to none (R321). -/
def State.ownFields (s : State) (t : Nat) (key : Nat → Nat) (mask n : Nat) : List (Nat × Nat) :=
  (List.range n).filterMap (fun i => if mask.testBit i then some (key i, t) else if s.sh (key i) = t ∨ s.inf (key i) = t then some (key i, 0) else none)

/-- What RESOURCES stages. -/
def State.resourceFields (s : State) (t : Nat) (x : TenParams) : List (Nat × Nat) :=
  (tenFields.zip x.fields).map (fun e => (stTenant t e.1, e.2)) ++ s.ownFields t stBankOwner x.banks 16 ++ s.ownFields t stLaneOwner x.lanes 64

theorem execResources_accepted (hc : s.readyFor true c = true) (h10 : dw10 c < 65536) (h11 : c.cdw11 = 0) (h12 : zero12 c = true) (occupied : (s.tenant (dw10 c)).occupied = true)
    (hm : s.pwr.mode ≠ 1) (ok : (tenParams c.buf).ok c.buf = true) (z0 : zeroBytes c.buf 0 2 = true) (z8 : zeroBytes c.buf 8 263 = true)
    (shares : s.sharesOk (dw10 c) (tenParams c.buf) = true) :
    execResources c s = .next (s.stageFor c.id (s.resourceFields (dw10 c) (tenParams c.buf)) (.resources (dw10 c) (tenParams c.buf).flags (tenParams c.buf).maxScans)) := by
  have tid : dw10 c % 65536 = dw10 c := Nat.mod_eq_of_lt h10
  have zeros : field (dw10 c) 31 20 = 0 ∧ field (dw10 c) 19 16 = 0 := by
    simp only [field]
    omega
  rw [execResources, modifyCmd, adminCmd_ready hc]
  simp only [tid]
  rw [State.check_of (by simp [zeros, hm, h11, h12, occupied]), State.check_of (by simp [ok, z0, z8, shares])]
  rfl
end

/-! ### The fields of RESOURCES -/

section
variable {s : State} {t n mask : Nat} {key : Nat → Nat}

theorem State.ownFields_keys (s : State) (t : Nat) (key : Nat → Nat) (mask n : Nat) : ((s.ownFields t key mask n).map (·.1)).Sublist ((List.range n).map key) := by
  unfold State.ownFields
  induction List.range n with
  | nil => exact List.Sublist.slnil
  | cons i l ih =>
    rw [List.filterMap_cons]
    split
    · exact ih.cons _
    next e h =>
      have : e.1 = key i := by
        split at h
        · cases h; rfl
        · split at h
          · cases h; rfl
          · cases h
      simpa [this] using ih

theorem State.mem_ownFields {i : Nat} (hi : i < n) (h : mask.testBit i = true) : (key i, t) ∈ s.ownFields t key mask n :=
  List.mem_filterMap.mpr ⟨i, List.mem_range.mpr hi, if_pos h⟩

/-- Every field that RESOURCES stages is staged once: the keys of its three lists lie apart. -/
theorem State.resourceFields_nodup (s : State) (t : Nat) (b : List Byte) : ((s.resourceFields t (tenParams b)).map (·.1)).Nodup := by
  have ten : ((tenFields.zip (tenParams b).fields).map (fun e => (stTenant t e.1, e.2))).map (·.1) = tenFields.map (stTenant t) := rfl
  have banks := s.ownFields_keys t stBankOwner (tenParams b).banks 16
  have lanes := s.ownFields_keys t stLaneOwner (tenParams b).lanes 64
  have dw := dw_bases
  have injTen : Function.Injective (stTenant t) := fun a b h => by simpa [stTenant] using h
  have injBank : Function.Injective stBankOwner := fun a b h => by simpa [stBankOwner] using h
  have injLane : Function.Injective stLaneOwner := fun a b h => by simpa [stLaneOwner] using h
  rw [State.resourceFields, List.map_append, List.map_append, ten]
  refine List.nodup_append.mpr ⟨List.nodup_append.mpr ⟨?_, (List.nodup_range.map injBank).sublist banks, ?_⟩, (List.nodup_range.map injLane).sublist lanes, ?_⟩
  · exact List.Nodup.map injTen (by decide)
  · intro a ha c hc
    obtain ⟨o, -, rfl⟩ := List.mem_map.mp ha
    obtain ⟨i, hi, rfl⟩ := List.mem_map.mp (banks.subset hc)
    rw [List.mem_range] at hi
    simp only [stTenant, stBankOwner]
    omega
  · intro a ha c hc
    obtain ⟨l, hl, rfl⟩ := List.mem_map.mp (lanes.subset hc)
    rw [List.mem_range] at hl
    rcases List.mem_append.mp ha with ha | ha
    · obtain ⟨o, -, rfl⟩ := List.mem_map.mp ha
      simp only [stTenant, stLaneOwner]
      omega
    · obtain ⟨i, hi, rfl⟩ := List.mem_map.mp (banks.subset ha)
      rw [List.mem_range] at hi
      simp only [stBankOwner, stLaneOwner]
      omega

/-- The shadow after RESOURCES: the tenant's fields, and its banks and lanes. -/
theorem State.resources_staged (s : State) (t : Nat) (b : List Byte) (id : CmdId) (kind : StageKind) :
    (∀ e ∈ tenFields.zip (tenParams b).fields, (s.stageFor id (s.resourceFields t (tenParams b)) kind).sh (stTenant t e.1) = e.2) ∧
    (∀ i < 16, (tenParams b).banks.testBit i = true → (s.stageFor id (s.resourceFields t (tenParams b)) kind).sh (stBankOwner i) = t) ∧
    (∀ i < 64, (tenParams b).lanes.testBit i = true → (s.stageFor id (s.resourceFields t (tenParams b)) kind).sh (stLaneOwner i) = t) := by
  have listed {k v : Nat} (h : (k, v) ∈ s.resourceFields t (tenParams b)) : (s.stageFor id (s.resourceFields t (tenParams b)) kind).sh k = v := by
    rw [State.stageFor_sh]
    exact s.sh_each_listed (s.resourceFields_nodup t b) h
  refine ⟨fun e he => ?_, fun i hi hbit => ?_, fun i hi hbit => ?_⟩
  · exact listed (List.mem_append_left _ (List.mem_append_left _ (List.mem_map_of_mem (f := fun e => (stTenant t e.1, e.2)) he)))
  · exact listed (List.mem_append_left _ (List.mem_append_right _ (State.mem_ownFields hi hbit)))
  · exact listed (List.mem_append_right _ (State.mem_ownFields hi hbit))
end

/-- Settles O43: each command passes its checks and stages its fields (`State.stageFor`), or is refused by the first check that fails. -/
theorem settingsOfR38AreStagedForABoundary : Obligations.SettingsOfR38AreStagedForABoundary := by
  refine ⟨fun c s h hs hv => ?_, fun c s h hv => ?_, fun c n s h hn h1 hlt ho => ?_, fun c n s h hn hlt h11 h12 ho hm ok z0 z8 shares => ?_, fun c p s h hr hp => ?_,
    fun c p s h hr hp h0 hne => ?_, fun c s h hs => ?_, fun c s h hs hv => ?_, fun c s h hv => ?_, fun c s h hf => ?_, fun c st s h hr => poolCreate_refused h hr⟩
  · obtain ⟨self, other⟩ := s.stageFor_one c.id .plain stEpochLen (dw11 c)
    refine ⟨_, execEpochLength_manager h, ?_⟩
    rw [if_neg (by simp [hs]), State.check_of (by simpa using hv)]
    exact ⟨self, other, s.stageFor_armed .., s.stageFor_waiting .., s.stageFor_rest ..⟩
  · obtain ⟨self, other⟩ := s.stageFor_one c.id .plain stRebuildShare (dw11 c)
    refine ⟨_, execRebuildShare_manager h, ?_⟩
    rw [State.check_of (by simpa using hv)]
    exact ⟨self, other, s.stageFor_armed .., s.stageFor_waiting .., s.stageFor_rest ..⟩
  · subst hn
    have tid : dw11 c % 65536 = dw11 c := Nat.mod_eq_of_lt hlt
    have high : field (dw11 c) 31 16 = 0 := by
      simp only [field]
      omega
    obtain ⟨bw, iops, other⟩ := s.stageFor_two c.id .plain (k := stTenant (dw11 c) 288) (j := stTenant (dw11 c) 292) (v := dw12 c) (w := dw13 c) (by simp [stTenant])
    refine ⟨_, execTenantQos_manager h, ?_⟩
    rw [tid, State.check_of (by simp [high, ho]; omega)]
    exact ⟨bw, iops, other, s.stageFor_armed .., s.stageFor_waiting .., s.stageFor_rest ..⟩
  · subst hn
    obtain ⟨ten, banks, lanes⟩ := s.resources_staged (dw10 c) c.buf c.id (.resources (dw10 c) (tenParams c.buf).flags (tenParams c.buf).maxScans)
    refine ⟨_, ⟨c.id, _, _, _⟩, execResources_accepted h hlt h11 h12 ho hm ok z0 z8 shares, ten, banks, lanes, s.stageFor_armed .., s.stageFor_waiting .., rfl, rfl, rfl,
      s.stageFor_rest ..⟩
  · subst hp
    obtain ⟨self, other⟩ := s.stageFor_one c.id (.poolCreate (dw10 c / 16 % 4) (poolArgs c.buf).slots ((poolArgs c.buf).logOr 2) (poolArgs c.buf).spare (poolArgs c.buf).flags)
      (stBandWidth (dw10 c / 16 % 4)) (poolArgs c.buf).n
    exact ⟨_, _, poolCmd_accepted h hr, self, other, s.stageFor_armed .., s.stageFor_waiting .., rfl, rfl, rfl, s.stageFor_rest ..⟩
  · subst hp
    have staged : s.poolAct 3 (dw10 c / 16 % 4) (poolArgs c.buf) c.id = _ := if_neg (not_or.mpr ⟨h0, hne⟩)
    have run := (poolCmd_accepted h hr).trans (congrArg _ staged)
    exact ⟨_, _, run, s.setSh_self .., fun k hk => s.setSh_other _ _ _ hk, s.stageFor_armed .., s.stageFor_waiting .., rfl, rfl, rfl, s.stageFor_rest ..⟩
  · exact (execEpochLength_manager h).trans (congrArg _ (if_pos hs))
  · refine (execEpochLength_manager h).trans (congrArg _ ?_)
    rw [if_neg (by simp [hs]), State.check_not (by simpa using hv)]
  · refine (execRebuildShare_manager h).trans (congrArg _ ?_)
    rw [State.check_not (by simpa using hv)]
  · refine (execTenantQos_manager h).trans (congrArg _ ?_)
    rw [State.check_not]
    rcases hf with hf | hf | hf <;> simp [hf]

end Sys2Proof.Machine

namespace Sys2Proof.Machine

/-! ## What an event of a slot and a command to it leave alone -/

/-- An asynchronous event moves its controller and the completions, and nothing outside them. -/
theorem State.aen_io (s : State) (n : Nat) (e : Aen) : s.aen n e = { s with io := (s.aen n e).io } := by
  unfold State.aen
  split <;> rfl

theorem State.aenManagers_io (s : State) (p : Nat) : s.aenManagers p = { s with io := (s.aenManagers p).io } := by
  refine State.Within.each (put := fun s t => { s with io := t.io }) ⟨fun _ => rfl, fun _ _ _ => rfl⟩ (fun s m => ?_) s _
  exact s.aen_io m _

theorem State.aenManagers_slot (s : State) (p k : Nat) : (s.aenManagers p).slot k = s.slot k := by
  rw [State.aenManagers_io]
  rfl

/-- A slot but for its notes of R106: whether its event waits. -/
def Slot.quiet (x : Slot) : Slot := { x with aenOpen := false, aenLate := false }

/-- An event of a slot reaches its registers, the notes of R106 and the events of its controllers. -/
theorem State.slotEvent_rest (s : State) (n bit : Nat) : s.slotEvent n bit = { s with slots := (s.slotEvent n bit).slots, dw := (s.slotEvent n bit).dw, io := (s.slotEvent n bit).io } := by
  simp only [State.slotEvent]
  split
  · split
    · rfl
    · rw [State.aenManagers_io]
      rfl
  · rfl

theorem State.modSlot_quiet {f : Slot → Slot} (h : ∀ x, (f x).quiet = x.quiet) (s : State) (n k : Nat) : ((s.modSlot n f).slot k).quiet = (s.slot k).quiet := by
  by_cases hk : k = n
  · subst hk
    rw [State.modSlot_self, h]
  · rw [State.modSlot_other _ _ _ _ hk]

theorem State.slotEvent_slot (s : State) (n bit k : Nat) : ((s.slotEvent n bit).slot k).quiet = (s.slot k).quiet := by
  simp only [State.slotEvent]
  split
  · split
    · refine State.modSlot_quiet (fun _ => ?_) (s.raise _ _) n k
      rfl
    · rw [State.aenManagers_slot]
      refine State.modSlot_quiet (fun _ => ?_) (s.raise _ _) n k
      rfl
  · rfl

/-- What a slot holds beside the notes of R106 an event leaves as it was. -/
theorem State.slotEvent_same {β : Type} {π : Slot → β} (h : ∀ x : Slot, π x.quiet = π x) (s : State) (n bit k : Nat) : π ((s.slotEvent n bit).slot k) = π (s.slot k) := by
  rw [← h, s.slotEvent_slot, h]

/-- A power-off's slot, for what its event leaves. -/
theorem State.powerDown_rest (s : State) (n : Nat) : s.powerDown n = { s with slots := (s.powerDown n).slots, dw := (s.powerDown n).dw, io := (s.powerDown n).io } := by
  simp only [State.powerDown]
  split
  · rw [State.slotEvent_rest s n 5]
    rfl
  · rfl

theorem State.powerOffDone_slot (s : State) (n : Nat) : ((s.powerOffDone n).slot n).st = (if (s.slot n).st = .draining then .readyRemove else .off) ∧
    ((s.powerOffDone n).slot n).pwren = false := by
  simp only [State.powerOffDone]
  split
  · rw [State.slotEvent_same (π := Slot.st) (fun _ => rfl), State.slotEvent_same (π := Slot.pwren) (fun _ => rfl), State.modSlot_self]
    exact ⟨rfl, by simp [State.powerDown]⟩
  · rw [State.modSlot_self]
    exact ⟨rfl, by simp [State.powerDown]⟩

theorem State.powerOffDone_rest (s : State) (n : Nat) : s.powerOffDone n = { s with slots := (s.powerOffDone n).slots, dw := (s.powerOffDone n).dw, io := (s.powerOffDone n).io } := by
  simp only [State.powerOffDone]
  split
  · rw [State.slotEvent_rest, State.powerDown_rest]
    rfl
  · rw [State.powerDown_rest]
    rfl

/-! ## Commands outstanding -/

theorem look_map_at {α : Type} (l : List (Nat × α)) (f : α → α) (t : Nat) : look (l.map (fun e => if e.1 = t then (e.1, f e.2) else e)) t = (look l t).map f := by
  unfold look
  induction l with
  | nil => rfl
  | cons e l ih =>
    rw [List.map_cons, List.find?_cons, List.find?_cons]
    by_cases h : e.1 = t
    · simp [h]
    · simpa [h] using ih

theorem look_filter_self {α : Type} (l : List (Nat × α)) (t : Nat) : look (l.filter (fun e => e.1 ≠ t)) t = none := by
  simp [look, List.find?_eq_none]

/-- A command that was sent is outstanding or waits. -/
theorem State.send_there (s : State) (n op : Nat) (m : CartCmd) (w : Purpose) (fr : List (Nat × BitVec 36864) := []) :
    ∃ e, (e ∈ ((s.send n op m w fr).slot n).out.map (fun x => x.2) ∨ e ∈ ((s.send n op m w fr).slot n).queue) ∧ e.op = op ∧ e.why = w ∧ ∃ t, e.m = { m with tag := t } := by
  simp only [State.send, State.modSlot_self]
  split
  · refine ⟨{ op := op, m := { m with tag := freeTag (s.slot n) }, why := w, tSlow := s.media.tSlow, frames := fr }, .inl ?_, rfl, rfl, _, rfl⟩
    simp [Slot.issue]
  · refine ⟨{ op := op, m := m, why := w, tSlow := s.media.tSlow, frames := fr }, .inr ?_, rfl, rfl, m.tag, rfl⟩
    unfold Slot.enqueue
    split <;> simp

theorem State.send_other (s : State) (n op : Nat) (m : CartCmd) (w : Purpose) (fr : List (Nat × BitVec 36864)) {k : Nat} (h : k ≠ n) : (s.send n op m w fr).slot k = s.slot k :=
  s.modSlot_other n k _ h

theorem State.send_rest (s : State) (n op : Nat) (m : CartCmd) (w : Purpose) (fr : List (Nat × BitVec 36864)) : s.send n op m w fr = { s with slots := (s.send n op m w fr).slots } := rfl

/-! ## Codewords and timers -/

section
variable {n tag k : Nat} {a b : CwArrival} {o : OutCmd} {s u : State}

/-- An injection draws a free value and changes its slot and its register. -/
theorem State.injected_media (h : s.injected n a = (b, u)) : u.media = s.media := by
  have same : (s.injected n a).2.media = s.media := by
    simp only [State.injected]
    split
    · rfl
    · split <;> rfl
  rw [h] at same
  exact same

/-- A codeword under an outstanding tag goes where its command was sent for. -/
theorem execCodewordArrival_outstanding (hn : n < s.part.slots) (hp : (s.slot n).phase = 5) (ho : (s.slot n).cmdAt tag = some o) (hi : s.injected n a = (b, u)) :
    execCodewordArrival n tag k a s = .next (match o.why with
      | .cw rid => (match s.req? rid with
        | none => u
        | some q => if q.viaRow ∨ k ≠ q.i % 4 then u else (u.arrive n q b).settle)
      | .bufferRead uid => u.bufferWord uid k b
      | _ => u) := by
  have req (rid : Nat) : u.req? rid = s.req? rid := by rw [State.req?, State.req?, State.injected_media hi]
  rw [execCodewordArrival, onSlot_ok hn]
  simp only [hp, ho, hi, req]
  rfl

theorem execTSlowExpiry_outstanding (hn : n < s.part.slots) (ho : (s.slot n).cmdAt tag = some o) : execTSlowExpiry n tag s = .next (
    if ¬(o.op = 0x10 ∨ o.op = 0x20) ∨ o.slowCounted then s
    else ((s.modSlot n (fun x => { x with
      slowCount := x.slowCount + 1, fastProbes := 0
      out := x.out.map (fun e => if e.1 = tag then (e.1, { e.2 with slowCounted := true }) else e) })).setSlow n 0).slowFollows n tag o) := by
  rw [execTSlowExpiry, onSlot_ok hn]
  simp only [ho]

theorem execSlowProbe_slot (hn : n < s.part.slots) : execSlowProbe n s = .next (if (s.slot n).slow = false then s else
    match s.probePlace n with
    | some (pl, page, mode) => s.send n 0x10 { tag := 0, die := pl.die, block := pl.block, page := page, mode := mode, cwMask := 1 } .probe
    | none => s) := onSlot_ok hn

theorem execTFailExpiry_slot (hn : n < s.part.slots) : execTFailExpiry n s = .next (if (s.slot n).offAfterShutdown then s.powerOffDone n
    else if (s.slot n).st.member ∧ (s.slot n).out ≠ [] ∧ (s.slot n).rolling = false then (s.failMember n 0x0A).settle else s) := onSlot_ok hn

/-- A window of the slow ratio ends and the next begins (R222). -/
def State.nextWindow (s : State) (n : Nat) : State :=
  s.modSlot n (fun x => { x with win := (((s.slot n).fastCount, (s.slot n).slowCount) :: (s.slot n).win).take 10, fastCount := 0, slowCount := 0 })

theorem State.nextWindow_slot (s : State) (n : Nat) : ((s.nextWindow n).slot n).win = (((s.slot n).fastCount, (s.slot n).slowCount) :: (s.slot n).win).take 10 ∧
    ((s.nextWindow n).slot n).fastCount = 0 ∧ ((s.nextWindow n).slot n).slowCount = 0 := by
  rw [State.nextWindow, State.modSlot_self]
  exact ⟨rfl, rfl, rfl⟩

theorem execSlowRatioCheck_slot (hn : n < s.part.slots) : execSlowRatioCheck n s = .next (
    let w := (((s.slot n).fastCount, (s.slot n).slowCount) :: (s.slot n).win).take 10
    if (s.slot n).st.member ∧ 200 ≤ (w.map (fun e => e.1)).sum + (w.map (fun e => e.2)).sum ∧
      s.media.slowPct * ((w.map (fun e => e.1)).sum + (w.map (fun e => e.2)).sum) < (w.map (fun e => e.2)).sum * 100 then
      match (s.nextWindow n).withheld n with
      | some m => (s.nextWindow n).log 0x0509 [n, m]
      | none => ((s.nextWindow n).failMember n 0x0B).settle
    else s.nextWindow n) := onSlot_ok hn

end

/-- Settles O30: each timer and each codeword acts on the slot and the command it is for (`execCodewordArrival_outstanding`, `execTSlowExpiry_outstanding`). -/
theorem memberTimersAndCodewordsAct : Obligations.MemberTimersAndCodewordsAct := by
  refine ⟨fun n tag k rid a b o q u s hn hp ho hw hq hv hk hi => ?_, fun n tag k uid a b o u s hn hp ho hw hi => ?_, fun n tag k a b o u s hn hp ho hw hi => ?_,
    fun n tag o s hn ho hop hs => ?_, fun n tag o s hn ho h => ?_, fun n page mode pl s hn hs hpl => ?_, fun n p s hn h0 hm hout hr hpool => ?_, fun n s hn h => ?_,
    fun n s hn hm => ?_, fun n w s hn hm hw => ?_, fun p n v s hn hr hm => ?_, fun p n v s hn hr hm => ?_⟩
  · refine (execCodewordArrival_outstanding hn hp ho hi).trans (congrArg _ ?_)
    simp only [hw, hq]
    rw [if_neg (by simp [hv, hk])]
  · refine (execCodewordArrival_outstanding hn hp ho hi).trans (congrArg _ ?_)
    simp only [hw]
  · refine (execCodewordArrival_outstanding hn hp ho hi).trans (congrArg _ ?_)
    simp only [hw]
  · refine ⟨_, (execTSlowExpiry_outstanding hn ho).trans (congrArg _ (if_neg (by simp [hop, hs]))), ?_, ?_, fun k hk => s.modSlot_other n k _ hk, rfl⟩
    · rw [State.modSlot_self]
      exact (look_map_at _ (fun o => { o with slowCounted := true }) _).trans (congrArg (Option.map _) ho)
    · rw [State.modSlot_self]
  · exact (execTSlowExpiry_outstanding hn ho).trans (congrArg _ (if_pos (by rcases h with h | h <;> simp [h])))
  · refine ⟨s.send n 0x10 { tag := 0, die := pl.die, block := pl.block, page := page, mode := mode, cwMask := 1 } .probe, ?_, ?_,
      fun k hk => s.send_other n _ _ _ _ hk, rfl⟩
    · refine (execSlowProbe_slot hn).trans ?_
      simp only [hs, hpl]
      rfl
    · obtain ⟨e, there, op, why, t, m⟩ := s.send_there n 0x10 { tag := 0, die := pl.die, block := pl.block, page := page, mode := mode, cwMask := 1 } .probe
      exact ⟨e, there, op, why, by rw [m], by rw [m], by rw [m], by rw [m]⟩
  · refine (execTFailExpiry_slot hn).trans (congrArg _ ?_)
    rw [if_neg (by simp [h0]), if_pos ⟨hm, hout, hr⟩]
  · obtain ⟨st, pwren⟩ := s.powerOffDone_slot n
    exact ⟨_, (execTFailExpiry_slot hn).trans (congrArg _ (if_pos h)), st, pwren, s.powerOffDone_rest n⟩
  · obtain ⟨win, fast, slow⟩ := s.nextWindow_slot n
    refine ⟨s.nextWindow n, (execSlowRatioCheck_slot hn).trans (congrArg _ ?_), win, fast, slow, fun k hk => s.modSlot_other n k _ hk, rfl⟩
    exact if_neg (by simp [hm])
  · obtain ⟨win, fast, slow⟩ := s.nextWindow_slot n
    refine ⟨s.nextWindow n, win.trans hw.symm, fast, slow, fun k hk => s.modSlot_other n k _ hk, rfl, ?_⟩
    refine (execSlowRatioCheck_slot hn).trans (congrArg _ ?_)
    simp only [hm, true_and, List.sum_map_add, hw] <;> rfl
  · exact ⟨_, (if_neg (by omega)).trans ((winWrite_ok hr).trans (congrArg _ (if_pos hm))), s.setReg_self _ _, fun o ho => s.setReg_other _ _ _ ho, rfl⟩
  · exact (if_neg (by omega)).trans ((winWrite_ok hr).trans (congrArg _ (if_neg hm)))

end Sys2Proof.Machine

/-! ## O35: a Flush of a command whose identifier a read request still names -/

namespace Sys2Proof.Machine

/-- A Flush of every namespace. -/
def flushAll : Cmd := { id := ⟨0, 1, 5⟩, nsid := 0xFFFFFFFF }

/-- A codeword request that still serves a host command with the identifier of `flushAll`. -/
def leftRequest : CwReq := { rid := 1, band := 1, wl := 0, mp := 0, i := 0, wants := [.host ⟨0, 1, 5⟩ 7] }

/-- A unit whose firmware runs, its PF0 controller ready and tenant 0 with tokens: no command is in the pipeline, but `leftRequest` is outstanding. -/
def leftRequestState : State :=
  { pwr := { phase := .run, porst := true, perst := false }
    fw := { version := 7 }
    media := { reqs := [leftRequest] }
    io := { ctrls := [(0, { exist := true, kind := .pf0, en := true, rdy := true })], tok := [((0, 0), 1), ((1, 0), 1), ((2, 0), 1)] } }

/-- The readers of the codeword requests that an outcome leaves. -/
def wantsAfter : Out → List (List Want)
  | .next t => t.media.reqs.map CwReq.wants
  | _ => []

theorem leftRequestState_free : leftRequestState.freeFor 0 flushAll = true := by decide +kernel

/-- The end of the Flush takes its identifier out of every request's readers (`State.dropWants`). -/
theorem wantsAfter_flush : wantsAfter (exec (.flush flushAll) leftRequestState) = [[]] := by decide +kernel

/-- Refutes O35: `freeFor` asks for no command in the pipeline, but not for no codeword request. Where a request still names the Flush's identifier as a
reader, the end of the Flush drops that reader (`dropWants`), so the media part is not as it was. -/
theorem not_blockCommandsGetTheirLocksAndStaging : ¬ Obligations.BlockCommandsGetTheirLocksAndStaging := by
  unfold Obligations.BlockCommandsGetTheirLocksAndStaging
  intro ⟨_, _, _, flush, _⟩
  obtain ⟨t, next, _, media, _⟩ := flush flushAll leftRequestState leftRequestState_free rfl
  have after := wantsAfter_flush
  rw [next] at after
  have before : t.media.reqs.map CwReq.wants = [[.host ⟨0, 1, 5⟩ 7]] := by rw [media]; rfl
  exact absurd (after.symm.trans before) (by decide)

end Sys2Proof.Machine

namespace Sys2Proof.Machine

/-! ## Commands in the pipeline -/

theorem State.flight?_id {s : State} {id : CmdId} {f : Flight} (h : s.flight? id = some f) : f.c.id = id := by
  simpa using List.find?_some h

/-- A map over the flights that keeps identifiers keeps what is found, mapped. -/
theorem find_map_flights (l : List Flight) (id : CmdId) {k : Flight → Flight} (hk : ∀ f, (k f).c = f.c) :
    (l.map k).find? (fun f => f.c.id = id) = (l.find? (fun f => f.c.id = id)).map k := by
  rw [List.find?_map]
  simp [hk]

theorem State.flight?_modFlight {s : State} {id : CmdId} {f : Flight} (h : s.flight? id = some f) {k : Flight → Flight} (hk : ∀ f, (k f).c = f.c) :
    (s.modFlight id k).flight? id = some (k f) := by
  refine (find_map_flights _ _ (fun f => ?_)).trans ?_
  · split
    · exact hk f
    · rfl
  · change Option.map _ (s.flight? id) = _
    rw [h, Option.map_some, if_pos (State.flight?_id h)]

theorem State.finish_undrained {s : State} {id : CmdId} {f : Flight} (h : s.flight? id = some f) (hs : f.stage ≠ .drained) (st : Status) (a : Nat) (d : List Byte) :
    s.finish id st a d = ((s.dropRefs id).dropWants id).post id st a 0 d := by
  simp only [State.finish, h, hs, if_false]

theorem State.dropWants_of_no_reqs {s : State} (h : s.media.reqs = []) (id : CmdId) : s.dropWants id = s :=
  congrArg (fun r => { s with media := { s.media with reqs := r } }) ((congrArg (List.map _) h).trans h.symm)

theorem State.dropRefs_of_no_refs {s : State} {id : CmdId} {f : Flight} (h : s.flight? id = some f) (hr : f.refs = []) :
    s.dropRefs id = s.modFlight id (fun f => { f with refs := [] }) := by
  simp only [State.dropRefs, h, hr, State.each_nil]

/-- A command that holds no band and for which nothing is on its way only leaves the pipeline. -/
theorem State.finish_quiet {s : State} {id : CmdId} {f : Flight} (h : s.flight? id = some f) (hs : f.stage ≠ .drained) (hr : f.refs = []) (hq : s.media.reqs = [])
    (st : Status) (a : Nat) (d : List Byte) : ∃ t, s.finish id st a d = t ∧ t.lastAnswer = some (id, st) ∧ t = { s with io := t.io } := by
  refine ⟨_, State.finish_undrained h hs st a d, State.post_lastAnswer _ _ _ _ _ _, ?_⟩
  rw [State.dropRefs_of_no_refs h hr, State.dropWants_of_no_reqs (id := id) (s := s.modFlight id (fun f => { f with refs := [] })) hq]
  rfl

/-! ## A command that finds nothing in its way (R287) -/

/-- The flight with which a command enters the pipeline. -/
def State.entry (s : State) (op : Nat) (c : Cmd) : Flight :=
  { op := op, c := c, tenant := (s.ctrl c.id.ctrl).tenant, stage := .held 3, ord := s.io.order }

/-- What `freeFor` says, part by part, as far as a command that carries no data needs it. -/
theorem freeFor_parts {op : Nat} {c : Cmd} {s : State} (h : s.freeFor op c = true) :
    s.accepts c = true ∧ s.pwr.sleep = .active ∧ (s.ctrl c.id.ctrl).ps = 0 ∧ ((s.ctrl c.id.ctrl).authReq && !(s.ctrl c.id.ctrl).authed) = false ∧
      s.localNs c = c ∧ s.stage2 op c = none ∧ s.stage3 op c = none ∧ s.io.flights = [] ∧ s.io.paused = false ∧ s.nsHeld c = false ∧
      s.canTakeTok 2 (s.ctrl c.id.ctrl).tenant 1 = true := by
  simp only [State.freeFor, Bool.and_eq_true, decide_eq_true_eq, Option.isNone_iff_eq_none, List.isEmpty_iff] at h
  obtain ⟨⟨⟨⟨⟨⟨⟨⟨⟨⟨⟨⟨⟨⟨⟨⟨takes, active⟩, ps⟩, auth⟩, kind⟩, two⟩, three⟩, flights⟩, -⟩, -⟩, paused⟩, san⟩, jobs⟩, tok⟩, -⟩, -⟩, -⟩ := h
  refine ⟨takes, active, ps, ?_, ?_, two, three, flights, by simpa using paused, ?_, tok⟩
  · revert auth
    cases (s.ctrl c.id.ctrl).authReq <;> simp
  · unfold State.localNs
    split
    next k hk => simp [hk] at kind
    next => rfl
  · have quiet : ∀ x, s.ns? c.nsid = some x → x.job = 0 := fun x hx => by simpa using List.all_eq_true.mp jobs x (List.mem_of_find?_eq_some hx)
    cases hx : s.ns? c.nsid with
    | none => simp [State.nsHeld, san, hx]
    | some x => simp [State.nsHeld, san, hx, quiet x hx]

theorem State.intake_free {op : Nat} {c : Cmd} {s : State} (h : s.freeFor op c = true) :
    (s.cmdArrives c).intake op c = { s with io.flights := [s.entry op c], io.order := s.io.order + 1 } := by
  obtain ⟨-, active, ps, auth, ns, two, three, flights, -, -, -⟩ := freeFor_parts h
  rw [show s.cmdArrives c = s from if_pos ⟨active, ps⟩]
  simp only [State.intake, ns, auth, two, three, flights, List.nil_append]
  rfl

theorem State.admitTok_of_no_data {s : State} {f : Flight} (hb : bwCost f.op f.c = none) (ht : s.canTakeTok 2 f.tenant 1 = true) :
    s.admitTok f = some (s.charge 2 f.tenant 1) := by
  simp [State.admitTok, hb, ht]

theorem State.charge_rest (s : State) (c t k : Nat) : s.charge c t k = { s with io := (s.charge c t k).io } := by
  unfold State.charge
  dsimp only
  split <;> rfl

theorem State.charge_flights (s : State) (c t k : Nat) : (s.charge c t k).io.flights = s.io.flights := by
  unfold State.charge
  dsimp only
  split <;> rfl

/-- A command with none before it meets no barrier. -/
theorem State.barrierOk_of_first {s : State} {f g : Flight} {l : List Flight} (h : s.io.flights = g :: l) (hg : g.c.id = f.c.id) : s.barrierOk f = true := by
  simp [State.barrierOk, h, hg]

theorem State.holdAt_of_elsewhere {s : State} {id : CmdId} {f : Flight} {n : Nat} (h : s.flight? id = some f) (hs : f.stage ≠ .held n) :
    s.holdAt id n = ({ s with io.order := s.io.order + 1 } : State).modFlight id (fun f => { f with stage := .held n, ord := s.io.order }) := by
  simp [State.holdAt, h, hs]

theorem State.flight?_holdAt {s : State} {id : CmdId} {f : Flight} {n : Nat} (h : s.flight? id = some f) (hs : f.stage ≠ .held n) :
    (s.holdAt id n).flight? id = some { f with stage := .held n, ord := s.io.order } := by
  rw [State.holdAt_of_elsewhere h hs]
  exact State.flight?_modFlight (s := { s with io.order := s.io.order + 1 }) h (k := fun f => { f with stage := .held n, ord := s.io.order }) (fun _ => rfl)

theorem State.holdAt_rest (s : State) (id : CmdId) (n : Nat) : s.holdAt id n = { s with io := (s.holdAt id n).io } := by
  unfold State.holdAt
  dsimp only
  split <;> rfl

/-- A command at stage 3 that is no write, with its tokens, reaches stage 6. -/
theorem State.toStage6_admitted {s t : State} {id : CmdId} {f : Flight} (h : s.flight? id = some f) (hs : f.stage = .held 3) (hw : f.op ≠ 1 ∧ f.op ≠ 8)
    (free : s.nsHeld f.c = false) (run : s.io.paused = false) (active : s.pwr.sleep = .active) (ht : s.admitTok f = some t) :
    s.toStage6 id = (let t := t.modFlight id (fun f => { f with seq := 0, guarS := t.guar f.tenant 264 32768, guarL := t.guar f.tenant 268 63488 })
      if t.barrierOk f then (true, t.holdAt id 6) else (false, t.holdAt id 5)) := by
  simp [State.toStage6, h, hs, hw, free, run, active, ht]

/-- A command of neither bandwidth class that is no write passes to stage 6 with its command token charged, and nothing but the pipeline and the tokens moves. -/
theorem State.toStage6_free {op : Nat} {c : Cmd} {s : State} (h : s.freeFor op c = true) (hop : op ≠ 1 ∧ op ≠ 2 ∧ op ≠ 5 ∧ op ≠ 8) :
    ∃ u g, ((s.cmdArrives c).intake op c).toStage6 c.id = (true, u) ∧ u.flight? c.id = some g ∧ g.op = op ∧ g.c = c ∧ g.stage = .held 6 ∧ g.refs = [] ∧ u = { s with io := u.io } := by
  obtain ⟨-, active, -, -, -, -, -, -, paused, held, tok⟩ := freeFor_parts h
  rw [State.intake_free h]
  set v : State := { s with io.flights := [s.entry op c], io.order := s.io.order + 1 } with hv
  have found : v.flight? c.id = some (s.entry op c) := by simp [State.flight?, hv, State.entry]
  have charged : v.admitTok (s.entry op c) = some (v.charge 2 (s.entry op c).tenant 1) :=
    State.admitTok_of_no_data (by simp [bwCost, State.entry, hop]) tok
  rw [State.toStage6_admitted found rfl ⟨hop.1, hop.2.2.2⟩ held paused active charged]
  set w : State := v.charge 2 (s.entry op c).tenant 1
  have flights : w.io.flights = [s.entry op c] := v.charge_flights _ _ _
  have there : w.flight? c.id = some (s.entry op c) := by simp [State.flight?, flights, State.entry]
  have rest : w = { s with io := w.io } := v.charge_rest _ _ _
  set k : Flight → Flight := fun f => { f with seq := 0, guarS := w.guar f.tenant 264 32768, guarL := w.guar f.tenant 268 63488 }
  have moved : (w.modFlight c.id k).flight? c.id = some (k (s.entry op c)) := State.flight?_modFlight there (fun _ => rfl)
  have first : (w.modFlight c.id k).barrierOk (s.entry op c) = true :=
    State.barrierOk_of_first (g := k (s.entry op c)) (l := []) (by simp [State.modFlight, flights, State.entry]) rfl
  refine ⟨(w.modFlight c.id k).holdAt c.id 6, _, if_pos first, State.flight?_holdAt moved (by simp [k, State.entry]), rfl, rfl, rfl, rfl, ?_⟩
  calc (w.modFlight c.id k).holdAt c.id 6
    _ = { w with io := ((w.modFlight c.id k).holdAt c.id 6).io } := State.holdAt_rest _ _ _
    _ = { s with io := ((w.modFlight c.id k).holdAt c.id 6).io } := by rw [rest]

/-- A placement command that finds nothing in its way runs at stage 6 (R160, R161). -/
theorem exec_placement_free {op : Nat} {i : Instr} {c : Cmd} {x : Ns} {s : State} (hi : (op, i) ∈ [(0x12, Instr.ioManagementReceive c), (0x1D, .ioManagementSend c)])
    (h : s.freeFor op c = true) (hx : s.ns? c.nsid = some x) :
    ∃ (u : State) (g : Flight), exec i s = .next (if op = 0x12 then u.ioReceive c x else u.ioSend c x) ∧ u.flight? c.id = some g ∧ g.stage = .held 6 ∧
      g.refs = [] ∧ u = { s with io := u.io } := by
  have hop : op ≠ 1 ∧ op ≠ 2 ∧ op ≠ 5 ∧ op ≠ 8 := by
    simp only [List.mem_cons, Prod.mk.injEq, List.not_mem_nil, or_false] at hi
    omega
  obtain ⟨takes, -⟩ := freeFor_parts h
  obtain ⟨u, g, passed, there, gop, gc, gs, gr, rest⟩ := State.toStage6_free h hop
  have ns : u.ns? c.nsid = some x := by rw [rest]; exact hx
  have ran : ((s.cmdArrives c).intake op c).runPlacement c.id = if op = 0x12 then u.ioReceive c x else u.ioSend c x := by
    simp only [State.runPlacement, passed, there, gc, gop, ns]
  refine ⟨u, g, ?_, there, gs, gr, rest⟩
  rw [← ran]
  simp only [List.mem_cons, Prod.mk.injEq, List.not_mem_nil, or_false] at hi
  obtain ⟨rfl, rfl⟩ | ⟨rfl, rfl⟩ := hi
  · exact if_neg (by simp [takes])
  · exact if_neg (by simp [takes])

/-- The identifiers and flights stay where handles leave their units. -/
theorem State.dropHandle_io (s : State) (p h : Nat) : (s.dropHandle p h).io = s.io := by
  unfold State.dropHandle
  split <;> rfl

/-- `t` holds another media state and another I/O state. -/
def putMediaIo (s t : State) : State := { s with media := t.media, io := t.io }

theorem frames_putMediaIo : Frames putMediaIo := ⟨fun _ => rfl, fun _ _ _ => rfl⟩

theorem State.dropHandle_rest (s : State) (p h : Nat) : s.Within putMediaIo (s.dropHandle p h) := by
  unfold State.dropHandle
  split <;> rfl

theorem State.modBand_rest (s : State) (b : Nat) (f : Band → Band) : s.Within putMediaIo (s.modBand b f) := rfl

theorem State.dropRefs_rest (s : State) (id : CmdId) : s.Within putMediaIo (s.dropRefs id) := by
  unfold State.dropRefs
  split
  · exact (frames_putMediaIo.1 s).symm
  next f _ =>
    refine State.Within.trans frames_putMediaIo (State.Within.each frames_putMediaIo (fun s b => s.modBand_rest b (fun x => { x with refs := x.refs - 1 })) s f.refs) ?_
    rfl

/-- The end of a command that has not been drained is its answer, and moves nothing but media and I/O state. -/
theorem State.finish_answers {s : State} {id : CmdId} {f : Flight} (h : s.flight? id = some f) (hs : f.stage ≠ .drained) (st : Status) (a : Nat) (d : List Byte) :
    (s.finish id st a d).lastAnswer = some (id, st) ∧ s.Within putMediaIo (s.finish id st a d) := by
  rw [State.finish_undrained h hs]
  refine ⟨State.post_lastAnswer _ _ _ _ _ _, State.Within.trans frames_putMediaIo (s.dropRefs_rest id) ?_⟩
  rfl

theorem exec_ioManagementReceive_free {c : Cmd} {x : Ns} {s : State} (h : s.freeFor 0x12 c = true) (hx : s.ns? c.nsid = some x) (hf : x.flags.testBit 0 = true)
    (hd : dw10 c % 256 = 1) (hq : s.media.reqs = []) :
    ∃ t, exec (.ioManagementReceive c) s = .next t ∧ t.lastAnswer = some (c.id, .success) ∧ t = { s with io := t.io } := by
  obtain ⟨u, g, ran, there, gs, gr, rest⟩ := exec_placement_free (op := 0x12) (i := .ioManagementReceive c) (by simp) h hx
  have hq' : u.media.reqs = [] := by rw [rest]; exact hq
  obtain ⟨t, done, answer, frame⟩ := State.finish_quiet there (by simp [gs]) gr hq' .success 0
    ((pageOf 16 [(14, 2, x.handles)] ++ (List.range x.handles).flatMap (u.ruhEntry x)).take (4 * (dw11 c + 1)))
  refine ⟨t, ?_, answer, ?_⟩
  · rw [ran, if_pos rfl, ← done]
    exact congrArg _ (if_neg (by simp [hf, hd]))
  · rw [frame, rest]

theorem exec_ioManagementSend_free {c : Cmd} {x : Ns} {s : State} (h : s.freeFor 0x1D c = true) (hx : s.ns? c.nsid = some x) (hf : x.flags.testBit 0 = true)
    (hd : dw10 c % 256 = 1) (hh : ∀ i ≤ dw10 c / 65536, leAt c.buf (2 * i) 2 < x.handles) :
    ∃ t, exec (.ioManagementSend c) s = .next t ∧ t.lastAnswer = some (c.id, .success) ∧ t = { s with io := t.io, media := t.media } := by
  obtain ⟨u, g, ran, there, gs, -, rest⟩ := exec_placement_free (op := 0x1D) (i := .ioManagementSend c) (by simp) h hx
  set hs := (List.range (dw10 c / 65536 + 1)).map (fun i => leAt c.buf (2 * i) 2) with hhs
  have within : hs.any (fun h => h ≥ x.handles) = false := by
    simp only [hhs, List.any_map, List.any_eq_false, List.mem_range, Function.comp_apply, decide_eq_true_eq, not_le]
    exact fun i hi => hh i (by omega)
  set v := u.each hs (fun s h => s.dropHandle x.pool h)
  have there' : v.flight? c.id = some g := by
    rw [← there]
    exact congrArg (fun io => io.flights.find? (fun f => f.c.id = c.id)) (State.each_same (fun s h => s.dropHandle_io x.pool h) u hs)
  obtain ⟨answer, frame⟩ := State.finish_answers there' (by simp [gs]) .success 0 []
  refine ⟨v.finish c.id .success, ?_, answer, ?_⟩
  · rw [ran, if_neg (by decide)]
    refine congrArg _ (if_neg ?_)
    rintro (b | b | b)
    · simp [hf] at b
    · exact b hd
    · exact absurd (within.symm.trans b) (by decide)
  · have passed : s.Within putMediaIo u := by rw [rest]; rfl
    have left : u.Within putMediaIo v := State.Within.each frames_putMediaIo (fun s h => s.dropHandle_rest x.pool h) u hs
    exact (passed.trans frames_putMediaIo left).trans frames_putMediaIo frame

/-- A Flush at its barrier that no earlier command with ORD holds up completes (R295, R298). -/
theorem exec_barrierPass_flush {id : CmdId} {f : Flight} {s : State} (h : s.flight? id = some f) (hs : f.stage = .held 5) (hop : f.op = 0) (hb : s.barrierOk f = true)
    (hr : f.refs = []) (hq : s.media.reqs = []) :
    ∃ t, exec (.barrierPass id) s = .next t ∧ t.lastAnswer = some (id, .success) ∧ t = { s with io := t.io } := by
  have there : (s.holdAt id 6).flight? id = some { f with stage := .held 6, ord := s.io.order } := State.flight?_holdAt h (by simp [hs])
  have hq' : (s.holdAt id 6).media.reqs = [] := by rw [s.holdAt_rest]; exact hq
  obtain ⟨t, done, answer, frame⟩ := State.finish_quiet there (by simp) hr hq' .success 0 []
  refine ⟨t, ?_, answer, ?_⟩
  · have ran : s.resume id = t := by
      simp [State.resume, State.runBlock, State.toStage6, h, hs, hop, hb, there, done]
    exact (show exec (.barrierPass id) s = .next (s.resume id) by simp only [exec, execBarrierPass, h, hs, if_true]).trans (congrArg _ ran)
  · rw [frame, s.holdAt_rest]

end Sys2Proof.Machine

namespace Sys2Proof.Machine

/-! ## A write with its first staging (R24, R292 to R294) -/

/-- A started write whose data is asked for as far as it holds staging, two granules for each block, the first part at least. -/
def Flight.Staged (f g : Flight) : Prop :=
  g.op = 1 ∧ g.c = f.c ∧ g.stage = .started ∧ g.staged = 2 * max g.asked (min 64 (nlb f.c)) ∧ (g.asked = 0 ∨ min 64 (nlb f.c) ≤ g.asked)

/-- `t` holds other flights and another map cache. -/
def putFlightsMap (s t : State) : State := { s with io.flights := t.io.flights, media.mapCache := t.media.mapCache }

theorem frames_putFlightsMap : Frames putFlightsMap := ⟨fun _ => rfl, fun _ _ _ => rfl⟩

/-- Asking for parts changes the flights only, and asks for no more than it has reserved. -/
theorem State.askParts_staged {id : CmdId} {f : Flight} (n : Nat) {s : State} {g : Flight} (h : s.flight? id = some g) (hg : f.Staged g) :
    ∃ k, (s.askParts id n).flight? id = some k ∧ f.Staged k ∧ s.Within putFlightsMap (s.askParts id n) := by
  induction n generalizing s g with
  | zero => exact ⟨g, h, hg, rfl⟩
  | succ n ih =>
    obtain ⟨op, c, stage, staged, asked⟩ := hg
    simp only [State.askParts, h]
    have pos : 0 < nlb f.c := by simp [nlb]
    have step {k : Flight → Flight} (kc : ∀ f, (k f).c = f.c) (kg : f.Staged (k g)) :
        ∃ j, ((s.modFlight id k).askParts id n).flight? id = some j ∧ f.Staged j ∧
          s.Within putFlightsMap ((s.modFlight id k).askParts id n) := by
      obtain ⟨j, there, sound, rest⟩ := ih (State.flight?_modFlight h kc) kg
      exact ⟨j, there, sound, rest⟩
    split
    · exact ⟨g, h, ⟨op, c, stage, staged, asked⟩, rfl⟩
    next more =>
      simp only [not_or, c] at more
      split
      next first => exact step (fun _ => rfl) ⟨op, c, stage, by simp only [c]; omega, by simp only [c]; omega⟩
      next full =>
        split
        next => exact step (fun _ => rfl) ⟨op, c, stage, by simp only [c] at full ⊢; omega, by simp only [c] at full ⊢; omega⟩
        next => exact ⟨g, h, ⟨op, c, stage, staged, asked⟩, rfl⟩

/-- Stage 8 of a write: it starts, and its map entries are looked up. -/
theorem State.stage8_write {s : State} {id : CmdId} {f : Flight} (h : s.flight? id = some f) (hop : f.op = 1) :
    ∃ g, (s.stage8 id).flight? id = some g ∧ g.op = 1 ∧ g.c = f.c ∧ g.stage = .started ∧ g.staged = f.staged ∧ g.asked = f.asked ∧
      s.Within putFlightsMap (s.stage8 id) := by
  have started := State.flight?_modFlight h (k := fun f => { f with stage := .started }) (fun _ => rfl)
  have notRead : ¬(f.op = 2 ∨ f.op = 5 ∨ f.op = 12) := by omega
  have notZeroes : f.op ≠ 8 := by omega
  simp only [State.stage8, h, notRead, notZeroes, if_false]
  split
  next x hx =>
    simp only [State.useMap, started]
    exact ⟨_, State.flight?_modFlight (s := { s.modFlight id (fun f => { f with stage := .started }) with media.mapCache := _ }) started
      (k := fun f => { f with mapMiss := _ }) (fun _ => rfl), hop, rfl, rfl, rfl, rfl, rfl⟩
  next => exact ⟨_, started, hop, rfl, rfl, rfl, rfl, rfl⟩

/-- Stage 7 of a write that waits there, has the staging for its first part and is the first of its tenant to wait. -/
theorem State.stage7_write {s : State} {id : CmdId} {f : Flight} (h : s.flight? id = some f) (hop : f.op = 1) (hs : f.stage = .held 7) (first : s.firstAt f 7 = true)
    (room : s.stagingFor f (s.stagingNeed f) = true) (ha : f.asked = 0) :
    ∃ g, (s.stage7 id).flight? id = some g ∧ f.Staged g ∧
      s.Within putFlightsMap (s.stage7 id) := by
  have waits : s.holdAt id 7 = s := by simp [State.holdAt, h, hs]
  have notDsm : f.op ≠ 9 := by omega
  simp only [State.stage7, h, notDsm, waits, room, Option.any_some, first, and_self, if_true, if_false]
  have given := State.flight?_modFlight h (k := fun f => { f with staged := s.stagingNeed f }) (fun _ => rfl)
  obtain ⟨g, there, op, c, stage, staged, asked, rest⟩ := State.stage8_write given hop
  have sound : f.Staged g := ⟨op, c, stage, by rw [staged, asked]; simp [State.stagingNeed, hop, ha], Or.inl (asked.trans ha)⟩
  obtain ⟨k, there', sound', rest'⟩ := State.askParts_staged 9 there sound
  have put : s.Within putFlightsMap (s.modFlight id (fun f => { f with staged := s.stagingNeed f })) := rfl
  exact ⟨k, there', sound', (put.trans frames_putFlightsMap rest).trans frames_putFlightsMap rest'⟩

/-! ## A lock that is granted (R293, R294) -/

theorem State.stagingHeld_map (s : State) {k : Flight → Flight} (hk : ∀ f, (k f).tenant = f.tenant ∧ (k f).staged = f.staged) :
    ({ s with io.flights := s.io.flights.map k } : State).stagingHeld = s.stagingHeld := by
  funext t
  simp [State.stagingHeld, List.filter_map, Function.comp_def, hk]

/-- Whether staging is free depends on the I/O state only through what the tenants hold. -/
theorem State.stagingFor_of_held {s t : State} (h : t = { s with io := t.io }) (held : t.stagingHeld = s.stagingHeld) (f : Flight) (n : Nat) :
    t.stagingFor f n = s.stagingFor f n := by
  unfold State.stagingFor
  rw [held, h]
  rfl

/-- A grant marks fall-back reads, and changes nothing else of a flight. -/
theorem State.markHits_flights (s : State) (l : Lock) :
    ∃ k : Flight → Flight, (∀ f, k f = f ∨ k f = { f with hit := true }) ∧ s.markHits l = { s with io.flights := s.io.flights.map k } := by
  unfold State.markHits
  split
  · refine ⟨_, fun f => ?_, rfl⟩
    split
    · exact Or.inr rfl
    · exact Or.inl rfl
  · exact ⟨id, fun f => Or.inl rfl, by rw [List.map_id]⟩

/-- The only lock of the chuck has nothing before it and is granted. -/
theorem State.grantLocks_only {s : State} {id : CmdId} {l : Lock} (h : s.io.locks = [l]) (hl : l.id = id) (hg : l.granted = false) :
    s.grantLocks id = ({ s with io.locks := [{ l with granted := true }] } : State).markHits { l with granted := true } := by
  simp [State.grantLocks, h, hl, hg, conflicts, State.each]

/-- Nothing is granted where every lock of the command has its grant. -/
theorem State.grantLocks_of_granted {s : State} {id : CmdId} {l : Lock} (h : s.io.locks = [l]) (hg : l.granted = true) : s.grantLocks id = s := by
  have : s.grantLocks id = { s with io.locks := s.io.locks } := by
    simp [State.grantLocks, h, hg, State.each]
  exact this

/-- Stage 7 begins with the wait for staging. -/
theorem State.stage7_holdAt {s : State} {id : CmdId} {f : Flight} (h : s.flight? id = some f) (hop : f.op ≠ 9) (hs : f.stage ≠ .held 7) :
    s.stage7 id = (s.holdAt id 7).stage7 id := by
  have there := State.flight?_holdAt h hs
  have again : (s.holdAt id 7).holdAt id 7 = s.holdAt id 7 := by
    conv_lhs => rw [State.holdAt]
    simp [there]
  conv_rhs => rw [State.stage7]
  simp only [there, hop, again, if_false]
  simp only [State.stage7, h, hop, if_false]
  rw [there]
  rfl

theorem State.holdAt_locks (s : State) (id : CmdId) (n : Nat) : (s.holdAt id n).io.locks = s.io.locks := by
  unfold State.holdAt
  dsimp only
  split <;> rfl

theorem State.stagingHeld_holdAt (s : State) (id : CmdId) (n : Nat) : (s.holdAt id n).stagingHeld = s.stagingHeld := by
  unfold State.holdAt
  dsimp only
  split
  · rfl
  · exact State.stagingHeld_map { s with io.order := s.io.order + 1 } (fun f => by split <;> exact ⟨rfl, rfl⟩)

/-- The only command that waits at a stage is the first there. -/
theorem State.firstAt_holdAt {s : State} {id : CmdId} {f e : Flight} {n : Nat} (h : s.flight? id = some f) (hs : f.stage ≠ .held n)
    (alone : ∀ g ∈ s.io.flights, g.stage ≠ .held n) (he : e.c.id = id) : (s.holdAt id n).firstAt e n = true := by
  rw [State.holdAt_of_elsewhere h hs]
  simp only [State.firstAt, State.modFlight, Bool.not_eq_true', List.any_eq_false, List.mem_map]
  rintro _ ⟨g, hg, rfl⟩
  have := alone g hg
  split
  next own => simp [own, he]
  next => simp [this]

/-- `t` holds another I/O state and another map cache. -/
def putIoMap (s t : State) : State := { s with io := t.io, media := { s.media with mapCache := t.media.mapCache } }

theorem frames_putIoMap : Frames putIoMap := ⟨fun _ => rfl, fun _ _ _ => rfl⟩

/-- A write whose lock is the only one gets it, and its staging where it is free and no other command waits for staging. -/
theorem exec_rangeLockGrant_write {id : CmdId} {f : Flight} {l : Lock} {s : State} (h : s.flight? id = some f) (hop : f.op = 1) (hs : f.stage = .held 6) (ha : f.asked = 0)
    (hl : s.io.locks = [l]) (lid : l.id = id) (lg : l.granted = false) (room : s.stagingFor f (s.stagingNeed f) = true) (alone : ∀ g ∈ s.io.flights, g.stage ≠ .held 7) :
    ∃ t g, exec (.rangeLockGrant id) s = .next t ∧ t.io.locks = [{ l with granted := true }] ∧ t.flight? id = some g ∧ f.Staged g ∧
      t = { s with io := t.io, media := { s.media with mapCache := t.media.mapCache } } := by
  have notDsm : f.op ≠ 9 := by omega
  obtain ⟨k, hk, marked⟩ := State.markHits_flights { s with io.locks := [{ l with granted := true }] } { l with granted := true }
  have keep : ∀ g, (k g).c = g.c ∧ (k g).op = g.op ∧ (k g).stage = g.stage ∧ (k g).asked = g.asked ∧ (k g).tenant = g.tenant ∧ (k g).staged = g.staged ∧ (k g).guarS = g.guarS := by
    intro g
    rcases hk g with e | e <;> rw [e] <;> simp
  set v : State := { s with io.locks := [{ l with granted := true }], io.flights := s.io.flights.map k } with hv
  have granted : s.grantLocks id = v := (State.grantLocks_only hl lid lg).trans marked
  have there : v.flight? id = some (k f) := (find_map_flights s.io.flights id (fun g => (keep g).1)).trans (congrArg (Option.map k) h)
  obtain ⟨kc, kop, kstage, kasked, ktenant, kstaged, kguar⟩ := keep f
  have ran : exec (.rangeLockGrant id) s = .next (v.stage7 id) := by
    simp only [exec, execRangeLockGrant, h, notDsm, false_and, hs, if_true, if_false, granted]
    have locked : v.io.locks.any (fun l => l.id = id) = true := by simp [hv, lid]
    have lockGranted : v.io.locks.any (fun l => l.id = id ∧ l.granted) = true := by simp [hv, lid]
    have again : v.grantLocks id = v := State.grantLocks_of_granted (l := { l with granted := true }) rfl rfl
    simp only [State.stage6, there, kop, notDsm, locked, again, lockGranted, if_true, if_false]
  have notYet : (k f).stage ≠ .held 7 := by simp [kstage, hs]
  rw [State.stage7_holdAt there (kop ▸ notDsm) notYet] at ran
  have waiting := State.flight?_holdAt there notYet
  set w := v.holdAt id 7 with hw
  set h7 : Flight := { k f with stage := .held 7, ord := v.io.order }
  have first : w.firstAt h7 7 = true := State.firstAt_holdAt there notYet (fun g hg => by
    obtain ⟨g', hg', rfl⟩ := List.mem_map.mp hg
    rw [(keep g').2.2.1]
    exact alone g' hg') (show (k f).c.id = id from State.flight?_id there)
  have held : w.stagingHeld = s.stagingHeld := calc
    w.stagingHeld = v.stagingHeld := v.stagingHeld_holdAt id 7
    _ = s.stagingHeld := State.stagingHeld_map { s with io.locks := [{ l with granted := true }] } (fun g => ⟨(keep g).2.2.2.2.1, (keep g).2.2.2.2.2.1⟩)
  have rest : w = { s with io := w.io } := v.holdAt_rest id 7
  have need : w.stagingNeed h7 = s.stagingNeed f := by simp [State.stagingNeed, h7, kop, hop, kc]
  have room' : w.stagingFor h7 (w.stagingNeed h7) = true := by
    rw [State.stagingFor_of_held rest held, need, State.stagingFor, show h7.guarS = f.guarS from kguar, show h7.tenant = f.tenant from ktenant]
    exact room
  obtain ⟨g, found, sound, frame⟩ := State.stage7_write waiting (kop.trans hop) rfl first room' (kasked.trans ha)
  refine ⟨w.stage7 id, g, ran, ?_, found, ?_, ?_⟩
  · exact (congrArg (fun t : State => t.io.locks) frame).trans (v.holdAt_locks id 7)
  · simpa only [Flight.Staged, show h7.c = f.c from kc] using sound
  · have put : w.Within putIoMap (w.stage7 id) := by
      unfold State.Within
      rw [frame]
      rfl
    have put' : s.Within putIoMap w := by
      unfold State.Within
      rw [rest]
      rfl
    exact put'.trans frames_putIoMap put

/-! ## Arriving data (R24, R260, R283) -/

/-- Data in order, asked for, of a started write that is not to be voided. -/
theorem execWriteDataArrival_taken {id : CmdId} {f : Flight} {x : Ns} {data : List Block} {pi : List (BitVec 512)} {ok bus : Bool} {s : State} (h : s.flight? id = some f)
    (hx : s.ns? f.c.nsid = some x) (hop : f.op = 1) (hs : f.stage = .started) (hb : f.bad = none) (hv : f.voiding = false) (hlen : f.arrived + data.length ≤ f.asked) :
    exec (.writeDataArrival id f.arrived data pi ok bus) s =
      match (if ok then none else s.digestConn id) with
      | some k => .next ((((s.bump (dwPORT k.port + 0x32C) 1).log 0x0605 [k.port, 1, k.qid]).voidWrite id .transientTransport 2).settle)
      | none =>
        if bus = false then .next (s.voidWrite id .dataTransfer 2).settle
        else match (if pract f.c then none else firstBad x f f.arrived ((List.range data.length).map (fun k => (data.getD k 0, pi.getD k 0)))) with
          | some st => .next (s.voidWrite id st 3).settle
          | none => .next (((if f.arrived = 0 then s.resteer id else s).placeAll id x (madeBlocks x f data pi)).askParts id 9).settle := by
  have taken : ¬(f.op ≠ 1 ∨ f.stage ≠ .started ∨ f.bad.isSome ∨ f.voiding ∨ f.arrived ≠ f.arrived ∨ f.arrived + data.length > f.asked) := by
    simp [hop, hs, hb, hv, hlen]
  simp only [exec, execWriteDataArrival, h, hx, taken, if_false] <;> rfl

/-- Settles O36: each command is taken to its next place through the equations of its stages; a write's staging is followed part by part (`Flight.Staged`). -/
theorem heldBlockCommandsGoOn : Obligations.HeldBlockCommandsGoOn := by
  unfold Obligations.HeldBlockCommandsGoOn
  refine ⟨fun id s h => ?_, fun id f s h hs first => ?_, fun id f s h hs => ?_, fun id f s h hop hs first room ha => ?_, fun id f s h hop hs => ?_, fun id f s h hop hs => ?_,
    fun id f l s h hop hs ha hl lid lg room alone => ?_, fun id f s h hs => ?_, fun id f s h hs hop hb hr hq => exec_barrierPass_flush h hs hop hb hr hq,
    fun id f x data pi s h hx hop hs hb hv hlen good => ?_, fun id f x data pi st s h hx hop hs hb hv hlen hp bad => ?_, fun id f x data pi bus k s h hx hop hs hb hv hlen hk => ?_,
    fun id f x data pi ok s h hx hop hs hb hv hlen hd => ?_, fun id f first data pi ok bus s h out => ?_, fun id f s h hop ready => ?_, fun id f s h hop ready => ?_,
    fun c x s h hx hf hd hq => exec_ioManagementReceive_free h hx hf hd hq, fun c x s h hx hf hd hh => exec_ioManagementSend_free h hx hf hd hh⟩
  · simp only [exec, execStagingReserved, execRangeLockGrant, execBarrierPass, execWriteComplete, h, and_self]
  · simp only [exec, execStagingReserved, h, hs, first, and_self, if_true]
  · simp only [exec, execStagingReserved, h]
    exact if_neg (by rcases hs with e | e <;> simp [e])
  · obtain ⟨g, there, ⟨-, -, started, staged, -⟩, frame⟩ := State.stage7_write h hop hs first room ha
    exact ⟨s.stage7 id, g, by simp only [exec, execStagingReserved, h, hs, first, and_self, if_true], there, started, staged, frame⟩
  · simp only [exec, execRangeLockGrant, h, hop, hs, false_and, if_true, if_false]
  · simp only [exec, execRangeLockGrant, h, hop, hs, and_self, if_true]
  · obtain ⟨t, g, ran, locks, there, ⟨-, -, started, staged, -⟩, frame⟩ := exec_rangeLockGrant_write h hop hs ha hl lid lg room alone
    exact ⟨t, g, ran, locks, there, started, staged, frame⟩
  · simp only [exec, execBarrierPass, h, hs, if_true]
  · rw [execWriteDataArrival_taken h hx hop hs hb hv hlen]
    rcases good with g | g <;> simp only [g, if_true, ite_self, Bool.true_eq_false, if_false]
  · rw [execWriteDataArrival_taken h hx hop hs hb hv hlen]
    simp only [hp, bad, if_true, Bool.true_eq_false, Bool.false_eq_true, if_false]
  · rw [execWriteDataArrival_taken h hx hop hs hb hv hlen]
    simp [hk]
  · rw [execWriteDataArrival_taken h hx hop hs hb hv hlen]
    rcases hd with d | d <;> simp [d]
  · simp only [exec, execWriteDataArrival, h]
    split
    next => rfl
    next => exact if_pos (by simpa only [Option.isSome_iff_ne_none, gt_iff_lt] using out)
  · simp only [exec, execWriteComplete, h, hop, if_true, State.tryWrite, ready]
  · simp [exec, execWriteComplete, h, hop, State.tryWrite, ready]

end Sys2Proof.Machine

namespace Sys2Proof.Machine

/-! ## What follows once programs are final sends no BUFFER_RELEASE -/

/-- The BUFFER_RELEASE commands outstanding at a cartridge. -/
def State.bufferReleases (s : State) (n : Nat) : List (Nat × OutCmd) := (s.slot n).out.filter (fun e => e.2.op = 0x24)

/-- The list of slots names an empty slot, which `Cells.every` would strike from it. -/
def State.namesEmpty (s : State) (k : Nat) : Prop := (k, slot0 k) ∈ s.slots

theorem Cells.mem_of_mem_put {α : Type} [DecidableEq α] {d : Nat → α} {m : Cells α} {k j : Nat} {v : α} (h : (k, d k) ∈ m.put d j v) : (k, d k) ∈ m := by
  have ins {m : Cells α} (hv : v ≠ d j) (h : (k, d k) ∈ m.ins j v) : (k, d k) ∈ m := by
    induction m with
    | nil =>
      simp only [Cells.ins, List.mem_singleton, Prod.mk.injEq] at h
      exact absurd (h.1 ▸ h.2.symm) hv
    | cons e m ih =>
      unfold Cells.ins at h
      split at h
      · rcases List.mem_cons.mp h with new | old
        · exact absurd ((Prod.mk.inj new).1 ▸ (Prod.mk.inj new).2.symm) hv
        · exact old
      · split at h
        · rcases List.mem_cons.mp h with new | old
          · exact absurd ((Prod.mk.inj new).1 ▸ (Prod.mk.inj new).2.symm) hv
          · exact List.mem_cons_of_mem _ old
        · rcases List.mem_cons.mp h with head | tail
          · exact head ▸ List.mem_cons_self
          · exact List.mem_cons_of_mem _ (ih tail)
  unfold Cells.put at h
  split at h
  · exact List.mem_of_mem_filter h
  next hv => exact ins hv h

theorem Cells.not_mem_every {α : Type} [DecidableEq α] {d : Nat → α} {m : Cells α} {k : Nat} {f : Nat → α → α} : (k, d k) ∉ m.every d f := by
  simp [Cells.every]

/-- Where the later state still names an empty slot, so does the earlier one, and the outstanding BUFFER_RELEASEs are the same. -/
structure KeepsReleases (s t : State) : Prop where
  whileNamed : ∀ k, t.namesEmpty k → s.namesEmpty k ∧ t.bufferReleases = s.bufferReleases

namespace KeepsReleases

theorem same {s t : State} (h : t.slots = s.slots) : KeepsReleases s t := ⟨fun k hk => by
  refine ⟨by simpa only [State.namesEmpty, h] using hk, funext fun n => ?_⟩
  simp only [State.bufferReleases, State.slot, h]⟩

theorem refl (s : State) : KeepsReleases s s := .same rfl

/-- Composition, the later operation first. -/
theorem comp {s t u : State} (h : KeepsReleases t u) (k : KeepsReleases s t) : KeepsReleases s u := ⟨fun n hn =>
  have ⟨named, later⟩ := h.whileNamed n hn
  have ⟨first, earlier⟩ := k.whileNamed n named
  ⟨first, later.trans earlier⟩⟩

theorem ite {s t u : State} {c : Prop} [Decidable c] (h : KeepsReleases s t) (k : KeepsReleases s u) : KeepsReleases s (if c then t else u) := by
  split
  · exact h
  · exact k

theorem iteSnd {α : Type} {s : State} {p q : α × State} {c : Prop} [Decidable c] (h : KeepsReleases s p.2) (k : KeepsReleases s q.2) :
    KeepsReleases s (if c then p else q).2 := by
  split
  · exact h
  · exact k

/-- The state of a pair that an operation answers. -/
theorem ofSnd {α : Type} {s t : State} {p : α × State} {a : α} (e : p = (a, t)) (h : KeepsReleases s p.2) : KeepsReleases s t := by
  subst e
  exact h

theorem each {α : Type} {s : State} {l : List α} {f : State → α → State} (h : ∀ t a, KeepsReleases t (f t a)) : KeepsReleases s (s.each l f) := by
  unfold State.each
  induction l generalizing s with
  | nil => exact .refl s
  | cons a l ih => exact .comp ih (h s a)

/-- An update that leaves the slots alone. -/
theorem upd {s : State} {part pending free dw pwr stage seqs shelf ends media io ten host srch ddr efl fw gbk dma lt} :
    KeepsReleases s (State.mk part pending free dw pwr stage s.slots seqs shelf ends media io ten host srch ddr efl fw gbk dma lt) := .same rfl

/-- A change of every slot strikes the empty ones from the list. -/
theorem every {s : State} {f : Nat → Slot → Slot} {part pending free dw pwr stage seqs shelf ends media io ten host srch ddr efl fw gbk dma lt} :
    KeepsReleases s (State.mk part pending free dw pwr stage (s.slots.every slot0 f) seqs shelf ends media io ten host srch ddr efl fw gbk dma lt) :=
  ⟨fun _ hk => absurd hk Cells.not_mem_every⟩

theorem modSlot (s : State) (n : Nat) {f : Slot → Slot} (h : ∀ x, (f x).out.filter (fun e => e.2.op = 0x24) = x.out.filter (fun e => e.2.op = 0x24) := by exact fun _ => rfl) :
    KeepsReleases s (s.modSlot n f) := ⟨fun k hk => by
  refine ⟨Cells.mem_of_mem_put hk, funext fun m => ?_⟩
  by_cases e : m = n
  · subst e
    simp only [State.bufferReleases, State.modSlot_self, h]
  · simp only [State.bufferReleases, s.modSlot_other n m f e]⟩

/-- A command other than BUFFER_RELEASE is sent. -/
theorem send (s : State) (n : Nat) {op : Nat} (m : CartCmd) (why : Purpose) (fr : List (Nat × BitVec 36864)) (h : op ≠ 0x24 := by decide) :
    KeepsReleases s (s.send n op m why fr) := by
  refine modSlot s n (fun x => ?_)
  dsimp only
  split
  · simp [Slot.issue, h]
  · unfold Slot.enqueue
    split <;> rfl

theorem media' (s : State) (n off k : Nat) : KeepsReleases s (s.media' n off k) := by
  unfold State.media'
  split
  · exact modSlot s n
  · exact .same rfl

theorem log (s : State) (code : Nat) (ps : List Nat) : KeepsReleases s (s.log code ps) := by
  obtain ⟨cnt, q, tracked, dropped, since, logged⟩ := s.log_eq code ps
  rw [logged]
  exact .same rfl

theorem took (s : State) : KeepsReleases s s.took := .same rfl
theorem post (s : State) (id : CmdId) (st : Status) (a b : Nat) (d : List Byte) : KeepsReleases s (s.post id st a b d) := .same rfl
theorem bump (s : State) (off n : Nat) : KeepsReleases s (s.bump off n) := .same rfl
theorem modPool (s : State) (n : Nat) (f : Pool → Pool) : KeepsReleases s (s.modPool n f) := .same rfl
theorem modBand (s : State) (n : Nat) (f : Band → Band) : KeepsReleases s (s.modBand n f) := .same rfl

/-! ### Of `Geometry` -/

theorem choose {α : Type} (s : State) (l : List α) : KeepsReleases s (s.choose l).2 := by
  unfold State.choose
  split
  · exact .refl _
  · exact .refl _
  · exact .took _

theorem modNs (s : State) (nsx : Nat) (f : Ns → Ns) : KeepsReleases s (s.modNs nsx f) := .same rfl
theorem modSeg (s : State) (nsx k : Nat) (f : Seg → Seg) : KeepsReleases s (s.modSeg nsx k f) := .same rfl
theorem poolCount (s : State) (p off k : Nat) : KeepsReleases s (s.poolCount p off k) := .same rfl
theorem modBlock (s : State) (p : Place) (f : BlockEnt → BlockEnt) : KeepsReleases s (s.modBlock p f) := .same rfl

theorem pickDie (s : State) (n : Nat) : KeepsReleases s (s.pickDie n).2 := by
  unfold State.pickDie
  exact .choose ..

theorem pickDirty (s : State) (n d : Nat) : KeepsReleases s (s.pickDirty n d).2 := by
  unfold State.pickDirty
  dsimp only
  split
  · exact .refl _
  · exact .choose ..

theorem eraseFor (s : State) (pl : Place) (mode : Nat) (use : BlockSt) : KeepsReleases s (s.eraseFor pl mode use) := by
  unfold State.eraseFor
  exact .comp (.ite (.refl _) (.send ..)) <| .comp (.ite (.modSlot ..) (.refl _)) <| .modBlock ..

theorem takeOn (s : State) (n d mode : Nat) (use : BlockSt) : KeepsReleases s (s.takeOn n d mode use).2 := by
  unfold State.takeOn
  dsimp only
  split
  · dsimp only
    exact .comp (.modBlock ..) <| .choose ..
  · split
    next t e =>
      dsimp only
      exact .comp (.eraseFor ..) <| .ofSnd e <| .comp (.pickDirty ..) <| .choose ..
    next t e =>
      dsimp only
      exact .ofSnd e <| .comp (.pickDirty ..) <| .choose ..

theorem takeBlock (s : State) (n mode : Nat) (use : BlockSt) : KeepsReleases s (s.takeBlock n mode use).2 := by
  unfold State.takeBlock
  split
  next t e => exact .comp (.takeOn ..) <| .ofSnd e <| .pickDie ..
  next t e =>
    dsimp only
    exact .ofSnd e <| .pickDie ..

theorem pickCarts (s : State) (p : Nat) (l : List Nat) (k : Nat) : KeepsReleases s (s.pickCarts p l k).2 := by
  induction k generalizing s l with
  | zero => exact .refl _
  | succ k ih =>
    unfold State.pickCarts
    dsimp only
    split
    · exact .refl _
    · exact .comp (ih ..) <| .took ..

theorem takeEach (s : State) (mode : Nat) (use : BlockSt) (l : List Nat) : KeepsReleases s (s.takeEach mode use l).2 := by
  induction l generalizing s with
  | nil => exact .refl _
  | cons n l ih =>
    unfold State.takeEach
    split
    next t e => exact .comp (ih ..) <| .ofSnd e (.takeBlock ..)
    next t e => exact .comp (ih ..) <| .ofSnd e (.takeBlock ..)

theorem takeSeq (s : State) : KeepsReleases s s.takeSeq.2 := .same rfl
theorem freshId (s : State) : KeepsReleases s s.freshId.2 := .same rfl
theorem modUnit (s : State) (uid : Nat) (f : PUnit → PUnit) : KeepsReleases s (s.modUnit uid f) := .same rfl

/-! ### Of `Media` -/

theorem countRestore (s : State) (u : PUnit) : KeepsReleases s (s.countRestore u) := by
  unfold State.countRestore
  split
  · exact .refl _
  · exact .ite (.refl _) (.ite (.poolCount ..) (.comp (.ite (.refl _) (.comp (.modPool ..) <| .poolCount ..)) <| .comp (.modPool ..) <|
      .poolCount ..))

theorem sendUnit (s : State) (u : PUnit) : KeepsReleases s (s.sendUnit u) := by
  unfold State.sendUnit
  exact .comp (.modUnit ..) <| .comp (.send ..) <| .countRestore ..

theorem pump (s : State) : KeepsReleases s s.pump := by
  unfold State.pump
  refine .each (fun _ _ => ?_)
  split
  · exact .ite (.sendUnit ..) (.refl _)
  · exact .refl _

theorem addUnit (s : State) (kind : UnitKind) (pl : Place) (pwl mode : Nat) (cws : List (Nat × BitVec 32896)) :
    KeepsReleases s (s.addUnit kind pl pwl mode cws).2 := by
  unfold State.addUnit
  exact .comp .upd <| .freshId ..

theorem setRing (s : State) (n : Nat) (r : JRing) : KeepsReleases s (s.setRing n r) := .same rfl
theorem modJ (s : State) (jid : Nat) (f : JRec → JRec) : KeepsReleases s (s.modJ jid f) := .same rfl

theorem issueJournal (s : State) (n : Nat) : KeepsReleases s (s.issueJournal n) := by
  unfold State.issueJournal
  dsimp only
  split
  · exact .refl _
  · refine .ite (.refl _) ?_
    refine .comp (.ite (.setRing ..) (.comp (.setRing ..) <| .modBlock ..)) ?_
    split
    · exact .comp (.poolCount ..) <| .addUnit ..
    · exact .addUnit ..

theorem packJournal (s : State) (n jid fuel k : Nat) : KeepsReleases s (s.packJournal n jid fuel k) := by
  induction fuel generalizing s k with
  | zero => exact .refl _
  | succ fuel ih =>
    cases k with
    | zero => exact .refl _
    | succ k =>
      unfold State.packJournal
      exact .comp (ih ..) <| .comp (.ite (.issueJournal ..) (.refl _)) <| .comp (.modJ ..) <| .setRing ..

theorem newJ (s : State) (b wl pq mask host : Nat) (parity : List (BitVec 32896)) (subst : Bool) :
    KeepsReleases s (s.newJ b wl pq mask host parity subst).2 := by
  unfold State.newJ
  exact .comp (.freshId ..) <| .takeSeq ..

theorem writeJ (s : State) (b wl pq mask host : Nat) (parity : List (BitVec 32896)) (subst : Bool) :
    KeepsReleases s (s.writeJ b wl pq mask host parity subst) := by
  unfold State.writeJ
  dsimp only
  exact .comp (.packJournal ..) <| .comp .upd <| .newJ s b wl pq mask host parity subst

theorem rewriteJ (s : State) (j : JRec) (host : Nat) (subst : Bool) : KeepsReleases s (s.rewriteJ j host subst) := by
  unfold State.rewriteJ
  split
  · exact .writeJ ..
  · exact .ite (.writeJ ..) (.refl _)

theorem ringRoom (s : State) (n : Nat) : KeepsReleases s (s.ringRoom n) := by
  unfold State.ringRoom
  dsimp only
  split
  · exact .comp (.each (fun _ _ => .rewriteJ ..)) <| .comp (.modBlock ..) <| .upd
  · exact .refl _

theorem journalRow (s : State) (b wl : Nat) : KeepsReleases s (s.journalRow b wl) := by
  unfold State.journalRow
  exact .comp (.writeJ ..) <| .comp (.ringRoom ..) <| .comp (.writeJ ..) <| .ringRoom ..

theorem takeUnit (s : State) (bno : Nat) (l : List (Codeword × BitVec 512)) (m : Bool) (k : Nat) : KeepsReleases s (s.takeUnit bno l m k) := by
  unfold State.takeUnit
  exact .comp (.ite (.poolCount ..) (.ite (.poolCount ..) (.comp (.ite (.refl _) (.poolCount ..)) <| .poolCount ..))) <|
      .comp (.ite (.modPool ..) (.refl _)) <| .comp .upd <| .comp (.modBand ..) <| .addUnit ..

theorem finishRow (s : State) (bno wl : Nat) : KeepsReleases s (s.finishRow bno wl) := by
  unfold State.finishRow
  exact .comp (.modBand ..) <| .comp (.poolCount ..) <| .comp (.addUnit ..) <| .addUnit ..

theorem takeUnits (s : State) (bno fuel : Nat) (due : Bool) : KeepsReleases s (s.takeUnits bno fuel due) := by
  induction fuel generalizing s due with
  | zero => exact .ite (.journalRow ..) (.refl _)
  | succ fuel ih =>
    unfold State.takeUnits
    split
    · exact .ite (.journalRow ..) (.refl _)
    · exact .ite (.comp (ih ..) <| .comp (.finishRow ..) <| .takeUnit ..) (.comp (ih ..) <| .takeUnit ..)

theorem advance (s : State) (bno : Nat) : KeepsReleases s (s.advance bno) := by
  unfold State.advance
  exact .comp (.pump ..) <| .takeUnits ..

theorem putAt (s : State) (bno pos : Nat) (cw : Codeword) (slot : BitVec 512) : KeepsReleases s (s.putAt bno pos cw slot) := .same rfl

theorem fillUnit (s : State) (bno : Nat) : KeepsReleases s (s.fillUnit bno) := by
  unfold State.fillUnit
  exact .ite (.refl _) (.comp (.advance ..) <| .each (fun _ _ => .ite (.refl _) (.putAt ..)))

theorem append (s : State) (bno : Nat) (cw : Codeword) (slot : BitVec 512) : KeepsReleases s (s.append bno cw slot).2 := by
  unfold State.append
  exact .comp (.advance ..) <| .comp (.putAt ..) <| .ite (.fillUnit ..) (.refl _)

theorem putRoot (s : State) (p : Nat) (g : RootGen) (k : Then) : KeepsReleases s (s.putRoot p g k) := by
  unfold State.putRoot
  exact .comp (.pump ..) <| .comp .upd <| .comp (.modPool ..) <| .comp (.each (fun _ _ => .each (fun _ _ => .addUnit ..))) <|
      .comp (.each (fun _ _ => .ite (.eraseFor ..) (.refl _))) <| .comp (.each (fun _ _ => .comp (.send ..) <| .modBlock ..)) <|
      .comp (.ite (.refl _) (.modPool ..)) <| .comp (.freshId ..) <| .takeSeq ..

theorem writeRoot (s : State) (p : Nat) (k : Then) : KeepsReleases s (s.writeRoot p k) := by
  unfold State.writeRoot
  exact .putRoot ..

theorem record (s : State) (p typ lba : Nat) (body : List (Nat × Nat × Nat)) (k : Then) : KeepsReleases s (s.record p typ lba body k) := by
  unfold State.record
  dsimp only
  split
  · exact .comp .upd <| .comp (.freshId ..) <| .takeSeq ..
  · exact .comp .upd <| .comp (.append ..) <| .comp (.freshId ..) <| .takeSeq ..

theorem placeRecs (s : State) (p : Nat) : KeepsReleases s (s.placeRecs p) := by
  unfold State.placeRecs
  split
  · exact .refl _
  · exact .each (fun _ _ => .comp .upd <| .append ..)

theorem headerRec (s : State) (bno : Nat) : KeepsReleases s (s.headerRec bno) := by
  unfold State.headerRec
  exact .record ..

theorem openBand (s : State) (p role n nsx seg : Nat) (withMeta : Bool) (prevA prevB : Option Nat) :
    KeepsReleases s (s.openBand p role n nsx seg withMeta prevA prevB).2 := by
  unfold State.openBand
  dsimp only
  refine .iteSnd (.refl _) ?_
  split
  · exact .iteSnd (.refl _) (.comp (.iteSnd (.modPool ..) (.headerRec ..)) <| .comp .upd <| .comp (.modBand ..) <| .comp (.takeSeq ..) <|
      .comp (.takeEach ..) <| .comp (.pickCarts ..) <| .pickCarts ..)
  · exact .refl _

theorem needReg (s : State) (p : Nat) : KeepsReleases s (s.needReg p) := by
  unfold State.needReg
  dsimp only
  refine .ite ?_ (.refl _)
  split
  next t e =>
    refine .comp (.writeRoot ..) <| .comp (.placeRecs ..) ?_
    split
    · exact .comp (.fillUnit ..) <| .ofSnd e <| .openBand ..
    · exact .ofSnd e <| .openBand ..
  next t e => exact .ofSnd e <| .openBand ..

theorem needLog (s : State) (p : Nat) : KeepsReleases s (s.needLog p).2 := by
  unfold State.needLog
  split
  · exact .refl _
  · dsimp only
    split
    next t e =>
      dsimp only
      exact .comp (.modPool ..) <| .ofSnd e <| .comp (.openBand ..) <| .needReg ..
    next t e =>
      dsimp only
      exact .ofSnd e <| .comp (.openBand ..) <| .needReg ..

theorem toLog (s : State) (p : Nat) (cw : Codeword) (slot : BitVec 512) : KeepsReleases s (s.toLog p cw slot).2 := by
  unfold State.toLog
  dsimp only
  split
  next t e => exact .ofSnd e <| .needLog ..
  next t e =>
    refine .comp ?_ (.ofSnd e <| .needLog ..)
    dsimp only
    exact .comp (.ite (.comp (.modPool ..) <| .modBand ..) (.refl _)) <| .append ..

theorem dropLost (s : State) (nsid lo hi : Nat) : KeepsReleases s (s.dropLost nsid lo hi) := by
  unfold State.dropLost
  exact .ite (.refl _) .upd

theorem shaveBlock (s : State) (b : Nat) (pl : Place) : KeepsReleases s (s.shaveBlock b pl) := by
  unfold State.shaveBlock
  exact .ite .upd (.ite (.comp (.send ..) <| .comp (.modBlock ..) <| .media' ..) (.ite (.refl _) (.comp (.modBlock ..) <| .freshId ..)))

theorem shave (s : State) (b : Nat) : KeepsReleases s (s.shave b) := by
  unfold State.shave
  exact .ite (.refl _) (.comp (.each (fun _ _ => .shaveBlock ..)) <| .comp .upd <| .modBand ..)

theorem freeBands (s : State) : KeepsReleases s s.freeBands := by
  unfold State.freeBands
  exact .each fun _ _ => .ite (.refl _) (.same rfl)

theorem modReq (s : State) (rid : Nat) (f : CwReq → CwReq) : KeepsReleases s (s.modReq rid f) := .same rfl

/-! ### Of `Reads` -/

theorem reserve (s : State) (q : CwReq) {t : State} (h : s.reserve q = some t) : KeepsReleases s t := by
  unfold State.reserve at h
  dsimp only at h
  split at h
  · cases h
    exact .refl _
  · split at h
    · split at h
      · cases h
        exact .comp .upd <| .modReq ..
      · cases h
    · split at h
      · cases h
        exact .modReq ..
      · cases h

theorem sendReq (s : State) (q : CwReq) : KeepsReleases s (s.sendReq q) := by
  unfold State.sendReq
  split
  · exact .modReq ..
  next t e => exact .comp (.send ..) <| .comp (.ite (.took ..) (.refl _)) <| .comp (.modReq ..) <| .reserve s q e

theorem sendWaiting (s : State) : KeepsReleases s s.sendWaiting := by
  unfold State.sendWaiting
  exact .each (fun _ _ => .sendReq ..)

theorem newReq (s : State) (b wl mp i cap check : Nat) (expect : Option (Nat × Nat)) (w : Want) :
    KeepsReleases s (s.newReq b wl mp i cap check expect w).2 := by
  unfold State.newReq
  exact .comp .upd <| .freshId ..

theorem askMember (s : State) (b wl m i recon : Nat) : KeepsReleases s (s.askMember b wl m i recon) := by
  unfold State.askMember
  split
  · exact .modReq ..
  · dsimp only
    split
    · exact .comp (.sendReq ..) <| .newReq ..
    · exact .newReq ..

theorem startRecon (s : State) (q : CwReq) (cause : Nat) : KeepsReleases s (s.startRecon q cause) := by
  unfold State.startRecon
  exact .comp (.each (fun _ _ => .askMember ..)) <| .comp (.modReq ..) <| .comp .upd <| .freshId ..

theorem askCw (s : State) (bno wl mp i check : Nat) (expect : Option (Nat × Nat)) (w : Want) :
    KeepsReleases s (s.askCw bno wl mp i check expect w) := by
  unfold State.askCw
  split
  · exact .modReq ..
  · dsimp only
    split
    · exact .newReq ..
    · exact .comp (.ite (.sendReq ..) (.startRecon ..)) <| .newReq ..

theorem askAs (s : State) (bno pos i check : Nat) (expect : Option (Nat × Nat)) (w : Want) : KeepsReleases s (s.askAs bno pos i check expect w) := by
  unfold State.askAs
  exact .askCw ..

theorem askAt (s : State) (bno wl mp i : Nat) (w : Want) : KeepsReleases s (s.askAt bno wl mp i w) := by
  unfold State.askAt
  exact .askCw ..

theorem ask (s : State) (bno pos i nsx lba : Nat) (w : Want) : KeepsReleases s (s.ask bno pos i nsx lba w) := by
  unfold State.ask
  exact .askAs ..

theorem askMeta (s : State) (bno pos : Nat) (w : Want) : KeepsReleases s (s.askMeta bno pos w) := by
  unfold State.askMeta
  exact .askAs ..

theorem modFlight (s : State) (id : CmdId) (f : Flight → Flight) : KeepsReleases s (s.modFlight id f) := .same rfl

theorem dropRefs (s : State) (id : CmdId) : KeepsReleases s (s.dropRefs id) := by
  unfold State.dropRefs
  split
  · exact .refl _
  · exact .comp (.modFlight ..) <| .each (fun _ _ => .modBand ..)

theorem dropWants (s : State) (id : CmdId) : KeepsReleases s (s.dropWants id) := .same rfl

theorem finish (s : State) (id : CmdId) (st : Status) (dw0 : Nat) (data : List Byte) : KeepsReleases s (s.finish id st dw0 data) := by
  unfold State.finish
  split
  · exact .refl _
  · exact .comp (.ite (.ite (.post ..) .upd) (.post ..)) <| .comp (.dropWants ..) <| .dropRefs ..

theorem tryRead (s : State) (id : CmdId) : KeepsReleases s (s.tryRead id) := by
  unfold State.tryRead
  split
  · exact .refl _
  · refine .ite (.refl _) ?_
    split
    · exact .refl _
    · exact .ite (.ite (.comp (.modFlight ..) <| .dropWants ..) (.comp .upd <| .comp (.modFlight ..) <| .comp (.dropWants ..) <|
        .dropRefs ..)) (.ite (.finish ..) (.ite (.finish ..) (.finish ..)))

theorem hostBlock (s : State) (id : CmdId) (lba : Nat) (data : Block) (slot : BitVec 512) (bandNo : Nat) :
    KeepsReleases s (s.hostBlock id lba data slot bandNo) := by
  unfold State.hostBlock
  split
  · exact .refl _
  · split
    · exact .refl _
    · refine .comp (.tryRead ..) ?_
      split
      · exact .comp (.modFlight ..) <| .ite (.log ..) (.refl _)
      · exact .modFlight ..

theorem useMap (s : State) (id : CmdId) (x : Ns) : KeepsReleases s (s.useMap id x) := by
  unfold State.useMap
  split
  · exact .refl _
  · exact .comp (.modFlight ..) <| .upd

theorem readBlock (s : State) (id : CmdId) (x : Ns) (lba : Nat) : KeepsReleases s (s.readBlock id x lba) := by
  unfold State.readBlock
  split
  · exact .hostBlock ..
  · exact .comp (.ite (.askMeta ..) (.refl _)) <| .comp (.ask ..) <| .comp (.modFlight ..) <| .modBand ..

theorem issueRead (s : State) (id : CmdId) : KeepsReleases s (s.issueRead id) := by
  unfold State.issueRead
  split
  · exact .refl _
  · split
    · exact .refl _
    · exact .comp (.tryRead ..) <| .comp (.each (fun _ _ => .readBlock ..)) <| .comp (.useMap ..) <| .modFlight ..

/-! ### Of `Health` -/

theorem moveToLog (s : State) (p : Nat) (l : List (Codeword × BitVec 512)) : KeepsReleases s (s.moveToLog p l) := by
  unfold State.moveToLog
  exact .each (fun _ _ => .ite (.toLog ..) (.refl _))

theorem dropFold (s : State) (bno : Nat) : KeepsReleases s (s.dropFold bno) := by
  unfold State.dropFold
  exact .comp (.shave ..) <| .modSeg ..

theorem closeEarly (s : State) (bno : Nat) : KeepsReleases s (s.closeEarly bno) := by
  unfold State.closeEarly
  exact .ite (.refl _) (.comp (.ite (.needReg ..) (.refl _)) <| .comp (.ite (.refl _) (.moveToLog ..)) <| .comp .upd <|
      .comp (.ite (.modSeg ..) (.refl _)) <| .comp (.modPool ..) <| .comp (.modBand ..) <| .comp (.takeUnits ..) <|
      .comp (.each (fun _ _ => .putAt ..)) <| .comp .upd <| .modBand ..)

theorem takeAmong (s : State) (n mode : Nat) (use : BlockSt) (ds : List Nat) : KeepsReleases s (s.takeAmong n mode use ds).2 := by
  unfold State.takeAmong
  dsimp only
  split
  next t e => exact .comp (.takeOn ..) <| .ofSnd e <| .choose ..
  next t e =>
    dsimp only
    exact .ofSnd e <| .choose ..

theorem takeNear (s : State) (old : Place) (mode : Nat) (use : BlockSt) : KeepsReleases s (s.takeNear old mode use).2 := by
  unfold State.takeNear
  exact .takeAmong ..

theorem takeFar (s : State) (bno : Nat) : KeepsReleases s (s.takeFar bno).2 := by
  unfold State.takeFar
  dsimp only
  split
  next t e => exact .comp (.iteSnd (.takeBlock ..) (.takeAmong ..)) <| .ofSnd e <| .pickCarts ..
  next t e =>
    dsimp only
    exact .ofSnd e <| .pickCarts ..

theorem splitPlace (s : State) (bno : Nat) (old : Place) (away : Bool) : KeepsReleases s (s.splitPlace bno old away).2 := by
  unfold State.splitPlace
  dsimp only
  split
  next t e =>
    dsimp only
    exact .ofSnd e <| .iteSnd (.takeNear ..) (.refl _)
  next t e => exact .comp (.takeFar ..) <| .ofSnd e <| .iteSnd (.takeNear ..) (.refl _)

theorem forget (s : State) (uid : Nat) : KeepsReleases s (s.forget uid) := by
  unfold State.forget
  exact .every

theorem replaceUnit (s : State) (uid : Nat) (pl : Place) (pwl : Nat) : KeepsReleases s (s.replaceUnit uid pl pwl) := by
  unfold State.replaceUnit
  exact .comp (.modUnit ..) <| .forget ..

theorem splitFull (s : State) (bno wl mp : Nat) : KeepsReleases s (s.splitFull bno wl mp) := by
  unfold State.splitFull
  exact .comp (.ite (.moveToLog ..) (.refl _)) <| .comp .upd <| .comp (.modBand ..) <| .comp (.closeEarly ..) <| .comp .upd <|
      .each (fun _ _ => .forget ..)

theorem splitMember (s : State) (bno wl mp : Nat) (away : Bool) : KeepsReleases s (s.splitMember bno wl mp away) := by
  unfold State.splitMember
  dsimp only
  refine .ite (.splitFull ..) ?_
  refine .ite (.comp (.each (fun _ _ => .replaceUnit ..)) <| .comp (.modBand ..) <| .splitPlace ..) ?_
  split
  · exact .comp (.log ..) <| .comp (.ite (.media' ..) (.refl _)) <| .comp (.each (fun _ _ => .replaceUnit ..)) <| .comp (.modBand ..) <|
      .splitPlace ..
  · exact .comp (.log ..) <| .comp (.ite (.media' ..) (.refl _)) <| .comp (.each (fun _ _ => .replaceUnit ..)) <| .comp (.modBand ..) <|
      .splitPlace ..

theorem abandon (s : State) (p : PUnit → Bool) : KeepsReleases s (s.abandon p) := by
  unfold State.abandon
  exact .comp (.each (fun _ _ => .modBlock ..)) <| .comp .upd <| .each (fun _ _ => .forget ..)

theorem replaceStuck (s : State) : KeepsReleases s s.replaceStuck := by
  unfold State.replaceStuck
  refine .each (fun _ _ => ?_)
  split
  · exact .refl _
  · split
    · exact .refl _
    · exact .ite (.splitMember ..) (.ite (.abandon ..) (.refl _))

theorem recompute (s : State) (j : JRec) (sub : Nat) : KeepsReleases s (s.recompute j sub) := by
  unfold State.recompute
  dsimp only
  exact .comp (.each fun _ _ => .askAt ..) <| .comp .upd <| .newJ s ..

theorem rejournal (s : State) (bno pq sub : Nat) (old : List JRec) : KeepsReleases s (s.rejournal bno pq sub old).2 := by
  unfold State.rejournal
  refine .each (fun _ _ => ?_)
  split
  · exact .comp (.writeJ ..) <| .ringRoom ..
  · refine .ite ?_ (.refl _)
    split
    · exact .recompute ..
    · exact .refl _

theorem dropJournal (s : State) (n : Nat) : KeepsReleases s (s.dropJournal n) := .same rfl

theorem journalLost (s : State) (n : Nat) (gone : Bool) : KeepsReleases s (s.journalLost n gone) := by
  unfold State.journalLost
  refine .comp (.ite (.refl _) (.comp (.each (fun _ _ => ?_)) <| .log ..)) <| .ite (.dropJournal ..) (.refl _)
  dsimp only
  split
  · exact .comp (.modPool ..) <| .comp (.rejournal ..) <| .modBand ..
  · exact .ite (.refl _) (.comp (.log ..) <| .closeEarly ..)

theorem tryClearSlow (s : State) (n : Nat) : KeepsReleases s (s.tryClearSlow n) := by
  unfold State.tryClearSlow
  exact .ite (.comp (.pump ..) <| .comp (.log ..) <| .modSlot ..) (.refl _)

/-! ### Of `Settle` -/

theorem copyPos (s : State) (dst : Nat) (x : Ns) (pos : Nat) : KeepsReleases s (s.copyPos dst x pos) := by
  unfold State.copyPos
  dsimp only
  refine .ite (.refl _) ?_
  refine .ite (.comp (.modBand ..) <| .putAt ..) ?_
  split
  · refine .comp (.putAt ..) ?_
    split
    · exact .modBand ..
    · exact .refl _
  · refine .comp (.ite (.askMeta ..) (.ask ..)) ?_
    split
    · exact .modBand ..
    · exact .refl _

theorem copyRowOf (s : State) (dst : Nat) : KeepsReleases s (s.copyRowOf dst) := by
  unfold State.copyRowOf
  dsimp only
  split
  · exact .refl _
  · exact .each (fun _ _ => .copyPos ..)

theorem copyOn (s : State) (dst : Nat) : KeepsReleases s (s.copyOn dst) := by
  unfold State.copyOn
  exact .ite (.refl _) (.comp (.ite (.refl _) (.ite (.modBand ..) (.comp (.copyRowOf ..) <| .modBand ..))) <| .takeUnits ..)

theorem dropCopied (s : State) (dst : Nat) : KeepsReleases s (s.dropCopied dst) := by
  unfold State.dropCopied
  exact .comp (.each (fun _ _ => .comp (.dropLost ..) <| .modNs ..)) <| .upd

theorem complete (s : State) (id : CmdId) (st : Status) (dw0 : Nat) : KeepsReleases s (s.complete id st dw0) := by
  unfold State.complete
  exact .ite (.finish ..) (.post ..)

theorem summaryDone (s : State) (bno : Nat) : KeepsReleases s (s.summaryDone bno) := by
  unfold State.summaryDone
  dsimp only
  refine .ite (.comp (.dropFold ..) <| .modBand ..) ?_
  refine .ite ?_ (.modBand ..)
  split
  · exact .modBand ..
  · refine .ite ?_ (.modBand ..)
    split
    · exact .comp (.shave ..) <| .comp (.dropCopied ..) <| .comp (.modSeg ..) <| .modBand ..
    · exact .comp (.dropCopied ..) <| .comp (.modSeg ..) <| .modBand ..

theorem memberDone (s : State) (bno pos : Nat) (pl : Place) (cause : Nat) : KeepsReleases s (s.memberDone bno pos pl cause) := by
  unfold State.memberDone
  exact .comp (.ite (.comp .upd <| .modPool ..) (.refl _)) <| .comp (.each (fun _ _ => .shaveBlock ..)) <| .comp .upd <|
      .modBand ..

theorem releaseSegs (s : State) (nsx seg cnt seq : Nat) : KeepsReleases s (s.releaseSegs nsx seg cnt seq) := by
  unfold State.releaseSegs
  split
  · exact .refl _
  · exact .comp (.dropLost ..) <| .comp (.modNs ..) <| .comp .upd <| .comp (.each (fun _ _ => .modSeg ..)) <| .each (fun _ _ => .shave ..)

theorem rangeDone (s : State) (id : CmdId) (lo hi : Nat) : KeepsReleases s (s.rangeDone id lo hi) := by
  unfold State.rangeDone
  dsimp only
  split
  · exact .comp (.ite (.finish ..) (.refl _)) <| .comp .upd <| .modFlight ..
  · exact .comp .upd <| .modFlight ..

theorem jobDone (s : State) (x : Ns) : KeepsReleases s (s.jobDone x) := by
  unfold State.jobDone
  exact .ite (.comp (.writeRoot ..) <| .upd) (.comp (.writeRoot ..) <| .modNs ..)

theorem releaseDone (s : State) (r : DurRec) (nsx seg cnt : Nat) (id : Option CmdId) : KeepsReleases s (s.releaseDone r nsx seg cnt id) := by
  unfold State.releaseDone
  dsimp only
  split
  · exact .releaseSegs ..
  · split
    · exact .comp (.ite (.rangeDone ..) (.complete ..)) <| .releaseSegs ..
    · exact .comp (.ite (.jobDone ..) (.refl _)) <| .releaseSegs ..

theorem takeCopy (s : State) (r : DurRec) (rid : Nat) : KeepsReleases s (s.takeCopy r rid) := by
  unfold State.takeCopy
  split
  · exact .upd
  · exact .upd

theorem settleRegs (s : State) (p : Nat) : KeepsReleases s (s.settleRegs p) := by
  unfold State.settleRegs
  dsimp only
  split
  · exact .ite (.comp (.placeRecs ..) <| .needReg ..) (.refl _)
  · exact .comp (.ite (.refl _) (.ite (.comp (.needReg ..) <| .modPool ..) (.comp (.ite (.refl _) (.comp (.writeRoot ..) <|
      .each (fun _ _ => .shave ..))) <| .each (fun _ _ => .record ..)))) <| .ite (.comp (.placeRecs ..) <| .needReg ..) (.refl _)

theorem dropPool (s : State) (p : Nat) : KeepsReleases s (s.dropPool p) := by
  unfold State.dropPool
  refine .comp .every <| .comp (.each fun _ _ => .modSlot ..) ?_
  exact .same rfl

theorem runThen (s : State) (r : DurRec) : KeepsReleases s (s.runThen r) := by
  unfold State.runThen
  split
  · exact .refl _
  · exact .complete ..
  · split
    · exact .finish ..
    · exact .refl _
  · exact .modBand ..
  · exact .summaryDone ..
  · exact .memberDone ..
  · exact .releaseDone ..
  · split
    · exact .complete ..
    · exact .refl _
  · exact .comp (.complete ..) <| .dropPool ..
  · exact .takeCopy ..

theorem settleRecs (s : State) : KeepsReleases s s.settleRecs := by
  unfold State.settleRecs
  exact .each (fun _ _ => .ite (.comp (.runThen ..) <| .comp (.ite (.modPool ..) (.refl _)) <| .upd) (.refl _))

theorem settleRows (s : State) : KeepsReleases s s.settleRows := by
  unfold State.settleRows
  exact .each (fun _ _ => .ite .upd (.refl _))

theorem closeBand (s : State) (bno : Nat) : KeepsReleases s (s.closeBand bno) := by
  unfold State.closeBand
  exact .comp (.ite (.refl _) (.ite (.each (fun _ _ => .record ..)) (.comp (.each (fun _ _ => .record ..)) <| .record ..))) <| .modBand ..

theorem settleBands (s : State) : KeepsReleases s s.settleBands := by
  unfold State.settleBands
  exact .each (fun _ _ => .ite (.refl _) (.ite (.copyOn ..) (.ite (.ite (.refl _) (.closeBand ..)) (.ite (.closeEarly ..) (.ite (.shave ..)
      (.refl _))))))

theorem settleGcs (s : State) : KeepsReleases s s.settleGcs := by
  unfold State.settleGcs
  refine .each (fun _ _ => ?_)
  refine .comp (.shave ..) <| .comp (.each (fun _ _ => ?_)) <| .upd
  split
  · exact .ite .upd (.refl _)
  · exact .refl _

theorem settleRing (s : State) (n : Nat) : KeepsReleases s (s.settleRing n) := by
  unfold State.settleRing
  exact .comp (.ite (.journalLost ..) (.refl _)) <| .each (fun _ _ => .ite (.comp (.modBlock ..) <| .comp (.eraseFor ..) <| .upd) (.refl _))

theorem settleOldJournal (s : State) : KeepsReleases s s.settleOldJournal := by
  unfold State.settleOldJournal
  exact .each (fun _ _ => .ite (.shaveBlock ..) (.modBlock ..))

theorem settleRings (s : State) : KeepsReleases s s.settleRings := by
  unfold State.settleRings
  exact .comp (.settleOldJournal ..) <| .each (fun _ _ => .settleRing ..)

theorem settleGone (s : State) : KeepsReleases s s.settleGone := by
  unfold State.settleGone
  exact .each (fun _ _ => .comp (.log ..) <| .comp (.modSlot ..) <| .upd)

theorem settleReads (s : State) : KeepsReleases s s.settleReads := by
  unfold State.settleReads
  exact .each (fun _ _ => .issueRead ..)

theorem releaseRec (s : State) (x : Ns) (seg cnt : Nat) (id : Option CmdId) : KeepsReleases s (s.releaseRec x seg cnt id) := by
  unfold State.releaseRec
  exact .comp (.record ..) <| .needReg ..

theorem cryptoErase (s : State) (x : Ns) : KeepsReleases s (s.cryptoErase x) := by
  unfold State.cryptoErase
  exact .comp (.releaseRec ..) <| .comp (.writeRoot ..) <| .comp (.log ..) <| .comp .upd <| .comp (.modNs ..) <| .took ..

theorem startJob (s : State) (x : Ns) : KeepsReleases s (s.startJob x) := by
  unfold State.startJob
  refine .ite (.refl _) ?_
  dsimp only
  split
  · exact .comp (.releaseRec ..) <| .modNs ..
  · exact .comp (.releaseRec ..) <| .modNs ..
  · exact .comp (.writeRoot ..) <| .comp (.modNs ..) <| .modNs ..
  · exact .comp (.cryptoErase ..) <| .modNs ..

theorem sanitizeStep (s : State) : KeepsReleases s s.sanitizeStep := by
  unfold State.sanitizeStep
  split
  · exact .refl _
  · exact .ite (.refl _) (.ite (.comp (.log ..) <| .upd) (.comp (.ite (.refl _) (.comp (.log ..) <| .upd)) <|
      .comp (.freeBands ..) <| .comp (.each (fun _ _ => .eraseFor ..)) <| .each (fun _ _ => .comp (.modPool ..) <| .shave ..)))

theorem settleJobs (s : State) : KeepsReleases s s.settleJobs := by
  unfold State.settleJobs
  exact .comp (.sanitizeStep ..) <| .each (fun _ _ => .startJob ..)

theorem lapse (s : State) : KeepsReleases s s.lapse := .same rfl

theorem settle (s : State) : KeepsReleases s s.settle := by
  unfold State.settle
  exact .comp (.pump ..) <| .comp (.lapse ..) <| .comp (.each (fun _ _ => .settleRegs ..)) <| .comp (.settleJobs ..) <| .comp (.freeBands ..) <|
      .comp (.replaceStuck ..) <| .comp (.sendWaiting ..) <| .comp (.settleReads ..) <| .comp (.settleGone ..) <| .comp (.settleRings ..) <|
      .comp (.settleBands ..) <| .comp (.settleGcs ..) <| .comp (.settleRecs ..) <| .settleRows ..

end KeepsReleases

/-! ## O29: the BUFFER_RELEASE of a verified unit takes the tag that its program gave back -/

/-- A unit of a band whose earlier program failed: cartridge 3 still holds its data under tag 1 (R101, R129). -/
def refetchedUnit : PUnit := { uid := 7, kind := .band 1 0 0, at_ := ⟨3, 0, 5⟩, pwl := 0, mode := 1, release := some (3, 1) }

/-- The program of `refetchedUnit`, outstanding under tag 0. -/
def refetchedProgram : OutCmd := { op := 0x20, m := { tag := 0, block := 5, mode := 1, count := 48 }, why := .unit 7, tSlow := 0 }

/-- Cartridge 3, its link up, is about to end `refetchedProgram`; the list of slots names the empty slot 9 too, which tells that no later step changed every slot. -/
def refetchedState : State :=
  { slots := [(3, { phase := 5, heldTags := [1], out := [(0, refetchedProgram)] }), (9, {})]
    media := { units := [refetchedUnit] } }

/-- The slots that an outcome leaves. -/
def slotsAfter : Out → Cells Slot
  | .next t => t.slots
  | _ => []

/-- After SUCCESS the BUFFER_RELEASE of the data held under tag 1 is outstanding under tag 0, the lowest free one. -/
theorem slotsAfter_success : (((slotsAfter (exec (.success 3 0) refetchedState)).get slot0 3).out.filter (fun e => e.2.op = 0x24)).map (fun e => e.1) = [0] := by decide +kernel

theorem slotsAfter_success_namesEmpty : (9, slot0 9) ∈ slotsAfter (exec (.success 3 0) refetchedState) := by decide +kernel

/-- A tag under which a BUFFER_RELEASE is outstanding is not free. -/
theorem State.cmdAt_of_bufferRelease {s : State} {n tag : Nat} (h : tag ∈ (s.bufferReleases n).map (fun e => e.1)) : (s.slot n).cmdAt tag ≠ none := by
  obtain ⟨e, he, rfl⟩ := List.mem_map.mp h
  simp only [Slot.cmdAt, look, ne_eq, Option.map_eq_none_iff, List.find?_eq_none, not_forall]
  exact ⟨e, List.mem_of_mem_filter he, by simp⟩

/-- Refutes O29: where the sequencer still holds the unit's data of an earlier failure, verifying the unit sends BUFFER_RELEASE (R101), which takes the lowest free tag
(R85), and that is the tag the program has just given back: it is not free. What follows the verification sends no BUFFER_RELEASE (`KeepsReleases.settle`), so no
choice of the state between frees the tag. -/
theorem not_finalStatusesEndTheirCommand : ¬ Obligations.FinalStatusesEndTheirCommand := by
  unfold Obligations.FinalStatusesEndTheirCommand
  intro ⟨_, _, success, _⟩
  obtain ⟨v, next, _, _, free⟩ := success 3 0 7 refetchedProgram refetchedUnit refetchedState (by decide) rfl rfl rfl rfl rfl (by decide)
  have named := slotsAfter_success_namesEmpty
  have released := slotsAfter_success
  rw [next] at named released
  have kept : KeepsReleases v (v.tryClearSlow 3).settle := .comp (.settle ..) (.tryClearSlow ..)
  have same := congrFun (kept.whileNamed 9 named).2 3
  refine State.cmdAt_of_bufferRelease (tag := 0) ?_ (free rfl)
  rw [← same]
  exact released ▸ List.mem_singleton_self 0

end Sys2Proof.Machine

namespace Sys2Proof.Machine

/-! ## O32: a refused GET_HEALTH has drawn its free values -/

/-- Cartridge 0 after SHUTDOWN, its link still up. -/
def shutState : State := { slots := [(0, { pwren := true, phase := 5 })], seqs := [(0, { shut := true })] }

/-- The free values taken when an outcome is reached. -/
def freeAfter : Out → Nat
  | .next t => t.free
  | _ => 0

/-- Refutes O32: GET_HEALTH takes its two free values before the sequencer's checks, so a refused one leaves the count of free values raised. -/
theorem not_sequencerRefusesByTheFirstFailingCheck : ¬ Obligations.SequencerRefusesByTheFirstFailingCheck := by
  unfold Obligations.SequencerRefusesByTheFirstFailingCheck
  intro ⟨refused, _⟩
  have answer := refused 0 0x3F { tag := 0 } shutState (by decide) rfl (0x50, .getHealth 0 { tag := 0 }) (by simp) rfl
  exact absurd (congrArg freeAfter answer) (by decide)

/-! ## O31: a codeword that the cartridge holds short is read short -/

/-- Cartridge 0, its link up: wordline 0 of die-block 0 holds one codeword, of a single byte. -/
def shortState : State :=
  { slots := [(0, { pwren := true, phase := 5 })]
    seqs := [(0, { desc := List.replicate 512 1, blocks := [(0, { pages := [(0, [[7]])] })] })] }

/-- A READ of its codeword 0. -/
def shortRead : CartCmd := { tag := 0, mode := 1, cwMask := 1 }

/-- The lengths of the answers that the sequencer of cartridge 0 has given in an outcome. -/
def sentLengths : Out → List Nat
  | .next t => (t.seqOf 0).sent.map (fun e => e.data.length)
  | _ => []

theorem sentLengths_shortRead : sentLengths (exec (.cartRead 0 ⟨shortRead, true⟩) shortState) = [1] := by decide +kernel

/-- Refutes O31: the state may hold a codeword of fewer than 4,608 bytes (a program frame of one block leaves one), and CART_READ answers with what is held. -/
theorem not_sequencerAnswersItsCommands : ¬ Obligations.SequencerAnswersItsCommands := by
  unfold Obligations.SequencerAnswersItsCommands
  intro ⟨_, _, _, _, read, _⟩
  obtain ⟨t, d, next, answer, length, _⟩ := read 0 shortRead shortState (by decide) rfl (by decide +kernel)
  have sent := sentLengths_shortRead
  rw [next] at sent
  simp only [sentLengths, answer, Seq.say, List.map_cons, List.cons.injEq] at sent
  exact absurd (sent.1.symm.trans length) (by decide)

end Sys2Proof.Machine

namespace Sys2Proof.Machine

/-! ## What a final status leaves of a sequencer (R85, R88, R103) -/

theorem look_eq_none_iff {α : Type} {l : List (Nat × α)} {t : Nat} : look l t = none ↔ ∀ e ∈ l, e.1 ≠ t := by
  simp [look, List.find?_eq_none]

/-- A sequencer goes on: it may grant programs and complete SHUTDOWN, and it takes back no message and takes in no command. -/
structure Seq.GoesOn (q r : Seq) : Prop where
  rest : r = { q with cmds := r.cmds, sent := r.sent }
  sent : ∀ e ∈ q.sent, e ∈ r.sent
  gone : ∀ tag, look q.cmds tag = none → look r.cmds tag = none

theorem Seq.GoesOn.refl (q : Seq) : q.GoesOn q := ⟨rfl, fun _ => id, fun _ => id⟩

theorem Seq.GoesOn.trans {q r v : Seq} (h : q.GoesOn r) (k : r.GoesOn v) : q.GoesOn v :=
  ⟨by rw [k.rest, h.rest], fun e he => k.sent e (h.sent e he), fun tag ht => k.gone tag (h.gone tag ht)⟩

theorem Seq.GoesOn.say (q : Seq) (tag code : Nat) (vals : List Nat) (data : List Byte) : q.GoesOn (q.say tag code vals data) :=
  ⟨rfl, fun _ he => List.mem_cons_of_mem _ he, fun _ => id⟩

theorem Seq.GoesOn.modCmd (q : Seq) (tag : Nat) (f : SeqCmd → SeqCmd) : q.GoesOn (q.modCmd tag f) := by
  refine ⟨rfl, fun _ => id, fun t ht => look_eq_none_iff.mpr fun e he => ?_⟩
  obtain ⟨e, listed, rfl⟩ := List.mem_map.mp he
  have other := look_eq_none_iff.mp ht e listed
  split <;> exact other

theorem Seq.GoesOn.grants (q : Seq) (n : Nat) : q.GoesOn (q.grants n) := by
  induction n generalizing q with
  | zero => exact .refl q
  | succ n ih =>
    unfold Seq.grants
    split
    · exact .refl q
    · exact ((GoesOn.modCmd ..).trans (.say ..)).trans (ih _)

theorem Seq.GoesOn.settle (q : Seq) : q.GoesOn q.settle := by
  unfold Seq.settle
  split
  · exact .refl q
  · split
    next => exact .refl q
    next e _ =>
      have dropped : q.GoesOn { q with cmds := q.cmds.filter (fun x => x.1 ≠ e.1) } :=
        ⟨rfl, fun _ => id, fun t ht => look_eq_none_iff.mpr fun e he => look_eq_none_iff.mp ht e (List.mem_of_mem_filter he)⟩
      exact dropped.trans (.say ..)

/-- A final status is sent, its tag is free, and beside them only what is granted and what the controller has not heard changes. -/
theorem Seq.final_spec (q : Seq) (tag code : Nat) (vals : List Nat) (data : List Byte) :
    q.final tag code vals data =
      { q with
        cmds := (q.final tag code vals data).cmds
        sent := (q.final tag code vals data).sent
        unheard := q.unheard ++ [{ tag := tag, code := code, vals := vals }] } ∧
    look (q.final tag code vals data).cmds tag = none ∧ { tag := tag, code := code, vals := vals, data := data } ∈ (q.final tag code vals data).sent := by
  have on : Seq.GoesOn _ (q.final tag code vals data) := (Seq.GoesOn.grants ..).trans (.settle _)
  exact ⟨on.rest, on.gone tag (look_filter_self q.cmds tag), on.sent _ List.mem_cons_self⟩

theorem Seq.final_tag (q : Seq) (tag code : Nat) (vals : List Nat) (data : List Byte) : look (q.final tag code vals data).cmds tag = none :=
  (q.final_spec tag code vals data).2.1

theorem Seq.final_says (q : Seq) (tag code : Nat) (vals : List Nat) (data : List Byte) :
    { tag := tag, code := code, vals := vals, data := data } ∈ (q.final tag code vals data).sent :=
  (q.final_spec tag code vals data).2.2

/-- What the dies hold, and the data held under a tag, a final status leaves alone. -/
theorem Seq.final_media (q : Seq) (tag code : Nat) (vals : List Nat) (data : List Byte) :
    (q.final tag code vals data).blocks = q.blocks ∧ (q.final tag code vals data).heldData = q.heldData ∧ (q.final tag code vals data).failedDies = q.failedDies := by
  rw [(q.final_spec tag code vals data).1]
  exact ⟨rfl, rfl, rfl⟩

theorem Seq.final_blk (q : Seq) (tag code : Nat) (vals : List Nat) (data : List Byte) (die block : Nat) : (q.final tag code vals data).blk die block = q.blk die block := by
  rw [Seq.blk, (q.final_media tag code vals data).1]
  rfl

@[simp] theorem Seq.modBlk_self (q : Seq) (die block : Nat) (f : SeqBlock → SeqBlock) : (q.modBlk die block f).blk die block = f (q.blk die block) := by
  simp [Seq.modBlk, Seq.blk, Cells.mod]

theorem look_place_self {κ α : Type} [DecidableEq κ] (l : List (κ × α)) (k : κ) (v : α) : look (place l k v) k = some v := by
  simp [look, place]

/-! ## The end of a program or an erase at a die (R97 to R102) -/

section
variable {n tag : Nat} {c : SeqCmd} {s : State}

theorem State.modSeq_congr {f g : Seq → Seq} (h : f (s.seqOf n) = g (s.seqOf n)) : s.modSeq n f = s.modSeq n g := by
  have h : f (s.seqs.get seq0 n) = g (s.seqs.get seq0 n) := h
  rw [State.modSeq, Cells.mod, h]
  rfl

/-- A PROGRAM whose wordline the die verified. -/
def Seq.programmed (q : Seq) (tag : Nat) (c : SeqCmd) : Seq :=
  (q.modBlk c.m.die c.m.block (fun b => { b with pages := place b.pages c.m.page (unitFrames c.frames c.m.count) })).final tag 0x00

/-- A PROGRAM whose data stays in the sequencer's buffer (R101). -/
def Seq.keepsData (q : Seq) (tag : Nat) (c : SeqCmd) : Seq :=
  let q := q.modBlk c.m.die c.m.block (fun b => { b with pages := place b.pages c.m.page [] })
  ({ q with heldData := q.heldData ++ [(tag, c.frames)] }).final tag 0x11

/-- A PROGRAM that the sequencer has done at a place of its reserve (R101). -/
def Seq.replaced (q : Seq) (tag : Nat) (c : SeqCmd) (block page took : Nat) : Seq :=
  let q := { q with reserve := q.reserve.put zeroCell c.m.die (q.reserve.get zeroCell c.m.die + took) }
  let q := q.modBlk c.m.die block (fun b => { b with pages := place b.pages page (unitFrames c.frames c.m.count) })
  let q := q.modBlk c.m.die c.m.block (fun b => { b with pages := place b.pages c.m.page [] })
  ({ q with relocs := ((c.m.die, c.m.block, c.m.page), (block, page)) :: q.relocs } : Seq).final tag 0x10 [c.m.die, block, page]

section
variable (hn : n < s.part.slots) (hc : look (s.seqOf n).cmds tag = some c) (hop : c.op = 0x20) (hst : c.state = 2)
include hn hc hop hst

/-- A program that is programming ends in one of four ways. -/
theorem execDieProgramDone_programming (verified dieAlive : Bool) : execDieProgramDone n tag verified dieAlive s = .next (
    if dieAlive = false then s.modSeq n (fun q => q.dieDead c.m.die tag)
    else if verified then s.modSeq n (fun q => q.programmed tag c)
    else if (s.seqOf n).reserve.get zeroCell c.m.die < (s.seqOf n).spare then
      ({ s with free := s.free + 3 } : State).modSeq n (fun q => q.replaced tag c
        ((s.seqOf n).offered + Config.freeNat s.free % (65536 - (s.seqOf n).offered)) (Config.freeNat (s.free + 1) % 65536) (Config.freeNat (s.free + 2) % 2))
    else s.modSeq n (fun q => q.keepsData tag c)) := by
  have programming : ¬(c.op ≠ 0x20 ∨ c.state ≠ 2) := by simp [hop, hst]
  rw [execDieProgramDone, onSlot_ok hn]
  simp only [hc, programming, if_false]
  rfl

theorem execDieProgramDone_replaced (spare : (s.seqOf n).reserve.get zeroCell c.m.die < (s.seqOf n).spare) :
    ∃ block page took, execDieProgramDone n tag false true s = .next (({ s with free := s.free + 3 } : State).modSeq n (fun q => q.replaced tag c block page took)) :=
  ⟨_, _, _, (execDieProgramDone_programming hn hc hop hst false true).trans (congrArg _ ((if_neg (by decide)).trans ((if_neg (by decide)).trans (if_pos spare))))⟩

theorem execDieProgramDone_kept (full : (s.seqOf n).spare ≤ (s.seqOf n).reserve.get zeroCell c.m.die) :
    execDieProgramDone n tag false true s = .next (s.modSeq n (fun q => q.keepsData tag c)) :=
  (execDieProgramDone_programming hn hc hop hst false true).trans (congrArg _ ((if_neg (by decide)).trans ((if_neg (by decide)).trans (if_neg (by omega)))))

end

/-- How an erase ends at the sequencer. -/
def Seq.erased (q : Seq) (tag : Nat) (c : SeqCmd) : DieEnd → Seq
  | .silent => q.dieDead c.m.die tag
  | .erased => (q.modBlk c.m.die c.m.block (fun b => { b with fresh := true })).final tag 0x00
  | .failed => (q.modBlk c.m.die c.m.block (fun b => { b with retired := true })).final tag 0x13

theorem execDieEraseDone_erasing (hn : n < s.part.slots) (hc : look (s.seqOf n).cmds tag = some c) (hop : c.op = 0x21) (res : DieEnd) :
    execDieEraseDone n tag res s = .next (s.modSeq n (fun _ => (s.seqOf n).erased tag c res)) := by
  have erasing : ¬c.op ≠ 0x21 := by simp [hop]
  rw [execDieEraseDone, onSlot_ok hn]
  refine congrArg _ (State.modSeq_congr ?_)
  simp only [hc, erasing, if_false]
  rfl

end

/-- Settles O33: each end of a program or an erase is a change of its sequencer, and the final status that follows moves neither the media nor the tag's end (`Seq.final_spec`). -/
theorem dieEndsSettleTheSequencer : Obligations.DieEndsSettleTheSequencer := by
  refine ⟨fun n tag c s hn hc hop hst => ?_, fun n tag c s hn hc hop hst full => ?_, fun n tag c s hn hc hop hst spare => ?_, fun n tag v c s hn hc hop hst => ?_,
    fun n tag c s hn hc hop => ?_, fun n tag c s hn hc hop => ?_, fun n tag c s hn hc hop => ?_⟩
  · refine ⟨_, execDieProgramDone_programming hn hc hop hst true true, ?_, ?_, fun k hk => s.modSeq_other n k _ hk, rfl⟩
    · simp only [Bool.true_eq_false, if_false, if_true, State.modSeq_self, Seq.programmed, Seq.final_blk, Seq.modBlk_self, look_place_self]
    · simp only [Bool.true_eq_false, if_false, if_true, State.modSeq_self, Seq.programmed, Seq.final_tag]
  · refine ⟨_, execDieProgramDone_kept hn hc hop hst full, ?_⟩
    simp only [State.modSeq_self, Seq.keepsData, Seq.final_tag, Seq.final_media, List.mem_append, List.mem_singleton, or_true, true_and]
    exact ⟨⟨_, Seq.final_says .., rfl, rfl⟩, rfl⟩
  · obtain ⟨block, page, took, next⟩ := execDieProgramDone_replaced hn hc hop hst spare
    refine ⟨_, { tag := tag, code := 0x10, vals := [c.m.die, block, page] }, block, page, next, ?_⟩
    simp only [State.modSeq_self, Seq.replaced, Seq.final_tag, Seq.final_says, true_and]
    rfl
  · refine ⟨_, execDieProgramDone_programming hn hc hop hst v false, ?_⟩
    simp only [if_true, State.modSeq_self, Seq.dieDead, Seq.final_media, true_and]
    rfl
  · refine ⟨_, execDieEraseDone_erasing hn hc hop .erased, ?_⟩
    simp only [State.modSeq_self, Seq.erased, Seq.final_blk, Seq.modBlk_self, Seq.final_tag, true_and]
    exact ⟨fun k hk => s.modSeq_other n k _ hk, rfl⟩
  · refine ⟨_, execDieEraseDone_erasing hn hc hop .failed, ?_⟩
    simp only [State.modSeq_self, Seq.erased, Seq.final_blk, Seq.modBlk_self, Seq.final_tag, true_and]
    exact ⟨⟨_, Seq.final_says .., rfl, rfl⟩, fun k hk => s.modSeq_other n k _ hk, rfl⟩
  · exact ⟨_, execDieEraseDone_erasing hn hc hop .silent, State.modSeq_self .., fun k hk => s.modSeq_other n k _ hk, rfl⟩

end Sys2Proof.Machine

namespace Sys2Proof.Machine

/-! ## Data frames (R84, R91, R95) -/

/-- The state of an end that asks again for a frame from superframe `sf` on (R91). -/
theorem State.frameBad_end (s : State) (n : Nat) (toCtrl : Bool) (sf : Nat) :
    ((s.frameBad n toCtrl sf).endOf (endKey n toCtrl)).nakSent = true ∧ ((s.frameBad n toCtrl sf).endOf (endKey n toCtrl)).nakDue = true ∧
    ((s.frameBad n toCtrl sf).endOf (endKey n toCtrl)).rxNext = sf % 4096 ∧ (∀ k, k ≠ endKey n toCtrl → (s.frameBad n toCtrl sf).endOf k = s.endOf k) ∧
    s.frameBad n toCtrl sf = { s with ends := (s.frameBad n toCtrl sf).ends, dw := (s.frameBad n toCtrl sf).dw } := by
  have asked : (s.nakFor n toCtrl).endOf = (s.modEnd (endKey n toCtrl) (fun e => { e with nakSent := true, nakDue := true })).endOf := by
    cases toCtrl <;> rfl
  have rest : s.nakFor n toCtrl = { s with ends := (s.nakFor n toCtrl).ends, dw := (s.nakFor n toCtrl).dw } := by
    cases toCtrl <;> rfl
  have self := congrFun asked (endKey n toCtrl)
  rw [State.modEnd_self] at self
  simp only [State.frameBad, State.modEnd_self, self, true_and]
  refine ⟨fun k hk => ?_, ?_⟩
  · rw [State.modEnd_other _ _ _ _ hk, asked, State.modEnd_other _ _ _ _ hk]
  · rw [rest]
    rfl

section
variable {n tag idx blocks valid hdrSf crc : Nat} {toCtrl : Bool} {payload : List Byte} {s : State}

theorem execDataFrame_standing (hn : n < s.part.slots) (standing : (s.endOf (endKey n toCtrl)).nakSent = true) :
    execDataFrame n toCtrl tag idx ⟨blocks, valid⟩ hdrSf crc payload s = .next s := by
  rw [execDataFrame, onSlot_ok hn]
  refine congrArg _ ?_
  exact if_pos (.inr standing)

variable (hn : n < s.part.slots) (up : s.linkRuns n = true) (heard : (s.endOf (endKey n toCtrl)).nakSent = false)
include hn up heard

/-- A frame that begins where none may, or with a length that none has. -/
theorem execDataFrame_misplaced (h : blocks = 0 ∨ 72 < blocks ∨ (s.endOf (endKey n toCtrl)).openFrames ≠ []) :
    execDataFrame n toCtrl tag idx ⟨blocks, valid⟩ hdrSf crc payload s = .next ((s.protoNote n toCtrl 4 tag).linkReset n) := by
  rw [execDataFrame, onSlot_ok hn]
  refine congrArg _ ?_
  exact (if_neg (by simp [up, heard])).trans (if_pos h)

variable (shut : (s.endOf (endKey n toCtrl)).openFrames = []) (some_ : 1 ≤ blocks) (most : blocks ≤ 72)
include shut some_ most

theorem execDataFrame_bad (bad : payload.length ≠ 64 * blocks ∨ crc ≠ crc32 payload) :
    execDataFrame n toCtrl tag idx ⟨blocks, valid⟩ hdrSf crc payload s = .next (s.frameBad n toCtrl hdrSf) := by
  rw [execDataFrame, onSlot_ok hn]
  refine congrArg _ ?_
  exact (if_neg (by simp [up, heard])).trans ((if_neg (by simp [shut]; omega)).trans (if_pos bad))

theorem execDataFrame_good (whole : payload.length = 64 * blocks) :
    execDataFrame n toCtrl tag idx ⟨blocks, valid⟩ hdrSf (crc32 payload) payload s = .next (s.frameIn n toCtrl tag idx (payload.take valid)) := by
  rw [execDataFrame, onSlot_ok hn]
  refine congrArg _ ?_
  exact (if_neg (by simp [up, heard])).trans ((if_neg (by simp [shut]; omega)).trans (if_neg (by simp [whole])))

end

/-- The answer to a SYNC is its list of entries (R97). -/
theorem State.ctrlData_sync {s : State} {n tag : Nat} {o : OutCmd} (idx : Nat) (d : List Byte) (ho : (s.slot n).cmdAt tag = some o) (why : o.why = .sync) :
    s.ctrlData n tag idx d = s.modSlot n (fun x => { x with lastSync := syncEntries d d.length }) := by
  simp only [State.ctrlData, ho, why]

theorem State.ctrlData_life {s : State} {n tag : Nat} {o : OutCmd} (idx : Nat) (d : List Byte) (ho : (s.slot n).cmdAt tag = some o) (why : o.why = .life) :
    s.ctrlData n tag idx d = (s.setLife n (lifeOf d)).lifeCheck n := by
  simp only [State.ctrlData, ho, why]

/-- Settles O28: a frame is taken, asked for again, or resets the link, as its length, its place and its check say. -/
theorem framesReachTheirTag : Obligations.FramesReachTheirTag := by
  refine ⟨fun n tag idx blocks valid hdrSf payload s hn up heard shut some_ most whole => ?_,
    fun n tag idx blocks valid hdrSf payload s hn up heard shut some_ most whole => execDataFrame_good hn up heard shut some_ most whole,
    fun n tag idx blocks valid hdrSf payload o s hn up heard shut some_ most whole ho why => ?_,
    fun n tag idx blocks valid hdrSf payload o s hn up heard shut some_ most whole ho why => ?_,
    fun n tag idx blocks valid hdrSf crc toCtrl payload s hn up heard shut some_ most bad => ?_,
    fun n tag idx blocks valid hdrSf crc payload s hn up heard h => execDataFrame_misplaced hn up heard h,
    fun n tag idx blocks valid hdrSf crc payload s hn up heard h => execDataFrame_misplaced hn up heard h,
    fun n tag idx blocks valid hdrSf crc toCtrl payload s hn standing => execDataFrame_standing hn standing⟩
  · exact ⟨_, execDataFrame_good hn up heard shut some_ most whole, State.modSeq_self .., fun k hk => s.modSeq_other n k _ hk, rfl⟩
  · refine ⟨_, (execDataFrame_good hn up heard shut some_ most whole).trans (congrArg _ (State.ctrlData_sync idx _ ho why)), ?_, fun k hk => s.modSlot_other n k _ hk, rfl⟩
    rw [State.modSlot_self]
  · exact (execDataFrame_good hn up heard shut some_ most whole).trans (congrArg _ (State.ctrlData_life idx _ ho why))
  · exact ⟨_, execDataFrame_bad hn up heard shut some_ most bad, s.frameBad_end n toCtrl hdrSf⟩

end Sys2Proof.Machine

namespace Sys2Proof.Machine

/-! ## Log pages (R106, R135, R206, R242, R247, R280) -/

section
variable {c : Cmd} {s : State} {f : State → State}

theorem mgrPage_manager (h : s.readyFor true c = true) : mgrPage c s f = .next (f s) := by
  rw [mgrPage, adminCmd_ready (readyFor_any h), if_pos (readyFor_manager h)]

theorem mgrPage_other (h : s.readyFor false c = true) (other : s.isManager c.id.ctrl = false) : mgrPage c s f = .next (s.refuse c .invalidLog) := by
  rw [mgrPage, adminCmd_ready h, if_neg (by simp [other])]

theorem execCartridgeHealth_manager (h : s.readyFor true c = true) : execCartridgeHealth c s = .next (s.page c s.healthPage).rearmCart := mgrPage_manager h

theorem execRebuildProgress_manager (h : s.readyFor true c = true) : execRebuildProgress c s = .next (s.took.page c (s.took.rebuildPage s.freeVal)) := mgrPage_manager h

theorem execStartUpReport_manager (h : s.readyFor true c = true) : execStartUpReport c s = .next (s.page c s.startPage) := mgrPage_manager h

theorem execSearchStatistics_ready (h : s.readyFor false c = true) : execSearchStatistics c s = .next (s.page c (s.searchPage c.id.ctrl)) := adminCmd_ready h

/-- The Lost LBA List of the controller of `c` (R242). -/
def State.lostPage (s : State) (c : Cmd) : List Byte :=
  pageOf 64 [(0, 8, s.media.lostGen), (8, 4, (s.lostSeen c.id.ctrl).length), (12, 1, flag s.media.overflow 0)] ++ (s.lostSeen c.id.ctrl).flatMap Lost.bytes

theorem execLostLbaList_ready (h : s.readyFor false c = true) : execLostLbaList c s =
    .next { s.page c (s.lostPage c) with media := { s.media with lostAen := s.media.lostAen.filter (fun i => i ≠ c.id.ctrl) } } := adminCmd_ready h

/-- A page is answered with success and the part of it that was asked for. -/
theorem State.page_posted (s : State) (c : Cmd) (b : List Byte) : (s.page c b).io.posted.getLast?.map (fun e => (e.id, e.st, e.data)) = some (c.id, .success, logSlice c b) := by
  rw [State.page, State.post_last]
  rfl

theorem State.page_rest (s : State) (c : Cmd) (b : List Byte) : s.page c b = { s with io := (s.page c b).io } := rfl

/-- An identifier that no vendor page has is a standard page's. -/
theorem execGetLogPage_standard (h : s.readyFor false c = true) (lid : dw10 c % 256 < 0xC0 ∨ 0xC6 < dw10 c % 256) :
    execGetLogPage c s = .next (s.standardPage c (dw10 c % 256)) := by
  unfold execGetLogPage
  split
  case h_8 => exact adminCmd_ready h
  all_goals omega

/-- A vendor page is served by its own command. -/
theorem execGetLogPage_vendor (c : Cmd) (s : State) :
    (dw10 c % 256 = 0xC0 → execGetLogPage c s = execCartridgeHealth c s) ∧ (dw10 c % 256 = 0xC1 → execGetLogPage c s = execLostLbaList c s) ∧
    (dw10 c % 256 = 0xC2 → execGetLogPage c s = execRebuildProgress c s) ∧ (dw10 c % 256 = 0xC3 → execGetLogPage c s = execGuestbookLog c s) ∧
    (dw10 c % 256 = 0xC4 → execGetLogPage c s = execThrottleAndDisturbance c s) ∧ (dw10 c % 256 = 0xC5 → execGetLogPage c s = execSearchStatistics c s) ∧
    (dw10 c % 256 = 0xC6 → execGetLogPage c s = execStartUpReport c s) := by
  refine ⟨?_, ?_, ?_, ?_, ?_, ?_, ?_⟩ <;> intro lid <;> rw [execGetLogPage, lid] <;> rfl

theorem State.standardPage_unknown {lid : Nat} (kind : (s.ctrl c.id.ctrl).kind ≠ .discovery) (unknown : lid ∉ [1, 2, 3, 4, 0x20, 0x21, 0x22, 0x23, 0x81]) :
    s.standardPage c lid = s.refuse c .invalidLog := by
  simp only [List.mem_cons, List.not_mem_nil, or_false, not_or] at unknown
  obtain ⟨h1, h2, h3, h4, h20, h21, h22, h23, h81⟩ := unknown
  unfold State.standardPage
  rw [if_neg kind, if_neg h1, if_neg h2, if_neg h3, if_neg h4, if_neg h81, if_neg (by omega)]

theorem State.standardPage_firmware (kind : (s.ctrl c.id.ctrl).kind ≠ .discovery) : s.standardPage c 3 = s.fwPage c := if_neg kind

theorem State.standardPage_changed (kind : (s.ctrl c.id.ctrl).kind ≠ .discovery) : s.standardPage c 4 = s.changedPage c := if_neg kind

end

/-! ### The events of Cartridge Health (R106) -/

/-- A slot's event is armed again; one that came meanwhile is posted, so the slot waits for the next reading. -/
def Slot.rearmed (x : Slot) : Slot := { x with aenOpen := x.aenLate, aenLate := false }

/-- Arming touches the slots as `Slot.rearmed` says; what is posted is no slot's. -/
theorem State.rearmCart_slots (s : State) : s.rearmCart.slots = (s.each (List.range s.part.slots) (fun s n => s.modSlot n Slot.rearmed)).slots := by
  have step (s : State) (n : Nat) : (if (s.slot n).aenLate = true then (s.modSlot n (fun x => { x with aenOpen := (s.slot n).aenLate, aenLate := false })).aenManagers 0xC0
      else s.modSlot n (fun x => { x with aenOpen := (s.slot n).aenLate, aenLate := false })).slots = (s.modSlot n Slot.rearmed).slots := by
    split
    · rw [State.aenManagers_io]
      rfl
    · rfl
  unfold State.rearmCart State.each
  suffices h : ∀ (l : List Nat) (s t : State), s.slots = t.slots → (l.foldl (fun s n => if (s.slot n).aenLate = true then
      (s.modSlot n (fun x => { x with aenOpen := (s.slot n).aenLate, aenLate := false })).aenManagers 0xC0
      else s.modSlot n (fun x => { x with aenOpen := (s.slot n).aenLate, aenLate := false })) s).slots = (l.foldl (fun s n => s.modSlot n Slot.rearmed) t).slots from h _ s s rfl
  intro l
  induction l with
  | nil => exact fun s t h => h
  | cons n l ih =>
    refine fun s t h => ih _ _ ((step s n).trans ?_)
    simp only [State.modSlot, h]

theorem State.rearmCart_slot {s : State} {n : Nat} (h : n < s.part.slots) : s.rearmCart.slot n = (s.slot n).rearmed := by
  rw [State.slot, State.rearmCart_slots]
  exact State.slot_each_modSlot (f := fun _ => Slot.rearmed) s (List.mem_range.mpr h) List.nodup_range

/-- Settles O41: a vendor page is its own command, which a ready controller of the privilege has answered by `State.page`; the other pages are `State.standardPage`'s. -/
theorem logPagesAreAnswered : Obligations.LogPagesAreAnswered := by
  refine ⟨execGetLogPage_vendor, fun c s h lid kind => ?_, fun c s h lid kind => ?_, fun c s h => ?_, fun n s hn => ?_, fun c s h => ?_, fun c s h => ?_, fun c s h => ?_,
    fun c s h => ?_, fun c s h lid => execGetLogPage_standard h lid, fun c i s h other hi => ?_, fun c lid s kind unknown => State.standardPage_unknown kind unknown⟩
  · refine ⟨_, execGetLogPage_standard h (by omega), ?_⟩
    rw [lid, State.standardPage_firmware kind]
    exact ⟨rfl, State.page_lastAnswer .., rfl⟩
  · refine ⟨_, execGetLogPage_standard h (by omega), ?_⟩
    rw [lid, State.standardPage_changed kind]
    simp only [State.changedPage, State.modCtrl_self, true_and]
    exact ⟨State.page_lastAnswer .., fun k hk => State.modCtrl_other _ _ _ _ hk, rfl⟩
  · exact ⟨_, execCartridgeHealth_manager h, s.page_posted c _, s.page_rest c _⟩
  · rw [State.rearmCart_slot hn]
    exact ⟨rfl, rfl⟩
  · refine ⟨_, execLostLbaList_ready h, s.page_posted c _, fun mem => ?_, rfl⟩
    exact of_decide_eq_true (List.mem_filter.mp mem).2 rfl
  · exact ⟨_, execRebuildProgress_manager h, s.took.page_posted c _, rfl⟩
  · exact ⟨_, execSearchStatistics_ready h, s.page_posted c _, rfl⟩
  · exact ⟨_, execStartUpReport_manager h, s.page_posted c _, rfl⟩
  · simp only [List.mem_cons, List.not_mem_nil, or_false] at hi
    rcases hi with rfl | rfl | rfl | rfl | rfl
    · exact (mgrPage_other h other : execCartridgeHealth c s = _)
    · exact (mgrPage_other h other : execRebuildProgress c s = _)
    · exact (mgrPage_other h other : execStartUpReport c s = _)
    · exact (mgrPage_other h other : execGuestbookLog c s = _)
    · exact (mgrPage_other h other : execThrottleAndDisturbance c s = _)

end Sys2Proof.Machine

namespace Sys2Proof.Machine

/-! ## Commands of a slot: issued, waiting, dropped (R85) -/

/-- A slot but for its commands and their data. -/
def Slot.bare (x : Slot) : Slot := { x with out := [], queue := [], dataQ := [] }

theorem Slot.issue_waits (x : Slot) (o : OutCmd) (p : Purpose → Bool) : (x.issue o).waits p = (x.waits p || p o.why) := by
  simp only [Slot.waits, Slot.issue, List.any_append, List.any_cons, List.any_nil, Bool.or_false]
  grind

theorem Slot.enqueue_waits (x : Slot) (o : OutCmd) (p : Purpose → Bool) : (x.enqueue o).waits p = (x.waits p || p o.why) := by
  have parts (l : List OutCmd) (q : OutCmd → Bool) : l.any (fun y => p y.why) = ((l.filter q).any (fun y => p y.why) || (l.filter (fun y => !q y)).any (fun y => p y.why)) := by
    rw [Bool.eq_iff_iff]
    simp only [List.any_filter, List.any_eq_true, Bool.or_eq_true, Bool.and_eq_true, Bool.not_eq_true']
    grind
  unfold Slot.enqueue
  split
  · simp only [Slot.waits, List.any_append, List.any_cons, parts x.queue (fun y => y.why.identity)]
    grind
  · simp [Slot.waits, Bool.or_assoc]

/-- Feeding moves commands from the queue to the cartridge. -/
theorem Slot.feed_waits (x : Slot) (p : Purpose → Bool) (k : Nat) : (x.feed k).waits p = x.waits p := by
  induction k generalizing x with
  | zero => rfl
  | succ k ih =>
    unfold Slot.feed
    split
    · rfl
    · next o found =>
      have moved := (List.perm_cons_erase (List.mem_of_find?_eq_some found)).any_eq (f := fun o => p o.why)
      rw [ih, Slot.issue_waits, Slot.waits, Slot.waits, moved, List.any_cons, Bool.or_assoc, Bool.or_comm (List.any _ _) (p o.why)]

theorem Slot.feed_bare (x : Slot) (k : Nat) : (x.feed k).bare = x.bare := by
  induction k generalizing x with
  | zero => rfl
  | succ k ih =>
    unfold Slot.feed
    split
    · rfl
    · exact ih _

theorem Slot.dropCmds_bare (x : Slot) (p : Purpose → Bool) : (x.dropCmds p).bare = x.bare := Slot.feed_bare _ _

/-- What a slot holds beside its commands a drop leaves as it was. -/
theorem Slot.dropCmds_same {β : Type} {π : Slot → β} (h : ∀ x : Slot, π x.bare = π x) (x : Slot) (p : Purpose → Bool) : π (x.dropCmds p) = π x := by
  rw [← h, x.dropCmds_bare, h]

theorem Slot.dropCmds_waits (x : Slot) (p q : Purpose → Bool) : (x.dropCmds p).waits q = x.waits (fun w => !p w && q w) := by
  rw [Slot.dropCmds, Slot.feedAll, Slot.feed_waits]
  simp only [Slot.waits, List.any_filter]

theorem State.send_bare (s : State) (n op : Nat) (m : CartCmd) (w : Purpose) (fr : List (Nat × BitVec 36864)) (k : Nat) : ((s.send n op m w fr).slot k).bare = (s.slot k).bare := by
  by_cases hk : k = n
  · subst hk
    simp only [State.send, State.modSlot_self]
    split
    · rfl
    · unfold Slot.enqueue
      split <;> rfl
  · rw [State.send_other _ _ _ _ _ _ hk]

/-- What a slot holds beside its commands a command to it leaves as it was. -/
theorem State.send_same {β : Type} {π : Slot → β} (h : ∀ x : Slot, π x.bare = π x) (s : State) (n op : Nat) (m : CartCmd) (w : Purpose) (fr : List (Nat × BitVec 36864)) (k : Nat) :
    π ((s.send n op m w fr).slot k) = π (s.slot k) := by
  rw [← h, s.send_bare, h]

theorem State.send_waits (s : State) (n op : Nat) (m : CartCmd) (w : Purpose) (fr : List (Nat × BitVec 36864)) (p : Purpose → Bool) :
    ((s.send n op m w fr).slot n).waits p = ((s.slot n).waits p || p w) := by
  simp only [State.send, State.modSlot_self]
  split
  · exact Slot.issue_waits ..
  · exact Slot.enqueue_waits ..

/-! ## Records and events of a slot -/

theorem State.log_slot (s : State) (code : Nat) (ps : List Nat) (k : Nat) : (s.log code ps).slot k = s.slot k := by
  simp [State.slot]

theorem State.log_rest (s : State) (code : Nat) (ps : List Nat) : s.log code ps = { s with dw := (s.log code ps).dw, gbk := (s.log code ps).gbk } := by
  obtain ⟨cnt, q, tracked, dropped, since, e⟩ := s.log_eq code ps
  rw [e]

theorem State.log_w1c (s : State) (code : Nat) (ps : List Nat) (o : Nat) : (s.log code ps).w1c o = s.w1c o := by
  obtain ⟨cnt, q, tracked, dropped, since, e⟩ := s.log_eq code ps
  rw [e]
  rfl

theorem State.enqueue_modSlot (s : State) (n : Nat) (f : Slot → Slot) (r : Rec) : (s.modSlot n f).enqueue r = (s.enqueue r).modSlot n f := by
  rw [State.enqueue, State.enqueue]
  by_cases room : s.gbk.queue.length < 1024
  · rw [if_pos room, if_pos (show (s.modSlot n f).gbk.queue.length < 1024 from room)]
    rfl
  · rw [if_neg room, if_neg (show ¬(s.modSlot n f).gbk.queue.length < 1024 from room)]
    rfl

/-- A record does not read the slots. -/
theorem State.log_modSlot (s : State) (n : Nat) (f : Slot → Slot) (code : Nat) (ps : List Nat) : (s.modSlot n f).log code ps = (s.log code ps).modSlot n f := by
  have queued := s.enqueue_modSlot n f (s.recOf code ps)
  have counts : (s.modSlot n f).gbk = s.gbk := rfl
  have record : (s.modSlot n f).recOf code ps = s.recOf code ps := rfl
  simp only [State.log, record, queued, counts]
  have counts' : ((s.enqueue (s.recOf code ps)).modSlot n f).gbk = (s.enqueue (s.recOf code ps)).gbk := rfl
  simp only [counts']
  split_ifs <;> rfl

theorem State.raise_other (s : State) (off b : Nat) {o : Nat} (h : o ≠ off) : (s.raise off b).w1c o = s.w1c o := by
  simp [State.raise, State.w1c, Cells.mod, Cells.get_put_other _ _ _ h]

theorem State.aenManagers_w1c (s : State) (p o : Nat) : (s.aenManagers p).w1c o = s.w1c o := by
  rw [State.aenManagers_io]
  rfl

/-- An event sets its bit of the slot's `EVENT`, and no other flag. -/
theorem State.slotEvent_w1c (s : State) (n bit o : Nat) : (s.slotEvent n bit).w1c o = (s.raise (dwCART n + 0x40) (2 ^ bit)).w1c o := by
  simp only [State.slotEvent]
  split
  · split
    · rfl
    · exact State.aenManagers_w1c ..
  · rfl

theorem State.slotEvent_raises (s : State) (n bit : Nat) : ((s.slotEvent n bit).w1c (dwCART n + 0x40)).testBit bit = true := by
  rw [State.slotEvent_w1c, State.raise_self, Nat.testBit_or, Nat.testBit_two_pow_self, Bool.or_true]

theorem State.slotEvent_w1c_other (s : State) (n bit : Nat) {o : Nat} (h : o ≠ dwCART n + 0x40) : (s.slotEvent n bit).w1c o = s.w1c o := by
  rw [State.slotEvent_w1c]
  exact State.raise_other _ _ _ h

theorem State.slotEvent_other (s : State) (n bit : Nat) {k : Nat} (h : k ≠ n) : (s.slotEvent n bit).slot k = s.slot k := by
  simp only [State.slotEvent]
  split
  · split
    · exact State.modSlot_other _ _ _ _ h
    · rw [State.aenManagers_slot]
      exact State.modSlot_other _ _ _ _ h
  · rfl

/-! ## Power of a slot -/

/-- A slot without power: nothing of the link and no command is left. -/
def Slot.unpowered (x : Slot) : Slot :=
  { x with pwren := false, waitPower := false, phase := 0, width := 0, upWidth := 0, lanes := 0,
           depth := 0, farPver := 0, farBuf := 0, mgmtDue := false, syncDue := false, out := [], queue := [], heldTags := [],
           dataQ := [], reauth := false, updating := false, rolling := false, offAfterShutdown := false }

theorem State.powerDown_slot (s : State) (n : Nat) : ((s.powerDown n).slot n).quiet = (s.slot n).unpowered.quiet := by
  have step (t : State) (h : (t.slot n).quiet = (s.slot n).quiet) : ((t.modSlot n Slot.unpowered).slot n).quiet = (s.slot n).unpowered.quiet := by
    rw [State.modSlot_self]
    exact congrArg Slot.unpowered h
  by_cases up : (s.slot n).phase = 5
  · simp only [State.powerDown, if_pos up]
    exact step _ (s.slotEvent_slot n 5 n)
  · simp only [State.powerDown, if_neg up]
    exact step s rfl

theorem State.powerDown_other (s : State) (n : Nat) {k : Nat} (h : k ≠ n) : (s.powerDown n).slot k = s.slot k := by
  refine (State.modSlot_other _ _ _ _ h).trans ?_
  split
  · exact s.slotEvent_other n 5 h
  · rfl

theorem State.powerOffDone_other (s : State) (n : Nat) {k : Nat} (h : k ≠ n) : (s.powerOffDone n).slot k = s.slot k := by
  have off (f : Slot → Slot) : ((s.powerDown n).modSlot n f).slot k = s.slot k := (State.modSlot_other _ _ _ _ h).trans (s.powerDown_other n h)
  simp only [State.powerOffDone]
  split
  · rw [State.slotEvent_other _ _ _ h, off]
  · exact off _

/-- A power-off of a cartridge that is not drained. -/
theorem State.powerOffDone_eq {s : State} {n : Nat} (h : (s.slot n).st ≠ .draining) : s.powerOffDone n = (s.powerDown n).modSlot n (fun x => { x with st := .off, auth := false }) := by
  simp only [State.powerOffDone, if_neg h]

theorem State.powerDown_quiet {s : State} {n : Nat} (h : (s.slot n).phase ≠ 5) : s.powerDown n = s.modSlot n Slot.unpowered := by
  simp only [State.powerDown, if_neg h]
  rfl

/-- A rejected slot (R55): without power, with its reason. -/
theorem State.reject_slot (s : State) (n r : Nat) : ((s.reject n r).slot n).quiet = { (s.slot n).unpowered.quiet with st := .rejected, reason := r, auth := false } := by
  rw [State.reject, State.log_slot, State.slotEvent_slot, State.modSlot_self, ← s.powerDown_slot n]
  rfl

theorem State.reject_raises (s : State) (n r : Nat) : ((s.reject n r).w1c (dwCART n + 0x40)).testBit 3 = true := by
  rw [State.reject, State.log_w1c, State.slotEvent_raises]

/-! ## What events, records and commands of a slot may change -/

/-- Slots, registers, guestbook and completions of the second state, all else of the first. -/
def putSlots (s t : State) : State := { s with slots := t.slots, dw := t.dw, gbk := t.gbk, io := t.io }

theorem frames_putSlots : Frames putSlots := ⟨fun _ => rfl, fun _ _ _ => rfl⟩

section
variable {s t : State}

theorem State.Within.modSlot (h : s.Within putSlots t) (n : Nat) (f : Slot → Slot) : s.Within putSlots (t.modSlot n f) := h.trans frames_putSlots rfl

theorem State.Within.send (h : s.Within putSlots t) (n op : Nat) (m : CartCmd) (w : Purpose) (fr : List (Nat × BitVec 36864)) : s.Within putSlots (t.send n op m w fr) :=
  h.trans frames_putSlots rfl

theorem State.Within.log (h : s.Within putSlots t) (code : Nat) (ps : List Nat) : s.Within putSlots (t.log code ps) := by
  refine h.trans frames_putSlots ?_
  unfold State.Within putSlots
  rw [State.log_rest]

theorem State.Within.slotEvent (h : s.Within putSlots t) (n bit : Nat) : s.Within putSlots (t.slotEvent n bit) := by
  refine h.trans frames_putSlots ?_
  unfold State.Within putSlots
  rw [State.slotEvent_rest]

theorem State.Within.post (h : s.Within putSlots t) (id : CmdId) (st : Status) (a b : Nat) (d : List Byte) : s.Within putSlots (t.post id st a b d) := h.trans frames_putSlots rfl

theorem State.Within.powerDown (h : s.Within putSlots t) (n : Nat) : s.Within putSlots (t.powerDown n) := by
  refine h.trans frames_putSlots ?_
  unfold State.Within putSlots
  rw [State.powerDown_rest]

theorem State.Within.reject (h : s.Within putSlots t) (n r : Nat) : s.Within putSlots (t.reject n r) := by
  unfold State.reject
  exact (((h.powerDown n).modSlot n _).slotEvent n 3).log _ _

theorem State.Within.updateFails (h : s.Within putSlots t) (n st : Nat) : s.Within putSlots (t.updateFails n st) := by
  unfold State.updateFails
  split
  · exact (h.modSlot n _).log _ _
  · exact h

theorem State.Within.endUpdCmd (h : s.Within putSlots t) (n st : Nat) : s.Within putSlots (t.endUpdCmd n st) := by
  unfold State.endUpdCmd
  split
  · exact h
  · exact ((h.modSlot n _).log _ _).post _ _ _ _ _

theorem State.Within.failUpdate (h : s.Within putSlots t) (n st : Nat) : s.Within putSlots (t.failUpdate n st) := by
  unfold State.failUpdate
  split
  · exact (h.updateFails n st).endUpdCmd n st
  · exact h

end

theorem State.within_refl (s : State) : s.Within putSlots s := rfl

/-! ## Updates that fail (R61) -/

/-- A slot but for the update of its sequencer. -/
def Slot.idle (x : Slot) : Slot := { x with updating := false, rolling := false, reason := 0, updCmd := none }

theorem State.updateFails_idle (s : State) (n st : Nat) : ((s.updateFails n st).slot n).idle = (s.slot n).idle := by
  unfold State.updateFails
  split
  · rw [State.log_slot, State.modSlot_self]
    rfl
  · rfl

theorem State.endUpdCmd_idle (s : State) (n st : Nat) : ((s.endUpdCmd n st).slot n).idle = (s.slot n).idle := by
  unfold State.endUpdCmd
  split
  · rfl
  · refine (congrArg Slot.idle (State.log_slot _ _ _ n)).trans ?_
    rw [State.modSlot_self]
    rfl

theorem State.updateFails_other (s : State) (n st : Nat) {k : Nat} (h : k ≠ n) : (s.updateFails n st).slot k = s.slot k := by
  unfold State.updateFails
  split
  · rw [State.log_slot, State.modSlot_other _ _ _ _ h]
  · rfl

theorem State.endUpdCmd_other (s : State) (n st : Nat) {k : Nat} (h : k ≠ n) : (s.endUpdCmd n st).slot k = s.slot k := by
  unfold State.endUpdCmd
  split
  · rfl
  · exact (State.log_slot _ _ _ k).trans (State.modSlot_other _ _ _ _ h)

theorem State.updateFails_over (s : State) (n st : Nat) : ((s.updateFails n st).slot n).updating = false := by
  unfold State.updateFails
  split
  · rw [State.log_slot, State.modSlot_self]
  · next h => simpa using h

theorem State.endUpdCmd_updating (s : State) (n st : Nat) : ((s.endUpdCmd n st).slot n).updating = (s.slot n).updating := by
  unfold State.endUpdCmd
  split
  · rfl
  · refine (congrArg Slot.updating (State.log_slot _ _ _ n)).trans ?_
    rw [State.modSlot_self]

theorem State.failUpdate_idle (s : State) (n st : Nat) : ((s.failUpdate n st).slot n).idle = (s.slot n).idle := by
  unfold State.failUpdate
  split
  · rw [State.endUpdCmd_idle, State.updateFails_idle]
  · rfl

theorem State.failUpdate_other (s : State) (n st : Nat) {k : Nat} (h : k ≠ n) : (s.failUpdate n st).slot k = s.slot k := by
  unfold State.failUpdate
  split
  · rw [State.endUpdCmd_other _ _ _ h, State.updateFails_other _ _ _ h]
  · rfl

theorem State.failUpdate_over (s : State) (n st : Nat) : ((s.failUpdate n st).slot n).updating = false := by
  unfold State.failUpdate
  split
  · rw [State.endUpdCmd_updating, State.updateFails_over]
  · next h => simpa using h

theorem State.endUpdCmd_w1c (s : State) (n st o : Nat) : (s.endUpdCmd n st).w1c o = s.w1c o := by
  unfold State.endUpdCmd
  split
  · rfl
  · exact State.log_w1c ..

end Sys2Proof.Machine

namespace Sys2Proof.Machine

/-! ## Events of a slot (R69 to R77) -/

/-- A frame reached through one that leaves no more of the state. -/
theorem State.Within.inside {put put' : State → State → State} (sub : ∀ s t u, put' (put s t) u = put' s u) {s t u : State} (h : s.Within put t) (k : t.Within put' u) : s.Within put' u :=
  Eq.trans k ((congrArg (put' · u) h).trans (sub s t u))

theorem State.Within.carts_eq {s t : State} (h : s.Within putSlots t) : t.seqs = s.seqs ∧ t.shelf = s.shelf := by
  have e : t = putSlots s t := h
  rw [e]
  exact ⟨rfl, rfl⟩

section
variable {n : Nat} {s : State}

theorem execPresenceLow_live (hn : n < s.part.slots) (live : s.pinsLive = true) :
    execPresenceLow n s = .next (s.modSlot n (fun x => { x with prsntLow := true, st := if x.st = .empty then .debounce else x.st })) := by
  have porst : s.pwr.porst ≠ false := fun h => by simp [State.pinsLive, h] at live
  rw [execPresenceLow, onSlot_ok hn]
  refine congrArg _ ?_
  rw [if_neg porst, if_neg (by simp [live])]

/-! ### Insertion -/

/-- A cartridge is seen: its event is raised, and it waits for power. -/
def State.seen (s : State) (n : Nat) : State :=
  (((s.modSlot n (fun x => { x with prsnt := true, lostMember := false })).slotEvent n 0).log 0x0301 [n]).askPower n

theorem State.seen_slot (s : State) (n : Nat) : ((s.seen n).slot n).st = .powering ∧ ((s.seen n).slot n).waitPower = true ∧ ((s.seen n).slot n).prsnt = true := by
  simp only [State.seen, State.askPower, State.modSlot_self, true_and]
  rw [State.log_slot, State.slotEvent_same (π := Slot.prsnt) (fun _ => rfl), State.modSlot_self]

theorem State.seen_other (s : State) (n : Nat) {k : Nat} (h : k ≠ n) : (s.seen n).slot k = s.slot k := by
  rw [State.seen, State.askPower, State.modSlot_other _ _ _ _ h, State.log_slot, State.slotEvent_other _ _ _ h, State.modSlot_other _ _ _ _ h]

theorem State.seen_raises (s : State) (n : Nat) : ((s.seen n).w1c (dwCART n + 0x40)).testBit 0 = true := by
  refine (congrArg (Nat.testBit · 0) (State.log_w1c _ _ _ _)).trans ?_
  exact State.slotEvent_raises _ _ _

theorem State.seen_within (s : State) (n : Nat) : s.Within putSlots (s.seen n) :=
  (((s.within_refl.modSlot n _).slotEvent n 0).log _ _).modSlot n _

theorem State.seatCart_slots (s : State) (n : Nat) (which : Option Nat) : (s.seatCart n which).slots = s.slots ∧ (s.seatCart n which).dw = s.dw := by
  cases which <;> exact ⟨rfl, rfl⟩

/-- What an insertion may move. -/
def putInsertion (s t : State) : State := { putSlots s t with seqs := t.seqs, shelf := t.shelf }

theorem State.seatCart_within (s : State) (n : Nat) (which : Option Nat) : s.Within putInsertion (s.seatCart n which) := by
  cases which <;> rfl

theorem State.seatCart_seqOf (s : State) (n c : Nat) : (s.seatCart n (some c)).seqOf n = s.shelf.away.get seq0 c :=
  State.modSeq_self (s := s) n (fun _ => s.shelf.away.get seq0 c)

theorem execCartInserted_seen {which : Option Nat} (hn : n < s.part.slots) (live : s.pinsLive = true) (st : (s.slot n).st = .debounce) (low : (s.slot n).prsntLow = true) :
    execCartInserted ⟨n, which⟩ s = .next ((s.seen n).seatCart n which) := by
  rw [execCartInserted]
  dsimp only
  rw [onSlot_ok hn]
  refine congrArg _ ?_
  exact if_neg (by simp [live, st, low])

/-! ### Removal -/

theorem State.shelve_slot (s : State) (n k : Nat) : (s.shelve n).slot k = s.slot k := by
  simp only [State.shelve]
  split <;> rfl

theorem State.shelve_seqOf (s : State) (n : Nat) : (s.shelve n).seqOf n = {} := State.modSeq_self ..

/-- A slot that nothing stands in. -/
structure State.Vacant (s : State) (n : Nat) : Prop where
  st : (s.slot n).st = .empty
  prsnt : (s.slot n).prsnt = false
  desc : (s.slot n).desc = []
  serial : (s.slot n).serial = 0
  seq : s.seqOf n = {}

/-- A removal ends with the slot vacant, its event raised and logged. -/
theorem State.cartGone_ends (h : (s.slot n).st ≠ .empty) : ∃ u : State, u.Vacant n ∧ s.cartGone n = ((u.slotEvent n 1).log 0x0302 [n, (s.slot n).st.code]).endUpdCmd n 0xFF := by
  simp only [State.cartGone]
  rw [if_neg (fun c => h c.1)]
  refine ⟨_, ?_, rfl⟩
  constructor
  case seq => exact State.shelve_seqOf ..
  all_goals
    rw [State.shelve_slot]
    simp only [State.slot, State.modSlot, Cells.mod, Cells.get_put_self]

theorem State.Vacant.gone {u : State} (h : u.Vacant n) (ps : List Nat) (st : Nat) : (((u.slotEvent n 1).log 0x0302 ps).endUpdCmd n st).Vacant n := by
  have idle := ((u.slotEvent n 1).log 0x0302 ps).endUpdCmd_idle n st
  rw [State.log_slot] at idle
  have same {β : Type} {π : Slot → β} (hi : ∀ x : Slot, π x.idle = π x) (hq : ∀ x : Slot, π x.quiet = π x) : π ((((u.slotEvent n 1).log 0x0302 ps).endUpdCmd n st).slot n) = π (u.slot n) := by
    rw [← hi, idle, hi, State.slotEvent_same hq]
  refine ⟨(same (fun _ => rfl) fun _ => rfl).trans h.st, (same (fun _ => rfl) fun _ => rfl).trans h.prsnt, (same (fun _ => rfl) fun _ => rfl).trans h.desc,
    (same (fun _ => rfl) fun _ => rfl).trans h.serial, ?_⟩
  have within := ((u.within_refl.slotEvent n 1).log 0x0302 ps).endUpdCmd n st
  rw [State.seqOf, within.carts_eq.1]
  exact h.seq

theorem execCartRemoved_live (hn : n < s.part.slots) (live : s.pinsLive = true) : execCartRemoved n s = .next (s.cartGone n) := by
  have porst : s.pwr.porst ≠ false := fun h => by simp [State.pinsLive, h] at live
  rw [execCartRemoved, onSlot_ok hn]
  refine congrArg _ ?_
  rw [if_neg porst, if_neg (by simp [live])]

/-! ### Alerts and time-outs -/

/-- An alert is seen. -/
def State.alerted (s : State) (n : Nat) : State := (s.modSlot n (fun x => { x with alert := true })).slotEvent n 7

/-- An alert's health data is asked for, where the cartridge has power. -/
def State.askHealth (s : State) (n : Nat) : State := if (s.slot n).pwren then s.send n 0x50 { tag := 0 } .health else s

theorem execCartAlert_live (hn : n < s.part.slots) (live : s.pinsLive = true) (low : (s.slot n).prsntLow = true) : execCartAlert n s = .next ((s.alerted n).askHealth n) := by
  rw [execCartAlert, onSlot_ok hn]
  refine congrArg _ ?_
  exact if_neg (by simp [live, low])

theorem State.askHealth_rest (s : State) (n : Nat) : s.askHealth n = { s with slots := (s.askHealth n).slots } := by
  unfold State.askHealth
  split <;> rfl

theorem State.askHealth_alert (s : State) (n : Nat) : ((s.askHealth n).slot n).alert = (s.slot n).alert := by
  unfold State.askHealth
  split
  · exact State.send_same (π := Slot.alert) (fun _ => rfl) ..
  · rfl

theorem State.askHealth_waits (h : (s.slot n).pwren = true) : ((s.askHealth n).slot n).waits (fun p => p = .health) = true := by
  rw [State.askHealth, if_pos h, State.send_waits]
  simp

theorem execGetHealthTimeout_lost (hn : n < s.part.slots) (h : (s.slot n).waits (fun p => p = .health) = true) : execGetHealthTimeout n s = .next (s.healthLost n) := by
  rw [execGetHealthTimeout, onSlot_ok hn]
  refine congrArg _ ?_
  exact if_pos h

/-- No GET_HEALTH is waited for any more. -/
theorem State.healthLost_waits (s : State) (n : Nat) : ((s.healthLost n).slot n).waits (fun p => p = .health) = false := by
  rw [State.healthLost, State.log_slot, State.modSlot_self]
  simp only [Slot.waits, Bool.or_eq_false_iff, List.any_eq_false, List.mem_map, List.mem_filter]
  refine ⟨?_, fun o h => by simpa using h.2⟩
  rintro _ ⟨e, _, rfl⟩
  split <;> simp [*]

theorem execCartPowerTimeout_late (hn : n < s.part.slots) (st : (s.slot n).st = .powering) (on : (s.slot n).pwren = true) :
    execCartPowerTimeout n s = .next ((s.log 0x030F [n, 0]).reject n 7) := by
  rw [execCartPowerTimeout, onSlot_ok hn]
  refine congrArg _ ?_
  exact if_pos ⟨st, on⟩

theorem execTrainingTimeout_late (hn : n < s.part.slots) (st : (s.slot n).st = .training) : execTrainingTimeout n s = .next ((s.log 0x030F [n, 1]).reject n 8) := by
  rw [execTrainingTimeout, onSlot_ok hn]
  refine congrArg _ ?_
  exact if_pos st

theorem execFarEndSignal_heard (hn : n < s.part.slots) (on : (s.slot n).pwren = true) (ph : (s.slot n).phase = 1) :
    execFarEndSignal n s = .next (s.modSlot n (fun x => { x with phase := 2, mgmtDue := true, st := if x.st = .powering then .training else x.st })) := by
  rw [execFarEndSignal, onSlot_ok hn]
  refine congrArg _ ?_
  exact if_neg (by simp [on, ph])

/-! ### PWR_OFF and PWR_ON (R74) -/

section
variable {p : Path} (hn : n < 64) (r : s.reach p (dwCART n + 4) = .ok)
include hn r

theorem execPwrOff_reached : execPwrOff p n s = .next (s.pwrOff n) := by
  rw [execPwrOff, if_neg (by omega), winWrite_ok r]

theorem execPwrOn_reached : execPwrOn p n s = .next (s.pwrOn n) := by
  rw [execPwrOn, if_neg (by omega), winWrite_ok r]

end

theorem State.pwrOff_starting (h : (s.slot n).st ∈ [SlotSt.debounce, .powering, .training]) : s.pwrOff n = s.powerOffDone n := by
  simp only [List.mem_cons, List.not_mem_nil, or_false] at h
  rcases h with h | h | h <;> simp only [State.pwrOff, h]

/-- The states in which PWR_OFF shuts the cartridge down first. -/
def shutFirst : List SlotSt := [.admitting, .quarantined, .admitted, .rejected, .readyRemove, .failed]

/-- What PWR_OFF ends before SHUTDOWN: the identity exchange, or the update of the sequencer. -/
def State.stopped (s : State) (n : Nat) : State := if (s.slot n).st = .admitting then s.modSlot n (fun x => x.dropCmds Purpose.identity) else s.failUpdate n 0xFF

theorem State.pwrOff_shuts (h : (s.slot n).st ∈ shutFirst) : s.pwrOff n = (s.stopped n).shutAndOff n := by
  simp only [shutFirst, List.mem_cons, List.not_mem_nil, or_false] at h
  unfold State.stopped
  rcases h with h | h | h | h | h | h <;> simp [State.pwrOff, h]

theorem State.pwrOff_logged (h : (s.slot n).st ∈ [SlotSt.inService, .draining, .empty, .off]) : s.pwrOff n = s.log 0x0312 [n, (s.slot n).st.code] := by
  simp only [List.mem_cons, List.not_mem_nil, or_false] at h
  rcases h with h | h | h | h <;> simp only [State.pwrOff, h]

theorem State.pwrOn_asks (h : (s.slot n).st ∈ [SlotSt.off, .rejected, .failed]) : s.pwrOn n = s.askPower n := by
  simp only [List.mem_cons, List.not_mem_nil, or_false] at h
  rcases h with h | h | h <;> simp only [State.pwrOn, h]

theorem State.pwrOn_logged (h : (s.slot n).st ∉ [SlotSt.off, .rejected, .failed]) : s.pwrOn n = s.log 0x0312 [n, (s.slot n).st.code] := by
  simp only [List.mem_cons, List.not_mem_nil, or_false, not_or] at h
  simp only [State.pwrOn]
  split <;> simp_all

theorem State.stopped_same {β : Type} {π : Slot → β} (hb : ∀ x : Slot, π x.bare = π x) (hi : ∀ x : Slot, π x.idle = π x) (s : State) (n : Nat) : π ((s.stopped n).slot n) = π (s.slot n) := by
  unfold State.stopped
  split
  · rw [State.modSlot_self, Slot.dropCmds_same hb]
  · rw [← hi, State.failUpdate_idle, hi]

theorem State.stopped_other (s : State) (n : Nat) {k : Nat} (h : k ≠ n) : (s.stopped n).slot k = s.slot k := by
  unfold State.stopped
  split
  · exact State.modSlot_other _ _ _ _ h
  · exact State.failUpdate_other _ _ _ h

theorem State.stopped_within (s : State) (n : Nat) : s.Within putSlots (s.stopped n) := by
  unfold State.stopped
  split
  · rfl
  · exact s.within_refl.failUpdate n _

theorem State.stopped_idle (h : (s.slot n).updating = false) : s.stopped n = { s with slots := (s.stopped n).slots } := by
  have none : s.failUpdate n 0xFF = s := if_neg (by simp [h])
  unfold State.stopped
  rw [none]
  split <;> rfl

/-- An update in progress goes on only while its cartridge is admitted again. -/
theorem State.stopped_updating (s : State) (n : Nat) : ((s.stopped n).slot n).updating = ((s.slot n).updating && decide ((s.slot n).st = .admitting)) := by
  unfold State.stopped
  split
  next h => rw [State.modSlot_self, Slot.dropCmds_same (π := Slot.updating) (fun _ => rfl), decide_eq_true h, Bool.and_true]
  next h => rw [State.failUpdate_over, decide_eq_false h, Bool.and_false]

theorem State.shutAndOff_up (h : (s.slot n).phase = 5) : s.shutAndOff n = (s.modSlot n (fun x => { x with offAfterShutdown := true })).send n 0x7F { tag := 0 } .shutdown := if_pos h

theorem State.shutAndOff_down (h : (s.slot n).phase ≠ 5) : s.shutAndOff n = s.powerOffDone n := if_neg h

end

/-! ### Lanterns and event enables (R77, R106) -/

/-- A sum of flags at distinct places has the flags as its bits. -/
theorem sum_flags (f : Nat → Bool) (k : Nat) : ((List.range k).map (fun n => flag (f n) n)).sum < 2 ^ k ∧ ∀ i < k, (((List.range k).map (fun n => flag (f n) n)).sum).testBit i = f i := by
  induction k with
  | zero => simp
  | succ k ih =>
    obtain ⟨small, bits⟩ := ih
    rw [List.range_succ, List.map_append, List.sum_append, List.map_singleton, List.sum_singleton]
    cases hf : f k
    · rw [show flag false k = 0 from rfl, Nat.add_zero]
      refine ⟨by omega, fun i hi => ?_⟩
      by_cases here : i = k
      · rw [here, hf, Nat.testBit_lt_two_pow small]
      · exact bits i (by omega)
    · rw [show flag true k = 2 ^ k from rfl, Nat.add_comm]
      refine ⟨by omega, fun i hi => ?_⟩
      by_cases here : i = k
      · rw [here, hf, Nat.testBit_two_pow_add_eq, Nat.testBit_lt_two_pow small]
        rfl
      · rw [Nat.testBit_two_pow_add_gt (by omega), bits i (by omega)]

section
variable {n : Nat} {s : State}

theorem execLanternFrame_runs (powered : s.pwr.phase ≠ .held) (awake : s.sleepsFrom 2 = false) :
    execLanternFrame s = .next { s with pwr.lantern := BitVec.ofNat 64 (((List.range 64).map (fun n => flag (s.lanternOn n) n)).sum) } := by
  unfold State.sleepsFrom at awake
  unfold execLanternFrame
  refine if_neg (not_or.mpr ⟨powered, ?_⟩)
  split at awake
  · next k h => simpa [h] using awake
  · simp

/-- A slot whose turn for power has come. -/
def Slot.switchedOn (x : Slot) : Slot := { x with pwren := true, waitPower := false, phase := 1 }

/-- A slot is switched on, and what stands in it restarts. -/
def State.switchOn (s : State) (n : Nat) : State :=
  { (s.modSlot n Slot.switchedOn).modSeq n (fun q => q.powerUp s.shelf.next) with shelf.next := if (s.seqOf n).cart = 0 then s.shelf.next + 1 else s.shelf.next }

theorem State.switchOn_slot (s : State) (n : Nat) : (s.switchOn n).slot n = (s.slot n).switchedOn := State.modSlot_self (s := s) n Slot.switchedOn

theorem State.switchOn_seqOf (s : State) (n : Nat) : (s.switchOn n).seqOf n = (s.seqOf n).powerUp s.shelf.next :=
  State.modSeq_self (s := s) n (fun q => q.powerUp s.shelf.next)

theorem State.switchOn_other (s : State) {n k : Nat} (h : k ≠ n) : (s.switchOn n).slot k = s.slot k ∧ (s.switchOn n).seqOf k = s.seqOf k :=
  ⟨State.modSlot_other (s := s) n k Slot.switchedOn h, State.modSeq_other (s := s) n k (fun q => q.powerUp s.shelf.next) h⟩

theorem execPwrenRise_first {e : Nat × Slot} (first : (s.slots.filter (fun x => x.2.waitPower)).head? = some e) : execPwrenRise s = .next (s.switchOn e.1) := by
  simp only [execPwrenRise, first]
  rfl

theorem State.powerOffDone_waitPower (h : (s.slot n).st ≠ .draining) : ((s.powerOffDone n).slot n).waitPower = false := by
  rw [State.powerOffDone_eq h, State.modSlot_self]
  exact congrArg Slot.waitPower (s.powerDown_slot n)

/-- What EVENT_EN does where it turns on the bit of an event that stands: the slot's notes and its controllers have it. -/
def State.noteStanding (s : State) (n : Nat) : State :=
  if (s.slot n).aenOpen then s.modSlot n (fun x => { x with aenLate := true })
  else (s.modSlot n (fun x => { x with aenOpen := true })).aenManagers 0xC0

def State.noteIf (s : State) (n : Nat) (stands : Bool) : State := if stands then s.noteStanding n else s

theorem State.noteIf_rest (s : State) (n : Nat) (stands : Bool) : s.noteIf n stands = { s with slots := (s.noteIf n stands).slots, io := (s.noteIf n stands).io } := by
  unfold State.noteIf State.noteStanding
  split
  · split
    · rfl
    · rw [State.aenManagers_io]
      rfl
  · rfl

theorem execEventEnWrite_reached {p : Path} {v : Word} (hn : n < 64) (r : s.reach p (dwCART n + 0x44) = .ok) :
    let new := v.toNat &&& 0x7FF
    execEventEnWrite p n v s = .next ((s.setReg (dwCART n + 0x44) new).noteIf n
      ((List.range 11).any (fun i => new.testBit i && !(s.reg (dwCART n + 0x44)).testBit i && (s.w1c (dwCART n + 0x40)).testBit i))) := by
  rw [execEventEnWrite, if_neg (by omega), winWrite_ok r]
  rfl

end

/-- Settles O25: each event of a slot is its state equation, read off through what events, records and power-offs leave alone. -/
theorem slotEventsMoveTheSlot : Obligations.SlotEventsMoveTheSlot := by
  refine ⟨fun n s hn live => ?_, fun n which s hn live st low => ?_, fun e s first => ?_, fun n s hn live st => ?_, fun n s hn live low => ?_, fun n s hn h => ?_,
    fun n s hn st on => ?_, fun n s hn st => ?_, fun n s hn on ph => ?_, fun p n s hn r st => ?_, fun p n s hn r st idle ph => ?_, fun p n s hn r st ph => ?_, fun p n s hn r st => ?_,
    fun p n s hn r st => ?_, fun p n s hn r st => ?_, fun s powered awake => ?_, fun p n v s hn r => ?_⟩
  · refine ⟨_, execPresenceLow_live hn live, ?_⟩
    simp only [State.modSlot_self, true_and]
    exact ⟨fun k hk => State.modSlot_other _ _ _ _ hk, rfl⟩
  · refine ⟨_, execCartInserted_seen hn live st low, ?_⟩
    obtain ⟨slots, dw⟩ := (s.seen n).seatCart_slots n which
    obtain ⟨st', wait, prsnt⟩ := s.seen_slot n
    have slot (k : Nat) : ((s.seen n).seatCart n which).slot k = (s.seen n).slot k := congrArg (fun m => m.get slot0 k) slots
    rw [slot]
    refine ⟨st', wait, prsnt, ?_, fun k hk => (slot k).trans (s.seen_other n hk), ?_, ?_, ?_⟩
    · rw [State.w1c, dw]
      exact s.seen_raises n
    · rintro rfl
      exact (s.seen_within n).carts_eq
    · intro c hc
      rw [Option.mem_toList.mp hc, State.seatCart_seqOf, (s.seen_within n).carts_eq.2]
    · exact (s.seen_within n).inside (put' := putInsertion) (fun _ _ _ => rfl) (State.seatCart_within ..)
  · have slot := s.switchOn_slot e.1
    exact ⟨_, execPwrenRise_first first, congrArg Slot.pwren slot, congrArg Slot.waitPower slot, congrArg Slot.phase slot, s.switchOn_seqOf e.1, fun k hk => s.switchOn_other hk, rfl⟩
  · obtain ⟨u, vacant, gone⟩ := State.cartGone_ends st
    have left := vacant.gone [n, (s.slot n).st.code] 0xFF
    rw [← gone] at left
    refine ⟨_, execCartRemoved_live hn live, left.st, left.prsnt, left.desc, left.serial, ?_, left.seq⟩
    rw [gone, State.endUpdCmd_w1c, State.log_w1c, State.slotEvent_raises]
  · refine ⟨_, execCartAlert_live hn live low, ?_, ?_, fun on => ?_, fun o ho => ?_, ?_⟩
    · rw [State.askHealth_alert, State.alerted, State.slotEvent_same (π := Slot.alert) (fun _ => rfl), State.modSlot_self]
    · rw [State.askHealth_rest]
      exact State.slotEvent_raises _ n 7
    · refine State.askHealth_waits ?_
      rw [State.alerted, State.slotEvent_same (π := Slot.pwren) (fun _ => rfl), State.modSlot_self]
      exact on
    · rw [State.askHealth_rest]
      exact State.slotEvent_w1c_other _ n 7 ho
    · rw [State.askHealth_rest, State.alerted, State.slotEvent_rest]
      rfl
  · refine ⟨_, execGetHealthTimeout_lost hn h, s.healthLost_waits n, ?_, ?_, fun k hk => ?_, ?_⟩
    · rw [State.healthLost, State.log_slot, State.modSlot_self]
    · rw [State.healthLost, State.log_modSlot]
      rfl
    · rw [State.healthLost, State.log_slot, State.modSlot_other _ _ _ _ hk]
    · rw [State.healthLost, State.log_rest]
      rfl
  · exact ⟨_, execCartPowerTimeout_late hn st on, congrArg Slot.st (State.reject_slot ..), congrArg Slot.reason (State.reject_slot ..), congrArg Slot.pwren (State.reject_slot ..),
      State.reject_raises .., (s.within_refl.log 0x030F [n, 0]).reject n 7⟩
  · exact ⟨_, execTrainingTimeout_late hn st, congrArg Slot.st (State.reject_slot ..), congrArg Slot.reason (State.reject_slot ..), congrArg Slot.pwren (State.reject_slot ..),
      State.reject_raises .., (s.within_refl.log 0x030F [n, 1]).reject n 8⟩
  · refine ⟨_, execFarEndSignal_heard hn on ph, ?_⟩
    simp only [State.modSlot_self, true_and]
    exact ⟨fun k hk => State.modSlot_other _ _ _ _ hk, rfl⟩
  · have wakes : (s.slot n).st ≠ .draining := fun d => by simp [d] at st
    refine ⟨_, execPwrOff_reached hn r, ?_⟩
    rw [State.pwrOff_starting st]
    obtain ⟨off, dark⟩ := s.powerOffDone_slot n
    exact ⟨off.trans (if_neg wakes), dark, State.powerOffDone_waitPower wakes, fun _ k hk => s.powerOffDone_other n hk, s.powerOffDone_rest n⟩
  · have down : ((s.stopped n).slot n).phase ≠ 5 := by rwa [State.stopped_same (π := Slot.phase) (fun _ => rfl) (fun _ => rfl)]
    have still : ((s.stopped n).slot n).st = (s.slot n).st := State.stopped_same (π := Slot.st) (fun _ => rfl) (fun _ => rfl) ..
    have wakes : ((s.stopped n).slot n).st ≠ .draining := fun d => by rw [still] at d; simp [d] at st
    refine ⟨_, execPwrOff_reached hn r, ?_⟩
    rw [State.pwrOff_shuts st, State.shutAndOff_down down]
    obtain ⟨off, dark⟩ := (s.stopped n).powerOffDone_slot n
    refine ⟨off.trans (if_neg wakes), dark, fun k hk => (State.powerOffDone_other _ _ hk).trans (s.stopped_other n hk), ?_⟩
    rw [State.powerOffDone_eq wakes, State.powerDown_quiet down, State.stopped_idle idle]
    rfl
  · have up : ((s.stopped n).slot n).phase = 5 := by rwa [State.stopped_same (π := Slot.phase) (fun _ => rfl) (fun _ => rfl)]
    refine ⟨_, execPwrOff_reached hn r, ?_⟩
    rw [State.pwrOff_shuts st, State.shutAndOff_up up]
    refine ⟨?_, ?_, ?_, fun k hk => ?_, ((s.stopped_within n).modSlot n _).send _ _ _ _ _⟩
    · rw [State.send_same (π := Slot.offAfterShutdown) (fun _ => rfl), State.modSlot_self]
    · rw [State.send_waits]
      simp
    · rw [State.send_same (π := Slot.updating) (fun _ => rfl), State.modSlot_self, ← s.stopped_updating n]
    · rw [State.send_other _ _ _ _ _ _ hk, State.modSlot_other _ _ _ _ hk, State.stopped_other _ _ hk]
  · rw [← State.pwrOff_logged st]
    exact execPwrOff_reached hn r
  · refine ⟨_, execPwrOn_reached hn r, ?_⟩
    rw [State.pwrOn_asks st]
    simp only [State.askPower, State.modSlot_self, true_and]
    exact ⟨fun k hk => State.modSlot_other _ _ _ _ hk, rfl⟩
  · rw [← State.pwrOn_logged st]
    exact execPwrOn_reached hn r
  · refine ⟨_, execLanternFrame_runs powered awake, fun n hn => ?_, rfl⟩
    rw [BitVec.getLsbD_ofNat, (sum_flags s.lanternOn 64).2 n hn, decide_eq_true hn, Bool.true_and]
  · refine ⟨_, execEventEnWrite_reached hn r, ?_⟩
    refine ⟨?_, ?_, ?_⟩
    · rw [State.reg, State.noteIf_rest]
      exact State.setReg_self ..
    · intro o ho
      rw [State.reg, State.noteIf_rest]
      exact State.setReg_other _ _ _ _ ho
    · rw [State.noteIf_rest]
      rfl

end Sys2Proof.Machine

namespace Sys2Proof.Machine

/-! ## What a root generation leaves alone (R191) -/

/-- A slot but for its commands and the place of its root. -/
def Slot.unrooted (x : Slot) : Slot := { x.bare with rootAt := none }

/-- What writing a root generation leaves alone: the slots but for their commands and roots, and the members of the pools. -/
def State.posture (s : State) : (Nat → Slot) × (Nat → List Member) := (fun k => (s.slot k).unrooted, fun p => (s.pool p).members)

theorem State.modSlot_posture (s : State) (n : Nat) {f : Slot → Slot} (h : ∀ x, (f x).unrooted = x.unrooted) : (s.modSlot n f).posture = s.posture := by
  refine Prod.ext (funext fun k => ?_) rfl
  by_cases hk : k = n
  · subst hk
    exact (congrArg Slot.unrooted (State.modSlot_self ..)).trans (h _)
  · exact congrArg Slot.unrooted (State.modSlot_other _ _ _ _ hk)

theorem State.modPool_posture (s : State) (p : Nat) {f : Pool → Pool} (h : ∀ q, (f q).members = q.members) : (s.modPool p f).posture = s.posture := by
  refine Prod.ext rfl (funext fun k => ?_)
  by_cases hk : k = p
  · subst hk
    exact (congrArg Pool.members (State.modPool_self ..)).trans (h _)
  · exact congrArg Pool.members (State.modPool_other _ _ _ _ hk)

theorem State.send_posture (s : State) (n op : Nat) (m : CartCmd) (w : Purpose) (fr : List (Nat × BitVec 36864)) : (s.send n op m w fr).posture = s.posture :=
  Prod.ext (funext fun k => State.send_same (π := Slot.unrooted) (fun _ => rfl) s n op m w fr k) rfl

theorem State.posture_ite {s t u : State} (c : Prop) [Decidable c] (h : s.posture = u.posture) (k : t.posture = u.posture) : (if c then s else t).posture = u.posture := by
  split
  · exact h
  · exact k

theorem State.eraseFor_posture (s : State) (pl : Place) (mode : Nat) (use : BlockSt) : (s.eraseFor pl mode use).posture = s.posture :=
  (State.posture_ite _ rfl (State.send_posture ..)).trans (State.posture_ite _ (State.modSlot_posture _ _ (fun _ => rfl)) rfl)

theorem State.poolCount_posture (s : State) (p off k : Nat) : (s.poolCount p off k).posture = s.posture :=
  State.modPool_posture _ _ fun _ => rfl

theorem State.countRestore_posture (s : State) (u : PUnit) : (s.countRestore u).posture = s.posture := by
  unfold State.countRestore
  split
  · rfl
  · have moved {t : State} (b : Nat) {f : Pool → Pool} (h : ∀ q, (f q).members = q.members) (off k : Nat) : ((t.poolCount b off k).modPool b f).posture = t.posture :=
      (State.modPool_posture _ b h).trans (t.poolCount_posture b off k)
    refine State.posture_ite _ rfl (State.posture_ite _ (State.poolCount_posture ..) (State.posture_ite _ (moved _ ?_ _ _) (Eq.trans (moved _ ?_ _ _) (moved _ ?_ _ _))))
    all_goals exact fun _ => rfl

theorem State.modUnit_posture (s : State) (uid : Nat) (f : PUnit → PUnit) : (s.modUnit uid f).posture = s.posture := rfl

theorem State.sendUnit_posture (s : State) (u : PUnit) : (s.sendUnit u).posture = s.posture := by
  unfold State.sendUnit
  exact (State.modUnit_posture ..).trans ((State.send_posture ..).trans (s.countRestore_posture u))

theorem State.pump_posture (s : State) : s.pump.posture = s.posture := by
  refine State.each_same (fun s uid => ?_) s _
  split
  · exact State.posture_ite _ (s.sendUnit_posture _) rfl
  · rfl

theorem State.recs_posture (s : State) (l : List DurRec) : ({ s with media.recs := l } : State).posture = s.posture := rfl

theorem State.putRoot_posture (s : State) (p : Nat) (g : RootGen) (k : Then) : (s.putRoot p g k).posture = s.posture := by
  unfold State.putRoot
  refine (State.pump_posture _).trans ((State.recs_posture _ _).trans (Eq.trans (State.modPool_posture _ _ ?_) ?_))
  · exact fun _ => rfl
  refine (State.each_same (π := State.posture) (fun s pl => State.each_same (π := State.posture) ?_ s _) _ _).trans ?_
  · exact fun s i => rfl
  refine (State.each_same (π := State.posture) (fun s pl => State.posture_ite _ (s.eraseFor_posture ..) rfl) _ _).trans ?_
  refine (State.each_same (π := State.posture) (fun s e => ?_) _ _).trans ?_
  · exact State.send_posture ..
  refine State.posture_ite _ rfl (State.modPool_posture _ _ ?_)
  exact fun _ => rfl

end Sys2Proof.Machine

namespace Sys2Proof.Machine

/-! ## Steps of an admission (R46 to R62) -/

theorem State.endUpdCmd_slot (s : State) (n st : Nat) : (s.endUpdCmd n st).slot n = { s.slot n with updCmd := none } := by
  unfold State.endUpdCmd
  split
  · next h => rw [← h]
  · refine (State.log_slot _ _ _ n).trans ?_
    rw [State.modSlot_self]

section
variable {n : Nat} {s : State}

/-! ### Checks that fail -/

/-- A slot turned away for a reason, with its power off. -/
def State.Turned (s : State) (n reason : Nat) : Prop := (s.slot n).st = .rejected ∧ (s.slot n).reason = reason ∧ (s.slot n).pwren = false

theorem State.reject_turned (s : State) (n r : Nat) : (s.reject n r).Turned n r :=
  have slot := s.reject_slot n r
  ⟨congrArg Slot.st slot, congrArg Slot.reason slot, congrArg Slot.pwren slot⟩

theorem State.authFail_admitting {r : Nat} (st : (s.slot n).st = .admitting) (fresh : (s.slot n).reauth = false) : s.authFail n r = ((s.updateFails n 0).reject n r).endUpdCmd n 0 := by
  simp [State.authFail, st, fresh, SlotSt.member]

/-- A check that fails turns a cartridge away that is being admitted. -/
theorem State.authFail_turned (st : (s.slot n).st = .admitting) (fresh : (s.slot n).reauth = false) (r : Nat) : (s.authFail n r).Turned n r ∧ s.Within putSlots (s.authFail n r) := by
  rw [State.authFail_admitting st fresh]
  refine ⟨?_, ((s.within_refl.updateFails n 0).reject n r).endUpdCmd n 0⟩
  unfold State.Turned
  rw [State.endUpdCmd_slot]
  exact State.reject_turned _ n r

theorem State.authFail_member {r : Nat} (st : (s.slot n).st.member = true) : s.authFail n r = s.failMember n 0x0C := if_pos st

theorem State.authFail_again {r : Nat} (st : (s.slot n).st = .admitted ∨ (s.slot n).st = .quarantined) (again : (s.slot n).reauth = true) : s.authFail n r = s.reject n 0x0C := by
  have outside : ¬(s.slot n).st.member = true := by rcases st with h | h <;> simp [h, SlotSt.member]
  exact (if_neg outside).trans (if_pos ⟨again, st⟩)

/-! ### Link-up and the identity exchange -/

theorem State.identify_waits (s : State) (n : Nat) : ((s.identify n).slot n).waits (fun p => p = .identify) = true := by
  rw [State.identify, State.send_waits]
  simp

theorem State.Within.identify {t : State} (h : s.Within putSlots t) (n : Nat) : s.Within putSlots (t.identify n) := (h.modSlot n _).send _ _ _ _ _

/-- The far end's parameters, but for the lanes that carry a pattern (R508). -/
def State.heardParams (s : State) (n : Nat) (lp : LinkParams) : LinkParams :=
  { lp with lane0 := lp.lane0 && !s.lanePattern (64 + 2 * n), lane1 := lp.lane1 && !s.lanePattern (65 + 2 * n) }

/-- A slot whose link came up with the parameters. -/
def Slot.linkedUp (x : Slot) (lp : LinkParams) : Slot :=
  { x with phase := 5, width := if lp.lane0 && lp.lane1 then 2 else 1, upWidth := if lp.lane0 && lp.lane1 then 2 else 1, lanes := flag lp.lane0 0 + flag lp.lane1 1
           depth := lp.cmdDepth, farPver := lp.pver, farBuf := lp.replayBuf, mgmtDue := false, syncDue := x.syncDue || x.st.member || x.st = .admitted
           st := if x.st = .training then .admitting else x.st }

/-- A link that comes up: its slot has the parameters, and IDENTIFY is on its way. -/
theorem State.linkIsUp_up {lp : LinkParams} (ver : lp.pver = 1) (locked : (lp.lane0 || lp.lane1) = true) : ∃ u : State, s.linkIsUp n lp = u.identify n ∧
    (u.slot n).quiet = ((s.slot n).linkedUp lp).quiet ∧ s.Within putSlots u := by
  have some : ¬((!lp.lane0 && !lp.lane1) = true) := by
    revert locked
    cases lp.lane0 <;> cases lp.lane1 <;> simp
  unfold State.linkIsUp
  rw [if_neg (by simp [ver]), if_neg some]
  have warned (t : State) (c : Prop) [Decidable c] (ps : List Nat) : ((if c then t.log 0x0308 ps else t).slot n).quiet = (t.slot n).quiet ∧ t.Within putSlots (if c then t.log 0x0308 ps else t) := by
    split
    · exact ⟨congrArg Slot.quiet (t.log_slot _ _ n), t.within_refl.log _ _⟩
    · exact ⟨rfl, rfl⟩
  have shown (t : State) (c : Bool) : ((if c then t.slotEvent n 6 else t).slot n).quiet = (t.slot n).quiet ∧ t.Within putSlots (if c then t.slotEvent n 6 else t) := by
    cases c
    · exact ⟨rfl, rfl⟩
    · exact ⟨t.slotEvent_slot n 6 n, t.within_refl.slotEvent n 6⟩
  refine ⟨_, rfl, ?_, ?_⟩
  · exact (shown ..).1.trans ((warned ..).1.trans (congrArg Slot.quiet (State.modSlot_self ..)))
  · exact (s.within_refl.modSlot n _).trans frames_putSlots ((warned ..).2.trans frames_putSlots (shown ..).2)

theorem State.linkIsUp_otherVersion {lp : LinkParams} (ver : lp.pver ≠ 1) (s : State) (n : Nat) : (s.linkIsUp n lp).Turned n 8 := by
  unfold State.linkIsUp
  rw [if_pos ver]
  exact State.reject_turned _ n 8

theorem execLinkUp_heard {lp : LinkParams} (hn : n < s.part.slots) (lo : 2 ≤ (s.slot n).phase) (hi : (s.slot n).phase ≤ 4) (on : (s.slot n).pwren = true) (trains : (s.seqOf n).noTrain = false) :
    execLinkUp n lp s = .next (s.linkIsUp n (s.heardParams n lp)) := by
  rw [execLinkUp, onSlot_ok hn]
  refine congrArg _ ?_
  exact if_pos ⟨lo, hi, on, trains⟩

theorem execIdentifyTimeout_late (hn : n < s.part.slots) (h : (s.slot n).waits (fun p => p = .identify) = true) : execIdentifyTimeout n s = .next (s.authFail n 4) := by
  rw [execIdentifyTimeout, onSlot_ok hn]
  refine congrArg _ ?_
  exact if_pos h

theorem execAuthTimeout_late (hn : n < s.part.slots) (h : (s.slot n).waits (fun p => p = .challenge) = true) : execAuthTimeout n s = .next (s.authFail n 1) := by
  have waits : (s.slot n).waits (fun p => p.identity && p ≠ .identify && p ≠ .sync) = true := by
    simp only [Slot.waits, Bool.or_eq_true, List.any_eq_true, decide_eq_true_eq] at h ⊢
    rcases h with ⟨o, mem, why⟩ | ⟨o, mem, why⟩
    · exact .inl ⟨o, mem, by rw [why]; decide⟩
    · exact .inr ⟨o, mem, by rw [why]; decide⟩
  rw [execAuthTimeout, onSlot_ok hn]
  refine congrArg _ ?_
  exact if_pos waits

/-! ### The descriptor (R47 to R49) -/

/-- IDENTIFY is answered. -/
def State.identified (s : State) (n : Nat) : State := s.modSlot n (fun x => x.dropCmds (fun p => p = .identify))

/-- A slot keeps an accepted descriptor, with the policy that governs this admission (R57); `cls` is the class of the descriptor. -/
def Slot.described (x : Slot) (d : List Byte) (cls : List Nat) (policy : Nat) (issuers : List Nat) : Slot :=
  { x with desc := d, serial := leAt d 24 16, fwVer := leAt d 40 8, classChg := x.reauth && x.cls ≠ cls, polClass := policy, polIssuers := issuers }

theorem Slot.described_waits (x : Slot) (d : List Byte) (cls : List Nat) (policy : Nat) (issuers : List Nat) (p : Purpose → Bool) : (x.described d cls policy issuers).waits p = x.waits p := rfl

theorem State.modSeq_slot (s : State) (n : Nat) (f : Seq → Seq) (k : Nat) : (s.modSeq n f).slot k = s.slot k := rfl

/-- An accepted descriptor is kept, by the slot and by its sequencer. -/
def State.described (s : State) (n : Nat) (d : List Byte) : State :=
  ((s.identified n).modSlot n (fun x => x.described d ({ s.slot n with desc := d } : Slot).cls s.gbk.polClass s.gbk.polIssuers)).modSeq n (fun q => { q with desc := if q.desc.isEmpty then d else q.desc })

theorem State.described_slot (s : State) (n : Nat) (d : List Byte) : (s.described n d).slot n =
    ((s.slot n).dropCmds (fun p => p = .identify)).described d ({ s.slot n with desc := d } : Slot).cls s.gbk.polClass s.gbk.polIssuers := by
  rw [State.described, State.modSeq_slot, State.modSlot_self, State.identified, State.modSlot_self]

theorem State.described_other (s : State) (d : List Byte) {k : Nat} (h : k ≠ n) : (s.described n d).slot k = s.slot k := by
  rw [State.described, State.modSeq_slot, State.modSlot_other _ _ _ _ h, State.identified, State.modSlot_other _ _ _ _ h]

/-- IDENTIFY is no longer waited for. -/
theorem State.described_waits (s : State) (n : Nat) (d : List Byte) : ((s.described n d).slot n).waits (fun p => p = .identify) = false := by
  rw [State.described_slot, Slot.described_waits, Slot.dropCmds_waits]
  simp [Slot.waits]

/-- What follows an accepted descriptor. -/
def State.afterDescriptor (s : State) (n : Nat) (d : List Byte) (again : Bool) (cls : Nat) : State :=
  if s.gbk.polDeny.contains (leAt d 24 16) then s.authFail n 3
  else if leAt d 92 1 = 0 then (if cls ≠ 3 then s.authFail n 2 else if again then s.authPass n false else s.send n 0x31 { tag := 0 } .admitLife)
  else (s.send n 0x02 { tag := 0, arg := 0 } (.cert 0)).send n 0x02 { tag := 0, arg := 1 } (.cert 1)

section
variable {d : List Byte} (hn : n < s.part.slots) (h : (s.slot n).waits (fun p => p = .identify) = true)
include hn h

theorem execDescriptorReceived_bad (bad : descOk d = false) : execDescriptorReceived n d s = .next ((s.identified n).authFail n 4) := by
  rw [execDescriptorReceived, onSlot_ok hn]
  refine congrArg _ ?_
  exact (if_neg (by simp [h])).trans (if_pos bad)

theorem execDescriptorReceived_kept (ok : descOk d = true) (same : (s.slot n).reauth = true → (s.slot n).serial = leAt d 24 16) :
    execDescriptorReceived n d s = .next ((s.described n d).afterDescriptor n d (s.slot n).reauth s.gbk.polClass) := by
  rw [execDescriptorReceived, onSlot_ok hn]
  refine congrArg _ ?_
  refine (if_neg (by simp [h])).trans ?_
  refine (if_neg (by simp [ok])).trans ?_
  refine (if_neg (fun c => c.2 (same c.1))).trans ?_
  rfl

end

end

end Sys2Proof.Machine

namespace Sys2Proof.Machine

/-! ## An admission that succeeds (R53, R59, R65) -/

/-- A slot but for its commands and events, the warnings of its life and its SYNC. -/
def Slot.steady (x : Slot) : Slot := { x.quiet.bare with lifeFlags := 0, lastSync := [], syncDue := false }

theorem Slot.feed_same {β : Type} {π : Slot → β} (h : ∀ x : Slot, π x.bare = π x) (x : Slot) (k : Nat) : π (x.feed k) = π x := by
  rw [← h, x.feed_bare, h]

section
variable {n : Nat} {s : State}

/-! ### Life (R65, R66) -/

/-- A cartridge that nears its life's end is named once. -/
def State.warnLife (s : State) (n : Nat) : State :=
  if (s.slot n).life ≥ 800 ∧ (s.slot n).lifeFlags.testBit 0 = false then
    ((s.modSlot n (fun x => { x with lifeFlags := x.lifeFlags ||| 1 })).slotEvent n 8).log 0x030C [n, (s.slot n).life]
  else s

/-- Outside a pool no drain follows. -/
theorem State.lifeCheck_outside (h : (s.slot n).st = .admitted) : s.lifeCheck n = s.warnLife n := by
  have out : ¬((s.slot n).st = .inService ∨ (s.slot n).st = .draining) := by simp [h]
  exact (if_neg fun c => out c.2.2).trans (if_neg fun c => out c.2.2)

theorem State.warnLife_steady (s : State) (n : Nat) : ((s.warnLife n).slot n).steady = (s.slot n).steady := by
  unfold State.warnLife
  split
  · rw [State.log_slot, State.slotEvent_same (π := Slot.steady) (fun _ => rfl), State.modSlot_self]
    rfl
  · rfl

theorem State.Within.warnLife {t : State} (h : s.Within putSlots t) (n : Nat) : s.Within putSlots (t.warnLife n) := by
  unfold State.warnLife
  split
  · exact ((h.modSlot n _).slotEvent n 8).log _ _
  · exact h

/-- A warning clears no event. -/
theorem State.warnLife_raised (s : State) (n : Nat) {b : Nat} (h : (s.w1c (dwCART n + 0x40)).testBit b = true) : ((s.warnLife n).w1c (dwCART n + 0x40)).testBit b = true := by
  unfold State.warnLife
  split
  · rw [State.log_w1c, State.slotEvent_w1c, State.raise_self, Nat.testBit_or]
    exact Bool.or_eq_true_iff.mpr (.inl h)
  · exact h

/-! ### Admission outside a pool -/

/-- A slot that enters `ADMITTED`. -/
def Slot.admitted (x : Slot) : Slot := { x with st := .admitted, media := [], lifeFlags := 0, diesFailed := [], updating := false, reauth := false }

theorem State.autoAdd_never (h : (s.slot n).lastPool = none) : s.autoAdd n = s := by
  unfold State.autoAdd
  dsimp only
  rw [h]

theorem State.admitSlot_outside (out : (s.slot n).pool = none) : ∃ ps, s.admitSlot n = (((s.modSlot n Slot.admitted).slotEvent n 2).log 0x0303 ps).autoAdd n :=
  ⟨_, if_neg (by simp [out])⟩

theorem Slot.st_of_admitted {x y : Slot} (h : x.steady = y.admitted.steady) : x.st = .admitted := congrArg Slot.st h

/-- A cartridge of no pool, now or before, is admitted. -/
theorem State.admitSlot_free (out : (s.slot n).pool = none) (never : (s.slot n).lastPool = none) :
    ∃ ps, s.admitSlot n = ((s.modSlot n Slot.admitted).slotEvent n 2).log 0x0303 ps := by
  obtain ⟨ps, admits⟩ := State.admitSlot_outside out
  refine ⟨ps, admits.trans (State.autoAdd_never ?_)⟩
  rw [State.log_slot, State.slotEvent_same (π := Slot.lastPool) (fun _ => rfl), State.modSlot_self]
  exact never

theorem State.compatStep_admits (idle : (s.slot n).updating = false) (st : (s.slot n).st = .admitting) (listed : s.compatSeq (s.slot n).model (s.slot n).fwVer = true) :
    s.compatStep n = s.admitSlot n := by
  unfold State.compatStep
  refine (if_neg (by simp [idle])).trans ?_
  exact (if_pos listed).trans (if_pos (.inl st))

theorem State.syncAfter_steady (s : State) (n : Nat) : ((s.syncAfter n).slot n).steady = (s.slot n).steady := by
  unfold State.syncAfter
  split
  · rw [State.sendSync, State.send_same (π := Slot.steady) (fun _ => rfl), State.modSlot_self, State.modSlot_self]
    rfl
  · rfl

/-- The slots of the second state, all else of the first. -/
def putSlotsOnly (s t : State) : State := { s with slots := t.slots }

theorem frames_putSlotsOnly : Frames putSlotsOnly := ⟨fun _ => rfl, fun _ _ _ => rfl⟩

/-- What moves less moves no more. -/
theorem State.Within.widen {put put' : State → State → State} {s t : State} (h : s.Within put t) (sub : ∀ s t, put' s (put s t) = put s t) : s.Within put' t :=
  calc t = put s t := h
    _ = put' s (put s t) := (sub s t).symm
    _ = put' s t := congrArg (put' s) h.symm

theorem State.modSlot_only (s : State) (n : Nat) (f : Slot → Slot) : s.Within putSlotsOnly (s.modSlot n f) := rfl

theorem State.send_only (s : State) (n op : Nat) (m : CartCmd) (w : Purpose) (fr : List (Nat × BitVec 36864)) : s.Within putSlotsOnly (s.send n op m w fr) := rfl

theorem State.sendSync_only (s : State) (n : Nat) : s.Within putSlotsOnly (s.sendSync n) := by
  unfold State.sendSync
  exact (State.modSlot_only ..).trans frames_putSlotsOnly (State.send_only ..)

theorem State.syncAfter_only (s : State) (n : Nat) : s.Within putSlotsOnly (s.syncAfter n) := by
  unfold State.syncAfter
  split
  · exact (State.modSlot_only ..).trans frames_putSlotsOnly (State.sendSync_only ..)
  · rfl

theorem State.syncAfter_w1c (s : State) (n o : Nat) : (s.syncAfter n).w1c o = s.w1c o :=
  calc (s.syncAfter n).w1c o = (putSlotsOnly s (s.syncAfter n)).w1c o := congrArg (State.w1c · o) (s.syncAfter_only n)
    _ = s.w1c o := rfl

theorem State.Within.syncAfter {t : State} (h : s.Within putSlots t) (n : Nat) : s.Within putSlots (t.syncAfter n) := by
  exact h.trans frames_putSlots ((t.syncAfter_only n).widen fun _ _ => rfl)

/-- A cartridge of no pool, now or before, is in `ADMITTED` once it has been admitted, with its event raised. -/
theorem State.admitSlot_ends (out : (s.slot n).pool = none) (never : (s.slot n).lastPool = none) :
    ((((s.admitSlot n).syncAfter n).lifeCheck n).slot n).steady = (s.slot n).admitted.steady ∧ ((((s.admitSlot n).syncAfter n).lifeCheck n).w1c (dwCART n + 0x40)).testBit 2 = true ∧
      s.Within putSlots (((s.admitSlot n).syncAfter n).lifeCheck n) := by
  obtain ⟨ps, admits⟩ := State.admitSlot_free out never
  have steady : (((s.admitSlot n).syncAfter n).slot n).steady = (s.slot n).admitted.steady := by
    rw [State.syncAfter_steady, admits, State.log_slot, State.slotEvent_same (π := Slot.steady) (fun _ => rfl), State.modSlot_self]
  rw [State.lifeCheck_outside (Slot.st_of_admitted steady), State.warnLife_steady]
  refine ⟨steady, State.warnLife_raised _ n ?_, ?_⟩
  · rw [State.syncAfter_w1c, admits, State.log_w1c, State.slotEvent_raises]
  · rw [admits]
    exact ((((s.within_refl.modSlot n Slot.admitted).slotEvent n 2).log 0x0303 ps).syncAfter n).warnLife n

/-- A slot that passed authentication and policy. -/
def Slot.passed (x : Slot) (auth : Bool) : Slot := ({ x with auth := auth, reauth := false, classChg := false } : Slot).feedAll

theorem State.authPass_admitting {auth : Bool} (same : (s.slot n).classChg = false) (st : (s.slot n).st = .admitting) :
    s.authPass n auth = ((s.modSlot n (fun x => x.passed auth)).compatStep n).syncAfter n := by
  unfold State.authPass
  exact (if_neg (by simp [same])).trans (if_neg (by simp [st, SlotSt.member]))

/-- A cartridge that is new to the node, and whose version the image lists, is admitted by the end of its authentication. -/
theorem State.authPass_admits {auth : Bool} (same : (s.slot n).classChg = false) (st : (s.slot n).st = .admitting) (idle : (s.slot n).updating = false)
    (out : (s.slot n).pool = none) (never : (s.slot n).lastPool = none) (listed : s.compatSeq (s.slot n).model (s.slot n).fwVer = true) :
    (((s.authPass n auth).lifeCheck n).slot n).steady = ((s.slot n).passed auth).admitted.steady ∧ (((s.authPass n auth).lifeCheck n).w1c (dwCART n + 0x40)).testBit 2 = true ∧
      s.Within putSlots ((s.authPass n auth).lifeCheck n) := by
  have passed : (s.modSlot n (fun x => x.passed auth)).slot n = (s.slot n).passed auth := State.modSlot_self ..
  have kept {β : Type} {π : Slot → β} (h : ∀ x : Slot, π x.bare = π x) (h' : ∀ x : Slot, π { x with auth := auth, reauth := false, classChg := false } = π x) :
      π ((s.modSlot n (fun x => x.passed auth)).slot n) = π (s.slot n) := by
    rw [passed]
    exact (Slot.feed_same h _ _).trans (h' _)
  have st' := (kept (π := Slot.st) (fun _ => rfl) fun _ => rfl).trans st
  have idle' := (kept (π := Slot.updating) (fun _ => rfl) fun _ => rfl).trans idle
  have out' := (kept (π := Slot.pool) (fun _ => rfl) fun _ => rfl).trans out
  have never' := (kept (π := Slot.lastPool) (fun _ => rfl) fun _ => rfl).trans never
  have listed' : (s.modSlot n (fun x => x.passed auth)).compatSeq ((s.modSlot n (fun x => x.passed auth)).slot n).model ((s.modSlot n (fun x => x.passed auth)).slot n).fwVer = true := by
    have model := kept (π := Slot.model) (fun _ => rfl) fun _ => rfl
    have ver := kept (π := Slot.fwVer) (fun _ => rfl) fun _ => rfl
    rw [model, ver]
    exact listed
  obtain ⟨steady, raised, within⟩ := State.admitSlot_ends out' never'
  rw [State.authPass_admitting same st, State.compatStep_admits idle' st' listed', ← passed]
  exact ⟨steady, raised, (s.within_refl.modSlot n _).trans frames_putSlots within⟩

/-! ### The proof of identity (R51) -/

/-- CHALLENGE is answered: nothing of the proof is waited for. -/
def State.proven (s : State) (n : Nat) : State := s.modSlot n (fun x => x.dropCmds (fun p => p = .challenge || (match p with | .cert _ => true | _ => false)))

theorem State.proven_same {β : Type} {π : Slot → β} (h : ∀ x : Slot, π x.bare = π x) (s : State) (n : Nat) : π ((s.proven n).slot n) = π (s.slot n) := by
  rw [State.proven, State.modSlot_self, Slot.dropCmds_same h]

section
variable {r : AuthResult} {life : Life} (hn : n < s.part.slots) (h : (s.slot n).waits (fun p => p = .challenge) = true)
include hn h

theorem execSignatureReceived_unproven (bad : (s.slot n).identityOk r = false) : execSignatureReceived n r life s = .next ((s.proven n).authFail n 1) := by
  rw [execSignatureReceived, onSlot_ok hn]
  refine congrArg _ ?_
  exact (if_neg (by simp [h])).trans (if_pos bad)

theorem execSignatureReceived_unallowed (ok : (s.slot n).identityOk r = true) (bad : (s.slot n).chainAllowed r = false) :
    execSignatureReceived n r life s = .next ((s.proven n).authFail n 2) := by
  rw [execSignatureReceived, onSlot_ok hn]
  refine congrArg _ ?_
  exact (if_neg (by simp [h])).trans ((if_neg (by simp [ok])).trans (if_pos bad))

theorem execSignatureReceived_passes (ok : (s.slot n).identityOk r = true) (allowed : (s.slot n).chainAllowed r = true) :
    execSignatureReceived n r life s = .next ((((s.proven n).setLife n life).authPass n true).lifeCheck n) := by
  rw [execSignatureReceived, onSlot_ok hn]
  refine congrArg _ ?_
  exact (if_neg (by simp [h])).trans ((if_neg (by simp [ok])).trans (if_neg (by simp [allowed])))

end

/-! ### Updates and life polls -/

theorem execSeqUpdateTimeout_fails (hn : n < s.part.slots) (busy : (s.slot n).updating = true) : execSeqUpdateTimeout n s = .next ((s.updateFails n 0xFF).endUpdCmd n 0xFF) := by
  rw [execSeqUpdateTimeout, onSlot_ok hn]
  refine congrArg _ ?_
  exact if_pos busy

theorem State.updateFails_updCmd (s : State) (n st : Nat) : ((s.updateFails n st).slot n).updCmd = (s.slot n).updCmd := by
  unfold State.updateFails
  split
  · rw [State.log_slot, State.modSlot_self]
  · rfl

/-- The command that asked for an update is answered. -/
theorem State.endUpdCmd_answers {id : CmdId} {st : Nat} (h : (s.slot n).updCmd = some id) : (s.endUpdCmd n st).lastAnswer = some (id, .success) := by
  simp [State.endUpdCmd, h]

theorem execLifePoll_heard {life : Life} (hn : n < s.part.slots) (h : (s.slot n).st = .admitted ∨ (s.slot n).st.member = true) :
    execLifePoll n life s = .next ((s.setLife n life).lifeCheck n) := by
  rw [execLifePoll, onSlot_ok hn]
  refine congrArg _ ?_
  exact if_pos h

/-! ### A drained member leaves its pool (R173) -/

/-- The pool without a member. -/
def Pool.without (q : Pool) (n : Nat) : Pool := { q with members := q.members.filter (fun m => m.slot ≠ n), migrated := drop' q.migrated n }

/-- The member is taken off its pool's list, and its die-blocks and journal are dropped. -/
def State.unlisted (s : State) (n p : Nat) : State :=
  let s := (s.log 0x0416 [p, n, (look (s.pool p).migrated n).getD 0]).modPool p (fun q => q.without n)
  ({ s with media.blocks := s.media.blocks.filter (fun e => e.1.slot ≠ n) } : State).dropJournal n

theorem State.unlisted_slot (s : State) (n p k : Nat) : (s.unlisted n p).slot k = s.slot k := s.log_slot _ _ k

theorem State.unlisted_members (s : State) (n p : Nat) : ((s.unlisted n p).pool p).members.any (fun m => m.slot = n) = false := by
  have members : ((s.unlisted n p).pool p).members = ((s.log 0x0416 [p, n, (look (s.pool p).migrated n).getD 0]).pool p).members.filter (fun m => m.slot ≠ n) :=
    congrArg Pool.members (State.modPool_self (s := s.log 0x0416 [p, n, (look (s.pool p).migrated n).getD 0]) p (fun q => q.without n))
  rw [members]
  simp

/-- A slot whose cartridge left its pool. -/
def Slot.left (x : Slot) (p : Nat) : Slot := { x with pool := none, lastPool := some p, slow := false }

/-- The member leaves its pool, and the pool's root says so. -/
def State.leavePool (s : State) (n p : Nat) : State := ((s.unlisted n p).modSlot n (fun x => x.left p)).writeRoot p .nothing

theorem State.writeRoot_posture (s : State) (p : Nat) (k : Then) : (s.writeRoot p k).posture = s.posture := s.putRoot_posture p _ k

theorem State.leavePool_posture (s : State) (n p : Nat) : (s.leavePool n p).posture = ((s.unlisted n p).modSlot n (fun x => x.left p)).posture :=
  State.writeRoot_posture _ p .nothing

theorem State.leavePool_slot (s : State) (n p : Nat) : ((s.leavePool n p).slot n).unrooted = ((s.slot n).left p).unrooted := by
  rw [show ((s.leavePool n p).slot n).unrooted = (s.leavePool n p).posture.1 n from rfl, State.leavePool_posture]
  have here : ((s.unlisted n p).modSlot n (fun x => x.left p)).slot n = (s.slot n).left p := by rw [State.modSlot_self, State.unlisted_slot]
  exact congrArg Slot.unrooted here

theorem State.leavePool_members (s : State) (n p : Nat) : ((s.leavePool n p).pool p).members.any (fun m => m.slot = n) = false := by
  have members (t : State) : t.posture.2 p = (t.pool p).members := rfl
  have unmoved (t : State) : (t.modSlot n (fun x => x.left p)).pool p = t.pool p := rfl
  rw [← members, State.leavePool_posture, members, unmoved]
  exact s.unlisted_members n p

theorem execMigrateDone_leaves {p : Nat} (hn : n < s.part.slots) (member : (s.slot n).pool = some p) (st : (s.slot n).st = .draining) (bare : s.holdsData n = false)
    (done : s.media.jrecs.any (fun j => j.host = n ∧ s.newestJ j) = false) :
    execMigrateDone n s = .next (if (s.slot n).drain = some .remove ∧ (s.slot n).lifeFlags.testBit 1 = false then
      ((s.leavePool n p).modSlot n (fun x => { x with st := .admitted, drain := none })).slotEvent n 2 else (s.leavePool n p).shutAndOff n) := by
  rw [execMigrateDone, onSlot_ok hn]
  refine congrArg _ ?_
  simp only [member]
  exact if_neg (by rw [done, st, bare]; simp)

end

end Sys2Proof.Machine

namespace Sys2Proof.Machine

/-! ## Admission step by step -/

section
variable {n : Nat} {s : State}

theorem Slot.same_of_quiet {β : Type} {π : Slot → β} (h : ∀ x : Slot, π x.quiet = π x) {x y : Slot} (e : x.quiet = y.quiet) : π x = π y := by
  rw [← h, e, h]

theorem Slot.same_of_steady {β : Type} {π : Slot → β} (h : ∀ x : Slot, π x.steady = π x) {x y : Slot} (e : x.steady = y.steady) : π x = π y := by
  rw [← h, e, h]

theorem Slot.same_of_idle {β : Type} {π : Slot → β} (h : ∀ x : Slot, π x.idle = π x) {x y : Slot} (e : x.idle = y.idle) : π x = π y := by
  rw [← h, e, h]

theorem Slot.same_of_unrooted {β : Type} {π : Slot → β} (h : ∀ x : Slot, π x.unrooted = π x) {x y : Slot} (e : x.unrooted = y.unrooted) : π x = π y := by
  rw [← h, e, h]

theorem State.identify_same {β : Type} {π : Slot → β} (h : ∀ x : Slot, π x.bare = π x) (h' : ∀ (x : Slot) a b, π { x with idDue := a, reauth := b } = π x) (s : State) (n : Nat) :
    π ((s.identify n).slot n) = π (s.slot n) := by
  rw [State.identify, State.send_same h, State.modSlot_self, Slot.dropCmds_same h, h']

/-- A slot whose link comes up has the parameters, waits for the descriptor, and is being admitted where it trained for it. -/
theorem State.linkIsUp_ends {lp : LinkParams} (ver : lp.pver = 1) (locked : (lp.lane0 || lp.lane1) = true) :
    let x := (s.linkIsUp n lp).slot n
    x.phase = 5 ∧ x.width = (if lp.lane0 && lp.lane1 then 2 else 1) ∧ x.depth = lp.cmdDepth ∧ x.farBuf = lp.replayBuf ∧ x.st = (if (s.slot n).st = .training then .admitting else (s.slot n).st) ∧
      x.waits (fun p => p = .identify) = true ∧ s.Within putSlots (s.linkIsUp n lp) := by
  obtain ⟨u, up, quiet, within⟩ := State.linkIsUp_up (s := s) (n := n) ver locked
  have has {β : Type} {π : Slot → β} (hb : ∀ x : Slot, π x.bare = π x) (hq : ∀ x : Slot, π x.quiet = π x) (hi : ∀ (x : Slot) a b, π { x with idDue := a, reauth := b } = π x) :
      π ((s.linkIsUp n lp).slot n) = π ((s.slot n).linkedUp lp) := by
    rw [up, State.identify_same hb hi, Slot.same_of_quiet hq quiet]
  refine ⟨has (π := Slot.phase) (fun _ => rfl) (fun _ => rfl) fun _ _ _ => rfl, has (π := Slot.width) (fun _ => rfl) (fun _ => rfl) fun _ _ _ => rfl,
    has (π := Slot.depth) (fun _ => rfl) (fun _ => rfl) fun _ _ _ => rfl, has (π := Slot.farBuf) (fun _ => rfl) (fun _ => rfl) fun _ _ _ => rfl,
    has (π := Slot.st) (fun _ => rfl) (fun _ => rfl) fun _ _ _ => rfl, ?_, ?_⟩
  · rw [up]
    exact u.identify_waits n
  · rw [up]
    exact within.identify n

/-! ### After an accepted descriptor -/

section
variable {d : List Byte} {again : Bool} {cls : Nat}

theorem State.afterDescriptor_denied (denied : s.gbk.polDeny.contains (leAt d 24 16) = true) : s.afterDescriptor n d again cls = s.authFail n 3 := if_pos denied

variable (listed : s.gbk.polDeny.contains (leAt d 24 16) = false)
include listed

theorem State.afterDescriptor_noCerts (none : leAt d 92 1 = 0) (strict : cls ≠ 3) : s.afterDescriptor n d again cls = s.authFail n 2 :=
  (if_neg (by rw [listed]; simp)).trans ((if_pos none).trans (if_pos strict))

theorem State.afterDescriptor_open (none : leAt d 92 1 = 0) : s.afterDescriptor n d false 3 = s.send n 0x31 { tag := 0 } .admitLife :=
  (if_neg (by rw [listed]; simp)).trans ((if_pos none).trans rfl)

theorem State.afterDescriptor_certs (some : leAt d 92 1 ≠ 0) :
    s.afterDescriptor n d again cls = (s.send n 0x02 { tag := 0, arg := 0 } (.cert 0)).send n 0x02 { tag := 0, arg := 1 } (.cert 1) :=
  (if_neg (by rw [listed]; simp)).trans (if_neg some)

end

theorem State.identified_same {β : Type} {π : Slot → β} (h : ∀ x : Slot, π x.bare = π x) (s : State) (n : Nat) : π ((s.identified n).slot n) = π (s.slot n) := by
  rw [State.identified, State.modSlot_self, Slot.dropCmds_same h]

/-- A descriptor changes neither the state of its slot nor whether the cartridge authenticates again. -/
theorem State.described_st (s : State) (n : Nat) (d : List Byte) : ((s.described n d).slot n).st = (s.slot n).st ∧ ((s.described n d).slot n).reauth = (s.slot n).reauth := by
  rw [State.described_slot]
  exact ⟨Slot.dropCmds_same (π := Slot.st) (fun _ => rfl) .., Slot.dropCmds_same (π := Slot.reauth) (fun _ => rfl) ..⟩

/-- What a kept descriptor leaves in its slot, whatever is sent then. -/
theorem State.described_keeps (s : State) (n : Nat) (d : List Byte) : let x := (s.described n d).slot n
    x.desc = d ∧ x.serial = leAt d 24 16 ∧ x.fwVer = leAt d 40 8 ∧ x.polClass = s.gbk.polClass ∧ x.polIssuers = s.gbk.polIssuers := by
  dsimp only
  rw [State.described_slot]
  exact ⟨rfl, rfl, rfl, rfl, rfl⟩

/-- The certificates are asked for. -/
def State.askCerts (s : State) (n : Nat) : State := (s.send n 0x02 { tag := 0, arg := 0 } (.cert 0)).send n 0x02 { tag := 0, arg := 1 } (.cert 1)

theorem State.askCerts_same {β : Type} {π : Slot → β} (h : ∀ x : Slot, π x.bare = π x) (s : State) (n k : Nat) : π ((s.askCerts n).slot k) = π (s.slot k) := by
  rw [State.askCerts, State.send_same h, State.send_same h]

theorem State.askCerts_waits (s : State) (n : Nat) (p : Purpose → Bool) : ((s.askCerts n).slot n).waits p = ((s.slot n).waits p || p (.cert 0) || p (.cert 1)) := by
  rw [State.askCerts, State.send_waits, State.send_waits]

theorem State.askCerts_other (s : State) {k : Nat} (h : k ≠ n) : (s.askCerts n).slot k = s.slot k := by
  rw [State.askCerts, State.send_other _ _ _ _ _ _ h, State.send_other _ _ _ _ _ _ h]

/-! ### After a proof that holds -/

/-- A slot with the counts of LIFE_READ (R65). -/
def Slot.counted (x : Slot) (l : Life) : Slot := { x with life := lifeUsed x l, retired := l.retired, lifeDead := l.failedDies }

theorem State.setLife_slot (s : State) (n : Nat) (l : Life) : (s.setLife n l).slot n = (s.slot n).counted l := State.modSlot_self ..

/-- A cartridge new to the node that proves its identity is admitted. -/
theorem State.proof_admits {life : Life} (st : (s.slot n).st = .admitting) (idle : (s.slot n).updating = false) (same : (s.slot n).classChg = false)
    (out : (s.slot n).pool = none) (never : (s.slot n).lastPool = none) (listed : s.compatSeq (s.slot n).model (s.slot n).fwVer = true) :
    let t := (((s.proven n).setLife n life).authPass n true).lifeCheck n
    (t.slot n).st = .admitted ∧ (t.slot n).auth = true ∧ (t.slot n).retired = life.retired ∧ (t.slot n).life = lifeUsed (s.slot n) life ∧
      (t.w1c (dwCART n + 0x40)).testBit 2 = true ∧ s.Within putSlots t := by
  have slot := (s.proven n).setLife_slot n life
  have kept {β : Type} {π : Slot → β} (h : ∀ x : Slot, π x.bare = π x) (h' : ∀ x : Slot, π (x.counted life) = π x) : π (((s.proven n).setLife n life).slot n) = π (s.slot n) := by
    rw [slot, h', State.proven_same h]
  have st' := (kept (π := Slot.st) (fun _ => rfl) fun _ => rfl).trans st
  have idle' := (kept (π := Slot.updating) (fun _ => rfl) fun _ => rfl).trans idle
  have same' := (kept (π := Slot.classChg) (fun _ => rfl) fun _ => rfl).trans same
  have out' := (kept (π := Slot.pool) (fun _ => rfl) fun _ => rfl).trans out
  have never' := (kept (π := Slot.lastPool) (fun _ => rfl) fun _ => rfl).trans never
  have model := kept (π := Slot.model) (fun _ => rfl) fun _ => rfl
  have ver := kept (π := Slot.fwVer) (fun _ => rfl) fun _ => rfl
  have listed' : ((s.proven n).setLife n life).compatSeq (((s.proven n).setLife n life).slot n).model (((s.proven n).setLife n life).slot n).fwVer = true := by
    rw [model, ver]
    exact listed
  obtain ⟨steady, raised, within⟩ := State.authPass_admits (auth := true) same' st' idle' out' never' listed'
  have has {β : Type} {π : Slot → β} (hs : ∀ x : Slot, π x.steady = π x) (hb : ∀ x : Slot, π x.bare = π x) (ha : ∀ x : Slot, π x.admitted = π x) :
      π (((((s.proven n).setLife n life).authPass n true).lifeCheck n).slot n) = π { ((s.proven n).slot n).counted life with auth := true, reauth := false, classChg := false } := by
    rw [Slot.same_of_steady hs steady, ha, Slot.passed, Slot.feedAll, Slot.feed_same hb, slot]
  refine ⟨Slot.st_of_admitted steady, has (π := Slot.auth) (fun _ => rfl) (fun _ => rfl) fun _ => rfl, has (π := Slot.retired) (fun _ => rfl) (fun _ => rfl) fun _ => rfl, ?_, raised, ?_⟩
  · exact (has (π := Slot.life) (fun _ => rfl) (fun _ => rfl) fun _ => rfl).trans (State.proven_same (π := fun x => lifeUsed x life) (fun _ => rfl) s n)
  · exact ((s.within_refl.modSlot n _).modSlot n _).trans frames_putSlots within

end

/-! ### Drained members -/

section
variable {n p : Nat} {s : State}

/-- A member back from its pool for REMOVE is admitted. -/
theorem State.leaves_admitted (h : (s.slot n).pool = none ∧ (s.slot n).lastPool = some p) (members : (s.pool p).members.any (fun m => m.slot = n) = false) :
    let t := (s.modSlot n (fun x => { x with st := .admitted, drain := none })).slotEvent n 2
    (t.slot n).pool = none ∧ (t.slot n).lastPool = some p ∧ (t.pool p).members.any (fun m => m.slot = n) = false ∧ (t.slot n).st = .admitted := by
  dsimp only
  rw [State.slotEvent_same (π := Slot.pool) (fun _ => rfl), State.slotEvent_same (π := Slot.lastPool) (fun _ => rfl), State.slotEvent_same (π := Slot.st) (fun _ => rfl), State.modSlot_self]
  refine ⟨h.1, h.2, ?_, rfl⟩
  rw [State.slotEvent_rest]
  exact members

theorem State.powerOffDone_unpooled (s : State) (n : Nat) : ((s.powerOffDone n).slot n).pool = (s.slot n).pool ∧ ((s.powerOffDone n).slot n).lastPool = (s.slot n).lastPool := by
  have pool : ((s.powerDown n).slot n).pool = (s.slot n).pool := (Slot.same_of_quiet (π := Slot.pool) (fun _ => rfl) (s.powerDown_slot n)).trans rfl
  have last : ((s.powerDown n).slot n).lastPool = (s.slot n).lastPool := (Slot.same_of_quiet (π := Slot.lastPool) (fun _ => rfl) (s.powerDown_slot n)).trans rfl
  simp only [State.powerOffDone]
  split
  · rw [State.slotEvent_same (π := Slot.pool) (fun _ => rfl), State.slotEvent_same (π := Slot.lastPool) (fun _ => rfl), State.modSlot_self]
    exact ⟨pool, last⟩
  · rw [State.modSlot_self]
    exact ⟨pool, last⟩

/-- A member back from its pool for any other cause is shut down. -/
theorem State.leaves_shut (h : (s.slot n).pool = none ∧ (s.slot n).lastPool = some p) (members : (s.pool p).members.any (fun m => m.slot = n) = false) (st : (s.slot n).st = .draining) :
    let t := s.shutAndOff n
    (t.slot n).pool = none ∧ (t.slot n).lastPool = some p ∧ (t.pool p).members.any (fun m => m.slot = n) = false ∧
      ((s.slot n).phase ≠ 5 → (t.slot n).st = .readyRemove ∧ (t.slot n).pwren = false) ∧
      ((s.slot n).phase = 5 → (t.slot n).offAfterShutdown = true ∧ (t.slot n).waits (fun p => p = .shutdown) = true) := by
  dsimp only
  by_cases up : (s.slot n).phase = 5
  · rw [State.shutAndOff_up up, State.send_same (π := Slot.pool) (fun _ => rfl), State.send_same (π := Slot.lastPool) (fun _ => rfl), State.send_same (π := Slot.offAfterShutdown) (fun _ => rfl),
      State.send_waits, State.modSlot_self]
    exact ⟨h.1, h.2, members, fun down => absurd up down, fun _ => ⟨rfl, by simp⟩⟩
  · obtain ⟨off, dark⟩ := s.powerOffDone_slot n
    obtain ⟨pool, last⟩ := s.powerOffDone_unpooled n
    rw [State.shutAndOff_down up, pool, last]
    refine ⟨h.1, h.2, ?_, fun _ => ⟨off.trans (if_pos st), dark⟩, fun c => absurd c up⟩
    rw [State.powerOffDone_rest]
    exact members

end

/-! ### The steps, each with what it leaves -/

/-- What an accepted descriptor and what is sent after it may move. -/
def putDescriptor (s t : State) : State := { s with slots := t.slots, seqs := t.seqs }

theorem frames_putDescriptor : Frames putDescriptor := ⟨fun _ => rfl, fun _ _ _ => rfl⟩

theorem State.modSeq_descriptor (s : State) (n : Nat) (f : Seq → Seq) : s.Within putDescriptor (s.modSeq n f) := rfl

theorem State.Within.descriptor {s t : State} (h : s.Within putSlotsOnly t) : s.Within putDescriptor t := h.widen fun _ _ => rfl

theorem State.described_within (s : State) (n : Nat) (d : List Byte) : s.Within putDescriptor (s.described n d) := by
  unfold State.described State.identified
  exact ((State.modSlot_only ..).descriptor.trans frames_putDescriptor (State.modSlot_only ..).descriptor).trans frames_putDescriptor (State.modSeq_descriptor ..)

theorem State.askCerts_only (s : State) (n : Nat) : s.Within putSlotsOnly (s.askCerts n) := by
  unfold State.askCerts
  exact (State.send_only ..).trans frames_putSlotsOnly (State.send_only ..)

section
variable {n : Nat} {s : State}

theorem execDescriptorReceived_certs {d : List Byte} (hn : n < s.part.slots) (h : (s.slot n).waits (fun p => p = .identify) = true) (ok : descOk d = true) (same : (s.slot n).reauth = true → (s.slot n).serial = leAt d 24 16)
    (listed : s.gbk.polDeny.contains (leAt d 24 16) = false) (certs : leAt d 92 1 ≠ 0) :
    ∃ t, execDescriptorReceived n d s = .next t ∧ (t.slot n).desc = d ∧ (t.slot n).serial = leAt d 24 16 ∧ (t.slot n).fwVer = leAt d 40 8 ∧
      (t.slot n).polClass = s.gbk.polClass ∧ (t.slot n).polIssuers = s.gbk.polIssuers ∧
      (t.slot n).waits (fun p => p = .cert 0) = true ∧ (t.slot n).waits (fun p => p = .cert 1) = true ∧ (t.slot n).waits (fun p => p = .identify) = false ∧
      (∀ k, k ≠ n → t.slot k = s.slot k) ∧ s.Within putDescriptor t := by
  refine ⟨_, execDescriptorReceived_kept hn h ok same, ?_⟩
  obtain ⟨desc, serial, fwVer, cls, issuers⟩ := s.described_keeps n d
  have listed' : (s.described n d).gbk.polDeny.contains (leAt d 24 16) = false := listed
  rw [State.afterDescriptor_certs listed' certs, ← State.askCerts]
  refine ⟨?_, ?_, ?_, ?_, ?_, ?_, ?_, ?_, fun k hk => (State.askCerts_other _ hk).trans (s.described_other d hk),
    (s.described_within n d).trans frames_putDescriptor (State.askCerts_only ..).descriptor⟩
  · rw [State.askCerts_same (π := Slot.desc) (fun _ => rfl), desc]
  · rw [State.askCerts_same (π := Slot.serial) (fun _ => rfl), serial]
  · rw [State.askCerts_same (π := Slot.fwVer) (fun _ => rfl), fwVer]
  · rw [State.askCerts_same (π := Slot.polClass) (fun _ => rfl), cls]
  · rw [State.askCerts_same (π := Slot.polIssuers) (fun _ => rfl), issuers]
  · rw [State.askCerts_waits]
    simp
  · rw [State.askCerts_waits]
    simp
  · rw [State.askCerts_waits, State.described_waits]
    simp

theorem execDescriptorReceived_turned {d : List Byte} (hn : n < s.part.slots) (h : (s.slot n).waits (fun p => p = .identify) = true) (st : (s.slot n).st = .admitting) (fresh : (s.slot n).reauth = false)
    (fails : descOk d = false ∨ s.gbk.polDeny.contains (leAt d 24 16) = true ∨ (leAt d 92 1 = 0 ∧ s.gbk.polClass ≠ 3)) :
    ∃ t, execDescriptorReceived n d s = .next t ∧ t.Turned n (if descOk d = false then 4 else if s.gbk.polDeny.contains (leAt d 24 16) = true then 3 else 2) := by
  obtain ⟨st', fresh'⟩ := s.described_st n d
  by_cases ok : descOk d = true
  · have kept := execDescriptorReceived_kept hn h ok (fun again => absurd again (by simp [fresh]))
    refine ⟨_, kept, ?_⟩
    have ok' : ¬descOk d = false := by simp [ok]
    rw [if_neg ok']
    by_cases denied : s.gbk.polDeny.contains (leAt d 24 16) = true
    · have denied' : (s.described n d).gbk.polDeny.contains (leAt d 24 16) = true := denied
      rw [if_pos denied, State.afterDescriptor_denied denied']
      exact (State.authFail_turned (st'.trans st) (fresh'.trans fresh) 3).1
    · obtain ⟨none, strict⟩ := (fails.resolve_left ok').resolve_left denied
      have listed : (s.described n d).gbk.polDeny.contains (leAt d 24 16) = false := Bool.eq_false_of_not_eq_true denied
      rw [if_neg denied, State.afterDescriptor_noCerts listed none strict]
      exact (State.authFail_turned (st'.trans st) (fresh'.trans fresh) 2).1
  · have bad : descOk d = false := Bool.eq_false_of_not_eq_true ok
    refine ⟨_, execDescriptorReceived_bad hn h bad, ?_⟩
    rw [if_pos bad]
    exact (State.authFail_turned ((State.identified_same (π := Slot.st) (fun _ => rfl) s n).trans st) ((State.identified_same (π := Slot.reauth) (fun _ => rfl) s n).trans fresh) 4).1

theorem execDescriptorReceived_open {d : List Byte} (hn : n < s.part.slots) (h : (s.slot n).waits (fun p => p = .identify) = true) (ok : descOk d = true) (fresh : (s.slot n).reauth = false)
    (listed : s.gbk.polDeny.contains (leAt d 24 16) = false) (none : leAt d 92 1 = 0) (open_ : s.gbk.polClass = 3) :
    ∃ t, execDescriptorReceived n d s = .next t ∧ (t.slot n).desc = d ∧ (t.slot n).waits (fun p => p = .admitLife) = true ∧ (t.slot n).st = (s.slot n).st ∧
      (∀ k, k ≠ n → t.slot k = s.slot k) ∧ s.Within putDescriptor t := by
  refine ⟨_, execDescriptorReceived_kept hn h ok (fun again => absurd again (by simp [fresh])), ?_⟩
  obtain ⟨desc, _⟩ := s.described_keeps n d
  have listed' : (s.described n d).gbk.polDeny.contains (leAt d 24 16) = false := listed
  rw [fresh, open_, State.afterDescriptor_open listed' none]
  refine ⟨?_, ?_, ?_, fun k hk => (State.send_other _ _ _ _ _ _ hk).trans (s.described_other d hk),
    (s.described_within n d).trans frames_putDescriptor (State.send_only ..).descriptor⟩
  · rw [State.send_same (π := Slot.desc) (fun _ => rfl), desc]
  · rw [State.send_waits]
    simp
  · rw [State.send_same (π := Slot.st) (fun _ => rfl), (s.described_st n d).1]

theorem execSignatureReceived_turned {r : AuthResult} {life : Life} (hn : n < s.part.slots) (h : (s.slot n).waits (fun p => p = .challenge) = true) (denied : (s.slot n).chainAllowed r = false) (st : (s.slot n).st = .admitting) (fresh : (s.slot n).reauth = false) :
    ∃ t, execSignatureReceived n r life s = .next t ∧ t.Turned n (if (s.slot n).identityOk r = true then 2 else 1) := by
  have st' := (State.proven_same (π := Slot.st) (fun _ => rfl) s n).trans st
  have fresh' := (State.proven_same (π := Slot.reauth) (fun _ => rfl) s n).trans fresh
  cases proof : (s.slot n).identityOk r
  · exact ⟨_, execSignatureReceived_unproven hn h proof, (State.authFail_turned st' fresh' 1).1⟩
  · exact ⟨_, execSignatureReceived_unallowed hn h proof denied, (State.authFail_turned st' fresh' 2).1⟩

theorem execSeqUpdateTimeout_ends (hn : n < s.part.slots) (busy : (s.slot n).updating = true) :
    ∃ t, execSeqUpdateTimeout n s = .next t ∧ (t.slot n).updating = false ∧ (t.slot n).st = (s.slot n).st ∧ (t.slot n).updCmd = none ∧
      (∀ id ∈ (s.slot n).updCmd.toList, t.lastAnswer = some (id, .success)) ∧ (∀ k, k ≠ n → t.slot k = s.slot k) ∧ s.Within putSlots t := by
  have within := (s.within_refl.updateFails n 0xFF).endUpdCmd n 0xFF
  refine ⟨_, execSeqUpdateTimeout_fails hn busy, ?_, ?_, ?_, fun id asked => ?_, fun k hk => ?_, within⟩
  · rw [State.endUpdCmd_updating, State.updateFails_over]
  · have idle := ((s.updateFails n 0xFF).endUpdCmd_idle n 0xFF).trans (s.updateFails_idle n 0xFF)
    exact Slot.same_of_idle (π := Slot.st) (fun _ => rfl) idle
  · rw [State.endUpdCmd_slot]
  · exact State.endUpdCmd_answers ((s.updateFails_updCmd n 0xFF).trans (Option.mem_toList.mp asked))
  · rw [State.endUpdCmd_other _ _ _ hk, State.updateFails_other _ _ _ hk]

theorem execLifePoll_counted {life : Life} (hn : n < s.part.slots) (st : (s.slot n).st = .admitted) :
    ∃ t, execLifePoll n life s = .next t ∧ (t.slot n).life = lifeUsed (s.slot n) life ∧ (t.slot n).retired = life.retired ∧ (t.slot n).st = .admitted ∧ s.Within putSlots t := by
  have slot := s.setLife_slot n life
  have st' : ((s.setLife n life).slot n).st = .admitted := by rw [slot]; exact st
  refine ⟨_, execLifePoll_heard hn (.inl st), ?_⟩
  have steady := (s.setLife n life).warnLife_steady n
  rw [slot] at steady
  rw [State.lifeCheck_outside st']
  exact ⟨Slot.same_of_steady (π := Slot.life) (fun _ => rfl) steady, Slot.same_of_steady (π := Slot.retired) (fun _ => rfl) steady,
    (Slot.same_of_steady (π := Slot.st) (fun _ => rfl) steady).trans st, (s.within_refl.modSlot n _).warnLife n⟩

theorem execMigrateDone_ends {p : Nat} (hn : n < s.part.slots) (member : (s.slot n).pool = some p) (st : (s.slot n).st = .draining) (bare : s.holdsData n = false)
    (done : s.media.jrecs.any (fun j => j.host = n ∧ s.newestJ j) = false) :
    ∃ t, execMigrateDone n s = .next t ∧ (t.slot n).pool = none ∧ (t.slot n).lastPool = some p ∧ (t.pool p).members.any (fun m => m.slot = n) = false ∧
      ((s.slot n).drain = some .remove → (s.slot n).lifeFlags.testBit 1 = false → (t.slot n).st = .admitted) ∧
      ((s.slot n).drain ≠ some .remove ∨ (s.slot n).lifeFlags.testBit 1 = true → (s.slot n).phase ≠ 5 → (t.slot n).st = .readyRemove ∧ (t.slot n).pwren = false) ∧
      ((s.slot n).drain ≠ some .remove ∨ (s.slot n).lifeFlags.testBit 1 = true → (s.slot n).phase = 5 → (t.slot n).offAfterShutdown = true ∧ (t.slot n).waits (fun p => p = .shutdown) = true) := by
  have slot := s.leavePool_slot n p
  have left : ((s.leavePool n p).slot n).pool = none ∧ ((s.leavePool n p).slot n).lastPool = some p := 
    ⟨Slot.same_of_unrooted (π := Slot.pool) (fun _ => rfl) slot, Slot.same_of_unrooted (π := Slot.lastPool) (fun _ => rfl) slot⟩
  have drains : ((s.leavePool n p).slot n).st = .draining := (Slot.same_of_unrooted (π := Slot.st) (fun _ => rfl) slot).trans st
  have phase : ((s.leavePool n p).slot n).phase = (s.slot n).phase := (Slot.same_of_unrooted (π := Slot.phase) (fun _ => rfl) slot).trans rfl
  have members := s.leavePool_members n p
  refine ⟨_, execMigrateDone_leaves hn member st bare done, ?_⟩
  by_cases back : (s.slot n).drain = some .remove ∧ (s.slot n).lifeFlags.testBit 1 = false
  · rw [if_pos back]
    obtain ⟨pool, last, gone, admitted⟩ := State.leaves_admitted left members
    obtain ⟨remove, live⟩ := back
    have cause : ¬((s.slot n).drain ≠ some .remove ∨ (s.slot n).lifeFlags.testBit 1 = true) := by simp [remove, live]
    exact ⟨pool, last, gone, fun _ _ => admitted, fun c => absurd c cause, fun c => absurd c cause⟩
  · rw [if_neg back]
    obtain ⟨pool, last, gone, down, up⟩ := State.leaves_shut left members drains
    rw [phase] at down up
    exact ⟨pool, last, gone, fun remove live => absurd ⟨remove, live⟩ back, fun _ => down, fun _ => up⟩

end

/-- Settles O26: each step is its state equation; what a slot holds is read off through what commands, events and root generations leave alone. -/
theorem admissionGoesStepByStep : Obligations.AdmissionGoesStepByStep := by
  refine ⟨fun n lp a b s hn lo hi on trains ver ha hb locked => ?_, fun n lp s hn lo hi on trains ver => ⟨_, execLinkUp_heard hn lo hi on trains, State.linkIsUp_otherVersion (lp := s.heardParams n lp) ver s n⟩,
    fun n s hn h st fresh => ?_, fun n p s hn h st _ => ?_, fun n s hn h st again => ?_, fun n d s hn h ok same listed certs => execDescriptorReceived_certs hn h ok same listed certs,
    fun n d s hn h st fresh fails => execDescriptorReceived_turned hn h st fresh fails, fun n d s hn h ok fresh listed none open_ => execDescriptorReceived_open hn h ok fresh listed none open_,
    fun n r life s hn h allowed st idle fresh same out never listed => ?_, fun n r life s hn h denied st fresh => execSignatureReceived_turned hn h denied st fresh, fun n s hn h st fresh => ?_,
    fun n p s hn h st _ => ?_, fun n s hn busy => execSeqUpdateTimeout_ends hn busy, fun n life s hn st => execLifePoll_counted hn st, fun n life s hn st => execLifePoll_heard hn (.inr st),
    fun n p s hn member st bare done => execMigrateDone_ends hn member st bare done⟩
  · subst ha hb
    obtain ⟨phase, width, depth, farBuf, st, waits, within⟩ := State.linkIsUp_ends (s := s) (n := n) (lp := s.heardParams n lp) ver locked
    exact ⟨_, execLinkUp_heard hn lo hi on trains, phase, width, depth, farBuf, st, waits, within⟩
  · obtain ⟨⟨st', reason, dark⟩, within⟩ := State.authFail_turned st fresh 4
    exact ⟨_, execIdentifyTimeout_late hn h, st', reason, dark, within⟩
  · rw [← State.authFail_member (r := 4) st]
    exact execIdentifyTimeout_late hn h
  · refine ⟨_, execIdentifyTimeout_late hn h, ?_⟩
    rw [State.authFail_again st again]
    exact s.reject_turned n 0x0C
  · cases proof : (s.slot n).identityOk r
    · obtain ⟨turned, within⟩ := State.authFail_turned ((State.proven_same (π := Slot.st) (fun _ => rfl) s n).trans st) ((State.proven_same (π := Slot.reauth) (fun _ => rfl) s n).trans fresh) 1
      exact ⟨_, execSignatureReceived_unproven hn h proof, fun c => absurd c (by simp), fun _ => turned, (s.within_refl.modSlot n _).trans frames_putSlots within⟩
    · obtain ⟨st', auth, retired, life', raised, within⟩ := State.proof_admits (life := life) st idle same out never listed
      exact ⟨_, execSignatureReceived_passes hn h proof allowed, fun _ => ⟨st', auth, retired, life', raised⟩, fun c => absurd c (by simp), within⟩
  · obtain ⟨⟨st', reason, dark⟩, within⟩ := State.authFail_turned st fresh 1
    exact ⟨_, execAuthTimeout_late hn h, st', reason, dark, within⟩
  · rw [← State.authFail_member (r := 1) st]
    exact execAuthTimeout_late hn h

end Sys2Proof.Machine

namespace Sys2Proof.Machine

/-! ## The two ends of a link (R80 to R91) -/

theorem endKey_not (n : Nat) (toCtrl : Bool) : endKey n (!toCtrl) ≠ endKey n toCtrl := by
  cases toCtrl <;> simp [endKey]

theorem endKey_half (n : Nat) (toCtrl : Bool) : endKey n toCtrl / 2 = n := by
  cases toCtrl <;> simp only [endKey] <;> split <;> omega

/-- What a superframe that an end sends may move. -/
def putLink (s t : State) : State := { s with ends := t.ends, slots := t.slots, seqs := t.seqs }

theorem frames_putLink : Frames putLink := ⟨fun _ => rfl, fun _ _ _ => rfl⟩

/-- What an end owes, and all else but the frame it sends. -/
def LinkEnd.duty (e : LinkEnd) : LinkEnd := { e with cur := none, endDue := none }

/-- A step of a sender: it moves its own end, the commands of the slot and the answers of the sequencer, and of its end `π` stays. -/
structure State.Sends (s t : State) (key : Nat) {β : Type} (π : LinkEnd → β) : Prop where
  within : s.Within putLink t
  other : ∀ k, k ≠ key → t.endOf k = s.endOf k
  own : π (t.endOf key) = π (s.endOf key)

section
variable {β : Type} {π : LinkEnd → β} {key : Nat}

theorem State.Sends.refl (s : State) : s.Sends s key π := ⟨rfl, fun _ _ => rfl, rfl⟩

theorem State.Sends.trans {s t u : State} (h : s.Sends t key π) (k : t.Sends u key π) : s.Sends u key π :=
  ⟨h.within.trans frames_putLink k.within, fun j hj => (k.other j hj).trans (h.other j hj), k.own.trans h.own⟩

theorem State.Sends.part {s t : State} {γ : Type} {π' : LinkEnd → γ} (h : s.Sends t key π) (sub : ∀ a b, π a = π b → π' a = π' b) : s.Sends t key π' :=
  ⟨h.within, h.other, sub _ _ h.own⟩

theorem State.Sends.ite {s t u : State} (c : Prop) [Decidable c] (h : s.Sends t key π) (k : s.Sends u key π) : s.Sends (if c then t else u) key π := by
  split
  · exact h
  · exact k

theorem State.Sends.modEnd (s : State) {f : LinkEnd → LinkEnd} (h : ∀ e, π (f e) = π e) : s.Sends (s.modEnd key f) key π :=
  ⟨rfl, fun _ hk => State.modEnd_other _ _ _ _ hk, (congrArg π (State.modEnd_self ..)).trans (h _)⟩

theorem State.Sends.popFrame (s : State) (n : Nat) (toCtrl : Bool) : s.Sends (s.popFrame n toCtrl) key π := by
  cases toCtrl <;> exact ⟨rfl, fun _ _ => rfl, rfl⟩

theorem State.Sends.takeMsgs (s : State) (n : Nat) (toCtrl : Bool) (k : Nat) : s.Sends (s.takeMsgs n toCtrl k).2 key π := by
  cases toCtrl <;> exact ⟨rfl, fun _ _ => rfl, rfl⟩

end

theorem State.fillBlocks_sends (n : Nat) (toCtrl : Bool) (fuel room k : Nat) (ended : Bool) (s : State) :
    s.Sends (State.fillBlocks n toCtrl fuel room k ended s).2.2 (sendKey n toCtrl) LinkEnd.duty := by
  induction fuel generalizing room k ended s with
  | zero => exact .refl s
  | succ fuel ih =>
    unfold State.fillBlocks
    dsimp only
    split
    · split
      · refine State.Sends.trans (.modEnd s ?_) (ih ..)
        exact fun _ => rfl
      · exact .modEnd s fun _ => rfl
    · split
      · exact .refl s
      · split
        · exact .refl s
        · refine ((State.Sends.popFrame s n toCtrl).trans (.modEnd _ ?_)).trans (ih ..)
          exact fun _ => rfl

theorem LinkEnd.rxNext_of_duty {a b : LinkEnd} (h : a.duty = b.duty) : a.rxNext = b.rxNext := by
  have e := congrArg LinkEnd.rxNext h
  exact e

/-- Whether an end owes an `ACK`, and whether it owes a `NAK`. -/
def LinkEnd.owes (e : LinkEnd) : Bool × Bool := (e.ackDue, e.nakDue)

theorem LinkEnd.owes_of_duty {a b : LinkEnd} (h : a.duty = b.duty) : a.owes = b.owes := by
  have e := congrArg LinkEnd.owes h
  exact e

/-- With nothing to replay, a superframe takes the acknowledgements with it. -/
theorem State.sendSf_owes {s : State} {n : Nat} {toCtrl : Bool} (fresh : (s.endOf (sendKey n toCtrl)).resend = []) : ((s.sendSf n toCtrl).endOf (sendKey n toCtrl)).owes = (false, false) := by
  unfold State.sendSf
  simp only [fresh]
  split
  · rw [State.modEnd_self]
    rfl
  · refine (State.Sends.own (.trans (.trans ((State.fillBlocks_sends ..).part fun _ _ => LinkEnd.owes_of_duty) (.takeMsgs ..)) (.modEnd _ ?_))).trans ?_
    · exact fun _ => rfl
    · rw [State.modEnd_self]
      rfl

/-- A superframe moves its sender's end alone, of the ends, and leaves what that end expects. -/
theorem State.sendSf_sends (s : State) (n : Nat) (toCtrl : Bool) : s.Sends (s.sendSf n toCtrl) (sendKey n toCtrl) LinkEnd.rxNext := by
  unfold State.sendSf
  dsimp only
  split
  · exact .modEnd s fun _ => rfl
  · refine .ite _ (.modEnd s ?_) ?_
    · exact fun _ => rfl
    · refine State.Sends.trans (.trans (.trans (.modEnd s ?_) ((State.fillBlocks_sends ..).part fun _ _ => LinkEnd.rxNext_of_duty)) (.takeMsgs ..)) (.modEnd _ ?_)
      · exact fun _ => rfl
      · exact fun _ => rfl

theorem State.sends_sends (s : State) (n : Nat) (toCtrl : Bool) (b : List Byte) : s.Sends (s.sends n toCtrl b) (sendKey n toCtrl) LinkEnd.rxNext :=
  .ite _ (s.sendSf_sends n toCtrl) (.refl s)

theorem State.sendSf_again {s : State} {n : Nat} {toCtrl : Bool} {f : Superframe} {rest : List Superframe} (again : (s.endOf (sendKey n toCtrl)).resend = f :: rest) :
    s.sendSf n toCtrl = s.modEnd (sendKey n toCtrl) (fun e => { e with resend := rest, last := some f }) := by
  unfold State.sendSf
  simp only [again]

end Sys2Proof.Machine

namespace Sys2Proof.Machine

/-! ## Control blocks that arrive (R81, R82, R91) -/

section
variable {n : Nat} {toCtrl : Bool} {b data : List Byte} {s : State}

theorem leAt_take_drop (b : List Byte) (o : Nat) : leAt ((b.drop o).take 19) 0 1 = leAt b o 1 := by
  simp [leAt, List.getElem?_drop]

/-- An idle message has no effect. -/
theorem State.takeMsg_idle {sf : Nat} {m : List Byte} (idle : leAt m 0 1 = 0) (s : State) (n : Nat) (toCtrl : Bool) : s.takeMsg n toCtrl sf m = s := by
  unfold State.takeMsg
  refine ite_eq_left_iff.mpr fun _ => ?_
  refine (if_neg (by simp [idle])).trans (ite_eq_left_iff.mpr fun _ => ?_)
  simp only [idle]

theorem State.takeBlockMsgs_idle {sf : Nat} (h1 : leAt b 3 1 = 0) (h2 : leAt b 22 1 = 0) (h3 : leAt b 41 1 = 0) (s : State) (n : Nat) (toCtrl : Bool) :
    s.takeBlockMsgs n toCtrl sf b = s := by
  have idle (o : Nat) (h : leAt b o 1 = 0) (s : State) : s.takeMsg n toCtrl sf ((b.drop o).take 19) = s := State.takeMsg_idle ((leAt_take_drop b o).trans h) s n toCtrl
  simp only [State.takeBlockMsgs, State.each, List.foldl_cons, List.foldl_nil, idle 3 h1, idle 22 h2, idle 41 h3]

theorem State.sends_other (s : State) (b : List Byte) {k : Nat} (h : k ≠ sendKey n toCtrl) : (s.sends n toCtrl b).endOf k = s.endOf k := (s.sends_sends n toCtrl b).other k h

/-- What a superframe brings is nothing to the end that expects it. -/
theorem State.sends_receiver (s : State) (n : Nat) (toCtrl : Bool) (b : List Byte) : (s.sends n toCtrl b).endOf (endKey n toCtrl) = s.endOf (endKey n toCtrl) :=
  s.sends_other b (endKey_not n toCtrl).symm

theorem State.nakFor_self (s : State) (n : Nat) (toCtrl : Bool) : (s.nakFor n toCtrl).endOf (endKey n toCtrl) = { s.endOf (endKey n toCtrl) with nakSent := true, nakDue := true } := by
  have asked : (s.nakFor n toCtrl).endOf (endKey n toCtrl) = (s.modEnd (endKey n toCtrl) (fun e => { e with nakSent := true, nakDue := true })).endOf (endKey n toCtrl) := by
    cases toCtrl <;> rfl
  rw [asked, State.modEnd_self]

theorem State.protoNote_endOf (s : State) (n : Nat) (toCtrl : Bool) (typ tag k : Nat) : (s.protoNote n toCtrl typ tag).endOf k = s.endOf k := by
  unfold State.protoNote
  split
  · simp [State.endOf]
  · rfl

/-- What follows a block of an accepted number. -/
def State.acceptBlock (s : State) (n : Nat) (toCtrl : Bool) (b data : List Byte) : State :=
  let sf := leAt b 0 2 % 4096
  let u := ((s.sends n toCtrl b).acceptSf n toCtrl sf).takeBlockMsgs n toCtrl sf b
  if (u.endOf (endKey n toCtrl)).rxNext ≠ (sf + 1) % 4096 then u else u.takeData n toCtrl data

section
variable (hn : n < s.part.slots) (talks : s.linkTalks n = true)
include hn talks

theorem execControlBlock_bad (bad : blockBad b = true) : execControlBlock n toCtrl ⟨b, data⟩ s = .next ((s.sends n toCtrl b).nakFor n toCtrl) := by
  rw [execControlBlock]
  dsimp only
  rw [onSlot_ok hn]
  refine congrArg _ ?_
  exact (if_neg (by simp [talks])).trans (if_pos bad)

theorem execControlBlock_otherVersion (ok : blockBad b = false) (ver : leAt b 0 2 / 4096 ≠ 1 ∨ leAt b 2 1 ≠ 0) :
    execControlBlock n toCtrl ⟨b, data⟩ s =
      .next (((s.sends n toCtrl b).took.took.protoNote n toCtrl (s.sends n toCtrl b).freeVal (s.sends n toCtrl b).took.freeVal).nakFor n toCtrl) := by
  rw [execControlBlock]
  dsimp only
  rw [onSlot_ok hn]
  refine congrArg _ ?_
  exact (if_neg (by simp [talks])).trans ((if_neg (by simp [ok])).trans (if_pos ver))

variable (ok : blockBad b = false) (ver : leAt b 0 2 / 4096 = 1) (zero : leAt b 2 1 = 0)
include ok ver zero

theorem execControlBlock_otherNumber (no : leAt b 0 2 % 4096 ≠ (s.endOf (endKey n toCtrl)).rxNext) : execControlBlock n toCtrl ⟨b, data⟩ s = .next (s.sends n toCtrl b) := by
  rw [← s.sends_receiver n toCtrl b] at no
  rw [execControlBlock]
  dsimp only
  rw [onSlot_ok hn]
  refine congrArg _ ?_
  exact (if_neg (by simp [talks])).trans ((if_neg (by simp [ok])).trans ((if_neg (by simp [ver, zero])).trans (if_pos no)))

theorem execControlBlock_accepted (no : leAt b 0 2 % 4096 = (s.endOf (endKey n toCtrl)).rxNext) : execControlBlock n toCtrl ⟨b, data⟩ s = .next (s.acceptBlock n toCtrl b data) := by
  rw [← s.sends_receiver n toCtrl b] at no
  rw [execControlBlock]
  dsimp only
  rw [onSlot_ok hn]
  refine congrArg _ ?_
  exact (if_neg (by simp [talks])).trans ((if_neg (by simp [ok])).trans ((if_neg (by simp [ver, zero])).trans (if_neg (not_not.mpr no))))

end

/-- Three idle messages: the two ends move on, and nothing else. -/
theorem State.acceptBlock_idle (h1 : leAt b 3 1 = 0) (h2 : leAt b 22 1 = 0) (h3 : leAt b 41 1 = 0) (s : State) (n : Nat) (toCtrl : Bool) (data : List Byte) :
    s.acceptBlock n toCtrl b data = ((s.sends n toCtrl b).acceptSf n toCtrl (leAt b 0 2 % 4096)).takeData n toCtrl data := by
  unfold State.acceptBlock
  dsimp only
  rw [State.takeBlockMsgs_idle h1 h2 h3]
  refine if_neg (not_not.mpr ?_)
  rw [State.acceptSf, State.modEnd_self]

end

/-! ## Acknowledgements and replays (R90, R91, R93) -/

section
variable {n : Nat} {toCtrl : Bool} {sf : BitVec 12} {s : State}

theorem State.linkRuns_phase (up : s.linkRuns n = true) : (s.slot n).phase = 5 := by
  simp only [State.linkRuns, Bool.and_eq_true, decide_eq_true_eq] at up
  exact up.2

theorem execAck_taken (hn : n < s.part.slots) (up : s.linkRuns n = true) : execAck n toCtrl sf s = .next (s.modEnd (endKey n toCtrl) (fun e =>
    if e.replay.any (fun f => f.no = sf.toNat) then { e with replay := (e.replay.dropWhile (fun f => f.no ≠ sf.toNat)).drop 1 } else e)) := by
  rw [execAck, onSlot_ok hn]
  refine congrArg _ ?_
  exact if_neg (by simp [up])

theorem dropWhile_older {f : Superframe} {older newer : List Superframe} {no : Nat} (here : f.no = no) (before : ∀ g ∈ older, g.no ≠ no) :
    (older ++ f :: newer).dropWhile (fun g => g.no ≠ no) = f :: newer := by
  rw [List.dropWhile_append_of_pos (fun g hg => decide_eq_true (before g hg)), List.dropWhile_cons_of_neg (by simp [here])]

theorem execNak_taken (hn : n < s.part.slots) (up : s.linkRuns n = true) : execNak n toCtrl sf s = .next (s.replayFrom n (!toCtrl) sf.toNat) := by
  rw [execNak, onSlot_ok hn]
  refine congrArg _ ?_
  exact if_pos up

theorem execReplayTimeout_late {f : Superframe} {rest : List Superframe} (hn : n < s.part.slots) (up : s.linkRuns n = true) (held : (s.endOf (sendKey n toCtrl)).replay = f :: rest) :
    execReplayTimeout n toCtrl s = .next (s.replayFrom n toCtrl f.no) := by
  rw [execReplayTimeout, onSlot_ok hn]
  refine congrArg _ ?_
  simp only [held]
  exact if_pos up

theorem sendKey_not (n : Nat) (toCtrl : Bool) : sendKey n (!toCtrl) = endKey n toCtrl := by rw [sendKey, Bool.not_not]

/-- An end replays from a superframe, the `k`-th time. -/
def State.replayed (s : State) (n : Nat) (toCtrl : Bool) (sf k : Nat) : State :=
  let t := s.modEnd (sendKey n toCtrl) (fun e => { e with replays := (sf, k), resend := (s.endOf (sendKey n toCtrl)).replay.dropWhile (fun f => f.no ≠ sf) })
  if toCtrl then t else t.bump (dwCART n + 0x1C) 1

theorem State.replayed_endOf (s : State) (n : Nat) (toCtrl : Bool) (sf k j : Nat) : (s.replayed n toCtrl sf k).endOf j =
    (s.modEnd (sendKey n toCtrl) (fun e => { e with replays := (sf, k), resend := (s.endOf (sendKey n toCtrl)).replay.dropWhile (fun f => f.no ≠ sf) })).endOf j := by
  cases toCtrl <;> rfl

theorem State.replayed_rest (s : State) (n : Nat) (toCtrl : Bool) (sf k : Nat) : s.replayed n toCtrl sf k = { s with ends := (s.replayed n toCtrl sf k).ends, dw := (s.replayed n toCtrl sf k).dw } := by
  cases toCtrl <;> rfl

/-- How often an end has replayed from a superframe, this time included. -/
def LinkEnd.times (e : LinkEnd) (sf : Nat) : Nat := if e.replays.1 = sf then e.replays.2 + 1 else 1

theorem State.replayFrom_few {sf : Nat} (few : (s.endOf (sendKey n toCtrl)).times sf < 4) :
    s.replayFrom n toCtrl sf = s.replayed n toCtrl sf ((s.endOf (sendKey n toCtrl)).times sf) := by
  unfold State.replayFrom
  exact if_neg (by simpa [LinkEnd.times] using few)

theorem State.replayFrom_many {sf : Nat} (many : 4 ≤ (s.endOf (sendKey n toCtrl)).times sf) :
    let u := s.replayed n toCtrl sf ((s.endOf (sendKey n toCtrl)).times sf)
    s.replayFrom n toCtrl sf = (u.took.modEnd (sendKey n toCtrl) (fun e => { e with replays := (0, 0) })).fastRetrain n u.freeVal := by
  unfold State.replayFrom
  exact if_pos many

/-- Fewer than four replays: the end sends again from the superframe. -/
theorem State.replayFrom_resends {sf : Nat} (few : (s.endOf (sendKey n toCtrl)).times sf < 4) :
    ((s.replayFrom n toCtrl sf).endOf (sendKey n toCtrl)).replays = (sf, (s.endOf (sendKey n toCtrl)).times sf) ∧
      ((s.replayFrom n toCtrl sf).endOf (sendKey n toCtrl)).resend = (s.endOf (sendKey n toCtrl)).replay.dropWhile (fun f => f.no ≠ sf) ∧
      (∀ k, k ≠ sendKey n toCtrl → (s.replayFrom n toCtrl sf).endOf k = s.endOf k) ∧
      s.replayFrom n toCtrl sf = { s with ends := (s.replayFrom n toCtrl sf).ends, dw := (s.replayFrom n toCtrl sf).dw } := by
  rw [State.replayFrom_few few, State.replayed_endOf, State.modEnd_self]
  refine ⟨rfl, rfl, fun k hk => ?_, s.replayed_rest ..⟩
  rw [State.replayed_endOf, State.modEnd_other _ _ _ _ hk]

theorem execAckTimer_due (hn : n < s.part.slots) (up : s.linkRuns n = true) (due : (s.endOf (endKey n toCtrl)).ackDue = true) : execAckTimer n toCtrl s = .next (s.sendSf n (!toCtrl)) := by
  rw [execAckTimer, onSlot_ok hn]
  refine congrArg _ ?_
  exact if_pos (by rw [up, due]; rfl)

end

end Sys2Proof.Machine

namespace Sys2Proof.Machine

/-! ## Resets and retrains (R92 to R94) -/

section
variable {n : Nat} {s : State}

theorem State.bump_slot (s : State) (off k j : Nat) : (s.bump off k).slot j = s.slot j := rfl

theorem State.bump_within (s : State) (off k : Nat) : s.Within putSlots (s.bump off k) := rfl

/-! ### A link leaves its phase -/

/-- A slot in another phase of its link. -/
def Slot.inPhase (x : Slot) (phase : Nat) : Slot := { x with phase := phase, lanes := if phase = 1 then 0 else x.lanes }

/-- A link leaves its phase, and says so where it was up. -/
def State.linkLeft (s : State) (n phase : Nat) : State :=
  let up := (s.slot n).phase = 5
  let s := s.modSlot n (fun x => x.inPhase phase)
  if up then s.slotEvent n 5 else s

theorem State.linkLeft_slot (s : State) (n phase : Nat) : ((s.linkLeft n phase).slot n).quiet = ((s.slot n).inPhase phase).quiet := by
  unfold State.linkLeft
  dsimp only
  split
  · rw [State.slotEvent_slot, State.modSlot_self]
  · rw [State.modSlot_self]

theorem State.linkLeft_within (s : State) (n phase : Nat) : s.Within putSlots (s.linkLeft n phase) := by
  unfold State.linkLeft
  dsimp only
  split
  · exact (s.within_refl.modSlot n _).slotEvent n 5
  · exact s.within_refl.modSlot n _

theorem State.linkLeft_member (s : State) (n phase : Nat) : ((s.linkLeft n phase).slot n).st.member = (s.slot n).st.member :=
  congrArg SlotSt.member ((Slot.same_of_quiet (π := Slot.st) (fun _ => rfl) (s.linkLeft_slot n phase)).trans rfl)

theorem State.linkLeaves_member (member : (s.slot n).st.member = true) (phase : Nat) : s.linkLeaves n phase = (s.linkLeft n phase).setSlow n 1 :=
  if_pos ((s.linkLeft_member n phase).trans member)

theorem State.linkLeaves_other (out : (s.slot n).st.member = false) (phase : Nat) : s.linkLeaves n phase = s.linkLeft n phase :=
  if_neg (ne_true_of_eq_false ((s.linkLeft_member n phase).trans out))

/-- A link that left its phase, its retrain counted and logged. -/
def State.retrains (s : State) (n phase : Nat) (ps : List Nat) : State := ((s.linkLeft n phase).bump (dwCART n + 0x20) 1).log 0x0309 ps

theorem State.retrains_slot (s : State) (n phase : Nat) (ps : List Nat) : ((s.retrains n phase ps).slot n).quiet = ((s.slot n).inPhase phase).quiet := by
  rw [State.retrains, State.log_slot, State.bump_slot, State.linkLeft_slot]

theorem State.retrains_within (s : State) (n phase : Nat) (ps : List Nat) : s.Within putSlots (s.retrains n phase ps) :=
  ((s.linkLeft_within n phase).trans frames_putSlots (State.bump_within ..)).log _ _

theorem State.fastRetrain_up (up : (s.slot n).phase = 5) (cause : Nat) : s.fastRetrain n cause = ((s.linkLeaves n 6).bump (dwCART n + 0x20) 1).log 0x0309 [n, 0, cause] :=
  if_neg (not_not.mpr up)

/-- A fast retrain of a cartridge that is no member. -/
theorem State.fastRetrain_other (up : (s.slot n).phase = 5) (out : (s.slot n).st.member = false) (cause : Nat) : s.fastRetrain n cause = s.retrains n 6 [n, 0, cause] := by
  rw [State.fastRetrain_up up, State.linkLeaves_other out]
  rfl

theorem State.fullRetrain_other (out : (s.slot n).st.member = false) (cause : Nat) : s.fullRetrain n cause = s.retrains n 1 [n, 1, cause] := by
  rw [State.fullRetrain, State.linkLeaves_other out]
  rfl

theorem State.Within.ends_eq {s t : State} (h : s.Within putSlots t) : t.ends = s.ends := by
  have e : t = putSlots s t := h
  rw [e]
  rfl

theorem State.Within.endOf {s t : State} (h : s.Within putSlots t) (k : Nat) : t.endOf k = s.endOf k := congrArg (fun m => Cells.get end0 m k) h.ends_eq

/-! ### Both ends are cleared -/

theorem endKey_apart (n : Nat) : endKey n true ≠ endKey n false := endKey_not n false

/-- The ends of a link forget what they sent and expect. -/
def State.cleared (s : State) (n : Nat) : State := ((s.took.modEnd (endKey n true) (fun _ => {})).modEnd (endKey n false) (fun _ => {})).log 0x030A [n, s.freeVal]

/-- What clearing the ends may move. -/
def putCleared (s t : State) : State := { s with ends := t.ends, slots := t.slots, free := t.free, gbk := t.gbk, dw := t.dw }

theorem frames_putCleared : Frames putCleared := ⟨fun _ => rfl, fun _ _ _ => rfl⟩

theorem State.cleared_slot (s : State) (n k : Nat) : (s.cleared n).slot k = s.slot k := State.log_slot ..

theorem State.log_endOf (s : State) (code : Nat) (ps : List Nat) (k : Nat) : (s.log code ps).endOf k = s.endOf k := by
  simp [State.endOf]

theorem State.cleared_self (s : State) (n : Nat) (toCtrl : Bool) : (s.cleared n).endOf (endKey n toCtrl) = {} := by
  rw [State.cleared, State.log_endOf]
  cases toCtrl
  · rw [State.modEnd_self]
  · rw [State.modEnd_other _ _ _ _ (endKey_apart n), State.modEnd_self]

theorem State.cleared_other (s : State) {k : Nat} (h : k / 2 ≠ n) : (s.cleared n).endOf k = s.endOf k := by
  have apart (toCtrl : Bool) : k ≠ endKey n toCtrl := fun e => h (by rw [e, endKey_half])
  rw [State.cleared, State.log_endOf, State.modEnd_other _ _ _ _ (apart false), State.modEnd_other _ _ _ _ (apart true)]
  rfl

theorem State.cleared_within (s : State) (n : Nat) : s.Within putCleared (s.cleared n) := by
  unfold State.Within putCleared State.cleared
  rw [State.log_rest]
  rfl

theorem State.identify_only (s : State) (n : Nat) : s.Within putSlotsOnly (s.identify n) := by
  unfold State.identify
  exact (State.modSlot_only ..).trans frames_putSlotsOnly (State.send_only ..)

theorem State.identify_other (s : State) {k : Nat} (h : k ≠ n) : (s.identify n).slot k = s.slot k := by
  rw [State.identify, State.send_other _ _ _ _ _ _ h, State.modSlot_other _ _ _ _ h]

theorem State.identify_idDue (s : State) (n : Nat) : ((s.identify n).slot n).idDue = false := by
  rw [State.identify, State.send_same (π := Slot.idDue) (fun _ => rfl), State.modSlot_self, Slot.dropCmds_same (π := Slot.idDue) (fun _ => rfl)]

theorem State.Within.only_endOf {s t : State} (h : s.Within putSlotsOnly t) (k : Nat) : t.endOf k = s.endOf k := (h.widen (put' := putSlots) fun _ _ => rfl).endOf k

/-- What a slot does after a link reset: the identity exchange starts at once, or once the link is up again. -/
def State.afterReset (s : State) (n : Nat) : State :=
  if (s.slot n).phase = 5 then (s.modSlot n (fun x => { x with syncDue := true })).identify n
  else if (s.slot n).phase = 6 then s.modSlot n (fun x => { x with idDue := true, syncDue := true })
  else s

theorem State.linkReset_eq (s : State) (n : Nat) : s.linkReset n = (s.cleared n).afterReset n := rfl

theorem State.afterReset_only (s : State) (n : Nat) : s.Within putSlotsOnly (s.afterReset n) := by
  unfold State.afterReset
  split
  · exact (State.modSlot_only ..).trans frames_putSlotsOnly (State.identify_only ..)
  · split
    · rfl
    · rfl

theorem State.afterReset_other (s : State) {k : Nat} (h : k ≠ n) : (s.afterReset n).slot k = s.slot k := by
  unfold State.afterReset
  split
  · rw [State.identify_other _ h, State.modSlot_other _ _ _ _ h]
  · split
    · exact State.modSlot_other _ _ _ _ h
    · rfl

theorem State.afterReset_phase (s : State) (n : Nat) : ((s.afterReset n).slot n).phase = (s.slot n).phase := by
  unfold State.afterReset
  split
  · rw [State.identify_same (π := Slot.phase) (fun _ => rfl) (fun _ _ _ => rfl), State.modSlot_self]
  · split
    · rw [State.modSlot_self]
    · rfl

theorem State.afterReset_up (up : (s.slot n).phase = 5) : ((s.afterReset n).slot n).waits (fun p => p = .identify) = true ∧ ((s.afterReset n).slot n).syncDue = true := by
  rw [State.afterReset, if_pos up]
  refine ⟨State.identify_waits .., ?_⟩
  rw [State.identify_same (π := Slot.syncDue) (fun _ => rfl) (fun _ _ _ => rfl), State.modSlot_self]

theorem State.afterReset_retraining (ph : (s.slot n).phase = 6) : ((s.afterReset n).slot n).idDue = true ∧ ((s.afterReset n).slot n).syncDue = true := by
  rw [State.afterReset, if_neg (by omega), if_pos ph, State.modSlot_self]
  exact ⟨rfl, rfl⟩

theorem State.afterReset_down (h5 : (s.slot n).phase ≠ 5) (h6 : (s.slot n).phase ≠ 6) : s.afterReset n = s := (if_neg h5).trans (if_neg h6)

/-! ### Commands of the register and of the pins -/

section
variable {p : Path} (hn : n < 64) (r : s.reach p (dwCART n + 4) = .ok)
include hn r

theorem execLinkReset_on (on : (s.slot n).pwren = true) : execLinkReset p n s = .next ((s.cleared n).afterReset n) := by
  rw [execLinkReset, if_neg (by omega), winWrite_ok r]
  refine congrArg _ ?_
  exact if_pos on

theorem execRetrain_reached : execRetrain p n s = .next (s.took.fastRetrain n s.freeVal) := by
  rw [execRetrain, if_neg (by omega), winWrite_ok r]

end

theorem execFastRetrain_heard {cause : Nat} (hn : n < s.part.slots) : execFastRetrain n cause s = .next (s.fastRetrain n cause) := by
  rw [execFastRetrain, onSlot_ok hn]

/-! ### Retrains that end -/

/-- A slot whose link is up again. -/
def Slot.backUp (x : Slot) : Slot := { x with phase := 5, idDue := false }

/-- The link is up again after a fast retrain, and both ends name what they expect. -/
def State.upAgain (s : State) (n : Nat) : State := (s.modSlot n Slot.backUp).nakBoth n

section
variable {lp : LinkParams} (hn : n < s.part.slots)
include hn

theorem execRetrainDone_fast (ph : (s.slot n).phase = 6) : execRetrainDone n true false lp s = .next (if (s.slot n).idDue then (s.upAgain n).identify n else s.upAgain n) := by
  rw [execRetrainDone, onSlot_ok hn]
  refine congrArg _ ?_
  exact (if_pos ⟨rfl, ph⟩).trans (if_pos rfl)

theorem execRetrainDone_fastFailed (ph : (s.slot n).phase = 6) : execRetrainDone n false false lp s = .next (s.retrainFailed n) := by
  rw [execRetrainDone, onSlot_ok hn]
  refine congrArg _ ?_
  exact (if_pos ⟨rfl, ph⟩).trans (if_neg (by simp))

variable (lo : 1 ≤ (s.slot n).phase) (hi : (s.slot n).phase ≤ 4) (h1 : (s.slot n).st ≠ .powering) (h2 : (s.slot n).st ≠ .training)
include lo hi h1 h2

theorem execRetrainDone_full : execRetrainDone n true true lp s = .next (((s.cleared n).modSlot n (fun x => { x with syncDue := true })).linkIsUp n lp) := by
  rw [execRetrainDone, onSlot_ok hn]
  refine congrArg _ ?_
  exact (if_neg (by simp)).trans ((if_pos ⟨rfl, lo, hi, h1, h2⟩).trans (if_pos rfl))

theorem execRetrainDone_fullFailed : execRetrainDone n false true lp s = .next (s.retrainFailed n) := by
  rw [execRetrainDone, onSlot_ok hn]
  refine congrArg _ ?_
  exact (if_neg (by simp)).trans ((if_pos ⟨rfl, lo, hi, h1, h2⟩).trans (if_neg (by simp)))

end

theorem State.nakBoth_self (s : State) (n : Nat) (toCtrl : Bool) : (s.nakBoth n).endOf (endKey n toCtrl) = { s.endOf (endKey n toCtrl) with nakSent := true, nakDue := true } := by
  unfold State.nakBoth
  cases toCtrl
  · rw [State.modEnd_self, State.modEnd_other _ _ _ _ (endKey_apart n).symm]
  · rw [State.modEnd_other _ _ _ _ (endKey_apart n), State.modEnd_self]

/-- The retrains that failed within the last 10 s, this one included. -/
def State.failedRetrains (s : State) (n : Nat) : List Nat := (s.gbk.uptime :: (s.slot n).retrains).filter (fun t => s.gbk.uptime < t + 10000)

/-- A retrain that failed is noted. -/
def State.retrainNoted (s : State) (n : Nat) : State := s.took.modSlot n (fun x => { x with retrains := if (s.failedRetrains n).length ≥ 3 then [] else s.failedRetrains n })

theorem State.retrainFailed_eq (s : State) (n : Nat) : s.retrainFailed n =
    if (s.failedRetrains n).length ≥ 3 then ((s.retrainNoted n).fullRetrain n s.freeVal).linkReset n else (s.retrainNoted n).fullRetrain n s.freeVal := rfl

/-- A retrain of a cartridge that is no member fails: the link is in phase 1, without a lane. -/
theorem State.retrainFailed_other (out : (s.slot n).st.member = false) : ((s.retrainFailed n).slot n).phase = 1 ∧ ((s.retrainFailed n).slot n).lanes = 0 := by
  have slot : (s.retrainNoted n).slot n = { s.slot n with retrains := if (s.failedRetrains n).length ≥ 3 then [] else s.failedRetrains n } := State.modSlot_self (s := s.took) ..
  have out' : ((s.retrainNoted n).slot n).st.member = false := by
    rw [slot]
    exact out
  have quiet := (s.retrainNoted n).retrains_slot n 1 [n, 1, s.freeVal]
  have phase : (((s.retrainNoted n).retrains n 1 [n, 1, s.freeVal]).slot n).phase = 1 := (Slot.same_of_quiet (π := Slot.phase) (fun _ => rfl) quiet).trans rfl
  have lanes : (((s.retrainNoted n).retrains n 1 [n, 1, s.freeVal]).slot n).lanes = 0 := (Slot.same_of_quiet (π := Slot.lanes) (fun _ => rfl) quiet).trans rfl
  rw [State.retrainFailed_eq, State.fullRetrain_other out']
  split
  · have cleared := ((s.retrainNoted n).retrains n 1 [n, 1, s.freeVal]).cleared_slot n n
    rw [State.linkReset_eq, State.afterReset_down (by rw [cleared, phase]; decide) (by rw [cleared, phase]; decide), cleared]
    exact ⟨phase, lanes⟩
  · exact ⟨phase, lanes⟩

end

end Sys2Proof.Machine

namespace Sys2Proof.Machine

/-! ## Link management (R82, R92, R95) -/

section
variable {n v : Nat} {s : State}

section
variable (hn : n < s.part.slots) (lo : 2 ≤ (s.slot n).phase) (hi : (s.slot n).phase ≤ 4)
include hn lo hi

theorem execLinkMgmt_ctrl : execLinkMgmt n true 1 1 s = .next (s.modSlot n (fun x => { x with farPver := 1, phase := 4 })) := by
  rw [execLinkMgmt, onSlot_ok hn]
  refine congrArg _ ?_
  exact (if_pos ⟨rfl, lo, hi⟩).trans ((if_neg (by simp)).trans (if_pos rfl))

theorem execLinkMgmt_seq : execLinkMgmt n false 1 1 s = .next (s.modSlot n (fun x => { x with phase := max 3 x.phase })) := by
  rw [execLinkMgmt, onSlot_ok hn]
  refine congrArg _ ?_
  exact (if_pos ⟨rfl, lo, hi⟩).trans ((if_pos rfl).trans (if_pos rfl))

theorem execLinkMgmt_ctrlVersion (ver : v ≠ 1) :
    execLinkMgmt n true 1 v s = .next ((((s.took.modSlot n (fun x => { x with farPver := v })).log 0x0311 [n, 0x0A, s.freeVal]).log 0x030F [n, 1]).reject n 8) := by
  rw [execLinkMgmt, onSlot_ok hn]
  refine congrArg _ ?_
  exact (if_pos ⟨rfl, lo, hi⟩).trans ((if_neg (by simp)).trans (if_neg ver))

theorem execLinkMgmt_seqVersion (ver : v ≠ 1) : execLinkMgmt n false 1 v s = .next (s.modSeq n (fun q => { q with noTrain := true })) := by
  rw [execLinkMgmt, onSlot_ok hn]
  refine congrArg _ ?_
  exact (if_pos ⟨rfl, lo, hi⟩).trans ((if_pos rfl).trans (if_neg ver))

end

theorem execLinkMgmt_retrain {toCtrl : Bool} (hn : n < s.part.slots) (up : s.linkRuns n = true) : execLinkMgmt n toCtrl 2 v s = .next (s.took.fastRetrain n s.freeVal) := by
  rw [execLinkMgmt, onSlot_ok hn]
  refine congrArg _ ?_
  exact (if_neg (by simp)).trans (if_pos ⟨rfl, up⟩)

end

/-! ## The ends of a link move their numbers -/

section
variable {n : Nat} {toCtrl : Bool} {s : State}

/-- A superframe with three idle messages. -/
theorem State.acceptBlock_moves {b : List Byte} (h1 : leAt b 3 1 = 0) (h2 : leAt b 22 1 = 0) (h3 : leAt b 41 1 = 0) (s : State) (n : Nat) (toCtrl : Bool) (data : List Byte) :
    let t := s.acceptBlock n toCtrl b data
    (t.endOf (endKey n toCtrl)).rxNext = (leAt b 0 2 % 4096 + 1) % 4096 ∧ (t.endOf (endKey n toCtrl)).ackDue = true ∧ (t.endOf (endKey n toCtrl)).nakSent = false ∧
      (∀ k, k / 2 ≠ n → t.endOf k = s.endOf k) ∧ t = { s.sends n toCtrl b with ends := t.ends } := by
  dsimp only
  rw [State.acceptBlock_idle h1 h2 h3]
  refine ⟨?_, ?_, ?_, fun k hk => ?_, rfl⟩
  · rw [State.takeData, State.modEnd_self, State.acceptSf, State.modEnd_self]
  · rw [State.takeData, State.modEnd_self, State.acceptSf, State.modEnd_self]
  · rw [State.takeData, State.modEnd_self, State.acceptSf, State.modEnd_self]
  · have apart (c : Bool) : k ≠ endKey n c := fun e => hk (by rw [e, endKey_half])
    rw [State.takeData, State.modEnd_other _ _ _ _ (apart toCtrl), State.acceptSf, State.modEnd_other _ _ _ _ (apart toCtrl), State.sends_other _ _ (apart (!toCtrl))]

theorem execControlBlock_asks {b data : List Byte} (hn : n < s.part.slots) (talks : s.linkTalks n = true) (ok : blockBad b = false) (ver : leAt b 0 2 / 4096 ≠ 1 ∨ leAt b 2 1 ≠ 0) :
    ∃ t, execControlBlock n toCtrl ⟨b, data⟩ s = .next t ∧ (t.endOf (endKey n toCtrl)).nakSent = true ∧ (t.endOf (endKey n toCtrl)).nakDue = true ∧
      (t.endOf (endKey n toCtrl)).rxNext = (s.endOf (endKey n toCtrl)).rxNext := by
  refine ⟨_, execControlBlock_otherVersion hn talks ok ver, ?_⟩
  rw [State.nakFor_self, State.protoNote_endOf]
  refine ⟨rfl, rfl, ?_⟩
  have kept := congrArg LinkEnd.rxNext (s.sends_receiver n toCtrl b)
  exact kept

/-- A fourth replay of one superframe starts a fast retrain. -/
theorem State.replayFrom_retrains {sf : Nat} (up : (s.slot n).phase = 5) (out : (s.slot n).st.member = false) (thrice : (s.endOf (sendKey n toCtrl)).replays = (sf, 3)) :
    ((s.replayFrom n toCtrl sf).slot n).phase = 6 ∧ ((s.replayFrom n toCtrl sf).endOf (sendKey n toCtrl)).replays = (0, 0) ∧
      (∀ k, k ≠ sendKey n toCtrl → (s.replayFrom n toCtrl sf).endOf k = s.endOf k) := by
  have many : 4 ≤ (s.endOf (sendKey n toCtrl)).times sf := by simp [LinkEnd.times, thrice]
  have slots := congrArg State.slots (s.replayed_rest n toCtrl sf ((s.endOf (sendKey n toCtrl)).times sf))
  have slot (u : State) (hu : u = (s.replayed n toCtrl sf ((s.endOf (sendKey n toCtrl)).times sf)).took.modEnd (sendKey n toCtrl) (fun e => { e with replays := (0, 0) })) : u.slot n = s.slot n := by
    rw [hu]
    exact congrArg (fun m => Cells.get slot0 m n) slots
  have moved := State.replayFrom_many many
  dsimp only at moved
  have slot' := slot _ rfl
  rw [moved, State.fastRetrain_other (by rw [slot', up]) (by rw [slot', out])]
  have within := State.retrains_within ((s.replayed n toCtrl sf ((s.endOf (sendKey n toCtrl)).times sf)).took.modEnd (sendKey n toCtrl) (fun e => { e with replays := (0, 0) })) n 6
    [n, 0, (s.replayed n toCtrl sf ((s.endOf (sendKey n toCtrl)).times sf)).freeVal]
  refine ⟨(Slot.same_of_quiet (π := Slot.phase) (fun _ => rfl) (State.retrains_slot ..)).trans rfl, ?_, fun k hk => ?_⟩
  · rw [within.endOf, State.modEnd_self]
  · rw [within.endOf, State.modEnd_other _ _ _ _ hk]
    exact (s.replayed_endOf ..).trans (State.modEnd_other _ _ _ _ hk)

/-- A fast retrain of a cartridge that is no member. -/
theorem State.fastRetrain_leaves (up : (s.slot n).phase = 5) (out : (s.slot n).st.member = false) (cause : Nat) :
    ((s.fastRetrain n cause).slot n).phase = 6 ∧ ((s.fastRetrain n cause).slot n).out = (s.slot n).out ∧ (s.fastRetrain n cause).ends = s.ends ∧ s.Within putSlots (s.fastRetrain n cause) := by
  rw [State.fastRetrain_other up out]
  have quiet := s.retrains_slot n 6 [n, 0, cause]
  have within := s.retrains_within n 6 [n, 0, cause]
  exact ⟨(Slot.same_of_quiet (π := Slot.phase) (fun _ => rfl) quiet).trans rfl, (Slot.same_of_quiet (π := Slot.out) (fun _ => rfl) quiet).trans rfl, within.ends_eq, within⟩

/-- A fast retrain of a member: it leaves its phase, and is slow from then on. -/
theorem State.fastRetrain_slows (up : (s.slot n).phase = 5) (member : (s.slot n).st.member = true) (cause : Nat) :
    ∃ u : State, s.fastRetrain n cause = ((u.setSlow n 1).bump (dwCART n + 0x20) 1).log 0x0309 [n, 0, cause] ∧ (u.slot n).phase = 6 ∧ (u.slot n).out = (s.slot n).out ∧ s.Within putSlots u := by
  have quiet := s.linkLeft_slot n 6
  refine ⟨s.linkLeft n 6, ?_, (Slot.same_of_quiet (π := Slot.phase) (fun _ => rfl) quiet).trans rfl, (Slot.same_of_quiet (π := Slot.out) (fun _ => rfl) quiet).trans rfl, s.linkLeft_within n 6⟩
  rw [State.fastRetrain_up up, State.linkLeaves_member member]

/-- What a retrain that the register asks for may move: its cause is a free value. -/
def putAsked (s t : State) : State := { putSlots s t with free := t.free }

theorem State.Within.asked {s t : State} (h : s.took.Within putSlots t) : s.Within putAsked t := by
  have e : t = putSlots s.took t := h
  unfold State.Within
  rw [e]
  rfl

/-- A link reset clears both ends, and begins the identity exchange or leaves it due. -/
theorem State.linkReset_clears (s : State) (n : Nat) : let t := (s.cleared n).afterReset n
    t.endOf (endKey n true) = {} ∧ t.endOf (endKey n false) = {} ∧ ((s.slot n).phase = 5 → (t.slot n).waits (fun p => p = .identify) = true ∧ (t.slot n).syncDue = true) ∧
      ((s.slot n).phase = 6 → (t.slot n).idDue = true ∧ (t.slot n).syncDue = true) ∧ (t.slot n).phase = (s.slot n).phase ∧
      (∀ k, k / 2 ≠ n → t.endOf k = s.endOf k) ∧ (∀ k, k ≠ n → t.slot k = s.slot k) ∧ s.Within putCleared t := by
  have slot := s.cleared_slot n
  have only := (s.cleared n).afterReset_only n
  dsimp only
  rw [only.only_endOf, only.only_endOf, s.cleared_self, s.cleared_self, State.afterReset_phase, slot]
  refine ⟨rfl, rfl, fun up => State.afterReset_up (by rw [slot, up]), fun ph => State.afterReset_retraining (by rw [slot, ph]), rfl, fun k hk => ?_, fun k hk => ?_, ?_⟩
  · rw [only.only_endOf, State.cleared_other _ hk]
  · rw [State.afterReset_other _ hk, slot]
  · exact (s.cleared_within n).trans frames_putCleared (only.widen fun _ _ => rfl)

/-- What a fast retrain that succeeds may move. -/
def putUpAgain (s t : State) : State := { s with slots := t.slots, ends := t.ends }

theorem frames_putUpAgain : Frames putUpAgain := ⟨fun _ => rfl, fun _ _ _ => rfl⟩

theorem State.upAgain_within (s : State) (n : Nat) : s.Within putUpAgain (s.upAgain n) := rfl

theorem execRetrainDone_up {lp : LinkParams} (hn : n < s.part.slots) (ph : (s.slot n).phase = 6) :
    ∃ t, execRetrainDone n true false lp s = .next t ∧ (t.slot n).phase = 5 ∧ (t.slot n).idDue = false ∧
      (t.endOf (endKey n true)) = { s.endOf (endKey n true) with nakSent := true, nakDue := true } ∧
      (t.endOf (endKey n false)) = { s.endOf (endKey n false) with nakSent := true, nakDue := true } ∧
      ((s.slot n).idDue = false → (t.slot n).out = (s.slot n).out) ∧ ((s.slot n).idDue = true → (t.slot n).waits (fun p => p = .identify) = true) ∧ (∀ k, k ≠ n → t.slot k = s.slot k) ∧
      t = { s with slots := t.slots, ends := t.ends } := by
  have slot : (s.upAgain n).slot n = (s.slot n).backUp := State.modSlot_self (s := s) n Slot.backUp
  have other (k : Nat) (hk : k ≠ n) : (s.upAgain n).slot k = s.slot k := State.modSlot_other (s := s) n k Slot.backUp hk
  have ends (c : Bool) : (s.upAgain n).endOf (endKey n c) = { s.endOf (endKey n c) with nakSent := true, nakDue := true } := State.nakBoth_self ..
  refine ⟨_, execRetrainDone_fast hn ph, ?_⟩
  cases due : (s.slot n).idDue
  · rw [if_neg (by simp), slot]
    exact ⟨rfl, rfl, ends true, ends false, fun _ => rfl, fun c => absurd c (by simp), other, rfl⟩
  · have only := (s.upAgain n).identify_only n
    rw [if_pos rfl, only.only_endOf, only.only_endOf]
    refine ⟨?_, State.identify_idDue .., ends true, ends false, fun c => absurd c (by simp), fun _ => State.identify_waits .., fun k hk => ?_, ?_⟩
    · rw [State.identify_same (π := Slot.phase) (fun _ => rfl) (fun _ _ _ => rfl), slot]
      rfl
    · rw [State.identify_other _ hk, other k hk]
    · exact (s.upAgain_within n).trans frames_putUpAgain (only.widen fun _ _ => rfl)

/-- A link that comes up leaves SYNC due, where it was due before. -/
theorem State.linkIsUp_syncDue {lp : LinkParams} (ver : lp.pver = 1) (locked : (lp.lane0 || lp.lane1) = true) (due : (s.slot n).syncDue = true) : ((s.linkIsUp n lp).slot n).syncDue = true := by
  obtain ⟨u, up, quiet, _⟩ := State.linkIsUp_up (s := s) (n := n) ver locked
  rw [up, State.identify_same (π := Slot.syncDue) (fun _ => rfl) (fun _ _ _ => rfl), Slot.same_of_quiet (π := Slot.syncDue) (fun _ => rfl) quiet]
  simp [Slot.linkedUp, due]

theorem State.upFromCleared {lp : LinkParams} (ver : lp.pver = 1) (locked : (lp.lane0 || lp.lane1) = true) :
    let t := ((s.cleared n).modSlot n (fun x => { x with syncDue := true })).linkIsUp n lp
    (t.slot n).phase = 5 ∧ (t.slot n).width = (if lp.lane0 && lp.lane1 then 2 else 1) ∧ (t.slot n).waits (fun p => p = .identify) = true ∧ (t.slot n).syncDue = true ∧
      t.endOf (endKey n true) = {} ∧ t.endOf (endKey n false) = {} := by
  obtain ⟨phase, width, _, _, _, waits, within⟩ := State.linkIsUp_ends (s := (s.cleared n).modSlot n (fun x => { x with syncDue := true })) (n := n) ver locked
  refine ⟨phase, width, waits, State.linkIsUp_syncDue ver locked ?_, ?_, ?_⟩
  · rw [State.modSlot_self]
  · exact (within.endOf _).trans (s.cleared_self n true)
  · exact (within.endOf _).trans (s.cleared_self n false)

end

section
variable {n : Nat} {c : Bool} {s : State}

theorem execAck_leaves {sf : BitVec 12} {f : Superframe} {older newer : List Superframe} (hn : n < s.part.slots) (up : s.linkRuns n = true)
    (held : (s.endOf (endKey n c)).replay = older ++ f :: newer) (here : f.no = sf.toNat) (before : ∀ g ∈ older, g.no ≠ sf.toNat) :
    ∃ t, execAck n c sf s = .next t ∧ (t.endOf (endKey n c)).replay = newer ∧ (∀ k, k ≠ endKey n c → t.endOf k = s.endOf k) ∧ t = { s with ends := t.ends } := by
  refine ⟨_, execAck_taken hn up, ?_, fun k hk => State.modEnd_other _ _ _ _ hk, rfl⟩
  have named : (s.endOf (endKey n c)).replay.any (fun f => f.no = sf.toNat) = true := by simp [held, here]
  rw [State.modEnd_self, if_pos named]
  dsimp only
  rw [held, dropWhile_older here before]
  rfl

theorem execAck_unnamed {sf : BitVec 12} (hn : n < s.part.slots) (up : s.linkRuns n = true) (none : ∀ g ∈ (s.endOf (endKey n c)).replay, g.no ≠ sf.toNat) :
    ∃ t, execAck n c sf s = .next t ∧ (t.endOf (endKey n c)).replay = (s.endOf (endKey n c)).replay ∧ (∀ k, k ≠ endKey n c → t.endOf k = s.endOf k) ∧ t = { s with ends := t.ends } := by
  refine ⟨_, execAck_taken hn up, ?_, fun k hk => State.modEnd_other _ _ _ _ hk, rfl⟩
  have unnamed : ¬(s.endOf (endKey n c)).replay.any (fun f => f.no = sf.toNat) = true := by simpa using none
  rw [State.modEnd_self, if_neg unnamed]

theorem execNak_resends {sf : BitVec 12} (hn : n < s.part.slots) (up : s.linkRuns n = true) (few : (s.endOf (endKey n c)).times sf.toNat < 4) :
    ∃ t, execNak n c sf s = .next t ∧ (t.endOf (endKey n c)).replays = (sf.toNat, (s.endOf (endKey n c)).times sf.toNat) ∧
      (t.endOf (endKey n c)).resend = (s.endOf (endKey n c)).replay.dropWhile (fun f => f.no ≠ sf.toNat) ∧
      (∀ k, k ≠ endKey n c → t.endOf k = s.endOf k) ∧ t = { s with ends := t.ends, dw := t.dw } := by
  have resends := State.replayFrom_resends (s := s) (n := n) (toCtrl := !c) (sf := sf.toNat) (by rw [sendKey_not]; exact few)
  rw [sendKey_not] at resends
  exact ⟨_, execNak_taken hn up, resends⟩

theorem execNak_retrains {sf : BitVec 12} (hn : n < s.part.slots) (up : s.linkRuns n = true) (thrice : (s.endOf (endKey n c)).replays = (sf.toNat, 3)) (out : (s.slot n).st.member = false) :
    ∃ t, execNak n c sf s = .next t ∧ (t.slot n).phase = 6 ∧ (t.endOf (endKey n c)).replays = (0, 0) ∧ (∀ k, k ≠ endKey n c → t.endOf k = s.endOf k) := by
  have retrains := State.replayFrom_retrains (s := s) (n := n) (toCtrl := !c) (sf := sf.toNat) (State.linkRuns_phase up) out (by rw [sendKey_not]; exact thrice)
  rw [sendKey_not] at retrains
  exact ⟨_, execNak_taken hn up, retrains⟩

theorem execReplayTimeout_resends {f : Superframe} {rest : List Superframe} (hn : n < s.part.slots) (up : s.linkRuns n = true) (held : (s.endOf (sendKey n c)).replay = f :: rest) (few : (s.endOf (sendKey n c)).times f.no < 4) :
    ∃ t, execReplayTimeout n c s = .next t ∧ (t.endOf (sendKey n c)).replays = (f.no, (s.endOf (sendKey n c)).times f.no) ∧ (t.endOf (sendKey n c)).resend = f :: rest ∧
      (∀ k, k ≠ sendKey n c → t.endOf k = s.endOf k) ∧ t = { s with ends := t.ends, dw := t.dw } := by
  obtain ⟨replays, resend, other, rest'⟩ := State.replayFrom_resends (s := s) (n := n) (toCtrl := c) (sf := f.no) few
  refine ⟨_, execReplayTimeout_late hn up held, replays, resend.trans ?_, other, rest'⟩
  exact (congrArg (List.dropWhile _) held).trans (List.dropWhile_cons_of_neg (by simp))

theorem execAckTimer_sends (hn : n < s.part.slots) (up : s.linkRuns n = true) (due : (s.endOf (endKey n c)).ackDue = true) (fresh : (s.endOf (endKey n c)).resend = []) :
    ∃ t, execAckTimer n c s = .next t ∧ (t.endOf (endKey n c)).ackDue = false ∧ (t.endOf (endKey n c)).nakDue = false ∧
      (∀ k, k ≠ endKey n c → t.endOf k = s.endOf k) ∧ s.Within putLink t := by
  rw [← sendKey_not] at fresh
  have owes := State.sendSf_owes fresh
  obtain ⟨within, other, _⟩ := s.sendSf_sends n (!c)
  rw [sendKey_not] at owes other
  exact ⟨_, execAckTimer_due hn up due, congrArg Prod.fst owes, congrArg Prod.snd owes, other, within⟩

theorem execAckTimer_again {f : Superframe} {rest : List Superframe} (hn : n < s.part.slots) (up : s.linkRuns n = true) (due : (s.endOf (endKey n c)).ackDue = true) (again : (s.endOf (endKey n c)).resend = f :: rest) :
    ∃ t, execAckTimer n c s = .next t ∧ (t.endOf (endKey n c)).last = some f ∧ (t.endOf (endKey n c)).resend = rest ∧ t = { s with ends := t.ends } := by
  have sent := State.sendSf_again (toCtrl := !c) (by rw [sendKey_not]; exact again)
  rw [sendKey_not] at sent
  refine ⟨_, execAckTimer_due hn up due, ?_⟩
  rw [sent, State.modEnd_self]
  exact ⟨rfl, rfl, rfl⟩

theorem State.acceptBlock_eq {b data : List Byte} {u : State} (hu : u = ((s.sends n c b).acceptSf n c (leAt b 0 2 % 4096)).takeBlockMsgs n c (leAt b 0 2 % 4096) b) :
    s.acceptBlock n c b data = if (u.endOf (endKey n c)).rxNext = (leAt b 0 2 % 4096 + 1) % 4096 then u.takeData n c data else u := by
  unfold State.acceptBlock
  dsimp only
  rw [← hu]
  by_cases moved : (u.endOf (endKey n c)).rxNext = (leAt b 0 2 % 4096 + 1) % 4096
  · rw [if_pos moved, if_neg (not_not.mpr moved)]
  · rw [if_neg moved, if_pos moved]

end

/-- Settles O27: what one end sends moves that end alone, of the ends, and none of its own expectations (`State.Sends`); the rest are state equations of the link. -/
theorem linkEndsMoveTheirNumbers : Obligations.LinkEndsMoveTheirNumbers := by
  refine ⟨fun n c b data s hn talks bad => execControlBlock_bad hn talks bad, fun n c b data s hn talks ok ver => execControlBlock_asks hn talks ok ver,
    fun n c b data s hn talks ok ver zero no => execControlBlock_otherNumber hn talks ok ver zero no, fun n c b data u s hn talks ok ver zero no hu => (execControlBlock_accepted hn talks ok ver zero no).trans (congrArg _ (State.acceptBlock_eq hu)),
    fun n c b data s hn talks ok ver zero no h1 h2 h3 => ⟨_, execControlBlock_accepted hn talks ok ver zero no, State.acceptBlock_moves h1 h2 h3 s n c data⟩,
    fun n c sf f older newer s hn up held here before => execAck_leaves hn up held here before, fun n c sf s hn up none => execAck_unnamed hn up none, fun n k c sf s hn up hk few => ?_,
    fun n c sf s hn up thrice out => execNak_retrains hn up thrice out,
    fun n k c f rest s hn up held hk few => ?_, fun n c f rest s hn up held thrice out => ?_,
    fun n c s hn up due fresh => execAckTimer_sends hn up due fresh, fun n c f rest s hn up due again => execAckTimer_again hn up due again,
    fun p n s hn r on => ⟨_, execLinkReset_on hn r on, s.linkReset_clears n⟩, fun p n s hn r up out => ?_, fun p n s hn r up member => ?_, fun n cause s hn up out => ?_, fun n cause s hn up member => ?_,
    fun n lp s hn ph => execRetrainDone_up hn ph, fun n lp s hn ph out => ⟨_, execRetrainDone_fastFailed hn ph, State.retrainFailed_other out⟩,
    fun n lp s hn lo hi h1 h2 ver locked => ⟨_, execRetrainDone_full hn lo hi h1 h2, State.upFromCleared ver locked⟩, fun n lp s hn lo hi h1 h2 => execRetrainDone_fullFailed hn lo hi h1 h2,
    fun n s hn lo hi => ?_, fun n s hn lo hi => ?_, fun n v s hn lo hi ver => ⟨_, execLinkMgmt_ctrlVersion hn lo hi ver, State.reject_turned _ n 8⟩, fun n v s hn lo hi ver => ?_,
    fun n v c s hn up => execLinkMgmt_retrain hn up⟩
  · subst hk
    exact execNak_resends hn up few
  · subst hk
    exact execReplayTimeout_resends hn up held few
  · exact ⟨_, execReplayTimeout_late hn up held, (State.replayFrom_retrains (toCtrl := c) (State.linkRuns_phase up) out thrice).1⟩
  · obtain ⟨phase, kept, ends, within⟩ := State.fastRetrain_leaves (s := s.took) up out s.freeVal
    exact ⟨_, execRetrain_reached hn r, phase, kept, ends, within.asked⟩
  · obtain ⟨u, slows, phase, kept, within⟩ := State.fastRetrain_slows (s := s.took) up member s.freeVal
    exact ⟨u, (execRetrain_reached hn r).trans (congrArg _ slows), phase, kept, within.asked⟩
  · exact ⟨_, execFastRetrain_heard hn, State.fastRetrain_leaves up out cause⟩
  · obtain ⟨u, slows, rest⟩ := State.fastRetrain_slows up member cause
    exact ⟨u, (execFastRetrain_heard hn).trans (congrArg _ slows), rest⟩
  · refine ⟨_, execLinkMgmt_ctrl hn lo hi, ?_⟩
    rw [State.modSlot_self]
    exact ⟨rfl, rfl, fun k hk => State.modSlot_other _ _ _ _ hk, rfl⟩
  · refine ⟨_, execLinkMgmt_seq hn lo hi, ?_⟩
    rw [State.modSlot_self]
    exact ⟨rfl, fun k hk => State.modSlot_other _ _ _ _ hk, rfl⟩
  · exact ⟨_, execLinkMgmt_seqVersion hn lo hi ver, State.modSeq_self .., fun k hk => State.modSeq_other _ _ _ _ hk, rfl⟩

end Sys2Proof.Machine

namespace Sys2Proof.Machine

/-! ## Segments of a namespace -/

section
variable {s : State}

theorem State.nsx?_modNs {f : Ns → Ns} (same : ∀ x, (f x).nsx = x.nsx) (k j : Nat) :
    (s.modNs k f).nsx? j = (s.nsx? j).map (fun x => if x.nsx = k then f x else x) := by
  have index (x : Ns) : (if x.nsx = k then f x else x).nsx = x.nsx := by
    split
    · exact same x
    · rfl
  simp only [State.nsx?, State.modNs, List.find?_map, Function.comp_def, index]

theorem State.nsx_of_nsx? {k : Nat} {x : Ns} (h : s.nsx? k = some x) : x.nsx = k := by
  simpa using List.find?_some h

/-- A segment of the namespace with an index, where that namespace exists. -/
def State.seg? (s : State) (nsx k : Nat) : Option Seg := (s.nsx? nsx).map (fun x => x.seg k)

theorem State.seg?_modNs {f : Ns → Ns} (index : ∀ x, (f x).nsx = x.nsx) (segs : ∀ x, (f x).segs = x.segs) (n nsx k : Nat) :
    (s.modNs n f).seg? nsx k = s.seg? nsx k := by
  have same (x : Ns) : (if x.nsx = n then f x else x).seg k = x.seg k := by
    split
    · simp only [Ns.seg, segs]
    · rfl
  simp only [State.seg?, State.nsx?_modNs index, Option.map_map, Function.comp_def, same]

theorem State.seg?_modSeg (f : Seg → Seg) (n j nsx k : Nat) :
    (s.modSeg n j f).seg? nsx k = (s.seg? nsx k).map (fun g => if nsx = n ∧ k = j then f g else g) := by
  simp only [State.seg?, State.modSeg]
  rw [State.nsx?_modNs (by exact fun _ => rfl)]
  cases found : s.nsx? nsx with
  | none => rfl
  | some x =>
    simp only [Option.map_some, State.nsx_of_nsx? found]
    by_cases here : nsx = n
    · by_cases at_ : k = j <;> simp [here, at_, Ns.seg, Cells.mod, Cells.get_put]
    · simp [here]

/-- What each update makes of a segment holds of every listed segment, and stays true where it was. -/
theorem State.seg?_each_modSeg {f : Seg → Seg} {good : Seg → Prop} (made : ∀ g, good (f g)) {nsx k : Nat} {l : List (Nat × Band)}
    (h : (∃ e ∈ l, e.2.nsx = nsx ∧ e.2.seg = k) ∨ ∀ g ∈ s.seg? nsx k, good g) :
    ∀ g ∈ (s.each l (fun s e => s.modSeg e.2.nsx e.2.seg f)).seg? nsx k, good g := by
  unfold State.each
  induction l generalizing s with
  | nil => exact h.resolve_left (by simp)
  | cons e l ih =>
    refine ih ?_
    rw [State.seg?_modSeg]
    by_cases here : nsx = e.2.nsx ∧ k = e.2.seg
    · right
      simp only [here, and_self, if_true, Option.mem_def, Option.map_eq_some_iff]
      rintro _ ⟨g, -, rfl⟩
      exact made g
    · simp only [here, if_false, Option.map_id']
      refine h.imp_left ?_
      rintro ⟨d, hd, rfl, rfl⟩
      rcases List.mem_cons.mp hd with rfl | hd
      · exact absurd ⟨rfl, rfl⟩ here
      · exact ⟨d, hd, rfl, rfl⟩

end

/-! ## What fills, folds, switches and the daily checks change -/

/-- `t` has its own media, and all else of `s`. -/
def putMedia (s t : State) : State := { s with media := t.media }

theorem frames_putMedia : Frames putMedia := ⟨fun _ => rfl, fun _ _ _ => rfl⟩

/-- `t` has its own namespaces, and all else of `s`. -/
def putNss (s t : State) : State := { s with media := { s.media with nss := t.media.nss } }

theorem frames_putNss : Frames putNss := ⟨fun _ => rfl, fun _ _ _ => rfl⟩

section
variable (s : State)

theorem State.each_modSeg_within (l : List (Nat × Band)) (f : Seg → Seg) : s.Within putNss (s.each l (fun s e => s.modSeg e.2.nsx e.2.seg f)) :=
  .each frames_putNss (fun t (e : Nat × Band) => (rfl : t.Within putNss (t.modSeg e.2.nsx e.2.seg f))) s l

theorem State.each_modSlot_within (l : List Nat) (f : Slot → Slot) : s.Within putSlotsOnly (s.each l (fun s n => s.modSlot n f)) :=
  .each frames_putSlotsOnly (fun t n => (rfl : t.Within putSlotsOnly (t.modSlot n f))) s l

theorem State.beginFill_marks (p a : Nat) :
    ((s.beginFill p a).band a).copying = true ∧ ((s.beginFill p a).band a).copySeq = s.media.seq ∧ ((s.beginFill p a).band a).handle = none := by
  simp only [State.beginFill, State.takeSeq, State.modBand_self, and_self]

theorem State.beginFill_seq (p a : Nat) : (s.beginFill p a).media.seq = s.media.seq + 1 := by
  cases h : (s.band a).handle <;> simp only [State.beginFill, h] <;> rfl

theorem State.beginFill_fdpEvents (p a : Nat) :
    ((s.beginFill p a).pool p).fdpEvents = (s.pool p).fdpEvents ++ (s.band a).handle.toList.map (fun h => (0x80, h, a)) := by
  have modBand_pool (t : State) (f : Band → Band) : (t.modBand a f).pool p = t.pool p := rfl
  cases h : (s.band a).handle with
  | none =>
    simp only [State.beginFill, h, modBand_pool, Option.toList_none, List.map_nil, List.append_nil]
    rfl
  | some k =>
    simp only [State.beginFill, h, modBand_pool, State.modPool_self]
    rfl

theorem State.beginFill_within (p a : Nat) : s.Within putMedia (s.beginFill p a) := by
  cases h : (s.band a).handle <;> simp only [State.beginFill, h] <;> rfl

theorem State.beginFold_marks (nsx seg b : Nat) (g : Seg) :
    ((s.beginFold nsx seg b g).band b).copying = true ∧ ((s.beginFold nsx seg b g).band b).copySeq = s.media.seq := by
  simp only [State.beginFold, State.takeSeq, State.modBand_self, and_self]

theorem State.dropLost_nss (nsid lo hi : Nat) : (s.dropLost nsid lo hi).media.nss = s.media.nss := by
  unfold State.dropLost
  dsimp only
  split <;> rfl

theorem State.dropLost_within (nsid lo hi : Nat) : s.Within putMedia (s.dropLost nsid lo hi) := by
  unfold State.dropLost
  dsimp only
  split <;> rfl

theorem State.dropCopied_within (dst : Nat) : s.Within putMedia (s.dropCopied dst) := by
  unfold State.dropCopied
  refine .trans frames_putMedia ?_ (.each frames_putMedia (fun t c => .trans frames_putMedia ?_ (State.dropLost_within _ _ _ _)) _ _) <;> rfl

/-- Blocks copied as deallocated lose their marks, but no segment changes (R165). -/
theorem State.dropCopied_seg? (dst nsx k : Nat) : (s.dropCopied dst).seg? nsx k = s.seg? nsx k := by
  unfold State.dropCopied
  refine State.each_same (π := fun t => t.seg? nsx k) (fun t c => ?_) _ _
  have kept (u : State) (nsid lo hi : Nat) : (u.dropLost nsid lo hi).seg? nsx k = u.seg? nsx k := by
    simp only [State.seg?, State.nsx?, State.dropLost_nss]
  refine (kept ..).trans (State.seg?_modNs ?_ ?_ ..) <;> exact fun _ => rfl

theorem State.switchSeg_within (band : Nat) : s.Within putMedia (s.switchSeg band) := by
  refine .trans frames_putMedia ?_ (State.dropCopied_within _ _)
  rfl

theorem State.switchSeg_seg? (band : Nat) :
    (s.switchSeg band).seg? (s.band band).nsx (s.band band).seg =
      (s.seg? (s.band band).nsx (s.band band).seg).map (fun _ => { b := some band, lastFold := s.gbk.uptime }) := by
  simp only [State.switchSeg, State.dropCopied_seg?, State.seg?_modSeg, and_self, if_true]

end

/-! ## Life forecasts (R172) -/

/-- Each slot takes the update as often as it is listed. -/
theorem State.each_modSlot_slot (s : State) (l : List Nat) (f : Slot → Slot) (n : Nat) :
    (s.each l (fun s n => s.modSlot n f)).slot n = f^[l.count n] (s.slot n) := by
  unfold State.each
  induction l generalizing s with
  | nil => rfl
  | cons k l ih =>
    refine (ih _).trans ?_
    by_cases here : k = n
    · subst here
      rw [State.modSlot_self, List.count_cons_self, Function.iterate_succ_apply]
    · rw [State.modSlot_other _ _ _ _ (Ne.symm here), List.count_cons_of_ne here]

section
variable (x : Slot)

/-- Eight daily figures are in hand when the seventh of the days before is. -/
theorem Slot.days_short_iff : ((x.life :: x.lifeDays).take 8).length < 8 ↔ x.lifeDays.length < 7 := by
  simp only [List.length_take, List.length_cons]
  omega

theorem Slot.forecastDay_early (h : x.lifeDays.length < 7) : x.forecastDay.forecast = 0xFFFF := if_pos (.inl (x.days_short_iff.mpr h))

variable {x}

theorem Slot.forecastDay_week {d : Nat} (h : x.lifeDays[6]? = some d) :
    x.forecastDay.forecast = if x.life - d = 0 then 0xFFFF else min 0xFFFE ((900 - x.life) * 7 / (x.life - d)) := by
  have week : ¬ x.lifeDays.length < 7 := by
    obtain ⟨long, -⟩ := List.getElem?_eq_some_iff.mp h
    omega
  have first : ((x.life :: x.lifeDays).take 8).getD 7 x.life = d := by
    simp [List.getD_eq_getElem?_getD, h]
  simp only [Slot.forecastDay, Slot.days_short_iff, week, first, false_or]

end

/-! ## Background work with the datapath off -/

section
variable {s : State} (off : s.coreOn = false)
include off

theorem execPatrol_off (pool band row : Nat) : execPatrol pool band row s = .next s := if_pos (.inl off)
theorem execSlcUnitTimeout_off (pool : Nat) : execSlcUnitTimeout pool s = .next s := if_pos (.inl off)
theorem execJournalUnitTimeout_off (pool n : Nat) : execJournalUnitTimeout pool n s = .next s := if_pos (.inl off)
theorem execLogGc_off (pool band : Nat) : execLogGc pool band s = .next s := if_pos (.inl off)
theorem execWearCheck_off (pool : Nat) : execWearCheck pool s = .next s := if_pos (.inl off)
theorem execLifeForecast_off (pool : Nat) : execLifeForecast pool s = .next s := if_pos (.inl off)
theorem execRebuildRow_off (pool band row : Nat) : execRebuildRow pool band row s = .next s := if_pos (.inl off)
theorem execSpareRetry_off (pool : Nat) : execSpareRetry pool s = .next s := if_pos (.inl off)
theorem execFrontierFill_off (nsx seg : Nat) : execFrontierFill nsx seg s = .next s := by
  unfold execFrontierFill
  split
  · rfl
  · split
    · rfl
    · exact if_pos (.inl off)
theorem execFold_off (nsx seg : Nat) : execFold nsx seg s = .next s := by
  unfold execFold
  split
  · rfl
  · exact if_pos (.inl off)

end

/-! ## Background work whose case holds -/

section
variable {pool band row : Nat} {s : State}

theorem execPatrol_on (on : s.coreOn = true) (role : (s.band band).role ≠ 0) (whole : (s.band band).shavings = false) (here : (s.band band).pool = pool)
    (written : row < ceilDiv (s.band band).taken (max 1 (s.band band).rowSize)) :
    execPatrol pool band row s =
      .next (s.each ((List.range ((s.band band).n + 2)).filter (fun mp => s.patrols band row mp)) (fun u mp => u.patrolWord (s.band band) band row mp)).settle :=
  if_neg (by simp [on, role, whole, here, written])

theorem State.patrols_filter_eq_nil (unread : ∀ mp < (s.band band).n + 2, s.patrols band row mp = false) :
    (List.range ((s.band band).n + 2)).filter (fun mp => s.patrols band row mp) = [] := by
  simpa using unread

theorem execSlcUnitTimeout_on (on : s.coreOn = true) (h : pool < 4) :
    execSlcUnitTimeout pool s = .next ((s.fillOpen (s.pool pool).logBand).fillOpen ((s.fillOpen (s.pool pool).logBand).pool pool).regBand).settle :=
  if_neg (by simp [on, h])

theorem execJournalUnitTimeout_on {n : Nat} (on : s.coreOn = true) (h : n < 64) (member : (s.slot n).pool = some pool) :
    execJournalUnitTimeout pool n s = if (s.ring n).blocks.isEmpty then .next (s.journalLost n).settle else .next (s.issueJournal n).settle :=
  if_neg (by simp [on, h, member])

theorem execFrontierFill_on {nsx seg a : Nat} {x : Ns} (found : s.nsx? nsx = some x) (direct : (x.seg seg).a = some a) (on : s.coreOn = true)
    (open_ : s.openDirect (x.seg seg) = true) (idle : (s.band a).copying = false) (free : s.fillBusy x seg a = false) :
    execFrontierFill nsx seg s = .next (((s.beginFill x.pool a).copyRowOf a).settle) := by
  simp only [execFrontierFill, found, direct]
  exact if_neg (by simp [on, open_, idle, free])

theorem execFold_on {nsx seg : Nat} {x : Ns} {o : Option Nat} {u : State} (found : s.nsx? nsx = some x) (on : s.coreOn = true) (inside : seg < s.segCount x)
    (unfolded : (x.seg seg).folding = none) (shut : s.openDirect (x.seg seg) = false) (wide : s.narrowFor x = false) (free : s.segBusy x seg = false)
    (due : s.foldDue x seg = true) (opened : s.foldBand x nsx seg = (o, u)) :
    execFold nsx seg s = .next (o.elim u (fun b => ((u.beginFold nsx seg b (x.seg seg)).copyRowOf b).settle)) := by
  simp only [execFold, found, opened]
  rw [if_neg (by simp [on, inside, unfolded, shut, wide, free, due])]
  cases o <;> simp only [Option.elim_none, Option.elim_some]

theorem execFoldSwitch_on {x : Ns} (role : (s.band band).role = 2) (durable : (s.band band).sumDurable = true) (whole : (s.band band).shavings = false)
    (found : s.nsx? (s.band band).nsx = some x) (folding : (x.seg (s.band band).seg).folding = some band) :
    execFoldSwitch band s =
      .next ((s.switchSeg band).each ((x.seg (s.band band).seg).a.toList ++ (x.seg (s.band band).seg).b.toList) (fun s o => s.shave o)).settle := by
  simp only [execFoldSwitch, found, Option.map_some]
  exact if_neg (by simp [role, durable, whole, folding])

theorem execLogGc_on (on : s.coreOn = true) (role : (s.band band).role = 3) (here : (s.band band).pool = pool) (closed : (s.band band).closed = true)
    (whole : (s.band band).shavings = false) (once : ∀ g ∈ s.media.gcs, g.src ≠ band) (free : s.logBusy pool = false)
    (chosen : s.gcForced band = true ∨ s.gcVictim pool band = true) : execLogGc pool band s = .next (s.startGc pool band) :=
  (if_neg (by simpa [on, role, here, closed, whole, free] using once)).trans (if_pos chosen)

theorem execWearCheck_on (on : s.coreOn = true) (h : pool < 4) :
    execWearCheck pool s = .next (s.each ((s.oldBands pool).filter (fun e => s.leastWorn pool e.2)) (fun s e =>
      s.modSeg e.2.nsx e.2.seg (fun g => { g with refresh := true, wear := g.wear || !g.refresh }))) :=
  if_neg (by simp [on, h])

theorem execLifeForecast_on (on : s.coreOn = true) (h : pool < 4) :
    execLifeForecast pool s = .next (s.each (s.inService pool) (fun s n => s.modSlot n Slot.forecastDay)) :=
  if_neg (by simp [on, h])

theorem execSpareRetry_on {u : State} (on : s.coreOn = true) (h : pool < 4) (hu : u = s.modPool pool (fun q => { q with waitSpare := [] })) :
    execSpareRetry pool s = .next ((u.rebuildOrder pool).head?.elim u (fun b => u.rebuildRow pool b 0)) := by
  unfold execSpareRetry
  rw [if_neg (by simp [on, h])]
  dsimp only
  rw [← hu]
  cases (u.rebuildOrder pool).head? <;> simp only [Option.elim_none, Option.elim_some]

end

/-! ### Reserves (R169, R185) -/

section
variable {n die mode : Nat} {s : State}

/-- Erased die-blocks of a mode that a die holds in reserve. -/
def State.inReserve (s : State) (n die mode : Nat) : Nat := ((s.dieBlocks n die).filter (fun e => e.2.st = .erased ∧ e.2.mode = mode)).length

theorem execReserveErase_full (hn : n < s.part.slots) (free : s.mustErase n die = none) (full : (if mode = 0 then 2 else 1) ≤ s.inReserve n die mode) :
    execReserveErase n die mode s = .next s := by
  refine (onSlot_ok hn).trans (congrArg _ ?_)
  dsimp only
  split
  · rfl
  · rw [free]
    exact if_pos full

variable (hn : n < s.part.slots) (serves : (s.slot n).st = .inService) (young : (s.slot n).lifeFlags.testBit 2 = false) (hm : mode ≤ 1)
  (hd : die < (s.slot n).dieCount) (alive : (s.slot n).diesFailed.contains die = false)
include hn serves young hm hd alive

theorem execReserveErase_must {pl : Place} (must : s.mustErase n die = some pl) :
    execReserveErase n die mode s = .next (s.eraseFor pl mode .erased).freeBands := by
  refine (onSlot_ok hn).trans (congrArg _ ((if_neg ?_).trans ?_))
  · simpa [serves, young, hm, hd] using alive
  · simp only [must]

theorem execReserveErase_picks {pl : Place} {u : State} (free : s.mustErase n die = none) (short : s.inReserve n die mode < (if mode = 0 then 2 else 1))
    (pick : s.pickDirty n die = (some pl, u)) : execReserveErase n die mode s = .next (u.eraseFor pl mode .erased).freeBands := by
  refine (onSlot_ok hn).trans (congrArg _ ((if_neg ?_).trans ?_))
  · simpa [serves, young, hm, hd] using alive
  · simp only [free, pick]
    exact if_neg (Nat.not_le.mpr short)

end

/-! ### Rebuild (R173, R230 to R233) -/

section
variable {pool band row : Nat} {s : State} (on : s.coreOn = true) (here : (s.band band).pool = pool) (whole : (s.band band).shavings = false)
include on here whole

theorem execRebuildRow_dense (role : (s.band band).role = 1 ∨ (s.band band).role = 2) (turn : s.rebuildTurn pool band = true) :
    execRebuildRow pool band row s = .next (s.rebuildRow pool band row) := by
  have present : (s.band band).role ≠ 0 := by omega
  have notLog : (s.band band).role ≠ 3 := by omega
  have notReg : (s.band band).role ≠ 4 := by omega
  simp [execRebuildRow, on, here, whole, present, notLog, notReg, turn]

theorem execRebuildRow_log (role : (s.band band).role = 3) (forced : s.gcForced band = true) (first : s.rebuildAhead pool 2 = false)
    (once : ∀ g ∈ s.media.gcs, g.src ≠ band) (free : (s.band band).closed = true → s.logBusy pool = false) :
    execRebuildRow pool band row s = if (s.band band).closed then .next (s.startGc pool band) else .next (s.closeEarly band).settle := by
  have notYet : s.media.gcs.any (fun g => g.src = band) = false := by simpa using once
  refine (if_neg (by simp [on, here, whole, role])).trans ((if_pos role).trans (if_neg ?_))
  simpa [forced, first, notYet] using free

theorem execRebuildRow_reg (role : (s.band band).role = 4) (current : (s.pool pool).regBand = some band) (forced : s.gcForced band = true) :
    execRebuildRow pool band row s = .next ((s.modPool pool (fun q => { q with regBand := none })).needReg pool).settle := by
  simp [execRebuildRow, on, here, whole, role, current, forced]

end

/-- Settles O34: each command runs past its guard; what a fill, a fold switch, a wear check and a forecast leave is read off the lemmas of their folds. -/
theorem backgroundWorkActsOnItsPool : Obligations.BackgroundWorkActsOnItsPool := by
  refine ⟨fun pool band row nsx seg n s off => ?_, fun pool s u on h hu => ?_, fun pool n s on h member ring => ?_, fun pool n s on h member ring => ?_,
    fun nsx seg a x s found direct on open_ idle free => ?_, fun nsx seg x s found on inside unfolded shut wide free due => ?_,
    fun band x s role durable whole found folding => ?_, fun pool band s on role here closed whole once free chosen => execLogGc_on on role here closed whole once free chosen,
    fun n die mode pl s hn serves young hm hd alive must => execReserveErase_must hn serves young hm hd alive must,
    fun n die mode pl s u hn serves young hm hd alive free short pick => execReserveErase_picks hn serves young hm hd alive free short pick,
    fun n die mode s hn free full => execReserveErase_full hn free full, fun pool s on h => ?_, fun pool s on h => ?_, fun x => ?_,
    fun pool band row s on role here whole turn => execRebuildRow_dense on here whole role turn, fun pool band row s on role here whole forced first once closed free => ?_,
    fun pool band row s on role here whole forced first once open_ => ?_, fun pool band row s on role here whole current forced => execRebuildRow_reg on here whole role current forced,
    fun pool s u on h hu => ?_, fun pool band row s on role whole here written unread => ?_, fun pool band row s on role whole here written => execPatrol_on on role whole here written⟩
  · exact ⟨execPatrol_off off .., execSlcUnitTimeout_off off _, execJournalUnitTimeout_off off .., execFrontierFill_off off .., execFold_off off .., execLogGc_off off ..,
      execWearCheck_off off _, execLifeForecast_off off _, execRebuildRow_off off .., execSpareRetry_off off _⟩
  · subst hu
    exact execSlcUnitTimeout_on on h
  · exact (execJournalUnitTimeout_on on h member).trans (if_neg (by simpa using ring))
  · exact (execJournalUnitTimeout_on on h member).trans (if_pos (by simpa using ring))
  · obtain ⟨copying, seq, handle⟩ := s.beginFill_marks x.pool a
    exact ⟨execFrontierFill_on found direct on open_ idle free, copying, seq, handle, s.beginFill_seq _ a, s.beginFill_fdpEvents _ a, s.beginFill_within _ a⟩
  · have ran {o : Option Nat} {u : State} (opened : s.foldBand x nsx seg = (o, u)) := execFold_on found on inside unfolded shut wide free due opened
    refine ⟨fun u opened => (ran opened).trans (congrArg _ (Option.elim_none ..)), fun b u opened => ?_⟩
    obtain ⟨copying, seq⟩ := u.beginFold_marks nsx seg b (x.seg seg)
    exact ⟨(ran opened).trans (congrArg _ (Option.elim_some ..)), copying, seq, rfl, rfl⟩
  · refine ⟨execFoldSwitch_on role durable whole found folding, (s.switchSeg_seg? band).trans ?_, s.switchSeg_within band⟩
    simp only [State.seg?, found, Option.map_some]
  · refine ⟨_, execWearCheck_on on h, State.each_modSeg_within .., fun e old worn y found => ?_, fun unworn => ?_⟩
    · exact State.seg?_each_modSeg (good := fun g => g.refresh = true) (fun _ => rfl) (.inl ⟨e, List.mem_filter.mpr ⟨old, worn⟩, rfl, rfl⟩) _
        (Option.map_eq_some_iff.mpr ⟨y, found, rfl⟩)
    · rw [List.filter_eq_nil_iff.mpr (by simpa using unworn)]
      rfl
  · refine ⟨_, execLifeForecast_on on h, State.each_modSlot_within .., fun n out => ?_, fun n once => ?_⟩
    · rw [State.each_modSlot_slot, List.count_eq_zero.mpr out]
      rfl
    · rw [State.each_modSlot_slot, once]
      rfl
  · exact ⟨rfl, x.forecastDay_early, fun d week idle => (Slot.forecastDay_week week).trans (if_pos (by omega)), fun d week used => (Slot.forecastDay_week week).trans (if_neg (by omega)), rfl⟩
  · exact (execRebuildRow_log on here whole role forced first once fun _ => free).trans (if_pos closed)
  · exact (execRebuildRow_log on here whole role forced first once fun closed => absurd closed (by simp [open_])).trans (if_neg (by simp [open_]))
  · refine (execSpareRetry_on on h hu).trans ?_
    cases (u.rebuildOrder pool).head? <;> simp only [Option.elim_none, Option.elim_some]
  · refine (execPatrol_on on role whole here written).trans ?_
    rw [State.patrols_filter_eq_nil unread]
    rfl

end Sys2Proof.Machine

namespace Sys2Proof.Machine

/-! ## Cartridges that join a pool (R142, R174) -/

/-- `t` differs from `s` in no completion and in no slot but `n`, whose state and pool are as they were. -/
structure SeatedAs (n : Nat) (s t : State) : Prop where
  io : t.io = s.io
  other : ∀ k, k ≠ n → t.slot k = s.slot k
  st : (t.slot n).st = (s.slot n).st
  pool : (t.slot n).pool = (s.slot n).pool

namespace SeatedAs

variable {n : Nat} {s t u : State}

/-- An update that touches neither slots nor completions. -/
theorem same (slots : t.slots = s.slots) (io : t.io = s.io) : SeatedAs n s t := by
  have slot (k : Nat) : t.slot k = s.slot k := by simp only [State.slot, slots]
  exact ⟨io, fun k _ => slot k, by rw [slot], by rw [slot]⟩

theorem refl (s : State) : SeatedAs n s s := same rfl rfl

theorem trans (h : SeatedAs n s t) (k : SeatedAs n t u) : SeatedAs n s u :=
  ⟨k.io.trans h.io, fun j hj => (k.other j hj).trans (h.other j hj), k.st.trans h.st, k.pool.trans h.pool⟩

/-- Composition, the later operation first. -/
theorem comp (k : SeatedAs n t u) (h : SeatedAs n s t) : SeatedAs n s u := h.trans k

theorem modSlot (s : State) {f : Slot → Slot} (st : ∀ x, (f x).st = x.st) (pool : ∀ x, (f x).pool = x.pool) : SeatedAs n s (s.modSlot n f) :=
  ⟨rfl, fun k hk => s.modSlot_other n k f hk, by rw [State.modSlot_self, st], by rw [State.modSlot_self, pool]⟩

theorem send (s : State) (op : Nat) (m : CartCmd) (w : Purpose) (fr : List (Nat × BitVec 36864)) : SeatedAs n s (s.send n op m w fr) :=
  ⟨rfl, fun k hk => s.modSlot_other n k _ hk, State.send_same (π := Slot.st) (fun _ => rfl) s n op m w fr n, State.send_same (π := Slot.pool) (fun _ => rfl) s n op m w fr n⟩

theorem ite {c : Prop} [Decidable c] (h : SeatedAs n s t) (k : SeatedAs n s u) : SeatedAs n s (if c then t else u) := by
  split
  · exact h
  · exact k

theorem each {α : Type} {f : State → α → State} (h : ∀ s a, SeatedAs n s (f s a)) (s : State) (l : List α) : SeatedAs n s (s.each l f) := by
  unfold State.each
  induction l generalizing s with
  | nil => exact refl s
  | cons a l ih => exact (h s a).trans (ih _)

theorem choose {α : Type} (s : State) (l : List α) : SeatedAs n s (s.choose l).2 := by
  unfold State.choose
  split <;> exact same rfl rfl

/-- A die-block of the cartridge is erased. -/
theorem eraseFor (s : State) (pl : Place) (here : pl.slot = n) (mode : Nat) (use : BlockSt) : SeatedAs n s (s.eraseFor pl mode use) := by
  subst here
  unfold State.eraseFor
  dsimp only
  refine .comp (.ite (.refl _) (.send ..)) <| .comp (.ite (.modSlot _ ?_ ?_) (.refl _)) <| .same rfl rfl
  all_goals exact fun _ => rfl

theorem pickDirty {d : Nat} {o : Option Place} (h : s.pickDirty n d = (o, t)) : SeatedAs n s t := by
  obtain rfl : (s.pickDirty n d).2 = t := congrArg Prod.snd h
  unfold State.pickDirty
  dsimp only
  split
  · exact refl s
  · exact choose ..

end SeatedAs

/-- A die-block picked on a cartridge is one of its own. -/
theorem State.pickDirty_here {s t : State} {n d : Nat} {pl : Place} (h : s.pickDirty n d = (some pl, t)) : pl.slot = n := by
  unfold State.pickDirty at h
  dsimp only at h
  split at h
  next e found =>
    cases h
    have listed := List.mem_of_mem_filter (List.mem_of_find?_eq_some found)
    simp only [State.dieBlocks, List.mem_filter, decide_eq_true_eq] at listed
    exact listed.2.1
  · obtain ⟨picked, -⟩ := Prod.mk.inj h
    obtain ⟨k, -, rfl⟩ := Option.map_eq_some_iff.mp picked
    rfl

theorem State.layOut_seated (s : State) (n : Nat) : SeatedAs n s (s.layOut n) := by
  have journal {β : Type} {f : List Place × State → β → List Place × State} (step : ∀ a i, SeatedAs n a.2 (f a i).2) (l : List β) (ps : List Place) (t : State) :
      SeatedAs n t (l.foldl f (ps, t)).2 := by
    induction l generalizing ps t with
    | nil => exact .refl _
    | cons i l ih => exact (step (ps, t) i).trans (ih ..)
  unfold State.layOut
  dsimp only
  have ring (t : State) (r : JRing) : SeatedAs n t (t.setRing n r) := .same rfl rfl
  refine .comp (ring ..) <| .comp (journal (fun a i => ?_) ..) <| .each (fun t d => .eraseFor t ⟨n, d, 0⟩ rfl ..) ..
  split
  next pl t picked => exact (SeatedAs.pickDirty picked).trans (.eraseFor t pl (State.pickDirty_here picked) ..)
  next t picked => exact SeatedAs.pickDirty picked

theorem State.log_seated (s : State) (code : Nat) (ps : List Nat) (n : Nat) : SeatedAs n s (s.log code ps) := by
  rw [State.log_rest]
  exact .same rfl rfl

theorem State.checkNarrow_seated (s : State) (p n : Nat) : SeatedAs n s (s.checkNarrow p) := by
  unfold State.checkNarrow
  dsimp only
  split
  · exact .comp (.ite (.refl _) (State.log_seated ..)) <| .same rfl rfl
  · exact .same rfl rfl

/-- A cartridge that joins a pool is in service in it; no other slot and no completion moves. -/
theorem State.joinPool_seats (s : State) (p n : Nat) : (s.joinPool p n).io = s.io ∧ (∀ k, k ≠ n → (s.joinPool p n).slot k = s.slot k) ∧
    ((s.joinPool p n).slot n).st = .inService ∧ ((s.joinPool p n).slot n).pool = some p := by
  let seated : State := ({ s with media.blocks := s.media.blocks.filter (fun e => e.1.slot ≠ n) } : State).modSlot n (fun x =>
    { x with st := .inService, pool := some p, midx := s.freeIdx p, lastPool := none, lostMember := false, drain := none })
  have joined : SeatedAs n seated (s.joinPool p n) := by
    unfold State.joinPool
    dsimp only
    exact .comp (.each (fun _ _ => .send ..) _ _) <| .comp (State.checkNarrow_seated ..) <| .comp (State.layOut_seated ..) <| .same rfl rfl
  refine ⟨joined.io, fun k hk => (joined.other k hk).trans (State.modSlot_other _ n k _ hk), joined.st.trans ?_, joined.pool.trans ?_⟩
  · exact congrArg Slot.st (State.modSlot_self ..)
  · exact congrArg Slot.pool (State.modSlot_self ..)

/-- A fold whose step makes its own slot `good` and leaves every other slot alone. -/
theorem State.each_slot {f : State → Nat → State} {good : Slot → Prop} (made : ∀ s n, good ((f s n).slot n)) (other : ∀ (s : State) n k, k ≠ n → (f s n).slot k = s.slot k)
    (s : State) (l : List Nat) : (∀ n ∈ l, good ((s.each l f).slot n)) ∧ (∀ n, n ∉ l → (s.each l f).slot n = s.slot n) := by
  unfold State.each
  induction l generalizing s with
  | nil => exact ⟨fun n hn => absurd hn List.not_mem_nil, fun n _ => rfl⟩
  | cons k l ih =>
    obtain ⟨listed, absent⟩ := ih (f s k)
    refine ⟨fun n hn => ?_, fun n hn => ?_⟩
    · by_cases later : n ∈ l
      · exact listed n later
      · obtain rfl := (List.mem_cons.mp hn).resolve_right later
        exact (absent n later).symm ▸ made s n
    · rw [List.mem_cons, not_or] at hn
      exact (absent n hn.2).trans (other s k n hn.1)

theorem mem_bitsOf {v n i : Nat} : i ∈ bitsOf v n ↔ i < n ∧ v.testBit i = true := by
  simp only [bitsOf, List.mem_filter, List.mem_range]

/-! ## A pool that is deleted (R193) -/

section
variable {α : Type} [DecidableEq α] {d : Nat → α}

/-- A change of every cell, where it keeps the default and makes another value of this cell. -/
theorem Cells.get_every {f : Nat → α → α} {m : Cells α} {k : Nat} (dflt : f k (d k) = d k) (value : f k (m.get d k) ≠ d k) : (m.every d f).get d k = f k (m.get d k) := by
  induction m with
  | nil => exact absurd dflt value
  | cons e m ih =>
    obtain ⟨j, v⟩ := e
    by_cases here : j = k
    · subst here
      simp only [Cells.get, if_true] at value
      simp [Cells.every, value, Cells.get]
    · simp only [Cells.get, if_neg here] at value ⊢
      have rest := ih value
      by_cases listed : f j v = d j <;> simpa [Cells.every, listed, Cells.get, here] using rest

end

/-- A member of a deleted pool. -/
def Slot.released (x : Slot) : Slot := { x with st := .admitted, pool := none, drain := none, slow := false, lastPool := none }

/-- A slot that does not remember pool `p` as the one it was last in. -/
def Slot.forgets (x : Slot) (p : Nat) : Slot := if x.lastPool = some p then { x with lastPool := none } else x

/-- The state without a deleted pool and what it held on media; its members are still to be freed. -/
def State.withoutPool (s : State) (p : Nat) : State :=
  let mine := fun (b : Nat) => (s.band b).pool = p
  { s with
    media.bands := s.media.bands.filter (fun e => e.2.pool ≠ p)
    media.units := s.media.units.filter (fun u => ¬(s.poolSlots p).contains u.at_.slot)
    media.jrecs := s.media.jrecs.filter (fun j => ¬mine j.band)
    media.recs := s.media.recs.filter (fun r => r.pool ≠ p)
    media.reqs := s.media.reqs.filter (fun q => ¬mine q.band)
    media.recons := s.media.recons.filter (fun q => ¬mine q.band)
    media.gcs := s.media.gcs.filter (fun g => ¬mine g.src)
    media.log := s.media.log.filter (fun e => ¬mine e.2.band)
    media.gone := s.media.gone.filter (fun g => g.pool ≠ p)
    media.blocks := s.media.blocks.filter (fun e => ¬(s.poolSlots p).contains e.1.slot)
    media.rings := s.media.rings.filter (fun e => ¬(s.poolSlots p).contains e.1)
    media.pools := s.media.pools.put pool0 p {} }

theorem State.dropPool_eq (s : State) (p : Nat) : s.dropPool p = { s.withoutPool p with
    slots := Cells.every slot0 ((s.poolSlots p).foldl (fun m n => m.mod slot0 n Slot.released) s.slots) (fun _ x => x.forgets p) } := by
  have frees := (s.withoutPool p).each_modSlot (s.poolSlots p) Slot.released
  calc s.dropPool p
    _ = { (s.withoutPool p).each (s.poolSlots p) (fun s n => s.modSlot n Slot.released) with
          slots := Cells.every slot0 ((s.withoutPool p).each (s.poolSlots p) (fun s n => s.modSlot n Slot.released)).slots (fun _ x => x.forgets p) } := rfl
    _ = _ := by rw [frees]; rfl

theorem State.dropPool_slot {s : State} {p n : Nat} (member : n ∈ s.poolSlots p) : ((s.dropPool p).slot n).st = .admitted ∧ ((s.dropPool p).slot n).pool = none := by
  have freed := Cells.get_foldl_mod (d := slot0) (f := Slot.released) (good := fun x => x.st = .admitted ∧ x.pool = none) (m := s.slots) (fun x => ⟨rfl, rfl⟩) (.inl member)
  generalize he : (s.poolSlots p).foldl (fun m n => m.mod slot0 n Slot.released) s.slots = m at freed
  have forgets {x : Slot} (h : x.st = .admitted ∧ x.pool = none) : (x.forgets p).st = .admitted ∧ (x.forgets p).pool = none := by
    unfold Slot.forgets
    split <;> exact h
  have slot : (s.dropPool p).slot n = (m.get slot0 n).forgets p := by
    rw [State.dropPool_eq, he]
    refine Cells.get_every (d := slot0) (f := fun _ x => x.forgets p) rfl fun empty => ?_
    have st := (forgets freed).1
    rw [empty] at st
    cases st
  rw [slot]
  exact forgets freed

theorem State.dropPool_media (s : State) (p : Nat) : (s.dropPool p).media = (s.withoutPool p).media := by rw [State.dropPool_eq]

theorem State.dropPool_gone (s : State) (p : Nat) : ((s.dropPool p).pool p).exist = false ∧ (∀ k, k ≠ p → (s.dropPool p).pool k = s.pool k) ∧ (∀ e ∈ (s.dropPool p).media.bands, e.2.pool ≠ p) ∧
    s.dropPool p = { s with media := (s.dropPool p).media, slots := (s.dropPool p).slots } := by
  have pools (k : Nat) : (s.dropPool p).pool k = if k = p then {} else s.pool k := by
    rw [State.pool, State.dropPool_media]
    exact Cells.get_put pool0 s.media.pools p k {}
  refine ⟨by rw [pools, if_pos rfl], fun k hk => by rw [pools, if_neg hk], fun e he => ?_, ?_⟩
  · rw [State.dropPool_media] at he
    exact of_decide_eq_true (List.mem_filter.mp he).2
  · rw [State.dropPool_eq]
    rfl

/-! ## Media Pool Configure (R141 to R143, R175) -/

section
variable {act : Nat} {c : Cmd} {s : State}

theorem poolCmd_waits (hc : s.readyFor true c = true) (h : s.poolWaits act c = true) : poolCmd act c s = .next { s with media.late := s.media.late ++ [c] } := by
  rw [poolCmd, adminCmd_ready hc]
  exact congrArg _ (if_pos h)

theorem poolCmd_refused {st : Status} (hc : s.readyFor true c = true) (now : s.poolWaits act c = false) (h : s.poolRefusal act c = some st) : poolCmd act c s = .next (s.refuse c st) := by
  rw [poolCmd, adminCmd_ready hc]
  simp [now, State.poolGo, h]

/-- The six actions of Media Pool Configure are one command with their number. -/
theorem exec_poolCmd {i : Instr} (h : (act, i) ∈ [(0, Instr.poolCreate c), (1, .poolAdd c), (2, .poolRemove c), (3, .poolSet c), (4, .poolDelete c), (5, .poolReport c)]) :
    exec i s = poolCmd act c s := by
  simp only [List.mem_cons, Prod.mk.injEq, List.not_mem_nil, or_false] at h
  rcases h with ⟨rfl, rfl⟩ | ⟨rfl, rfl⟩ | ⟨rfl, rfl⟩ | ⟨rfl, rfl⟩ | ⟨rfl, rfl⟩ | ⟨rfl, rfl⟩ <;> rfl

end

/-- The report of a pool reads no record of the Guestbook. -/
theorem State.poolReport_log (s : State) (code : Nat) (ps : List Nat) (p : Nat) : (s.log code ps).poolReport p = s.poolReport p := by
  obtain ⟨cnt, q, tracked, dropped, since, logged⟩ := s.log_eq code ps
  rw [logged]
  rfl

/-- Settles O44: every action is `poolCmd` with its number, which waits, refuses, or acts; what ADD makes of the slots is `State.joinPool_seats` along the list, and what a durable DELETE leaves is `State.dropPool_eq`. -/
theorem poolsAreChangedDeletedAndReported : Obligations.PoolsAreChangedDeletedAndReported := by
  refine ⟨fun act i c st s hi h now hr => ?_, fun act i c s hi h hw => ?_, fun c p s h hr hp => ?_, fun c p s h hr hp h0 hne => ?_, fun c p s h hr hp => ?_, fun c p s h hr hp => ?_,
    fun c p s h hr hp same => ?_, fun c p s h hr hp => ?_, fun r p id s hk => ?_, fun c p s h hr hp => ?_⟩
  · exact (exec_poolCmd hi).trans (poolCmd_refused h now hr)
  · exact (exec_poolCmd hi).trans (poolCmd_waits h hw)
  · subst hp
    exact poolCmd_accepted h hr
  · subst hp
    exact (poolCmd_accepted h hr).trans (congrArg _ (if_neg (not_or.mpr ⟨h0, hne⟩)))
  · subst hp
    have joins := State.each_slot (f := fun s n => s.joinPool (dw10 c / 16 % 4) n) (good := fun x => x.st = .inService ∧ x.pool = some (dw10 c / 16 % 4))
      (fun s n => (s.joinPool_seats _ n).2.2) (fun s n => (s.joinPool_seats _ n).2.1) s (bitsOf (poolArgs c.buf).slots 64)
    refine ⟨_, poolCmd_accepted h hr, fun n hn hbit => joins.1 n (mem_bitsOf.mpr ⟨hn, hbit⟩), fun n hn hbit => joins.2 n fun hm => ?_, ?_⟩
    · exact Bool.false_ne_true (hbit.symm.trans (mem_bitsOf.mp hm).2)
    · exact State.each_same (π := State.io) (fun s n => (s.joinPool_seats _ n).1) s _
  · subst hp
    exact ⟨_, poolCmd_accepted h hr, rfl⟩
  · subst hp
    refine ⟨_, (poolCmd_accepted h hr).trans (congrArg _ (if_pos same)), ?_⟩
    simp only [State.modPool_self, true_and]
    exact ⟨fun k hk => State.modPool_other _ _ _ _ hk, rfl⟩
  · subst hp
    exact ⟨_, poolCmd_accepted h hr, congrArg Pool.deleting (State.modPool_self ..), rfl⟩
  · obtain ⟨gone, others, bands, frame⟩ := s.dropPool_gone p
    refine ⟨?_, gone, bands, fun n hn => State.dropPool_slot hn, others, frame⟩
    simp only [State.runThen, hk]
  · subst hp
    refine ⟨_, poolCmd_accepted h hr, ?_, ?_⟩
    · simp [State.poolAct, State.poolReport_log]
    · simp only [State.poolAct]
      obtain ⟨cnt, q, tracked, dropped, since, logged⟩ := s.log_eq 0x0414 [dw10 c / 16 % 4, 5, 0]
      rw [logged]
      rfl

end Sys2Proof.Machine

namespace Sys2Proof.Machine

-- Many small proofs wait for the same equations of the model; one after another they do not fill the memory with threads.
set_option Elab.async false

/-! ## The upkeep of the media leaves every controller alone -/

/-- What programs that end, the drains of commands and the ends of scans reach: media, slots, records, registers and what commands hold; of a controller nothing. -/
def putUpkeep (s t : State) : State :=
  { s with free := t.free, dw := t.dw, slots := t.slots, media := t.media, srch := t.srch, fw := t.fw, gbk := t.gbk, io := { t.io with ctrls := s.io.ctrls } }

theorem frames_putUpkeep : Frames putUpkeep := ⟨fun _ => rfl, fun _ _ _ => rfl⟩

/-- `t` follows from `s` by upkeep of the media. -/
structure Upkeep (s t : State) : Prop where
  within : s.Within putUpkeep t

namespace Upkeep

theorem ctrl {s t : State} (h : Upkeep s t) (k : Nat) : t.ctrl k = s.ctrl k :=
  calc t.ctrl k = (putUpkeep s t).ctrl k := congrArg (State.ctrl · k) h.within
    _ = s.ctrl k := rfl

/-- An update of what upkeep reaches. -/
theorem upd {s : State} {free dw slots media io srch fw gbk} (h : io.ctrls = s.io.ctrls := by rfl) :
    Upkeep s (State.mk s.part s.pending free dw s.pwr s.stage slots s.seqs s.shelf s.ends media io s.ten s.host srch s.ddr s.efl fw gbk s.dma s.lt) := by
  refine ⟨?_⟩
  unfold State.Within putUpkeep
  rw [← h]

theorem refl (s : State) : Upkeep s s := .upd

/-- Composition, the later operation first. -/
theorem comp {s t u : State} (k : Upkeep t u) (h : Upkeep s t) : Upkeep s u := ⟨h.within.trans frames_putUpkeep k.within⟩

theorem ite {s t u : State} {c : Prop} [Decidable c] (h : Upkeep s t) (k : Upkeep s u) : Upkeep s (if c then t else u) := by
  split
  · exact h
  · exact k

theorem iteSnd {α : Type} {s : State} {p q : α × State} {c : Prop} [Decidable c] (h : Upkeep s p.2) (k : Upkeep s q.2) : Upkeep s (if c then p else q).2 := by
  split
  · exact h
  · exact k

/-- The state of a pair that an operation answers. -/
theorem ofSnd {α : Type} {s t : State} {p : α × State} {a : α} (e : p = (a, t)) (h : Upkeep s p.2) : Upkeep s t := by
  subst e
  exact h

theorem each {α : Type} {s : State} {l : List α} {f : State → α → State} (h : ∀ t a, Upkeep t (f t a)) : Upkeep s (s.each l f) :=
  ⟨State.Within.each frames_putUpkeep (fun t a => (h t a).within) s l⟩

theorem modSlot (s : State) (n : Nat) (f : Slot → Slot) : Upkeep s (s.modSlot n f) := .upd
theorem send (s : State) (n op : Nat) (m : CartCmd) (why : Purpose) (fr : List (Nat × BitVec 36864)) : Upkeep s (s.send n op m why fr) := .upd

theorem media' (s : State) (n off k : Nat) : Upkeep s (s.media' n off k) := by
  unfold State.media'
  split <;> exact .upd

theorem log (s : State) (code : Nat) (ps : List Nat) : Upkeep s (s.log code ps) := by
  obtain ⟨cnt, q, tracked, dropped, since, logged⟩ := s.log_eq code ps
  rw [logged]
  exact .upd

theorem took (s : State) : Upkeep s s.took := .upd
theorem post (s : State) (id : CmdId) (st : Status) (a b : Nat) (d : List Byte) : Upkeep s (s.post id st a b d) := .upd
theorem modPool (s : State) (n : Nat) (f : Pool → Pool) : Upkeep s (s.modPool n f) := .upd
theorem modBand (s : State) (n : Nat) (f : Band → Band) : Upkeep s (s.modBand n f) := .upd

/-! ### Of `Geometry` -/

theorem choose {α : Type} (s : State) (l : List α) : Upkeep s (s.choose l).2 := by
  unfold State.choose
  split
  · exact .refl _
  · exact .refl _
  · exact .took _

theorem modNs (s : State) (nsx : Nat) (f : Ns → Ns) : Upkeep s (s.modNs nsx f) := .upd
theorem modSeg (s : State) (nsx k : Nat) (f : Seg → Seg) : Upkeep s (s.modSeg nsx k f) := .upd
theorem poolCount (s : State) (p off k : Nat) : Upkeep s (s.poolCount p off k) := .upd
theorem modBlock (s : State) (p : Place) (f : BlockEnt → BlockEnt) : Upkeep s (s.modBlock p f) := .upd

theorem pickDie (s : State) (n : Nat) : Upkeep s (s.pickDie n).2 := by
  unfold State.pickDie
  exact .choose ..

theorem pickDirty (s : State) (n d : Nat) : Upkeep s (s.pickDirty n d).2 := by
  unfold State.pickDirty
  dsimp only
  split
  · exact .refl _
  · exact .choose ..

theorem eraseFor (s : State) (pl : Place) (mode : Nat) (use : BlockSt) : Upkeep s (s.eraseFor pl mode use) := by
  unfold State.eraseFor
  exact .comp (.ite (.refl _) (.send ..)) <| .comp (.ite (.modSlot ..) (.refl _)) <| .modBlock ..

theorem takeOn (s : State) (n d mode : Nat) (use : BlockSt) : Upkeep s (s.takeOn n d mode use).2 := by
  unfold State.takeOn
  dsimp only
  split
  · dsimp only
    exact .comp (.modBlock ..) <| .choose ..
  · split
    next t e =>
      dsimp only
      exact .comp (.eraseFor ..) <| .ofSnd e <| .comp (.pickDirty ..) <| .choose ..
    next t e =>
      dsimp only
      exact .ofSnd e <| .comp (.pickDirty ..) <| .choose ..

theorem takeBlock (s : State) (n mode : Nat) (use : BlockSt) : Upkeep s (s.takeBlock n mode use).2 := by
  unfold State.takeBlock
  split
  next t e => exact .comp (.takeOn ..) <| .ofSnd e <| .pickDie ..
  next t e =>
    dsimp only
    exact .ofSnd e <| .pickDie ..

theorem pickCarts (s : State) (p : Nat) (l : List Nat) (k : Nat) : Upkeep s (s.pickCarts p l k).2 := by
  induction k generalizing s l with
  | zero => exact .refl _
  | succ k ih =>
    unfold State.pickCarts
    dsimp only
    split
    · exact .refl _
    · exact .comp (ih ..) <| .took ..

theorem takeEach (s : State) (mode : Nat) (use : BlockSt) (l : List Nat) : Upkeep s (s.takeEach mode use l).2 := by
  induction l generalizing s with
  | nil => exact .refl _
  | cons n l ih =>
    unfold State.takeEach
    split
    next t e => exact .comp (ih ..) <| .ofSnd e (.takeBlock ..)
    next t e => exact .comp (ih ..) <| .ofSnd e (.takeBlock ..)

theorem takeSeq (s : State) : Upkeep s s.takeSeq.2 := .upd
theorem freshId (s : State) : Upkeep s s.freshId.2 := .upd
theorem modUnit (s : State) (uid : Nat) (f : PUnit → PUnit) : Upkeep s (s.modUnit uid f) := .upd

/-! ### Of `Media` -/

theorem countRestore (s : State) (u : PUnit) : Upkeep s (s.countRestore u) := by
  unfold State.countRestore
  split
  · exact .refl _
  · exact .ite (.refl _) (.ite (.poolCount ..) (.comp (.ite (.refl _) (.comp (.modPool ..) <| .poolCount ..)) <| .comp (.modPool ..) <|
      .poolCount ..))

theorem sendUnit (s : State) (u : PUnit) : Upkeep s (s.sendUnit u) := by
  unfold State.sendUnit
  exact .comp (.modUnit ..) <| .comp (.send ..) <| .countRestore ..

theorem pump (s : State) : Upkeep s s.pump := by
  unfold State.pump
  refine .each (fun _ _ => ?_)
  split
  · exact .ite (.sendUnit ..) (.refl _)
  · exact .refl _

theorem addUnit (s : State) (kind : UnitKind) (pl : Place) (pwl mode : Nat) (cws : List (Nat × BitVec 32896)) :
    Upkeep s (s.addUnit kind pl pwl mode cws).2 := by
  unfold State.addUnit
  exact .comp .upd <| .freshId ..

theorem setRing (s : State) (n : Nat) (r : JRing) : Upkeep s (s.setRing n r) := .upd
theorem modJ (s : State) (jid : Nat) (f : JRec → JRec) : Upkeep s (s.modJ jid f) := .upd

theorem issueJournal (s : State) (n : Nat) : Upkeep s (s.issueJournal n) := by
  unfold State.issueJournal
  dsimp only
  split
  · exact .refl _
  · refine .ite (.refl _) ?_
    refine .comp (.ite (.setRing ..) (.comp (.setRing ..) <| .modBlock ..)) ?_
    split
    · exact .comp (.poolCount ..) <| .addUnit ..
    · exact .addUnit ..

theorem packJournal (s : State) (n jid fuel k : Nat) : Upkeep s (s.packJournal n jid fuel k) := by
  induction fuel generalizing s k with
  | zero => exact .refl _
  | succ fuel ih =>
    cases k with
    | zero => exact .refl _
    | succ k =>
      unfold State.packJournal
      exact .comp (ih ..) <| .comp (.ite (.issueJournal ..) (.refl _)) <| .comp (.modJ ..) <| .setRing ..

theorem newJ (s : State) (b wl pq mask host : Nat) (parity : List (BitVec 32896)) (subst : Bool) :
    Upkeep s (s.newJ b wl pq mask host parity subst).2 := by
  unfold State.newJ
  exact .comp (.freshId ..) <| .takeSeq ..

theorem writeJ (s : State) (b wl pq mask host : Nat) (parity : List (BitVec 32896)) (subst : Bool) :
    Upkeep s (s.writeJ b wl pq mask host parity subst) := by
  unfold State.writeJ
  dsimp only
  exact .comp (.packJournal ..) <| .comp .upd <| .newJ s b wl pq mask host parity subst

theorem rewriteJ (s : State) (j : JRec) (host : Nat) (subst : Bool) : Upkeep s (s.rewriteJ j host subst) := by
  unfold State.rewriteJ
  split
  · exact .writeJ ..
  · exact .ite (.writeJ ..) (.refl _)

theorem ringRoom (s : State) (n : Nat) : Upkeep s (s.ringRoom n) := by
  unfold State.ringRoom
  dsimp only
  split
  · exact .comp (.each (fun _ _ => .rewriteJ ..)) <| .comp (.modBlock ..) <| .upd
  · exact .refl _

theorem journalRow (s : State) (b wl : Nat) : Upkeep s (s.journalRow b wl) := by
  unfold State.journalRow
  exact .comp (.writeJ ..) <| .comp (.ringRoom ..) <| .comp (.writeJ ..) <| .ringRoom ..

theorem takeUnit (s : State) (bno : Nat) (l : List (Codeword × BitVec 512)) (m : Bool) (k : Nat) : Upkeep s (s.takeUnit bno l m k) := by
  unfold State.takeUnit
  exact .comp (.ite (.poolCount ..) (.ite (.poolCount ..) (.comp (.ite (.refl _) (.poolCount ..)) <| .poolCount ..))) <|
      .comp (.ite (.modPool ..) (.refl _)) <| .comp .upd <| .comp (.modBand ..) <| .addUnit ..

theorem finishRow (s : State) (bno wl : Nat) : Upkeep s (s.finishRow bno wl) := by
  unfold State.finishRow
  exact .comp (.modBand ..) <| .comp (.poolCount ..) <| .comp (.addUnit ..) <| .addUnit ..

theorem takeUnits (s : State) (bno fuel : Nat) (due : Bool) : Upkeep s (s.takeUnits bno fuel due) := by
  induction fuel generalizing s due with
  | zero => exact .ite (.journalRow ..) (.refl _)
  | succ fuel ih =>
    unfold State.takeUnits
    split
    · exact .ite (.journalRow ..) (.refl _)
    · exact .ite (.comp (ih ..) <| .comp (.finishRow ..) <| .takeUnit ..) (.comp (ih ..) <| .takeUnit ..)

theorem advance (s : State) (bno : Nat) : Upkeep s (s.advance bno) := by
  unfold State.advance
  exact .comp (.pump ..) <| .takeUnits ..

theorem putAt (s : State) (bno pos : Nat) (cw : Codeword) (slot : BitVec 512) : Upkeep s (s.putAt bno pos cw slot) := .upd

theorem fillUnit (s : State) (bno : Nat) : Upkeep s (s.fillUnit bno) := by
  unfold State.fillUnit
  exact .ite (.refl _) (.comp (.advance ..) <| .each (fun _ _ => .ite (.refl _) (.putAt ..)))

theorem append (s : State) (bno : Nat) (cw : Codeword) (slot : BitVec 512) : Upkeep s (s.append bno cw slot).2 := by
  unfold State.append
  exact .comp (.advance ..) <| .comp (.putAt ..) <| .ite (.fillUnit ..) (.refl _)

theorem putRoot (s : State) (p : Nat) (g : RootGen) (k : Then) : Upkeep s (s.putRoot p g k) := by
  unfold State.putRoot
  exact .comp (.pump ..) <| .comp .upd <| .comp (.modPool ..) <| .comp (.each (fun _ _ => .each (fun _ _ => .addUnit ..))) <|
      .comp (.each (fun _ _ => .ite (.eraseFor ..) (.refl _))) <| .comp (.each (fun _ _ => .comp (.send ..) <| .modBlock ..)) <|
      .comp (.ite (.refl _) (.modPool ..)) <| .comp (.freshId ..) <| .takeSeq ..

theorem writeRoot (s : State) (p : Nat) (k : Then) : Upkeep s (s.writeRoot p k) := by
  unfold State.writeRoot
  exact .putRoot ..

theorem record (s : State) (p typ lba : Nat) (body : List (Nat × Nat × Nat)) (k : Then) : Upkeep s (s.record p typ lba body k) := by
  unfold State.record
  dsimp only
  split
  · exact .comp .upd <| .comp (.freshId ..) <| .takeSeq ..
  · exact .comp .upd <| .comp (.append ..) <| .comp (.freshId ..) <| .takeSeq ..

theorem placeRecs (s : State) (p : Nat) : Upkeep s (s.placeRecs p) := by
  unfold State.placeRecs
  split
  · exact .refl _
  · exact .each (fun _ _ => .comp .upd <| .append ..)

theorem headerRec (s : State) (bno : Nat) : Upkeep s (s.headerRec bno) := by
  unfold State.headerRec
  exact .record ..

theorem openBand (s : State) (p role n nsx seg : Nat) (withMeta : Bool) (prevA prevB : Option Nat) :
    Upkeep s (s.openBand p role n nsx seg withMeta prevA prevB).2 := by
  unfold State.openBand
  dsimp only
  refine .iteSnd (.refl _) ?_
  split
  · exact .iteSnd (.refl _) (.comp (.iteSnd (.modPool ..) (.headerRec ..)) <| .comp .upd <| .comp (.modBand ..) <| .comp (.takeSeq ..) <|
      .comp (.takeEach ..) <| .comp (.pickCarts ..) <| .pickCarts ..)
  · exact .refl _

theorem needReg (s : State) (p : Nat) : Upkeep s (s.needReg p) := by
  unfold State.needReg
  dsimp only
  refine .ite ?_ (.refl _)
  split
  next t e =>
    refine .comp (.writeRoot ..) <| .comp (.placeRecs ..) ?_
    split
    · exact .comp (.fillUnit ..) <| .ofSnd e <| .openBand ..
    · exact .ofSnd e <| .openBand ..
  next t e => exact .ofSnd e <| .openBand ..

theorem needLog (s : State) (p : Nat) : Upkeep s (s.needLog p).2 := by
  unfold State.needLog
  split
  · exact .refl _
  · dsimp only
    split
    next t e =>
      dsimp only
      exact .comp (.modPool ..) <| .ofSnd e <| .comp (.openBand ..) <| .needReg ..
    next t e =>
      dsimp only
      exact .ofSnd e <| .comp (.openBand ..) <| .needReg ..

theorem toLog (s : State) (p : Nat) (cw : Codeword) (slot : BitVec 512) : Upkeep s (s.toLog p cw slot).2 := by
  unfold State.toLog
  dsimp only
  split
  next t e => exact .ofSnd e <| .needLog ..
  next t e =>
    refine .comp ?_ (.ofSnd e <| .needLog ..)
    dsimp only
    exact .comp (.ite (.comp (.modPool ..) <| .modBand ..) (.refl _)) <| .append ..

theorem dropLost (s : State) (nsid lo hi : Nat) : Upkeep s (s.dropLost nsid lo hi) := by
  unfold State.dropLost
  exact .ite (.refl _) .upd

theorem shaveBlock (s : State) (b : Nat) (pl : Place) : Upkeep s (s.shaveBlock b pl) := by
  unfold State.shaveBlock
  exact .ite .upd (.ite (.comp (.send ..) <| .comp (.modBlock ..) <| .media' ..) (.ite (.refl _) (.comp (.modBlock ..) <| .freshId ..)))

theorem shave (s : State) (b : Nat) : Upkeep s (s.shave b) := by
  unfold State.shave
  exact .ite (.refl _) (.comp (.each (fun _ _ => .shaveBlock ..)) <| .comp .upd <| .modBand ..)

theorem freeBands (s : State) : Upkeep s s.freeBands := by
  unfold State.freeBands
  exact .each fun _ _ => .ite (.refl _) (.upd)

theorem modReq (s : State) (rid : Nat) (f : CwReq → CwReq) : Upkeep s (s.modReq rid f) := .upd

/-! ### Of `Reads` -/

theorem reserve (s : State) (q : CwReq) {t : State} (h : s.reserve q = some t) : Upkeep s t := by
  unfold State.reserve at h
  dsimp only at h
  split at h
  · cases h
    exact .refl _
  · split at h
    · split at h
      · cases h
        exact .comp .upd <| .modReq ..
      · cases h
    · split at h
      · cases h
        exact .modReq ..
      · cases h

theorem sendReq (s : State) (q : CwReq) : Upkeep s (s.sendReq q) := by
  unfold State.sendReq
  split
  · exact .modReq ..
  next t e => exact .comp (.send ..) <| .comp (.ite (.took ..) (.refl _)) <| .comp (.modReq ..) <| .reserve s q e

theorem sendWaiting (s : State) : Upkeep s s.sendWaiting := by
  unfold State.sendWaiting
  exact .each (fun _ _ => .sendReq ..)

theorem newReq (s : State) (b wl mp i cap check : Nat) (expect : Option (Nat × Nat)) (w : Want) :
    Upkeep s (s.newReq b wl mp i cap check expect w).2 := by
  unfold State.newReq
  exact .comp .upd <| .freshId ..

theorem askMember (s : State) (b wl m i recon : Nat) : Upkeep s (s.askMember b wl m i recon) := by
  unfold State.askMember
  split
  · exact .modReq ..
  · dsimp only
    split
    · exact .comp (.sendReq ..) <| .newReq ..
    · exact .newReq ..

theorem startRecon (s : State) (q : CwReq) (cause : Nat) : Upkeep s (s.startRecon q cause) := by
  unfold State.startRecon
  exact .comp (.each (fun _ _ => .askMember ..)) <| .comp (.modReq ..) <| .comp .upd <| .freshId ..

theorem askCw (s : State) (bno wl mp i check : Nat) (expect : Option (Nat × Nat)) (w : Want) :
    Upkeep s (s.askCw bno wl mp i check expect w) := by
  unfold State.askCw
  split
  · exact .modReq ..
  · dsimp only
    split
    · exact .newReq ..
    · exact .comp (.ite (.sendReq ..) (.startRecon ..)) <| .newReq ..

theorem askAs (s : State) (bno pos i check : Nat) (expect : Option (Nat × Nat)) (w : Want) : Upkeep s (s.askAs bno pos i check expect w) := by
  unfold State.askAs
  exact .askCw ..

theorem askAt (s : State) (bno wl mp i : Nat) (w : Want) : Upkeep s (s.askAt bno wl mp i w) := by
  unfold State.askAt
  exact .askCw ..

theorem ask (s : State) (bno pos i nsx lba : Nat) (w : Want) : Upkeep s (s.ask bno pos i nsx lba w) := by
  unfold State.ask
  exact .askAs ..

theorem askMeta (s : State) (bno pos : Nat) (w : Want) : Upkeep s (s.askMeta bno pos w) := by
  unfold State.askMeta
  exact .askAs ..

theorem modFlight (s : State) (id : CmdId) (f : Flight → Flight) : Upkeep s (s.modFlight id f) := .upd

theorem dropRefs (s : State) (id : CmdId) : Upkeep s (s.dropRefs id) := by
  unfold State.dropRefs
  split
  · exact .refl _
  · exact .comp (.modFlight ..) <| .each (fun _ _ => .modBand ..)

theorem dropWants (s : State) (id : CmdId) : Upkeep s (s.dropWants id) := .upd

theorem finish (s : State) (id : CmdId) (st : Status) (dw0 : Nat) (data : List Byte) : Upkeep s (s.finish id st dw0 data) := by
  unfold State.finish
  split
  · exact .refl _
  · exact .comp (.ite (.ite (.post ..) .upd) (.post ..)) <| .comp (.dropWants ..) <| .dropRefs ..

theorem tryRead (s : State) (id : CmdId) : Upkeep s (s.tryRead id) := by
  unfold State.tryRead
  split
  · exact .refl _
  · refine .ite (.refl _) ?_
    split
    · exact .refl _
    · exact .ite (.ite (.comp (.modFlight ..) <| .dropWants ..) (.comp .upd <| .comp (.modFlight ..) <| .comp (.dropWants ..) <|
        .dropRefs ..)) (.ite (.finish ..) (.ite (.finish ..) (.finish ..)))

theorem hostBlock (s : State) (id : CmdId) (lba : Nat) (data : Block) (slot : BitVec 512) (bandNo : Nat) :
    Upkeep s (s.hostBlock id lba data slot bandNo) := by
  unfold State.hostBlock
  split
  · exact .refl _
  · split
    · exact .refl _
    · refine .comp (.tryRead ..) ?_
      split
      · exact .comp (.modFlight ..) <| .ite (.log ..) (.refl _)
      · exact .modFlight ..

theorem useMap (s : State) (id : CmdId) (x : Ns) : Upkeep s (s.useMap id x) := by
  unfold State.useMap
  split
  · exact .refl _
  · exact .comp (.modFlight ..) <| .upd

theorem readBlock (s : State) (id : CmdId) (x : Ns) (lba : Nat) : Upkeep s (s.readBlock id x lba) := by
  unfold State.readBlock
  split
  · exact .hostBlock ..
  · exact .comp (.ite (.askMeta ..) (.refl _)) <| .comp (.ask ..) <| .comp (.modFlight ..) <| .modBand ..

theorem issueRead (s : State) (id : CmdId) : Upkeep s (s.issueRead id) := by
  unfold State.issueRead
  split
  · exact .refl _
  · split
    · exact .refl _
    · exact .comp (.tryRead ..) <| .comp (.each (fun _ _ => .readBlock ..)) <| .comp (.useMap ..) <| .modFlight ..

/-! ### Of `Health` -/

theorem moveToLog (s : State) (p : Nat) (l : List (Codeword × BitVec 512)) : Upkeep s (s.moveToLog p l) := by
  unfold State.moveToLog
  exact .each (fun _ _ => .ite (.toLog ..) (.refl _))

theorem dropFold (s : State) (bno : Nat) : Upkeep s (s.dropFold bno) := by
  unfold State.dropFold
  exact .comp (.shave ..) <| .modSeg ..

theorem closeEarly (s : State) (bno : Nat) : Upkeep s (s.closeEarly bno) := by
  unfold State.closeEarly
  exact .ite (.refl _) (.comp (.ite (.needReg ..) (.refl _)) <| .comp (.ite (.refl _) (.moveToLog ..)) <| .comp .upd <|
      .comp (.ite (.modSeg ..) (.refl _)) <| .comp (.modPool ..) <| .comp (.modBand ..) <| .comp (.takeUnits ..) <|
      .comp (.each (fun _ _ => .putAt ..)) <| .comp .upd <| .modBand ..)

theorem takeAmong (s : State) (n mode : Nat) (use : BlockSt) (ds : List Nat) : Upkeep s (s.takeAmong n mode use ds).2 := by
  unfold State.takeAmong
  dsimp only
  split
  next t e => exact .comp (.takeOn ..) <| .ofSnd e <| .choose ..
  next t e =>
    dsimp only
    exact .ofSnd e <| .choose ..

theorem takeNear (s : State) (old : Place) (mode : Nat) (use : BlockSt) : Upkeep s (s.takeNear old mode use).2 := by
  unfold State.takeNear
  exact .takeAmong ..

theorem takeFar (s : State) (bno : Nat) : Upkeep s (s.takeFar bno).2 := by
  unfold State.takeFar
  dsimp only
  split
  next t e => exact .comp (.iteSnd (.takeBlock ..) (.takeAmong ..)) <| .ofSnd e <| .pickCarts ..
  next t e =>
    dsimp only
    exact .ofSnd e <| .pickCarts ..

theorem splitPlace (s : State) (bno : Nat) (old : Place) (away : Bool) : Upkeep s (s.splitPlace bno old away).2 := by
  unfold State.splitPlace
  dsimp only
  split
  next t e =>
    dsimp only
    exact .ofSnd e <| .iteSnd (.takeNear ..) (.refl _)
  next t e => exact .comp (.takeFar ..) <| .ofSnd e <| .iteSnd (.takeNear ..) (.refl _)

theorem forget (s : State) (uid : Nat) : Upkeep s (s.forget uid) := by
  unfold State.forget
  exact .upd

theorem replaceUnit (s : State) (uid : Nat) (pl : Place) (pwl : Nat) : Upkeep s (s.replaceUnit uid pl pwl) := by
  unfold State.replaceUnit
  exact .comp (.modUnit ..) <| .forget ..

theorem splitFull (s : State) (bno wl mp : Nat) : Upkeep s (s.splitFull bno wl mp) := by
  unfold State.splitFull
  exact .comp (.ite (.moveToLog ..) (.refl _)) <| .comp .upd <| .comp (.modBand ..) <| .comp (.closeEarly ..) <| .comp .upd <|
      .each (fun _ _ => .forget ..)

theorem splitMember (s : State) (bno wl mp : Nat) (away : Bool) : Upkeep s (s.splitMember bno wl mp away) := by
  unfold State.splitMember
  dsimp only
  refine .ite (.splitFull ..) ?_
  refine .ite (.comp (.each (fun _ _ => .replaceUnit ..)) <| .comp (.modBand ..) <| .splitPlace ..) ?_
  split
  · exact .comp (.log ..) <| .comp (.ite (.media' ..) (.refl _)) <| .comp (.each (fun _ _ => .replaceUnit ..)) <| .comp (.modBand ..) <|
      .splitPlace ..
  · exact .comp (.log ..) <| .comp (.ite (.media' ..) (.refl _)) <| .comp (.each (fun _ _ => .replaceUnit ..)) <| .comp (.modBand ..) <|
      .splitPlace ..

theorem abandon (s : State) (p : PUnit → Bool) : Upkeep s (s.abandon p) := by
  unfold State.abandon
  exact .comp (.each (fun _ _ => .modBlock ..)) <| .comp .upd <| .each (fun _ _ => .forget ..)

theorem replaceStuck (s : State) : Upkeep s s.replaceStuck := by
  unfold State.replaceStuck
  refine .each (fun _ _ => ?_)
  split
  · exact .refl _
  · split
    · exact .refl _
    · exact .ite (.splitMember ..) (.ite (.abandon ..) (.refl _))

theorem recompute (s : State) (j : JRec) (sub : Nat) : Upkeep s (s.recompute j sub) := by
  unfold State.recompute
  dsimp only
  exact .comp (.each fun _ _ => .askAt ..) <| .comp .upd <| .newJ s ..

theorem rejournal (s : State) (bno pq sub : Nat) (old : List JRec) : Upkeep s (s.rejournal bno pq sub old).2 := by
  unfold State.rejournal
  refine .each (fun _ _ => ?_)
  split
  · exact .comp (.writeJ ..) <| .ringRoom ..
  · refine .ite ?_ (.refl _)
    split
    · exact .recompute ..
    · exact .refl _

theorem dropJournal (s : State) (n : Nat) : Upkeep s (s.dropJournal n) := .upd

theorem journalLost (s : State) (n : Nat) (gone : Bool) : Upkeep s (s.journalLost n gone) := by
  unfold State.journalLost
  refine .comp (.ite (.refl _) (.comp (.each (fun _ _ => ?_)) <| .log ..)) <| .ite (.dropJournal ..) (.refl _)
  dsimp only
  split
  · exact .comp (.modPool ..) <| .comp (.rejournal ..) <| .modBand ..
  · exact .ite (.refl _) (.comp (.log ..) <| .closeEarly ..)

theorem tryClearSlow (s : State) (n : Nat) : Upkeep s (s.tryClearSlow n) := by
  unfold State.tryClearSlow
  exact .ite (.comp (.pump ..) <| .comp (.log ..) <| .modSlot ..) (.refl _)

/-! ### Of `Settle` -/

theorem copyPos (s : State) (dst : Nat) (x : Ns) (pos : Nat) : Upkeep s (s.copyPos dst x pos) := by
  unfold State.copyPos
  dsimp only
  refine .ite (.refl _) ?_
  refine .ite (.comp (.modBand ..) <| .putAt ..) ?_
  split
  · refine .comp (.putAt ..) ?_
    split
    · exact .modBand ..
    · exact .refl _
  · refine .comp (.ite (.askMeta ..) (.ask ..)) ?_
    split
    · exact .modBand ..
    · exact .refl _

theorem copyRowOf (s : State) (dst : Nat) : Upkeep s (s.copyRowOf dst) := by
  unfold State.copyRowOf
  dsimp only
  split
  · exact .refl _
  · exact .each (fun _ _ => .copyPos ..)

theorem copyOn (s : State) (dst : Nat) : Upkeep s (s.copyOn dst) := by
  unfold State.copyOn
  exact .ite (.refl _) (.comp (.ite (.refl _) (.ite (.modBand ..) (.comp (.copyRowOf ..) <| .modBand ..))) <| .takeUnits ..)

theorem dropCopied (s : State) (dst : Nat) : Upkeep s (s.dropCopied dst) := by
  unfold State.dropCopied
  exact .comp (.each (fun _ _ => .comp (.dropLost ..) <| .modNs ..)) <| .upd

theorem complete (s : State) (id : CmdId) (st : Status) (dw0 : Nat) : Upkeep s (s.complete id st dw0) := by
  unfold State.complete
  exact .ite (.finish ..) (.post ..)

theorem summaryDone (s : State) (bno : Nat) : Upkeep s (s.summaryDone bno) := by
  unfold State.summaryDone
  dsimp only
  refine .ite (.comp (.dropFold ..) <| .modBand ..) ?_
  refine .ite ?_ (.modBand ..)
  split
  · exact .modBand ..
  · refine .ite ?_ (.modBand ..)
    split
    · exact .comp (.shave ..) <| .comp (.dropCopied ..) <| .comp (.modSeg ..) <| .modBand ..
    · exact .comp (.dropCopied ..) <| .comp (.modSeg ..) <| .modBand ..

theorem memberDone (s : State) (bno pos : Nat) (pl : Place) (cause : Nat) : Upkeep s (s.memberDone bno pos pl cause) := by
  unfold State.memberDone
  exact .comp (.ite (.comp .upd <| .modPool ..) (.refl _)) <| .comp (.each (fun _ _ => .shaveBlock ..)) <| .comp .upd <|
      .modBand ..

theorem releaseSegs (s : State) (nsx seg cnt seq : Nat) : Upkeep s (s.releaseSegs nsx seg cnt seq) := by
  unfold State.releaseSegs
  split
  · exact .refl _
  · exact .comp (.dropLost ..) <| .comp (.modNs ..) <| .comp .upd <| .comp (.each (fun _ _ => .modSeg ..)) <| .each (fun _ _ => .shave ..)

theorem rangeDone (s : State) (id : CmdId) (lo hi : Nat) : Upkeep s (s.rangeDone id lo hi) := by
  unfold State.rangeDone
  dsimp only
  split
  · exact .comp (.ite (.finish ..) (.refl _)) <| .comp .upd <| .modFlight ..
  · exact .comp .upd <| .modFlight ..

theorem jobDone (s : State) (x : Ns) : Upkeep s (s.jobDone x) := by
  unfold State.jobDone
  exact .ite (.comp (.writeRoot ..) <| .upd) (.comp (.writeRoot ..) <| .modNs ..)

theorem releaseDone (s : State) (r : DurRec) (nsx seg cnt : Nat) (id : Option CmdId) : Upkeep s (s.releaseDone r nsx seg cnt id) := by
  unfold State.releaseDone
  dsimp only
  split
  · exact .releaseSegs ..
  · split
    · exact .comp (.ite (.rangeDone ..) (.complete ..)) <| .releaseSegs ..
    · exact .comp (.ite (.jobDone ..) (.refl _)) <| .releaseSegs ..

theorem takeCopy (s : State) (r : DurRec) (rid : Nat) : Upkeep s (s.takeCopy r rid) := by
  unfold State.takeCopy
  split
  · exact .upd
  · exact .upd

theorem settleRegs (s : State) (p : Nat) : Upkeep s (s.settleRegs p) := by
  unfold State.settleRegs
  dsimp only
  split
  · exact .ite (.comp (.placeRecs ..) <| .needReg ..) (.refl _)
  · exact .comp (.ite (.refl _) (.ite (.comp (.needReg ..) <| .modPool ..) (.comp (.ite (.refl _) (.comp (.writeRoot ..) <|
      .each (fun _ _ => .shave ..))) <| .each (fun _ _ => .record ..)))) <| .ite (.comp (.placeRecs ..) <| .needReg ..) (.refl _)

theorem dropPool (s : State) (p : Nat) : Upkeep s (s.dropPool p) := by
  unfold State.dropPool
  refine .comp .upd <| .comp (.each fun _ _ => .modSlot ..) ?_
  exact .upd

theorem runThen (s : State) (r : DurRec) : Upkeep s (s.runThen r) := by
  unfold State.runThen
  split
  · exact .refl _
  · exact .complete ..
  · split
    · exact .finish ..
    · exact .refl _
  · exact .modBand ..
  · exact .summaryDone ..
  · exact .memberDone ..
  · exact .releaseDone ..
  · split
    · exact .complete ..
    · exact .refl _
  · exact .comp (.complete ..) <| .dropPool ..
  · exact .takeCopy ..

theorem settleRecs (s : State) : Upkeep s s.settleRecs := by
  unfold State.settleRecs
  exact .each (fun _ _ => .ite (.comp (.runThen ..) <| .comp (.ite (.modPool ..) (.refl _)) <| .upd) (.refl _))

theorem settleRows (s : State) : Upkeep s s.settleRows := by
  unfold State.settleRows
  exact .each (fun _ _ => .ite .upd (.refl _))

theorem closeBand (s : State) (bno : Nat) : Upkeep s (s.closeBand bno) := by
  unfold State.closeBand
  exact .comp (.ite (.refl _) (.ite (.each (fun _ _ => .record ..)) (.comp (.each (fun _ _ => .record ..)) <| .record ..))) <| .modBand ..

theorem settleBands (s : State) : Upkeep s s.settleBands := by
  unfold State.settleBands
  exact .each (fun _ _ => .ite (.refl _) (.ite (.copyOn ..) (.ite (.ite (.refl _) (.closeBand ..)) (.ite (.closeEarly ..) (.ite (.shave ..)
      (.refl _))))))

theorem settleGcs (s : State) : Upkeep s s.settleGcs := by
  unfold State.settleGcs
  refine .each (fun _ _ => ?_)
  refine .comp (.shave ..) <| .comp (.each (fun _ _ => ?_)) <| .upd
  split
  · exact .ite .upd (.refl _)
  · exact .refl _

theorem settleRing (s : State) (n : Nat) : Upkeep s (s.settleRing n) := by
  unfold State.settleRing
  exact .comp (.ite (.journalLost ..) (.refl _)) <| .each (fun _ _ => .ite (.comp (.modBlock ..) <| .comp (.eraseFor ..) <| .upd) (.refl _))

theorem settleOldJournal (s : State) : Upkeep s s.settleOldJournal := by
  unfold State.settleOldJournal
  exact .each (fun _ _ => .ite (.shaveBlock ..) (.modBlock ..))

theorem settleRings (s : State) : Upkeep s s.settleRings := by
  unfold State.settleRings
  exact .comp (.settleOldJournal ..) <| .each (fun _ _ => .settleRing ..)

theorem settleGone (s : State) : Upkeep s s.settleGone := by
  unfold State.settleGone
  exact .each (fun _ _ => .comp (.log ..) <| .comp (.modSlot ..) <| .upd)

theorem settleReads (s : State) : Upkeep s s.settleReads := by
  unfold State.settleReads
  exact .each (fun _ _ => .issueRead ..)

theorem releaseRec (s : State) (x : Ns) (seg cnt : Nat) (id : Option CmdId) : Upkeep s (s.releaseRec x seg cnt id) := by
  unfold State.releaseRec
  exact .comp (.record ..) <| .needReg ..

theorem cryptoErase (s : State) (x : Ns) : Upkeep s (s.cryptoErase x) := by
  unfold State.cryptoErase
  exact .comp (.releaseRec ..) <| .comp (.writeRoot ..) <| .comp (.log ..) <| .comp .upd <| .comp (.modNs ..) <| .took ..

theorem startJob (s : State) (x : Ns) : Upkeep s (s.startJob x) := by
  unfold State.startJob
  refine .ite (.refl _) ?_
  dsimp only
  split
  · exact .comp (.releaseRec ..) <| .modNs ..
  · exact .comp (.releaseRec ..) <| .modNs ..
  · exact .comp (.writeRoot ..) <| .comp (.modNs ..) <| .modNs ..
  · exact .comp (.cryptoErase ..) <| .modNs ..

theorem sanitizeStep (s : State) : Upkeep s s.sanitizeStep := by
  unfold State.sanitizeStep
  split
  · exact .refl _
  · exact .ite (.refl _) (.ite (.comp (.log ..) <| .upd) (.comp (.ite (.refl _) (.comp (.log ..) <| .upd)) <|
      .comp (.freeBands ..) <| .comp (.each (fun _ _ => .eraseFor ..)) <| .each (fun _ _ => .comp (.modPool ..) <| .shave ..)))

theorem settleJobs (s : State) : Upkeep s s.settleJobs := by
  unfold State.settleJobs
  exact .comp (.sanitizeStep ..) <| .each (fun _ _ => .startJob ..)

theorem lapse (s : State) : Upkeep s s.lapse := .upd

theorem settle (s : State) : Upkeep s s.settle := by
  unfold State.settle
  exact .comp (.pump ..) <| .comp (.lapse ..) <| .comp (.each (fun _ _ => .settleRegs ..)) <| .comp (.settleJobs ..) <| .comp (.freeBands ..) <|
      .comp (.replaceStuck ..) <| .comp (.sendWaiting ..) <| .comp (.settleReads ..) <| .comp (.settleGone ..) <| .comp (.settleRings ..) <|
      .comp (.settleBands ..) <| .comp (.settleGcs ..) <| .comp (.settleRecs ..) <| .settleRows ..

/-! ### Of the drains (R297, R342, R374) -/

theorem putLog (s : State) (nsx lba : Nat) (e : LogEnt) : Upkeep s (s.putLog nsx lba e) := by
  unfold State.putLog
  split
  · exact .ite (.refl _) .upd
  · exact .upd

theorem publishPart (s : State) (x : Ns) (e : Nat × Nat × Nat) : Upkeep s (s.publishPart x e) := by
  unfold State.publishPart
  exact .comp (.ite (.modBand ..) (.refl _)) <| .comp .upd <| .comp (.modSeg ..) <| .modBand ..

theorem checkLog (s : State) (p : Nat) : Upkeep s (s.checkLog p) := by
  unfold State.checkLog
  exact .comp (.ite (.log ..) (.refl _)) <| .comp (.ite (.log ..) (.refl _)) <| .modPool ..

theorem publish (s : State) (f : Flight) : Upkeep s (s.publish f) := by
  unfold State.publish
  split
  · exact .refl _
  · exact .comp (.checkLog ..) <| .comp (.modPool ..) <| .comp (.poolCount ..) <| .comp (.dropLost ..) <| .comp (.modNs ..) <|
      .comp (.each (fun _ _ => .putLog ..)) <| .each (fun _ _ => .publishPart ..)

theorem voidWrite (s : State) (id : CmdId) (st : Status) (cause : Nat) : Upkeep s (s.voidWrite id st cause) := by
  unfold State.voidWrite
  split
  · exact .refl _
  · refine .ite (.refl _) (.ite (.finish ..) ?_)
    split
    · exact .finish ..
    · exact .comp (.record ..) <| .comp (.needReg ..) <| .comp (.each (fun _ _ => .comp (.ite (.closeEarly ..) (.refl _)) <| .modBand ..)) <|
        .comp (.log ..) <| .modFlight ..

theorem drainOne (s : State) (id : CmdId) (sqDel : Bool) (cause : Nat) : Upkeep s (s.drainOne id sqDel cause) := by
  unfold State.drainOne
  dsimp only
  split
  · exact .modFlight ..
  · refine .ite (.comp (.ite (.comp (.finish ..) <| .publish ..) (.voidWrite ..)) <| .modFlight ..) ?_
    refine .ite (.modFlight ..) (.ite ?_ (.comp (.finish ..) <| .comp .upd <| .modFlight ..))
    split
    · exact .comp (.ite (.finish ..) (.refl _)) <| .comp (.modFlight ..) <| .modFlight ..
    · exact .comp (.modFlight ..) <| .modFlight ..

theorem drainWhere (s : State) (p : CmdId → Bool) (sqDel : Bool) (cause : Nat) : Upkeep s (s.drainWhere p sqDel cause).2 := by
  unfold State.drainWhere
  dsimp only
  refine .comp (.settle ..) <| .comp (.each fun _ _ => .drainOne ..) ?_
  split
  · exact .each fun _ _ => .post ..
  · exact .upd

theorem freeLanes (s : State) (sid : Nat) : Upkeep s (s.freeLanes sid) := .each fun _ _ => .upd

theorem cancelScan (s : State) (sid : Nat) : Upkeep s (s.cancelScan sid).2 := by
  unfold State.cancelScan
  split
  · exact .refl _
  · exact .comp .upd <| .comp (.log ..) <| .freeLanes ..

theorem drainSearch (s : State) (p : Nat → Bool) : Upkeep s (s.drainSearch p) := by
  unfold State.drainSearch
  exact .comp (.each fun _ _ => .cancelScan ..) .upd

end Upkeep

end Sys2Proof.Machine

namespace Sys2Proof.Machine

/-! ## The end of the scans of a namespace (R375) -/

/-- Scans, the bands and reads that their Fetches give up, registers, records and completions of the second state, all else of the first. -/
def putScans (s t : State) : State :=
  { s with srch := t.srch, dw := t.dw, gbk := t.gbk, io := t.io, media := { s.media with bands := t.media.bands, reqs := t.media.reqs } }

theorem frames_putScans : Frames putScans := ⟨fun _ => rfl, fun _ _ _ => rfl⟩

section
variable (s : State)

theorem State.log_within_putScans (code : Nat) (ps : List Nat) : s.Within putScans (s.log code ps) := by
  unfold State.Within putScans
  rw [State.log_rest]

theorem State.dropRefs_within (id : CmdId) : s.Within putScans (s.dropRefs id) := by
  unfold State.dropRefs
  split
  · rfl
  next f _ =>
    have freed : s.Within putScans (s.each f.refs (fun s b => s.modBand b (fun x => { x with refs := x.refs - 1 }))) := by
      refine .each frames_putScans (fun s b => ?_) s _
      rfl
    exact freed.trans frames_putScans rfl

theorem State.finish_within (id : CmdId) (st : Status) (dw0 : Nat) (data : List Byte) : s.Within putScans (s.finish id st dw0 data) := by
  have left : s.Within putScans ((s.dropRefs id).dropWants id) := (s.dropRefs_within id).trans frames_putScans rfl
  unfold State.finish
  split
  · rfl
  · refine left.trans frames_putScans ?_
    split_ifs <;> rfl

theorem State.answerFetch_within (sid : Nat) (c : Cmd) : s.Within putScans (s.answerFetch sid c) := by
  unfold State.answerFetch
  split
  · exact s.finish_within ..
  · refine .trans frames_putScans ?_ (State.finish_within ..)
    split <;> rfl

theorem State.serveFetch_within (sid : Nat) : s.Within putScans (s.serveFetch sid) := by
  unfold State.serveFetch
  split
  · rfl
  · refine State.Within.each frames_putScans (fun s c => ?_) s _
    split
    · exact s.finish_within ..
    · split
      · exact s.answerFetch_within ..
      · rfl

theorem State.freeLanes_within (sid : Nat) : s.Within putScans (s.freeLanes sid) := by
  refine State.Within.each frames_putScans (fun s l => ?_) s _
  rfl

theorem State.endScan_within (sid st reason : Nat) : s.Within putScans (s.endScan sid st reason) := by
  unfold State.endScan
  split
  · rfl
  · dsimp only
    split
    · rfl
    · refine .trans frames_putScans (.trans frames_putScans (.trans frames_putScans (s.freeLanes_within sid) ?_) (State.log_within_putScans ..)) (State.serveFetch_within ..)
      rfl

theorem State.endNsScans_within (nsid : Nat) : s.Within putScans (s.endNsScans nsid) :=
  State.Within.each frames_putScans (fun s k => s.endScan_within k 3 1) s _

theorem State.endNsScans_idle (nsid : Nat) (idle : s.srch.scans = []) : s.endNsScans nsid = s := by
  unfold State.endNsScans
  rw [idle]
  rfl

/-! ## Changes of a namespace (R334) -/

/-- A namespace with a change to make. -/
def Ns.given (x : Ns) (job : Nat) (id : Option CmdId) : Ns := { x with job := job, jobId := id, jobOn := false }

theorem State.setJob_eq (x : Ns) (job : Nat) (id : Option CmdId) :
    s.setJob x job id = { putScans s (s.endNsScans x.nsid) with media.nss := s.media.nss.map (fun y => if y.nsx = x.nsx then y.given job id else y) } := by
  have ended := s.endNsScans_within x.nsid
  unfold State.Within at ended
  unfold State.setJob
  dsimp only
  rw [ended]
  rfl

theorem State.setJob_nss (x : Ns) (job : Nat) (id : Option CmdId) :
    (s.setJob x job id).media.nss = s.media.nss.map (fun y => if y.nsx = x.nsx then y.given job id else y) := by
  rw [State.setJob_eq]

theorem State.setJob_sanitize (x : Ns) (job : Nat) (id : Option CmdId) :
    ((s.setJob x job id).media.sanitize, (s.setJob x job id).media.sanitizeStat) = (s.media.sanitize, s.media.sanitizeStat) := by
  rw [State.setJob_eq]
  rfl

/-- What a change of a namespace's entry makes of that entry. -/
theorem mem_changed {l : List Ns} {x y : Ns} {f : Ns → Ns} (h : y ∈ l.map (fun z => if z.nsx = x.nsx then f z else z)) (named : y.nsx = x.nsx) : ∃ z, y = f z := by
  obtain ⟨z, -, rfl⟩ := List.mem_map.mp h
  by_cases hz : z.nsx = x.nsx
  · exact ⟨z, if_pos hz⟩
  · rw [if_neg hz] at named
    exact absurd named hz

theorem State.setJob_given (x : Ns) (job : Nat) (id : Option CmdId) :
    ∀ y ∈ (s.setJob x job id).media.nss, y.nsx = x.nsx → y.job = job ∧ y.jobId = id ∧ y.jobOn = false := by
  intro y hy named
  rw [State.setJob_nss] at hy
  obtain ⟨z, rfl⟩ := mem_changed (f := fun z => z.given job id) hy named
  exact ⟨rfl, rfl, rfl⟩

/-- The entry that a format leaves. -/
theorem State.startFormat_given (x : Ns) (c : Cmd) : ∀ y ∈ (s.startFormat x c).media.nss, y.nsx = x.nsx →
    y.job = (if field (dw10 c) 11 9 = 0 then 1 else 2) ∧ y.jobId = some c.id ∧ y.newFmt = some (dw10 c % 16, field (dw10 c) 7 5 + 8 * field (dw10 c) 8 8, (dw10 c).testBit 4) := by
  intro y hy named
  obtain ⟨z, hz, rfl⟩ := List.mem_map.mp hy
  by_cases here : z.nsx = x.nsx
  · rw [if_pos here]
    obtain ⟨job, id, -⟩ := s.setJob_given x _ _ z hz here
    exact ⟨job, id, rfl⟩
  · rw [if_neg here] at named
    exact absurd named here

end

/-- Along the list of the namespaces without a change, every one is given one. -/
theorem State.each_setJob_busy {job : Nat} (some_job : job ≠ 0) {s : State} {l : List Ns} (h : ∀ y ∈ s.media.nss, y.job ≠ 0 ∨ ∃ x ∈ l, x.nsx = y.nsx) :
    ∀ y ∈ (s.each l (fun s x => s.setJob x job none)).media.nss, y.job ≠ 0 := by
  unfold State.each
  induction l generalizing s with
  | nil => exact fun y hy => (h y hy).resolve_right (by simp)
  | cons x l ih =>
    refine ih fun y hy => ?_
    rw [State.setJob_nss] at hy
    obtain ⟨z, hz, rfl⟩ := List.mem_map.mp hy
    by_cases here : z.nsx = x.nsx
    · rw [if_pos here]
      exact .inl some_job
    · rw [if_neg here]
      refine (h z hz).imp_right fun ⟨w, hw, named⟩ => ?_
      rcases List.mem_cons.mp hw with rfl | later
      · exact absurd named.symm here
      · exact ⟨w, later, named⟩

/-! ## A new namespace (R139, R331) -/

/-- Of more candidates than namespaces, the first that no namespace bears is a candidate that none bears. -/
theorem fresh_among {l : List Ns} {f : Ns → Nat} {c : List Nat} (once : c.Nodup) (more : l.length < c.length) :
    (c.find? (fun k => !(l.any (fun x => f x = k)))).getD 0 ∈ c ∧ ∀ x ∈ l, f x ≠ (c.find? (fun k => !(l.any (fun x => f x = k)))).getD 0 := by
  have found : ∃ k, c.find? (fun k => !(l.any (fun x => f x = k))) = some k := by
    rw [← Option.isSome_iff_exists, List.find?_isSome]
    by_contra taken
    have sub : c ⊆ l.map f := fun k hk => by
      have := not_exists.mp taken k
      simpa [hk] using this
    have short := (once.subperm sub).length_le
    rw [List.length_map] at short
    omega
  obtain ⟨k, hk⟩ := found
  rw [hk, Option.getD_some]
  refine ⟨List.mem_of_find?_eq_some hk, fun x hx same => ?_⟩
  have unborne := List.find?_some hk
  simp only [Bool.not_eq_true', List.any_eq_false, decide_eq_true_eq] at unborne
  exact unborne x hx same

section
variable (s : State)

theorem State.freeNsid_fresh : s.freeNsid ≠ 0 ∧ ∀ y ∈ s.media.nss, y.nsid ≠ s.freeNsid := by
  have once : ((List.range (s.media.nss.length + 1)).map (· + 1)).Nodup := List.nodup_range.map (add_left_injective 1)
  obtain ⟨candidate, unborne⟩ := fresh_among (l := s.media.nss) (f := Ns.nsid) once (by simp)
  obtain ⟨k, -, hk⟩ := List.mem_map.mp candidate
  exact ⟨fun zero => Nat.succ_ne_zero k (hk.trans zero), unborne⟩

theorem State.freeNsx_fresh : ∀ y ∈ s.media.nss, y.nsx ≠ s.freeNsx :=
  (fresh_among (l := s.media.nss) (f := Ns.nsx) List.nodup_range (by simp)).2

/-! ## Namespace Attribute Changed -/

theorem State.nsChanged_io (l : List Nat) (x : Ns) : s.nsChanged l x = { s with io := (s.nsChanged l x).io } := by
  refine State.Within.each (put := fun s t => { s with io := t.io }) ⟨fun _ => rfl, fun _ _ _ => rfl⟩ (fun s i => ?_) s l
  unfold State.Within
  rw [State.aen_io]
  rfl

theorem State.aen_ctrl_other (n : Nat) (e : Aen) {k : Nat} (h : k ≠ n) : (s.aen n e).ctrl k = s.ctrl k := by
  unfold State.aen
  split
  · exact (State.post_ctrl ..).trans (s.modCtrl_other n k _ h)
  · exact s.modCtrl_other n k _ h

theorem State.nsChanged_ctrl_other {l : List Nat} (x : Ns) {k : Nat} (h : k ∉ l) : (s.nsChanged l x).ctrl k = s.ctrl k := by
  unfold State.nsChanged State.each
  induction l generalizing s with
  | nil => rfl
  | cons i l ih =>
    rw [List.mem_cons, not_or] at h
    exact (ih _ h.2).trans ((State.aen_ctrl_other _ _ _ h.1).trans (s.modCtrl_other i k _ h.1))

end

/-! ## Resets of slice controllers (R338) -/

theorem bitsOf_two_pow {k n : Nat} (h : k < n) : bitsOf (2 ^ k) n = [k] := by
  have alone : (List.range n).count k = 1 := List.count_eq_one_of_mem List.nodup_range (List.mem_range.mpr h)
  simp only [bitsOf, Nat.testBit_two_pow, eq_comm (a := k)]
  rw [List.filter_eq, alone, List.replicate_one]

/-- A controller that begins to drain. -/
def Ctrl.drains (x : Ctrl) (cause : Nat) : Ctrl :=
  { x with draining := true, resetCause := cause, tails := []
           aers := if cause = 30 then x.aers else [], aens := if cause = 30 then x.aens else [], sqDels := if cause = 30 then x.sqDels else [] }

/-- What the commands of a controller leave when it begins to drain (R297), and how many were drained. -/
def State.drained (s : State) (k cause : Nat) : Nat × State :=
  ((s.modCtrl k (fun x => x.drains cause)).drainSearch (fun i => i = k)).drainWhere (fun i => i.ctrl = k) false 0

section
variable {s : State} {k cause : Nat}

/-- After its commands are drained, a drain counts them at its controller. -/
theorem State.beginDrain_counts (s : State) (k cause : Nat) : ∃ u : State, u.ctrl k = (s.drained k cause).2.ctrl k ∧
    s.beginDrain k cause = u.modCtrl k (fun x => { x with drainCount := (s.drained k cause).1 }) := by
  unfold State.beginDrain
  dsimp only
  unfold State.drained Ctrl.drains
  generalize State.drainWhere _ _ _ _ = d
  refine ⟨_, ?_, rfl⟩
  split <;> rfl

theorem State.drained_ctrl (s : State) (k cause : Nat) : (s.drained k cause).2.ctrl k = (s.ctrl k).drains cause := by
  unfold State.drained
  rw [(Upkeep.drainWhere ..).ctrl k, (Upkeep.drainSearch ..).ctrl k, State.modCtrl_self]

/-- Of its controller a drain moves the marks of the drain, and nothing that its commands leave behind. -/
theorem State.beginDrain_ctrl (s : State) (k cause : Nat) : ∃ n, (s.beginDrain k cause).ctrl k = { (s.ctrl k).drains cause with drainCount := n } := by
  obtain ⟨u, same, counts⟩ := s.beginDrain_counts k cause
  refine ⟨(s.drained k cause).1, ?_⟩
  rw [counts, State.modCtrl_self, same, State.drained_ctrl]

theorem State.resetCtrl_begins (exist : (s.ctrl k).exist = true) (idle : (s.ctrl k).resetting = false) (going : s.io.paused = false) :
    s.resetCtrl k cause = ((s.modCtrl k (fun x => { x with en := false })).modCtrl k (fun x => { x with resetting := true })).beginDrain k cause := by
  have going' : (s.modCtrl k (fun x => { x with en := false })).io.paused = false := going
  simp only [State.resetCtrl, exist, idle, going', Bool.true_eq_false, Bool.false_eq_true, if_false]

theorem State.resetCtrl_resets (exist : (s.ctrl k).exist = true) (idle : (s.ctrl k).resetting = false) (going : s.io.paused = false) :
    ((s.resetCtrl k cause).ctrl k).resetting = true ∧ ((s.resetCtrl k cause).ctrl k).en = false := by
  rw [State.resetCtrl_begins exist idle going]
  obtain ⟨n, drains⟩ := State.beginDrain_ctrl ((s.modCtrl k (fun x => { x with en := false })).modCtrl k (fun x => { x with resetting := true })) k cause
  rw [drains, State.modCtrl_self, State.modCtrl_self]
  exact ⟨rfl, rfl⟩

theorem State.resetSlices_one (s : State) {k : Nat} (h : k < 16) : s.resetSlices (2 ^ k) = s.took.resetCtrl (k + 1) (s.freeVal % 4) := by
  unfold State.resetSlices
  rw [bitsOf_two_pow h]
  rfl

end

end Sys2Proof.Machine

namespace Sys2Proof.Machine

/-! ## Namespace commands (R277, R331, R334) -/

section
variable {c : Cmd} {s : State}

section
variable (h : s.readyFor true c = true)
include h

theorem execNamespaceCreate_select (sel : dw10 c % 16 ≠ 0) : execNamespaceCreate c s = .next (s.refuse c .invalidField) := by
  rw [execNamespaceCreate, adminCmd_ready h]
  exact congrArg _ (if_pos sel)

variable (sel : dw10 c % 16 = 0)
include sel

theorem execNamespaceCreate_format (fmt : 3 < (nsCreateOf c.buf).lbaf) : execNamespaceCreate c s = .next (s.refuse c .invalidNs) := by
  rw [execNamespaceCreate, adminCmd_ready h]
  exact congrArg _ ((if_neg (by simp [sel])).trans (if_pos fmt))

variable (fmt : (nsCreateOf c.buf).lbaf ≤ 3)
include fmt

theorem execNamespaceCreate_unplaced (nowhere : s.createPool (nsCreateOf c.buf) = none) : execNamespaceCreate c s = .next (s.refuse c .invalidField) := by
  rw [execNamespaceCreate, adminCmd_ready h]
  simp [sel, Nat.not_lt.mpr fmt, nowhere]

theorem execNamespaceCreate_placed {p : Nat} (placed : s.createPool (nsCreateOf c.buf) = some p) : execNamespaceCreate c s = .next (s.check c (nsCreateOf c.buf).ok (fun s =>
    if s.nsFits p (s.newNs p (nsCreateOf c.buf)) = false then s.refuse c .nsCapacity
    else ((s.addNs (s.newNs p (nsCreateOf c.buf))).writeRoot p (.rootGen p (some c.id) (s.newNs p (nsCreateOf c.buf)).nsid)).settle)) := by
  rw [execNamespaceCreate, adminCmd_ready h]
  simp [sel, Nat.not_lt.mpr fmt, placed]

end

theorem execNamespaceDelete_ready (h : s.readyFor true c = true) : execNamespaceDelete c s = .next (
    if dw10 c % 16 ≠ 1 then s.refuse c .invalidField
    else (s.ns? c.nsid).elim (s.refuse c .invalidNs) (fun x =>
      if x.job ≠ 0 then s.refuse c .nsNotReady else ((s.setJob x 3 (some c.id)).nsChanged (s.attachedCtrls x) x).settle)) := by
  rw [execNamespaceDelete, adminCmd_ready h]
  cases s.ns? c.nsid <;> rfl

/-- Whether the controllers of a list may be attached to a namespace, or detached from it. -/
def State.attachOk (s : State) (x : Ns) (c : Cmd) : Bool :=
  dw10 c % 16 ≤ 1 && x.tenant = 0 && leAt c.buf 0 2 ≤ 2047
    && (ctrlList c.buf).all (fun i => (s.ctrl i).exist && (s.ctrl i).tenant = 0 && (x.attached.contains i != (dw10 c % 16 = 0 : Bool)))

theorem execNamespaceAttachment_ready {x : Ns} (h : s.readyFor true c = true) (found : s.ns? c.nsid = some x) : execNamespaceAttachment c s = .next (
    s.check c (s.attachOk x c) (fun s => ((s.attach x (dw10 c % 16) (ctrlList c.buf)).nsChanged (ctrlList c.buf) x).post c.id .success)) := by
  rw [execNamespaceAttachment, adminCmd_ready h]
  simp only [found]
  rfl

theorem State.attachOk_of {x : Ns} (count : leAt c.buf 0 2 ≤ 2047) (sel : dw10 c % 16 ≤ 1) (free : x.tenant = 0)
    (each : ∀ k ∈ ctrlList c.buf, (s.ctrl k).exist = true ∧ (s.ctrl k).tenant = 0 ∧ x.attached.contains k = decide (dw10 c % 16 = 1)) : s.attachOk x c = true := by
  have other : decide (dw10 c % 16 = 1) = !decide (dw10 c % 16 = 0) := by
    obtain h | h : dw10 c % 16 = 0 ∨ dw10 c % 16 = 1 := by omega
    all_goals simp [h]
  have all : (ctrlList c.buf).all (fun i => (s.ctrl i).exist && (s.ctrl i).tenant = 0 && (x.attached.contains i != (dw10 c % 16 = 0 : Bool))) = true := by
    refine List.all_eq_true.mpr fun k hk => ?_
    obtain ⟨exist, tenant, attached⟩ := each k hk
    rw [attached, exist, tenant, other]
    simp
  rw [State.attachOk, all]
  simp [count, sel, free]

theorem State.attachOk_not {x : Ns} (bad : 1 < dw10 c % 16 ∨ x.tenant ≠ 0 ∨ 2047 < leAt c.buf 0 2 ∨
    ∃ k ∈ ctrlList c.buf, (s.ctrl k).exist = false ∨ (s.ctrl k).tenant ≠ 0 ∨ x.attached.contains k = decide (dw10 c % 16 = 0)) : s.attachOk x c = false := by
  by_contra ok
  simp only [State.attachOk, Bool.not_eq_false, Bool.and_eq_true, decide_eq_true_eq, List.all_eq_true, bne_iff_ne] at ok
  obtain ⟨⟨⟨sel, free⟩, count⟩, each⟩ := ok
  rcases bad with bad | bad | bad | ⟨k, hk, bad⟩
  · omega
  · exact bad free
  · omega
  · obtain ⟨⟨exist, tenant⟩, attached⟩ := each k hk
    rcases bad with bad | bad | bad
    · exact Bool.false_ne_true (bad.symm.trans exist)
    · exact bad tenant
    · exact attached bad

theorem execFormatNvm_ready {x : Ns} (h : s.readyFor false c = true) (found : s.ns? (s.localNs c).nsid = some x) : execFormatNvm c s = .next (
    if ¬s.isManager c.id.ctrl ∧ (x.tenant ≠ (s.ctrl c.id.ctrl).tenant ∨ (s.ctrl c.id.ctrl).tenant = 0) then s.refuse c .invalidOpcode
    else if x.job ≠ 0 then s.refuse c .nsNotReady
    else if dw10 c % 16 > 3 ∨ (dw10 c % 16 = 0) ≠ (x.lbaf = 0) then s.refuse c .invalidNs
    else s.check c (field (dw10 c) 11 9 ≤ 2 && field (dw10 c) 7 5 ≤ 3 && !(dw10 c % 16 = 0 && field (dw10 c) 7 5 ≠ 0)) (fun s => (s.startFormat x c).settle)) := by
  rw [execFormatNvm, adminCmd_ready h]
  simp only [found]

/-- A format of a namespace of the sender's, of no other change, to a format of the same kind. -/
theorem execFormatNvm_taken {x : Ns} (h : s.readyFor false c = true) (found : s.ns? (s.localNs c).nsid = some x)
    (allowed : s.isManager c.id.ctrl = true ∨ (x.tenant = (s.ctrl c.id.ctrl).tenant ∧ x.tenant ≠ 0)) (idle : x.job = 0) (fmt : dw10 c % 16 ≤ 3) (same : dw10 c % 16 = 0 ↔ x.lbaf = 0)
    (ses : field (dw10 c) 11 9 ≤ 2) (pi : field (dw10 c) 7 5 ≤ 3) (prot : dw10 c % 16 ≠ 0 ∨ field (dw10 c) 7 5 = 0) : execFormatNvm c s = .next (s.startFormat x c).settle := by
  have mine : ¬(¬s.isManager c.id.ctrl ∧ (x.tenant ≠ (s.ctrl c.id.ctrl).tenant ∨ (s.ctrl c.id.ctrl).tenant = 0)) := by
    rintro ⟨other, foreign⟩
    obtain ⟨tenant, named⟩ := allowed.resolve_left other
    exact foreign.elim (· tenant) (tenant ▸ named)
  have form : ¬(dw10 c % 16 > 3 ∨ (dw10 c % 16 = 0) ≠ (x.lbaf = 0)) := not_or.mpr ⟨by omega, not_not.mpr (propext same)⟩
  refine (execFormatNvm_ready h found).trans (congrArg _ ?_)
  rw [if_neg mine, if_neg (by simp [idle]), if_neg form, State.check_of]
  rcases prot with prot | prot <;> simp [ses, pi, prot]

/-! ### Sanitize -/

/-- CRYPTO_ERASE and BLOCK_ERASE start a Sanitize of their action. -/
theorem exec_sanitize {act : Nat} {i : Instr} (hi : (act, i) ∈ [(4, Instr.cryptoErase c), (2, .blockErase c)]) (h : s.readyFor true c = true) : exec i s = .next (s.sanitizeStart c act) := by
  simp only [List.mem_cons, Prod.mk.injEq, List.not_mem_nil, or_false] at hi
  rcases hi with ⟨rfl, rfl⟩ | ⟨rfl, rfl⟩
  · exact adminCmd_ready (f := fun s => s.sanitizeStart c 4) h
  · exact adminCmd_ready (f := fun s => s.sanitizeStart c 2) h

/-- A Sanitize is in progress for every namespace that has no other change. -/
def State.sanitizing (s : State) (id : CmdId) (act : Nat) : State :=
  ({ s with media := { s.media with sanitize := some (id, act), sanitizeStat := 2 } } : State).each (s.media.nss.filter (fun x => x.job = 0)) (fun s x => s.setJob x 6 none)

theorem State.sanitizing_status (s : State) (id : CmdId) (act : Nat) : (s.sanitizing id act).media.sanitize = some (id, act) ∧ (s.sanitizing id act).media.sanitizeStat = 2 :=
  Prod.mk.inj (State.each_same (π := fun s => (s.media.sanitize, s.media.sanitizeStat)) (fun s x => s.setJob_sanitize x 6 none) _ _)

theorem State.sanitizing_busy (s : State) (id : CmdId) (act : Nat) : ∀ x ∈ (s.sanitizing id act).media.nss, x.job ≠ 0 := by
  refine State.each_setJob_busy (by decide) fun y hy => ?_
  by_cases idle : y.job = 0
  · exact .inr ⟨y, List.mem_filter.mpr ⟨hy, by simpa using idle⟩, rfl⟩
  · exact .inl idle

theorem State.sanitizeStart_free {act : Nat} (named : dw10 c % 8 = act) (free : s.media.sanitize = none) : s.sanitizeStart c act = ((s.sanitizing c.id act).post c.id .success).settle :=
  if_neg (by simp [named, free])

theorem State.sanitizeStart_refused {act : Nat} (h : dw10 c % 8 ≠ act ∨ s.media.sanitize.isSome = true) : s.sanitizeStart c act = s.refuse c .invalidField := if_pos h

/-! ### Assignment to tenants (R316, R321) -/

/-- A Tenant Modify of an existing tenant, with its reserved fields zero. -/
theorem modifyCmd_named {action n : Nat} {f : Nat → State → State} (h : s.readyFor true c = true) (normal : s.pwr.mode ≠ 1) (dw : dw10 c = 65536 * action + n) (hn : n < 65536)
    (ha : action = 3 ∨ action = 4) (z : zero12 c = true) (occupied : (s.tenant n).occupied = true) : modifyCmd action c true s f = .next (f n s) := by
  have tid : dw10 c % 65536 = n := by omega
  have fields : field (dw10 c) 31 20 = 0 ∧ field (dw10 c) 19 16 = action := by
    simp only [field]
    omega
  have other : action ≠ 5 := by omega
  rw [modifyCmd, adminCmd_ready h]
  simp only [tid]
  rw [State.check_of (by simp [fields, normal, z, other, occupied])]

/-- In service mode tenants are not modified (R335). -/
theorem modifyCmd_service {action : Nat} {ok : Bool} {f : Nat → State → State} (h : s.readyFor true c = true) (service : s.pwr.mode = 1) :
    modifyCmd action c ok s f = .next (s.refuse c .invalidField) := by
  rw [modifyCmd, adminCmd_ready h]
  exact congrArg _ (State.check_not (by simp [service]))

section
variable {n : Nat} (h : s.readyFor true c = true) (hn : n < 65536) (z : zero12 c = true) (occupied : (s.tenant n).occupied = true)
include h hn z occupied

theorem execNsAssign_found {x : Ns} (normal : s.pwr.mode ≠ 1) (dw : dw10 c = 0x30000 + n) (found : s.ns? (dw11 c) = some x) : execNsAssign c s = .next (
    s.check c (x.tenant = 0 && x.attached.isEmpty && x.job = 0 && s.tenSegs n x.pool + s.segCount x ≤ s.guar n 284 (s.segTotal x.pool)) (fun s =>
      ((((s.modNs x.nsx (fun y => { y with tenant := n })).nsChanged (s.ctrlsOf n) x).modified n 3 x.nsid).writeRoot x.pool (.rootGen x.pool (some c.id) 0)).settle)) := by
  rw [execNsAssign, modifyCmd_named h normal dw hn (.inl rfl) z occupied]
  simp only [found]
  rfl

theorem execNsRelease_found {x : Ns} (normal : s.pwr.mode ≠ 1) (dw : dw10 c = 0x40000 + n) (found : s.ns? (dw11 c) = some x) : execNsRelease c s = .next (
    s.check c (x.tenant = n && x.job = 0 && !x.flags.testBit 1) (fun s => (((s.nsChanged (s.ctrlsOf n) x).modified n 4 x.nsid).setJob x 4 (some c.id)).settle)) := by
  rw [execNsRelease, modifyCmd_named h normal dw hn (.inr rfl) z occupied]
  simp only [found]

variable (absent : s.ns? (dw11 c) = none ∨ s.pwr.mode = 1)
include absent

theorem execNsAssign_absent (dw : dw10 c = 0x30000 + n) : execNsAssign c s = .next (s.refuse c .invalidField) := by
  by_cases service : s.pwr.mode = 1
  · exact modifyCmd_service h service
  · rw [execNsAssign, modifyCmd_named h service dw hn (.inl rfl) z occupied]
    simp only [absent.resolve_right service]

theorem execNsRelease_absent (dw : dw10 c = 0x40000 + n) : execNsRelease c s = .next (s.refuse c .invalidField) := by
  by_cases service : s.pwr.mode = 1
  · exact modifyCmd_service h service
  · rw [execNsRelease, modifyCmd_named h service dw hn (.inr rfl) z occupied]
    simp only [absent.resolve_right service]

end

end

/-! ## Service mode (R338) -/

section
variable {p : Path} {s : State}

theorem execWipe_service (r : s.reach p (dwSLICE + 4) = .ok) (service : s.pwr.mode = 1) :
    execWipe p s = .next (((s.resetSlices 0xFFFF).each ((s.resetSlices 0xFFFF).media.nss.filter (fun x => x.flags.testBit 1 && x.job = 0)) (fun s x => s.setJob x 7 none)).settle) := by
  rw [execWipe, winWrite_ok r]
  exact congrArg _ (if_neg (by simp [service]))

theorem execSliceReset_service (v : Word) (r : s.reach p (dwSLICE + 4) = .ok) (service : s.pwr.mode = 1) : execSliceReset p v s = .next (s.resetSlices (v.toNat % 65536)) := by
  rw [execSliceReset, winWrite_ok r]
  exact congrArg _ (if_pos service)

theorem winWrite_absent {off : Nat} {f : State → State} (r : s.reach p off = .silent ∨ s.reach p off = .dead) : winWrite p off s f = .next s := by
  rcases r with r | r <;> simp [winWrite, r]

theorem execWipe_absent (r : s.reach p (dwSLICE + 4) = .silent ∨ s.reach p (dwSLICE + 4) = .dead) : execWipe p s = .next s := by
  rw [execWipe, winWrite_absent r]

theorem execSliceReset_absent (v : Word) (r : s.reach p (dwSLICE + 4) = .silent ∨ s.reach p (dwSLICE + 4) = .dead) : execSliceReset p v s = .next s := by
  rw [execSliceReset, winWrite_absent r]

end

end Sys2Proof.Machine

namespace Sys2Proof.Machine

/-- What a CREATE adds: one namespace of that form, under an NSID and an index that no other has. -/
theorem State.addNs_newNs (s : State) (p : Nat) (d : NsCreate) : ∃ x : Ns, (s.addNs (s.newNs p d)).media.nss = s.media.nss ++ [x] ∧ x.nsid = (s.newNs p d).nsid ∧ x.nsid ≠ 0 ∧
    (∀ y ∈ s.media.nss, y.nsid ≠ x.nsid ∧ y.nsx ≠ x.nsx) ∧ x.pool = p ∧ x.nsze = d.nsze ∧ x.lbaf = d.lbaf ∧ x.dps = d.dps ∧ x.ext = d.ext ∧ x.handles = d.handles ∧ x.nNs = s.nOf p ∧
    x.attached = [] ∧ x.tenant = 0 ∧
    s.addNs (s.newNs p d) = { s with media := { s.media with nss := s.media.nss ++ [x] }, fw := { s.fw with salts := (s.addNs (s.newNs p d)).fw.salts }, free := (s.addNs (s.newNs p d)).free } := by
  obtain ⟨nonzero, nsid⟩ := s.freeNsid_fresh
  exact ⟨_, rfl, rfl, nonzero, fun y hy => ⟨nsid y hy, s.freeNsx_fresh y hy⟩, rfl, rfl, rfl, rfl, rfl, rfl, rfl, rfl, rfl, rfl⟩

/-- An attachment reaches the entry of the namespace, and the controllers of the list with their completions. -/
theorem State.attach_nsChanged (s : State) (x : Ns) (sel : Nat) (ids : List Nat) (id : CmdId) : let t := ((s.attach x sel ids).nsChanged ids x).post id .success
    t.media.nss = s.media.nss.map (fun y => if y.nsx = x.nsx then { y with attached := if sel = 0 then y.attached ++ ids else y.attached.filter (fun i => !ids.contains i) } else y) ∧
      (∀ j, j ∉ ids → t.ctrl j = s.ctrl j) ∧ t = { s with media := { s.media with nss := t.media.nss }, io := t.io } := by
  have others (j : Nat) (hj : j ∉ ids) : ((s.attach x sel ids).nsChanged ids x).ctrl j = s.ctrl j := State.nsChanged_ctrl_other _ x hj
  dsimp only
  refine ⟨?_, fun j hj => (State.post_ctrl ..).trans (others j hj), ?_⟩
  · rw [State.nsChanged_io]
    rfl
  · rw [State.nsChanged_io]
    rfl

/-- Settles O46: each command is its checks and then one update of the namespaces (`State.addNs_newNs`, `State.setJob_nss`, `State.attach_nsChanged`); a reset of a slice controller outlives the settling of its drain (`State.beginDrain_ctrl`). -/
theorem namespacesAreCreatedDeletedAttachedAndErased : Obligations.NamespacesAreCreatedDeletedAttachedAndErased := by
  refine ⟨fun c p d s h sel hd fmt placed ok fits => ?_, fun p d s => s.addNs_newNs p d, fun c d s h hd => ?_, fun x job id s => ⟨s.setJob_given x job id, fun idle => ?_⟩,
    fun c x s h sel found idle => ?_, fun c s h => ⟨fun sel => ?_, fun sel absent => ?_, fun x sel found busy => ?_⟩, fun c x ids s h hids count sel found free each => ?_,
    fun c x s h found bad => ?_, fun c x s h found allowed idle fmt same ses pi prot =>
      ⟨execFormatNvm_taken h found allowed idle fmt same ses pi prot, s.startFormat_given x c⟩, fun c x s h found => ⟨fun other foreign => ?_, fun mgr busy => ?_, fun mgr idle bad => ?_⟩,
    fun act i c s hi h named free => ?_, fun act i c s hi h bad => ?_, fun c s h => ?_, fun c n x s h normal dw hn z occupied found free unattached idle share => ?_,
    fun c n x s h normal dw hn z occupied found owned normalNs idle => ?_, fun c n s h hn z occupied absent => ⟨fun dw => ?_, fun dw => ?_⟩, fun p s r service => ?_,
    fun p v s r service => execSliceReset_service v r service, fun k s lo hi exist idle going => ?_, fun p v s r => ⟨execWipe_absent r, execSliceReset_absent v r⟩⟩
  · subst hd
    refine (execNamespaceCreate_placed h sel fmt placed).trans (congrArg _ ?_)
    rw [State.check_of ok, if_neg (by simp [fits])]
  · subst hd
    refine ⟨fun sel => execNamespaceCreate_select h sel, fun sel fmt => execNamespaceCreate_format h sel fmt, fun sel fmt bad => ?_, fun p sel fmt placed ok fits => ?_⟩
    · cases placed : s.createPool (nsCreateOf c.buf) with
      | none => exact execNamespaceCreate_unplaced h sel fmt placed
      | some p => exact (execNamespaceCreate_placed h sel fmt placed).trans (congrArg _ (State.check_not (bad.resolve_left (by simp [placed]))))
    · refine (execNamespaceCreate_placed h sel fmt placed).trans (congrArg _ ?_)
      rw [State.check_of ok, if_pos fits]
  · rw [State.setJob, s.endNsScans_idle _ idle]
    rfl
  · refine (execNamespaceDelete_ready h).trans (congrArg _ ?_)
    rw [if_neg (by simp [sel]), found, Option.elim_some, if_neg (by simp [idle])]
  · exact (execNamespaceDelete_ready h).trans (congrArg _ (if_pos sel))
  · refine (execNamespaceDelete_ready h).trans (congrArg _ ?_)
    rw [if_neg (by simp [sel]), absent, Option.elim_none]
  · refine (execNamespaceDelete_ready h).trans (congrArg _ ?_)
    rw [if_neg (by simp [sel]), found, Option.elim_some, if_pos busy]
  · subst hids
    obtain ⟨nss, others, frame⟩ := s.attach_nsChanged x (dw10 c % 16) (ctrlList c.buf) c.id
    refine ⟨_, (execNamespaceAttachment_ready h found).trans (congrArg _ (State.check_of (State.attachOk_of count sel free each))), nss, State.post_lastAnswer .., others, frame⟩
  · exact (execNamespaceAttachment_ready h found).trans (congrArg _ (State.check_not (State.attachOk_not bad)))
  · exact (execFormatNvm_ready h found).trans (congrArg _ (if_pos ⟨by simp [other], foreign⟩))
  · refine (execFormatNvm_ready h found).trans (congrArg _ ?_)
    rw [if_neg (by simp [mgr]), if_pos busy]
  · refine (execFormatNvm_ready h found).trans (congrArg _ ?_)
    rw [if_neg (by simp [mgr]), if_neg (by simp [idle]), if_pos (bad.imp_right fun differs same => differs (iff_of_eq same))]
  · obtain ⟨sanitize, stat⟩ := s.sanitizing_status c.id act
    exact ⟨_, (exec_sanitize hi h).trans (congrArg _ (State.sanitizeStart_free named free)), rfl, sanitize, stat, s.sanitizing_busy c.id act⟩
  · exact (exec_sanitize hi h).trans (congrArg _ (State.sanitizeStart_refused bad))
  · exact ⟨_, adminCmd_ready (f := fun s => s.refuse c .invalidField) h, State.refuse_lastAnswer .., rfl⟩
  · refine ⟨s.modNs x.nsx (fun y => { y with tenant := n }), (execNsAssign_found h hn z occupied normal dw found).trans (congrArg _ (State.check_of ?_)), fun y hy named => ?_, rfl⟩
    · simpa [free, unattached, idle] using share
    · obtain ⟨w, rfl⟩ := mem_changed (f := fun y => { y with tenant := n }) hy named
      rfl
  · exact (execNsRelease_found h hn z occupied normal dw found).trans (congrArg _ (State.check_of (by simp [owned, normalNs, idle])))
  · exact execNsAssign_absent h hn z occupied absent dw
  · exact execNsRelease_absent h hn z occupied absent dw
  · exact ⟨_, execWipe_service r service, rfl⟩
  · obtain ⟨j, rfl⟩ : ∃ j, k = j + 1 := ⟨k - 1, by omega⟩
    rw [Nat.add_sub_cancel, s.resetSlices_one (by omega)]
    exact State.resetCtrl_resets (s := s.took) exist idle going

end Sys2Proof.Machine

namespace Sys2Proof.Machine

/-! ## The start of firmware (R204, R420, R438) -/

/-- The phase of the unit with the codes still noted for the next start. -/
def State.bootNotes (s : State) : Phase × List (Nat × List Nat) := (s.pwr.phase, s.pwr.latched)

section
variable (s : State)

theorem State.log_bootNotes (code : Nat) (ps : List Nat) : (s.log code ps).bootNotes = s.bootNotes := by
  simp [State.bootNotes]

theorem State.each_log_bootNotes {α : Type} (l : List α) (code : α → Nat) (ps : α → List Nat) : (s.each l (fun s a => s.log (code a) (ps a))).bootNotes = s.bootNotes :=
  State.each_same (fun s _ => s.log_bootNotes _ _) s l

theorem State.loadSettings_bootNotes : s.loadSettings.bootNotes = s.bootNotes := by
  unfold State.loadSettings
  dsimp only
  split
  · rfl
  · exact State.log_bootNotes ..

theorem State.applySaved_bootNotes : s.applySaved.bootNotes = s.bootNotes := by
  unfold State.applySaved
  extract_lets _ room _ timers power
  have hroom : room.bootNotes = s.bootNotes := by
    unfold room
    split <;> rfl
  have htimers : timers.bootNotes = room.bootNotes := by
    unfold timers
    split <;> rfl
  have hpower : power.bootNotes = timers.bootNotes := by
    unfold power
    split
    · split
      · exact State.each_same (π := State.bootNotes) (fun _ _ => by rfl) ..
      · rfl
    · rfl
  have saved : power.bootNotes = s.bootNotes := hpower.trans (htimers.trans hroom)
  split
  · refine (State.each_same (fun _ _ => by rfl) ..).trans <| (State.each_same (fun _ _ => by rfl) ..).trans <|
      (State.each_same (fun _ _ => by rfl) ..).trans saved
  · exact saved

/-- A start of firmware runs the unit and has taken every noted code before it sets up the first controllers. -/
theorem firmwareGo_starts : ∃ u : State, execFirmwareStart.go s = u.firstCtrls.phaseEnds 2 ∧ u.bootNotes = (.run, []) := by
  refine ⟨_, rfl, ?_⟩
  refine (State.applySaved_bootNotes _).trans <| (State.loadSettings_bootNotes _).trans <| (State.each_log_bootNotes ..).trans ?_
  split
  · exact (State.log_bootNotes ..).trans (State.each_log_bootNotes ..)
  · exact State.each_log_bootNotes ..

variable {s}

theorem execFirmwareStart_compatible (trained : s.pwr.phase = .trained) (fits : s.incompatible s.fw.running = none) :
    execFirmwareStart s = .next (execFirmwareStart.go s) := by
  simp only [execFirmwareStart, trained, fits, ne_eq, not_true_eq_false, if_false]

/-! ### The started point -/

theorem execStartedPoint_marks (run : s.pwr.phase = .run) (fresh : s.fw.started = false) (ended : s.censusEnded = true) (going : s.io.paused = false) :
    execStartedPoint s = .next { s.writeBoot (fun b => { b with active := s.fw.running, fails := 0 }) with
      fw.started := true, fw.fails := 0 } :=
  if_neg (by simp [run, fresh, ended, going])

end

/-! ## The census of a pool (R195, R200, R398) -/

section
variable (s : State)

/-- The end of admission is noted among the times of the start and takes a free value; all else stays. -/
theorem State.admissionEnds_rest : s.admissionEnds = { s with free := s.admissionEnds.free, fw := s.admissionEnds.fw } := by
  unfold State.admissionEnds
  split <;> rfl

@[simp] theorem State.admissionEnds_pool (p : Nat) : s.admissionEnds.pool p = s.pool p := by
  rw [State.admissionEnds_rest]
  rfl

@[simp] theorem State.admissionEnds_slot (n : Nat) : s.admissionEnds.slot n = s.slot n := by
  rw [State.admissionEnds_rest]
  rfl

@[simp] theorem State.admissionEnds_foundIn (serial : Nat) : s.admissionEnds.foundIn serial = s.foundIn serial := by
  rw [State.admissionEnds_rest]
  rfl

theorem State.log_pool (code : Nat) (ps : List Nat) (p : Nat) : (s.log code ps).pool p = s.pool p := by
  simp [State.pool]

/-- The slots in which a census finds members of the root that are not failed already (R195). -/
def State.censusFound (g : RootGen) : List Nat := (g.members.filter (fun m => m.st ≠ 2)).filterMap (fun m => s.foundIn m.serial)

/-- Those of them that gave the pool's root (R195). -/
def State.censusRoots (v : CensusReads) (g : RootGen) : List Nat := (s.censusFound g).filter (fun n => (s.slot n).st = .admitted && !v.roots.contains n)

/-- Whether the map of the root's pool fits DRAM beside the pools already ready (R398). -/
def State.mapFits (p : Nat) (g : RootGen) : Bool :=
  (s.censusView g).dramFits p { cls := g.cls } (g.members.filter (fun m => m.st ≠ 2)).length g.n g.logPm

/-- A pool whose map does not fit is held; its record gives the size of the map and of the DRAM that maps may take (R398). -/
def State.holdLarge (p : Nat) (g : RootGen) : State :=
  let want : Pool := { cls := g.cls }
  let carts := (g.members.filter (fun m => m.st ≠ 2)).length
  (s.holdPool p (s.censusFound g)).log 0x0905 [0xFF, p, mapBytes (want.allBlocks carts) g.n (want.logCap carts g.logPm), 3 * s.dramBytes / 4]

theorem State.holdLarge_pool (p : Nat) (g : RootGen) : (s.holdLarge p g).pool p = (s.holdPool p (s.censusFound g)).pool p := State.log_pool ..

variable {s} {g : RootGen} {v : CensusReads} {n p : Nat}

theorem State.mem_censusFound : n ∈ s.censusFound g ↔ ∃ m ∈ g.members, m.st ≠ 2 ∧ s.foundIn m.serial = some n := by
  simp [State.censusFound, and_assoc]

theorem State.mem_censusRoots : n ∈ s.censusRoots v g ↔ n ∈ s.censusFound g ∧ (s.slot n).st = .admitted ∧ n ∉ v.roots := by
  simp [State.censusRoots]

theorem State.admissionEnds_censusFound : s.admissionEnds.censusFound g = s.censusFound g := by
  simp [State.censusFound]

theorem State.admissionEnds_censusRoots : s.admissionEnds.censusRoots v g = s.censusRoots v g := by
  simp [State.censusRoots, State.admissionEnds_censusFound]

section
variable (run : s.pwr.phase = .run) (hp : p < 4) (on : s.coreOn = true) (settled : s.slotsSettled = true)
include run hp on settled

theorem execCensus_awaitsNone (none_awaited : (s.pool p).pstate ≠ 1 ∨ (s.pool p).root = none) : execCensus p v s = .next s.admissionEnds.startDone := by
  have none_root : (if (s.pool p).pstate = 1 then (s.pool p).root else none) = none := by
    rcases none_awaited with other | rootless
    · exact if_neg other
    · rw [rootless, ite_self]
  simp [execCensus, run, hp, on, settled, none_root]

variable (waits : (s.pool p).pstate = 1) (root : (s.pool p).root = some g)
include waits root

theorem execCensus_awaited : execCensus p v s =
    if s.censusFound g = [] then .next ((s.admissionEnds.modPool p (fun q => { q with pstate := 0, exist := false })).censusEnd p)
    else if s.censusRoots v g = [] then
      .next (((s.admissionEnds.holdPool p (s.censusFound g)).log 0x0125 [p, (s.censusFound g).length]).censusEnd p)
    else if s.admissionEnds.mapFits p g then .next ((s.admissionEnds.assemble v p g).censusEnd p)
    else .next ((s.admissionEnds.holdLarge p g).censusEnd p) := by
  have awaited : (if (s.pool p).pstate = 1 then (s.pool p).root else none) = some g := (if_pos waits).trans root
  rw [execCensus, if_neg (by simp [run, hp, on, settled]), ← State.admissionEnds_censusFound, ← State.admissionEnds_censusRoots]
  simp only [State.admissionEnds_pool, awaited, ← List.isEmpty_iff]
  rfl

theorem execCensus_absent (gone : ∀ m ∈ g.members, s.foundIn m.serial = none) :
    execCensus p v s = .next ((s.admissionEnds.modPool p (fun q => { q with pstate := 0, exist := false })).censusEnd p) := by
  have empty : s.censusFound g = [] := List.eq_nil_iff_forall_not_mem.mpr fun n hn => by
    obtain ⟨m, hm, -, found⟩ := State.mem_censusFound.mp hn
    simp [gone m hm] at found
  rw [execCensus_awaited run hp on settled waits root, if_pos empty]

variable (found : ∃ m ∈ g.members, m.st ≠ 2 ∧ s.foundIn m.serial = some n)
include found

theorem execCensus_unread (unread : ∀ m ∈ g.members, ∀ k, s.foundIn m.serial = some k → (s.slot k).st = .admitted → k ∈ v.roots) :
    execCensus p v s = .next (((s.admissionEnds.holdPool p (s.censusFound g)).log 0x0125 [p, (s.censusFound g).length]).censusEnd p) := by
  have rootless : s.censusRoots v g = [] := List.eq_nil_iff_forall_not_mem.mpr fun k hk => by
    obtain ⟨listed, admitted, readable⟩ := State.mem_censusRoots.mp hk
    obtain ⟨m, hm, -, at_slot⟩ := State.mem_censusFound.mp listed
    exact readable (unread m hm k at_slot admitted)
  rw [execCensus_awaited run hp on settled waits root, if_neg (List.ne_nil_of_mem (State.mem_censusFound.mpr found)), if_pos rootless]

theorem execCensus_read (admitted : (s.slot n).st = .admitted) (readable : n ∉ v.roots) : execCensus p v s =
    if s.admissionEnds.mapFits p g then .next ((s.admissionEnds.assemble v p g).censusEnd p)
    else .next ((s.admissionEnds.holdLarge p g).censusEnd p) := by
  have listed : n ∈ s.censusFound g := State.mem_censusFound.mpr found
  have rooted : n ∈ s.censusRoots v g := State.mem_censusRoots.mpr ⟨listed, admitted, readable⟩
  rw [execCensus_awaited run hp on settled waits root, if_neg (List.ne_nil_of_mem listed), if_neg (List.ne_nil_of_mem rooted)]

end

end

/-- Settles O19: a start of firmware has the phase and the notes of `firmwareGo_starts`; a census is decided by the members it finds and the roots they give (`execCensus_awaited`). -/
theorem startOfFirmwareAndItsPoints : Obligations.StartOfFirmwareAndItsPoints := by
  unfold Obligations.StartOfFirmwareAndItsPoints
  refine ⟨fun s trained fits => ?_, fun p v s run hp on settled none_awaited => execCensus_awaitsNone run hp on settled none_awaited,
    fun p v g s run hp on settled waits root gone => ?_, fun p n v g s run hp on settled waits root found admitted readable fits => ?_,
    fun p n v g s run hp on settled waits root found admitted readable large => ?_,
    fun p n v g s run hp on settled waits root found unread => execCensus_unread run hp on settled waits root found unread,
    fun s run fresh ended going => ⟨_, _, execStartedPoint_marks run fresh ended going, rfl, rfl, rfl, rfl, rfl, rfl⟩⟩
  · obtain ⟨u, go, notes⟩ := firmwareGo_starts s
    obtain ⟨phase, latched⟩ := Prod.mk.inj notes
    exact ⟨u, (execFirmwareStart_compatible trained fits).trans (congrArg _ go), phase, latched⟩
  · refine ⟨_, execCensus_absent run hp on settled waits root gone, ?_, ?_, fun q other => ?_, rfl⟩
    · rw [State.modPool_self]
    · rw [State.modPool_self]
    · rw [State.modPool_other _ _ _ _ other, State.admissionEnds_pool]
  · exact (execCensus_read run hp on settled waits root found admitted readable).trans (if_pos fits)
  · refine ⟨_, (execCensus_read run hp on settled waits root found admitted readable).trans (if_neg (ne_true_of_eq_false large)), ?_⟩
    rw [State.holdLarge_pool, State.admissionEnds_censusFound]
    rfl

end Sys2Proof.Machine

namespace Sys2Proof.Machine

/-! ## Queues of PCIe controllers, keep-alive and event requests (R277, R302, R304, R305) -/

/-- A command that changes its controller and is answered changes no other controller, and nothing outside intake and queues. -/
theorem State.modCtrl_answered (s : State) (n : Nat) (f : Ctrl → Ctrl) (id : CmdId) (st : Status) (a b : Nat) (d : List Byte) :
    ((s.modCtrl n f).post id st a b d).ctrl n = f (s.ctrl n) ∧ ((s.modCtrl n f).post id st a b d).lastAnswer = some (id, st) ∧
      (∀ k, k ≠ n → ((s.modCtrl n f).post id st a b d).ctrl k = s.ctrl k) ∧ (s.modCtrl n f).post id st a b d = { s with io := ((s.modCtrl n f).post id st a b d).io } :=
  ⟨s.modCtrl_self n f, State.post_lastAnswer .., fun k hk => s.modCtrl_other n k f hk, rfl⟩

section
variable {c : Cmd} {s : State} (h : s.readyFor false c = true)
include h

/-- Only PCIe controllers have queue commands. -/
theorem exec_queueCommand_fabric {i : Instr} (hi : i ∈ [Instr.createIoCompletionQueue c, .createIoSubmissionQueue c, .deleteIoCompletionQueue c, .deleteIoSubmissionQueue c])
    (fabric : (s.ctrl c.id.ctrl).pcie = false) : exec i s = .next (s.refuse c .invalidOpcode) := by
  simp only [List.mem_cons, List.not_mem_nil, or_false] at hi
  rcases hi with rfl | rfl | rfl | rfl
  · exact (adminCmd_ready h : execCreateIoCompletionQueue c s = _).trans (congrArg _ (if_pos fabric))
  · exact (adminCmd_ready h : execCreateIoSubmissionQueue c s = _).trans (congrArg _ (if_pos fabric))
  · exact (adminCmd_ready h : execDeleteIoCompletionQueue c s = _).trans (congrArg _ (if_pos fabric))
  · exact (adminCmd_ready h : execDeleteIoSubmissionQueue c s = _).trans (congrArg _ (if_pos fabric))

theorem execKeepAlive_ready : execKeepAlive c s = .next (if s.io.paused then s.putOff (.keepAlive c) else s.post c.id .success) := adminCmd_ready h

theorem execAbort_ready : execAbort c s = .next (s.post c.id .success 1) := adminCmd_ready h

theorem execAsynchronousEventRequest_full (full : 16 ≤ (s.ctrl c.id.ctrl).aers.length) : execAsynchronousEventRequest c s = .next (s.refuse c .aerLimit) :=
  (adminCmd_ready h).trans (congrArg _ (if_pos full))

section
variable (room : (s.ctrl c.id.ctrl).aers.length < 16)
include room

theorem execAsynchronousEventRequest_waits (none_waits : (s.ctrl c.id.ctrl).aens = []) :
    execAsynchronousEventRequest c s = .next (s.modCtrl c.id.ctrl (fun k => { k with aers := k.aers ++ [c.id] })) := by
  refine (adminCmd_ready h).trans (congrArg _ ?_)
  rw [if_neg (Nat.not_le.mpr room), none_waits]

theorem execAsynchronousEventRequest_takes {e : Aen} {rest : List Aen} (waits : (s.ctrl c.id.ctrl).aens = e :: rest) :
    execAsynchronousEventRequest c s = .next ((s.modCtrl c.id.ctrl (fun k => { k with aens := rest })).post c.id .success (e.typ + 256 * e.info + 65536 * e.page)) := by
  refine (adminCmd_ready h).trans (congrArg _ ?_)
  rw [if_neg (Nat.not_le.mpr room), waits]

end

variable (pcie : (s.ctrl c.id.ctrl).pcie = true)
include pcie

theorem execCreateIoCompletionQueue_pcie : execCreateIoCompletionQueue c s = .next (
    if dw10 c % 65536 = 0 ∨ (s.ctrl c.id.ctrl).cqs.contains (dw10 c % 65536) then s.refuse c .invalidQid
    else if dw10 c / 65536 = 0 ∨ dw10 c / 65536 > 4095 then s.refuse c .invalidQsize
    else s.check c ((dw11 c).testBit 0) (fun s => (s.modCtrl c.id.ctrl (fun k => { k with cqs := k.cqs ++ [dw10 c % 65536] })).post c.id .success)) :=
  (adminCmd_ready h).trans (congrArg _ (if_neg (ne_false_of_eq_true pcie)))

theorem execCreateIoSubmissionQueue_pcie : execCreateIoSubmissionQueue c s = .next (
    if dw10 c % 65536 = 0 ∨ (s.ctrl c.id.ctrl).sqs.any (fun q => q.1 = dw10 c % 65536) ∨ !(s.ctrl c.id.ctrl).cqs.contains (dw11 c / 65536) then s.refuse c .invalidQid
    else if dw10 c / 65536 = 0 ∨ dw10 c / 65536 > 4095 then s.refuse c .invalidQsize
    else s.check c ((dw11 c).testBit 0) (fun u =>
      if u.contextFree (s.ctrl c.id.ctrl).tenant = false then u.refuse c (.vendor 0x83)
      else (u.modCtrl c.id.ctrl (fun k => { k with sqs := k.sqs ++ [(dw10 c % 65536, dw11 c / 65536)] })).post c.id .success)) :=
  (adminCmd_ready h).trans (congrArg _ (if_neg (ne_false_of_eq_true pcie)))

theorem execDeleteIoCompletionQueue_pcie : execDeleteIoCompletionQueue c s = .next (
    if dw10 c % 65536 = 0 ∨ !(s.ctrl c.id.ctrl).cqs.contains (dw10 c % 65536) then s.refuse c .invalidQid
    else if (s.ctrl c.id.ctrl).sqs.any (fun q => q.2 = dw10 c % 65536) then s.refuse c .invalidQdel
    else (s.modCtrl c.id.ctrl (fun k => { k with cqs := k.cqs.filter (fun q => q ≠ dw10 c % 65536) })).post c.id .success) :=
  (adminCmd_ready h).trans (congrArg _ (if_neg (ne_false_of_eq_true pcie)))

theorem execDeleteIoSubmissionQueue_found (named : dw10 c % 65536 ≠ 0) (found : (s.ctrl c.id.ctrl).sqs.any (fun q => q.1 = dw10 c % 65536) = true) :
    execDeleteIoSubmissionQueue c s = .next (if s.io.paused then s.putOff (.sqDel c) else s.deleteSq c (dw10 c % 65536)) := by
  refine (adminCmd_ready h).trans (congrArg _ ?_)
  rw [if_neg (ne_false_of_eq_true pcie), if_neg (by simp only [found]; simpa using named)]

/-- A submission queue of its own number, on a completion queue that there is. -/
theorem execCreateIoSubmissionQueue_sized (named : dw10 c % 65536 ≠ 0) (fresh : (s.ctrl c.id.ctrl).sqs.all (fun q => q.1 ≠ dw10 c % 65536) = true)
    (cq : (s.ctrl c.id.ctrl).cqs.contains (dw11 c / 65536) = true) (least : 1 ≤ dw10 c / 65536) (most : dw10 c / 65536 ≤ 4095) (contiguous : (dw11 c).testBit 0 = true) :
    execCreateIoSubmissionQueue c s = .next (
      if s.contextFree (s.ctrl c.id.ctrl).tenant = false then s.refuse c (.vendor 0x83)
      else (s.modCtrl c.id.ctrl (fun k => { k with sqs := k.sqs ++ [(dw10 c % 65536, dw11 c / 65536)] })).post c.id .success) := by
  have unique : (s.ctrl c.id.ctrl).sqs.any (fun q => q.1 = dw10 c % 65536) = false := by simpa using fresh
  rw [execCreateIoSubmissionQueue_pcie h pcie, if_neg (by simp only [unique, cq]; simpa using named), if_neg (by omega), State.check_of contiguous]

end

/-! ### Deletions of submission queues that have drained (R302) -/

/-- With no command in flight a queue's deletion is noted, and only the upkeep of the media runs before it is answered. -/
theorem State.deleteSq_idle {s : State} (c : Cmd) (qid : Nat) (idle : s.io.flights = []) :
    s.deleteSq c qid = (s.modCtrl c.id.ctrl (fun k => { k with sqDels := k.sqDels ++ [(qid, c.id)] })).settle.settleSqDels c.id.ctrl := by
  have none_flies : (s.modCtrl c.id.ctrl (fun k => { k with sqDels := k.sqDels ++ [(qid, c.id)] })).io.flights = [] := idle
  simp only [State.deleteSq, State.drainWhere, none_flies, List.filter_nil, List.map_nil, State.each_nil, if_true]

/-- A deletion whose queue has no command left is answered, and the queue is gone. -/
theorem State.settleSqDels_one {s : State} {k qid : Nat} {id : CmdId} (noted : (s.ctrl k).sqDels = [(qid, id)]) (gone : ∀ f ∈ s.io.flights, f.c.id.ctrl ≠ k ∨ f.c.id.sq ≠ qid) :
    (s.settleSqDels k).lastAnswer = some (id, .success) ∧
      (s.settleSqDels k).ctrl k = { s.ctrl k with sqDels := [], sqs := (s.ctrl k).sqs.filter (fun q => q.1 ≠ qid), tails := (s.ctrl k).tails.filter (fun q => q.1 ≠ qid) } := by
  have drained : s.io.flights.any (fun f => f.c.id.ctrl = k && f.c.id.sq = qid) = false := by
    simpa [imp_iff_not_or] using gone
  have one : s.settleSqDels k = _ := congrArg (s.each · _) noted
  rw [one]
  refine ⟨?_, ?_⟩
  · simp only [State.each, List.foldl_cons, List.foldl_nil, drained, Bool.false_eq_true, if_false, State.post_lastAnswer]
  · simp only [State.each, List.foldl_cons, List.foldl_nil, drained, Bool.false_eq_true, if_false, State.post_ctrl]
    refine (s.modCtrl_self k _).trans ?_
    simp [noted]

/-! ### Fabrics commands (R270, R277, R287, R299) -/

theorem State.onFabric_idle {c : Cmd} {s : State} (on : s.onFabric c = true) : (s.ctrl c.id.ctrl).resetting = false := by
  simp only [State.onFabric, Bool.and_eq_true, Bool.not_eq_true'] at on
  exact on.2

theorem authFirst_passed {c : Cmd} {s : State} {f : State → State} (auth : (s.ctrl c.id.ctrl).authReq = false ∨ (s.ctrl c.id.ctrl).authed = true) : authFirst c s f = f s :=
  if_neg (by rcases auth with auth | auth <;> simp [auth])

theorem exec_fabricsCommand_elsewhere {i : Instr} {c : Cmd} {ok : Bool} {s : State}
    (hi : i ∈ [Instr.authenticationSend c, .authenticationReceive c ok, .propertySet c, .propertyGet c, .disconnect c]) (off : s.onFabric c = false) (taken : s.accepts c = true) :
    exec i s = .next (s.refuse c .invalidOpcode) := by
  have refused (f : State → State) : fabricCmd c s f = .next (s.refuse c .invalidOpcode) := by
    rw [fabricCmd, if_neg (ne_true_of_eq_false off), if_pos taken]
  simp only [List.mem_cons, List.not_mem_nil, or_false] at hi
  rcases hi with rfl | rfl | rfl | rfl | rfl
  · exact (refused _ : execAuthenticationSend c s = _)
  · exact (refused _ : execAuthenticationReceive c ok s = _)
  · exact (refused _ : execPropertySet c s = _)
  · exact (refused _ : execPropertyGet c s = _)
  · exact (refused _ : execDisconnect c s = _)

/-- A notification of neither form of shutdown changes nothing (R300). -/
theorem State.shutdownCtrl_none (s : State) (k : Nat) : s.shutdownCtrl k 0 = s := if_pos (by simp)

/-- `CC.EN` rises on a controller that is neither ready nor in a reset (R299). -/
theorem State.writeCc_enables {s : State} {k v : Nat} (enables : v.testBit 0 = true) (shn : field v 15 14 = 0)
    (en : (s.ctrl k).en = false) (rdy : (s.ctrl k).rdy = false) (idle : (s.ctrl k).resetting = false) :
    s.writeCc k v = s.modCtrl k (fun k => { k with en := true, rdy := true, shn := 0, shst := 0, resetCause := 0 }) := by
  simp only [State.writeCc, enables, en, rdy, idle, shn, State.shutdownCtrl_none, Bool.true_eq_false, Bool.false_eq_true, not_false_eq_true, and_self, if_false, if_true]

section
variable {c : Cmd} {s : State} (on : s.onFabric c = true) (awake : s.pwr.sleep = .active) (full : (s.ctrl c.id.ctrl).ps = 0)
include on awake full

theorem fabricCmd_on (f : State → State) : fabricCmd c s f = .next (f s) := by
  rw [fabricCmd, if_pos on, State.cmdArrives, if_pos ⟨awake, full⟩]

theorem execAuthenticationSend_on : execAuthenticationSend c s = .next (s.post c.id .success) := fabricCmd_on on awake full _

theorem execAuthenticationReceive_passed :
    execAuthenticationReceive c true s = .next ((s.modCtrl c.id.ctrl (fun k => { k with authed := true })).post c.id .success) := fabricCmd_on on awake full _

theorem execAuthenticationReceive_failed : execAuthenticationReceive c false s =
    .next ((s.log 0x0A20 [Config.nqnHash (s.ctrl c.id.ctrl).hostNqn % 2 ^ 64, (s.ctrl c.id.ctrl).tenant]).loseAssoc c.id.ctrl 3) := fabricCmd_on on awake full _

theorem exec_fabricsCommand_unauthenticated {i : Instr} (hi : i ∈ [Instr.propertySet c, .propertyGet c, .disconnect c])
    (req : (s.ctrl c.id.ctrl).authReq = true) (unauthed : (s.ctrl c.id.ctrl).authed = false) : exec i s = .next (s.refuse c .authentication) := by
  have refused (f : State → State) : fabricCmd c s (fun s => authFirst c s f) = .next (s.refuse c .authentication) :=
    (fabricCmd_on on awake full _).trans (congrArg _ (if_pos (by simp [req, unauthed])))
  simp only [List.mem_cons, List.not_mem_nil, or_false] at hi
  rcases hi with rfl | rfl | rfl
  · exact (refused _ : execPropertySet c s = _)
  · exact (refused _ : execPropertyGet c s = _)
  · exact (refused _ : execDisconnect c s = _)

variable (auth : (s.ctrl c.id.ctrl).authReq = false ∨ (s.ctrl c.id.ctrl).authed = true)
include auth

theorem fabricCmd_authed (f : State → State) : fabricCmd c s (fun s => authFirst c s f) = .next (f s) :=
  (fabricCmd_on on awake full _).trans (congrArg _ (authFirst_passed auth))

theorem execPropertySet_authed :
    execPropertySet c s = .next (if dw11 c = 0x14 then (s.post c.id .success).writeCc c.id.ctrl (dw12 c) else s.refuse c .invalidField) :=
  fabricCmd_authed on awake full auth _

theorem execPropertyGet_authed : execPropertyGet c s = .next (
    if ([0x00, 0x08, 0x14, 0x1C] : List Nat).contains (dw11 c) then
      s.post c.id .success (s.property c.id.ctrl (dw11 c) % 2 ^ 32) (s.property c.id.ctrl (dw11 c) / 2 ^ 32)
    else s.refuse c .invalidField) :=
  fabricCmd_authed on awake full auth _

theorem execDisconnect_authed : execDisconnect c s = .next (
    if c.id.sq = 0 then ((s.post c.id .success).closeConns c.id.ctrl).resetCtrl c.id.ctrl 3
    else if s.io.paused then s.putOff (.sqDel c)
    else s.deleteSq c c.id.sq) :=
  fabricCmd_authed on awake full auth _

end

theorem State.closeConns_closed (s : State) (k : Nat) : ∀ x ∈ (s.closeConns k).host.conns, x.ctrl ≠ some k := fun x hx => by
  simpa using (List.mem_filter.mp hx).2

/-! ### Connects (R301, R311, R323, R328) -/

/-- A connection becomes queue `qid` of controller `k`. -/
def State.bindConn (s : State) (conn qid k : Nat) : State :=
  { s with host.conns := s.host.conns.map (fun x => if x.id = conn then { x with ctrl := some k, qid := qid } else x) }

theorem State.bindConn_bound (s : State) (conn qid k : Nat) : ∀ x ∈ (s.bindConn conn qid k).host.conns, x.id = conn → x.ctrl = some k ∧ x.qid = qid := by
  intro x hx named
  obtain ⟨y, -, rfl⟩ := List.mem_map.mp hx
  split at named
  · next same => simp only [same, if_true, and_self]
  · next other => exact absurd named other

/-- The controller that an admin Connect of `host` to `t` makes: a discovery controller where `t` names no tenant. -/
def State.madeCtrl (s : State) (t : Option Nat) (host : Nat) : Ctrl :=
  let need := match t with | some 0 => true | some t => (s.tenant t).flags.testBit 0 | none => false
  { exist := true, kind := if t.isSome then .fabric else .discovery, tenant := t.getD 0, hostNqn := host, authReq := need, authed := !need }

/-- The state with that controller under the next free number. -/
def State.makeCtrl (s : State) (t : Option Nat) (host : Nat) : State :=
  ({ s with io.nextCtrl := ctrlAfter s.newCtrl } : State).modCtrl s.newCtrl (fun _ => s.madeCtrl t host)

theorem State.makeCtrl_self (s : State) (t : Option Nat) (host : Nat) : (s.makeCtrl t host).ctrl s.newCtrl = s.madeCtrl t host := State.modCtrl_self ..

theorem State.makeCtrl_other (s : State) (t : Option Nat) (host : Nat) {k : Nat} (h : k ≠ s.newCtrl) : (s.makeCtrl t host).ctrl k = s.ctrl k :=
  ({ s with io.nextCtrl := ctrlAfter s.newCtrl } : State).modCtrl_other _ k _ h

theorem any_false_of_all {t : Option Nat} {f : Nat → Bool} (h : t.all f = true) : t.any (fun t => f t = false) = false := by
  cases t with
  | none => rfl
  | some t => simpa using h

section
variable {c : Cmd} {r : ConnectReq} {s : State} {t : Option Nat}

theorem State.serveConnect_unknown (unknown : s.subsystem r.subNqn = none) : s.serveConnect c r = s.dropConn r.conn := by
  rw [State.serveConnect, unknown]

theorem State.serveConnect_held (named : s.subsystem r.subNqn = some t) (held : s.connectHeld t r.hostNqn = true) :
    s.serveConnect c r = { s with io.heldConnects := s.io.heldConnects ++ [(c, r)] } := by
  rw [State.serveConnect, named]
  exact if_pos held

section
variable (named : s.subsystem r.subNqn = some t) (free : s.connectHeld t r.hostNqn = false)
include named free

theorem State.serveConnect_unlisted (unlisted : t.any (fun t => s.listed t r.hostNqn = false) = true) : s.serveConnect c r = s.dropConn r.conn := by
  rw [State.serveConnect, named]
  dsimp only
  rw [if_neg (ne_true_of_eq_false free), if_pos unlisted]

variable (listed : t.all (fun t => s.listed t r.hostNqn) = true) (least : 1 ≤ r.depth) (most : r.depth ≤ 4096)
include listed least most

theorem State.serveConnect_full (taken : t.any (fun t => s.contextFree t = false) = true) : s.serveConnect c r = s.refuse c (.vendor 0x83) := by
  rw [State.serveConnect, named]
  dsimp only
  rw [if_neg (ne_true_of_eq_false free), if_neg (ne_true_of_eq_false (any_false_of_all listed)), if_neg (by omega), if_pos taken]

variable (room : t.all (fun t => s.contextFree t) = true)
include room

theorem State.serveConnect_admin (admin : r.qid = 0) :
    s.serveConnect c r = ((s.makeCtrl t r.hostNqn).bindConn r.conn r.qid s.newCtrl).post c.id .success s.newCtrl := by
  rw [State.serveConnect, named]
  dsimp only
  rw [if_neg (ne_true_of_eq_false free), if_neg (ne_true_of_eq_false (any_false_of_all listed)), if_neg (by omega), if_neg (ne_true_of_eq_false (any_false_of_all room)), if_pos admin]
  rfl

theorem State.serveConnect_io (io : r.qid ≠ 0) (exist : (s.ctrl r.cntlid).exist = true) (host : (s.ctrl r.cntlid).hostNqn = r.hostNqn) (kind : (s.ctrl r.cntlid).kind = .fabric)
    (tenant : t = some (s.ctrl r.cntlid).tenant) (rdy : (s.ctrl r.cntlid).rdy = true) (idle : (s.ctrl r.cntlid).resetting = false) (fresh : ∀ q ∈ (s.ctrl r.cntlid).sqs, q.1 ≠ r.qid) :
    s.serveConnect c r =
      ((s.modCtrl r.cntlid (fun k => { k with sqs := k.sqs ++ [(r.qid, r.qid)] })).bindConn r.conn r.qid r.cntlid).post c.id .success r.cntlid := by
  have unique : (s.ctrl r.cntlid).sqs.any (fun q => q.1 = r.qid) = false := by simpa using fresh
  rw [State.serveConnect, named]
  dsimp only
  rw [if_neg (ne_true_of_eq_false free), if_neg (ne_true_of_eq_false (any_false_of_all listed)), if_neg (by omega), if_neg (ne_true_of_eq_false (any_false_of_all room)), if_neg io,
    if_neg (by simp [exist, host, kind, tenant, rdy, idle, unique])]
  rfl

end

/-- The connections after a Connect's arrival: on RoCEv2 its queue pair comes with it (R262). -/
def State.connected (s : State) (r : ConnectReq) : State :=
  if r.rdma ∧ s.serves r.port r.entry 1 ∧ !(s.host.conns.any (fun x => x.id = r.conn)) then
    { s with host.conns := s.host.conns ++ [{ id := r.conn, port := r.port, entry := r.entry, rdma := true }] } else s

/-- A Connect on a connection that has no controller yet is served. -/
theorem execConnect_waits (run : s.pwr.phase = .run) (waits : (s.connected r).host.conns.any (fun x => x.id = r.conn ∧ x.ctrl.isNone) = true) :
    execConnect c r s = .next ((s.connected r).serveConnect c r) := by
  rw [execConnect, if_neg (not_not.mpr run)]
  exact if_pos waits

theorem State.connected_open (waits : s.host.conns.any (fun x => x.id = r.conn ∧ x.ctrl.isNone) = true) : s.connected r = s := by
  have known : s.host.conns.any (fun x => x.id = r.conn) = true := by
    obtain ⟨x, hx, named⟩ := List.any_eq_true.mp waits
    exact List.any_eq_true.mpr ⟨x, hx, by simpa using (of_decide_eq_true named).1⟩
  refine if_neg ?_
  rw [known]
  simp

theorem State.connected_queuePair (rdma : r.rdma = true) (served : s.serves r.port r.entry 1 = true) (fresh : ∀ x ∈ s.host.conns, x.id ≠ r.conn) :
    s.connected r = { s with host.conns := s.host.conns ++ [{ id := r.conn, port := r.port, entry := r.entry, rdma := true }] } :=
  if_pos ⟨rdma, served, by simpa using fresh⟩

theorem execConnect_open (run : s.pwr.phase = .run) (waits : s.host.conns.any (fun x => x.id = r.conn ∧ x.ctrl.isNone) = true) :
    execConnect c r s = .next (s.serveConnect c r) := by
  have same := State.connected_open waits
  rw [execConnect_waits run (same.symm ▸ waits), same]

theorem execConnect_queuePair (run : s.pwr.phase = .run) (rdma : r.rdma = true) (served : s.serves r.port r.entry 1 = true) (fresh : ∀ x ∈ s.host.conns, x.id ≠ r.conn) :
    execConnect c r s =
      .next (({ s with host.conns := s.host.conns ++ [{ id := r.conn, port := r.port, entry := r.entry, rdma := true }] } : State).serveConnect c r) := by
  have comes := State.connected_queuePair rdma served fresh
  rw [execConnect_waits run (by simp [comes]), comes]

end

/-- Settles O37: a ready queue command is its checks and one change of its controller (`State.modCtrl_answered`); fabrics commands reach a fabric controller alone (`fabricCmd_on`);
a Connect binds its connection (`State.bindConn_bound`) to the controller it makes or names. -/
theorem queueAndFabricsCommandsAnswer : Obligations.QueueAndFabricsCommandsAnswer := by
  unfold Obligations.QueueAndFabricsCommandsAnswer
  refine ⟨fun c s h pcie named fresh least most contiguous => ?_, fun c s h pcie named fresh cq least most contiguous room => ?_, fun c s h pcie named found unused => ?_,
    fun c s h pcie named found going idle => ?_, fun k qid id s noted gone => ?_, fun c s h going => ?_, fun c s h => ?_, fun c s h room none_waits => ?_, fun c e rest s h room waits => ?_,
    fun c s on awake full => ⟨_, execAuthenticationSend_on on awake full, State.post_lastAnswer .., rfl⟩, fun c s on awake full => ?_,
    fun c s on awake full authed cc enables shn en rdy => ?_, fun c s on awake full authed off => ?_, fun c s on awake full auth admin => ?_,
    fun c r t s run tcp waits subsystem free listed least most room admin => ?_, fun i c s hi h fabric => exec_queueCommand_fabric h hi fabric,
    fun c s h pcie bad => (execCreateIoCompletionQueue_pcie h pcie).trans (congrArg _ (if_pos bad)), fun c s h pcie named fresh size => ?_, fun c s h pcie bad => ?_,
    fun c s h pcie named fresh cq least most contiguous taken => ?_, fun c s h pcie named found used => ?_, fun c s h pcie named found => execDeleteIoSubmissionQueue_found h pcie named found,
    fun c s h paused => (execKeepAlive_ready h).trans (congrArg _ (if_pos paused)), fun c s h full => execAsynchronousEventRequest_full h full,
    fun c s on awake full => execAuthenticationReceive_failed on awake full, fun i c s hi on awake full req unauthed => exec_fabricsCommand_unauthenticated on awake full hi req unauthed,
    fun i c ok s hi off taken => exec_fabricsCommand_elsewhere hi off taken, fun c s on awake full auth => execPropertySet_authed on awake full auth,
    fun c s on awake full auth off => ?_, fun c s on awake full auth io => (execDisconnect_authed on awake full auth).trans (congrArg _ (if_neg io)),
    fun c r s run waits => execConnect_open run waits, fun c r s u run rdma served fresh hu => ?_, fun c r s => ⟨State.serveConnect_unknown, fun t => State.serveConnect_held, ?_, ?_⟩,
    fun c r t s run waits subsystem free listed least most room io exist host kind tenant rdy idle fresh => ?_⟩
  · obtain ⟨made, rest⟩ := s.modCtrl_answered c.id.ctrl (fun k => { k with cqs := k.cqs ++ [dw10 c % 65536] }) c.id .success 0 0 []
    refine ⟨_, (execCreateIoCompletionQueue_pcie h pcie).trans (congrArg _ ?_), congrArg Ctrl.cqs made, rest⟩
    rw [if_neg (by simp only [fresh]; simpa using named), if_neg (by omega), State.check_of contiguous]
  · obtain ⟨made, rest⟩ := s.modCtrl_answered c.id.ctrl (fun k => { k with sqs := k.sqs ++ [(dw10 c % 65536, dw11 c / 65536)] }) c.id .success 0 0 []
    exact ⟨_, (execCreateIoSubmissionQueue_sized h pcie named fresh cq least most contiguous).trans (congrArg _ (if_neg (ne_false_of_eq_true room))), congrArg Ctrl.sqs made, rest⟩
  · obtain ⟨made, rest⟩ := s.modCtrl_answered c.id.ctrl (fun k => { k with cqs := k.cqs.filter (fun q => q ≠ dw10 c % 65536) }) c.id .success 0 0 []
    have free : (s.ctrl c.id.ctrl).sqs.any (fun q => q.2 = dw10 c % 65536) = false := by simpa using unused
    refine ⟨_, (execDeleteIoCompletionQueue_pcie h pcie).trans (congrArg _ ?_), ?_, rest⟩
    · rw [if_neg (by simp only [found]; simpa using named), if_neg (ne_true_of_eq_false free)]
    · rw [made]
      simp
  · refine ⟨s.modCtrl c.id.ctrl (fun k => { k with sqDels := k.sqDels ++ [(dw10 c % 65536, c.id)] }), (execDeleteIoSubmissionQueue_found h pcie named found).trans (congrArg _ ?_), ?_,
      fun k hk => s.modCtrl_other _ k _ hk, rfl⟩
    · rw [if_neg (ne_true_of_eq_false going), State.deleteSq_idle c _ idle]
    · rw [State.modCtrl_self]
  · obtain ⟨answer, deleted⟩ := State.settleSqDels_one noted gone
    refine ⟨answer, ?_, ?_⟩
    · rw [deleted]
    · rw [deleted]
      simp
  · exact ⟨_, (execKeepAlive_ready h).trans (congrArg _ (if_neg (ne_true_of_eq_false going))), State.post_lastAnswer .., rfl⟩
  · exact ⟨_, execAbort_ready h, State.post_lastAnswer .., ⟨_, List.mem_append_right _ (List.mem_singleton.mpr rfl), rfl, rfl⟩, rfl⟩
  · exact ⟨_, execAsynchronousEventRequest_waits h room none_waits, congrArg Ctrl.aers (s.modCtrl_self ..), fun k hk => s.modCtrl_other _ k _ hk, rfl⟩
  · obtain ⟨made, answer, -, rest'⟩ := s.modCtrl_answered c.id.ctrl (fun k => { k with aens := rest }) c.id .success (e.typ + 256 * e.info + 65536 * e.page) 0 []
    exact ⟨_, execAsynchronousEventRequest_takes h room waits, congrArg Ctrl.aens made, answer, rest'⟩
  · obtain ⟨made, rest⟩ := s.modCtrl_answered c.id.ctrl (fun k => { k with authed := true }) c.id .success 0 0 []
    exact ⟨_, execAuthenticationReceive_passed on awake full, congrArg Ctrl.authed made, rest⟩
  · have made := (s.post c.id .success).modCtrl_self c.id.ctrl (fun k => { k with en := true, rdy := true, shn := 0, shst := 0, resetCause := 0 })
    refine ⟨_, (execPropertySet_authed on awake full (.inr authed)).trans (congrArg _ ((if_pos cc).trans (State.writeCc_enables enables shn en rdy (State.onFabric_idle on)))),
      congrArg Ctrl.en made, congrArg Ctrl.rdy made, s.post_lastAnswer c.id .success 0 0 [], fun k hk => s.modCtrl_other _ k _ hk, rfl⟩
  · refine ⟨_, _, (execPropertyGet_authed on awake full (.inr authed)).trans (congrArg _ (if_pos (List.contains_iff_mem.mpr off))), State.post_last .., rfl, rfl, ?_, rfl⟩
    exact Nat.mod_add_div ..
  · refine ⟨(s.post c.id .success).closeConns c.id.ctrl, (execDisconnect_authed on awake full auth).trans (congrArg _ (if_pos admin)), s.post_lastAnswer c.id .success 0 0 [],
      State.closeConns_closed _ _, rfl⟩
  · have made := s.makeCtrl_self t r.hostNqn
    refine ⟨_, (execConnect_open run waits).trans (congrArg _ (State.serveConnect_admin subsystem free listed least most room admin)), congrArg Ctrl.exist made,
      congrArg Ctrl.tenant made, congrArg Ctrl.hostNqn made, State.post_lastAnswer .., fun x hx conn => (State.bindConn_bound _ _ _ _ x hx conn).1, fun k hk => s.makeCtrl_other t r.hostNqn hk, rfl⟩
  · refine (execCreateIoCompletionQueue_pcie h pcie).trans (congrArg _ ?_)
    rw [if_neg (by simp only [fresh]; simpa using named), if_pos size]
  · refine (execCreateIoSubmissionQueue_pcie h pcie).trans (congrArg _ (if_pos ?_))
    rwa [Bool.not_eq_true']
  · exact (execCreateIoSubmissionQueue_sized h pcie named fresh cq least most contiguous).trans (congrArg _ (if_pos taken))
  · refine (execDeleteIoCompletionQueue_pcie h pcie).trans (congrArg _ ?_)
    rw [if_neg (by simp only [found]; simpa using named), if_pos used]
  · refine (execPropertyGet_authed on awake full auth).trans (congrArg _ (if_neg ?_))
    rwa [List.contains_iff_mem]
  · exact hu ▸ execConnect_queuePair run rdma served fresh
  · exact fun t subsystem free unlisted => State.serveConnect_unlisted subsystem free (by simp [unlisted])
  · exact fun t subsystem free listed least most taken => State.serveConnect_full subsystem free listed least most (by simp [taken])
  · obtain ⟨made, answer, others, -⟩ := s.modCtrl_answered r.cntlid (fun k => { k with sqs := k.sqs ++ [(r.qid, r.qid)] }) c.id .success r.cntlid 0 []
    exact ⟨_, (execConnect_open run waits).trans (congrArg _ (State.serveConnect_io subsystem free listed least most room io exist host kind (by rw [tenant]) rdy idle fresh)),
      congrArg Ctrl.sqs made, State.post_lastAnswer .., State.bindConn_bound _ _ _ _, others, rfl⟩

end Sys2Proof.Machine

namespace Sys2Proof.Machine

/-! ## Doorbells, enabling and resets of controllers (R286, R297 to R301) -/

section
variable {s : State} {k : Nat}

/-- A change of one controller moves no other, and nothing outside the controllers. -/
theorem State.modCtrl_rest (s : State) (k : Nat) (f : Ctrl → Ctrl) :
    (∀ j, j ≠ k → (s.modCtrl k f).ctrl j = s.ctrl j) ∧ s.modCtrl k f = { s with io := { s.io with ctrls := (s.modCtrl k f).io.ctrls } } :=
  ⟨fun j hj => s.modCtrl_other k j f hj, rfl⟩

theorem execDoorbellWrite_noted {sq : Nat} (tail : Nat) (run : s.pwr.phase = .run) (exist : (s.ctrl k).exist = true) (pcie : (s.ctrl k).pcie = true)
    (rdy : (s.ctrl k).rdy = true) (open_ : (s.ctrl k).shst = 0) (found : sq = 0 ∨ (s.ctrl k).sqs.any (fun q => q.1 = sq) = true) :
    execDoorbellWrite k sq tail s = .next (s.modCtrl k (fun k => { k with tails := place k.tails sq tail })) := by
  have served : ¬(sq ≠ 0 ∧ (!(s.ctrl k).sqs.any (fun q => q.1 = sq)) = true) := by
    rintro ⟨io, unknown⟩
    rw [found.resolve_left io] at unknown
    exact absurd unknown Bool.false_ne_true
  exact if_neg (by simp only [run, exist, pcie, rdy, open_, served]; decide)

theorem execCcEnable_enables (run : s.pwr.phase = .run) (exist : (s.ctrl k).exist = true) (en : (s.ctrl k).en = false) (rdy : (s.ctrl k).rdy = false)
    (idle : (s.ctrl k).resetting = false) (link : (s.ctrl k).pcie = false ∨ s.host.pcieUp = true) :
    execCcEnable k s = .next (s.modCtrl k (fun k => { k with en := true, rdy := true, shn := 0, shst := 0, resetCause := 0 })) :=
  if_neg (by rcases link with link | link <;> simp [run, exist, en, rdy, idle, link])

/-- Outside service no controller moves. -/
theorem exec_controller_stopped (stopped : s.pwr.phase ≠ .run) : execControllerReset k s = .next s ∧ execCcEnable k s = .next s ∧
    (∀ shn, execShutdownNotification k shn s = .next s) ∧ ∀ sq tail, execDoorbellWrite k sq tail s = .next s :=
  ⟨if_pos (.inl stopped), if_pos (.inl stopped), fun _ => if_pos stopped, fun _ _ => if_pos (.inl stopped)⟩

theorem State.resetCtrl_putOff {cause : Nat} (exist : (s.ctrl k).exist = true) (idle : (s.ctrl k).resetting = false) (paused : s.io.paused = true) :
    s.resetCtrl k cause = (s.modCtrl k (fun x => { x with en := false })).putOff (.reset k cause) := by
  have paused' : (s.modCtrl k (fun x => { x with en := false })).io.paused = true := paused
  simp only [State.resetCtrl, exist, idle, paused', Bool.true_eq_false, Bool.false_eq_true, if_false, if_true]

theorem State.shutdownCtrl_begins {shn : Nat} (exist : (s.ctrl k).exist = true) (open_ : (s.ctrl k).shst = 0) (idle : (s.ctrl k).draining = false) (form : shn = 1 ∨ shn = 2) :
    s.shutdownCtrl k shn = (s.modCtrl k (fun k => { k with shn := shn, shst := 1 })).beginDrain k 30 :=
  if_neg (by rcases form with rfl | rfl <;> simp [exist, open_, idle])

theorem State.loseAssoc_begins {cause : Nat} (exist : (s.ctrl k).exist = true) (idle : (s.ctrl k).resetting = false) (going : s.io.paused = false) :
    s.loseAssoc k cause = ((s.modCtrl k (fun k => { k with resetting := true, en := false })).closeConns k).beginDrain k (10 + cause) := by
  simp only [State.loseAssoc, exist, idle, going, Bool.true_eq_false, Bool.false_eq_true, or_self, if_false]

/-! ### What a lost bus takes (R487) -/

/-- What one step of a fold brings about and every step keeps, the fold brings about. -/
theorem State.each_brings {α : Type} {P : State → Prop} {f : State → α → State} {a : α} {l : List α} (listed : a ∈ l) (made : ∀ s, P (f s a)) (kept : ∀ s b, P s → P (f s b)) (s : State) :
    P (s.each l f) := by
  have keeps (l : List α) (s : State) (h : P s) : P (s.each l f) := by
    unfold State.each
    induction l generalizing s with
    | nil => exact h
    | cons b l ih => exact ih (f s b) (kept s b h)
  unfold State.each
  induction l generalizing s with
  | nil => exact absurd listed List.not_mem_nil
  | cons b l ih =>
    rcases List.mem_cons.mp listed with rfl | later
    · exact keeps l _ (made s)
    · exact ih later (f s b)

/-- DMA and registers of the second state, all else of the first. -/
def putDma (s t : State) : State := { s with dma := t.dma, dw := t.dw }

theorem frames_putDma : Frames putDma := ⟨fun _ => rfl, fun _ _ _ => rfl⟩

theorem State.chHalt_within (s : State) (ch cause : Nat) : s.Within putDma (s.chHalt ch cause) := by
  unfold State.chHalt State.chEvent
  dsimp only
  split <;> rfl

theorem State.chHalt_chan (s : State) (ch cause j : Nat) : (s.chHalt ch cause).chan j =
    (s.modChan ch (fun c => { c with st := 2, cause := cause, busy := false, fetch := c.fetch || cause = 6 })).chan j := by
  unfold State.chHalt State.chEvent
  dsimp only
  split <;> rfl

theorem State.dmaBusLost_within (s : State) : s.Within putDma s.dmaBusLost := State.Within.each frames_putDma (fun s ch => s.chHalt_within ch 8) s _

theorem State.dmaBusLost_halts (s : State) {ch : Nat} (hch : ch < 32) (active : (s.chan ch).st = 1) (mgr : s.mgrChan ch = true) (host : s.usesHost ch = true) :
    (s.dmaBusLost.chan ch).st = 2 ∧ (s.dmaBusLost.chan ch).cause = 8 := by
  have halted (s : State) : ((s.chHalt ch 8).chan ch).st = 2 ∧ ((s.chHalt ch 8).chan ch).cause = 8 := by
    rw [State.chHalt_chan, State.modChan_self]
    exact ⟨rfl, rfl⟩
  refine State.each_brings (P := fun t => (t.chan ch).st = 2 ∧ (t.chan ch).cause = 8) (a := ch) ?_ halted (fun s b h => ?_) s
  · simp [hch, active, mgr, host]
  · by_cases same : ch = b
    · exact same ▸ halted s
    · rwa [State.chHalt_chan, State.modChan_other _ _ _ _ same]

theorem execFlr_resets (run : s.pwr.phase = .run) (exist : (s.ctrl k).exist = true) (pcie : (s.ctrl k).pcie = true) (mode : s.pwr.mode ≠ 1 ∨ k = 0) :
    execFlr k s = .next ((if k = 0 ∧ s.host.pcieUp = true then s.dmaBusLost else s).resetCtrl k 1) := by
  have same : (if k = 0 ∧ s.host.pcieUp = true then s.dmaBusLost else s).pwr = s.pwr ∧ (if k = 0 ∧ s.host.pcieUp = true then s.dmaBusLost else s).ctrl k = s.ctrl k := by
    split
    · rw [s.dmaBusLost_within]
      exact ⟨rfl, rfl⟩
    · exact ⟨rfl, rfl⟩
  obtain ⟨pwr, ctrl⟩ := same
  refine if_neg ?_
  rw [pwr, ctrl]
  rintro (stopped | absent | other | ⟨service, inner⟩)
  · exact stopped run
  · exact ne_false_of_eq_true exist absent
  · exact ne_false_of_eq_true pcie other
  · exact mode.elim (· service) inner

/-! ### The end of a drain -/

theorem execDrainComplete_drained {u : State} (draining : (s.ctrl k).draining = true) (hu : u = s.settleSqDels k) (ended : ∀ f ∈ u.io.flights, f.c.id.ctrl ≠ k) :
    execDrainComplete k s =
      if (s.ctrl k).resetCause = 30 then .next (u.modCtrl k (fun k => { k with shst := 2, draining := false }))
      else if (s.ctrl k).resetCause = 20 then .next ((if (s.ctrl k).pcie then u.ctrlClear k else u.ctrlGone k).tenantDone (s.ctrl k).tenant)
      else if (s.ctrl k).resetCause = 40 then .next (u.ctrlGone k)
      else if (s.ctrl k).resetCause ≥ 10 then .next ((u.ctrlGone k).log 0x060A [k, (s.ctrl k).resetCause - 10, (s.ctrl k).drainCount]).serveHeld
      else .next (if (s.ctrl k).pcie = false ∧ (s.ctrl k).resetCause = 3 then ((u.log 0x0609 [k, (s.ctrl k).resetCause, (s.ctrl k).drainCount]).ctrlGone k).serveHeld
        else (u.log 0x0609 [k, (s.ctrl k).resetCause, (s.ctrl k).drainCount]).ctrlClear k) := by
  subst hu
  have none_flies : (s.settleSqDels k).io.flights.any (fun f => f.c.id.ctrl = k) = false := by simpa using ended
  rw [execDrainComplete]
  dsimp only
  rw [if_neg (by simp [draining, none_flies])]

theorem State.ctrlGone_other (s : State) {j : Nat} (h : j ≠ k) : (s.ctrlGone k).ctrl j = s.ctrl j := State.modCtrl_other (s.closeConns k) k j _ h

end

/-! ### Connections and the PCIe link (R259, R261, R263, R265, R268) -/

section
variable {s : State} {conn port entry pfv maxr2t hpda : Nat} {tls hdgst ddgst noSuccess : Bool}
variable (run : s.pwr.phase = .run) (served : s.serves port entry 2 = true) (fresh : ∀ x ∈ s.host.conns, x.id ≠ conn)
include run served fresh

theorem execIcreq_served : execIcreq conn port entry pfv maxr2t hpda tls hdgst ddgst noSuccess s =
    if tls ∨ pfv ≠ 0 then .next { s with host.terms := s.host.terms ++ [(conn, .invalidParameter)] }
    else .next { s with host.conns := s.host.conns ++ [{ id := conn, port := port, entry := entry, rdma := false, maxR2t := min (maxr2t + 1) 8, hpda := hpda, hdgst := hdgst, ddgst := ddgst, noSuccess := noSuccess }] } :=
  if_neg (by simpa [run, served] using fresh)

end

theorem State.loseConn_found {s : State} {conn : Nat} {x : Conn} (cause : Nat) (found : s.host.conns.find? (fun x => x.id = conn) = some x) :
    s.loseConn conn cause = match x.ctrl with | some k => (s.dropConn conn).loseAssoc k cause | none => s.dropConn conn := by
  rw [State.loseConn, found]
  rfl

/-- The host side without its PCIe link. -/
def HostSt.pcieDown (h : HostSt) : HostSt := { h with pcieUp := false, speed := 0, width := 0, flit := false, sris := false, busMaster := false }

theorem State.pcieDown_up {s : State} (up : s.host.pcieUp = true) : s.pcieDown =
    (({ s with host := s.host.pcieDown } : State).dmaBusLost.each ({ s with host := s.host.pcieDown } : State).dmaBusLost.pcieCtrls (fun s i => s.resetCtrl i 2)).log 0x0606 [0xFF, 0, 0] :=
  if_neg (ne_false_of_eq_true up)

theorem execPcieLinkUp_trained {s : State} {speed width : Nat} {flit sris : Bool} (clocked : s.pwr.phase ≠ .held) (perst : s.pwr.perst = false)
    (lanes : ∀ i < 16, s.lanePattern (192 + i) = false) : execPcieLinkUp speed width flit sris s =
      .next (({ s with host.pcieUp := true, host.speed := speed, host.width := width, host.flit := flit, host.sris := sris, host.busMaster := true } : State).log 0x0606 [0xFF, 1, speed + 256 * width]) :=
  if_neg (by simpa [clocked, perst] using lanes)

/-- Settles O38: what begins, ends or puts off a drain is the state equation of its command; a lost bus halts the channels that use it (`State.dmaBusLost_halts`). -/
theorem controllersEnableResetAndDrain : Obligations.ControllersEnableResetAndDrain := by
  unfold Obligations.ControllersEnableResetAndDrain
  refine ⟨fun k sq tail s run exist pcie rdy open_ found => ?_, fun k s run exist en rdy idle link => ?_, fun k s run en => if_neg (by simp [run, en]),
    fun k cause s exist idle going => ?_, fun k cause s exist idle paused => ?_, fun k s u run exist pcie mode hu => hu ▸ execFlr_resets run exist pcie mode,
    fun k shn s run exist open_ idle form => ?_, fun k s u draining hu ended cause => ?_, fun k s u draining hu ended cause => ?_, fun k s u draining hu ended cause => ?_,
    fun k s u draining hu ended least c20 c30 c40 => ?_, fun k s u draining hu ended cause stays => ?_, fun k s u draining hu ended cause fabric => ?_, fun k s => ?_,
    fun conn port entry pfv maxr2t hpda hdgst ddgst noSuccess s run exists_ up tcp he valid fresh zero => ?_,
    fun conn port entry pfv maxr2t hpda tls hdgst ddgst noSuccess s run served fresh bad => (execIcreq_served run served fresh).trans (if_pos bad), fun conn s => ⟨rfl, rfl, rfl⟩,
    fun conn cause x s found => ?_, fun k cause s exist idle going => ?_, fun k s fabric going => if_neg (by simp [fabric, going]), fun k s off => if_pos off, fun s up => ?_,
    fun speed width flit sris s clocked perst lanes => ?_, fun k s stopped => exec_controller_stopped stopped,
    fun k s run busy => if_pos (.inr (.inr (.inr (.inr busy)))), fun s down => congrArg _ (if_pos down)⟩
  · obtain ⟨others, rest⟩ := s.modCtrl_rest k (fun k => { k with tails := place k.tails sq tail })
    refine ⟨_, execDoorbellWrite_noted tail run exist pcie rdy open_ found, ?_, others, rest⟩
    rw [State.modCtrl_self, look_place_self]
  · have made := s.modCtrl_self k (fun k => { k with en := true, rdy := true, shn := 0, shst := 0, resetCause := 0 })
    exact ⟨_, execCcEnable_enables run exist en rdy idle link, congrArg Ctrl.en made, congrArg Ctrl.rdy made, s.modCtrl_rest k _⟩
  · refine ⟨_, State.resetCtrl_begins exist idle going, ?_, ?_, fun j hj => ?_, rfl⟩
    · rw [State.modCtrl_self, State.modCtrl_self]
    · rw [State.modCtrl_self]
    · rw [State.modCtrl_other _ _ _ _ hj, State.modCtrl_other _ _ _ _ hj]
  · exact ⟨_, State.resetCtrl_putOff exist idle paused, congrArg Ctrl.en (s.modCtrl_self k _), s.modCtrl_rest k _⟩
  · have form' : shn.toNat = 1 ∨ shn.toNat = 2 := form.imp (congrArg BitVec.toNat) (congrArg BitVec.toNat)
    have made := s.modCtrl_self k (fun k => { k with shn := shn.toNat, shst := 1 })
    exact ⟨_, (if_neg (not_not.mpr run)).trans (congrArg _ (State.shutdownCtrl_begins exist open_ idle form')), congrArg Ctrl.shn made, congrArg Ctrl.shst made, s.modCtrl_rest k _⟩
  · have made := u.modCtrl_self k (fun k => { k with shst := 2, draining := false })
    exact ⟨_, (execDrainComplete_drained draining hu ended).trans (if_pos cause), congrArg Ctrl.shst made, congrArg Ctrl.draining made, by rw [made], u.modCtrl_rest k _⟩
  · refine (execDrainComplete_drained draining hu ended).trans ?_
    rw [if_neg (by omega), if_pos cause]
  · refine (execDrainComplete_drained draining hu ended).trans ?_
    rw [if_neg (by omega), if_neg (by omega), if_pos cause]
  · refine (execDrainComplete_drained draining hu ended).trans ?_
    rw [if_neg c30, if_neg c20, if_neg c40, if_pos least]
  · refine (execDrainComplete_drained draining hu ended).trans ?_
    rw [if_neg (by omega), if_neg (by omega), if_neg (by omega), if_neg (by omega), if_neg (by rcases stays with stays | stays <;> simp [stays])]
  · refine (execDrainComplete_drained draining hu ended).trans ?_
    rw [if_neg (by omega), if_neg (by omega), if_neg (by omega), if_neg (by omega), if_pos ⟨fabric, cause⟩, cause]
  · have clear := s.modCtrl_self k (fun k => { k with sqs := [], cqs := [], rdy := false, en := false, resetting := false, draining := false, shn := 0, shst := 0, sqDels := [] })
    exact ⟨congrArg Ctrl.sqs clear, congrArg Ctrl.cqs clear, congrArg Ctrl.rdy clear, congrArg Ctrl.resetting clear, congrArg Ctrl.exist ((s.closeConns k).modCtrl_self k _),
      State.closeConns_closed _ _, fun j hj => ⟨s.modCtrl_other k j _ hj, s.ctrlGone_other hj⟩⟩
  · have served : s.serves port entry 2 = true := by simp [State.serves, exists_, up, tcp, he, valid]
    exact ⟨_, _, (execIcreq_served run served fresh).trans (if_neg (by simp [zero])), rfl, rfl, rfl, rfl, rfl⟩
  · refine ⟨s.dropConn conn, (State.loseConn_found cause found).trans ?_, rfl, rfl⟩
    cases x.ctrl <;> rfl
  · refine ⟨_, State.loseAssoc_begins exist idle going, ?_, ?_, State.closeConns_closed _ _, fun j hj => s.modCtrl_other k j _ hj, rfl⟩
    · exact congrArg Ctrl.en (s.modCtrl_self k _)
    · exact congrArg Ctrl.resetting (s.modCtrl_self k _)
  · have lost := ({ s with host := s.host.pcieDown } : State).dmaBusLost_within
    refine ⟨_, congrArg _ (State.pcieDown_up up), ?_, fun ch hch active mgr host => State.dmaBusLost_halts { s with host := s.host.pcieDown } hch active mgr host, ?_⟩
    · rw [lost]
      rfl
    · rw [lost]
      rfl
  · refine ⟨_, execPcieLinkUp_trained clocked perst lanes, ?_⟩
    rw [State.log_rest]
    exact ⟨rfl, rfl, rfl, rfl, rfl, rfl, rfl⟩

end Sys2Proof.Machine

namespace Sys2Proof.Machine

/-! ## Host ports: what an event of a port moves (R249 to R257, R276) -/

theorem testBit_setBit (v i j : Nat) : (setBit v i).testBit j = (v.testBit j || decide (i = j)) := by
  rw [setBit, Nat.testBit_or, Nat.testBit_two_pow]

theorem testBit_clearBit (v i j : Nat) : (clearBit v i).testBit j = (v.testBit j && decide (i ≠ j)) := by
  rw [clearBit, Nat.testBit_xor, Nat.testBit_and, Nat.testBit_two_pow]
  cases v.testBit j <;> by_cases h : i = j <;> simp [h]

section
variable {s : State} {p : Nat} {f : State → State}

theorem onPort_present (hp : p < 64) (run : s.pwr.phase = .run) (present : s.portExists p = true) : onPort s p f = .next (f s) := by
  rw [onPort, if_neg (by omega), if_neg (by simp [run, present])]

theorem onPort_absent (hp : p < 64) (absent : s.pwr.phase ≠ .run ∨ s.portExists p = false) : onPort s p f = .next s := by
  rw [onPort, if_neg (by omega), if_pos absent]

/-- An event that has nothing to do does nothing, whether or not the port is there. -/
theorem onPort_idle (hp : p < 64) (idle : f s = s) : onPort s p f = .next s := by
  rw [onPort, if_neg (by omega), idle, ite_self]

end

theorem State.log_port (s : State) (code : Nat) (ps : List Nat) (k : Nat) : (s.log code ps).port k = s.port k := by
  rw [State.log_rest]
  rfl

/-- A change of one port moves no other, and nothing outside the ports. -/
theorem State.modPort_rest (s : State) (p : Nat) (f : Port → Port) :
    (∀ k, k ≠ p → (s.modPort p f).port k = s.port k) ∧ s.modPort p f = { s with host := { s.host with ports := (s.modPort p f).host.ports } } :=
  ⟨fun k hk => s.modPort_other p k f hk, rfl⟩

/-- A change of one port that is recorded. -/
theorem State.modPort_logged (s : State) (p : Nat) (f : Port → Port) (code : Nat) (ps : List Nat) :
    ((s.modPort p f).log code ps).port p = f (s.port p) ∧ (∀ k, k ≠ p → ((s.modPort p f).log code ps).port k = s.port k) ∧
      (s.modPort p f).log code ps = { s with
        host := { s.host with ports := ((s.modPort p f).log code ps).host.ports }, gbk := ((s.modPort p f).log code ps).gbk, dw := ((s.modPort p f).log code ps).dw } := by
  refine ⟨(State.log_port ..).trans (s.modPort_self p f), fun k hk => (State.log_port ..).trans (s.modPort_other p k f hk), ?_⟩
  rw [State.log_rest]
  rfl

/-- A port that its group's mode does not give, or that is out of service, ignores its events. -/
theorem exec_port_absent {i : Instr} {p prio quanta cause ch : Nat} {f : Frame} {tx lim : Bool} {s : State} (hp : p < 64) (absent : s.pwr.phase ≠ .run ∨ s.portExists p = false)
    (hi : i ∈ [Instr.portLinkUp p, .portLinkDown p cause, .frameReceive p f, .pfcFrame p prio quanta, .pfcPauseExpiry p prio, .pfcPauseRefresh p prio, .pfcStorm p prio, .pfcStormClear p prio,
      .sakDistribution p, .pnExhausted p tx lim ch, .mkaPeerTimeout p]) : exec i s = .next s := by
  simp only [List.mem_cons, List.not_mem_nil, or_false] at hi
  rcases hi with rfl | rfl | rfl | rfl | rfl | rfl | rfl | rfl | rfl | rfl | rfl
  · exact (onPort_absent hp absent : execPortLinkUp p s = _)
  · exact (onPort_absent hp absent : execPortLinkDown p cause s = _)
  · exact (onPort_absent hp absent : execFrameReceive p f s = _)
  · exact (onPort_absent hp absent : execPfcFrame p prio quanta s = _)
  · exact (onPort_absent hp absent : execPfcPauseExpiry p prio s = _)
  · exact (onPort_absent hp absent : execPfcPauseRefresh p prio s = _)
  · exact (onPort_absent hp absent : execPfcStorm p prio s = _)
  · exact (onPort_absent hp absent : execPfcStormClear p prio s = _)
  · exact (onPort_absent hp absent : execSakDistribution p s = _)
  · exact (onPort_absent hp absent : execPnExhausted p tx lim ch s = _)
  · exact (onPort_absent hp absent : execMkaPeerTimeout p s = _)

/-! ### Modes (R249, R250) -/

theorem execPortMode_reached {p : Path} {g : Nat} {mode : BitVec 3} {s : State} (hg : g < 4) (r : s.reach p (dwGROUP g) = .ok) : execPortMode p g mode s = .next (
    if mode.toNat = s.grpMode g then s else if s.modeOk g mode.toNat then s.setMode g mode.toNat else s.raise (dwGROUP g + 4) 2) := by
  rw [execPortMode, if_neg (by omega), winWrite_ok r]

theorem execPortMode_taken {p : Path} {g : Nat} {mode : BitVec 3} {s : State} (hg : g < 4) (r : s.reach p (dwGROUP g) = .ok) (new : mode.toNat ≠ s.grpMode g)
    (may : s.modeOk g mode.toNat = true) : execPortMode p g mode s = .next (s.setMode g mode.toNat) := by
  rw [execPortMode_reached hg r, if_neg new, if_pos may]

/-- Without a controller there is no discovery association to tell. -/
theorem State.discNotice_alone {s : State} (alone : s.io.ctrls = []) (hosts : List Nat) : s.discNotice hosts = s := by
  rw [State.discNotice, State.ctrlIds, alone]
  rfl

/-- The thresholds of a group's ports follow its mode. -/
def State.fitThresholds (s : State) (g mode : Nat) : State := s.each (s.portsOf g) (fun s p => s.setReg (dwPORT p + 0x0C) (pfcThFor (modeLanes mode)))

theorem State.fitThresholds_grpMode (s : State) (g mode k : Nat) : (s.fitThresholds g mode).grpMode k = s.grpMode k := by
  refine State.each_same (π := fun s => s.grpMode k) (fun s p => ?_) s _
  refine congrArg (· % 8) (s.setReg_other _ _ _ ?_)
  simp only [dwGROUP, dwPORT, dwHOST]
  omega

/-- Registers of the second state, all else of the first. -/
def putDw (s t : State) : State := { s with dw := t.dw }

theorem State.fitThresholds_within (s : State) (g mode : Nat) : s.Within putDw (s.fitThresholds g mode) := by
  refine State.Within.each (put := putDw) ⟨fun _ => rfl, fun _ _ _ => rfl⟩ (fun s p => ?_) s _
  rfl

/-- A mode of a group that has no port yet takes down none and loses no connection. -/
theorem State.setMode_bare {s : State} {g : Nat} (mode : Nat) (bare : s.portsOf g = []) (alone : s.io.ctrls = []) :
    s.setMode g mode = ((s.setReg (dwGROUP g) mode).fitThresholds g mode).log 0x0604 [g, s.grpMode g, mode] := by
  have none_lost : s.host.conns.filter (fun x => ([] : List Nat).contains x.port) = [] := List.filter_eq_nil_iff.mpr (by simp)
  rw [State.setMode, bare]
  simp only [State.each_nil, none_lost, List.map_nil]
  refine State.discNotice_alone ?_ _
  have same : ((s.setReg (dwGROUP g) mode).fitThresholds g mode).io.ctrls = s.io.ctrls :=
    congrArg (fun t => t.io.ctrls) (State.fitThresholds_within (s.setReg (dwGROUP g) mode) g mode : _ = putDw _ _)
  rw [State.log_rest]
  exact same.trans alone

theorem State.grpMode_setReg_self (s : State) (g mode : Nat) : (s.setReg (dwGROUP g) mode).grpMode g = mode % 8 := congrArg (· % 8) (s.setReg_self _ _)

theorem State.grpMode_setReg_other (s : State) {g k : Nat} (mode : Nat) (h : k ≠ g) : (s.setReg (dwGROUP g) mode).grpMode k = s.grpMode k := by
  refine congrArg (· % 8) (s.setReg_other _ _ _ ?_)
  simp only [dwGROUP]
  omega

theorem State.log_grpMode (s : State) (code : Nat) (ps : List Nat) (k : Nat) : (s.log code ps).grpMode k = s.grpMode k := by
  obtain ⟨cnt, q, tracked, dropped, since, logged⟩ := s.log_eq code ps
  rw [logged]
  rfl

/-! ### Frames (R252 to R255, R257) -/

section
variable {s : State} {p : Nat} {f : Frame} (hp : p < 64) (run : s.pwr.phase = .run) (present : s.portExists p = true) (up : (s.port p).linkUp = true)
include hp run present up

theorem execFrameReceive_bad (bad : f.fcsOk = false) : execFrameReceive p f s = .next (s.bump (dwPORT p + 0x30C) 1) := by
  rw [execFrameReceive, onPort_present hp run present, if_neg (ne_false_of_eq_true up), if_pos bad]

theorem execFrameReceive_dropped (good : f.fcsOk = true) (dropped : (s.bump (dwPORT p + 0x300) 1).macsecIn p f = none) :
    execFrameReceive p f s = .next ((s.bump (dwPORT p + 0x300) 1).bump (dwPORT p + 0x328) 1) := by
  rw [execFrameReceive, onPort_present hp run present, if_neg (ne_false_of_eq_true up), if_neg (ne_false_of_eq_true good)]
  dsimp only
  rw [dropped]

theorem execFrameReceive_passed {u : State} (good : f.fcsOk = true) (passed : (s.bump (dwPORT p + 0x300) 1).macsecIn p f = some u) :
    execFrameReceive p f s = .next (if f.len ≤ 9216 ∧ f.known = true ∧
      (f.eapol = true ∨ f.addrEntry.any (fun e => decide (e < 16) && (u.reg (dwPORT p + 0x100 + 32 * e + 16)).testBit 8) = true) then u.placeFrame p f else u.bump (dwPORT p + 0x308) 1) := by
  rw [execFrameReceive, onPort_present hp run present, if_neg (ne_false_of_eq_true up), if_neg (ne_false_of_eq_true good)]
  dsimp only
  rw [passed]
  refine congrArg _ ((ite_not ..).symm.trans (if_congr ?_ rfl rfl))
  simp only [not_or, gt_iff_lt, not_lt, Bool.not_eq_false, Bool.or_eq_true]
  tauto

end

/-- A frame without protection passes where none is required, or where it is the key agreement's own. -/
theorem State.macsecIn_plain {s : State} {p : Nat} {f : Frame} (plain : f.protectedFrame = false) (may : s.macPolicy p ≠ 2) : s.macsecIn p f = some s := by
  rw [State.macsecIn]
  exact (if_pos plain).trans (if_neg fun must => may must.1)

/-- `t` follows from `s` by what a frame or a pause does to the reserve of port `p`: no priority is paused, and no other port moves. -/
structure ReserveMoves (p : Nat) (s t : State) : Prop where
  paused : (t.port p).paused = (s.port p).paused
  others : ∀ k, k ≠ p → t.port k = s.port k
  rest : t = { s with host := { s.host with ports := t.host.ports }, dw := t.dw, free := t.free }

namespace ReserveMoves

variable {p : Nat} {s t u : State}

theorem refl (s : State) : ReserveMoves p s s := ⟨rfl, fun _ _ => rfl, rfl⟩

/-- Composition, the later operation first. -/
theorem comp (k : ReserveMoves p t u) (h : ReserveMoves p s t) : ReserveMoves p s u :=
  ⟨k.paused.trans h.paused, fun j hj => (k.others j hj).trans (h.others j hj), by
    rw [k.rest, h.rest]⟩

theorem ite {c : Prop} [Decidable c] (h : ReserveMoves p s t) (k : ReserveMoves p s u) : ReserveMoves p s (if c then t else u) := by
  split
  · exact h
  · exact k

theorem bump (s : State) (off n : Nat) : ReserveMoves p s (s.bump off n) := ⟨rfl, fun _ _ => rfl, rfl⟩

theorem modPort (s : State) {f : Port → Port} (paused : ∀ x, (f x).paused = x.paused) : ReserveMoves p s (s.modPort p f) :=
  ⟨by rw [State.modPort_self, paused], fun k hk => s.modPort_other p k f hk, rfl⟩

theorem sendPfc (s : State) : ReserveMoves p s (s.sendPfc p) := ⟨rfl, fun _ _ => rfl, rfl⟩

theorem drainHeld (s : State) (prio : Nat) : ReserveMoves p s (s.drainHeld p prio) :=
  .comp (.modPort s.took fun _ => rfl) ⟨rfl, fun _ _ => rfl, rfl⟩

/-- A frame that marks no congestion and breaks no digest. -/
theorem placeFrame (s : State) {f : Frame} (ce : f.ce = false) (digest : f.headerDigestBad = false) : ReserveMoves p s (s.placeFrame p f) := by
  unfold State.placeFrame
  simp only [ce, digest, Bool.false_eq_true, if_false]
  exact .comp (.ite (.bump ..) (.comp (.ite (.comp (.sendPfc _) (.modPort _ fun _ => rfl)) (.refl _)) (.modPort _ fun _ => rfl))) (.drainHeld ..)

end ReserveMoves

/-! ### Priority flow control (R255, R256) -/

theorem State.drainHeld_xoff (s : State) (p prio : Nat) : ((s.drainHeld p prio).port p).xoff = (s.port p).xoff := by
  rw [State.drainHeld, State.modPort_self]
  rfl

section
variable {s : State} {p : Nat} (hp : p < 64) (run : s.pwr.phase = .run) (present : s.portExists p = true)
include hp run present

theorem execPfcFrame_counts (quanta : Nat) {prio : Nat} (up : (s.port p).linkUp = true) (hprio : prio < 8) : execPfcFrame p prio quanta s = .next (
    if s.pfcEn p prio then ((s.bump (dwPORT p + 0x318) 1).bump (dwPORT p + 0x300) 1).modPort p (fun x => { x with paused := if quanta = 0 then clearBit x.paused prio else setBit x.paused prio })
    else (s.bump (dwPORT p + 0x318) 1).bump (dwPORT p + 0x300) 1) := by
  rw [execPfcFrame, onPort_present hp run present, if_neg (by simp [up, hprio])]
  rfl

theorem execPfcPauseExpiry_resumes (prio : Nat) : execPfcPauseExpiry p prio s = .next (s.modPort p (fun x => { x with paused := clearBit x.paused prio })) :=
  onPort_present hp run present

theorem execPfcStormClear_clears (prio : Nat) : execPfcStormClear p prio s = .next (s.modPort p (fun x => { x with storm := clearBit x.storm prio })) :=
  onPort_present hp run present

theorem execPfcStorm_marks {prio : Nat} (limit : s.reg (dwPORT p + 0x10) % 65536 ≠ 0) (paused : (s.port p).paused.testBit prio = true) (fresh : (s.port p).storm.testBit prio = false) :
    execPfcStorm p prio s = .next ((s.modPort p (fun x => { x with storm := setBit x.storm prio })).log 0x0603 [p, prio]) := by
  rw [execPfcStorm, onPort_present hp run present, if_neg (by simp [limit, paused, fresh])]

theorem execPfcPauseRefresh_sent {prio : Nat} (sent : (s.port p).xoff.testBit prio = true) : execPfcPauseRefresh p prio s = .next (
    if 1024 * ((s.drainHeld p prio).reg (dwPORT p + 0x0C) / 65536) ≤ ((s.drainHeld p prio).port p).held.get zeroCell prio then (s.drainHeld p prio).sendPfc p
    else ((s.drainHeld p prio).modPort p (fun x => { x with xoff := clearBit x.xoff prio })).sendPfc p) := by
  rw [execPfcPauseRefresh, onPort_present hp run present, if_neg (ne_false_of_eq_true sent)]

/-! ### Links (R276) -/

theorem execPortLinkUp_comes (down : (s.port p).linkUp = false) (enabled : (s.reg (dwPORT p)).testBit 0 = true) (lanes : ∀ l ∈ s.portLanes p, s.lanePattern l = false) :
    execPortLinkUp p s = .next ((s.modPort p (fun x => { x with linkUp := true, fecLock := true })).log 0x0601 [p, s.grpMode (p / 16)]) := by
  have quiet : (s.portLanes p).any s.lanePattern = false := by simpa using lanes
  rw [execPortLinkUp, onPort_present hp run present, if_neg (by simp only [down, enabled, quiet]; decide)]

theorem execPortLinkDown_goes (cause : Nat) (up : (s.port p).linkUp = true) :
    execPortLinkDown p cause s = .next ((s.modPort p (fun x => { x with linkUp := false, fecLock := false })).log 0x0602 [p, cause]) :=
  (onPort_present hp run present).trans (congrArg _ (if_pos up))

end

/-! ### Congestion control (R257) -/

/-- A rate increase ends at or below the line rate of the queue pair's port. -/
theorem execDcqcnRateIncrease_found {s : State} {qp : Nat} {x : Conn} (found : s.host.conns.find? (fun x => x.id = qp ∧ x.rdma) = some x) :
    ∃ y : Qp, y.rate ≤ 10 * modeRate (s.grpMode (x.port / 16)) ∧ execDcqcnRateIncrease qp s = .next { s with host.qps := s.host.qps.put (fun _ => {}) qp y } := by
  rw [execDcqcnRateIncrease, found]
  exact ⟨_, Nat.min_le_left .., rfl⟩

theorem execDcqcnRateIncrease_absent {s : State} {qp : Nat} (absent : ∀ x ∈ s.host.conns, x.id = qp → x.rdma = false) : execDcqcnRateIncrease qp s = .next s := by
  have none_found : s.host.conns.find? (fun x => x.id = qp ∧ x.rdma) = none := by simpa using absent
  rw [execDcqcnRateIncrease, none_found]

/-- Settles O39: each event of a port is `onPort` with one change of that port (`State.modPort_logged`, `ReserveMoves`); a mode of a bare group is its register and the thresholds (`State.setMode_bare`). -/
theorem portsCarryFramesAndPauses : Obligations.PortsCarryFramesAndPauses := by
  unfold Obligations.PortsCarryFramesAndPauses
  refine ⟨fun p g mode s hg r new may => execPortMode_taken hg r new may, fun p g mode s hg r new may bare alone => ?_, fun p g mode s hg r new mayNot => ?_, fun p s hp run present down enabled lanes => ?_,
    fun p cause s hp run present up => ?_, fun p f s hp run present up bad => execFrameReceive_bad hp run present up bad,
    fun p f s hp run present up good plain may unaddressed data => ?_, fun p f s hp run present up good plain may eapol known short fits ce digest => ?_,
    fun p prio quanta s hp run present up hprio en => ?_, fun p prio s hp run present => ?_, fun p prio s hp run present sent low => ?_,
    fun p prio s hp run present limit paused fresh => ?_, fun p prio s hp run present => ?_, fun qp x s found => ?_,
    fun pasid s run up service bad => (if_neg (by simp [run, up])).trans (if_pos ⟨service, by omega⟩), fun i p prio quanta cause ch f tx lim s hp absent hi => exec_port_absent hp absent hi,
    fun p g mode s hg r same => (execPortMode_reached hg r).trans (congrArg _ (if_pos same)), fun p s hp run present idle => (onPort_idle hp (if_pos idle) : execPortLinkUp p s = _),
    fun p cause s hp run present down => (onPort_idle hp (if_neg (ne_true_of_eq_false down)) : execPortLinkDown p cause s = _),
    fun p f s hp run present up good dropped => execFrameReceive_dropped hp run present up good dropped,
    fun p f s u hp run present up good passed => execFrameReceive_passed hp run present up good passed,
    fun p prio quanta s hp run present up hprio dis => (execPfcFrame_counts hp run present quanta up hprio).trans (congrArg _ (if_neg (ne_true_of_eq_false dis))),
    fun p prio s hp run present none_sent => (onPort_idle hp (if_pos none_sent) : execPfcPauseRefresh p prio s = _), fun p prio s u hp run present sent hu => hu ▸ execPfcPauseRefresh_sent hp run present sent,
    fun p prio s hp run present idle => (onPort_idle hp (if_pos idle) : execPfcStorm p prio s = _), fun qp s absent => execDcqcnRateIncrease_absent absent, fun pasid s off => ?_⟩
  · refine ⟨_, (execPortMode_taken hg r new may).trans (congrArg _ (State.setMode_bare mode.toNat bare alone)), ?_, fun k hk => ?_, ?_⟩
    · rw [State.log_grpMode, State.fitThresholds_grpMode, State.grpMode_setReg_self, Nat.mod_eq_of_lt mode.isLt]
    · rw [State.log_grpMode, State.fitThresholds_grpMode, State.grpMode_setReg_other _ _ hk]
    · rw [State.log_rest, State.fitThresholds_within]
      rfl
  · refine ⟨s.raise (dwGROUP g + 4) 2, (execPortMode_reached hg r).trans (congrArg _ ?_), ?_, rfl, rfl⟩
    · rw [if_neg new, if_neg (ne_true_of_eq_false mayNot)]
    · rw [State.raise_self, Nat.testBit_or, show Nat.testBit 2 1 = true by decide, Bool.or_true]
  · obtain ⟨made, others, rest⟩ := s.modPort_logged p (fun x => { x with linkUp := true, fecLock := true }) 0x0601 [p, s.grpMode (p / 16)]
    exact ⟨_, execPortLinkUp_comes hp run present down enabled lanes, congrArg Port.linkUp made, congrArg Port.fecLock made, others, rest⟩
  · obtain ⟨made, others, rest⟩ := s.modPort_logged p (fun x => { x with linkUp := false, fecLock := false }) 0x0602 [p, cause]
    refine ⟨_, execPortLinkDown_goes hp run present cause up, congrArg Port.linkUp made, congrArg Port.fecLock made, others, ?_, ?_⟩
    · rw [rest]
    · rw [rest]
  · refine (execFrameReceive_passed hp run present up good (State.macsecIn_plain plain may)).trans (congrArg _ (if_neg ?_))
    simp [unaddressed, data]
  · obtain ⟨paused, others, rest⟩ := ReserveMoves.comp (.placeFrame _ ce digest) (.bump (p := p) s (dwPORT p + 0x300) 1)
    exact ⟨_, (execFrameReceive_passed hp run present up good (State.macsecIn_plain plain may)).trans (congrArg _ (if_pos ⟨short, known, .inl eapol⟩)), paused, others, rest⟩
  · obtain ⟨others, rest⟩ := ((s.bump (dwPORT p + 0x318) 1).bump (dwPORT p + 0x300) 1).modPort_rest p (fun x => { x with paused := if quanta = 0 then clearBit x.paused prio else setBit x.paused prio })
    refine ⟨_, (execPfcFrame_counts hp run present quanta up hprio).trans (congrArg _ (if_pos en)), ?_, fun k hk => ?_, others, rest⟩
    all_goals
      rw [State.modPort_self]
      dsimp only
      split
    · next zero => simp [testBit_clearBit, zero]
    · next some_ => simp [testBit_setBit, some_]
    · rw [testBit_clearBit, decide_eq_true hk.symm, Bool.and_true]
      rfl
    · rw [testBit_setBit, decide_eq_false hk.symm, Bool.or_false]
      rfl
  · refine ⟨_, execPfcPauseExpiry_resumes hp run present prio, ?_, s.modPort_rest p _⟩
    rw [State.modPort_self, testBit_clearBit, decide_eq_false (not_not.mpr rfl), Bool.and_false]
  · have drained : (s.drainHeld p prio).reg (dwPORT p + 0x0C) / 65536 = 0 := low
    obtain ⟨-, others, rest⟩ := ReserveMoves.comp (.sendPfc _) (.drainHeld (p := p) s prio)
    refine ⟨_, (execPfcPauseRefresh_sent hp run present sent).trans (congrArg _ (if_pos (by omega))), ?_, others, rest⟩
    exact s.drainHeld_xoff p prio
  · obtain ⟨made, others, rest⟩ := s.modPort_logged p (fun x => { x with storm := setBit x.storm prio }) 0x0603 [p, prio]
    refine ⟨_, execPfcStorm_marks hp run present limit paused fresh, ?_, others, rest⟩
    rw [made, testBit_setBit, decide_eq_true rfl, Bool.or_true]
  · refine ⟨_, execPfcStormClear_clears hp run present prio, ?_, s.modPort_rest p _⟩
    rw [State.modPort_self, testBit_clearBit, decide_eq_false (not_not.mpr rfl), Bool.and_false]
  · obtain ⟨y, within, increased⟩ := execDcqcnRateIncrease_found found
    refine ⟨_, increased, ?_, fun k hk => Cells.get_put_other _ _ _ hk, rfl⟩
    exact (congrArg Qp.rate (Cells.get_put_self _ _ _ _)).trans_le within
  · by_cases reached : s.pwr.phase = .held ∨ s.host.pcieUp = false
    · exact if_pos reached
    · refine (if_neg reached).trans (if_neg ?_)
      rintro ⟨service, bad⟩
      rcases off with held | down | mode | named
      · exact reached (.inl held)
      · exact reached (.inr down)
      · exact mode service
      · omega

end Sys2Proof.Machine

namespace Sys2Proof.Machine

/-! ## Addresses, MACsec and the saved configuration of host ports (R252, R271, R272, R274, R275) -/

/-- The connections of an address entry. -/
def State.entryConns (s : State) (port e : Nat) : List Nat := (s.host.conns.filter (fun x => x.port = port ∧ x.entry = e)).map (fun x => x.id)

section
variable {p : Path} {port e d : Nat} {v : Word} {s u : State} (hport : port < 64) (he : e < 16) (hd : d < 8)
  (r : s.reach p (dwPORT port + 0x100 + 32 * e + 4 * d) = .ok)
  (hu : u = s.setReg (dwPORT port + 0x100 + 32 * e + 4 * d) (v.toNat &&& rwMask (dwPORT port + 0x100 + 32 * e + 4 * d)))
include hport he hd r hu

/-- A dword of an entry that is valid neither before nor after. -/
theorem execAddressEntryWrite_plain (was : (s.reg (dwPORT port + 0x100 + 32 * e + 16)).testBit 8 = false) (now : (u.reg (dwPORT port + 0x100 + 32 * e + 16)).testBit 8 = false) :
    execAddressEntryWrite p port e d v s = .next u := by
  subst hu
  rw [execAddressEntryWrite, if_neg (by omega), if_neg (by omega)]
  dsimp only
  rw [winWrite_ok r]
  simp only [was, now, Bool.false_and, Bool.or_self, Bool.false_eq_true, if_false]

/-- An entry that is valid is announced. -/
theorem execAddressEntryWrite_valid (now : (u.reg (dwPORT port + 0x100 + 32 * e + 16)).testBit 8 = true) :
    execAddressEntryWrite p port e d v s = .next (u.discNotice u.allHosts) := by
  subst hu
  rw [execAddressEntryWrite, if_neg (by omega), if_neg (by omega)]
  dsimp only
  rw [winWrite_ok r]
  simp only [now, Bool.not_true, Bool.and_false, Bool.or_true, Bool.false_eq_true, if_false, if_true]

/-- An entry that is valid no longer loses its connections, and that is announced. -/
theorem execAddressEntryWrite_ended {w : State} (was : (s.reg (dwPORT port + 0x100 + 32 * e + 16)).testBit 8 = true) (now : (u.reg (dwPORT port + 0x100 + 32 * e + 16)).testBit 8 = false)
    (hw : w = u.each (u.entryConns port e) (fun s i => s.loseConn i 5)) : execAddressEntryWrite p port e d v s = .next (w.discNotice w.allHosts) := by
  subst hu hw
  rw [execAddressEntryWrite, if_neg (by omega), if_neg (by omega)]
  dsimp only
  rw [winWrite_ok r]
  simp only [was, now, Bool.not_false, Bool.and_self, Bool.true_or, if_true]
  rfl

end

/-! ### MACsec (R271, R272) -/

/-- A port whose MACsec starts afresh with the staged key. -/
def Port.keyed (x : Port) : Port :=
  { x with cak := wide x.stCak 0 8, ckn := wide x.stCak 8 8
           macsecUp := false, sakOn := false, newSa := false, oldOk := [], stopTx := false, txPn := 0, rxPn := [], rxStop := 0 }

theorem execMkaLoad_reached {p : Path} {port : Nat} {s : State} (hport : port < 64) (r : s.reach p (dwPORT port + 0x80) = .ok) :
    execMkaLoad p port s = .next (s.modPort port Port.keyed) := by
  rw [execMkaLoad, if_neg (by omega), winWrite_ok r]
  rfl

/-- A port whose idle associations have taken a distributed key. -/
def Port.distributed (x : Port) : Port :=
  let idle := if x.sakOn then 1 - x.txSa else x.txSa
  let keys := (List.range 8).map (fun c => 2 * c + idle)
  { x with macsecUp := true, sakOn := true, newSa := x.sakOn, oldOk := if x.sakOn then List.range 8 else []
           txPn := if x.sakOn then x.txPn else 1, stopTx := if x.sakOn then x.stopTx else false
           rxPn := keys.foldl (fun (m : Cells Nat) k => m.put zeroCell k 0) x.rxPn
           rxStop := keys.foldl clearBit x.rxStop }

section
variable {p : Nat} {s : State} (hp : p < 64)
include hp

/-- Without a limit or an association that still sends or receives, nothing stops. -/
theorem execPnExhausted_idle {ch : Nat} {tx lim : Bool} (idle : (s.port p).sakOn = false ∨ lim = false ∨ (tx = true ∧ (s.port p).newSa = true) ∨ (tx = false ∧ 8 ≤ ch)) :
    execPnExhausted p tx lim ch s = .next s := by
  refine onPort_idle hp ?_
  split
  · rfl
  next limited =>
    rw [not_or] at limited
    obtain ⟨on, atLimit⟩ := limited
    rcases idle with off | below | ⟨rfl, new⟩ | ⟨rfl, absent⟩
    · exact absurd off on
    · exact absurd below atLimit
    · rw [if_pos rfl, if_pos new]
    · rw [if_neg Bool.false_ne_true, if_pos absent]

theorem execSakDistribution_idle (idle : s.macPolicy p = 0 ∨ (s.port p).linkUp = false) : execSakDistribution p s = .next s := onPort_idle hp (if_pos idle)

theorem execMkaPeerTimeout_idle (may : s.macPolicy p ≠ 2) : execMkaPeerTimeout p s = .next s := onPort_idle hp (if_pos may)

variable (run : s.pwr.phase = .run) (present : s.portExists p = true)
include run present

theorem execSakDistribution_takes (policy : s.macPolicy p ≠ 0) (up : (s.port p).linkUp = true) : execSakDistribution p s = .next (s.modPort p Port.distributed) := by
  rw [execSakDistribution, onPort_present hp run present, if_neg (by simp [policy, up])]
  rfl

theorem execPnExhausted_transmitter (on : (s.port p).sakOn = true) (old : (s.port p).newSa = false) :
    execPnExhausted p true true 0 s = .next ((s.modPort p (fun x => { x with stopTx := true, txPn := s.pnLimit p })).log 0x0A21 [p, 0]) := by
  rw [execPnExhausted, onPort_present hp run present, if_neg (by simp [on]), if_pos rfl, if_neg (ne_true_of_eq_false old)]

theorem execPnExhausted_receiver {ch : Nat} (on : (s.port p).sakOn = true) (hch : ch < 8) :
    execPnExhausted p false true ch s = .next (s.modPort p (fun x => { x with rxStop := setBit x.rxStop (2 * ch + x.txSa) })) := by
  rw [execPnExhausted, onPort_present hp run present, if_neg (by simp [on]), if_neg Bool.false_ne_true, if_neg (by omega)]

theorem execMkaPeerTimeout_must (must : s.macPolicy p = 2) :
    execMkaPeerTimeout p s = .next ((s.modPort p (fun x => { x with macsecUp := false })).log 0x0A21 [p, 1]) :=
  (onPort_present hp run present).trans (congrArg _ (if_neg (not_not.mpr must)))

end

/-! ### The saved configuration (R275) -/

/-- The writable registers of the block. -/
def State.hostRegs (s : State) : Cells Nat := s.dw.regs.filter (fun e => isHostOff e.1 && rwMask e.1 ≠ 0)

/-- The staged fields of the block, in force. -/
def State.hostFields (s : State) : Cells Nat := s.dw.inForce.filter (fun e => isHostOff e.1)

theorem State.hostRegs_get {s : State} {o : Nat} (block : isHostOff o = true) (writable : rwMask o ≠ 0) : s.hostRegs.get rwReset o = s.reg o := by
  refine (Cells.get_filter rwReset s.dw.regs (fun o => isHostOff o && rwMask o ≠ 0) o).trans (if_pos ?_)
  rw [block, decide_eq_true writable, Bool.and_self]

theorem State.hostFields_get {s : State} {k : Nat} (block : isHostOff k = true) : s.hostFields.get stReset k = s.inf k :=
  (Cells.get_filter stReset s.dw.inForce isHostOff k).trans (if_pos block)

/-- The staged keys of the ports that have one. -/
def State.hostKeys (s : State) : List (Nat × Nat × Nat) := (s.host.ports.map (fun e => (e.1, wide e.2.stCak 0 8, wide e.2.stCak 8 8))).filter (fun e => e.2 ≠ (0, 0))

theorem execHostSave_reached {p : Path} {s : State} (r : s.reach p (dwXPORT + 0x10) = .ok) :
    execHostSave p s = .next { s with host.savedRegs := some (s.hostRegs, s.hostFields), host.savedKeys := s.hostKeys } := winWrite_ok r

/-- Settles O40: a dword of an entry is one register and what its validity brings; each event of MACsec is one change of its port; a save keeps what `State.hostRegs` and `State.hostFields` read. -/
theorem portAddressesKeysAndSavedSettings : Obligations.PortAddressesKeysAndSavedSettings := by
  unfold Obligations.PortAddressesKeysAndSavedSettings
  refine ⟨fun p port e d v s hport he hd flags r was => ?_, fun p port s hport r => ?_, fun p s hp run present policy up off => ?_, fun p s hp run present policy up on => ?_,
    fun p s hp run present on old => ?_, fun p ch s hp run present on hch => ?_, fun p s hp run present must => ?_, fun p s r => ?_,
    fun p port e d v s u hport he hd r hu now => execAddressEntryWrite_valid hport he hd r hu now,
    fun p port e d v s u w hport he hd r hu now was hw => execAddressEntryWrite_ended hport he hd r hu was now hw,
    fun p s hp idle => execSakDistribution_idle hp idle, fun p ch tx lim s hp idle => execPnExhausted_idle hp idle, fun p s hp may => execMkaPeerTimeout_idle hp may⟩
  · have now := s.setReg_other (dwPORT port + 0x100 + 32 * e + 4 * d) (dwPORT port + 0x100 + 32 * e + 16) (v.toNat &&& rwMask (dwPORT port + 0x100 + 32 * e + 4 * d)) (by omega)
    exact ⟨_, execAddressEntryWrite_plain hport he hd r rfl was (now ▸ was), s.setReg_self _ _, fun o ho => s.setReg_other _ o _ ho, rfl⟩
  · have made := s.modPort_self port Port.keyed
    exact ⟨_, execMkaLoad_reached hport r, congrArg Port.cak made, congrArg Port.ckn made, congrArg Port.sakOn made, congrArg Port.macsecUp made, s.modPort_rest port _⟩
  · obtain ⟨others, rest⟩ := s.modPort_rest p Port.distributed
    refine ⟨_, execSakDistribution_takes hp run present policy up, ?_, ?_, ?_, ?_, others, rest⟩
    all_goals simp [Port.distributed, off]
  · obtain ⟨-, rest⟩ := s.modPort_rest p Port.distributed
    refine ⟨_, execSakDistribution_takes hp run present policy up, ?_, ?_, ?_, rest⟩
    all_goals simp [Port.distributed, on]
  · obtain ⟨made, others, rest⟩ := s.modPort_logged p (fun x => { x with stopTx := true, txPn := s.pnLimit p }) 0x0A21 [p, 0]
    exact ⟨_, execPnExhausted_transmitter hp run present on old, congrArg Port.stopTx made, others, rest⟩
  · refine ⟨_, execPnExhausted_receiver hp run present on hch, ?_, s.modPort_rest p _⟩
    rw [State.modPort_self, testBit_setBit, decide_eq_true rfl, Bool.or_true]
  · obtain ⟨made, others, rest⟩ := s.modPort_logged p (fun x => { x with macsecUp := false }) 0x0A21 [p, 1]
    exact ⟨_, execMkaPeerTimeout_must hp run present must, congrArg Port.macsecUp made, others, rest⟩
  · exact ⟨_, _, _, execHostSave_reached r, rfl, fun o block writable => State.hostRegs_get block writable, fun k block => State.hostFields_get block, rfl⟩

end Sys2Proof.Machine

namespace Sys2Proof.Machine

/-! ## The management endpoint (R273, R439) -/

section
variable {s : State} {port : Nat}

theorem miRequest_heard (hears : s.miHears port = true) (f : State → State) : miRequest port s f = .next (f s) := if_pos hears

theorem miRequest_unheard (deaf : s.miHears port = false) (f : State → State) : miRequest port s f = .next s := if_neg (ne_true_of_eq_false deaf)

theorem length_overlay (base : List Byte) (fs : List (Nat × Nat × Nat)) : (overlay base fs).length = base.length := List.length_mapIdx

/-- `t` follows from `s` by an answer of `n` bytes with status Success, some of which may be free: nothing else moved. -/
def State.MiAnswers (s : State) (n : Nat) (t : State) : Prop :=
  t.host.miOut.1 = 0 ∧ t.host.miOut.2.length = n ∧ t = { s with host := { s.host with miOut := t.host.miOut }, free := t.free }

theorem State.miOpen_answers (s : State) (n : Nat) (fs : List (Nat × Nat × Nat)) : s.MiAnswers n (s.miOpen n fs) :=
  ⟨rfl, (length_overlay _ _).trans (length_toLe _ _), rfl⟩

theorem State.took_miOpen_answers (s : State) (n : Nat) (fs : List (Nat × Nat × Nat)) : s.MiAnswers n (s.took.miOpen n fs) := s.took.miOpen_answers n fs

theorem length_miEntry (s : State) (id f : Nat) : (s.miEntry id f).length = 16 := (length_overlay _ _).trans (length_toLe _ _)

/-- One entry of a controller health poll is added to the answer. -/
def State.miPoll (t : State) (id : Nat) : State := t.took.miSay 0 (t.host.miOut.2 ++ t.miEntry id t.freeVal)

theorem State.miPolls_answer {n : Nat} {t : State} (l : List Nat) (h : s.MiAnswers n t) : s.MiAnswers (n + 16 * l.length) (l.foldl State.miPoll t) := by
  induction l generalizing n t with
  | nil => exact h
  | cons id l ih =>
    have step : s.MiAnswers (n + 16) (t.miPoll id) := by
      obtain ⟨-, length, rest⟩ := h
      refine ⟨rfl, ?_, ?_⟩
      · exact List.length_append.trans (by rw [length, length_miEntry])
      · rw [rest]
        rfl
    have := ih step
    rwa [List.length_cons, Nat.mul_add, Nat.mul_one, Nat.add_comm (16 * _) 16, ← Nat.add_assoc]

theorem execControllerHealthStatusPoll_answers (start : Nat) (hears : s.miHears port = true) :
    ∃ t, execControllerHealthStatusPoll port start s = .next t ∧ s.MiAnswers (16 * min 255 (s.miCtrls start).length) t := by
  have polled := State.miPolls_answer (s := s) (n := 0) (t := s.miSay 0 []) ((s.miCtrls start).take 255) ⟨rfl, rfl, rfl⟩
  rw [Nat.zero_add, List.length_take] at polled
  exact ⟨_, miRequest_heard hears _, polled⟩

theorem execNvmSubsystemHealthStatusPoll_answers (clear : Bool) (hears : s.miHears port = true) :
    ∃ t, execNvmSubsystemHealthStatusPoll port clear s = .next t ∧ s.MiAnswers 8 t := ⟨_, miRequest_heard hears _, s.took_miOpen_answers 8 _⟩

/-! ### Data structures and the configuration -/

theorem execReadNvmeMiDataStructure_open {dtype ident : Nat} (hears : s.miHears port = true)
    (known : dtype = 0 ∨ (dtype = 1 ∧ ident < 2) ∨ (dtype = 3 ∧ (s.ctrl ident).exist = true) ∨ dtype = 4) :
    ∃ fs, execReadNvmeMiDataStructure port dtype ident s = .next (s.miOpen (if dtype = 4 then 4096 else 32) fs) := by
  rw [execReadNvmeMiDataStructure, miRequest_heard hears]
  rcases known with rfl | ⟨rfl, one⟩ | ⟨rfl, exist⟩ | rfl
  · exact ⟨_, rfl⟩
  · obtain rfl | rfl : ident = 0 ∨ ident = 1 := by omega
    · exact ⟨_, rfl⟩
    · exact ⟨_, rfl⟩
  · exact ⟨[], by simp [exist]⟩
  · exact ⟨_, rfl⟩

theorem execReadNvmeMiDataStructure_controllers (ident : Nat) (hears : s.miHears port = true) : execReadNvmeMiDataStructure port 2 ident s =
    .next (s.miSay 0 (toLe 2 (s.miCtrls ident).length ++ ((s.miCtrls ident).take 2047).flatMap (toLe 2))) := miRequest_heard hears _

theorem execReadNvmeMiDataStructure_invalid {dtype ident : Nat} (hears : s.miHears port = true)
    (unknown : (dtype = 1 ∧ 2 ≤ ident) ∨ (dtype = 3 ∧ (s.ctrl ident).exist = false) ∨ 4 < dtype) :
    execReadNvmeMiDataStructure port dtype ident s = .next (s.miSay miInvalid []) := by
  have absent : ¬(dtype = 3 ∧ (s.ctrl ident).exist = true) := by
    rintro ⟨three, exist⟩
    rcases unknown with ⟨one, -⟩ | ⟨-, gone⟩ | large
    · omega
    · exact ne_true_of_eq_false gone exist
    · omega
  rw [execReadNvmeMiDataStructure, miRequest_heard hears, if_neg (by omega), if_neg (by omega), if_neg (by omega), if_neg (by omega), if_neg absent, if_neg (by omega)]

theorem execConfigurationGet_known (hears : s.miHears port = true) :
    execConfigurationGet port 1 s = .next (s.miSay 0 (toLe 3 s.host.smbusHz)) ∧ execConfigurationGet port 3 s = .next (s.miSay 0 (toLe 3 s.host.mctpMtu)) :=
  ⟨miRequest_heard hears _, miRequest_heard hears _⟩

theorem execConfigurationGet_unknown {id : Nat} (hears : s.miHears port = true) (h1 : id ≠ 1) (h3 : id ≠ 3) :
    execConfigurationGet port id s = .next (s.miSay miInvalid []) := by
  rw [execConfigurationGet, miRequest_heard hears, if_neg h1, if_neg h3]

theorem execConfigurationSet_frequency {v : Nat} (hears : s.miHears port = true) (named : v = 1 ∨ v = 2) :
    execConfigurationSet port 1 v s = .next (({ s with host.smbusHz := v } : State).miSay 0 []) := by
  rw [execConfigurationSet, miRequest_heard hears, if_pos ⟨rfl, named⟩]

theorem execConfigurationSet_unit (hears : s.miHears port = true) :
    execConfigurationSet port 3 64 s = .next (({ s with host.mctpMtu := 64 } : State).miSay 0 []) := miRequest_heard hears _

theorem execConfigurationSet_invalid {id v : Nat} (hears : s.miHears port = true) (frequency : ¬(id = 1 ∧ (v = 1 ∨ v = 2))) (unit : ¬(id = 3 ∧ v = 64)) :
    execConfigurationSet port id v s = .next (s.miSay miInvalid []) := by
  rw [execConfigurationSet, miRequest_heard hears, if_neg frequency, if_neg unit]

theorem execBasicManagementCommand_status (hears : s.miHears 0 = true) : ∃ t, execBasicManagementCommand 0 s = .next t ∧ s.MiAnswers 8 t :=
  ⟨_, miRequest_heard hears _, s.took_miOpen_answers 8 _⟩

theorem execBasicManagementCommand_identity (hears : s.miHears 0 = true) : ∃ t, execBasicManagementCommand 8 s = .next t ∧ s.MiAnswers 24 t :=
  ⟨_, miRequest_heard hears _, s.miOpen_answers 24 _⟩

theorem execBasicManagementCommand_invalid {code : Nat} (hears : s.miHears 0 = true) (h0 : code ≠ 0) (h8 : code ≠ 8) :
    execBasicManagementCommand code s = .next (s.miSay miInvalid []) := by
  rw [execBasicManagementCommand, miRequest_heard hears, if_neg h0, if_neg h8]

end

theorem State.accepts_exist {s : State} {c : Cmd} (taken : s.accepts c = true) : (s.ctrl c.id.ctrl).exist = true := by
  simp only [State.accepts, Bool.and_eq_true] at taken
  obtain ⟨⟨-, exist⟩, -⟩ := taken
  exact exist

/-! ### The tunnel: each carried command by its opcode and its action -/

theorem miCommit_action (c : Cmd) (s : State) (ca : Nat) (i : Instr)
    (hi : (ca, i) ∈ [(0, Instr.replace c), (1, .replaceActivateNext c), (2, .activateNext c), (3, .replaceActivateNow c)]) (action : field (dw10 c) 5 3 = ca) : miCommit c s = exec i s := by
  simp only [List.mem_cons, Prod.mk.injEq, List.not_mem_nil, or_false] at hi
  rw [miCommit, action]
  rcases hi with ⟨rfl, rfl⟩ | ⟨rfl, rfl⟩ | ⟨rfl, rfl⟩ | ⟨rfl, rfl⟩
  all_goals rfl

theorem miService_action (c : Cmd) (s : State) (a : Nat) (i : Instr)
    (hi : (a, i) ∈ [(0, Instr.drain c), (1, .undrain c), (2, .seqUpdate c), (3, .powerOff c), (4, .powerOn c), (5, .release c)]) (action : field (dw10 c) 11 8 = a) : miService c s = exec i s := by
  simp only [List.mem_cons, Prod.mk.injEq, List.not_mem_nil, or_false] at hi
  rw [miService, action]
  rcases hi with ⟨rfl, rfl⟩ | ⟨rfl, rfl⟩ | ⟨rfl, rfl⟩ | ⟨rfl, rfl⟩ | ⟨rfl, rfl⟩ | ⟨rfl, rfl⟩
  all_goals rfl

theorem miOwner_action (c : Cmd) (s : State) :
    (dw10 c % 16 = 0 → miOwner c s = exec (.nonce c) s) ∧ (dw10 c % 16 = 1 → miOwner c s = exec (.clear c (s.freeVal % 2 = 0)) s.took) ∧
    (dw10 c % 16 = 2 → miOwner c s = exec (.ownerSet c (s.freeVal % 2 = 0) (s.freeVal / 2 % 2 = 0)) s.took) := by
  refine ⟨fun action => ?_, fun action => ?_, fun action => ?_⟩
  all_goals
    rw [miOwner, action]
    rfl

section
variable {s : State} {port : Nat} {c : Cmd} (hears : s.miHears port = true)
include hears

theorem execNvmeAdminCommandTunnel_invalid (op : Nat) (bad : 4152 < c.buf.length ∨ (s.ctrl c.id.ctrl).exist = false) :
    execNvmeAdminCommandTunnel port op c s = .next (s.miSay miInvalid []) :=
  (if_neg (ne_false_of_eq_true hears)).trans (if_pos bad)

variable (short : c.buf.length ≤ 4152) (exist : (s.ctrl c.id.ctrl).exist = true)
include short exist

/-- Where the endpoint takes a tunnelled command, its opcode says which command it is. -/
theorem execNvmeAdminCommandTunnel_carries :
    execNvmeAdminCommandTunnel port 0x02 c s = execGetLogPage { c with viaMI := true } s ∧ execNvmeAdminCommandTunnel port 0x06 c s = execIdentify { c with viaMI := true } s ∧
    execNvmeAdminCommandTunnel port 0x09 c s = execSetFeatures { c with viaMI := true } s ∧ execNvmeAdminCommandTunnel port 0x0A c s = execGetFeatures { c with viaMI := true } s ∧
    execNvmeAdminCommandTunnel port 0x11 c s = execFirmwareImageDownload { c with viaMI := true } s ∧ execNvmeAdminCommandTunnel port 0xC8 c s = execGuestbookRead { c with viaMI := true } s ∧
    execNvmeAdminCommandTunnel port 0xD0 c s = execDeviceWindowAccess { c with viaMI := true } s ∧ execNvmeAdminCommandTunnel port 0x10 c s = miCommit { c with viaMI := true } s ∧
    execNvmeAdminCommandTunnel port 0xC4 c s = miService { c with viaMI := true } s ∧ execNvmeAdminCommandTunnel port 0xC9 c s = miOwner { c with viaMI := true } s := by
  have taken : ¬(c.buf.length > 4152 ∨ (s.ctrl c.id.ctrl).exist = false) := not_or.mpr ⟨Nat.not_lt.mpr short, ne_false_of_eq_true exist⟩
  refine ⟨?_, ?_, ?_, ?_, ?_, ?_, ?_, ?_, ?_, ?_⟩
  all_goals exact (if_neg (ne_false_of_eq_true hears)).trans (if_neg taken)

theorem execNvmeAdminCommandTunnel_other {op : Nat} (other : op ∉ [0x02, 0x06, 0x09, 0x0A, 0x10, 0x11, 0xC4, 0xC8, 0xC9, 0xD0]) :
    execNvmeAdminCommandTunnel port op c s = .next (s.refuse c .invalidOpcode) := by
  have taken : ¬(c.buf.length > 4152 ∨ (s.ctrl c.id.ctrl).exist = false) := not_or.mpr ⟨Nat.not_lt.mpr short, ne_false_of_eq_true exist⟩
  simp only [List.mem_cons, List.not_mem_nil, or_false, not_or] at other
  refine (if_neg (ne_false_of_eq_true hears)).trans ((if_neg taken).trans ?_)
  split
  case h_11 => rfl
  all_goals omega

end

/-- Settles O52: a heard request is answered in `miOut` (`State.MiAnswers`); a tunnelled command is dispatched by opcode and action (`execNvmeAdminCommandTunnel_carries`). -/
theorem managementEndpointAnswers : Obligations.ManagementEndpointAnswers := by
  unfold Obligations.ManagementEndpointAnswers
  refine ⟨fun port ident s hears => ⟨_, execReadNvmeMiDataStructure_controllers ident hears, rfl, rfl⟩, fun port ident dtype s hears known => ?_,
    fun port clear s hears => execNvmSubsystemHealthStatusPoll_answers clear hears, fun port start s hears => execControllerHealthStatusPoll_answers start hears,
    fun port s hears => execConfigurationGet_known hears, fun port v s hears named => ⟨_, execConfigurationSet_frequency hears named, rfl, rfl, rfl⟩,
    fun port v s hears => ⟨execConfigurationSet_unit hears, fun h1 h2 => execConfigurationSet_invalid hears (by omega) (by omega), fun h64 => execConfigurationSet_invalid hears (by omega) (by omega),
      fun h1 h3 => ⟨execConfigurationGet_unknown hears h1 h3, fun w => execConfigurationSet_invalid hears (by omega) (by omega)⟩⟩,
    fun port dtype ident s hears unknown => execReadNvmeMiDataStructure_invalid hears unknown, fun port c s hears short exist => ?_,
    fun port c s hears short ready lid kind => ?_, fun port op c s hears short exist other => ?_, fun port op c s hears bad => execNvmeAdminCommandTunnel_invalid hears op bad,
    fun s hears => execBasicManagementCommand_status hears, fun code s hears h0 => ?_, fun port a b op cl c i s deaf hi => ?_, fun code s deaf => (miRequest_unheard deaf _ : execBasicManagementCommand code s = _)⟩
  · obtain ⟨fs, answered⟩ := execReadNvmeMiDataStructure_open hears known
    exact ⟨_, answered, s.miOpen_answers _ fs⟩
  · obtain ⟨logPage, identify, setFeatures, getFeatures, download, guestbook, window, commit, service, owner⟩ := execNvmeAdminCommandTunnel_carries hears short exist
    obtain ⟨nonce, clear, ownerSet⟩ := miOwner_action { c with viaMI := true } s
    exact ⟨logPage, identify, setFeatures, getFeatures, download, guestbook, window, fun ca i hi action => commit.trans (miCommit_action _ s ca i hi action),
      fun a i hi action => service.trans (miService_action _ s a i hi action), fun action => owner.trans (nonce action), fun action => ⟨_, owner.trans (clear action)⟩,
      fun action => ⟨_, _, owner.trans (ownerSet action)⟩⟩
  · have exist : (s.ctrl c.id.ctrl).exist = true := State.accepts_exist (c := { c with viaMI := true }) (readyFor_accepts ready)
    have page : s.standardPage { c with viaMI := true } (dw10 c % 256) = s.fwPage { c with viaMI := true } := by
      rw [lid]
      exact State.standardPage_firmware kind
    refine ⟨_, (execNvmeAdminCommandTunnel_carries hears short exist).1.trans ((execGetLogPage_standard ready (.inl ?_)).trans (congrArg _ page)), State.page_lastAnswer .., rfl⟩
    exact lid ▸ (by decide : 3 < 0xC0)
  · exact ⟨_, execNvmeAdminCommandTunnel_other hears short exist other, refuse_answers s c .invalidOpcode⟩
  · by_cases h8 : code = 8
    · subst h8
      obtain ⟨t, answered, status, length, rest⟩ := execBasicManagementCommand_identity hears
      exact ⟨t, answered, length, status, rest⟩
    · refine ⟨_, execBasicManagementCommand_invalid hears h0 h8, ?_, ?_, rfl⟩ <;> rw [if_neg h8] <;> rfl
  · simp only [List.mem_cons, List.not_mem_nil, or_false] at hi
    rcases hi with rfl | rfl | rfl | rfl | rfl | rfl
    · exact (miRequest_unheard deaf _ : execReadNvmeMiDataStructure port a b s = _)
    · exact (miRequest_unheard deaf _ : execNvmSubsystemHealthStatusPoll port cl s = _)
    · exact (miRequest_unheard deaf _ : execControllerHealthStatusPoll port a s = _)
    · exact (miRequest_unheard deaf _ : execConfigurationGet port a s = _)
    · exact (miRequest_unheard deaf _ : execConfigurationSet port a b s = _)
    · exact (if_pos deaf : execNvmeAdminCommandTunnel port op c s = _)

end Sys2Proof.Machine
